-- ==== Sys2Proof/Word.lean ====
section
/-! DEFINITION. The word types of the Z3200 model. -/

namespace Sys2Proof

/-- One byte of a message, an image or an NVM codeword. -/
abbrev Byte := BitVec 8

/-- One 32-bit register or configuration word (R320, R347). -/
abbrev Word := BitVec 32

end Sys2Proof
end

