-- ==== Sys2Proof/Machine/Bits.lean ====
section
/-! DEFINITION. Bit fields, byte order, saturation, the two CRCs and list access: the helpers every block uses (R8, R11, R14, R315, R328). -/

namespace Sys2Proof.Machine

/-- Bits [hi:lo] of a number, as the field maps write them. -/
def bits (w : Nat) (hi lo : Nat) : Nat := (w >>> lo) % 2 ^ (hi + 1 - lo)

/-- Field [hi:lo] of a 32-bit word. -/
def fld (w : Word) (hi lo : Nat) : Nat := bits w.toNat hi lo

/-- Bit n of a 32-bit word as a flag. -/
def bit (w : Word) (n : Nat) : Bool := w.toNat.testBit n

/-- Two's-complement reading of the low n bits of a number (R14's sN). -/
def sext (n : Nat) (w : Nat) : Int :=
  let m := w % 2 ^ n
  if 2 ^ (n - 1) ≤ m then (m : Int) - 2 ^ n else m

/-- Signed field [hi:lo] of a word. -/
def sfld (w : Word) (hi lo : Nat) : Int := sext (hi + 1 - lo) (fld w hi lo)

/-- The low n bits of an integer as a natural number. -/
def wrap (n : Nat) (x : Int) : Nat := (x % (2 ^ n : Int)).toNat

/-- R14: clamp(x, lo, hi). -/
def clampI (x lo hi : Int) : Int := if x < lo then lo else if hi < x then hi else x

/-- R14: clamp on naturals. -/
def clampN (x lo hi : Nat) : Nat := if x < lo then lo else if hi < x then hi else x

/-- R14: satN(x), the range of an sN value. -/
def satS (n : Nat) (x : Int) : Int := clampI x (-(2 ^ (n - 1) : Int)) ((2 ^ (n - 1) : Int) - 1)

/-- R14: usatN(x). -/
def satU (n : Nat) (x : Int) : Nat := (clampI x 0 ((2 ^ n : Int) - 1)).toNat

/-- Saturating increment of an n-bit counter. -/
def incSat (n : Nat) (x : Nat) : Nat := if x + 1 < 2 ^ n then x + 1 else 2 ^ n - 1

/-- A flag as a number. -/
def b2n (b : Bool) : Nat := if b then 1 else 0

/-- Place a value at bit lo. -/
def at' (v lo : Nat) : Nat := v <<< lo

/-- A 32-bit word from a natural number. -/
def w32 (n : Nat) : Word := BitVec.ofNat 32 n

/-- A 32-bit word from an integer, two's complement. -/
def wInt (x : Int) : Word := BitVec.ofInt 32 x

/-- Bytes of a number, least significant first (R8). -/
def le (n : Nat) (w : Nat) : List Byte :=
  match n with
  | 0 => []
  | k + 1 => BitVec.ofNat 8 w :: le k (w / 256)

/-- A number from its bytes, least significant first (R8). -/
def unle : List Byte → Nat
  | [] => 0
  | b :: bs => b.toNat + 256 * unle bs

def le8 (w : Nat) : List Byte := le 1 w
def le16 (w : Nat) : List Byte := le 2 w
def le32 (w : Nat) : List Byte := le 4 w
def leW (w : Word) : List Byte := le 4 w.toNat
def leI32 (x : Int) : List Byte := le 4 (wrap 32 x)

/-- k zero bytes (R340's pad and reserved fields). -/
def zeros (k : Nat) : List Byte := List.replicate k 0

/-- Bytes [o, o + n) of a byte string, zero past its end. -/
def slice (bs : List Byte) (o n : Nat) : List Byte :=
  let t := (bs.drop o).take n
  t ++ zeros (n - t.length)

/-- Little-endian field of n bytes at offset o. -/
def getLe (bs : List Byte) (o n : Nat) : Nat := unle (slice bs o n)

def getB (bs : List Byte) (o : Nat) : Nat := getLe bs o 1
def getH (bs : List Byte) (o : Nat) : Nat := getLe bs o 2
def getW (bs : List Byte) (o : Nat) : Nat := getLe bs o 4

/-- n words of a byte string from offset o. -/
def getWords (bs : List Byte) (o : Nat) : Nat → List Word
  | 0 => []
  | k + 1 => w32 (getW bs o) :: getWords bs (o + 4) k

/-- Words as bytes. -/
def wordsBytes (ws : List Word) : List Byte := ws.flatMap leW

/-- Replace the bytes from offset o on by bs' (the string keeps its length when bs' fits). -/
def splice (bs : List Byte) (o : Nat) (new : List Byte) : List Byte :=
  bs.take o ++ new ++ bs.drop (o + new.length)

/-- Element i of a list with a default. -/
def nth {α : Type} [Inhabited α] (l : List α) (i : Nat) : α := l.getD i default

/-- Update element i of a list by a function; nothing past its end. -/
def upd {α : Type} (l : List α) (i : Nat) (f : α → α) : List α := l.modify i f

/-- One step of CRC-16, polynomial 0x1021, most significant bit first (R315). -/
def crc16Bits : Nat → Nat → Nat
  | 0, c => c
  | k + 1, c =>
    let d := (c * 2) % 65536
    crc16Bits k (if 32768 ≤ c then d ^^^ 0x1021 else d)

def crc16Byte (c : Nat) (b : Byte) : Nat := crc16Bits 8 (c ^^^ (b.toNat * 256))

/-- R315 (also R275, R296): CRC-16 with initial value 0xFFFF. -/
def crc16 (bs : List Byte) : Nat := bs.foldl crc16Byte 0xFFFF

/-- One step of the reflected CRC-32C (R328). -/
def crc32Bits : Nat → Nat → Nat
  | 0, c => c
  | k + 1, c => crc32Bits k (if c % 2 = 1 then (c / 2) ^^^ 0x82F63B78 else c / 2)

def crc32Byte (c : Nat) (b : Byte) : Nat := crc32Bits 8 (c ^^^ b.toNat)

/-- R328: CRC-32C, Castagnoli polynomial reflected, initial and final 0xFFFF_FFFF. -/
def crc32c (bs : List Byte) : Nat := (bs.foldl crc32Byte 0xFFFFFFFF) ^^^ 0xFFFFFFFF

/-- R10: is MC b later than MC a. -/
def laterMC (a b : Word) : Bool := 0 < (b - a).toInt

/-- R10: MC elapsed from a to b as a signed difference. -/
def mcDiff (a b : Word) : Int := (b - a).toInt

/-- Round half to even of num / den (R530's rne), den positive. -/
def rne (num : Int) (den : Nat) : Int :=
  let q := num.fdiv den
  let r := num - q * den
  if 2 * r < den then q
  else if (den : Int) < 2 * r then q + 1
  else if q % 2 = 0 then q else q + 1

/-- Round half away from zero of num / den, den positive. -/
def roundHalfAway (num : Int) (den : Nat) : Int :=
  if 0 ≤ num then (2 * num + den).fdiv (2 * den) else -((-2 * num + den).fdiv (2 * den))

/-- Indices 0 .. n-1 at which a predicate holds. -/
def idx (n : Nat) (p : Nat → Bool) : List Nat := (List.range n).filter p

/-- A mask with a bit for each index at which a predicate holds. -/
def maskOf (n : Nat) (p : Nat → Bool) : Nat :=
  (List.range n).foldl (fun a i => if p i then a + 2 ^ i else a) 0

/-- Merge: bits of mask from new, the others from old. -/
def merge (mask old new : Word) : Word := (new &&& mask) ||| (old &&& ~~~mask)

/-- A mask word with bits hi..lo set. -/
def bmask (hi lo : Nat) : Nat := 2 ^ (hi + 1) - 2 ^ lo

end Sys2Proof.Machine
end

