-- ==== Sys2Proof/Machine/StateBus.lean ====
section
/-! DEFINITION. State of the building bus: ports, BACnet objects, subscriptions, trends and files (12, R369-R391). -/

namespace Sys2Proof.Machine

/-- R375: the object types of the device; any other type number is not held. -/
inductive ObjType where
  | device | ai | av | bv | msv | schedule | trendLog | notifClass | file
  | other (n : Nat)
deriving DecidableEq, Repr, Inhabited

/-- A BACnet object identifier. -/
structure ObjId where
  typ : ObjType := .device
  inst : Nat := 0
deriving DecidableEq, Repr, Inhabited

/-- The properties this spec names (R375-R380, R384); any other is unknown to it. -/
inductive PropId where
  | objectIdentifier | objectName | objectType | presentValue | statusFlags | eventState | reliability
  | outOfService | units | covIncrement
  | weeklySchedule | exceptionSchedule | effectivePeriod | scheduleDefault | listOfObjectPropertyReferences
  | signalId | provisionalSetpoint | updateStatus | logInterval | enable | stopWhenFull | bufferSize
  | logBuffer | recordCount | totalRecordCount
  | priority | ackRequired | recipientList
  | alarmValue | timeDelay | eventEnable | ackedTransitions | eventTimeStamps | notificationClass | notifyType
  | vendorName | vendorIdentifier | modelName | firmwareRevision | applicationSoftwareVersion
  | protocolVersion | protocolRevision | maxApduLengthAccepted | segmentationSupported | maxSegmentsAccepted
  | apduTimeout | numberOfApduRetries | apduSegmentTimeout | databaseRevision | systemStatus
  | localDate | localTime | utcOffset | daylightSavingsStatus | maxMaster | maxInfoFrames | objectList
  | numberOfStates | fileSize | fileAccessMethod | readOnly
  | other (n : Nat)
deriving DecidableEq, Repr, Inhabited

/-- A recipient of a Notification Class (R373 `NC_RCP`). -/
structure Recipient where
  confirmed : Bool := false
  trans : Nat := 0
  procId : Nat := 0
  /-- The recipient is a Device object of this instance; none for any other recipient form (R382). -/
  device : Option Nat := none
deriving DecidableEq, Repr, Inhabited

/-- A time and value of a Weekly_Schedule day (R378). -/
structure TimeValue where
  hour : Nat := 0
  minute : Nat := 0
  second : Nat := 0
  hundredth : Nat := 0
  value : Nat := 0
deriving DecidableEq, Repr, Inhabited

/-- A decoded BACnet value. A REAL is its 32-bit pattern. -/
inductive BVal where
  | null
  | real (bits : Word)
  | unsigned (n : Nat)
  | bool (b : Bool)
  | enumerated (n : Nat)
  | text (s : List Byte)
  | bitString (b : List Bool)
  | objId (o : ObjId)
  | date (year month day weekday : Nat)
  | time (hour minute second hundredth : Nat)
  | int (x : Int)
  | schedule (days : List (List TimeValue))
  | recipients (r : List Recipient)
  | priorities (off flt nrm : Nat)
  | list (l : List Nat)
  | objects (l : List ObjId)
  /-- A value this spec does not name, as encoded bytes. -/
  | encoded (b : List Byte)
deriving DecidableEq, Repr, Inhabited

/-- Error classes and codes the spec names (R377, R378, R381-R388). -/
inductive BErr where
  | unknownObject | unknownProperty | valueOutOfRange | writeAccessDenied | deviceBusy | operationalProblem
  | noSpaceToAddListElement | passwordFailure | optionalFunctionalityNotSupported
  | invalidFileStartPosition | invalidFileAccessMethod | fileAccessDenied | readAccessDenied | notCovProperty
  | noAlarmConfigured | invalidDataType
deriving DecidableEq, Repr, Inhabited

/-- The result for one property of a multiple read. -/
inductive BRes where
  | val (v : BVal)
  | err (e : BErr)
deriving DecidableEq, Repr, Inhabited

/-- R371: where a broadcast of the device goes: onto its own network, or to the BBMD as Distribute-Broadcast-To-Network. -/
inductive Bcast where
  | localNet
  | distribute (addr port : Nat)
deriving DecidableEq, Repr, Inhabited

/-- R371: a foreign-device registration request as sent: the BBMD's address and port, the time-to-live in s, and the local MC at which it left. -/
structure FdRequest where
  addr : Nat := 0
  port : Nat := 0
  ttl : Nat := 0
  mc : Word := 0
deriving DecidableEq, Repr, Inhabited

/-- What the device answered to a request. -/
inductive BReply where
  | simpleAck
  | value (v : BVal)
  | values (l : List (ObjId × PropId × BRes))
  | error (e : BErr)
  | writeError (o : ObjId) (p : PropId) (e : BErr)
  | rejectUnrecognized
  | iAm (inst : Nat) (maxApdu : Nat) (vendor : Nat) (dst : Bcast)
  | iHave (o : ObjId) (dst : Bcast)
  | records (l : List (Nat × Word))
  | fileData (start : Nat) (eof : Bool) (bytes : List Byte)
  | fileAck (start : Nat)
  | events (l : List (ObjId × Nat × Nat))
  | bvlcNak
  | replyPostponed
deriving DecidableEq, Repr, Inhabited

/-- A COV subscription (R382). -/
structure CovSub where
  obj : ObjId := {}
  client : Nat := 0
  procId : Nat := 0
  confirmed : Bool := false
  /-- Lifetime in s; 0 is indefinite. -/
  lifetime : Nat := 0
  /-- The value and Status_Flags last notified. -/
  lastVal : Word := 0
  lastFlags : Nat := 0
  /-- A first notification is owed. -/
  due : Bool := true
deriving DecidableEq, Repr, Inhabited

/-- A notification the device sends (R383, R384). -/
structure Notif where
  /-- Subscription's client, or recipient device. -/
  client : Nat := 0
  obj : ObjId := {}
  confirmed : Bool := false
  value : Word := 0
  flags : Nat := 0
  /-- An event notification rather than COV; its transition: 0 to-offnormal, 2 to-normal. -/
  event : Option Nat := none
deriving DecidableEq, Repr, Inhabited

/-- One port (R369, R389, R390). -/
structure Port where
  linkUp : Bool := false
  soleMaster : Bool := false
  /-- Frames held in the receive buffer that await an answer, and transmit buffers in use. -/
  rx : Nat := 0
  tx : Nat := 0
  /-- R372: confirmed requests taken from the receive buffer, their transmit buffer reserved, and not yet executed. -/
  taken : Nat := 0
  rxFrames : Nat := 0
  txFrames : Nat := 0
  rxDrop : Nat := 0
  rxErr : Nat := 0
  tokenLost : Nat := 0
  covSent : Nat := 0
  notifFail : Nat := 0
  acreRx : Nat := 0
  /-- R391: local MC of the last `RX_DROP`. -/
  lastDropMc : Option Word := none
deriving DecidableEq, Repr, Inhabited

/-- One intrinsically reporting Binary Value, 32-67 (R384). -/
structure AlarmObj where
  active : Bool := false
  /-- Acked_Transitions: to-offnormal, to-fault, to-normal. -/
  acked : List Bool := [true, true, true]
  /-- Event_Time_Stamps, as calendar words. -/
  stamps : List Word := [0xFFFFFFFF, 0xFFFFFFFF, 0xFFFFFFFF]
  /-- R491: the one pending state: its transition, with each recipient, 0-3 of the class, that is still to be notified of it. -/
  due : List (Nat × Nat) := []
deriving DecidableEq, Repr, Inhabited

/-- A Trend Log (R373, R380, R382): records newest last, at most 1,024. -/
structure Trend where
  recs : List (Word × Word) := []
  total : Nat := 0
deriving DecidableEq, Repr, Inhabited

/-- A file write in progress (R387). -/
structure FileObj where
  file : Nat := 0
  /-- Bytes received so far. -/
  next : Nat := 0
  /-- Bytes not yet passed on, and the chunk number that comes next. -/
  held : List Byte := []
  chunk : Nat := 0
  /-- The length that the container's header states. -/
  total : Option Nat := none
  /-- R331, R387: local MC of the last write. -/
  mc : Word := 0
deriving DecidableEq, Repr, Inhabited

/-- R385, R389: DeviceCommunicationControl state. -/
inductive Dcc where
  | enabled | disableInitiation | disabled
deriving DecidableEq, Repr, Inhabited

def Dcc.code : Dcc → Nat
  | .enabled => 0 | .disableInitiation => 1 | .disabled => 2

/-- What arrives in a frame (R369-R372, R390). On BACnet/IP the NPDU of a request or an answer comes in an Original-Unicast-NPDU, an Original-Broadcast-NPDU or a Forwarded-NPDU (R371). -/
inductive FrameKind where
  /-- Framing, CRC or BVLC error. -/
  | bad
  /-- A confirmed BACnet request. -/
  | confirmed
  /-- The answer to confirmed notification i of those outstanding. -/
  | ack (i : Nat)
  /-- Another accepted frame. -/
  | other
  /-- A well-formed frame of another BVLC function, which the device does not accept (R371). -/
  | notAccepted
deriving DecidableEq, Repr, Inhabited

/-- R381 ReadRange: which records. -/
inductive RangeBy where
  | all
  | position (first : Nat) (count : Int)
  | sequence (first : Nat) (count : Int)
  | time (t : Word) (count : Int)
deriving DecidableEq, Repr, Inhabited

/-- One property to write. -/
structure PropWrite where
  obj : ObjId := {}
  prop : PropId := .presentValue
  val : BVal := .null
deriving DecidableEq, Repr, Inhabited

/-- A confirmed request as decoded (R372, R381-R388), with its operands. -/
inductive BusRequest where
  | readProp (o : ObjId) (p : PropId)
  | readMulti (l : List (ObjId × PropId))
  | readRange (o : ObjId) (by_ : RangeBy)
  | writes (multi : Bool) (l : List PropWrite)
  | subscribe (client procId : Nat) (o : ObjId) (confirmed : Option Bool) (lifetime : Nat)
  | ackAlarm (o : ObjId) (tr : Nat)
  | eventInfo
  | writeFile (file start : Nat) (stream : Bool) (data : List Byte)
  | readFile (file start : Nat) (stream : Bool) (count : Nat)
  | commControl (n : Nat) (pass : List Byte)
  | reinitialize (n : Nat) (pass : List Byte)
  | unrecognized
deriving DecidableEq, Repr, Inhabited

/-- R351: what goes on when the NV operation of a bus request has ended. -/
inductive BusJob where
  | writes (w : PropWrite) (rest : List PropWrite) (multi : Bool)
  | reinit
  | cfgFile
deriving DecidableEq, Repr, Inhabited

/-- The building bus. -/
structure Bus where
  ports : List Port := List.replicate 4 {}
  dcc : Dcc := .enabled
  /-- R371, R389: foreign registration in force, and its remaining time in s. -/
  fdReg : Bool := false
  fdRemain : Nat := 0
  /-- R371: a registration request is outstanding. -/
  fdPending : Bool := false
  /-- R371: the last registration request sent since registration was last wanted. -/
  fdSent : Option FdRequest := none
  subs : List CovSub := []
  /-- R382: confirmed notifications outstanding, at most 8. -/
  outstanding : List Notif := []
  /-- Alarm objects BV 32-67. -/
  alarms : List AlarmObj := List.replicate 36 {}
  trends : List Trend := List.replicate 16 {}
  file : Option FileObj := none
  /-- R380: the status of the last object through File 2; 1 while its commit waits. -/
  cfgFile : Nat := 0
  /-- R376: the last valid value of each Analog Input, Q16.16. -/
  aiLast : List Word := List.replicate 112 0
  /-- The notifications sent at the last release. -/
  sent : List Notif := []
  /-- R351: a bus request whose NV operation is in the queue: what remains of it; and that operation's status once it has ended. -/
  waiting : Option BusJob := none
  result : Option Nat := none
  /-- R351, R372, R497: confirmed requests that wait for a transmit buffer or for an NV operation, oldest first. -/
  held : List BusRequest := []
  /-- The last answer sent. -/
  lastReply : Option BReply := none
deriving DecidableEq, Repr, Inhabited

end Sys2Proof.Machine
end

