-- ==== Sys2Proof/Machine/StateHost.lean ====
section
/-! DEFINITION. State of the host interface, the mailboxes, the events and the configuration (10, 11). -/

namespace Sys2Proof.Machine

/-- R324: inbound mailbox states. -/
inductive InSt where
  | free | posted | accepted
deriving DecidableEq, Repr, Inhabited

def InSt.code : InSt → Nat
  | .free => 0 | .posted => 1 | .accepted => 2

/-- R324: outbound mailbox states. -/
inductive OutSt where
  | free | reserved | full
deriving DecidableEq, Repr, Inhabited

def OutSt.code : OutSt → Nat
  | .free => 0 | .reserved => 1 | .full => 2

/-- An Atiskaux message as its command receives it (R328): its tag, its chunk flags and its payload. -/
structure Msg where
  tag : BitVec 16 := 0
  chunk : Bool := false
  last : Bool := false
  payload : List Byte := []
deriving DecidableEq, Repr, Inhabited

/-- R322 `HOST_ERR` [7:0]. -/
structure HostErr where
  mbOvr : Bool := false
  mbSeq : Bool := false
  proto : Bool := false
  unmapped : Bool := false
  abort : Bool := false
  align : Bool := false
  crc : Bool := false
deriving DecidableEq, Repr, Inhabited

/-- The host pins and the window registers that are not mailboxes or events (R309-R322). -/
structure HostIf where
  /-- R309: HSEL, A1 and A0 as sampled at reset release. -/
  hsel : Bool := false
  a1 : Bool := false
  a0 : Bool := false
  /-- R322 `HOST_CFG`. -/
  irqEn : Bool := true
  crcEn : Bool := false
  /-- R322 `HOST_ERR`. -/
  err : HostErr := {}
  crcCnt : Nat := 0
  /-- R102 `LIVE_TAG`. -/
  tagIndex : Nat := 0
  tagTag : Nat := 0
  tagMismatch : Bool := false
  /-- R319: a held low half of an I2C write, by word address. -/
  i2cHeld : Option (Nat × Nat) := none
  /-- R101, R319: the latched high half of an I2C read, by word address. -/
  i2cLatch : Option (Nat × Nat) := none
  /-- What the last bus transaction returned: the status byte and the data and CRC bytes sent (R312, R317). -/
  readStatus : Byte := 0
  readBytes : List Byte := []
  /-- R312: the bytes that HMISO sent in the last SPI transaction, from byte 0 on; after byte 3 of a write the rule states none. -/
  miso : List Byte := []
deriving DecidableEq, Repr, Inhabited

/-- A command accepted from a mailbox and not yet answered (R326, R327). -/
structure Accepted where
  inb : Nat := 0
  outb : Nat := 0
  cmd : Nat := 0
  msg : Msg := {}
  /-- R329: the status of a message that failed its checks; it is answered at its place in the order. -/
  err : Option Nat := none
deriving DecidableEq, Repr, Inhabited

/-- A response (R328, R329): what the last answered command returned. -/
structure Resp where
  cmd : Nat := 0
  tag : BitVec 16 := 0
  status : Nat := 0
  chunk : Bool := false
  last : Bool := false
  payload : List Byte := []
deriving DecidableEq, Repr, Inhabited

/-- A command that waits for its NV operation (R327, R496). -/
structure Waiting where
  cmd : Nat := 0
  tag : BitVec 16 := 0
  /-- Mailboxes of a host command; none for a bus request (R351). -/
  boxes : Option (Nat × Nat) := none
deriving DecidableEq, Repr, Inhabited

/-- R331: the inbound chunked object in progress. -/
structure ChunkIn where
  cmd : Nat := 0
  /-- The object arrives from the bus, through File 0-2 (R387). -/
  bus : Bool := false
  total : Nat := 0
  next : Nat := 0
  data : List Byte := []
  /-- R331: local MC of its last chunk. -/
  mc : Word := 0
deriving DecidableEq, Repr, Inhabited

/-- R332: a held response object. -/
structure RespObj where
  cmd : Nat := 0
  data : List Byte := []
  /-- Local MC of the last fetch. -/
  mc : Word := 0
deriving DecidableEq, Repr, Inhabited

/-- The mailboxes and command execution (R323-R333). -/
structure Mbox where
  inSt : List InSt := List.replicate 4 .free
  outSt : List OutSt := List.replicate 4 .free
  inPtr : List Nat := List.replicate 4 0
  outPtr : List Nat := List.replicate 4 0
  /-- R323: 4,096 bytes of each mailbox, as words; a short list reads 0 past its end. -/
  inBuf : List (List Word) := List.replicate 4 []
  outBuf : List (List Word) := List.replicate 4 []
  /-- R326: posted mailboxes, in doorbell order. -/
  posted : List Nat := []
  /-- R327: accepted commands, in acceptance order. -/
  accepted : List Accepted := []
  /-- R321 `READY`, `APP_RESTART`. -/
  ready : Bool := false
  appRestart : Bool := false
  /-- A command waiting for NVM, with its mailboxes. -/
  waiting : Option Waiting := none
  /-- The last response written. -/
  lastResp : Option Resp := none
  chunkIn : Option ChunkIn := none
  respObj : List RespObj := []
deriving DecidableEq, Repr, Inhabited

/-- One event-queue entry (R337). -/
structure EvEntry where
  source : Nat := 0
  code : Nat := 0
  detail : Nat := 0
  mc : Word := 0
deriving DecidableEq, Repr, Inhabited

/-- The event registers and queue (R335-R339). -/
structure Events where
  summary : BitVec 128 := 0
  mask : BitVec 128 := 0
  lost : BitVec 128 := 0
  queue : List EvEntry := []
deriving DecidableEq, Repr, Inhabited

/-- A configuration image: the words of each of the 20 sections of R347, in ascending section ID. -/
abbrev Image := List (List Word)

/-- R352: an open edit. -/
structure Edit where
  img : Image := []
  /-- R352: another commit has completed since `CFG.BEGIN`. -/
  stale : Bool := false
  /-- R357: the container an unmodified loaded copy came from (header and signature block), with its `CFG_VERSION`. -/
  container : Option (List Byte × List Byte) := none
  version : Nat := 0
deriving DecidableEq, Repr, Inhabited

/-- R349: the locator of the first failing field. -/
structure Locator where
  sec : Nat := 0
  inst : Nat := 0
  word : Nat := 0
deriving DecidableEq, Repr, Inhabited

/-- R349, R493: a commit whose slot write is in the NV queue. -/
structure PendingCommit where
  img : Image := []
  slot : Nat := 0
  seq : Word := 0
  origin1 : Bool := false
  version : Nat := 0
  container : List Byte := []
  /-- The image that the slot takes: `img`, or the payload of a signed container as it is (R461). -/
  slotImg : Image := img
  /-- The commit is a `CFG.COMMIT`, which closes its edit. -/
  fromEdit : Bool := false
  /-- R350: `OUT_HOLD` that `LOOP.SET_CFG` writes directly: loop and value. -/
  outHold : Option (Nat × Nat) := none
  /-- Section ID and instance that a `SET_` command names: its words count as rewritten (R177, R248, R264). -/
  named : List (Nat × Nat) := []
deriving DecidableEq, Repr, Inhabited

/-- The configuration copies and `CFG_STATUS` (R347-R354). -/
structure Cfg where
  /-- The copy in force. -/
  inForce : Image := []
  /-- R352: the configuration as last committed. -/
  committed : Image := []
  /-- The stored copy in force at start-up, or since then (R347). -/
  stored : Image := []
  edit : Option Edit := none
  dflt : Bool := false
  fallback : Bool := false
  activeSlot : Nat := 1
  slotSeq : Word := 0
  origin1 : Bool := false
  version : Nat := 0
  /-- R461: the container header and signature block stored with an `ORIGIN` 1 slot. -/
  container : List Byte := []
  resetPend : Bool := false
  lastStatus : Nat := 0
  loc : Locator := {}
  pendingCommit : Option PendingCommit := none
deriving DecidableEq, Repr, Inhabited

/-- GPIO pins (R346, R355). -/
structure Gpio where
  /-- Levels at the pins, as read (inputs after 1 ms of stability). -/
  level : List Bool := List.replicate 16 true
  /-- Levels that outputs drive. -/
  out : List Bool := List.replicate 16 false
deriving DecidableEq, Repr, Inhabited

end Sys2Proof.Machine
end

