-- ==== Sys2Proof/Machine/StateSens.lean ====
section
/-! DEFINITION. State of sensing: modulators, results, presence detectors, housekeeping (03, R73-R115, R530-R535) and of Stone (04, R116-R145). -/

namespace Sys2Proof.Machine

/-- R90: the modulator samples of one window, scaled so that ±3.000 V / G maps to ±1, and at each sample the limit at which the quantizer sat: 1 positive, -1 negative, 0 (and past the list's end) neither. -/
structure Win where
  x : List Rat := []
  lim : List Int := []
deriving DecidableEq, Repr, Inhabited

/-- R99: a result on its way to publication, or published. -/
structure Result where
  code : Int := 0
  /-- R92, R127: of a housekeeping slot, the filtered code before its correction. -/
  raw : Int := 0
  ovr : Bool := false
  unr : Bool := false
  linRange : Bool := false
  engSat : Bool := false
  seq : Nat := 0
  mcEnd : Word := 0
  /-- R97: the engineering value; `NO_DATA` at reset. -/
  value : Word := 0x80000001
  /-- R98: the PT of `mcEnd` in which the window ended, and the value and its MC published before. -/
  ptEnd : Nat := 0
  old : Word := 0x80000001
  oldMc : Word := 0
deriving DecidableEq, Repr, Inhabited

/-- R93, R98: a result that a window's end has delivered and that waits for publication: its input position, and whether it is the input's first flagged one of the round. -/
structure Delivery where
  pos : Nat := 0
  res : Result := {}
  first : Bool := false
deriving DecidableEq, Repr, Inhabited

/-- R135: the coefficients a modulator has latched at its round start. -/
structure ModCoef where
  ofs : List Int := List.replicate 8 0
  gerr : List Int := List.replicate 8 0
  eg : Int := 0
  eo : Int := 0
  vrefDev : Int := 0
  die : List Int := List.replicate 5 0
deriving DecidableEq, Repr, Inhabited

/-- R120: what a Stone visit selects. -/
inductive CalInput where
  | short (g : Nat) | divider (g : Nat) | bandgap | dvbe (k : Nat) | calHi | calLo
deriving DecidableEq, Repr, Inhabited

/-- A modulator's part in a Stone step (R119, R121). -/
structure ModStone where
  todo : List CalInput := []
  cur : Option CalInput := none
  codes : List Int := []
  /-- A normal round is still owed before the step ends for this modulator. -/
  owed : Bool := false
deriving DecidableEq, Repr, Inhabited

/-- One modulator: 0-11 fine, 12-19 presence, 20 housekeeping (R73, R86-R89). -/
structure ModSt where
  inRound : Bool := false
  /-- A window is in progress. -/
  conv : Bool := false
  /-- R82, R84: length code, start (MC, PT) and start time in reference periods of the window in progress, or of the last one. -/
  winLen : Nat := 0
  winMc : Word := 0
  winPt : Nat := 0
  winAt : Nat := 0
  /-- R85, R106: the point (MC, PT) from which the next window is due: the end of the previous one, or the enabling. -/
  freeMc : Word := 0
  freePt : Nat := 0
  /-- The input positions of the round still to visit, the one in progress first. -/
  left : List Nat := []
  /-- R87: the round visits a single input and keeps the preceding windows. -/
  kept : Bool := false
  /-- R87: the single input of the round before. -/
  single : Option Nat := none
  /-- Windows of the visit that have ended. -/
  done : Nat := 0
  /-- The last windows of the visit, newest first, at most 4. -/
  wins : List Win := []
  /-- R78: the input the excitation source feeds. -/
  exc : Option Nat := none
  coef : ModCoef := {}
  /-- R93: input positions that have delivered a flagged result in the round. -/
  ranged : List Nat := []
  /-- Delivered results that wait for publication. -/
  pend : List Delivery := []
  stone : ModStone := {}
deriving DecidableEq, Repr, Inhabited

/-- R109, R113: detector states. -/
inductive PresSt where
  | vacant | occupied | hold | fault
deriving DecidableEq, Repr, Inhabited

def PresSt.code : PresSt → Nat
  | .vacant => 0 | .occupied => 1 | .hold => 2 | .fault => 3

/-- One presence detector (R108, R109, R533). -/
structure Pres where
  st : PresSt := .vacant
  inUse : Bool := false
  warming : Bool := true
  /-- Local MC at which the warm-up started. -/
  warmMc : Option Word := none
  primed : Bool := false
  /-- R108: filter memories, in mV: the last two inputs and outputs of each biquad. -/
  hx : Rat × Rat := (0, 0)
  hy : Rat × Rat := (0, 0)
  ly : Rat × Rat := (0, 0)
  e : Rat := 0
  /-- R108 rms, mV, Q16.16. -/
  rms : Nat := 0
  qual : Nat := 0
  bad : Nat := 0
  good : Nat := 0
  /-- R109: local MC at which the hold timer started, and the `HOLD` it runs with. -/
  holdMc : Word := 0
  holdSet : Nat := 0
deriving DecidableEq, Repr, Inhabited

/-- One housekeeping slot (R114, R115). -/
structure HkSlot where
  value : Word := 0x80000001
  /-- R127: the filtered code of the reading before its correction. -/
  raw : Int := 0
  mcEnd : Word := 0
  /-- R98: as in `Result`. -/
  ptEnd : Nat := 0
  old : Word := 0x80000001
  oldMc : Word := 0
  ovr : Bool := false
  unr : Bool := false
  outCnt : Nat := 0
  inCnt : Nat := 0
  alarm : Bool := false
deriving DecidableEq, Repr, Inhabited

/-- Sensing. -/
structure Sens where
  mods : List ModSt := List.replicate 21 {}
  /-- R99: records of AIN0-95 and PSN0-31. -/
  results : List Result := List.replicate 128 {}
  /-- R93: the input has delivered a flagged result since its last valid one; 128-143 are the housekeeping slots. -/
  flagged : List Bool := List.replicate 144 false
  pres : List Pres := List.replicate 32 {}
  hk : List HkSlot := List.replicate 16 {}
  /-- R134: T4, or its substitute, of the last completed housekeeping round, Q16.16. -/
  dieTemp : Int := 0
  /-- A housekeeping round has ended and is not yet evaluated (R115). -/
  hkDone : Bool := false
  /-- R442, R443: slot 8 of the housekeeping round has delivered, and thermal management has not yet evaluated. -/
  hkFresh : Bool := false
deriving DecidableEq, Repr, Inhabited

/-- A set record (R145). -/
structure CalSet where
  temp : Int := 0
  opt : Nat := 0
  valid : Bool := false
  kept10 : Bool := false
  kept11 : Bool := false
  actSkip : Nat := 0
  /-- `FMOD`: offset and gain error per modulator and gain. -/
  fmod : List (List (Int × Int)) := List.replicate 12 (List.replicate 8 (0, 0))
  pmod : List (List (Int × Int)) := List.replicate 8 (List.replicate 5 (0, 0))
  hmod : Int × Int := (0, 0)
  exc : List (Int × Int) := List.replicate 12 (0, 0)
  vrefDev : Int := 0
  act : List Int := List.replicate 32 0
  die : List Int := List.replicate 5 0
  x32 : Int := 0
  x24 : Int := 0
deriving DecidableEq, Repr, Inhabited

/-- A measured value of a run: its modulator and input, or an actuator channel, or a crystal count. -/
inductive CalKey where
  | visit (mod : Nat) (inp : CalInput)
  | act (ch : Nat)
  | x24 | x32
  /-- The code of a die sensor's housekeeping reading beside its ΔVBE visit. -/
  | die (k : Nat)
  /-- A result of the visit at the end of its range (R116 item 8: no `OVR` or `UNR`). -/
  | flag (mod : Nat)
deriving DecidableEq, Repr, Inhabited

/-- A calibration run in progress (R119-R130). -/
structure CalRun where
  set : Nat := 0
  /-- Pass 1 or 2. -/
  pass : Nat := 1
  /-- R144: 1-22 within the pass; 0 before the first release. -/
  step : Nat := 0
  /-- The step has been released and has not ended. -/
  active : Bool := false
  /-- The pass's steps have all ended; it waits for its crystal count or its channels. -/
  vals1 : List (CalKey × Rat) := []
  vals2 : List (CalKey × Rat) := []
  /-- R123: channels skipped. -/
  skip : List Nat := []
  /-- R124: items 10 and 11 are kept; pulses counted in this pass and the counts. -/
  keepXtal : Bool := true
  pulses : Nat := 0
  cnt24 : Nat := 0
  cnt32 : Nat := 0
  passMc : Word := 0
  /-- R123: local MC at which E0 is due, for the extra 256 MC. -/
  e0Mc : Option Word := none
  /-- R129: T4 over the run: readings' minimum, maximum, sum and count. -/
  tMin : Int := 0
  tMax : Int := 0
  tSum : Int := 0
  tCnt : Nat := 0
  /-- R127: both passes have ended. -/
  done : Bool := false
deriving DecidableEq, Repr, Inhabited

/-- Stone (R116-R145). -/
structure Stone where
  sets : List CalSet := List.replicate 8 {}
  /-- R132: the host set; none until `CAL.WRITE_COEF`, an accepted run or the change to host mode fills it. -/
  hostSet : Option CalSet := none
  slotSeq : Word := 0
  activeSlot : Nat := 1
  slotFallback : Bool := false
  lastSet : Nat := 0
  lastResult : Nat := 0
  failItem : Nat := 0
  lastStatus : Nat := 0
  refAlarm : Bool := false
  refBad : Nat := 0
  refOk : Nat := 0
  run : Option CalRun := none
  /-- R140: the store whose write is in the NV queue; the run's set, or none for a deletion. -/
  commit : Option (List CalSet) := none
  commitSet : Option Nat := none
  /-- R136: actuator sense errors in force, latched at the last PWM period. -/
  agerr : List Int := List.replicate 32 0
deriving DecidableEq, Repr, Inhabited

end Sys2Proof.Machine
end

