-- ==== Sys2Proof/Machine/StateSupply.lean ====
section
/-! DEFINITION. State of the supplies, reset and start-up, the backup domain, thermal management, the management core, Scruple and the test port (14-17, R19, R24). -/

namespace Sys2Proof.Machine

/-- R25, R321 `MODE`: the operating mode of the main domain. -/
inductive Mode where
  | startup | run | quiet | hold
deriving DecidableEq, Repr, Inhabited

def Mode.code : Mode → Nat
  | .startup => 0 | .run => 1 | .quiet => 2 | .hold => 3

/-- Why the main domain is held in reset (R419, R432, R450, R453). -/
inductive Held where
  | power | railUv | nrst | thermal
deriving DecidableEq, Repr, Inhabited

/-- Where the main domain stands between power and the released control path (R434-R438). -/
inductive Phase where
  /-- VMAIN absent: Backup (R438). -/
  | backup
  /-- Held in reset. -/
  | held (why : Held)
  /-- Start-up waits in step 2 for the Bushel scan (R423, R435). -/
  | scanning
  /-- Start-up stopped at a step (R437). -/
  | stopped
  /-- Steps 1-5 have ended; the control path is not yet released (R435). -/
  | starting
  /-- Released (R436). -/
  | running
deriving DecidableEq, Repr, Inhabited

/-- R431, R433: the sources of a reset, as bit positions of `RESET_CAUSE`. -/
inductive Cause where
  | por | railUv | nrst | mgtWdt | thermal | pfwRecover | soft
deriving DecidableEq, Repr, Inhabited

def Cause.bit : Cause → Nat
  | .por => 0 | .railUv => 1 | .nrst => 2 | .mgtWdt => 3 | .thermal => 4 | .pfwRecover => 5 | .soft => 6

/-- What the device finds at a reset release: the straps (R309, R504) and the outcomes of the power-up tests (R488), as pass and signature. -/
structure Release where
  hsel : Bool := false
  a1 : Bool := false
  a0 : Bool := false
  post : List (Bool × BitVec 64) := []
  /-- R430: of a recovery after a power-fail warning, the lowest level of VMAIN in its 100 ms, in mV. -/
  vmain : Nat := 0
deriving DecidableEq, Repr, Inhabited

/-- Supplies, reset and start-up (R418-R441). -/
structure Supply where
  phase : Phase := .held .power
  /-- R421: VMAIN has risen through 4.5 V and has not fallen below 4.3 V since. -/
  vmain : Bool := false
  mode : Mode := .startup
  /-- R433: the cause bit of the last reset release. -/
  cause : Option Cause := none
  /-- Requests that hold the main domain in reset: a rail, NRST, the cool-down after a Shutdown or trip. -/
  railLow : Bool := false
  nrstLow : Bool := false
  thermLow : Bool := false
  vbatLow : Bool := false
  vbatLowCnt : Nat := 0
  vbatOkCnt : Nat := 0
  vbatLost : Bool := false
  optRestored : Bool := false
  /-- R423: the counters wait for the scan. -/
  restorePend : Bool := false
  /-- R439: the five safe-state causes. -/
  safeThermal : Bool := false
  safeClock : Bool := false
  safeSram : Bool := false
  safeSupv : Bool := false
  safePfw : Bool := false
  /-- R426: NPFW is driven low. -/
  npfwLow : Bool := false
  /-- R429: when the warning was raised, in reference periods. -/
  pfwAt : Nat := 0
  /-- R425: `PFW_TH` code in force since the last reset. -/
  pfwTh : Nat := 0
  /-- R450: when Shutdown was entered, in reference periods; the reset follows 2 ms later. -/
  shutAt : Option Nat := none
  /-- R437: mode requested before the release. -/
  modeReq : Option Mode := none
  /-- R438: a switch-over precedes this power-up. -/
  switched : Bool := false
  /-- R26: local MC of the entry to Quiet; Stone asked for it. -/
  quietMc : Word := 0
  quietByStone : Bool := false
  /-- R26: Quiet by a host command is in force (a Stone measurement's end then does not end it). -/
  quietByHost : Bool := false
  /-- R431: a soft reset waits for its 10 ms. -/
  softPend : Bool := false
  /-- R457: the release is to report a watchdog reset. -/
  wdtPend : Bool := false
  /-- R488: a power-up test set has run. -/
  postRan : Bool := false
deriving DecidableEq, Repr, Inhabited

/-- One entry of the last-fault word (R424). -/
structure LfEntry where
  cause : Nat := 0
  source : Nat := 0
  detail : Nat := 0
  value : Nat := 0
  pcc : Nat := 0
  opt : Nat := 0
  mc : Word := 0
  time : Nat := 0
deriving DecidableEq, Repr, Inhabited

/-- The backup domain (R421-R424). -/
structure Backup where
  calendar : Word := 0
  calValid : Bool := false
  /-- R137, R454: calendar trim, in 0.1 ppm. -/
  trim : Int := 0
  opt : Word := 0
  pcc : BitVec 24 := 0
  /-- R423: the validity marker. -/
  marker : Bool := false
  /-- R424: the word has been initialized; its count and entries, newest first. -/
  lfInit : Bool := false
  lfCount : Nat := 0
  lf : List LfEntry := []
deriving DecidableEq, Repr, Inhabited

/-- The clock monitor and the memory checks (R19, R20, R24). -/
structure Clk where
  /-- R24: clock failure; the management core runs from the internal oscillator. -/
  fail : Bool := false
  /-- R24: consecutive windows out of tolerance. -/
  badWin : Nat := 0
  /-- R24: the monitor counts against the internal oscillator. -/
  xtal32Lost : Bool := false
  /-- R22: the system PLL is locked. -/
  pllLocked : Bool := true
  /-- R366: corrected and uncorrectable counts of the 8 memories of R338. -/
  corrected : List Nat := List.replicate 8 0
  uncorrectable : List Nat := List.replicate 8 0
  /-- R19: next word of the scrubber in each SEC-DED SRAM (memory codes 1, 3, 4, 5). -/
  scrub : List Nat := List.replicate 4 0
deriving DecidableEq, Repr, Inhabited

/-- One digital thermal level (R447). -/
structure Level where
  entered : Bool := false
  count : Nat := 0
deriving DecidableEq, Repr, Inhabited

/-- One die sensor (R444). -/
structure DieSensor where
  valid : Bool := true
  disagree : Nat := 0
  readmit : Nat := 0
deriving DecidableEq, Repr, Inhabited

/-- Thermal management (R442-R453). -/
structure Therm where
  warning : Level := {}
  throttle : Level := {}
  critical : Level := {}
  shutdown : Level := {}
  sensors : List DieSensor := List.replicate 5 {}
  /-- R445: governing temperature, Q16.16. -/
  governing : Word := 0x80000001
  /-- R453: the last governing temperature, which a trip writes; it outlives a reset while VMAIN stays up (notes/assumptions/30.md). -/
  lastGov : Word := 0x80000001
deriving DecidableEq, Repr, Inhabited

/-- R468: bank states. -/
inductive BankSt where
  | empty | written | trial | good | old | bad
deriving DecidableEq, Repr, Inhabited

def BankSt.code : BankSt → Nat
  | .empty => 0 | .written => 1 | .trial => 2 | .good => 3 | .old => 4 | .bad => 5

/-- R460: the management state. -/
structure MgtRec where
  seq : Word := 0
  floorFw : Word := 0
  floorWf : Word := 0
  floorCfg : Word := 0
  stateA : BankSt := .good
  stateB : BankSt := .empty
  /-- 0 A, 1 B. -/
  active : Nat := 0
  trialBoots : Nat := 0
  verA : Word := 0
  verB : Word := 0
  attCount : Word := 0
deriving DecidableEq, Repr, Inhabited

/-- R458: the OTP fields a command or the device can set. The fields Balloth writes are constants of Config. -/
structure Otp where
  pfwTh : Nat := 0
  provisioned : Bool := false
  signedCfg : Bool := false
  postBist : Bool := false
  debugLock : Bool := false
  revokeOnConfirm : Bool := false
  /-- Bit s: key slot s revoked. -/
  revoked : List Bool := List.replicate 4 false
  /-- R458 `SLOT_KIND`; slot 0 may sign every kind. -/
  kind : List Nat := [7, 0, 0, 0]
  /-- N, the number of `THERMO` bits set. -/
  thermo : Nat := 0
  /-- `RSA_HASH` and `SLH_PK` of slots 1-3, 64 bytes each. -/
  keys : List (List Byte) := List.replicate 3 (List.replicate 64 0)
deriving DecidableEq, Repr, Inhabited

/-- R469: an image write in progress or ended. -/
structure Update where
  /-- 0 idle, 1 receiving, 2 verifying, 3 writing, 4 done. -/
  state : Nat := 0
  kind : Nat := 0
  lastStatus : Nat := 0
  version : Word := 0
  /-- The image came through a bus file (R387). -/
  bus : Bool := false
  /-- R385: the bank last written through File 0. -/
  bankByFile : Option Nat := none
  /-- R463: the container being verified or written. -/
  image : List Byte := []
  /-- R476: verification pauses while an attestation signs. -/
  bank : Nat := 0
deriving DecidableEq, Repr, Inhabited

/-- R476: attestation. -/
structure Attest where
  running : Bool := false
  nonce : List Byte := []
  response : Option (List Byte) := none
  /-- R476: the evidence, built once the count has been stored. -/
  evidence : Option (List Byte) := none
  /-- R476: `ATT_COUNT` has been incremented for it. -/
  counted : Bool := false
  /-- R476: the attestation ended with `ST_NV_FAIL`. -/
  failed : Bool := false
deriving DecidableEq, Repr, Inhabited

/-- The management core: supervision, records, OTP, flash, update, security (R455-R478). -/
structure Mgt where
  /-- R455: the application core runs. -/
  appRunning : Bool := false
  /-- R456: the application core is held stopped. -/
  appHeld : Bool := false
  /-- R455: a restart is demanded, with its last-fault cause. -/
  restartDue : Option Nat := none
  /-- R456: local MC of the restarts begun. -/
  restarts : List Word := []
  /-- R455, R456: a supervised restart is in progress. -/
  restarting : Bool := false
  mr : MgtRec := {}
  /-- R460: the copy of the management state in force. -/
  mrCopy : Nat := 0
  mrLost : Bool := false
  otp : Otp := {}
  /-- R464: the container stored in each flash bank; empty when erased. -/
  flash : List (List Byte) := [[], []]
  upd : Update := {}
  att : Attest := {}
  /-- R473, R475: the OTP fields waiting to be set; they come from `SEC.PROVISION`. -/
  prov : Option Otp := none
  provCmd : Bool := false
  /-- R470: the running trial's bank. -/
  trial : Bool := false
  /-- R470: an activation that waits for its management-state write: the record before it. -/
  activating : Option MgtRec := none
  /-- R468, R536: bank A holds the image Balloth delivered. -/
  delivered : Bool := true
  /-- R20: flash codewords that read as uncorrectable: bank and number. -/
  flashBad : List (Nat × Nat) := []
deriving DecidableEq, Repr, Inhabited

/-- One self-test result (R487): test, verdict 0 fail, 1 pass, 2 not run, signature. -/
structure TestResult where
  test : Nat := 0
  verdict : Nat := 2
  signature : BitVec 64 := 0
deriving DecidableEq, Repr, Inhabited

/-- Scruple (R479-R488). -/
structure Scruple where
  running : Bool := false
  /-- Tests of the run not yet ended, ascending; the first is in progress or waits for its precondition. -/
  left : List Nat := []
  mask : Nat := 0
  enteredHold : Bool := false
  /-- R486: a safe-state cause other than the power-fail warning has been set during the run, or Critical entered. -/
  stopped : Bool := false
  /-- R483: the application core is stopped for tests 0 and 3. -/
  appStopped : Bool := false
  results : List TestResult := []
deriving DecidableEq, Repr, Inhabited

/-- R489: the register that the current instruction selects. -/
inductive JtagReg where
  | boundary | idcode | bypass | debug
deriving DecidableEq, Repr, Inhabited

/-- The test access port (R489, R490). -/
structure Jtag where
  /-- The 5-bit instruction; Test-Logic-Reset gives IDCODE. -/
  ir : BitVec 5 := 1
  reg : JtagReg := .idcode
deriving DecidableEq, Repr, Inhabited

end Sys2Proof.Machine
end

