-- ==== Sys2Proof/Syntax.lean ====
section
/-! DEFINITION. The commands of the block: one constructor per row of the table of commands (95_what_each_step_holds.md), with the operands an event or a message brings. -/

namespace Sys2Proof

open Sys2Proof.Machine

/-- A command: a write or a read of a register, a message of the command set, a bus request, or an event at a pin, a supply or a timer. -/
inductive Instr where
  /-- R44 ZX_CROSSING. -/
  | zxCrossing (t : Nat) (positive : Bool)
  /-- R41 START_TIMEOUT. -/
  | startTimeout
  /-- R45 MISSING_CROSSING. -/
  | missingCrossing
  /-- R49 PT_TICK. -/
  | ptTick
  /-- R68 ACRE_BEACON_SEND. -/
  | acreBeaconSend
  /-- R63 BEACON. -/
  | beacon (addr : Nat) (b : List Byte)
  /-- R394 JOIN. -/
  | join (addr : Nat) (b : List Byte)
  /-- R72 SLOT. -/
  | slot (addr : Nat) (b : List Byte)
  /-- R67 ACRE_MASTER_LOSS. -/
  | acreMasterLoss
  /-- R67 ACRE_SEEKING_TIMEOUT. -/
  | acreSeekingTimeout
  /-- R67 ACRE_CANDIDATE_WAIT_END. -/
  | acreCandidateWaitEnd
  /-- R394 ACRE_MEMBER_FORGET. -/
  | acreMemberForget (id : Nat)
  /-- R85 WINDOW_START. -/
  | windowStart (k : Nat)
  /-- R88 ROUND_START. -/
  | roundStart (k : Nat)
  /-- R90 WINDOW_END. -/
  | windowEnd (k : Nat) (w : Win)
  /-- R98 RESULT_PUBLISH. -/
  | resultPublish (k : Nat)
  /-- R109 PRESENCE_WARMUP_END. -/
  | presenceWarmupEnd (d : Nat)
  /-- R109 PRESENCE_HOLD_EXPIRY. -/
  | presenceHoldExpiry (d : Nat)
  /-- R115 HK_ROUND_END. -/
  | hkRoundEnd
  /-- R121 CAL_STEP_RELEASE. -/
  | calStepRelease
  /-- R119 CAL_VISIT_START. -/
  | calVisitStart (k : Nat)
  /-- R119 CAL_VISIT_END. -/
  | calVisitEnd (k : Nat)
  /-- R123 ACT_SENSE_MEASURE. -/
  | actSenseMeasure (n : Nat) (reading : Rat)
  /-- R123 ACT_SENSE_SKIP. -/
  | actSenseSkip (n : Nat)
  /-- R124 XTAL_REF_PULSE. -/
  | xtalRefPulse (ticks24 ticks32 : Nat)
  /-- R124 XTAL_REF_TIMEOUT. -/
  | xtalRefTimeout
  /-- R120 CAL_PASS_END. -/
  | calPassEnd
  /-- R127 CAL_RUN_COMPLETE. -/
  | calRunComplete
  /-- R166 LOOP_EVALUATION. -/
  | loopEvaluation (l : Nat)
  /-- R151 LOOP_COMMIT. -/
  | loopCommit (l : Nat) (late : Bool)
  /-- R181 ZONE_LOGIC_PASS. -/
  | zoneLogicPass
  /-- R213 SPEC_CONFIRM_EXPIRY. -/
  | specConfirmExpiry (z : Nat)
  /-- R194 CHANGEOVER_DELAY_EXPIRY. -/
  | changeoverDelayExpiry (z : Nat)
  /-- R193 WINDOW_DELAY_EXPIRY. -/
  | windowDelayExpiry (z : Nat)
  /-- R187 FAULT_DELAY_EXPIRY. -/
  | faultDelayExpiry (z : Nat)
  /-- R216 COMFORT_DELAY_EXPIRY. -/
  | comfortDelayExpiry (z : Nat)
  /-- R186 MANUAL_EXPIRY. -/
  | manualExpiry (z : Nat)
  /-- R204 SOLSTICE_BIN_END. -/
  | solsticeBinEnd (k : Nat)
  /-- R211 OCC_BIN_END. -/
  | occBinEnd (z : Nat)
  /-- R209 SOLSTICE_PERSIST. -/
  | solsticePersist
  /-- R237 PWM_PERIOD. -/
  | pwmPeriod (raw : List Nat)
  /-- R238 MIN_OFF_EXPIRY. -/
  | minOffExpiry (n : Nat)
  /-- R234 THERMAL_PERIOD_START. -/
  | thermalPeriodStart (n : Nat)
  /-- R234 THERMAL_ON_PHASE_END. -/
  | thermalOnPhaseEnd (n : Nat)
  /-- R239 DUTY_BUCKET_END. -/
  | dutyBucketEnd (n : Nat)
  /-- R243 PULLIN_SLOT_START. -/
  | pullinSlotStart
  /-- R244 DEGRADED_PEAK_START. -/
  | degradedPeakStart (n : Nat)
  /-- R232 PEAK_END. -/
  | peakEnd (n : Nat)
  /-- R226 ACT_DECAY_END. -/
  | actDecayEnd (n : Nat)
  /-- R236 FLOAT_OVERRUN_END. -/
  | floatOverrunEnd (k : Nat)
  /-- R236 FLOAT_RESYNC_END. -/
  | floatResyncEnd (k : Nat)
  /-- R236 FLOAT_REVERSAL_END. -/
  | floatReversalEnd (k : Nat)
  /-- R253 BUDGET_WAIT_TIMEOUT. -/
  | budgetWaitTimeout (n : Nat)
  /-- R246 OPEN_LOAD_ON. -/
  | openLoadOn (n : Nat)
  /-- R246 OPEN_LOAD_OFF. -/
  | openLoadOff (n : Nat)
  /-- R246 OPEN_LOAD_CLEAR. -/
  | openLoadClear (n : Nat)
  /-- R246 SHORT_SUP. -/
  | shortSup (n : Nat)
  /-- R246 SHORT_GND. -/
  | shortGnd (n : Nat)
  /-- R246 HSW_OVERCURRENT. -/
  | hswOvercurrent (k : Nat)
  /-- R246 CH_OT. -/
  | chOt (n : Nat) (hot : Bool)
  /-- R248 SHORT_SUP_RETRY. -/
  | shortSupRetry (n : Nat)
  /-- R248 RETRY_LEFT_RESTORE. -/
  | retryLeftRestore (n : Nat)
  /-- R246 BST_UV. -/
  | bstUv
  /-- R246 BST_OV. -/
  | bstOv
  /-- R246 BST_OV_RELEASE. -/
  | bstOvRelease
  /-- R246 BST_OC. -/
  | bstOc
  /-- R247 BOOST_RESTART. -/
  | boostRestart
  /-- R247 BOOST_RETRY_RESET. -/
  | boostRetryReset
  /-- R227 CLAMP_ACTIVE. -/
  | clampActive (on : Bool)
  /-- R253 CLAMP_SUSTAINED. -/
  | clampSustained
  /-- R255 FAN_PWM_PERIOD. -/
  | fanPwmPeriod (f : Nat)
  /-- R261 FAN_KICK_START. -/
  | fanKickStart
  /-- R260 FAN_KICK_END. -/
  | fanKickEnd (f : Nat)
  /-- R260 FAN_PAUSE_END. -/
  | fanPauseEnd (f : Nat)
  /-- R262 FAN_TACH_EDGE. -/
  | fanTachEdge (f t : Nat)
  /-- R263 FAN_TACH_LOSS. -/
  | fanTachLoss (f : Nat)
  /-- R263 FAN_SLOW_TIMER. -/
  | fanSlowTimer (f : Nat)
  /-- R286 FRAME_SLOT. -/
  | frameSlot (crackOk readOk : Bool) (fetchBad : Nat)
  /-- R297 PANEL_FAULT. -/
  | panelFault (cause : Nat)
  /-- R293 BLINK_PHASE. -/
  | blinkPhase (n : Nat)
  /-- R282 RAIL_POWER_GOOD. -/
  | railPowerGood (i : Nat)
  /-- R282 RAIL_SEQ_DELAY_EXPIRY. -/
  | railSeqDelayExpiry
  /-- R282 RAIL_HOLD_EXPIRY. -/
  | railHoldExpiry
  /-- R282 RAIL_FAULT. -/
  | railFault (outOfRange : Bool)
  /-- R284 CLEARING_TEMP_TIMEOUT. -/
  | clearingTempTimeout
  /-- R301 KEY_SCAN. -/
  | keyScan (raw : List Bool)
  /-- R305 KEY_STUCK_EXPIRY. -/
  | keyStuckExpiry (i : Nat)
  /-- R314 SPI_WRITE_TRANSACTION. -/
  | spiWriteTransaction (mosi : List Byte)
  /-- R312 SPI_READ_TRANSACTION. -/
  | spiReadTransaction (mosi : List Byte)
  /-- R318 I2C_WRITE. -/
  | i2cWrite (target : Nat) (wire : List Byte)
  /-- R319 I2C_READ. -/
  | i2cRead (target a ctl : Nat)
  /-- R325 MB_IN_DB. -/
  | mbInDb (v : Word)
  /-- R325 MB_OUT_DB. -/
  | mbOutDb (v : Word)
  /-- R323 MB_PTR_WRITE. -/
  | mbPtrWrite (outb : Bool) (i : Nat) (v : Word)
  /-- R323 MB_IN_DATA_WRITE. -/
  | mbInDataWrite (i : Nat) (v : Word)
  /-- R323 MB_OUT_DATA_READ. -/
  | mbOutDataRead (j : Nat)
  /-- R337 EVQ_POP. -/
  | evqPop (v : Word)
  /-- R336 EVT_SUMMARY_CLEAR. -/
  | evtSummaryClear (k : Nat) (v : Word)
  /-- R339 EVQ_LOST_CLEAR. -/
  | evqLostClear (k : Nat) (v : Word)
  /-- R322 HOST_ERR_CLEAR. -/
  | hostErrClear (v : Word)
  /-- R320 REGISTER_WRITE. -/
  | registerWrite (a : Nat) (v : Word)
  /-- R326 MB_ACCEPT. -/
  | mbAccept
  /-- R331 CHUNK_OBJECT_TIMEOUT. -/
  | chunkObjectTimeout
  /-- R332 RESPONSE_OBJECT_TIMEOUT. -/
  | responseObjectTimeout (cmd : Nat)
  /-- R355 SYS_STATUS. -/
  | sysStatus (m : Msg)
  /-- R27 SYS_SET_MODE. -/
  | sysSetMode (m : Msg)
  /-- R26 QUIET_TIMEOUT. -/
  | quietTimeout
  /-- R355 SYS_SET_TIME. -/
  | sysSetTime (m : Msg)
  /-- R355 SYS_GET_TIME. -/
  | sysGetTime (m : Msg)
  /-- R355 SYS_RESET. -/
  | sysReset (m : Msg)
  /-- R355 SYS_NV_READ. -/
  | sysNvRead (m : Msg)
  /-- R355 SYS_NV_WRITE. -/
  | sysNvWrite (m : Msg)
  /-- R355 SYS_GPIO_GET. -/
  | sysGpioGet (m : Msg)
  /-- R355 SYS_GPIO_SET. -/
  | sysGpioSet (m : Msg)
  /-- R346 SYS_SET_GPIO. -/
  | sysSetGpio (m : Msg)
  /-- R356 ID_GET. -/
  | idGet (m : Msg)
  /-- R352 CFG_BEGIN. -/
  | cfgBegin (m : Msg)
  /-- R357 CFG_READ. -/
  | cfgRead (m : Msg)
  /-- R357 CFG_WRITE. -/
  | cfgWrite (m : Msg)
  /-- R349 CFG_COMMIT. -/
  | cfgCommit (m : Msg)
  /-- R352 CFG_DISCARD. -/
  | cfgDiscard (m : Msg)
  /-- R357 CFG_LOAD. -/
  | cfgLoad (m : Msg)
  /-- R354 CFG_STATUS. -/
  | cfgStatus (m : Msg)
  /-- R357 CFG_EXPORT. -/
  | cfgExport (m : Msg)
  /-- R358 SENS_READ. -/
  | sensRead (m : Msg)
  /-- R358 SENS_PRES. -/
  | sensPres (m : Msg)
  /-- R358 SENS_HK. -/
  | sensHk (m : Msg)
  /-- R358 SENS_SET_AIN. -/
  | sensSetAin (m : Msg)
  /-- R358 SENS_SET_MOD. -/
  | sensSetMod (m : Msg)
  /-- R358 SENS_SET_PRES. -/
  | sensSetPres (m : Msg)
  /-- R358 SENS_SET_HK_LIM. -/
  | sensSetHkLim (m : Msg)
  /-- R359 CAL_RUN. -/
  | calRun (m : Msg)
  /-- R130 CAL_ABORT. -/
  | calAbort (m : Msg)
  /-- R359 CAL_DELETE. -/
  | calDelete (m : Msg)
  /-- R132 CAL_READ_COEF. -/
  | calReadCoef (m : Msg)
  /-- R132 CAL_WRITE_COEF. -/
  | calWriteCoef (m : Msg)
  /-- R144 CAL_STATUS. -/
  | calStatus (m : Msg)
  /-- R359 CAL_SET_CFG. -/
  | calSetCfg (m : Msg)
  /-- R171 LOOP_OPEN. -/
  | loopOpen (m : Msg)
  /-- R172 LOOP_CLOSE. -/
  | loopClose (m : Msg)
  /-- R360 LOOP_SET_CFG. -/
  | loopSetCfg (m : Msg)
  /-- R360 LOOP_GET. -/
  | loopGet (m : Msg)
  /-- R360 LOOP_INPUT. -/
  | loopInput (m : Msg)
  /-- R360 LOOP_SET_PROF. -/
  | loopSetProf (m : Msg)
  /-- R218 ZONE_STATUS. -/
  | zoneStatus (m : Msg)
  /-- R361 ZONE_PROV_STATUS. -/
  | zoneProvStatus (m : Msg)
  /-- R361 ZONE_SET_CFG. -/
  | zoneSetCfg (m : Msg)
  /-- R361 ZONE_OFF. -/
  | zoneOff (m : Msg)
  /-- R361 ZONE_MANUAL. -/
  | zoneManual (m : Msg)
  /-- R194 ZONE_CHANGEOVER. -/
  | zoneChangeover (m : Msg)
  /-- R361 ZONE_SET_SCHED. -/
  | zoneSetSched (m : Msg)
  /-- R361 ZONE_SET_TIME. -/
  | zoneSetTime (m : Msg)
  /-- R362 SOL_STATUS. -/
  | solStatus (m : Msg)
  /-- R362 SOL_READ_BINS. -/
  | solReadBins (m : Msg)
  /-- R362 SOL_WRITE_BINS. -/
  | solWriteBins (m : Msg)
  /-- R201 SOL_DISCARD. -/
  | solDiscard (m : Msg)
  /-- R362 SOL_READ_PROB. -/
  | solReadProb (m : Msg)
  /-- R362 SOL_SET_CFG. -/
  | solSetCfg (m : Msg)
  /-- R363 ACT_STATUS. -/
  | actStatus (m : Msg)
  /-- R363 ACT_SET_REQ. -/
  | actSetReq (m : Msg)
  /-- R248 ACT_CLEAR. -/
  | actClear (m : Msg)
  /-- R363 ACT_SET_CFG. -/
  | actSetCfg (m : Msg)
  /-- R363 ACT_SET_DEV. -/
  | actSetDev (m : Msg)
  /-- R363 FAN_STATUS. -/
  | fanStatus (m : Msg)
  /-- R363 FAN_SET_REQ. -/
  | fanSetReq (m : Msg)
  /-- R264 FAN_CLEAR. -/
  | fanClear (m : Msg)
  /-- R363 FAN_SET_CFG. -/
  | fanSetCfg (m : Msg)
  /-- R363 FAN_SET_DEV. -/
  | fanSetDev (m : Msg)
  /-- R299 PANEL_STATUS. -/
  | panelStatus (m : Msg)
  /-- R290 PANEL_WRITE. -/
  | panelWrite (m : Msg)
  /-- R364 PANEL_READ. -/
  | panelRead (m : Msg)
  /-- R285 PANEL_UPDATE. -/
  | panelUpdate (m : Msg)
  /-- R292 PANEL_ABORT. -/
  | panelAbort (m : Msg)
  /-- R293 PANEL_BLINK_STOP. -/
  | panelBlinkStop (m : Msg)
  /-- R297 PANEL_CLEAR_FAULT. -/
  | panelClearFault (m : Msg)
  /-- R364 PANEL_SET_CFG. -/
  | panelSetCfg (m : Msg)
  /-- R306 KEY_READ. -/
  | keyRead (m : Msg)
  /-- R307 KEY_STATUS. -/
  | keyStatus (m : Msg)
  /-- R364 KEY_SET_CFG. -/
  | keySetCfg (m : Msg)
  /-- R389 BUS_STATUS. -/
  | busStatus (m : Msg)
  /-- R390 BUS_COUNTERS. -/
  | busCounters (m : Msg)
  /-- R365 BUS_SET_CFG. -/
  | busSetCfg (m : Msg)
  /-- R365 ACRE_STATUS. -/
  | acreStatus (m : Msg)
  /-- R365 ACRE_SET_CFG. -/
  | acreSetCfg (m : Msg)
  /-- R365 ACRE_MEMBERS. -/
  | acreMembers (m : Msg)
  /-- R411 LOG_READ. -/
  | logRead (m : Msg)
  /-- R412 LOG_STATUS. -/
  | logStatus (m : Msg)
  /-- R416 LOG_SUMMARY. -/
  | logSummary (m : Msg)
  /-- R366 LOG_WRITE. -/
  | logWrite (m : Msg)
  /-- R366 LOG_SET_SNAP. -/
  | logSetSnap (m : Msg)
  /-- R366 HEALTH_STATUS. -/
  | healthStatus (m : Msg)
  /-- R424 HEALTH_LAST_FAULT. -/
  | healthLastFault (m : Msg)
  /-- R366 HEALTH_MEM. -/
  | healthMem (m : Msg)
  /-- R469 UPD_WRITE_IMAGE. -/
  | updWriteImage (m : Msg)
  /-- R367 UPD_STATUS. -/
  | updStatus (m : Msg)
  /-- R470 UPD_ACTIVATE. -/
  | updActivate (m : Msg)
  /-- R478 SEC_STATUS. -/
  | secStatus (m : Msg)
  /-- R476 SEC_ATTEST. -/
  | secAttest (m : Msg)
  /-- R477 SEC_ATTEST_GET. -/
  | secAttestGet (m : Msg)
  /-- R473 SEC_PROVISION. -/
  | secProvision (m : Msg)
  /-- R475 SEC_LOCK_DEBUG. -/
  | secLockDebug (m : Msg)
  /-- R482 TEST_RUN. -/
  | testRun (m : Msg)
  /-- R487 TEST_RESULT. -/
  | testResult (m : Msg)
  /-- R480 SELF_TEST_COMPLETE. -/
  | selfTestComplete (pass : Bool) (sig : BitVec 64)
  /-- R484 TEST_PRECONDITION_TIMEOUT. -/
  | testPreconditionTimeout
  /-- R482 TEST_RUN_END. -/
  | testRunEnd
  /-- R469 IMAGE_VERIFY_DONE. -/
  | imageVerifyDone
  /-- R476 ATTEST_DONE. -/
  | attestDone
  /-- R470 TRIAL_CONFIRM. -/
  | trialConfirm
  /-- R372 BUS_FRAME_RECEIVE. -/
  | busFrameReceive (p : Nat) (k : FrameKind)
  /-- R381 READ_PROPERTY. -/
  | readProperty (o : ObjId) (p : PropId)
  /-- R381 READ_PROPERTY_MULTIPLE. -/
  | readPropertyMultiple (l : List (ObjId × PropId))
  /-- R377 WRITE_PROPERTY. -/
  | writeProperty (o : ObjId) (p : PropId) (v : BVal)
  /-- R377 WRITE_PROPERTY_MULTIPLE. -/
  | writePropertyMultiple (l : List PropWrite)
  /-- R382 SUBSCRIBE_COV. -/
  | subscribeCov (client procId : Nat) (o : ObjId) (confirmed : Option Bool) (lifetime : Nat)
  /-- R384 ACKNOWLEDGE_ALARM. -/
  | acknowledgeAlarm (o : ObjId) (tr : Nat)
  /-- R381 GET_EVENT_INFORMATION. -/
  | getEventInformation
  /-- R381 READ_RANGE. -/
  | readRange (o : ObjId) (range : RangeBy)
  /-- R387 ATOMIC_READ_FILE. -/
  | atomicReadFile (file start : Nat) (stream : Bool) (count : Nat)
  /-- R387 ATOMIC_WRITE_FILE. -/
  | atomicWriteFile (file start : Nat) (stream : Bool) (data : List Byte)
  /-- R385 DEVICE_COMMUNICATION_CONTROL. -/
  | deviceCommunicationControl (n : Nat) (pass : List Byte)
  /-- R385 REINITIALIZE_DEVICE. -/
  | reinitializeDevice (n : Nat) (pass : List Byte)
  /-- R381 WHO_IS. -/
  | whoIs (range : Option (Nat × Nat))
  /-- R381 WHO_HAS. -/
  | whoHas (range : Option (Nat × Nat)) (o : Option ObjId) (name : List Byte)
  /-- R386 TIME_SYNCHRONIZATION. -/
  | timeSynchronization (y mo d h mi sec : Nat)
  /-- R386 UTC_TIME_SYNCHRONIZATION. -/
  | utcTimeSynchronization (y mo d h mi sec : Nat)
  /-- R381 UNRECOGNIZED_SERVICE. -/
  | unrecognizedService
  /-- R371 BDT_FDT_FUNCTION. -/
  | bdtFdtFunction
  /-- R391 FD_REGISTRATION_RESULT. -/
  | fdRegistrationResult (ok : Bool)
  /-- R371 FD_REREGISTER. -/
  | fdReregister
  /-- R370 MSTP_REPLY_POSTPONED. -/
  | mstpReplyPostponed
  /-- R383 BUS_RELEASE. -/
  | busRelease
  /-- R383 APDU_TIMEOUT. -/
  | apduTimeout (k : Nat)
  /-- R382 COV_LIFETIME_EXPIRY. -/
  | covLifetimeExpiry (k : Nat)
  /-- R373 TREND_LOG_SAMPLE. -/
  | trendLogSample (n : Nat)
  /-- R494 BUSHEL_RING_SERVICE. -/
  | bushelRingService
  /-- R405 BUSHEL_FLUSH_TIMER. -/
  | bushelFlushTimer
  /-- R408 BUSHEL_POOL_RESTORE. -/
  | bushelPoolRestore
  /-- R410 BUSHEL_SCAN. -/
  | bushelScan
  /-- R416 SUMMARY_WRITE_TIMER. -/
  | summaryWriteTimer
  /-- R416 HISTOGRAM_SAMPLE. -/
  | histogramSample
  /-- R493 NV_CODEWORD_WRITE. -/
  | nvCodewordWrite (verifyOk bank1Lost : Bool)
  /-- R435 POWER_UP. -/
  | powerUp (vbatHeld : Bool) (r : Release)
  /-- R421 BACKUP_SWITCHOVER. -/
  | backupSwitchover (torn : Bool)
  /-- R426 POWER_FAIL_WARNING. -/
  | powerFailWarning
  /-- R430 PFW_RECOVER. -/
  | pfwRecover (r : Release)
  /-- R419 RAIL_UNDERVOLTAGE. -/
  | railUndervoltage
  /-- R432 NRST. -/
  | nrst
  /-- R431 SOFT_RESET. -/
  | softReset (r : Release)
  /-- R436 CONTROL_PATH_RELEASE. -/
  | controlPathRelease
  /-- R422 OPT_TICK. -/
  | optTick
  /-- R422 CALENDAR_SECOND. -/
  | calendarSecond
  /-- R455 HEARTBEAT_TIMEOUT. -/
  | heartbeatTimeout
  /-- R455 APP_CORE_RESTART. -/
  | appCoreRestart
  /-- R333 APP_RESTART_COMPLETE. -/
  | appRestartComplete
  /-- R456 SUPERVISION_TIMEOUT. -/
  | supervisionTimeout
  /-- R457 MGT_WATCHDOG_EXPIRY. -/
  | mgtWatchdogExpiry (r : Release)
  /-- R19 MEMORY_READ_ERROR. -/
  | memoryReadError (mem unit : Nat) (fatal : Bool)
  /-- R19 SCRUB_READ. -/
  | scrubRead (k : Nat)
  /-- R24 CLOCK_MONITOR_WINDOW. -/
  | clockMonitorWindow (count : Nat) (byXtal : Bool)
  /-- R24 REFERENCE_STOP. -/
  | referenceStop
  /-- R24 PLL_UNLOCK. -/
  | pllUnlock
  /-- R447 THERMAL_EVALUATION. -/
  | thermalEvaluation
  /-- R452 THERMAL_RESTART. -/
  | thermalRestart (r : Release)
  /-- R453 ANALOG_TRIP. -/
  | analogTrip
  /-- R346 GPIO_EDGE. -/
  | gpioEdge (g : Nat) (high : Bool)
  /-- R489 EXTEST. -/
  | extest
  /-- R489 IDCODE. -/
  | idcode
  /-- R489 SAMPLE_PRELOAD. -/
  | samplePreload
  /-- R490 HIGHZ. -/
  | highz
  /-- R490 CLAMP. -/
  | clamp
  /-- R489 DEBUG_ACCESS. -/
  | debugAccess (op : BitVec 5)
  /-- R489 BYPASS. -/
  | bypass (op : BitVec 5)
  /-- R432 NRST_RELEASE. -/
  | nrstRelease (r : Release)
  /-- R419 RAIL_UV_RECOVERY. -/
  | railUvRecovery (r : Release)
  /-- R24 CALENDAR_CRYSTAL_LOSS. -/
  | calendarCrystalLoss
  /-- R391 LINK_UP_CHANGE. -/
  | linkUpChange (p : Nat) (up sole : Bool)
  /-- R282 RAIL_FALLEN. -/
  | railFallen (i : Nat)
  /-- R372 BUS_FRAME_TRANSMIT_DONE. -/
  | busFrameTransmitDone (p : Nat)
deriving DecidableEq, Repr

end Sys2Proof
end

