-- ==== Sys2Proof/WellFormed.lean ====
section
/-! DEFINITION. Which operands a command can carry: instances that exist, and messages of the length a mailbox holds (R323, R328). A meaning does not rely on it: an instance that does not exist has no effect. -/

namespace Sys2Proof

/-- The operands name things that exist. -/
def Instr.wf (i : Instr) : Bool :=
  match i with
  | .zxCrossing _ _ => true
  | .startTimeout => true
  | .missingCrossing => true
  | .ptTick => true
  | .acreBeaconSend => true
  | .beacon _ b => decide (b.length ≤ 1472)
  | .join _ b => decide (b.length ≤ 1472)
  | .slot _ b => decide (b.length ≤ 1472)
  | .acreMasterLoss => true
  | .acreSeekingTimeout => true
  | .acreCandidateWaitEnd => true
  | .acreMemberForget id => decide (id < 1024)
  | .windowStart k => decide (k < 21)
  | .roundStart k => decide (k < 21)
  | .windowEnd k _ => decide (k < 21)
  | .resultPublish k => decide (k < 21)
  | .presenceWarmupEnd d => decide (d < 32)
  | .presenceHoldExpiry d => decide (d < 32)
  | .hkRoundEnd => true
  | .calStepRelease => true
  | .calVisitStart k => decide (k < 21)
  | .calVisitEnd k => decide (k < 21)
  | .actSenseMeasure n _ => decide (n < 32)
  | .actSenseSkip n => decide (n < 32)
  | .xtalRefPulse _ _ => true
  | .xtalRefTimeout => true
  | .calPassEnd => true
  | .calRunComplete => true
  | .loopEvaluation l => decide (1 ≤ l) && decide (l < 128)
  | .loopCommit l _ => decide (1 ≤ l) && decide (l < 128)
  | .zoneLogicPass => true
  | .specConfirmExpiry z => decide (z < 32)
  | .changeoverDelayExpiry z => decide (z < 32)
  | .windowDelayExpiry z => decide (z < 32)
  | .faultDelayExpiry z => decide (z < 32)
  | .comfortDelayExpiry z => decide (z < 32)
  | .manualExpiry z => decide (z < 32)
  | .solsticeBinEnd k => decide (k < 64)
  | .occBinEnd z => decide (z < 32)
  | .solsticePersist => true
  | .pwmPeriod raw => decide (raw.length = 32)
  | .minOffExpiry n => decide (n < 32)
  | .thermalPeriodStart n => decide (n < 32)
  | .thermalOnPhaseEnd n => decide (n < 32)
  | .dutyBucketEnd n => decide (n < 32)
  | .pullinSlotStart => true
  | .degradedPeakStart n => decide (n < 32)
  | .peakEnd n => decide (n < 32)
  | .actDecayEnd n => decide (n < 32)
  | .floatOverrunEnd k => decide (k < 16)
  | .floatResyncEnd k => decide (k < 16)
  | .floatReversalEnd k => decide (k < 16)
  | .budgetWaitTimeout n => decide (n < 32)
  | .openLoadOn n => decide (n < 32)
  | .openLoadOff n => decide (n < 32)
  | .openLoadClear n => decide (n < 32)
  | .shortSup n => decide (n < 32)
  | .shortGnd n => decide (n < 32)
  | .hswOvercurrent k => decide (k < 16)
  | .chOt n _ => decide (n < 32)
  | .shortSupRetry n => decide (n < 32)
  | .retryLeftRestore n => decide (n < 32)
  | .bstUv => true
  | .bstOv => true
  | .bstOvRelease => true
  | .bstOc => true
  | .boostRestart => true
  | .boostRetryReset => true
  | .clampActive _ => true
  | .clampSustained => true
  | .fanPwmPeriod f => decide (f < 16)
  | .fanKickStart => true
  | .fanKickEnd f => decide (f < 16)
  | .fanPauseEnd f => decide (f < 16)
  | .fanTachEdge f _ => decide (f < 16)
  | .fanTachLoss f => decide (f < 16)
  | .fanSlowTimer f => decide (f < 16)
  | .frameSlot _ _ fetchBad => decide (fetchBad < 65536)
  | .panelFault cause => decide (1 ≤ cause) && decide (cause < 6)
  | .blinkPhase n => decide (n < 15)
  | .railPowerGood i => decide (i < 5)
  | .railSeqDelayExpiry => true
  | .railHoldExpiry => true
  | .railFault _ => true
  | .clearingTempTimeout => true
  | .keyScan raw => decide (raw.length = 64)
  | .keyStuckExpiry i => decide (i < 64)
  | .spiWriteTransaction _ => true
  | .spiReadTransaction _ => true
  | .i2cWrite target _ => decide (target < 128)
  | .i2cRead target a ctl => decide (a < 65536) && decide (ctl < 256) && decide (target < 128)
  | .mbInDb _ => true
  | .mbOutDb _ => true
  | .mbPtrWrite _ i _ => decide (i < 4)
  | .mbInDataWrite i _ => decide (i < 4)
  | .mbOutDataRead j => decide (j < 4)
  | .evqPop _ => true
  | .evtSummaryClear k _ => decide (k < 4)
  | .evqLostClear k _ => decide (k < 4)
  | .hostErrClear _ => true
  | .registerWrite a _ => decide (a < 65536)
  | .mbAccept => true
  | .chunkObjectTimeout => true
  | .responseObjectTimeout cmd => decide (cmd < 65536)
  | .sysStatus m => decide (m.payload.length ≤ 4080)
  | .sysSetMode m => decide (m.payload.length ≤ 4080)
  | .quietTimeout => true
  | .sysSetTime m => decide (m.payload.length ≤ 4080)
  | .sysGetTime m => decide (m.payload.length ≤ 4080)
  | .sysReset m => decide (m.payload.length ≤ 4080)
  | .sysNvRead m => decide (m.payload.length ≤ 4080)
  | .sysNvWrite m => decide (m.payload.length ≤ 4080)
  | .sysGpioGet m => decide (m.payload.length ≤ 4080)
  | .sysGpioSet m => decide (m.payload.length ≤ 4080)
  | .sysSetGpio m => decide (m.payload.length ≤ 4080)
  | .idGet m => decide (m.payload.length ≤ 4080)
  | .cfgBegin m => decide (m.payload.length ≤ 4080)
  | .cfgRead m => decide (m.payload.length ≤ 4080)
  | .cfgWrite m => decide (m.payload.length ≤ 4080)
  | .cfgCommit m => decide (m.payload.length ≤ 4080)
  | .cfgDiscard m => decide (m.payload.length ≤ 4080)
  | .cfgLoad m => decide (m.payload.length ≤ 4080)
  | .cfgStatus m => decide (m.payload.length ≤ 4080)
  | .cfgExport m => decide (m.payload.length ≤ 4080)
  | .sensRead m => decide (m.payload.length ≤ 4080)
  | .sensPres m => decide (m.payload.length ≤ 4080)
  | .sensHk m => decide (m.payload.length ≤ 4080)
  | .sensSetAin m => decide (m.payload.length ≤ 4080)
  | .sensSetMod m => decide (m.payload.length ≤ 4080)
  | .sensSetPres m => decide (m.payload.length ≤ 4080)
  | .sensSetHkLim m => decide (m.payload.length ≤ 4080)
  | .calRun m => decide (m.payload.length ≤ 4080)
  | .calAbort m => decide (m.payload.length ≤ 4080)
  | .calDelete m => decide (m.payload.length ≤ 4080)
  | .calReadCoef m => decide (m.payload.length ≤ 4080)
  | .calWriteCoef m => decide (m.payload.length ≤ 4080)
  | .calStatus m => decide (m.payload.length ≤ 4080)
  | .calSetCfg m => decide (m.payload.length ≤ 4080)
  | .loopOpen m => decide (m.payload.length ≤ 4080)
  | .loopClose m => decide (m.payload.length ≤ 4080)
  | .loopSetCfg m => decide (m.payload.length ≤ 4080)
  | .loopGet m => decide (m.payload.length ≤ 4080)
  | .loopInput m => decide (m.payload.length ≤ 4080)
  | .loopSetProf m => decide (m.payload.length ≤ 4080)
  | .zoneStatus m => decide (m.payload.length ≤ 4080)
  | .zoneProvStatus m => decide (m.payload.length ≤ 4080)
  | .zoneSetCfg m => decide (m.payload.length ≤ 4080)
  | .zoneOff m => decide (m.payload.length ≤ 4080)
  | .zoneManual m => decide (m.payload.length ≤ 4080)
  | .zoneChangeover m => decide (m.payload.length ≤ 4080)
  | .zoneSetSched m => decide (m.payload.length ≤ 4080)
  | .zoneSetTime m => decide (m.payload.length ≤ 4080)
  | .solStatus m => decide (m.payload.length ≤ 4080)
  | .solReadBins m => decide (m.payload.length ≤ 4080)
  | .solWriteBins m => decide (m.payload.length ≤ 4080)
  | .solDiscard m => decide (m.payload.length ≤ 4080)
  | .solReadProb m => decide (m.payload.length ≤ 4080)
  | .solSetCfg m => decide (m.payload.length ≤ 4080)
  | .actStatus m => decide (m.payload.length ≤ 4080)
  | .actSetReq m => decide (m.payload.length ≤ 4080)
  | .actClear m => decide (m.payload.length ≤ 4080)
  | .actSetCfg m => decide (m.payload.length ≤ 4080)
  | .actSetDev m => decide (m.payload.length ≤ 4080)
  | .fanStatus m => decide (m.payload.length ≤ 4080)
  | .fanSetReq m => decide (m.payload.length ≤ 4080)
  | .fanClear m => decide (m.payload.length ≤ 4080)
  | .fanSetCfg m => decide (m.payload.length ≤ 4080)
  | .fanSetDev m => decide (m.payload.length ≤ 4080)
  | .panelStatus m => decide (m.payload.length ≤ 4080)
  | .panelWrite m => decide (m.payload.length ≤ 4080)
  | .panelRead m => decide (m.payload.length ≤ 4080)
  | .panelUpdate m => decide (m.payload.length ≤ 4080)
  | .panelAbort m => decide (m.payload.length ≤ 4080)
  | .panelBlinkStop m => decide (m.payload.length ≤ 4080)
  | .panelClearFault m => decide (m.payload.length ≤ 4080)
  | .panelSetCfg m => decide (m.payload.length ≤ 4080)
  | .keyRead m => decide (m.payload.length ≤ 4080)
  | .keyStatus m => decide (m.payload.length ≤ 4080)
  | .keySetCfg m => decide (m.payload.length ≤ 4080)
  | .busStatus m => decide (m.payload.length ≤ 4080)
  | .busCounters m => decide (m.payload.length ≤ 4080)
  | .busSetCfg m => decide (m.payload.length ≤ 4080)
  | .acreStatus m => decide (m.payload.length ≤ 4080)
  | .acreSetCfg m => decide (m.payload.length ≤ 4080)
  | .acreMembers m => decide (m.payload.length ≤ 4080)
  | .logRead m => decide (m.payload.length ≤ 4080)
  | .logStatus m => decide (m.payload.length ≤ 4080)
  | .logSummary m => decide (m.payload.length ≤ 4080)
  | .logWrite m => decide (m.payload.length ≤ 4080)
  | .logSetSnap m => decide (m.payload.length ≤ 4080)
  | .healthStatus m => decide (m.payload.length ≤ 4080)
  | .healthLastFault m => decide (m.payload.length ≤ 4080)
  | .healthMem m => decide (m.payload.length ≤ 4080)
  | .updWriteImage m => decide (m.payload.length ≤ 4080)
  | .updStatus m => decide (m.payload.length ≤ 4080)
  | .updActivate m => decide (m.payload.length ≤ 4080)
  | .secStatus m => decide (m.payload.length ≤ 4080)
  | .secAttest m => decide (m.payload.length ≤ 4080)
  | .secAttestGet m => decide (m.payload.length ≤ 4080)
  | .secProvision m => decide (m.payload.length ≤ 4080)
  | .secLockDebug m => decide (m.payload.length ≤ 4080)
  | .testRun m => decide (m.payload.length ≤ 4080)
  | .testResult m => decide (m.payload.length ≤ 4080)
  | .selfTestComplete _ _ => true
  | .testPreconditionTimeout => true
  | .testRunEnd => true
  | .imageVerifyDone => true
  | .attestDone => true
  | .trialConfirm => true
  | .busFrameReceive p _ => decide (p < 4)
  | .readProperty _ _ => true
  | .readPropertyMultiple _ => true
  | .writeProperty _ _ _ => true
  | .writePropertyMultiple _ => true
  | .subscribeCov _ _ _ _ _ => true
  | .acknowledgeAlarm _ tr => decide (tr < 3)
  | .getEventInformation => true
  | .readRange _ _ => true
  | .atomicReadFile _ _ _ _ => true
  | .atomicWriteFile _ _ _ _ => true
  | .deviceCommunicationControl n _ => decide (n < 3)
  | .reinitializeDevice _ _ => true
  | .whoIs _ => true
  | .whoHas _ _ _ => true
  | .timeSynchronization y mo d h mi sec => decide (2000 ≤ y) && decide (1 ≤ mo) && decide (mo < 13) && decide (1 ≤ d) && decide (d < 32) && decide (h < 24) && decide (mi < 60) && decide (sec < 60)
  | .utcTimeSynchronization y mo d h mi sec => decide (2000 ≤ y) && decide (1 ≤ mo) && decide (mo < 13) && decide (1 ≤ d) && decide (d < 32) && decide (h < 24) && decide (mi < 60) && decide (sec < 60)
  | .unrecognizedService => true
  | .bdtFdtFunction => true
  | .fdRegistrationResult _ => true
  | .fdReregister => true
  | .mstpReplyPostponed => true
  | .busRelease => true
  | .apduTimeout k => decide (k < 8)
  | .covLifetimeExpiry k => decide (k < 256)
  | .trendLogSample n => decide (n < 16)
  | .bushelRingService => true
  | .bushelFlushTimer => true
  | .bushelPoolRestore => true
  | .bushelScan => true
  | .summaryWriteTimer => true
  | .histogramSample => true
  | .nvCodewordWrite _ _ => true
  | .powerUp _ _ => true
  | .backupSwitchover _ => true
  | .powerFailWarning => true
  | .pfwRecover _ => true
  | .railUndervoltage => true
  | .nrst => true
  | .softReset _ => true
  | .controlPathRelease => true
  | .optTick => true
  | .calendarSecond => true
  | .heartbeatTimeout => true
  | .appCoreRestart => true
  | .appRestartComplete => true
  | .supervisionTimeout => true
  | .mgtWatchdogExpiry _ => true
  | .memoryReadError mem _ _ => decide (1 ≤ mem) && decide (mem < 9)
  | .scrubRead k => decide (k < 4)
  | .clockMonitorWindow _ _ => true
  | .referenceStop => true
  | .pllUnlock => true
  | .thermalEvaluation => true
  | .thermalRestart _ => true
  | .analogTrip => true
  | .gpioEdge g _ => decide (g < 16)
  | .extest => true
  | .idcode => true
  | .samplePreload => true
  | .highz => true
  | .clamp => true
  | .debugAccess _ => true
  | .bypass _ => true
  | .nrstRelease _ => true
  | .railUvRecovery _ => true
  | .calendarCrystalLoss => true
  | .linkUpChange p _ _ => decide (p < 4)
  | .railFallen i => decide (i < 5)
  | .busFrameTransmitDone p => decide (p < 4)

end Sys2Proof
end

