-- ==== Sys2Proof/Machine/Num.lean ====
section
/-! DEFINITION. Rational arithmetic of the converters: rounding, roots, logarithm, IEEE 754 patterns (R14, R90, R94-R96, R197, R376). -/

namespace Sys2Proof.Machine

/-- Nearest integer of a rational, ties to even. -/
def rneQ (q : Rat) : Int := rne q.num q.den

/-- Integer square root, one bit at a time: the largest r + k·2^n below the root. -/
def isqrtGo (n : Nat) : Nat → Nat → Nat
  | 0, r => r
  | k + 1, r => let t := r + 2 ^ k; isqrtGo n k (if t * t ≤ n then t else r)

/-- Floor of the square root of a natural number. -/
def isqrt (n : Nat) : Nat := isqrtGo n (n.log2 / 2 + 1) 0

/-- The square root of a non-negative rational to 2^-80, rounded down. -/
def sqrtQ (q : Rat) : Rat :=
  if q ≤ 0 then 0 else (isqrt ((q.num.toNat * 2 ^ 160) / q.den) : Rat) / (2 ^ 80 : Nat)

/-- A rational rounded to 2^-96, for iterations. -/
def fixQ (q : Rat) : Rat := (rneQ (q * (2 ^ 96 : Nat)) : Rat) / (2 ^ 96 : Nat)

/-- The series 2·atanh(z), n terms. -/
def atanhSeries (z2 : Rat) : Nat → Nat → Rat → Rat
  | 0, _, _ => 0
  | n + 1, k, p => p / (2 * k + 1 : Nat) + atanhSeries z2 n (k + 1) (fixQ (p * z2))

/-- ln of a rational in [1, 2]. -/
def lnMant (m : Rat) : Rat :=
  let z := fixQ ((m - 1) / (m + 1))
  fixQ (2 * atanhSeries (fixQ (z * z)) 32 0 z)

/-- Base-2 exponent of a positive rational, so that q / 2^e lies in [1, 2). -/
def expo2 (q : Rat) : Int :=
  let e : Int := (q.num.toNat.log2 : Int) - (q.den.log2 : Int)
  let p : Rat := if 0 ≤ e then (2 ^ e.toNat : Nat) else 1 / (2 ^ (-e).toNat : Nat)
  if q < p then e - 1 else e

/-- 2^e as a rational. -/
def pow2 (e : Int) : Rat := if 0 ≤ e then (2 ^ e.toNat : Nat) else 1 / (2 ^ (-e).toNat : Nat)

/-- Natural logarithm of a positive rational, to about 2^-90. -/
def lnQ (q : Rat) : Rat :=
  if q ≤ 0 then 0
  else
    let e := expo2 q
    lnMant (q / pow2 e) + (e : Rat) * lnMant 2

/-- The value of an IEEE 754 pattern with the exponent and fraction widths given; none for infinities and NaN. -/
def ieeeVal (ebits fbits : Nat) (w : Nat) : Option Rat :=
  let s := (w >>> (ebits + fbits)) % 2
  let e := (w >>> fbits) % 2 ^ ebits
  let f := w % 2 ^ fbits
  let bias : Int := 2 ^ (ebits - 1) - 1
  if e = 2 ^ ebits - 1 then none
  else
    let m : Rat := if e = 0 then (f : Rat) * pow2 (1 - bias - fbits)
      else ((2 ^ fbits + f : Nat) : Rat) * pow2 ((e : Int) - bias - fbits)
    some (if s = 1 then -m else m)

/-- R104: a binary32 word. -/
def b32Val (w : Word) : Option Rat := ieeeVal 8 23 w.toNat

/-- R376: the binary32 pattern nearest to a rational, ties to even. -/
def b32Of (q : Rat) : Word :=
  if q = 0 then 0
  else
    let a := if q < 0 then -q else q
    let e := max (expo2 a) (-126)
    let m := rneQ (a / pow2 (e - 23))
    let m2 := if m = 2 ^ 24 then 2 ^ 23 else m
    let e2 := if m = 2 ^ 24 then e + 1 else e
    let sign := if q < 0 then 0x80000000 else 0
    if 127 < e2 then w32 (sign + 0x7F800000)
    else if m2 < 2 ^ 23 then w32 (sign + m2.toNat)
    else w32 (sign + (e2 + 127).toNat * 2 ^ 23 + (m2.toNat - 2 ^ 23))

/-- R197: a rational rounded to IEEE 754 binary64, ties to even. -/
def roundB64 (q : Rat) : Rat :=
  if q = 0 then 0
  else
    let a := if q < 0 then -q else q
    let e := max (expo2 a) (-1022)
    let u := pow2 (e - 52)
    let r := (rneQ (a / u) : Rat) * u
    if q < 0 then -r else r

/-- clamp on rationals (R14). -/
def clampQ (x lo hi : Rat) : Rat := if x < lo then lo else if hi < x then hi else x

end Sys2Proof.Machine
end

