-- ==== Sys2Proof/Config.lean ====
section
/-! DEFINITION. What one part, one board or one run fixes and the spec does not state: free values and per-part constants, each an opaque constant with no body (see notes/assumptions). -/

namespace Sys2Proof.Config

/-- The n-th free value of a run: what an operation gives where the spec states no value (notes/assumptions/2.md). -/
opaque freeWord : Nat → BitVec 64

/-- R458: the device serial in OTP. -/
opaque serial : BitVec 64
/-- R458: the wafer lot and die position. -/
opaque lot : BitVec 64
/-- R458 `VREF_FACT`: VREF at 25 °C and 85 °C, then the VREF:band-gap ratio at each, in 2^-24 of nominal. Their
sign bit is 0, since both are positive voltages (notes/assumptions/97.md). -/
opaque vrefFact : Fin 4 → BitVec 31
/-- R458: `RSA_HASH` of slot 0, Balloth's key. -/
opaque key0Hash : Fin 32 → Byte
/-- R458: `SLH_PK` of slot 0. -/
opaque key0Slh : Fin 32 → Byte
/-- R536: the release number of the bank-A image as delivered; its epoch is 0. -/
opaque verARelease : BitVec 24
/-- R464: the firmware container delivered in bank A (its bytes belong to Balloth). -/
opaque firmwareA : List Byte
/-- R460: the wrapped device RSA key, 988 bytes of each copy. -/
opaque wrappedKey : Fin 988 → Byte
/-- R458 `KWK`: the key-wrapping key, secret: no command, debug access or test mode returns it (R459). -/
opaque kwk : Fin 32 → Byte
/-- R458 `DEV_SLH_SK`: the device's SLH-DSA private key, secret (R459). -/
opaque devSlhSk : Fin 64 → Byte
/-- R477 `DEV_RSA_PUB`: the device's RSA modulus. -/
opaque devRsaN : Fin 384 → Byte
/-- R477 `DEV_SLH_PUB`: the device's SLH-DSA public key. -/
opaque devSlhPk : Fin 32 → Byte

/-- R462 (RFC 8017): does an RSASSA-PSS signature over a message verify under modulus and exponent. -/
opaque rsaPssVerify : (modulus : List Byte) → (exponent : Nat) → (msg sig : List Byte) → Bool
/-- R462 (FIPS 205): does a pure SLH-DSA-SHA2-128s signature verify. -/
opaque slhDsaVerify : (pk msg sig : List Byte) → Bool
/-- R460, R476: the device's RSASSA-PSS signature of an evidence block, under the key that `KWK` unwraps; the index is the attestation's free draw (the salt). -/
opaque deviceRsaSign : (kwk : Fin 32 → Byte) → (wrapped : Fin 988 → Byte) → (draw : Nat) → (msg : List Byte) → Fin 384 → Byte
/-- R476: the device's SLH-DSA signature of an evidence block under `DEV_SLH_SK`. -/
opaque deviceSlhSign : (sk : Fin 64 → Byte) → (draw : Nat) → (msg : List Byte) → Fin 7856 → Byte

/-- R108: gain, a1 and a2 of the presence high-pass biquad for the sample rate of 50 Hz or 60 Hz nominal, as the hardware represents them; the model takes each within 2^-16 of the Butterworth filter's (notes/assumptions/98.md). -/
opaque hpCoef : (sixty : Bool) → Fin 3 → Rat
/-- R108: those of the presence low-pass biquad. -/
opaque lpCoef : (sixty : Bool) → Fin 3 → Rat
/-- R114: the temperature a die sensor's code reads as, Q16.16 °C, before its offset. -/
opaque dieTemp : (sensor : Nat) → (code : Int) → Int
/-- R116 item 3: the temperature a ΔVBE visit's mean code stands for, Q16.16 °C. -/
opaque dvbeTemp : (sensor : Nat) → (code : Rat) → Int
/-- R116 item 2: the VREF:band-gap ratio a band-gap visit's mean code stands for, in units of 2^-24 of nominal. -/
opaque bandgapRatio : (code : Rat) → Rat
/-- R145: what a set record holds for an offset that is wider than its s16 field; the spec does not say. -/
opaque wideOfs : Int → BitVec 16

/-- R224, R448: VBST in V as the converter's comparator sees it at a time in reference periods; what the board's loads make of it no rule says. -/
opaque vbst : (now : Nat) → Rat

/-- R230: where in its cycle the dither waveform starts, as a fraction of the cycle; the spec gives its shape and range and not its start. -/
opaque ditherStart : (sine : Bool) → Rat
/-- R230: the sine of a fraction of a cycle, as the regulator's arithmetic represents it; the model takes it within 2^-16 of the sine. -/
opaque sine : Rat → Rat

/-- R282: which step a table value half-way between two steps is rounded to; the spec does not say: true is the upper. -/
opaque railTie : (mv step : Int) → Bool

/-- R138: the VREF:band-gap ratio that the value of housekeeping slot 11 stands for, in units of 2^-24 of nominal; the spec does not give the conversion. -/
opaque hkRatio : (value : Int) → Rat

/-- R379: the properties that the building bus's standard requires and this spec does not name, by object type, instance and property, as encoded bytes; none where an object has no such property. -/
opaque otherProp : (typ inst prop : Nat) → Option (List Byte)

end Sys2Proof.Config
end

