-- ==== Sys2Proof/Machine/CfgMap.lean ====
section
/-! DEFINITION. The sections of the configuration image (R347), word access, and the field map of each word: its reset value, its reserved bits and the class of its fields (R12, R33, R347). -/

namespace Sys2Proof.Machine

/-- R347: the 20 sections. -/
inductive Sec where
  | chain | time | gpio | ain | mod | pres | hkLim | stone | loop | zone | prof | sched | sol
  | act | actDev | fan | fanDev | panel | bus | snap
deriving DecidableEq, Repr, Inhabited

/-- R347: section IDs. -/
def Sec.id : Sec → Nat
  | .chain => 0x01 | .time => 0x02 | .gpio => 0x03 | .ain => 0x10 | .mod => 0x11 | .pres => 0x12
  | .hkLim => 0x13 | .stone => 0x14 | .loop => 0x20 | .zone => 0x21 | .prof => 0x22 | .sched => 0x23
  | .sol => 0x24 | .act => 0x30 | .actDev => 0x31 | .fan => 0x32 | .fanDev => 0x33 | .panel => 0x40
  | .bus => 0x50 | .snap => 0x60

/-- R347: instances of a section. -/
def Sec.instances : Sec → Nat
  | .chain => 1 | .time => 1 | .gpio => 16 | .ain => 96 | .mod => 20 | .pres => 32
  | .hkLim => 12 | .stone => 1 | .loop => 127 | .zone => 32 | .prof => 127 | .sched => 16
  | .sol => 64 | .act => 32 | .actDev => 1 | .fan => 16 | .fanDev => 1 | .panel => 1
  | .bus => 1 | .snap => 16

/-- R347: words of one instance. -/
def Sec.words : Sec → Nat
  | .chain => 3 | .time => 3 | .gpio => 1 | .ain => 5 | .mod => 1 | .pres => 3
  | .hkLim => 2 | .stone => 3 | .loop => 12 | .zone => 12 | .prof => 2 | .sched => 28
  | .sol => 1 | .act => 6 | .actDev => 2 | .fan => 2 | .fanDev => 1 | .panel => 5
  | .bus => 64 | .snap => 8

/-- R347: the sections in ascending ID, the order of the image. -/
def Sec.all : List Sec :=
  [.chain, .time, .gpio, .ain, .mod, .pres, .hkLim, .stone, .loop, .zone, .prof, .sched, .sol,
   .act, .actDev, .fan, .fanDev, .panel, .bus, .snap]

/-- Place of a section in the image. -/
def Sec.index : Sec → Nat
  | .chain => 0 | .time => 1 | .gpio => 2 | .ain => 3 | .mod => 4 | .pres => 5
  | .hkLim => 6 | .stone => 7 | .loop => 8 | .zone => 9 | .prof => 10 | .sched => 11
  | .sol => 12 | .act => 13 | .actDev => 14 | .fan => 15 | .fanDev => 16 | .panel => 17
  | .bus => 18 | .snap => 19

/-- The section with an ID, if any (R347). -/
def Sec.ofId (n : Nat) : Option Sec := Sec.all.find? (fun s => s.id == n)

/-- The words of a section. -/
def Image.sec (img : Image) (s : Sec) : List Word := nth img s.index

/-- Word w of instance i of a section (R357's addressing). -/
def Image.word (img : Image) (s : Sec) (i w : Nat) : Word := (img.sec s).getD (i * s.words + w) 0

/-- Write word w of instance i of a section. -/
def Image.setWord (img : Image) (s : Sec) (i w : Nat) (v : Word) : Image :=
  upd img s.index (fun ws => ws.set (i * s.words + w) v)

/-- Write consecutive words from a flat word index of a section on. -/
def Image.setWords (img : Image) (s : Sec) (start : Nat) (vs : List Word) : Image :=
  upd img s.index (fun ws => ws.take start ++ vs ++ ws.drop (start + vs.length))

/-- The words of one instance. -/
def Image.inst (img : Image) (s : Sec) (i : Nat) : List Word :=
  ((img.sec s).drop (i * s.words)).take s.words

/-- The field map of one word: reset value, reserved bits, and the bits of each class (R12, R33). -/
structure WordDef where
  reset : Nat := 0
  rsv : Nat := 0
  live : Nat := 0
  staged : Nat := 0
  locked : Nat := 0
deriving DecidableEq, Repr, Inhabited

/-- All 32 bits. -/
def all32 : Nat := 0xFFFFFFFF

end Sys2Proof.Machine
end

