-- ==== Sys2Proof/Machine/FieldMap.lean ====
section
/-! DEFINITION. The field map of every configuration word: reset value, reserved bits, locked and staged bits; the rest is live (R33, R347 and the chapters' tables). -/

namespace Sys2Proof.Machine

/-- A word whose fields are all live, but for reserved bits. -/
def wLive (reset : Nat) (rsv : Nat := 0) : WordDef := { reset := reset, rsv := rsv, live := all32 - rsv }

/-- A word whose fields are all locked. -/
def wLock (reset : Nat) (rsv : Nat := 0) : WordDef := { reset := reset, rsv := rsv, locked := all32 - rsv }

/-- A word with some locked bits; the rest is live. -/
def wMix (reset locked rsv : Nat) : WordDef :=
  { reset := reset, rsv := rsv, locked := locked, live := all32 - rsv - locked }

/-- Reserved words. -/
def wRsv : WordDef := { rsv := all32 }

/-- R55, R56. -/
def chainDef : Nat → WordDef
  | 0 => wMix 0 (2 ^ 10 + 3) (bmask 31 11)
  | 1 => wMix 0x3FF (bmask 10 0) (bmask 31 17)
  | _ => wLock 0xBAEA (bmask 31 16)

/-- R189. -/
def timeDef : Nat → WordDef
  | 0 => wLive 4 (bmask 23 6)
  | _ => wLive 0 (bmask 31 24 + bmask 13 11)

/-- R103, R104. -/
def ainDef : Nat → WordDef
  | 0 => wLive 0xA0000 (bmask 31 28 + 3)
  | 1 => wLive 0x10000
  | _ => wLive 0

/-- R105. -/
def modDef (i : Nat) : WordDef := if i < 12 then wLive 0x1FF (bmask 31 9) else wLive 0x1F (bmask 31 8)

/-- R111. -/
def presDef : Nat → WordDef
  | 0 => wLive 0x22842 (bmask 31 20)
  | 1 => wLive 0x140000
  | _ => wLive 0xC0000

/-- R115: limits that no value passes. -/
def hkLimDef (w : Nat) : WordDef := if w = 0 then wLive 0x80000002 else wLive 0x7FFFFFFE

/-- R143. -/
def stoneDef : Nat → WordDef
  | 0 => wMix 0 1 (bmask 31 2)
  | 1 => wLock 0xF4240
  | _ => wLock 0x989680

/-- R29, R30, R153: does loop l's `ACTION` reset to direct: the cooling, humidity and fan loops. -/
def loopDirect (l : Nat) : Bool := if l ≤ 96 then l % 3 != 1 else decide (l ≤ 112)

/-- R29, R30, R153: `SRC_CLASS` and `SRC_INDEX` of loop l at reset. -/
def loopSrcReset (l : Nat) : Nat :=
  if l ≤ 96 then (let z := (l - 1) / 3; if l % 3 = 0 then 3 * z + 1 else 3 * z)
  else if l ≤ 112 then 6 * (l - 97)
  else at' 3 14

/-- R153, R154, R180. -/
def loopDef (i : Nat) : Nat → WordDef
  | 0 => wMix (at' (32 * (i + 1)) 20 + at' 8 16 + 16 + at' 2 2 + at' (b2n (loopDirect (i + 1))) 1 +
           b2n (decide (i + 1 ≤ 112))) (bmask 31 8 + bmask 3 0) (bmask 7 5)
  | 1 => { reset := loopSrcReset (i + 1), rsv := bmask 23 16 + bmask 13 7, live := bmask 31 24,
           staged := bmask 15 14 + bmask 6 0 }
  | 2 => wLive 0xFFFF0000
  | 3 => { live := bmask 31 16 }
  | 4 => wLive 0x8000
  | 5 => wLive 0x290 (bmask 31 16)
  | 11 => wRsv
  | _ => wLock 0 (bmask 31 30 + bmask 23 18)

/-- R217, R345. -/
def zoneDef (z : Nat) : Nat → WordDef
  | 0 => wLive (at' 3 16 + at' 1 15 + 9) (bmask 31 24)
  | 1 => wLive (at' 30 24 + at' 60 16 + at' 60 8 + 10)
  | 2 => wLive 0x09600834
  | 3 => wLive 0x0A28076C
  | 4 => wLive 0x0AF00640
  | 5 => wLive 0x0DAC0320
  | 6 => wLive 0x157C (bmask 31 16)
  | 7 => wLive (at' 10 16 + at' 10 8 + (3 * z + 2)) (bmask 31 24 + 2 ^ 7)
  | 8 => wLive (at' 179 24 + at' 24 16 + at' 6 8 + at' 3 4 + 2)
  | 9 => wLive (at' 20 8 + 30) (bmask 31 16)
  | 10 => wLive (at' (3 * z + 1) 24 + at' (3 * z + 2) 16 + at' (3 * z + 3) 8 + 3 * z) (2 ^ 7)
  | _ => wLive (at' 1 15 + at' (3 * z + 1) 8 + z) (bmask 31 16 + bmask 7 5)

/-- R199. -/
def profDef (w : Nat) : WordDef := if w = 0 then wLive 0x012C0960 else wLive 0x258 (bmask 31 16)

/-- R191: two event words. -/
def schedDef : WordDef := wLive 0 (bmask 28 27 + bmask 12 11)

/-- R201. -/
def solDef : WordDef := wMix (at' 3 8) (bmask 31 26 + bmask 23 17) (bmask 25 24 + bmask 7 0)

/-- R249. -/
def actDef (n : Nat) : Nat → WordDef
  | 0 => wMix (at' 3 29 + at' 2 27 + at' (3 * n + 1) 20 + at' (3 * n + 2) 13 + at' n 8 + 0xC0) (bmask 31 7) 3
  | 1 => wLive (at' 200 22 + at' 50 12 + at' 100 2) 3
  | 2 => wLive (at' 30 24 + at' 20 16 + at' 20 8 + 100)
  | 3 => wLive (at' 63 24 + at' 20 18 + at' 120 10 + at' 5 5 + 2)
  | 4 => wLive (at' 100 20)
  | _ => wLive 0 (bmask 31 16)

/-- R250. -/
def actDevDef (w : Nat) : WordDef :=
  if w = 0 then wMix (at' 160 24 + at' 80 16 + at' 2 8) 3 (bmask 15 12 + bmask 7 2)
  else wLive (at' 144 16 + at' 80 8 + 1) (bmask 31 24 + bmask 7 1)

/-- R266. -/
def fanDef (f w : Nat) : WordDef :=
  if w = 0 then
    wMix (at' 1 30 + at' (97 + f) 23 + at' 1 21 + at' 1 19 + at' 1 18 + at' 4 12 + at' 40 4 + 1)
      (bmask 31 22 + 1) (bmask 3 1)
  else wLive 30 (bmask 31 10)

/-- R298. -/
def panelDef : Nat → WordDef
  | 0 => wMix (at' 1 27 + at' 800 17 + at' 600 7) (bmask 31 28 + bmask 26 7) (bmask 6 0)
  | 1 => wLock (at' 4 28 + at' 20 20 + at' 4 16 + at' 2 12) (bmask 11 0)
  | 2 => wLive (at' 128 24 + at' 1 23 + at' 15 19 + at' 2 12 + at' 10 4) (bmask 3 0)
  | 3 => wLive (at' 1 15 + at' 95 8) (bmask 31 16 + bmask 7 4)
  | _ => wLive 30 (bmask 31 9)

/-- R373. -/
def busDef (w : Nat) : WordDef :=
  if w = 0 then wMix 0 (2 ^ 7 + 2 ^ 6 + bmask 3 2) (bmask 31 8 + 2)
  else if w = 1 then wLock 0x30D400 (bmask 31 22)
  else if w ≤ 3 then wLock (at' 2 20 + at' 1 16 + at' 127 8 + 1) (bmask 31 23 + 2 ^ 7)
  else if w ≤ 9 then wLock 0
  else if w = 10 then wLock 0xBAC0 (bmask 31 16)
  else if w = 11 then wLock 0
  else if w = 12 then wLock (at' 600 16 + 0xBAC0)
  else if w = 13 then wLive (at' 3000 16 + at' 3 12 + 200)
  else if w = 15 then wLive 0x10000
  else if w ≤ 16 then wLive 0x199A
  else if w ≤ 20 then wLive 0
  else if w ≤ 22 then wLive (at' 7 24 + at' 100 16 + at' 100 8 + 200) (bmask 31 27)
  else if w ≤ 30 then wLive 0
  else if w ≤ 46 then wLive 0xF0000000
  else wRsv

/-- R400. -/
def snapDef (w : Nat) : WordDef :=
  if w ≤ 4 then wLive 0xF000F000
  else if w = 5 then wLive 0 (2 ^ 23)
  else if w = 6 then wLive 60 (bmask 31 16)
  else wLive 0 (bmask 25 16)

/-- The field map of word w of instance i of a section. -/
def wdef (s : Sec) (i w : Nat) : WordDef :=
  match s with
  | .chain => chainDef w
  | .time => timeDef w
  | .gpio => wLive 0x20 (bmask 31 8 + 3)
  | .ain => ainDef w
  | .mod => modDef i
  | .pres => presDef w
  | .hkLim => hkLimDef w
  | .stone => stoneDef w
  | .loop => loopDef i w
  | .zone => zoneDef i w
  | .prof => profDef w
  | .sched => schedDef
  | .sol => solDef
  | .act => actDef i w
  | .actDev => actDevDef w
  | .fan => fanDef i w
  | .fanDev => wLive 5000 (bmask 31 13)
  | .panel => panelDef w
  | .bus => busDef w
  | .snap => snapDef w

/-- The words of a section, in order, from the field map. -/
def secReset (s : Sec) : List Word :=
  (List.range (s.instances * s.words)).map (fun k => w32 (wdef s (k / s.words) (k % s.words)).reset)

/-- R353: the reset values of every field map, the default binding. -/
def Image.reset : Image := Sec.all.map secReset

/-! ## The stored slot (R347, R348) -/

/-- R347: a section's header. -/
def secHeader (s : Sec) : List Byte := le8 s.id ++ zeros 1 ++ le16 s.instances ++ le16 s.words ++ zeros 2

/-- R347: the image's body. -/
def Image.body (img : Image) : List Byte := Sec.all.flatMap (fun s => secHeader s ++ wordsBytes (img.sec s))

/-- R347: the length of the body. -/
def bodyLen : Nat := 15132

/-- Read the sections of a body; none where a section header differs from R347 or the body is too short. -/
def readSecs : List Sec → List Byte → Option (List (List Word))
  | [], b => if b.isEmpty then some [] else none
  | s :: t, b =>
    let n := s.instances * s.words
    if b.length < 8 + 4 * n ∨ b.take 8 ≠ secHeader s then none
    else (readSecs t (b.drop (8 + 4 * n))).map (fun r => getWords b 8 n :: r)

/-- R348: the 60 bytes of a slot header before its CRC. -/
def slotHead (seq : Word) (bodyCrc : Nat) (origin1 : Bool) (version sigOfs sigLen : Nat) : List Byte :=
  le32 0x5A334346 ++ le16 1 ++ le16 20 ++ leW seq ++ le32 bodyLen ++ le32 bodyCrc ++ le8 (b2n origin1) ++ zeros 3 ++
  le32 version ++ le32 sigOfs ++ le32 sigLen ++ zeros 24

/-- R348: a slot header with its `HDR_CRC`. -/
def slotHeader (seq : Word) (img : Image) (origin1 : Bool) (version : Nat) : List Byte :=
  let sigOfs := if origin1 then 64 + bodyLen + 128 else 0
  let h := slotHead seq (crc32c img.body) origin1 version sigOfs (if origin1 then 8668 else 0)
  h ++ le32 (crc32c h)

/-- R348: the image in a slot or in a configuration payload: header checks, body and sections; none where a check fails. -/
def Image.ofSlot (b : List Byte) : Option Image :=
  let body := slice b 64 bodyLen
  if getW b 0 = 0x5A334346 ∧ getH b 4 = 1 ∧ getH b 6 = 20 ∧ getW b 0x0C = bodyLen ∧ 64 + bodyLen ≤ b.length ∧
     getW b 0x10 = crc32c body ∧ getB b 0x14 ≤ 1 ∧ slice b 0x15 3 = zeros 3 ∧ slice b 0x24 24 = zeros 24 ∧
     getW b 0x3C = crc32c (b.take 0x3C) then readSecs Sec.all body
  else none

end Sys2Proof.Machine
end

