-- ==== Sys2Proof/Machine/StateAct.lean ====
section
/-! DEFINITION. State of the actuator drive (07, R220-R253) and of the fans (08, R254-R269). -/

namespace Sys2Proof.Machine

/-- Where a channel stands (R226, R232, R252). -/
inductive ActPh where
  | off
  | decay
  | peak (boosted : Bool)
  | on
deriving DecidableEq, Repr, Inhabited

/-- R252 `WAIT_CAUSE`. -/
inductive WaitCause where
  | none | minOff | budget | quiet | slot | pairSwitch | piConc | reversal
deriving DecidableEq, Repr, Inhabited

def WaitCause.code : WaitCause → Nat
  | .none => 0 | .minOff => 1 | .budget => 2 | .quiet => 3 | .slot => 4
  | .pairSwitch => 5 | .piConc => 6 | .reversal => 7

/-- One actuator channel. -/
structure ActCh where
  /-- R228: the host request. -/
  req : Nat := 0
  ph : ActPh := .off
  /-- R238: the minimum off-time has passed since the decay ended. -/
  offReady : Bool := true
  /-- R226, R246: the decay in progress runs through the freewheel switch, and not through the recovery path. -/
  slowDecay : Bool := false
  /-- R232: after its peak the current falls from `I_PULL` to `I_HOLD` by fast decay into VBST. -/
  toHold : Bool := false
  /-- R123: local MC at which the channel came to be off. -/
  offMc : Word := 0
  /-- R123: local MC of the last PWM period in which a pull-in of the channel was pending. -/
  pullMc : Word := 0
  wait : WaitCause := .none
  /-- R244: the channel has left the queue and waits for its pair switch to run a degraded peak. -/
  degWait : Bool := false
  degraded : Bool := false
  peakCnt : Nat := 0
  degCnt : Nat := 0
  /-- The peak's `I_PULL` (units of 5 mA) and, in reference periods of Chain, its end. -/
  iPull : Nat := 0
  peakEnd : Nat := 0
  /-- R245, R252 `OVERRIDE`. -/
  ovr : Bool := false
  /-- R240: the condition of the last PWM period: 0 none, 1 Hold, 2 safe state, 3 power-fail warning, 4 fault. -/
  cond : Nat := 0
  /-- R253: a boosted peak has run since the last degraded one. -/
  sinceBoost : Bool := false
  shortSup : Bool := false
  shortGnd : Bool := false
  chOt : Bool := false
  openLoad : Bool := false
  retryLeft : Nat := 0
  /-- R239: conducting and all PWM periods of the last 64 buckets, newest first, and of the bucket in progress. -/
  buckets : List (Nat × Nat) := []
  curOn : Nat := 0
  curAll : Nat := 0
  dutyHold : Bool := false
  /-- R239: `DUTY_NOW` as conducting and all periods. -/
  dutyNow : Nat × Nat := (0, 0)
  /-- R234: THERMAL: the latched request, its `TH_PERIOD`, the on-phase, and an on-phase ended by a condition. -/
  thR : Nat := 0
  thPeriod : Nat := 0
  thOn : Bool := false
  /-- R234: the MC in which the THERMAL period in progress began. -/
  thMc : Option Word := none
  /-- R241: k < 1; the current the regulator is set to, in mA. -/
  scaled : Bool := false
  iSet : Rat := 0
  /-- R252 `I_MEAS`, mA. -/
  iMeas : Nat := 0
  /-- R231: the free-running dither phase, in 1/20,000 of a cycle. -/
  dithPh : Nat := 0
  /-- R235, R236: FLOAT of the pair, held by the even channel: position, direction (true opens), overrun ended, resync due, reversal pause passed. -/
  flX : Rat := 0
  flDir : Option Bool := none
  flOver : Bool := false
  flSync : Bool := true
  flRevOk : Bool := true
deriving DecidableEq, Repr, Inhabited

/-- One pair node (R220, R243, R246). -/
structure ActPair where
  off : Bool := false
  /-- The channel whose boosted peak engages the pull-in switch. -/
  boost : Option Nat := none
  /-- Time of the last release of the pull-in switch, in reference periods. -/
  relAt : Option Nat := none
deriving DecidableEq, Repr, Inhabited

/-- A queued pull-in (R243, R244): the channel and the first slot start at which it was queued. -/
structure QEntry where
  ch : Nat := 0
  t0 : Option Nat := none
deriving DecidableEq, Repr, Inhabited

/-- The actuator drive. -/
structure Act where
  ch : List ActCh := List.replicate 32 {}
  pairs : List ActPair := List.replicate 16 {}
  queue : List QEntry := []
  /-- Boost (R225, R227, R246, R247, R252). -/
  fault : Bool := false
  latched : Bool := false
  faultRetry : Nat := 0
  bstUv : Bool := false
  bstOv : Bool := false
  bstOc : Bool := false
  bypass : Bool := false
  /-- R448: at Throttle, a burst of the converter runs; MC and PT in which the last one ended. -/
  burst : Bool := false
  burstEnd : Option (Word × Nat) := none
  clamp : Bool := false
deriving DecidableEq, Repr, Inhabited

/-- R259: fan channel states. -/
inductive FanSt where
  | stopped | pending | kick | pause | run | policy | disabled
deriving DecidableEq, Repr, Inhabited

def FanSt.code : FanSt → Nat
  | .stopped => 0 | .pending => 1 | .kick => 2 | .pause => 3 | .run => 4 | .policy => 5 | .disabled => 6

/-- One fan channel. -/
structure Fan where
  /-- R256: the output is released until the control path is; the state reads STOPPED. -/
  st : FanSt := .stopped
  req : Nat := 0
  ovr : Bool := false
  blocked : Bool := false
  tachLost : Bool := false
  wasRunning : Bool := false
  slow : Bool := false
  fails : Nat := 0
  rpm : Nat := 0
  /-- R262: timestamps of the accepted edges that count, newest first, at most 5, and how many there have been. -/
  edges : List Nat := []
  edgeCnt : Nat := 0
  /-- R255, R268: on-cycles of the last period, and the `PWM_DIV` it ran with. -/
  onCyc : Nat := 0
  /-- R260: the duty applied in POLICY was 1. -/
  polOne : Bool := false
  div : Nat := 5000
  startCnt : Nat := 0
  /-- R261: when it entered PENDING; R266: when its last kick began, in reference periods, and the `KICK_T` it began with. -/
  pendAt : Nat := 0
  kickAt : Nat := 0
  kickT : Nat := 0
deriving DecidableEq, Repr, Inhabited

/-- The fans. -/
structure Fans where
  ch : List Fan := List.replicate 16 {}
  /-- R261: the channels in PENDING, in the order in which they entered it. -/
  queue : List Nat := []
  /-- R261: the MC in which the last kick began at a PT 0. -/
  kickMc : Option Word := none
  /-- R254: the channel whose PWM period begins next. -/
  next : Nat := 0
deriving DecidableEq, Repr, Inhabited

end Sys2Proof.Machine
end

