-- ==== Sys2Proof/Machine/StateBushel.lean ====
section
/-! DEFINITION. State of Bushel and of the NVM with its write queue (13, 18, R21, R491-R495). -/

namespace Sys2Proof.Machine

/-- Memory: address and byte pairs in rising address order, none equal to what an unlisted address reads as. -/
abbrev Memory := List Host.Cell

/-- A happening deposited in Bushel's ring, with its snapshot (R399, R401, R423, R491). -/
structure Happening where
  typ : Nat := 0
  sev : Nat := 0
  /-- `SOURCE` with `INSTANCE` (R396). -/
  source : Nat := 0
  snapSet : Nat := 0
  snapOk : Bool := false
  snap : List Word := List.replicate 10 0
  /-- R400 `REP_WIN` of its set, or 60 (R401). -/
  repWin : Nat := 60
  /-- Local MC of the happening. -/
  mc : Word := 0
deriving DecidableEq, Repr, Inhabited

/-- A record (R396). -/
structure Rec where
  serial : Word := 0
  typ : Nat := 0
  sev : Nat := 0
  snapSet : Nat := 0
  snapOk : Bool := false
  source : Nat := 0
  rep : Nat := 0
  pcc : Nat := 0
  lastDopt : Nat := 0
  opt : Nat := 0
  mc : Word := 0
  /-- R53: local PT at creation; the 64 bytes of R396 have no place for it, so a record read back from the log has none. -/
  pt : Option Nat := none
  snap : List Word := List.replicate 10 0
deriving DecidableEq, Repr, Inhabited

/-- R403: where a buffered record stands on its way to NVM. -/
inductive BufSt where
  | unqueued | queued
deriving DecidableEq, Repr, Inhabited

/-- One entry of the 16-entry buffer (R404). -/
structure BufEntry where
  record : Rec := {}
  st : BufSt := .unqueued
  /-- R402: local MC of its last occurrence. -/
  lastMc : Word := 0
deriving DecidableEq, Repr, Inhabited

/-- R402: the last record, as merges see it. -/
structure LastRec where
  record : Rec := {}
  repWin : Nat := 60
  /-- Local MC of its last occurrence. -/
  lastMc : Word := 0
  /-- Its slot once stored (R403). -/
  slot : Option Nat := none
deriving DecidableEq, Repr, Inhabited

/-- R403 `PEND_REP`: a record with its pending count and last occurrence applied, and how many are pending. -/
structure Pend where
  record : Rec := {}
  count : Nat := 0
deriving DecidableEq, Repr, Inhabited

/-- R403: the outstanding rewrite of codeword 0: the record as it is being written, and how many pending occurrences it applies. -/
structure Rewrite where
  record : Rec := {}
  applied : Nat := 0
deriving DecidableEq, Repr, Inhabited

/-- One stored record in Bushel's index (R410). -/
structure IndexEntry where
  slot : Nat := 0
  serial : Word := 0
  sev : Nat := 0
  /-- R402: local MC of its last occurrence; of a record found at start-up a free value, since its MC was another count's. -/
  lastMc : Word := 0
deriving DecidableEq, Repr, Inhabited

/-- R415: one set's minimum and maximum with their operating times. -/
structure Extreme where
  min : Int := 2147483647
  minOpt : Nat := 0
  max : Int := -2147483648
  maxOpt : Nat := 0
deriving DecidableEq, Repr, Inhabited

/-- R415: the summary image in management SRAM. -/
structure Summary where
  seq : Word := 0
  failCause : Nat := 0
  failSerial : Word := 0
  failOpt : Nat := 0
  failMc : Word := 0
  failPcc : Nat := 0
  typeCnt : List Nat := List.replicate 16 0
  sevCnt : List Nat := List.replicate 8 0
  srcCnt : List Nat := List.replicate 128 0
  hist : List (List Nat) := List.replicate 16 (List.replicate 16 0)
  ext : List Extreme := List.replicate 16 {}
  dropped : List Nat := List.replicate 8 0
  failLiveSev : List Nat := List.replicate 8 0
  writeFails : Nat := 0
  /-- The copy in force, 0 or 1; none while neither is valid. -/
  copy : Option Nat := none
deriving DecidableEq, Repr, Inhabited

/-- Bushel (R396-R417). -/
structure Bushel where
  /-- R491: the happening ring, oldest first, at most 64. -/
  ring : List Happening := []
  /-- R404: the buffer, in serial order, at most 16. -/
  buf : List BufEntry := []
  nextSerial : Word := 1
  last : Option LastRec := none
  /-- R403: records with occurrences pending a rewrite of codeword 0; a rewrite is outstanding. -/
  pend : List Pend := []
  rewriting : Option Rewrite := none
  /-- R410: the index of stored records. -/
  index : List IndexEntry := []
  /-- R408: empty slots of the pool; slots never used from `fresh` on; other free slots. -/
  pool : List Nat := []
  fresh : Nat := 0
  freeSlots : List Nat := []
  /-- R409: victims chosen and not yet cleared. -/
  clearing : List IndexEntry := []
  logFull : Bool := false
  scanDone : Bool := false
  scanErr : Nat := 0
  /-- R412 `DROPPED`. -/
  dropped : List Nat := List.replicate 8 0
  /-- R417: local MC of the last increment of a `DROPPED` counter. -/
  lastDropMc : Option Word := none
  writeFails : Nat := 0
  /-- R413: consecutive failed slot writes; the serial whose write is being retried. -/
  consecFails : Nat := 0
  retrying : Option Word := none
  /-- R405, R408, R410: a flush has been triggered before the scan's end, or the empty pool has cut one short. -/
  flushDue : Bool := false
  flushes : Nat := 0
  lastFlushMc : Word := 0
  /-- R408: a flush has completed, and the pool is to be restored. -/
  poolDue : Bool := false
  summaryMode : Bool := false
  failCause : Nat := 0
  sum : Summary := {}
  /-- R416, R493: a summary write is due that waits until the operation in entry 1 has verified or failed. -/
  sumDue : Bool := false
  /-- Local MC of the last summary write and of the last histogram sample. -/
  lastSumMc : Word := 0
  lastHistMc : Word := 0
  /-- R406: no NVM write starts after the power-fail flush. -/
  closed : Bool := false
deriving DecidableEq, Repr, Inhabited

/-- One codeword write of the NVM: bank, codeword number, 32 bytes. -/
structure CwWrite where
  bank : Nat := 0
  cw : Nat := 0
  data : List Byte := []
deriving DecidableEq, Repr, Inhabited

/-- What waits for a write of the management state: nothing, the EMPTY of an erased bank, an activation, a written image, an attestation. -/
inductive MgtWhy where
  | plain | erase | activate | image | attest
deriving DecidableEq, Repr, Inhabited

/-- What an NV operation is for (R493), which says what its verification completes. -/
inductive NvJob where
  | record (serial : Word) (slot : Nat)
  | rewrite (slot : Nat)
  | clear (slot : Nat)
  | summary (copy : Nat)
  | summaryFail
  | commit
  | stone
  | solSlot (slot : Nat)
  | solZone (zone : Nat)
  | mgtState (why : MgtWhy)
  | waveform (slot : Nat)
  | otp
  | otpConfirm (thermo : Nat) (revoke : Bool)
  | host
  | flash
  | flashErase (bank : Nat)
  | pfRecord (serial : Word) (slot : Nat)
deriving DecidableEq, Repr, Inhabited

/-- One operation of the NV write queue: its remaining codewords (of a management-state write they are those of the image that its requester submits when its turn comes, R460), and those written. -/
structure NvOp where
  job : NvJob := .host
  cws : List CwWrite := []
  /-- The codewords of it that have been written: bank and number. -/
  written : List (Nat × Nat) := []
deriving DecidableEq, Repr, Inhabited

/-- The NVM and its write queue (R18, R21, R493). -/
structure Nvm where
  bank0 : Memory := []
  bank1 : Memory := []
  /-- Codewords that read as uncorrectable (R20): bank and number. -/
  bad : List (Nat × Nat) := []
  /-- R493: of each of the 8 entries, first the operation submitted to it, then those its requester holds back until that one has verified or failed. -/
  queue : List (List NvOp) := List.replicate 8 []
  /-- R493: the priority-3 entry served last, and the consecutive codewords of entries 0 and 1. -/
  rr : Nat := 7
  consec01 : Nat := 0
  /-- R495: per entry, operations whose command an application-core restart has taken away. -/
  orphans : List Nat := List.replicate 8 0
  /-- R428, R451: no codeword starts. -/
  halted : Bool := false
deriving DecidableEq, Repr, Inhabited

end Sys2Proof.Machine
end

