-- ==== Sys2Proof/Machine/StateChain.lean ====
section
/-! DEFINITION. State of Chain and Acre (02_chain_timebase.md, R38-R72, R530, R532; R392-R395). -/

namespace Sys2Proof.Machine

/-- R57 `STATE`: the five states of Chain. -/
inductive ChainSt where
  | start | acquire | locked | holdover | synthetic
deriving DecidableEq, Repr, Inhabited

/-- R57 `STATE` coding. -/
def ChainSt.code : ChainSt → Nat
  | .start => 0 | .acquire => 1 | .locked => 2 | .holdover => 3 | .synthetic => 4

/-- R57 `ACRE_STATE`. -/
inductive AcreSt where
  | disabled | seeking | candidate | member | master | duplicate
deriving DecidableEq, Repr, Inhabited

/-- R57 `ACRE_STATE` coding. -/
def AcreSt.code : AcreSt → Nat
  | .disabled => 0 | .seeking => 1 | .candidate => 2 | .member => 3 | .master => 4 | .duplicate => 5

/-- Chain (R41-R50, R530). Times are counted in 24.000 MHz reference periods from the start of reset release. -/
structure Chain where
  /-- R57 `STATE`. -/
  st : ChainSt := .start
  /-- R10, R532: local mains cycle count. -/
  mc : Word := 0
  /-- R48: phase tick. -/
  pt : BitVec 12 := 0
  /-- R49: time of the start of the PT in progress, in reference periods. -/
  now : Nat := 0
  /-- R49: time at which the MC in progress began. -/
  mcStart : Nat := 0
  /-- R49, R50: length of the MC in progress, in reference periods. -/
  curLen : Nat := 480000
  /-- R50 `len_next`: a corrected length waiting for the next MC. -/
  nextLen : Option Nat := none
  /-- R57 `MISSED`: consecutive missing crossings. -/
  missed : Nat := 0
  /-- R57 `SLEWING`. -/
  slewing : Bool := false
  /-- R50 e: the last phase error, in PT. -/
  phaseErr : Int := 0
  /-- R44 c: the expected crossing's PT. -/
  expect : Int := 0
  /-- R50 `p_est`: frequency estimate as an MC length, in reference periods. -/
  pEst : Nat := 480000
  /-- R530: time of the previous accepted crossing. -/
  lastCross : Option Int := none
  /-- R43: measured period of the accepted cycle before. -/
  lastPeriod : Option Nat := none
  /-- R46, R47: the last accepted periods, newest first, at most 20. -/
  periods : List Nat := []
  /-- R43: consecutive consistent cycles. -/
  consec : Nat := 0
  /-- R44: the acceptance window (by the MC of its centre) whose first crossing has come. -/
  winUsed : Option Word := none
  /-- R44: the acceptance window whose crossing was accepted. -/
  winAccepted : Option Word := none
  /-- R44, R45: the last acceptance window counted as missing. -/
  winMissed : Option Word := none
  /-- R136, R454: `X24_PPM` in force, and the one in force when the frequency estimate was taken. -/
  x24 : Int := 0
  x24Base : Int := 0
  /-- R54: the place in the order of one PT that the activities started so far in this PT have reached; 0 at its start. -/
  stage : Nat := 0
deriving DecidableEq, Repr, Inhabited

/-- One join held by a master (R72, R365). -/
structure Join where
  id : Nat := 0
  cls : Nat := 0
  slot : Nat := 0
  channels : Nat := 0
  /-- Local MC of its last JOIN (R394). -/
  lastMc : Word := 0
deriving DecidableEq, Repr, Inhabited

/-- R62, R392, R394: a UDP datagram as it is sent: addresses, ports, checksum field, the message's bytes, and the hardware's send stamp (MC, PT). -/
structure Datagram where
  src : Nat := 0
  dst : Nat := 0
  srcPort : Nat := 0
  dstPort : Nat := 0
  checksum : Nat := 0
  bytes : List Byte := []
  stampMc : Word := 0
  stampPt : Nat := 0
deriving DecidableEq, Repr, Inhabited

/-- Acre (R57-R72). -/
structure Acre where
  /-- R67 `ACRE_STATE`. -/
  st : AcreSt := .disabled
  /-- R57 `CLASS_RESOLVED`. -/
  resolved : Bool := false
  /-- R57 `PHASE_CLASS` in force. -/
  cls : Nat := 0
  /-- R57 `AMC_OFFSET` in force. -/
  offset : Word := 0
  /-- R60: class and offset that step in at the next MC boundary. -/
  pend : Option (Nat × Word) := none
  /-- R60: the differing resolution result and how many consecutive beacons it has persisted. -/
  cand : Option (Nat × Word) := none
  candCnt : Nat := 0
  /-- R60, R69: the next resolution is the first, or the first after a change of master. -/
  fresh : Bool := true
  /-- R68: the offset has been aligned with this master without a class. -/
  aligned : Bool := false
  /-- R63: D of the last beacons from the current master, newest first, at most 8. -/
  window : List Int := []
  /-- R57: Acre ID of the current master. -/
  master : Option Nat := none
  /-- Source address of the current master (R394). -/
  masterAddr : Nat := 0
  /-- R57 `MASTER_HOLDOVER`, `NOMINAL_MISMATCH`. -/
  masterHoldover : Bool := false
  nominalMismatch : Bool := false
  /-- R57 `STAGGER_SLOT`, `SLOT_ASSIGNED`; a new slot waits for the MC boundary (R72). -/
  slot : Nat := 0
  slotAssigned : Bool := false
  slotPend : Option Nat := none
  /-- R72, R394: joins held by a master. -/
  members : List Join := []
  /-- R392 `A_SEQ`: the sender's count of messages. -/
  seq : BitVec 16 := 0
  /-- R394: beacons since the last JOIN; a first JOIN has been sent to this master; a SLOT has been received from it. -/
  sinceJoin : Nat := 0
  joined : Bool := false
  gotSlot : Bool := false
  /-- R67: local MC of the last beacon from the master, or of entry into the state. -/
  sinceMc : Word := 0
  /-- R392: the last message sent, for the wire. -/
  sent : Option Datagram := none
  /-- R53, R68: the AMC of the building MC whose beacon building PT 0 has released and the wire has not taken. -/
  beaconDue : Option Word := none
  /-- R62: the hardware's stamp (MC, PT) of the last frame received on `PORT`. -/
  rxMc : Word := 0
  rxPt : Nat := 0
deriving DecidableEq, Repr, Inhabited

end Sys2Proof.Machine
end

