-- ==== Sys2Proof/Machine/StatePanel.lean ====
section
/-! DEFINITION. State of Quire, the panel engine, and of the key matrix (09, R270-R308). -/

namespace Sys2Proof.Machine

/-- R282: where the rails stand. The number is the rail's place in the power-on order VNEG, VGL, VPOS, VGH, VCOM, or in the power-off order, which is its reverse. -/
inductive RailSt where
  | off
  | rising (i : Nat)
  | riseDelay (i : Nat)
  | on
  | falling (i : Nat)
  | fallDelay (i : Nat)
  /-- R291: moving to a band's settings: the rails (by power-on place) at power-good. -/
  | moving (band : Nat) (good : List Nat)
  | moveDelay (band : Nat)
deriving DecidableEq, Repr, Inhabited

/-- A rectangle (R7). -/
structure Rect where
  x0 : Nat := 0
  y0 : Nat := 0
  x1 : Nat := 0
  y1 : Nat := 0
deriving DecidableEq, Repr, Inhabited

/-- R285: an update request. -/
structure PnlReq where
  rect : Rect := {}
  mode : Nat := 0
  tag : Nat := 0
  partialUpd : Bool := false
  /-- R285: the blink period in s. -/
  blink : Option Nat := none
deriving DecidableEq, Repr, Inhabited

/-- R287-R293: a running region. -/
structure Region where
  req : PnlReq := {}
  band : Nat := 0
  f : Nat := 0
  n : Nat := 0
  /-- R293: a phase is in progress; false between phases. -/
  driving : Bool := true
  /-- R293: phases started, the MC and PT of the start, and a stop asked for. -/
  phase : Nat := 1
  startMc : Word := 0
  startPt : Nat := 0
  stopping : Bool := false
  /-- R288: the frame in progress drives it. -/
  playing : Bool := false
  /-- R292: an abort waits for the next frame slot; abort balancing: frames still to play. -/
  aborting : Bool := false
  balance : Option Nat := none
deriving DecidableEq, Repr, Inhabited

/-- R284: the clearing update. -/
inductive ClearSt where
  | none
  /-- Waits up to 2 s for a valid panel temperature. -/
  | waitTemp
  | due
  | running (mode level band f n : Nat)
deriving DecidableEq, Repr, Inhabited

/-- Quire. -/
structure Panel where
  /-- R274, R275: the frame memory, two bytes per word; the line-CRC table stands above the pixel words. -/
  frame : Memory := []
  /-- R280: the waveform payload in force, and a staged one. -/
  wf : Option (List Byte) := none
  wfPend : Option (List Byte) := none
  /-- R464: the NVM slot of the table in force and of the staged one, and the containers' versions (R466). -/
  wfSlot : Nat := 1
  wfPendSlot : Nat := 0
  wfVer : Word := 0
  wfPendVer : Word := 0
  /-- R280: a fetch met an uncorrectable error; the table is reloaded before a region drives again. -/
  wfBad : Bool := false
  /-- R280: the regions that the frame in progress drives with code 0 for it: bit n is region n, bit 0 the clearing update. -/
  fetchBad : Nat := 0
  bandRun : Nat := 0
  bandMeas : Nat := 0
  bandPend : Bool := false
  tempInvalid : Bool := true
  /-- R281: a valid temperature has come since reset. -/
  tempSeen : Bool := false
  rails : RailSt := .off
  /-- R282: settings of the rails in mV, in power-on order. -/
  railMv : List Int := [0, 0, 0, 0, 0]
  fault : Bool := false
  cause : Nat := 0
  cleared : Bool := false
  clearing : ClearSt := .none
  queue : List PnlReq := []
  /-- R287: regions 1-15 at index n - 1. -/
  regions : List (Option Region) := List.replicate 15 none
  /-- R294: the next frame slot is left empty. -/
  rest : Bool := false
  /-- R272: the frame in progress drives. -/
  driving : Bool := false
  /-- R295: consecutive failing crack checks. -/
  crackFails : Nat := 0
deriving DecidableEq, Repr, Inhabited

/-- One entry of the key FIFO (R306). -/
structure KeyEntry where
  mc : Nat := 0
  press : Bool := false
  stuck : Bool := false
  key : Nat := 0
deriving DecidableEq, Repr, Inhabited

/-- The key matrix (R301-R308). -/
structure Keys where
  /-- Debounced down, and consecutive scans that read the opposite. -/
  down : List Bool := List.replicate 64 false
  opp : List Nat := List.replicate 64 0
  /-- R305: local MC since which a key has been debounced down. -/
  since : List Word := List.replicate 64 0
  stuck : List Bool := List.replicate 64 false
  /-- R303: unmasked keys down after the scan before. -/
  prev : List Nat := []
  acc : Option Nat := none
  phantom : Bool := false
  fifo : List KeyEntry := []
  drop : Nat := 0
  ovf : Bool := false
deriving DecidableEq, Repr, Inhabited

end Sys2Proof.Machine
end

