-- ==== Sys2Proof/Machine/StateRood.lean ====
section
/-! DEFINITION. State of Rood (05, R146-R180), of zone logic, profiles and Solstice (06, R181-R219, R534). -/

namespace Sys2Proof.Machine

/-- R170: the four states of a loop. -/
inductive LoopSt where
  | disabled | opened | closed | fault
deriving DecidableEq, Repr, Inhabited

/-- R158 `STATE`. -/
def LoopSt.code : LoopSt → Nat
  | .disabled => 0 | .opened => 1 | .closed => 2 | .fault => 3

/-- What one commit of Rood replaces together (R151, R156-R158, R161-R163). The stages are in the order MEAS, SP, ERR, INT, FF, DEM. -/
structure LoopDyn where
  st : LoopSt := .disabled
  exps : List Int := List.replicate 6 (-32)
  hr : List Nat := List.replicate 6 0
  fresh : List Bool := List.replicate 6 true
  meas : Int := 0
  sp : Int := 0
  err : Int := 0
  int : Int := 0
  ff : Int := 0
  demV : Int := 0
  demW : Int := 0
  /-- `LOOP_OUT` (R157); `outClosed` is its `CLOSED`. -/
  out : Nat := 0
  outClosed : Bool := false
  prov : Bool := false
  holding : Bool := false
  outLim : Bool := false
  override : Bool := false
  tag : Nat := 0
  /-- `LOOP_STATUS` (R158): saturated and clipped stages, as bit 5 for MEAS to bit 0 for DEM. -/
  satStg : Nat := 0
  clipStg : Nat := 0
  invalidRun : Nat := 0
  sampleMc : Word := 0
  clipCnt : Nat := 0
deriving DecidableEq, Repr, Inhabited

/-- R149-R151: an evaluation on its way to its commit: what it will commit, the `SLOT` latched with it, the open it has taken with the `OUT_HOLD` that sets, the staged source it applies, and whether it cancels the close now posted. -/
structure LoopEval where
  dyn : LoopDyn := {}
  slot : Nat := 0
  opened : Option (Option Nat) := none
  hold : Option Nat := none
  source : Option Word := none
  closeOver : Bool := false
deriving DecidableEq, Repr, Inhabited

/-- One loop context (R152-R158). -/
structure Loop where
  dyn : LoopDyn := {}
  /-- R155: the input words. -/
  spIn : Word := 0
  ffIn : Word := 0
  hostMeas : Word := 0x80000001
  provIn : Bool := false
  hostMc : Word := 0
  /-- R195: the share m / `DEW_RAMP`, within 0 to 1, that the dew guard allows of the way from `OUT_MIN` to `OUT_MAX`; none without a guard. -/
  dewShare : Option Rat := none
  /-- R171: an open that waits for the next evaluation, with the value it names. -/
  openReq : Option (Option Nat) := none
  /-- R158 `CLOSE_PENDING`, `HOLD_FORCED`. -/
  closePend : Bool := false
  holdForced : Bool := false
  /-- R188: the host-open latch. -/
  hostOpen : Bool := false
  overrun : Nat := 0
  /-- R177, R19: a context word is uncorrectable. -/
  poison : Bool := false
  /-- R149: the commit buffer of an evaluation that has not reached its commit. -/
  eval : Option LoopEval := none
  /-- R175: the loop's first sample has still to take `OUT_SAFE` into `OUT_HOLD`, and to post the close of `AUTO_CLOSE`. -/
  startHold : Bool := false
  startClose : Bool := false
deriving DecidableEq, Repr, Inhabited

/-- R197: one trajectory of a profile generator, as binary64 values. -/
structure Traj where
  x : Rat := 0
  v : Rat := 0
  a : Rat := 0
deriving DecidableEq, Repr, Inhabited

/-- R213: speculation states. -/
inductive SpecSt where
  | idle | provisional | rollback | suppressed
deriving DecidableEq, Repr, Inhabited

def SpecSt.code : SpecSt → Nat
  | .idle => 0 | .provisional => 1 | .rollback => 2 | .suppressed => 3

/-- R183: the eight modes. -/
inductive ZMode where
  | off | protect | unocc | standby | occ | provisional | manual | fault
deriving DecidableEq, Repr, Inhabited

def ZMode.code : ZMode → Nat
  | .off => 0 | .protect => 1 | .unocc => 2 | .standby => 3 | .occ => 4
  | .provisional => 5 | .manual => 6 | .fault => 7

/-- R183: a mode in which the loops are controlled. -/
def ZMode.controlled : ZMode → Bool
  | .off | .fault => false
  | _ => true

/-- R185, R186: manual mode with its pair (0.01 °C) and what remains of its duration in MC. -/
structure Manual where
  heat : Int := 0
  cool : Int := 0
  left : Option Nat := none
deriving DecidableEq, Repr, Inhabited

/-- One zone (R181-R219). -/
structure Zone where
  hostOff : Bool := false
  manual : Option Manual := none
  /-- R185: the committed mode. -/
  cm : ZMode := .off
  /-- R184 O_c. -/
  occ : Bool := false
  /-- R218 `SCHED_MODE`. -/
  sm : ZMode := .off
  calInvalid : Bool := true
  /-- R194: COOL rather than HEAT; the setting last made by `ZONE.CHANGEOVER`. -/
  cool : Bool := false
  coHost : Bool := false
  /-- R175, R183: no pass has run since the release. -/
  first : Bool := true
  windowOpen : Bool := false
  faultCond : Bool := false
  comfort : Bool := false
  dewActive : Bool := false
  dewInvalid : Bool := false
  /-- The MC since which the condition that would change `windowOpen`, the FAULT state, the changeover state or the comfort alarm has held without a break; `okSince` is that of a valid temperature input. -/
  winSince : Option Word := none
  fltSince : Option Word := none
  okSince : Option Word := none
  coSince : Option Word := none
  comfSince : Option Word := none
  /-- Speculation (R213, R218). -/
  spec : SpecSt := .idle
  /-- R213 t_pred, as local seconds of the calendar. -/
  tPred : Nat := 0
  specEnter : Nat := 0
  specCommit : Nat := 0
  specRollback : Nat := 0
  specCancel : Nat := 0
  /-- Trajectories of the heating, cooling and humidity loops (R212); none before the first target (R200). -/
  committed : List (Option Traj) := [none, none, none]
  actual : List (Option Traj) := [none, none, none]
  /-- R211: probabilities of the 2,016 weekly bins. -/
  prob : List Nat := List.replicate 2016 0
  /-- R211 `OCC_HOURS` and its remainder, in 1/1024 h × 3,600 × f_nom. -/
  occHours : Nat := 0
  occSub : Nat := 0
  /-- R211: passes of the bin in progress, those with O_c = 1, and whether the bin is skipped. -/
  binPasses : Nat := 0
  binOcc : Nat := 0
  binSkip : Bool := false
deriving DecidableEq, Repr, Inhabited

/-- One Solstice slot (R201-R207). -/
structure SolSlot where
  bins : List Int := List.replicate 2016 0
  exp : Int := -32
  hr : Nat := 0
  acc : Rat := 0
  cnt : Nat := 0
  expCnt : Nat := 0
  slSat : Bool := false
  /-- R208 `PX_UPDATES`. -/
  updates : Nat := 0
deriving DecidableEq, Repr, Inhabited

/-- Rood, zone logic and Solstice. -/
structure Rood where
  /-- Context l at index l; index 0 is no context (R146). -/
  loops : List Loop := List.replicate 128 {}
  zones : List Zone := List.replicate 32 {}
  slots : List SolSlot := List.replicate 64 {}
  /-- R209: the next slot and zone table of the rotation. -/
  rotSlot : Nat := 0
  rotZone : Nat := 0
  /-- R209, R493: the zone table of this turn waits for the operation of its slot. -/
  zoneDue : Bool := false
  /-- R206: loops that a slot has left, by `SL_EN` or `LOOP`, since the last pass. -/
  ffDue : List Nat := []
  /-- R181: the MC of the last zone-logic pass. -/
  passMc : Option Word := none
  /-- R19: the application core has stopped and its watched inputs were not watched (R186): the delays restart at the next pass. -/
  delaysReset : Bool := false
deriving DecidableEq, Repr, Inhabited

end Sys2Proof.Machine
end

