-- ==== Sys2Proof/Machine/State.lean ====
section
/-! DEFINITION. The state of the Z3200: every register, buffer, counter, mode and pin the spec gives it, and the queue of waiting commands. -/

namespace Sys2Proof.Machine

/-- The whole machine. -/
structure State where
  chain : Chain := {}
  acre : Acre := {}
  host : HostIf := {}
  mbox : Mbox := {}
  evt : Events := {}
  cfg : Cfg := {}
  gpio : Gpio := {}
  bushel : Bushel := {}
  nvm : Nvm := {}
  sup : Supply := {}
  backup : Backup := {}
  clk : Clk := {}
  therm : Therm := {}
  mgt : Mgt := {}
  test : Scruple := {}
  jtag : Jtag := {}
  bus : Bus := {}
  sens : Sens := {}
  stone : Stone := {}
  rood : Rood := {}
  act : Act := {}
  fans : Fans := {}
  panel : Panel := {}
  keys : Keys := {}
  /-- The commands that wait, first in, first out. -/
  pending : List Instr := []
  /-- The model's own counter of free values drawn (notes/assumptions/2.md). -/
  free : Nat := 0
deriving DecidableEq, Repr

/-- R537: the management state of a part as delivered. -/
def mgtDelivered : MgtRec :=
  { floorFw := w32 Config.verARelease.toNat, verA := w32 Config.verARelease.toNat }

/-- The machine right after the application of VMAIN: the part as delivered (R4, R468, R473, R536, R537), its main domain held in reset with the outputs of R434, nothing queued. `POWER_UP` takes it through start-up. -/
def State.reset : State :=
  { cfg := { inForce := Image.reset, committed := Image.reset, stored := Image.reset },
    mgt := { mr := mgtDelivered } }

/-- Faults: there are none. A block raises an interrupt line, an event or an error flag where a processor would stop, and each of these is part of its state; no command of the table is left without an effect by the spec. -/
inductive Fault where
deriving DecidableEq, Repr

/-- Why a step is refused. -/
inductive Refusal where
  /-- No meaning has been given to the command yet; no arm raises it, since every command has one. Safe: a refused step claims nothing. -/
  | notModelled (mnemonic : String)
deriving DecidableEq, Repr

end Sys2Proof.Machine
end

