-- ==== Sys2Proof/Machine/Ops.lean ====
section
/-! DEFINITION. The shared operations over memory, the NVM write queue, the configuration image and the timebase (R8, R10, R18-R21, R33-R36, R59, R347, R460, R493). -/

namespace Sys2Proof.Machine

/-! ## Free values -/

/-- The free value the next draw gives (notes/assumptions/2.md). -/
def State.freeNat (s : State) : Nat := (Config.freeWord s.free).toNat

/-- The state after one draw. -/
def State.draw (s : State) : State := { s with free := s.free + 1 }

/-! ## Memory -/

/-- Put a value at an address of a cell list, or take the address out of it. -/
def Memory.put : Memory → Nat → Option Byte → Memory
  | [], _, none => []
  | [], a, some b => [(a, b)]
  | c :: t, a, v =>
    if a < c.1 then
      match v with
      | none => c :: t
      | some b => (a, b) :: c :: t
    else if a = c.1 then
      match v with
      | none => t
      | some b => (a, b) :: t
    else c :: Memory.put t a v

/-- The byte at an address; d says what an unlisted address reads as. -/
def Memory.read (d : Nat → Byte) (m : Memory) (a : Nat) : Byte :=
  match m.find? (fun c => c.1 == a) with
  | some c => c.2
  | none => d a

/-- Write one byte, keeping the canonical form. -/
def Memory.write (d : Nat → Byte) (m : Memory) (a : Nat) (b : Byte) : Memory :=
  m.put a (if b = d a then none else some b)

/-- Write consecutive bytes. -/
def Memory.writes (d : Nat → Byte) (m : Memory) (a : Nat) : List Byte → Memory
  | [] => m
  | b :: bs => Memory.writes d (m.write d a b) (a + 1) bs

/-- Read n consecutive bytes. -/
def Memory.reads (d : Nat → Byte) (m : Memory) (a : Nat) : Nat → List Byte
  | 0 => []
  | n + 1 => m.read d a :: Memory.reads d m (a + 1) n

/-- The canonical form: addresses strictly rising from a bound on, no entry equal to the default. -/
def Memory.wfFrom (d : Nat → Byte) (lo : Nat) : Memory → Bool
  | [] => true
  | c :: t => decide (lo ≤ c.1) && decide (c.2 ≠ d c.1) && Memory.wfFrom d (c.1 + 1) t

def Memory.wf (d : Nat → Byte) (m : Memory) : Bool := Memory.wfFrom d 0 m

/-! ## The NVM (R18, R20, R21, R460) -/

/-- R21: region bases in bank 0. -/
def nvCfgBase : Nat := 0x00000
def nvWfBase : Nat := 0x20000
def nvSolBase : Nat := 0x60000
def nvStoneBase : Nat := 0xA0000
def nvSumBase : Nat := 0xA4000
def nvMgtBase : Nat := 0xAC000
def nvHostBase : Nat := 0xB4000

/-- R460: the 252 bytes of a management-state copy before its CRC. -/
def mgtBody (r : MgtRec) : List Byte :=
  le32 0x5A334D52 ++ leW r.seq ++ leW r.floorFw ++ leW r.floorWf ++ leW r.floorCfg ++
  le8 r.stateA.code ++ le8 r.stateB.code ++ le8 r.active ++ le8 r.trialBoots ++
  leW r.verA ++ leW r.verB ++ leW r.attCount ++ zeros 216

/-- R460: a management-state copy with its `MR_CRC`. -/
def mgtBytes (r : MgtRec) : List Byte :=
  let b := mgtBody r
  b ++ le32 (crc32c b)

/-- R4, R353, R460, R537: what a byte of NVM bank 0 holds on a part as delivered: the wrapped key's two copies, one management-state copy, and 0 elsewhere. -/
def nvDefault0 (a : Nat) : Byte :=
  if a < nvMgtBase then 0
  else if a < nvMgtBase + 0x800 then
    let o := (a - nvMgtBase) % 1024
    if h : o < 988 then Config.wrappedKey ⟨o, h⟩ else 0
  else if a < nvMgtBase + 0x900 then (mgtBytes mgtDelivered).getD (a - nvMgtBase - 0x800) 0
  else 0

/-- R397, R408: bank 1 holds an empty log on a part as delivered. -/
def nvDefault1 (_ : Nat) : Byte := 0

/-- The default contents of a bank. -/
def nvDefault (bank : Nat) : Nat → Byte := if bank = 0 then nvDefault0 else nvDefault1

/-- The cells of a bank. -/
def Nvm.bank (n : Nvm) (b : Nat) : Memory := if b = 0 then n.bank0 else n.bank1

def Nvm.setBank (n : Nvm) (b : Nat) (m : Memory) : Nvm :=
  if b = 0 then { n with bank0 := m } else { n with bank1 := m }

/-- n bytes of the NVM. -/
def nvRead (n : Nvm) (bank a len : Nat) : List Byte := (n.bank bank).reads (nvDefault bank) a len

/-- R20: does a byte range touch an uncorrectable codeword. -/
def nvBad (n : Nvm) (bank a len : Nat) : Bool :=
  n.bad.any (fun c => c.1 == bank && decide (a / 32 ≤ c.2) && decide (c.2 * 32 < a + len))

/-- Write one codeword; it then reads without error. -/
def nvWriteCw (n : Nvm) (w : CwWrite) : Nvm :=
  let n1 := n.setBank w.bank ((n.bank w.bank).writes (nvDefault w.bank) (w.cw * 32) w.data)
  { n1 with bad := n1.bad.filter (fun c => !(c.1 == w.bank && c.2 == w.cw)) }

/-- The codeword writes that put bytes at an address of a bank, in ascending order, the rest of each codeword unchanged. -/
def nvCws (n : Nvm) (bank a : Nat) (bs : List Byte) : List CwWrite :=
  let first := a / 32
  let count := if bs.isEmpty then 0 else (a + bs.length - 1) / 32 + 1 - first
  let whole := splice (nvRead n bank (first * 32) (count * 32)) (a - first * 32) bs
  (List.range count).map (fun k => { bank := bank, cw := first + k, data := slice whole (k * 32) 32 })

/-- R493: a requester's next operation: submitted at once when its entry is empty, else held back behind its previous ones. -/
def nvSubmit (n : Nvm) (entry : Nat) (op : NvOp) : Nvm :=
  { n with queue := upd n.queue entry (fun l => l ++ [op]) }

/-- Does an entry hold an operation. -/
def nvBusy (n : Nvm) (entry : Nat) : Bool := !(nth n.queue entry).isEmpty

/-- R493: an entry of priority 3 with a codeword waiting, round-robin after the one served last. -/
def nvShared (n : Nvm) : Option Nat :=
  ((List.range 6).map (fun k => 2 + (n.rr - 1 + k) % 6)).find? (fun e => nvBusy n e)

/-- R493: the entry the controller serves next. -/
def nvNext (n : Nvm) : Option Nat :=
  let high := if nvBusy n 0 then some 0 else if nvBusy n 1 then some 1 else none
  match high, nvShared n with
  | some h, some e => if 8 ≤ n.consec01 then some e else some h
  | some h, none => some h
  | none, r => r

/-! ## The configuration in force (R33-R36, R347) -/

/-- A word of the configuration in force. -/
def State.cw (s : State) (sec : Sec) (i w : Nat) : Word := s.cfg.inForce.word sec i w

/-- A field of the configuration in force. -/
def State.cf (s : State) (sec : Sec) (i w hi lo : Nat) : Nat := fld (s.cw sec i w) hi lo

/-- A bit of the configuration in force. -/
def State.cb (s : State) (sec : Sec) (i w n : Nat) : Bool := bit (s.cw sec i w) n

/-- R56 `ACRE_ID`. -/
def State.acreId (s : State) : Nat := s.cf .chain 0 1 9 0
/-- R55 `NOMINAL`: 60 Hz. -/
def State.nominal60 (s : State) : Bool := s.cb .chain 0 0 1
/-- R55 `MODE`: synthetic. -/
def State.synthetic (s : State) : Bool := s.cb .chain 0 0 0

/-- MC per second at nominal frequency, the measure of Bushel's and other second counts (R402, R405). -/
def State.mcPerSec (s : State) : Nat := if s.nominal60 then 60 else 50

/-- Seconds as MC at nominal frequency. -/
def State.secMc (s : State) (sec : Nat) : Nat := sec * s.mcPerSec

/-- MC elapsed since a stamp. -/
def State.mcSince (s : State) (a : Word) : Nat := (s.chain.mc - a).toNat

/-! ## Building time (R59) -/

/-- R59: Δc. -/
def deltaC (c : Nat) : Nat := if c = 1 then 1365 else if c = 2 then 2731 else 0

/-- R65: the class in use; 0 while unresolved. BPT and AMC follow a change of `CLASS_RESOLVED` alone at once, inside the MC (DESIGN CHOICE, notes/assumptions/77.md). -/
def State.cls (s : State) : Nat := if s.acre.resolved then s.acre.cls else 0

/-- R59: BPT. -/
def State.bpt (s : State) : Nat := (s.chain.pt.toNat + deltaC s.cls) % 4096

/-- R59: AMC. -/
def State.amc (s : State) : Word :=
  s.chain.mc + s.acre.offset + (if 4096 ≤ s.chain.pt.toNat + deltaC s.cls then 1 else 0)

/-- R68: the beacon interval in MC. -/
def State.beaconInterval (s : State) : Nat := if s.nominal60 then 480 else 400

/-- R71: the first PT of the device's stagger slot, in own PT; R65: class 0 while unresolved. -/
def State.slotPt (s : State) : Nat := (64 * s.acre.slot + 4096 - deltaC s.cls) % 4096

/-! ## Conditions over the whole machine -/

/-- R439: the safe state is in force. -/
def State.safe (s : State) : Bool :=
  s.sup.safeThermal || s.sup.safeClock || s.sup.safeSram || s.sup.safeSupv || s.sup.safePfw

/-- The control path is released (R436). -/
def State.released (s : State) : Bool := s.sup.phase == .running

/-- The main domain is out of reset and past step 5 of start-up (R310, R435). -/
def State.alive (s : State) : Bool := s.sup.phase == .starting || s.sup.phase == .running

/-- R321 `THERM`: the level in force, Shutdown not shown. -/
def State.thermLevel (s : State) : Nat :=
  if s.therm.critical.entered then 3 else if s.therm.throttle.entered then 2
  else if s.therm.warning.entered then 1 else 0

/-- R448: Throttle or a higher level is in force. -/
def State.throttled (s : State) : Bool := 2 ≤ s.thermLevel

/-- The application core executes commands (R327, R333); it runs from the system PLL (R22, R440). -/
def State.appUp (s : State) : Bool := s.alive && s.clk.pllLocked && s.mbox.ready && !s.mbox.appRestart

/-- R22, R440: what a block clocked from the system PLL does; while the PLL is unlocked it stands. -/
def onPll (s t : State) : State := if s.clk.pllLocked then t else s

/-- R424: the calendar as reported, 0xFFFF_FFFF while invalid (R355). -/
def State.calWord (s : State) : Word := if s.backup.calValid then s.backup.calendar else 0xFFFFFFFF

/-- R424: write a fault into the last-fault word. -/
def writeFault (cause source detail value : Nat) (s : State) : State :=
  let e : LfEntry := { cause := cause, source := source, detail := detail, value := value,
                       pcc := s.backup.pcc.toNat, opt := s.backup.opt.toNat, mc := s.chain.mc,
                       time := s.calWord.toNat }
  { s with backup.lfInit := true, backup.lfCount := incSat 16 s.backup.lfCount,
           backup.lf := (e :: s.backup.lf).take 2 }

end Sys2Proof.Machine
end

