-- ==== Sys2Proof/Machine/Status.lean ====
section
/-! DEFINITION. The status words and blocks that the window, the status commands and the signal catalogue report (R57, R321, R322, R337, R354, R433, R458, R478). -/

namespace Sys2Proof.Machine

/-! ## Events and host window -/

/-- R321 `EVT_PEND`. -/
def State.evtPend (s : State) : Bool := (s.evt.summary &&& s.evt.mask) != 0

/-- R336, R434: HIRQ_N is driven low; it is released until the release of the control path. -/
def State.hirqLow (s : State) : Bool := s.released && s.host.irqEn && s.evtPend

/-- R322 `HOST_ERR` [7:0]. -/
def HostErr.byte (e : HostErr) : Nat :=
  at' (b2n e.mbOvr) 7 + at' (b2n e.mbSeq) 6 + at' (b2n e.proto) 5 + at' (b2n e.unmapped) 4 +
  at' (b2n e.abort) 2 + at' (b2n e.align) 1 + b2n e.crc

/-- R321 `HW_STATUS`. -/
def State.hwStatus (s : State) : Word :=
  w32 (at' s.chain.st.code 16 + at' (b2n s.safe) 15 + at' s.thermLevel 13 +
    at' (b2n s.mbox.appRestart) 12 + at' s.sup.mode.code 10 + at' (b2n s.mbox.ready) 7 +
    at' (b2n s.evtPend) 6 + at' (b2n (s.mbox.outSt.contains .full)) 5 +
    at' (b2n (s.mbox.inSt.contains .free)) 4 + at' (b2n (!s.evt.queue.isEmpty)) 3 +
    at' (b2n (s.host.err.byte != 0)) 2 + at' (b2n s.host.crcEn) 1 + b2n s.host.hsel)

/-- R322 `HOST_ERR`. -/
def State.hostErr (s : State) : Word := w32 (at' s.host.crcCnt 16 + s.host.err.byte)

/-- R322 `HOST_CFG`. -/
def State.hostCfg (s : State) : Word := w32 (at' (b2n s.host.irqEn) 1 + b2n s.host.crcEn)

/-- R324 `MB_IN_STATE`, `MB_OUT_STATE`. -/
def State.mbInState (s : State) : Word :=
  w32 ((List.range 4).foldl (fun a i => a + at' (nth s.mbox.inSt i).code (2 * i)) 0)
def State.mbOutState (s : State) : Word :=
  w32 ((List.range 4).foldl (fun a i => a + at' (nth s.mbox.outSt i).code (2 * i)) 0)

/-- R337 `EVQ_HEAD0`. -/
def State.evqHead0 (s : State) : Word :=
  match s.evt.queue with
  | [] => 0
  | e :: _ => w32 (at' 1 31 + at' (e.source % 128) 24 + at' (e.code % 256) 16 + e.detail % 65536)

/-- R337 `EVQ_HEAD1`. -/
def State.evqHead1 (s : State) : Word :=
  match s.evt.queue with
  | [] => 0
  | e :: _ => e.mc

/-- Word k of one of the 128-bit event registers (R320). -/
def evWord (v : BitVec 128) (k : Nat) : Word := (v >>> (32 * k)).setWidth 32

/-! ## Chain (R57) -/

/-- R530 L: Chain's current MC length by its frequency estimate, in reference periods. -/
def State.freqLen (s : State) : Nat := s.chain.pEst

/-- R57 `CHAIN_STATUS`. -/
def State.chainStatus (s : State) : Word :=
  w32 (at' (b2n s.acre.nominalMismatch) 20 + at' (b2n s.acre.masterHoldover) 19 +
    at' (b2n s.acre.slotAssigned) 18 + at' (s.acre.slot % 64) 12 + at' s.acre.st.code 9 +
    at' (b2n s.acre.resolved) 8 + at' (s.acre.cls % 4) 6 + at' (s.chain.missed % 4) 4 +
    at' (b2n s.chain.slewing) 3 + s.chain.st.code)

/-- R57: the Chain status block, five words. `FREQ_MHZ` is truncated, and the Acre ID of the current master reads 0xFFFF in a device that is itself MASTER (DESIGN CHOICE, notes/assumptions/77.md). -/
def State.chainBlock (s : State) : List Word :=
  [ s.chainStatus,
    w32 (if s.freqLen = 0 then 0 else 24000000000 / s.freqLen),
    s.chain.mc, s.acre.offset,
    w32 (at' (s.acre.master.getD 0xFFFF % 65536) 16 + wrap 16 s.chain.phaseErr) ]

/-! ## Supplies (R433) -/

/-- R433 `RESET_CAUSE`. -/
def State.resetCause (s : State) : Word :=
  w32 (at' (b2n s.sup.safePfw) 28 + at' (b2n s.sup.safeSupv) 27 + at' (b2n s.sup.safeSram) 26 +
    at' (b2n s.sup.safeClock) 25 + at' (b2n s.sup.safeThermal) 24 + at' (b2n s.sup.vbatLow) 22 +
    at' (b2n s.sup.optRestored) 21 + at' (b2n s.sup.vbatLost) 20 +
    (match s.sup.cause with | none => 0 | some c => at' 1 c.bit))

/-- R424: one entry of the last-fault word, 24 bytes. -/
def lfBytes (e : LfEntry) : List Byte :=
  le8 e.cause ++ le8 e.source ++ le16 e.detail ++ le32 e.value ++ le32 (e.pcc % 2 ^ 24) ++
  le32 e.opt ++ leW e.mc ++ le32 e.time

/-- R424: the 64-byte last-fault word. -/
def State.lastFault (s : State) : List Byte :=
  let e0 := match s.backup.lf[0]? with | some e => lfBytes e | none => zeros 24
  let e1 := match s.backup.lf[1]? with | some e => lfBytes e | none => zeros 24
  le32 (if s.backup.lfInit then 0x5A334C46 else 0) ++ le16 s.backup.lfCount ++ zeros 2 ++ e0 ++ e1 ++ zeros 8

/-! ## Configuration (R354) -/

/-- R349: the locator as the responses carry it. -/
def Locator.bytes (l : Locator) : List Byte := le8 l.sec ++ zeros 1 ++ le16 l.inst ++ le16 l.word ++ zeros 2

/-! ## Security (R458, R478) -/

/-- R458: a key slot is filled when its `RSA_HASH` is not all 0; slot 0 is Balloth's. -/
def Otp.filled (o : Otp) (slot : Nat) : Bool :=
  if slot = 0 then true
  else if 4 ≤ slot then false
  else ((o.keys.getD (slot - 1) []).take 32).any (fun b => b != 0)

/-- R458: the `RSA_HASH` and `SLH_PK` of a slot. -/
def Otp.rsaHash (o : Otp) (slot : Nat) : List Byte :=
  if slot = 0 then (List.finRange 32).map Config.key0Hash else slice (o.keys.getD (slot - 1) []) 0 32
def Otp.slhPk (o : Otp) (slot : Nat) : List Byte :=
  if slot = 0 then (List.finRange 32).map Config.key0Slh else slice (o.keys.getD (slot - 1) []) 32 32

/-- R458 `PROV_FLAGS`. -/
def Otp.flags (o : Otp) : Nat :=
  b2n o.provisioned + at' (b2n o.signedCfg) 1 + at' (b2n o.postBist) 2 + at' (b2n o.debugLock) 3 +
  at' (b2n o.revokeOnConfirm) 4

/-- R458: the revoked slots as a bit mask. -/
def Otp.revokedMask (o : Otp) : Nat := maskOf 4 (fun k => o.revoked.getD k false)

/-- R458: OTP bytes 0x000-0x13F, the ones the attestation covers. -/
def Otp.publicBytes (o : Otp) : List Byte :=
  le 8 Config.serial.toNat ++ le 8 Config.lot.toNat ++
  (List.finRange 4).flatMap (fun k => leW ((Config.vrefFact k).setWidth 32)) ++
  le8 o.pfwTh ++ le8 o.flags ++ le8 o.revokedMask ++ zeros 1 ++ (o.kind.flatMap (fun k => le8 k)) ++
  le 8 (2 ^ o.thermo - 1) ++ zeros 16 ++
  (List.range 4).flatMap (fun k => o.rsaHash k ++ o.slhPk k)

/-- R458: the 512 bytes of the OTP: after the public ones `KWK`, `DEV_SLH_SK` and the reserved end. -/
def Otp.bytes (o : Otp) : List Byte :=
  o.publicBytes ++ (List.finRange 32).map Config.kwk ++ (List.finRange 64).map Config.devSlhSk ++ zeros 96

/-- R459: what a reader of the OTP sees: the whole of it the management ROM and the cryptographic engine only; any other the public bytes. -/
def Otp.seenBy (o : Otp) (romOrEngine : Bool) : List Byte := if romOrEngine then o.bytes else o.publicBytes

/-- The bank with its state and version. -/
def MgtRec.bankSt (r : MgtRec) (b : Nat) : BankSt := if b = 0 then r.stateA else r.stateB
def MgtRec.bankVer (r : MgtRec) (b : Nat) : Word := if b = 0 then r.verA else r.verB
def MgtRec.setBank (r : MgtRec) (b : Nat) (st : BankSt) (v : Word) : MgtRec :=
  if b = 0 then { r with stateA := st, verA := v } else { r with stateB := st, verB := v }
def MgtRec.setSt (r : MgtRec) (b : Nat) (st : BankSt) : MgtRec := r.setBank b st (r.bankVer b)

/-- R468, R470: a bank is in TRIAL. -/
def MgtRec.inTrial (r : MgtRec) : Bool := r.stateA == .trial || r.stateB == .trial

/-- R478 `SEC_FLAGS`. -/
def State.secFlags (s : State) : Word :=
  let o := s.mgt.otp
  w32 (at' o.thermo 16 + at' (maskOf 4 (fun k => o.filled k)) 12 + at' o.revokedMask 8 +
    at' (b2n s.mgt.mr.inTrial) 7 + at' s.mgt.mr.active 6 + at' (b2n s.mgt.mrLost) 5 +
    at' (b2n o.revokeOnConfirm) 4 + at' (b2n o.postBist) 3 + at' (b2n o.signedCfg) 2 +
    at' (b2n o.debugLock) 1 + b2n o.provisioned)

/-- R2 `HW_ID`. -/
def hwId : Word := 0x32000A01

end Sys2Proof.Machine
end

