-- ==== Sys2Proof/Machine/StoneCoef.lean ====
section
/-! DEFINITION. Stone's coefficients: the factory model, interpolation, the coefficients in force, set records and the NV store (R118, R132-R141, R144, R145). -/

namespace Sys2Proof.Machine

/-- R143 `MODE`: host mode. -/
def State.calHost (s : State) : Bool := s.cb .stone 0 0 0

/-- R118: a straight line through two values, at 25 °C and 85 °C, evaluated at a Q16.16 temperature. -/
def factLine (a b : Int) (t : Int) : Rat :=
  (a : Rat) + ((b - a : Int) : Rat) * ((t : Rat) / 65536 - 25) / 60

/-- R118, R133: the factory VREF model as `VREF_DEV`; `VREF_FACT` holds VREF in units of 2^-24 of nominal. -/
def factVrefDev (t : Int) : Int :=
  rneQ (factLine (Config.vrefFact 0).toNat (Config.vrefFact 1).toNat t) - 2 ^ 24

/-- R118: the factory VREF:band-gap ratio at a temperature, in units of 2^-24 of nominal. -/
def factRatio (t : Int) : Rat := factLine (Config.vrefFact 2).toNat (Config.vrefFact 3).toNat t

/-- R133: the uncalibrated values at a die temperature. -/
def uncalSet (t : Int) : CalSet := { temp := t, vrefDev := factVrefDev t }

/-- The valid NV sets in ascending temperature (R134). -/
def insertSet (x : CalSet) : List CalSet → List CalSet
  | [] => [x]
  | y :: t => if x.temp < y.temp then x :: y :: t else y :: insertSet x t

def sortSets (l : List CalSet) : List CalSet := l.foldr insertSet []

/-- R134: interpolation of one field. -/
def lerp (w : Rat) (a b : Int) : Int := rneQ ((a : Rat) + w * ((b - a : Int) : Rat))

/-- R134: interpolation of a pair of fields. -/
def lerp2 (w : Rat) (a b : Int × Int) : Int × Int := (lerp w a.1 b.1, lerp w a.2 b.2)

/-- R134: interpolation of every coefficient field between two sets. -/
def lerpSet (w : Rat) (a b : CalSet) : CalSet :=
  { a with fmod := List.zipWith (List.zipWith (lerp2 w)) a.fmod b.fmod,
           pmod := List.zipWith (List.zipWith (lerp2 w)) a.pmod b.pmod,
           hmod := lerp2 w a.hmod b.hmod, exc := List.zipWith (lerp2 w) a.exc b.exc,
           vrefDev := lerp w a.vrefDev b.vrefDev, act := List.zipWith (lerp w) a.act b.act,
           die := List.zipWith (lerp w) a.die b.die, x32 := lerp w a.x32 b.x32, x24 := lerp w a.x24 b.x24 }

/-- R134: the sets between which a temperature lies, below the last one. -/
def interp (t : Int) : List CalSet → Option CalSet
  | [] => none
  | [a] => some a
  | a :: b :: rest =>
    if t ≤ a.temp then some a
    else if t < b.temp then
      some (lerpSet (((t - a.temp : Int) : Rat) / ((b.temp - a.temp : Int) : Rat)) a b)
    else interp t (b :: rest)

/-- R133: Stone has no valid set. -/
def State.uncal (s : State) : Bool :=
  if s.calHost then s.stone.hostSet.isNone else !s.stone.sets.any (·.valid)

/-- R132-R134: the coefficients in force at the present die temperature. -/
def State.coefs (s : State) : CalSet :=
  let t := s.sens.dieTemp
  if s.calHost then s.stone.hostSet.getD (uncalSet t)
  else ((interp t (sortSets (s.stone.sets.filter (·.valid)))).map (fun c => { c with temp := t })).getD (uncalSet t)

/-- R135, R136: the coefficients a modulator latches at a round start. -/
def State.modCoef (s : State) (m : Nat) : ModCoef :=
  let c := s.coefs
  let row := if m < 12 then nth c.fmod m else if m < 20 then nth c.pmod (m - 12) else [c.hmod]
  let e := if m < 12 then nth c.exc m else (0, 0)
  { ofs := row.map (·.1), gerr := row.map (·.2), eg := e.1, eo := e.2, vrefDev := c.vrefDev,
    die := c.die }

/-- R132, R134: the valid set nearest in temperature. -/
def nearestSet (t : Int) (l : List CalSet) : Option CalSet :=
  match l.filter (·.valid) with
  | [] => none
  | a :: rest => some (rest.foldl (fun b x => if (x.temp - t).natAbs < (b.temp - t).natAbs then x else b) a)

/-- R145: a pair as s16 offset and s16 gain error. -/
def pairBytes (p : Int × Int) : List Byte := le16 (wrap 16 p.1) ++ le16 (wrap 16 p.2)

/-- R145: a set record of 768 bytes. -/
def CalSet.bytes (c : CalSet) : List Byte :=
  leI32 c.temp ++ le32 c.opt ++ le16 (b2n c.valid + at' (b2n c.kept10) 1 + at' (b2n c.kept11) 2) ++ zeros 2 ++
  le32 c.actSkip ++ zeros 16 ++ c.fmod.flatMap (fun r => r.flatMap pairBytes) ++
  c.pmod.flatMap (fun r => r.flatMap pairBytes) ++ pairBytes c.hmod ++
  c.exc.flatMap (fun p => leI32 p.1 ++ leI32 p.2) ++ leI32 c.vrefDev ++
  c.act.flatMap (fun x => le16 (wrap 16 x)) ++ c.die.flatMap (fun x => le16 (wrap 16 x)) ++ zeros 2 ++
  le16 (wrap 16 c.x32) ++ le16 (wrap 16 c.x24) ++ zeros 8

/-- A signed little-endian field. -/
def getS (b : List Byte) (o n : Nat) : Int := sext (8 * n) (getLe b o n)

/-- R145: a set from its record. -/
def CalSet.ofBytes (b : List Byte) : CalSet :=
  let pair (o : Nat) : Int × Int := (getS b o 2, getS b (o + 2) 2)
  { temp := getS b 0 4, opt := getW b 4, valid := (getH b 8).testBit 0, kept10 := (getH b 8).testBit 1,
    kept11 := (getH b 8).testBit 2, actSkip := getW b 0x0C,
    fmod := (List.range 12).map (fun m => (List.range 8).map (fun g => pair (0x20 + 32 * m + 4 * g))),
    pmod := (List.range 8).map (fun m => (List.range 5).map (fun g => pair (0x1A0 + 20 * m + 4 * g))),
    hmod := pair 0x240,
    exc := (List.range 12).map (fun m => (getS b (0x244 + 8 * m) 4, getS b (0x248 + 8 * m) 4)),
    vrefDev := getS b 0x2A4 4, act := (List.range 32).map (fun n => getS b (0x2A8 + 2 * n) 2),
    die := (List.range 5).map (fun k => getS b (0x2E8 + 2 * k) 2), x32 := getS b 0x2F4 2, x24 := getS b 0x2F6 2 }

/-- R145: the reserved bytes of a record are 0 and its flags are defined. -/
def calRecordOk (b : List Byte) : Bool :=
  decide (getH b 8 < 8) && (slice b 0x0A 2).all (· == 0) && (slice b 0x10 16).all (· == 0) &&
  (slice b 0x2F2 2).all (· == 0) && (slice b 0x2F8 8).all (· == 0)

/-- R132: the record `CAL.READ_COEF` returns. -/
def State.coefRecord (s : State) : CalSet :=
  let t := s.sens.dieTemp
  if s.uncal then uncalSet t
  else if s.calHost then s.coefs
  else
    let c := s.coefs
    match nearestSet t s.stone.sets with
    | none => c
    | some n => { c with temp := t, valid := true, opt := n.opt, actSkip := n.actSkip, kept10 := n.kept10, kept11 := n.kept11 }

/-- R139: a whole store: header, CRC and the eight sets; the rest of the slot is 0. A set that is not valid is stored as zeros (DESIGN CHOICE, notes/assumptions/77.md). -/
def storeBytes (seq : Word) (sets : List CalSet) : List Byte :=
  let mask := maskOf 8 (fun i => (nth sets i).valid)
  let head := leW seq ++ le8 mask ++ zeros 55
  let body := sets.flatMap (fun c => if c.valid then c.bytes else zeros 768)
  head ++ le32 (crc32c (head ++ body)) ++ body

/-- R139: the NVM offset of a Stone slot. -/
def stoneSlotBase (slot : Nat) : Nat := nvStoneBase + 0x2000 * slot

/-- R140: the 194 codewords of a commit, the sets first and the header last. -/
def stoneCws (s : State) (slot : Nat) (seq : Word) (sets : List CalSet) : List CwWrite :=
  let c := nvCws s.nvm 0 (stoneSlotBase slot) (storeBytes seq sets)
  c.drop 2 ++ (c.take 2).reverse

/-- R140: queue a commit of a store to the slot not in force. -/
def stoneCommit (sets : List CalSet) (set : Option Nat) (s : State) : State :=
  let slot := 1 - s.stone.activeSlot
  { s with stone.commit := some sets, stone.commitSet := set,
           nvm := nvSubmit s.nvm 3 { job := .stone, cws := stoneCws s slot (s.stone.slotSeq + 1) sets } }

/-- R141: does a Stone slot check. -/
def stoneSlotOk (s : State) (slot : Nat) : Bool :=
  let b := nvRead s.nvm 0 (stoneSlotBase slot) 0x1840
  !nvBad s.nvm 0 (stoneSlotBase slot) 0x1840 && getW b 0x3C == crc32c (b.take 0x3C ++ b.drop 0x40)

/-- R139: the sets of a slot. -/
def stoneSets (s : State) (slot : Nat) : List CalSet :=
  let b := nvRead s.nvm 0 (stoneSlotBase slot) 0x1840
  (List.range 8).map (fun i =>
    if (getB b 4).testBit i then { CalSet.ofBytes (slice b (0x40 + 768 * i) 768) with valid := true } else {})

/-- R144 `CAL_STATUS`. -/
def State.calStatus (s : State) : Word :=
  let st := s.stone
  let step := match st.run with
    | none => 0
    | some r => if r.step = 0 then 0 else if r.pass = 1 then r.step else 32 + r.step
  w32 (at' (maskOf 8 (fun i => (nth st.sets i).valid)) 24 + at' st.lastSet 21 + at' st.lastResult 17 +
    at' st.failItem 13 + at' st.activeSlot 12 + at' (b2n st.slotFallback) 11 + at' (b2n st.refAlarm) 10 +
    at' (b2n s.uncal) 9 + at' (b2n st.run.isSome) 8 + step)

end Sys2Proof.Machine
end

