-- ==== Sys2Proof/Machine/Reports.lean ====
section
/-! DEFINITION. The status words of the loops, zones, actuators, fans, panel and keys, which their commands and the signal catalogue report (R157, R158, R212, R218, R252, R268, R299, R307). -/

namespace Sys2Proof.Machine

def State.loop (s : State) (l : Nat) : Loop := nth s.rood.loops l

/-- R157 `LOOP_OUT`. -/
def LoopDyn.outWord (d : LoopDyn) : Word :=
  if d.st = .disabled then 0
  else
    w32 (at' d.out 16 + at' (b2n d.prov) 15 + at' (b2n d.outClosed) 14 + at' (b2n d.holding) 13 +
      at' (b2n d.outLim) 12 + at' (b2n (d.satStg != 0)) 11 + at' (b2n (d.st == .fault)) 10 +
      at' (b2n d.override) 9 + d.tag)

/-- R158 `PEND_STAGED`: a staged change of the loop waits. -/
def State.loopStaged (s : State) (l : Nat) : Bool :=
  s.cw .loop (l - 1) 1 &&& w32 (bmask 15 14 + bmask 6 0) !=
    s.cfg.committed.word .loop (l - 1) 1 &&& w32 (bmask 15 14 + bmask 6 0)

/-- R158 `LOOP_STATUS`. -/
def State.loopStatus (s : State) (l : Nat) : Word :=
  let c := s.loop l
  let d := c.dyn
  w32 (at' d.satStg 24 + at' d.clipStg 18 + at' d.invalidRun 8 + at' (b2n d.override) 7 +
    at' (b2n (s.loopStaged l)) 6 + at' (b2n c.closePend) 5 + at' (b2n c.holdForced) 4 +
    at' (b2n d.outLim) 3 + d.st.code)

def State.zone (s : State) (z : Nat) : Zone := nth s.rood.zones z

def State.zf (s : State) (z w hi lo : Nat) : Nat := s.cf .zone z w hi lo

def State.zb (s : State) (z w n : Nat) : Bool := s.cb .zone z w n

/-- R345: the heating, cooling and humidity loops of a zone; 0 is none. -/
def State.zoneLoops (s : State) (z : Nat) : List Nat := [s.zf z 10 31 24, s.zf z 10 23 16, s.zf z 10 15 8]

/-- R218 `ZONE_STATUS`. -/
def State.zoneStatus (s : State) (z : Nat) : Word :=
  let x := s.zone z
  w32 (at' x.cm.code 29 + at' (b2n x.occ) 28 + at' (b2n x.cool) 27 + at' (b2n x.windowOpen) 26 +
    at' (b2n x.dewActive) 25 + at' (b2n x.dewInvalid) 24 + at' (b2n x.calInvalid) 23 + at' (b2n x.comfort) 22 +
    at' x.sm.code 19 + at' (b2n ((s.zoneLoops z).any (fun l => l != 0 && (s.loop l).hostOpen))) 18)

/-- R197: a position as a setpoint word. -/
def Traj.word (t : Traj) : Word := wInt (rneQ (t.x * 65536))

/-- R218: the setpoint word of a trajectory; 0 before its first target. -/
def trajWord (t : Option Traj) : Word := (t.map Traj.word).getD 0

def State.ach (s : State) (n : Nat) : ActCh := nth s.act.ch n

def State.af (s : State) (n w hi lo : Nat) : Nat := s.cf .act n w hi lo

/-- R249 `MODE`. -/
def State.actMode (s : State) (n : Nat) : Nat := s.af n 0 31 29

/-- R235: pair k is FLOAT. -/
def State.floatPair (s : State) (k : Nat) : Bool := s.actMode (2 * k) == 4

/-- R252 `DRIVE`. -/
def State.drive (s : State) (n : Nat) : Nat :=
  let c := s.ach n
  if c.shortSup || c.shortGnd || (nth s.act.pairs (n / 2)).off then 6
  else
    match c.ph with
    | .on => 1
    | .peak true => 2
    | .peak false => 3
    | .decay => 5
    | .off => if c.wait = .none then 0 else 4

/-- R224, R225, R240: the boost converter is not stopped, and regulates VBST. -/
def State.boostMay (s : State) : Bool :=
  s.released && s.cb .actDev 0 1 0 && s.sup.mode == .run && !s.safe && !s.act.fault && !s.act.bypass && s.clk.pllLocked

/-- R252, R448 `RUNNING`: the boost converter switches; at Throttle in bursts. -/
def State.boostRunning (s : State) : Bool := s.boostMay && (!s.throttled || s.act.burst)

/-- R252 `ACT_STATUS`. -/
def State.actStatus (s : State) (n : Nat) : Word :=
  let c := s.ach n
  w32 (at' (s.drive n) 29 + at' (b2n c.ovr) 28 + at' (b2n c.degraded) 27 + at' c.wait.code 24 +
    at' (b2n c.dutyHold) 23 + at' (b2n c.scaled) 22 + at' (b2n c.openLoad) 21 + at' (b2n c.shortSup) 20 +
    at' (b2n c.shortGnd) 19 + at' (b2n c.chOt) 18 + at' (b2n (nth s.act.pairs (n / 2)).off) 17 + c.iMeas % 65536)

/-- R252 `ACT_AUX`. -/
def State.actAux (s : State) (n : Nat) : Word :=
  let c := s.ach n
  let duty := if c.dutyNow.2 = 0 then 0 else 100 * c.dutyNow.1 / c.dutyNow.2
  let pos := if s.floatPair (n / 2) && n % 2 == 0 then satU 16 (c.flX * 65536).floor else 0
  w32 (at' duty 24 + at' c.retryLeft 16 + pos)

/-- R252 `ACT_COUNT`. -/
def State.actCount (s : State) (n : Nat) : Word := w32 (at' (s.ach n).peakCnt 16 + (s.ach n).degCnt)

/-- R252 `BOOST_STATUS`. -/
def State.boostStatus (s : State) : Word :=
  w32 (at' (s.act.faultRetry % 4) 6 + at' (b2n s.act.bstOc) 5 + at' (b2n s.act.bstOv) 4 + at' (b2n s.act.bstUv) 3 +
    at' (b2n s.act.clamp) 2 + at' (b2n s.act.bypass) 1 + b2n s.boostRunning)

def State.fan (s : State) (f : Nat) : Fan := nth s.fans.ch f

/-- R268 `FAN_STATUS`, `FAN_AUX`. -/
def State.fanStatus (s : State) (f : Nat) : Word :=
  let x := s.fan f
  w32 (at' x.st.code 29 + at' (b2n x.ovr) 28 + at' (b2n x.blocked) 27 + at' (b2n x.tachLost) 26 +
    at' (b2n x.wasRunning) 25 + at' (b2n x.slow) 24 + at' x.fails 21 + x.rpm % 65536)

def State.fanAux (s : State) (f : Nat) : Word :=
  let x := s.fan f
  w32 (at' (x.onCyc % 8192) 19 + x.startCnt)

def State.pnlEn (s : State) : Bool := s.cb .panel 0 0 31

/-- R299 `NO_TABLE`. -/
def State.noTable (s : State) : Bool := s.panel.wf.isNone

/-- R283, R284 `FLED_ON`. -/
def State.fledOn (s : State) : Bool :=
  s.released && s.pnlEn && s.cb .panel 0 2 23 && s.panel.cleared && !s.panel.fault && s.panel.clearing == .none &&
  !s.noTable && !s.safe

/-- R283: FLED's duty, of 255. -/
def State.fledDuty (s : State) : Nat := if s.fledOn then s.cf .panel 0 2 31 24 else 0

/-- R299 `PNL_STATUS`. -/
def State.pnlStatus (s : State) : Word :=
  let p := s.panel
  w32 (at' (p.bandRun % 16) 28 + at' (p.bandMeas % 16) 24 + at' (b2n p.bandPend) 23 + at' (b2n p.tempInvalid) 22 +
    at' (b2n (p.rails == .on)) 21 + at' (b2n s.fledOn) 20 + at' (b2n p.fault) 19 + at' p.cause 16 +
    at' (b2n s.noTable) 15 + at' (b2n p.cleared) 14 + at' (b2n p.wfPend.isSome) 13 + at' (p.queue.length % 32) 8 +
    at' (p.regions.countP (·.isSome)) 4 + at' (b2n s.throttled) 3)

/-- R305 `KEY_STUCK`. -/
def Keys.anyStuck (k : Keys) : Bool := k.stuck.any id

/-- R307 `KEY_STATUS`. -/
def State.keyStatus (s : State) : Word :=
  let k := s.keys
  w32 (at' k.drop 24 + at' (b2n k.ovf) 23 + at' (b2n k.phantom) 22 + at' (b2n k.anyStuck) 21 +
    at' k.fifo.length 16 + at' (b2n k.acc.isSome) 7 + (k.acc.getD 0) % 64)

end Sys2Proof.Machine
end

