-- ==== Sys2Proof/Machine/Catalogue.lean ====
section
/-! DEFINITION. The signal catalogue (R368). -/

namespace Sys2Proof.Machine

/-- R99 `RES_CODE`. -/
def Result.codeWord (r : Result) : Word :=
  w32 (at' (wrap 24 r.code) 8 + at' (b2n r.ovr) 7 + at' (b2n r.unr) 6 + at' (b2n r.linRange) 5 +
    at' (b2n r.engSat) 4 + r.seq % 16)

/-- R346, R355, R434: the level of a GPIO pin: the input's, the driven one, or of an open-drain output the wired one; every pin is an input until the release of the control path. -/
def State.gpioLevel (s : State) (g : Nat) : Bool :=
  let pin := s.gpio.level.getD g false
  let out := s.gpio.out.getD g false
  if !s.released then pin
  else match s.cf .gpio g 0 7 6 with
  | 0 => pin
  | 1 => out
  | _ => out && pin

/-- R355: the levels of GPIO0-15. -/
def State.gpioLevels (s : State) : Nat := maskOf 16 s.gpioLevel

/-- R368 class 4: mantissa and exponent of a stage value of a loop. -/
def LoopDyn.stage (d : LoopDyn) (k : Nat) : Int × Int :=
  match k with
  | 0 => (d.meas, nth d.exps 0)
  | 1 => (d.sp, nth d.exps 1)
  | 2 => (d.err, nth d.exps 2)
  | 3 => (d.int, nth d.exps 3)
  | 4 => (d.ff, nth d.exps 4)
  | 5 => (d.demV, nth d.exps 5)
  | _ => (d.demW, nth d.exps 5)

/-- R368: is a catalogue ID known. -/
def sigKnown (id : Nat) : Bool :=
  let k := id % 4096
  match id / 4096 with
  | 0 | 1 => k < 128
  | 2 => k < 16
  | 3 => decide (1 ≤ k) && decide (k ≤ 127)
  | 4 => decide (8 ≤ k) && decide (k < 1024)
  | 5 => decide (k < 256) && decide (k % 8 ≤ 4)
  | 6 => (decide (k < 128) && k % 4 != 3) || k == 128
  | 7 => k < 32
  | 8 => k < 5
  | 9 => k < 8
  | 15 => k = 0
  | _ => false

/-- R368 class 9. -/
def State.deviceSignal (s : State) (k : Nat) : Word :=
  match k with
  | 0 => s.hwStatus
  | 1 => w32 s.gpioLevels
  | 2 => s.calWord
  | 3 => s.calStatus
  | 4 => s.pnlStatus
  | 5 => s.keyStatus
  | 6 => w32 s.thermLevel
  | _ => s.therm.governing

/-- R368 class 5. -/
def State.zoneSignal (s : State) (z k : Nat) : Word :=
  match k with
  | 0 => s.zoneStatus z
  | 4 => w32 (s.zone z).occHours
  | _ => trajWord ((s.zone z).committed.getD (k - 1) none)

/-- R368 class 6. -/
def State.actSignal (s : State) (k : Nat) : Word :=
  if k = 128 then s.boostStatus
  else match k % 4 with
    | 0 => s.actStatus (k / 4)
    | 1 => s.actAux (k / 4)
    | _ => s.actCount (k / 4)

/-- R368: the value of a signal; 0 for an ID that is unknown. -/
def State.signal (s : State) (id : Nat) : Word :=
  let k := id % 4096
  if !sigKnown id then 0
  else match id / 4096 with
    | 0 => (nth s.sens.results k).value
    | 1 => (nth s.sens.results k).codeWord
    | 2 => (nth s.sens.hk k).value
    | 3 => (s.loop k).dyn.outWord
    | 4 =>
      if k % 8 = 7 then s.loopStatus (k / 8)
      else
        let v := (s.loop (k / 8)).dyn.stage (k % 8)
        wInt (satS 32 (rneQ ((v.1 : Rat) * pow2 (v.2 + 16))))
    | 5 => s.zoneSignal (k / 8) (k % 8)
    | 6 => s.actSignal k
    | 7 => if k % 2 = 0 then s.fanStatus (k / 2) else s.fanAux (k / 2)
    | 8 => nth s.chainBlock k
    | 9 => s.deviceSignal k
    | _ => 0

end Sys2Proof.Machine
end

