-- ==== Sys2Proof/Machine/Events.lean ====
section
/-! DEFINITION. Raising an event source (R336-R339) and depositing a happening in Bushel's ring (R399-R401, R406, R491). -/

namespace Sys2Proof.Machine

/-- R336-R339: raise a source with a code and a detail. -/
def raiseWith (src code detail : Nat) (s : State) : State :=
  let b : BitVec 128 := BitVec.ofNat 128 (2 ^ src)
  let summary := s.evt.summary ||| b
  if (s.evt.mask &&& b) = 0 then { s with evt.summary := summary }
  else if s.evt.queue.length < 256 then
    { s with evt.summary := summary,
             evt.queue := s.evt.queue ++ [{ source := src, code := code, detail := detail, mc := s.chain.mc }] }
  else { s with evt.summary := summary, evt.lost := s.evt.lost ||| b }

/-- R336-R338: raise a source whose `CODE` and `DETAIL` are 0. -/
def raise (src : Nat) (s : State) : State := raiseWith src 0 0 s

/-- R401: the lowest-numbered enabled snapshot set that covers a source and a type. -/
def State.snapSet (s : State) (src typ : Nat) : Option Nat :=
  (List.range 16).find? (fun k =>
    s.cb .snap k 5 31 && decide (s.cf .snap k 5 22 16 ≤ src) && decide (src ≤ s.cf .snap k 5 30 24) &&
    s.cb .snap k 5 typ)

/-- R400: signal i of a set. -/
def State.snapSig (s : State) (k i : Nat) : Nat :=
  if i % 2 = 0 then s.cf .snap k (i / 2) 15 0 else s.cf .snap k (i / 2) 31 16

/-- R401: a happening with its snapshot, taken now. -/
def State.happening (s : State) (src typ sev inst : Nat) : Happening :=
  match s.snapSet src typ with
  | none => { typ := typ, sev := sev, source := src + 256 * inst, mc := s.chain.mc }
  | some k =>
    { typ := typ, sev := sev, source := src + 256 * inst, snapSet := k, snapOk := true,
      snap := (List.range 10).map (fun i => s.signal (s.snapSig k i)),
      repWin := s.cf .snap k 6 15 0, mc := s.chain.mc }

/-- R412 `DROPPED`: one more lost record of a severity. -/
def dropCount (sev : Nat) (s : State) : State := { s with bushel.dropped := upd s.bushel.dropped sev (incSat 32) }

/-- R417: the LOG record of a first loss, while the log is usable; R491: a full ring loses it too, and counts it. -/
def dropNote (s : State) : State :=
  if s.bushel.closed || s.bushel.summaryMode then s
  else if 64 ≤ s.bushel.ring.length then dropCount 4 s
  else { s with bushel.ring := s.bushel.ring ++ [s.happening 102 10 4 0] }

/-- R412 `DROPPED`: count a lost record; R417: the first increment after 60 s without one raises source 102, with a LOG record while the log is usable. -/
def countDropped (sev : Nat) (s : State) : State :=
  let first := match s.bushel.lastDropMc with
    | none => true
    | some a => decide (s.secMc 60 < s.mcSince a)
  let s1 := dropCount sev { s with bushel.lastDropMc := some s.chain.mc }
  if first then dropNote (raise 102 s1) else s1

/-- R491, R406, R416: deposit a happening; a full ring, or the power-fail warning outside summary mode, counts it in `DROPPED`. -/
def deposit (h : Happening) (s : State) : State :=
  if (s.bushel.closed && !s.bushel.summaryMode) || decide (64 ≤ s.bushel.ring.length) then countDropped h.sev s
  else { s with bushel.ring := s.bushel.ring ++ [h] }

/-- R399, R401: deposit a happening with its snapshot. -/
def happen (src typ sev inst : Nat) (s : State) : State := deposit (s.happening src typ sev inst) s

/-- Raise a source and write the record of R399 with it. -/
def report (src typ sev inst : Nat) (s : State) : State := happen src typ sev inst (raise src s)

/-- R366, R399: a corrected memory error of a memory (R338's code). -/
def memCorrected (mem : Nat) (s : State) : State :=
  happen 122 5 2 mem
    (raiseWith 122 mem 0 { s with clk.corrected := upd s.clk.corrected (mem - 1) (incSat 32) })

/-- R366, R399: an uncorrectable memory error. -/
def memUncorrectable (mem : Nat) (s : State) : State :=
  happen 123 5 6 mem
    (raiseWith 123 mem 0 { s with clk.uncorrectable := upd s.clk.uncorrectable (mem - 1) (incSat 32) })

/-- R486: a safe-state cause is set, or Critical is entered: a test run in progress is to stop. -/
def testStop (already : Bool) (s : State) : State :=
  if s.test.running && !already then { s with test.stopped := true } else s

/-- R20: reading a byte range of the NVM reports each uncorrectable codeword in it on source 123. -/
def nvReport (bank a len : Nat) (s : State) : State :=
  (s.nvm.bad.filter (fun c => c.1 == bank && decide (a / 32 ≤ c.2) && decide (c.2 * 32 < a + len))).foldl
    (fun t _ => memUncorrectable 8 t) s

end Sys2Proof.Machine
end

