-- ==== Sys2Proof/Machine/Alarms.lean ====
section
/-! DEFINITION. The alarm objects of the building bus, Binary Values 32-67 (R373, R375, R384). -/

namespace Sys2Proof.Machine

/-- R375: Present_Value of a Binary Value. -/
def State.bvOn (s : State) (n : Nat) : Bool :=
  if n < 32 then (s.zone n).occ
  else if n < 64 then (s.zone (n - 32)).comfort
  else if n = 64 then s.bushel.summaryMode
  else if n = 65 then s.safe
  else if n = 66 then s.panel.fault
  else s.stone.refAlarm

/-- R384: the reporting object n. -/
def State.alarm (s : State) (n : Nat) : AlarmObj := nth s.bus.alarms (n - 32)

/-- R375, R384: the Notification Class of a reporting object. -/
def notifClassOf (n : Nat) : Nat := if n < 64 then 0 else 1

/-- R373: a recipient of a class, while valid. -/
def State.recipient (s : State) (c r : Nat) : Option Recipient :=
  let w := s.cw .bus 0 (23 + 4 * c + r)
  if bit w 31 then
    some { confirmed := bit w 30, trans := fld w 29 27, procId := fld w 26 22, device := some (fld w 21 0) }
  else none

/-- R373 `ACK_REQ` of a class for a transition: 0 to-offnormal, 1 to-fault, 2 to-normal. -/
def State.ackReq (s : State) (c tr : Nat) : Bool := s.cb .bus 0 (21 + c) (26 - tr)

/-- R373: the recipients of a class that a transition goes to. -/
def State.recipientsOf (s : State) (c tr : Nat) : List Nat :=
  (List.range 4).filter (fun r => match s.recipient c r with | some x => x.trans.testBit (2 - tr) | none => false)

/-- R384: the event state of BV n follows its Present_Value; an object has one pending state, so a transition replaces what was still to be notified of it (R383, R491). -/
def alarmEval (s : State) (n : Nat) : State :=
  let a := s.alarm n
  let on := s.bvOn n
  if on = a.active then s
  else
    let tr := if on then 0 else 2
    let c := notifClassOf n
    { s with bus.alarms := upd s.bus.alarms (n - 32) (fun _ =>
        { active := on, acked := a.acked.set tr (!s.ackReq c tr), stamps := a.stamps.set tr s.calWord,
          due := (s.recipientsOf c tr).map (fun r => (tr, r)) }) }

/-- R384: every reporting object follows its Present_Value; Time_Delay is 0, so what changes one evaluates them. -/
def alarmsEval (s : State) : State := (List.range 36).foldl (fun a k => alarmEval a (32 + k)) s

end Sys2Proof.Machine
end

