-- ==== Sys2Proof/Machine/Bushel.lean ====
section
/-! DEFINITION. Bushel, the event recorder: records, merging, the buffer, flushing, slots, the scan, failure and summary mode (R396-R417, R423, R494). -/

namespace Sys2Proof.Machine

/-! ## Record bytes (R396) -/

/-- R396: codeword 0 of a record. -/
def Rec.cw0 (r : Rec) : List Byte :=
  leW r.serial ++ le8 r.typ ++ le8 (r.sev + at' r.snapSet 3 + at' (b2n r.snapOk) 7) ++ le16 r.source ++
  le 3 r.rep ++ le 3 r.pcc ++ le16 r.lastDopt ++ le32 r.opt ++ leW r.mc ++ leW (nth r.snap 0) ++ leW (nth r.snap 1)

/-- R396: codeword 1 of a record. -/
def Rec.cw1 (r : Rec) : List Byte := ((r.snap.drop 2).take 8).flatMap leW

/-- R396: the 64 bytes of a record. -/
def Rec.bytes (r : Rec) : List Byte := r.cw0 ++ r.cw1

/-- R396: a record from its 64 bytes. -/
def Rec.ofBytes (b : List Byte) : Rec :=
  { serial := w32 (getW b 0), typ := getB b 4, sev := getB b 5 % 8, snapSet := bits (getB b 5) 6 3,
    snapOk := (getB b 5).testBit 7, source := getH b 6, rep := getLe b 8 3, pcc := getLe b 0x0B 3,
    lastDopt := getH b 0x0E, opt := getW b 0x10, mc := w32 (getW b 0x14), snap := getWords b 0x18 10 }

/-- The slots of the log (R21, R408). -/
def logSlots : Nat := 12288

/-- R397: the serial after one, skipping 0. -/
def nextSerialOf (n : Word) : Word := if n + 1 = 0 then 1 else n + 1

/-- The 64 bytes of a slot of bank 1. -/
def slotBytes (s : State) (slot : Nat) : List Byte := nvRead s.nvm 1 (64 * slot) 64

/-! ## Summary mode (R415, R416) -/

/-- R416: one occurrence in summary mode. -/
def sumCount (h : Happening) (isHost : Bool) (s : State) : State :=
  let m := s.bushel.sum
  { s with bushel.sum :=
      { m with typeCnt := upd m.typeCnt h.typ (incSat 32), sevCnt := upd m.sevCnt h.sev (incSat 32),
               srcCnt := if isHost then m.srcCnt else upd m.srcCnt (h.source % 128) (incSat 32) } }

/-- R415: the summary image before its CRC is put in; `state` is `SUM_STATE`. -/
def sumRaw (m : Summary) (st : Nat) : List Byte :=
  le32 0x5A334253 ++ leW m.seq ++ le8 st ++ le8 m.failCause ++ zeros 2 ++ leW m.failSerial ++
  le32 m.failOpt ++ leW m.failMc ++ le 3 m.failPcc ++ zeros 1 ++ zeros 4 ++
  m.typeCnt.flatMap le32 ++ m.sevCnt.flatMap le32 ++ m.srcCnt.flatMap le32 ++
  m.hist.flatMap (fun h => h.flatMap le32) ++
  m.ext.flatMap (fun e => leI32 e.min ++ le32 e.minOpt ++ leI32 e.max ++ le32 e.maxOpt) ++
  m.dropped.flatMap le32 ++ m.failLiveSev.flatMap le16 ++ le32 m.writeFails ++ zeros 44 ++ zeros 32

/-- R415: the 2,048 bytes of a summary copy. -/
def sumBytes (m : Summary) (st : Nat) : List Byte :=
  let b := sumRaw m st
  splice b 0x1C (le32 (crc32c (b.take 0x1C ++ b.drop 0x20)))

/-- R416: is a summary copy valid. -/
def sumValid (b : List Byte) : Bool :=
  getW b 0 == 0x5A334253 && getW b 0x1C == crc32c (b.take 0x1C ++ b.drop 0x20)

/-- R415: the summary image of a copy's bytes. -/
def sumOfBytes (b : List Byte) (copy : Nat) : Summary :=
  { seq := w32 (getW b 4), failCause := getB b 9, failSerial := w32 (getW b 0x0C), failOpt := getW b 0x10,
    failMc := w32 (getW b 0x14), failPcc := getLe b 0x18 3,
    typeCnt := (List.range 16).map (fun i => getW b (0x20 + 4 * i)),
    sevCnt := (List.range 8).map (fun i => getW b (0x60 + 4 * i)),
    srcCnt := (List.range 128).map (fun i => getW b (0x80 + 4 * i)),
    hist := (List.range 16).map (fun k => (List.range 16).map (fun j => getW b (0x280 + 64 * k + 4 * j))),
    ext := (List.range 16).map (fun k =>
      { min := sext 32 (getW b (0x680 + 16 * k)), minOpt := getW b (0x684 + 16 * k),
        max := sext 32 (getW b (0x688 + 16 * k)), maxOpt := getW b (0x68C + 16 * k) }),
    dropped := (List.range 8).map (fun i => getW b (0x780 + 4 * i)),
    failLiveSev := (List.range 8).map (fun i => getH b (0x7A0 + 2 * i)),
    writeFails := getW b 0x7B0, copy := some copy }

/-- R416: queue the whole image for the copy not in force, codeword 0 last, with `SUM_SEQ` one higher. -/
def sumSubmit (s : State) : State :=
  let copy := match s.bushel.sum.copy with | some 0 => 1 | _ => 0
  let m := { s.bushel.sum with seq := s.bushel.sum.seq + 1 }
  let cws := nvCws s.nvm 0 (nvSumBase + 2048 * copy) (sumBytes m 1)
  { s with bushel.sum := m, bushel.sumDue := false,
           nvm := nvSubmit s.nvm 1 { job := .summary copy, cws := cws.drop 1 ++ cws.take 1 } }

/-- R416, R491, R493: a summary write: there is one image, so it waits while an operation of entry 1 has neither verified nor failed; `summaryDone` gives it its turn. -/
def sumWrite (s0 : State) : State :=
  if s0.bushel.closed then s0
  else
    let s := { s0 with bushel.lastSumMc := s0.chain.mc }
    if nvBusy s.nvm 1 then { s with bushel.sumDue := true } else sumSubmit s

/-- R409, R412: the records stored: those of the index, and victims chosen and not yet cleared. -/
def State.storedIndex (s : State) : List IndexEntry := s.bushel.index ++ s.bushel.clearing

/-- R413, R414: the log memory fails: summary mode begins, and Binary Value 64 becomes ACTIVE. -/
def logFail (cause : Nat) (s : State) : State :=
  if s.bushel.summaryMode then s
  else
    let b := s.bushel
    let lost := b.buf.foldl (fun d e => upd d e.record.sev (incSat 32)) b.dropped
    let live := (List.range 8).map (fun v => s.storedIndex.countP (fun e => e.sev == v))
    let lastStored := match s.storedIndex with
      | [] => 0
      | e :: t => t.foldl (fun a x => if laterMC a x.serial then x.serial else a) e.serial
    let m := { b.sum with failCause := cause, failSerial := lastStored, failOpt := s.backup.opt.toNat,
                          failMc := s.chain.mc, failPcc := s.backup.pcc.toNat, dropped := lost,
                          failLiveSev := live, writeFails := b.writeFails }
    let keep := (nth s.nvm.queue 1).filter (fun o => match o.job with | .summary _ => true | _ => false)
    let s1 := { s with bushel := { b with summaryMode := true, failCause := cause, sum := m, dropped := lost,
                                          buf := [], pend := [], rewriting := none, last := none,
                                          poolDue := false, flushDue := false },
                       nvm.queue := (s.nvm.queue.set 0 []).set 1 keep }
    alarmsEval (raise 103 (writeFault 8 103 cause 0 (sumWrite s1)))

/-! ## Flushing (R405) -/

/-- R405: queue the unqueued buffered records for NVM in serial order, a pool slot for each. -/
def flushLoop (es : List BufEntry) (s : State) : List BufEntry × State :=
  match es with
  | [] => ([], s)
  | e :: t =>
    match e.st, s.bushel.pool with
    | .unqueued, slot :: rest =>
      let op : NvOp :=
        { job := .record e.record.serial slot,
          cws := [{ bank := 1, cw := 2 * slot + 1, data := e.record.cw1 },
                  { bank := 1, cw := 2 * slot, data := e.record.cw0 }] }
      let s1 := { s with bushel.pool := rest, nvm := nvSubmit s.nvm 0 op }
      let r := flushLoop t s1
      ({ e with st := .queued } :: r.1, r.2)
    | _, _ =>
      let r := flushLoop t s
      (e :: r.1, r.2)

/-- R405, R408: queue what the pool has slots for; records left without a slot wait for its restoration. -/
def flushQueue (s : State) : State :=
  let r := flushLoop s.bushel.buf s
  let cut := r.1.any (fun e => e.st == .unqueued)
  { r.2 with bushel.buf := r.1, bushel.flushDue := cut, bushel.poolDue := r.2.bushel.poolDue || cut }

/-- R405: a flush begins, while the log is usable (R414); before the scan's end it waits for it (R410). -/
def flush (s : State) : State :=
  if s.bushel.closed || s.bushel.summaryMode then s
  else if !s.bushel.scanDone then { s with bushel.flushDue := true }
  else if s.bushel.buf.all (fun e => e.st == .queued) then s
  else
    let r := flushQueue s
    { r with bushel.flushes := (r.bushel.flushes + 1) % 2 ^ 32, bushel.lastFlushMc := s.chain.mc }

/-- R405, R408: a flush that the empty pool has cut short goes on once the pool has slots again, with the records then unqueued (DESIGN CHOICE, notes/assumptions/79.md). -/
def flushMore (s : State) : State :=
  if s.bushel.flushDue && !s.bushel.closed && !s.bushel.summaryMode && !s.bushel.pool.isEmpty then flushQueue s else s

/-! ## Creating and merging (R397, R402-R404, R409) -/

/-- R409: the lowest severity among stored records. -/
def lowestSev (l : List IndexEntry) : Option Nat := (List.range 8).find? (fun v => l.any (fun e => e.sev == v))

/-- R403: a record with every occurrence that waits for a rewrite, or stands in one, applied. -/
def State.newestRec (s : State) (r : Rec) : Rec :=
  match s.bushel.pend.find? (fun p => p.record.serial == r.serial) with
  | some p => p.record
  | none =>
    match s.bushel.rewriting with
    | some w => if w.record.serial = r.serial then w.record else r
    | none => r

/-- R402: the newest record of the index, as the last record. -/
def State.lastStored (s : State) : Option LastRec :=
  match s.bushel.index with
  | [] => none
  | e :: t =>
    let n := t.foldl (fun a x => if laterMC a.serial x.serial then x else a) e
    some { record := s.newestRec (Rec.ofBytes (slotBytes s n.slot)), lastMc := n.lastMc, slot := some n.slot }

/-- R402: the most recently created record that is still buffered, or stored and not chosen for clearing. -/
def State.lastFound (s : State) : Option LastRec :=
  let stored := s.lastStored
  match s.bushel.buf.getLast? with
  | none => stored
  | some b =>
    let l : LastRec := { record := s.newestRec b.record, lastMc := b.lastMc }
    match stored with
    | none => some l
    | some x => if s.bushel.scanDone && laterMC b.record.serial x.record.serial then some x else some l

/-- R402: the total the merge leaves on the last record, when the happening merges. -/
def mergeRec (h : Happening) (s : State) : Option (LastRec × Rec) :=
  match s.bushel.last with
  | none => none
  | some l =>
    let dopt := s.backup.opt.toNat - l.record.opt
    if l.record.typ = h.typ && l.record.source = h.source && l.record.sev = h.sev && l.record.typ ≠ 9 &&
       l.record.pcc = s.backup.pcc.toNat && h.repWin ≠ 0 && (h.mc - l.lastMc).toNat ≤ s.secMc h.repWin &&
       l.record.rep < 0xFFFFFF && dopt ≤ 0xFFFF
    then some (l, { l.record with rep := l.record.rep + 1, lastDopt := dopt })
    else none

/-- R403: start a rewrite of codeword 0 of a stored record, which applies a number of pending occurrences. -/
def startRewrite (slot : Nat) (r : Rec) (applied : Nat) (s : State) : State :=
  { s with bushel.rewriting := some { record := r, applied := applied },
           nvm := nvSubmit s.nvm 1 { job := .rewrite slot, cws := [{ bank := 1, cw := 2 * slot, data := r.cw0 }] } }

/-- R403: add an occurrence to the pending count of a record. -/
def addPend (r : Rec) (ps : List Pend) : List Pend :=
  if ps.any (fun p => p.record.serial == r.serial) then
    ps.map (fun p => if p.record.serial == r.serial then { record := r, count := p.count + 1 } else p)
  else ps ++ [{ record := r, count := 1 }]

/-- The place of the newest buffered record with a serial; before the scan's end all carry 0 (R397). -/
def bufPlace (n : Word) (buf : List BufEntry) : Option Nat :=
  (List.range buf.length).reverse.find? (fun i => (nth buf i).record.serial == n)

/-- R403: where a merge's update lands. -/
def applyMerge (h : Happening) (l : LastRec) (r : Rec) (s : State) : State :=
  let s1 := { s with bushel.last := some { l with record := r, lastMc := h.mc } }
  match bufPlace r.serial s.bushel.buf with
  | some i =>
    let s2 := { s1 with bushel.buf := upd s.bushel.buf i (fun e =>
                          { e with lastMc := h.mc, record := if e.st = .unqueued then r else e.record }) }
    if (nth s.bushel.buf i).st = .unqueued then s2 else { s2 with bushel.pend := addPend r s.bushel.pend }
  | none =>
    match l.slot with
    | some slot =>
      let s2 := { s1 with bushel.index := s.bushel.index.map (fun e =>
                            if e.slot = slot then { e with lastMc := h.mc } else e) }
      if s.bushel.rewriting.isSome then { s2 with bushel.pend := addPend r s.bushel.pend }
      else startRewrite slot r 0 s2
    | none => s1

/-- R404: make room in a full buffer for a record of a severity: the buffer without the record given up, and that record's severity. -/
def makeRoom (sev : Nat) (buf : List BufEntry) : Option (List BufEntry × Nat) :=
  let low := (List.range sev).find? (fun v => buf.any (fun e => e.st == .unqueued && e.record.sev == v))
  match low with
  | none => none
  | some v =>
    match buf.find? (fun e => e.st == .unqueued && e.record.sev == v) with
    | none => none
    | some e => some (buf.erase e, v)

/-- R53, R397, R404: give a new record its entry, its timestamp and its serial, and apply the flush triggers of R405. -/
def enter (h : Happening) (snap : List Word) (buf : List BufEntry) (s : State) : State :=
  let serial : Word := if s.bushel.scanDone then s.bushel.nextSerial else 0
  let r : Rec :=
    { serial := serial, typ := h.typ, sev := h.sev, snapSet := h.snapSet, snapOk := h.snapOk,
      source := h.source, pcc := s.backup.pcc.toNat, opt := s.backup.opt.toNat, mc := s.chain.mc,
      pt := some s.chain.pt.toNat, snap := snap }
  let s1 := { s with bushel.buf := buf ++ [{ record := r, lastMc := h.mc }],
                     bushel.nextSerial := if s.bushel.scanDone then nextSerialOf serial else s.bushel.nextSerial,
                     bushel.last := some { record := r, repWin := h.repWin, lastMc := h.mc } }
  if 5 ≤ h.sev ∨ 8 ≤ s1.bushel.buf.countP (fun e => e.st == .unqueued) then flush s1 else s1

/-- R397, R404, R409: create a record from a happening, or drop it. -/
def createRec (h : Happening) (s : State) : State :=
  let below := match lowestSev s.storedIndex with | some v => decide (h.sev < v) | none => false
  if s.bushel.logFull && below then countDropped h.sev { s with bushel.last := none }
  else if s.bushel.buf.length < 16 then enter h h.snap s.bushel.buf s
  else
    match makeRoom h.sev s.bushel.buf with
    | some (buf, v) => enter h h.snap buf (countDropped v s)
    | none => countDropped h.sev { s with bushel.last := none }

/-- R494: Bushel takes one happening from its ring. -/
def serveOne (h : Happening) (s : State) : State :=
  if s.bushel.summaryMode then sumCount h (h.typ == 9) s
  else
    match mergeRec h s with
    | some (l, r) => applyMerge h l r s
    | none => createRec h s

/-- R494: Bushel takes the happenings of its ring in arrival order; none while the counters wait to be restored (R423). -/
def serveRing (s : State) : State :=
  if s.sup.restorePend then s
  else s.bushel.ring.foldl (fun a h => serveOne h a) { s with bushel.ring := [] }

/-- R494 BUSHEL_RING_SERVICE. -/
def execBushelRingService (s : State) : Host.Outcome State Fault Refusal :=
  .next (if s.alive && (!s.bushel.closed || s.bushel.summaryMode) then serveRing s else s)

/-- R494: the pass that starts flushes serves the ring first. -/
def flushPass (s : State) : State := flush (if s.bushel.closed && !s.bushel.summaryMode then s else serveRing s)

/-- R405, R494 BUSHEL_FLUSH_TIMER: 60 s since the last flush with the buffer not empty. -/
def execBushelFlushTimer (s : State) : Host.Outcome State Fault Refusal :=
  .next (if s.alive && decide (s.secMc 60 ≤ s.mcSince s.bushel.lastFlushMc) then flushPass s else s)

/-! ## The pool (R408, R409) -/

/-- R409: the victim of a clearing: the oldest record of the lowest severity stored. -/
def victim (s : State) : Option IndexEntry :=
  match lowestSev s.bushel.index with
  | none => none
  | some v =>
    match s.bushel.index.filter (fun e => e.sev == v) with
    | [] => none
    | e :: t => some (t.foldl (fun a x => if laterMC x.serial a.serial then x else a) e)

/-- R408: take up to n slots from the free ones: empty slots below the highest used first, then slots never used. -/
def takeFree : Nat → State → State
  | 0, s => s
  | n + 1, s =>
    match s.bushel.freeSlots with
    | x :: t => takeFree n { s with bushel.pool := s.bushel.pool ++ [x], bushel.freeSlots := t }
    | [] =>
      if s.bushel.fresh < logSlots then
        takeFree n { s with bushel.pool := s.bushel.pool ++ [s.bushel.fresh], bushel.fresh := s.bushel.fresh + 1 }
      else s

/-- R408: the operation that clears a slot. -/
def clearOp (slot : Nat) : NvOp := { job := .clear slot, cws := [{ bank := 1, cw := 2 * slot, data := zeros 32 }] }

/-- R408, R409: choose and queue up to n victims for clearing. A victim that was the last record leaves that place to the next newest (R402). -/
def takeVictims : Nat → State → State
  | 0, s => s
  | n + 1, s =>
    match victim s with
    | none => s
    | some v =>
      let isLast := match s.bushel.last with | some l => l.record.serial == v.serial | none => false
      let s1 := { s with bushel.index := s.bushel.index.erase v, bushel.clearing := s.bushel.clearing ++ [v],
                         bushel.pend := s.bushel.pend.filter (fun p => p.record.serial != v.serial),
                         nvm := nvSubmit s.nvm 1 (clearOp v.slot) }
      takeVictims n (if isLast then { s1 with bushel.last := s1.lastFound } else s1)

/-- R409, R417: `LOG_FULL` follows the free slots outside the pool. -/
def checkFull (s : State) : State :=
  if s.bushel.freeSlots.isEmpty && decide (logSlots ≤ s.bushel.fresh) && !s.bushel.logFull then
    report 102 10 4 0 { s with bushel.logFull := true }
  else s

/-- R408: restore the pool of 24 empty slots. -/
def poolRestore (s : State) : State :=
  let s1 := takeFree (24 - s.bushel.pool.length - s.bushel.clearing.length) s
  let s2 := checkFull s1
  let s3 := takeVictims (24 - s2.bushel.pool.length - s2.bushel.clearing.length) s2
  flushMore { s3 with bushel.poolDue := false }

/-- R408 BUSHEL_POOL_RESTORE: after a flush has completed. -/
def execBushelPoolRestore (s : State) : Host.Outcome State Fault Refusal :=
  .next (if s.alive && s.bushel.poolDue && s.bushel.scanDone && !s.bushel.closed && !s.bushel.summaryMode
    then poolRestore s else s)

/-! ## The start-up scan (R410, R423) -/

/-- R410: one slot as the scan finds it: none for a slot that is empty or uncorrectable. -/
def scanSlot (s : State) (slot : Nat) : Option Rec :=
  if s.nvm.bad.contains (1, 2 * slot) then none
  else
    let b := nvRead s.nvm 1 (64 * slot) 32
    if getW b 0 = 0 then none else some (Rec.ofBytes (b ++ zeros 32))

/-- R397: renumber records that were created before the scan ended. -/
def renumber (n : Word) : List BufEntry → List BufEntry × Word
  | [] => ([], n)
  | e :: t =>
    let r := renumber (nextSerialOf n) t
    ({ e with record := { e.record with serial := n } } :: r.1, r.2)

/-- R423: restore PCC and OPT from the highest values given, or from 0 when there is no source. -/
def restoreCounters (pcc opt : Nat) (s : State) : State :=
  { s with backup.pcc := BitVec.ofNat 24 (pcc + 1), backup.opt := w32 opt, sup.restorePend := false,
           sup.optRestored := true }

/-- R20, R410: the codewords 0 of log slots that are uncorrectable. -/
def State.tornSlots (s : State) : List (Nat × Nat) :=
  (s.nvm.bad.filter (fun c => c.1 == 1 && c.2 % 2 == 0 && decide (c.2 < 2 * logSlots))).eraseDups

/-- R20: every codeword 0 has been read: those that are uncorrectable are reported. -/
def tornReport (s : State) : State := s.tornSlots.foldl (fun t _ => memUncorrectable 8 t) s

/-- R20, R402, R410, R417: the start-up scan ends: each uncorrectable codeword 0 it has read is reported. The last record is the newest buffered or stored one, unless a record has been dropped since; a flush triggered meanwhile begins. When a record found was last repeated is a free value: its MC belongs to another count. -/
def bushelScan (s : State) : State :=
  let found := (List.range logSlots).filterMap (fun i => (scanSlot s i).map (fun r => (i, r)))
  let torn := s.tornSlots
  let errs := torn.length
  let high := found.foldl (fun a p => max a (p.1 + 1)) 0
  let used := found.map (fun p => p.1)
  let serials := found.map (fun p => p.2.serial)
  let newest := match serials with
    | [] => (0 : Word)
    | x :: t => t.foldl (fun a b => if laterMC a b then b else a) x
  let next : Word := if serials.isEmpty then 1 else nextSerialOf newest
  let bufN := renumber next s.bushel.buf
  let lastMc (slot : Nat) : Word := (Config.freeWord (s.free + slot)).setWidth 32
  let sr := tornReport s
  let s0 := { sr with free := s.free + logSlots, bushel :=
      { sr.bushel with index := found.map (fun (p : Nat × Rec) =>
                        { slot := p.1, serial := p.2.serial, sev := p.2.sev, lastMc := lastMc p.1 }),
                       fresh := high, freeSlots := (List.range high).filter (fun i => !used.contains i),
                       scanErr := errs, scanDone := true, flushDue := false, pool := [], buf := bufN.1,
                       nextSerial := bufN.2 } }
  let s1 := { s0 with bushel.last := if s.bushel.buf.isEmpty || s.bushel.last.isSome then s0.lastFound else none }
  let s2 := if s.sup.restorePend then
      restoreCounters (found.foldl (fun a p => max a p.2.pcc) 0)
        (found.foldl (fun a p => max a (p.2.opt + p.2.lastDopt)) 0) s1
    else s1
  let s3 := checkFull (takeFree 24 s2)
  let s4 := { s3 with bushel.poolDue := decide (s3.bushel.pool.length < 24) }
  let s5 := if 0 < errs then
      deposit { typ := 10, sev := 4, source := 102, mc := s.chain.mc, snap := w32 errs :: List.replicate 9 0 } (raise 102 s4)
    else s4
  if 1024 < errs then logFail 3 s5 else if s.bushel.flushDue then flushPass s5 else s5

/-! ## Summary-mode timers (R416) -/

/-- R416 SUMMARY_WRITE_TIMER: every 60 s in summary mode. -/
def execSummaryWriteTimer (s : State) : Host.Outcome State Fault Refusal :=
  .next (if s.alive && s.bushel.summaryMode && decide (s.secMc 60 ≤ s.mcSince s.bushel.lastSumMc)
    then sumWrite s else s)

/-- R416: the bin of a histogram sample. -/
def histBin (v lo : Int) (shift : Nat) : Nat := (clampI ((v - lo * 65536).fdiv (2 ^ shift)) 0 15).toNat

/-- R416: sample `SIG0` of one set. -/
def histSample (k : Nat) (s : State) : State :=
  if s.cb .snap k 5 31 && s.cb .snap k 7 31 then
    let v := (s.signal (s.snapSig k 0)).toInt
    let j := histBin v (sext 16 (s.cf .snap k 7 15 0)) (s.cf .snap k 7 30 26)
    let m := s.bushel.sum
    let e := nth m.ext k
    let e1 := if v < e.min then { e with min := v, minOpt := s.backup.opt.toNat } else e
    let e2 := if e1.max < v then { e1 with max := v, maxOpt := s.backup.opt.toNat } else e1
    { s with bushel.sum := { m with hist := upd m.hist k (fun h => upd h j (incSat 32)), ext := m.ext.set k e2 } }
  else s

/-- R416 HISTOGRAM_SAMPLE: each second, counted in MC at nominal frequency, in summary mode. -/
def execHistogramSample (s : State) : Host.Outcome State Fault Refusal :=
  .next (if s.alive && s.bushel.summaryMode && decide (s.secMc 1 ≤ s.mcSince s.bushel.lastHistMc) then
      { (List.range 16).foldl (fun a k => histSample k a) s with bushel.lastHistMc := s.chain.mc }
    else s)

/-! ## Completions of Bushel's NV operations (R403, R408, R413) -/

/-- R403, R406: once a write has verified, apply pending occurrences of a stored record in one further rewrite. -/
def rewritePending (s : State) : State :=
  if s.bushel.rewriting.isSome || s.bushel.closed || s.bushel.summaryMode then s
  else
    match s.bushel.pend.find? (fun p => s.bushel.index.any (fun e => e.serial == p.record.serial)) with
    | none => s
    | some p =>
      match s.bushel.index.find? (fun e => e.serial == p.record.serial) with
      | none => s
      | some e => startRewrite e.slot p.record p.count s

/-- R413: a slot write has failed its read-back. -/
def slotWriteFailed (s : State) : State :=
  let fails := incSat 16 s.bushel.writeFails
  let s1 := { s with bushel.writeFails := fails, bushel.consecFails := s.bushel.consecFails + 1 }
  if 3 ≤ s1.bushel.consecFails then logFail 1 s1 else if 64 ≤ fails then logFail 2 s1 else s1

/-- R403, R404, R405: an entry whose retry has failed too stays in the buffer for the next flush, with the occurrences that were pending for it; the eighth unqueued record starts one. -/
def requeue (e : BufEntry) (s : State) : State :=
  let s1 := { s with bushel.buf := s.bushel.buf.map (fun x => if x = e then { x with st := .unqueued, record := s.newestRec x.record } else x),
                     bushel.pend := s.bushel.pend.filter (fun p => p.record.serial != e.record.serial),
                     bushel.retrying := none, bushel.poolDue := s.bushel.poolDue || !nvBusy s.nvm 0 }
  if 8 ≤ s1.bushel.buf.countP (fun x => x.st == .unqueued) then flushPass s1 else s1

/-- R404, R408, R413: a record's slot write has been read back. -/
def recordDone (serial : Word) (slot : Nat) (ok : Bool) (s : State) : State :=
  match s.bushel.buf.find? (fun e => e.record.serial == serial) with
  | none => s
  | some e =>
    if ok then
      let buf := s.bushel.buf.erase e
      let isLast := match s.bushel.last with | some l => l.record.serial == serial | none => false
      let s1 := { s with bushel :=
        { s.bushel with buf := buf, consecFails := 0, retrying := none,
                        index := s.bushel.index ++ [{ slot := slot, serial := serial, sev := e.record.sev, lastMc := e.lastMc }],
                        last := if isLast then s.bushel.last.map (fun l => { l with slot := some slot }) else s.bushel.last,
                        poolDue := s.bushel.poolDue || !nvBusy s.nvm 0 } }
      rewritePending s1
    else
      let s1 := slotWriteFailed s
      if s1.bushel.summaryMode then s1
      else
        match s1.bushel.retrying == some serial || s1.bushel.closed, s1.bushel.pool with
        | false, fresh :: rest =>
          let op : NvOp :=
            { job := .record serial fresh,
              cws := [{ bank := 1, cw := 2 * fresh + 1, data := e.record.cw1 },
                      { bank := 1, cw := 2 * fresh, data := e.record.cw0 }] }
          { s1 with bushel.pool := rest, bushel.retrying := some serial,
                    nvm.queue := upd s1.nvm.queue 0 (fun l => op :: l) }
        | _, _ => requeue e s1

/-- R406, R411-R413: the power-fail record has been read back: it is stored, or its slot write has failed. -/
def pfRecordDone (serial : Word) (slot : Nat) (ok : Bool) (s : State) : State :=
  if ok then
    { s with bushel.consecFails := 0,
             bushel.index := s.bushel.index ++
               [{ slot := slot, serial := serial, sev := 6, lastMc := (Rec.ofBytes (slotBytes s slot)).mc }] }
  else slotWriteFailed s

/-- R403: the pending counts after the outstanding rewrite has verified. -/
def pendAfter (w : Rewrite) (ps : List Pend) : List Pend :=
  ps.filterMap (fun p =>
    if p.record.serial != w.record.serial then some p
    else if p.count ≤ w.applied then none
    else some { p with count := p.count - w.applied })

/-- R403: the pending counts after the outstanding rewrite has failed its read-back: what it was to apply stays pending, unless its record has been chosen for clearing since (R409). -/
def pendKept (stored : Bool) (w : Rewrite) (ps : List Pend) : List Pend :=
  if w.applied ≠ 0 || !stored then ps
  else if ps.any (fun p => p.record.serial == w.record.serial) then
    ps.map (fun p => if p.record.serial == w.record.serial then { p with count := p.count + 1 } else p)
  else ps ++ [{ record := w.record, count := 1 }]

/-- R403: a rewrite of codeword 0 has been read back; one that failed is repeated (notes/assumptions/79.md). -/
def rewriteDone (ok : Bool) (s : State) : State :=
  match s.bushel.rewriting with
  | none => s
  | some w =>
    rewritePending { s with bushel.rewriting := none,
                            bushel.pend := if ok then pendAfter w s.bushel.pend
                              else pendKept (s.bushel.index.any (fun e => e.serial == w.record.serial)) w s.bushel.pend }

/-- R408: a clearing has been read back: the slot joins the pool. One that failed is repeated (notes/assumptions/79.md). -/
def clearDone (slot : Nat) (ok : Bool) (s : State) : State :=
  if ok then
    flushMore { s with bushel.clearing := s.bushel.clearing.filter (fun e => e.slot != slot),
                       bushel.pool := if s.bushel.summaryMode then s.bushel.pool else s.bushel.pool ++ [slot] }
  else if s.bushel.closed || s.bushel.summaryMode then s
  else { s with nvm := nvSubmit s.nvm 1 (clearOp slot) }

/-- R416, R493: a summary copy has been read back, and is in force if it verified; a write that has waited for it begins. -/
def summaryDone (copy : Nat) (ok : Bool) (s : State) : State :=
  let s1 := if ok then { s with bushel.sum := { s.bushel.sum with copy := some copy } } else s
  if s1.bushel.sumDue && !s1.bushel.closed && !nvBusy s1.nvm 1 then sumSubmit s1 else s1

/-- R406: the writes of the buffered records not yet verified: a record keeps the slot it has been given, or takes one from the pool. -/
def powerFailRecords (s : State) : List BufEntry → List Nat → List NvOp
  | [], _ => []
  | e :: t, pool =>
    let given := (nth s.nvm.queue 0).findSome? (fun o =>
      match o.job with
      | .record n slot => if n == e.record.serial then some slot else none
      | _ => none)
    let r := s.newestRec e.record
    let mk (slot : Nat) : NvOp :=
      { job := .record r.serial slot,
        cws := [{ bank := 1, cw := 2 * slot + 1, data := r.cw1 }, { bank := 1, cw := 2 * slot, data := r.cw0 }] }
    match given, pool with
    | some slot, _ => mk slot :: powerFailRecords s t pool
    | none, slot :: rest => mk slot :: powerFailRecords s t rest
    | none, [] => powerFailRecords s t []

/-- R406: the outstanding codeword-0 rewrite, with its pending occurrences applied. -/
def powerFailRewrite (s : State) : List NvOp :=
  match s.bushel.rewriting with
  | none => []
  | some w =>
    let r := s.newestRec w.record
    ((nth s.nvm.queue 1).filterMap (fun o =>
      match o.job with
      | .rewrite slot => some { o with cws := [{ bank := 1, cw := 2 * slot, data := r.cw0 }] }
      | _ => none)).take 1

/-- R406, R410: Bushel before the power-fail flush: a scan still running ends first, since no slot is known to be empty before (notes/assumptions/79.md), and the ring is served. -/
def powerFailReady (s : State) : State :=
  serveRing (if s.bushel.scanDone || s.bushel.summaryMode then s else bushelScan s)

/-- R406: the power-fail flush: the outstanding rewrite with its pending occurrences, the buffered records in ascending serial, then the power-fail record, which takes no entry of the buffer. R416: in summary mode the warning is counted. -/
def powerFailFlush (s0 : State) : State :=
  let s := powerFailReady s0
  if s.bushel.summaryMode then
    sumCount (s.happening 90 6 6 0) false { s with bushel.closed := true, nvm.queue := List.replicate 8 [] }
  else
    let rw := powerFailRewrite s
    let recs := powerFailRecords s s.bushel.buf s.bushel.pool
    let used := recs.filterMap (fun o => match o.job with | .record _ k => some k | _ => none)
    let h := s.happening 90 6 6 0
    let r : Rec := { serial := s.bushel.nextSerial, typ := 6, sev := 6, snapSet := h.snapSet, snapOk := h.snapOk,
                     source := h.source, pcc := s.backup.pcc.toNat, opt := s.backup.opt.toNat,
                     mc := s.chain.mc, pt := some s.chain.pt.toNat, snap := h.snap }
    let pf := match s.bushel.pool.find? (fun k => !used.contains k) with
      | none => []
      | some slot =>
        [{ job := NvJob.pfRecord r.serial slot,
           cws := [{ bank := 1, cw := 2 * slot + 1, data := r.cw1 }, { bank := 1, cw := 2 * slot, data := r.cw0 }] }]
    { s with bushel.closed := true, bushel.pend := [], bushel.rewriting := none, bushel.retrying := none,
             bushel.nextSerial := nextSerialOf s.bushel.nextSerial,
             nvm.queue := (List.replicate 8 []).set 0 (rw ++ recs ++ pf) }

end Sys2Proof.Machine
end

