-- ==== Sys2Proof/Machine/Cmd.lean ====
section
/-! DEFINITION. Message checks, responses, chunked objects and the execution of Atiskaux commands (R323-R333, R340-R344, R348, R496). -/

namespace Sys2Proof.Machine

/-! ## Status codes (R344) -/

def stOk : Nat := 0x0000
def stPending : Nat := 0x0001
def stBadCmd : Nat := 0x0101
def stBadLen : Nat := 0x0102
def stBadCrc : Nat := 0x0103
def stBadArg : Nat := 0x0104
def stNoResource : Nat := 0x0105
def stLocked : Nat := 0x0201
def stLoopClosed : Nat := 0x0202
def stBusy : Nat := 0x0203
def stCalDisagree : Nat := 0x0301
def stCalImplausible : Nat := 0x0302
def stNvFail : Nat := 0x0401
def stAuthFail : Nat := 0x0501
def stRollback : Nat := 0x0502
def stThermal : Nat := 0x0601
def stInternal : Nat := 0x0F01

/-! ## Responses (R327-R329, R332) -/

/-- R328: a response message. -/
def respBytes (r : Resp) : List Byte :=
  let h := le16 r.cmd ++ le16 r.tag.toNat ++ le32 r.payload.length ++
    le16 (b2n r.chunk + at' (b2n r.last) 1 + 4) ++ le16 r.status
  h ++ le32 (crc32c (h ++ r.payload)) ++ r.payload

/-- Bytes as the words of a mailbox (R323). -/
def bytesWords (bs : List Byte) : List Word := getWords bs 0 ((bs.length + 3) / 4)

/-- R327: write a response; a host command's outbound mailbox becomes FULL and its inbound mailbox FREE. -/
def respond (r : Resp) (boxes : Option (Nat × Nat)) (s : State) : State :=
  let s1 := { s with mbox.lastResp := some r }
  match boxes with
  | none => s1
  | some (i, j) =>
    let s2 := { s1 with mbox.outBuf := s1.mbox.outBuf.set j (bytesWords (respBytes r)),
                        mbox.outSt := s1.mbox.outSt.set j .full, mbox.outPtr := s1.mbox.outPtr.set j 0,
                        mbox.inSt := s1.mbox.inSt.set i .free, mbox.inPtr := s1.mbox.inPtr.set i 0 }
    raiseWith (112 + i) 0 r.tag.toNat (raiseWith (116 + j) 0 r.tag.toNat s2)

/-- What a command answers (R327): a status with a payload, a response object, or nothing yet while its NV operation runs. -/
inductive Reply where
  | done (status : Nat) (payload : List Byte)
  | object (data : List Byte)
  | wait
deriving DecidableEq, Repr, Inhabited

/-- A bare status with an empty payload (R341). -/
def Reply.st (status : Nat) : Reply := .done status []

/-- ST_OK with a payload. -/
def Reply.ok (payload : List Byte) : Reply := .done stOk payload

/-- R330, R332: chunk n of an object, with its prefix. -/
def chunkOf (data : List Byte) (n : Nat) : List Byte :=
  le16 n ++ zeros 2 ++ le32 data.length ++ (data.drop (4072 * n)).take 4072

/-- R330: the number of chunks of an object. -/
def chunkCount (len : Nat) : Nat := (len + 4071) / 4072

/-- R327, R332, R491: answer a command. The device holds one response object: a new one takes the place of one still held (DESIGN CHOICE, notes/assumptions/89.md). -/
def answer (cmd : Nat) (tag : BitVec 16) (boxes : Option (Nat × Nat)) (p : Reply) (s : State) : State :=
  match p with
  | .wait => { s with mbox.waiting := some { cmd := cmd, tag := tag, boxes := boxes } }
  | .done st pl => respond { cmd := cmd, tag := tag, status := st, payload := pl } boxes s
  | .object data =>
    if data.length ≤ 4080 then
      respond { cmd := cmd, tag := tag, status := stOk, payload := data } boxes s
    else
      respond { cmd := cmd, tag := tag, status := stOk, chunk := true, payload := chunkOf data 0 } boxes
        { s with mbox.respObj := [{ cmd := cmd, data := data, mc := s.chain.mc }] }

/-- R332: the arrival of a command of a code without `CHUNK` releases its response object. -/
def dropObject (code : Nat) (s : State) : State :=
  { s with mbox.respObj := s.mbox.respObj.filter (fun o => o.cmd != code) }

/-- R327, R329, R332: answer the messages that failed their checks, once they stand at the head of the order. One whose `CRC` was right has arrived with its `CMD`. -/
def drainErrs : List Accepted → State → State
  | [], s => { s with mbox.accepted := [] }
  | a :: t, s =>
    match a.err with
    | some st =>
      let s1 := if st = stBadArg ∧ !a.msg.chunk then dropObject a.cmd s else s
      drainErrs t (respond { cmd := a.cmd, tag := a.msg.tag, status := st } (some (a.inb, a.outb)) s1)
    | none => { s with mbox.accepted := a :: t }

/-- R327, R333: the head of the order is a command to execute, unless one is waiting for NVM or the application core is stopped. -/
def drain (s : State) : State :=
  if s.mbox.waiting.isSome || s.mbox.appRestart then s else drainErrs s.mbox.accepted s

/-- R327: a waiting command's NV operation has ended. A bus request takes up its own thread (R351). -/
def finish (status : Nat) (payload : List Byte) (s : State) : State :=
  match s.mbox.waiting with
  | none => s
  | some w =>
    if w.boxes.isNone && s.bus.waiting.isSome then
      drain { s with mbox.waiting := none, bus.result := some status }
    else
    drain (respond { cmd := w.cmd, tag := w.tag, status := status, payload := payload } w.boxes
      { s with mbox.waiting := none })

/-- R332: a fetch of chunk n of a held response object; fetching the last chunk releases it. -/
def fetchObject (cmd : Nat) (m : Msg) (s : State) : State × Resp :=
  let bad : Resp := { cmd := cmd, tag := m.tag, status := stBadArg }
  match s.mbox.respObj.find? (fun o => o.cmd == cmd) with
  | none => (s, bad)
  | some o =>
    let n := getH m.payload 0
    let count := chunkCount o.data.length
    if getH m.payload 2 ≠ 0 ∨ getW m.payload 4 ≠ 0 ∨ count ≤ n then (s, bad)
    else
      let isLast := n + 1 == count
      ((if isLast then dropObject cmd s
        else { s with mbox.respObj := s.mbox.respObj.map (fun x => if x.cmd = cmd then { x with mc := s.chain.mc } else x) }),
       { cmd := cmd, tag := m.tag, status := stOk, chunk := true, last := isLast, payload := chunkOf o.data n })

/-! ## Inbound chunked objects (R330, R331) -/

/-- What a chunk leads to. -/
inductive ChunkRes where
  | err (status : Nat)
  | more
  | whole (data : List Byte)
deriving DecidableEq, Repr, Inhabited

/-- R330: does a chunk's data length agree with its number, its `LAST` and the total. -/
def chunkLenOk (no total len : Nat) (last : Bool) : Bool :=
  if last then decide (1 ≤ len) && decide (len ≤ 4072) && decide (4072 * no + len = total)
  else decide (len = 4072) && decide (4072 * no + 4072 < total)

/-- R331: the inbound object in progress is abandoned and leaves no effect. Image bytes that have entered the NV write queue still reach the bank, which stays EMPTY (R469, R495). -/
def dropChunkIn (s : State) : State := { s with mbox.chunkIn := none }

/-- R331: does an object of another command bar this chunk 0. -/
def State.chunkBars (s : State) (cmd : Nat) : Bool :=
  match s.mbox.chunkIn with | some c => decide (c.cmd ≠ cmd) | none => false

/-- R331, R341: a chunk that breaks its rules abandons the object of its own command and is answered `ST_BAD_ARG`. -/
def chunkFault (cmd : Nat) (s : State) : State × ChunkRes :=
  (if s.chunkBars cmd then s else dropChunkIn s, .err stBadArg)

/-- R331: take one chunk of an inbound object of a command; `bus` marks an object that arrives through a file. -/
def takeChunk (cmd : Nat) (bus : Bool) (m : Msg) (s : State) : State × ChunkRes :=
  let no := getH m.payload 0
  let total := getW m.payload 4
  let data := m.payload.drop 8
  if m.payload.length < 8 ∨ getH m.payload 2 ≠ 0 then chunkFault cmd s
  else if no = 0 then
    if !chunkLenOk 0 total data.length m.last then chunkFault cmd s
    else if s.chunkBars cmd then (s, .err stBusy)
    else
      let s1 := dropChunkIn s
      if m.last then (s1, .whole data)
      else
        let c : ChunkIn := { cmd := cmd, bus := bus, total := total, next := 1, data := data, mc := s.chain.mc }
        ({ s1 with mbox.chunkIn := some c }, .more)
  else
    match s.mbox.chunkIn with
    | none => (s, .err stBadArg)
    | some c =>
      if c.cmd ≠ cmd ∨ no ≠ c.next ∨ total ≠ c.total ∨ !chunkLenOk no total data.length m.last then chunkFault cmd s
      else if m.last then ({ s with mbox.chunkIn := none }, .whole (c.data ++ data))
      else
        let d : ChunkIn := { c with next := c.next + 1, data := c.data ++ data, mc := s.chain.mc }
        ({ s with mbox.chunkIn := some d }, .more)

/-! ## Execution (R327, R341) -/

/-- How a command treats chunks (R330, R332). -/
inductive Chunks where
  | none | inbound | fetch
deriving DecidableEq, Repr, Inhabited

/-- What the general checks of R341 need to know of a command. -/
structure CmdSpec where
  code : Nat := 0
  /-- R340: payload lengths the layout allows. -/
  len : Nat → Bool := fun n => n == 0
  /-- R340: does a payload have the length that its own fields give it. -/
  fits : List Byte → Bool := fun _ => true
  chunks : Chunks := .none
  /-- R348: the signed-configuration policy forbids it. -/
  signedBars : Bool := false

/-- R327: the message a command executes with: that of the accepted mailbox at the head of the order when it carries this command, else the one given (a command on behalf of the bus); see notes/assumptions/5.md. -/
def takeAccepted (code : Nat) (m : Msg) (s : State) : Msg × Option (Nat × Nat) × State :=
  match s.mbox.accepted with
  | a :: rest =>
    if a.cmd = code then (a.msg, some (a.inb, a.outb), { s with mbox.accepted := rest })
    else (m, none, s)
  | [] => (m, none, s)

/-- R340: does `LEN` agree with the command's layout; a fetch carries a chunk prefix alone (R332), and an inbound chunk is R331's. -/
def CmdSpec.lenOk (c : CmdSpec) (m : Msg) : Bool :=
  match m.chunk, c.chunks with
  | true, .inbound => true
  | true, .fetch => m.payload.length == 8
  | _, _ => c.len m.payload.length && c.fits m.payload

/-- R341 steps 1-3: `LEN`, `CHUNK`, the configuration policy. -/
def precheck (c : CmdSpec) (m : Msg) (s : State) : Option Nat :=
  if !c.lenOk m then some stBadLen
  else if m.chunk && c.chunks == .none then some stBadArg
  else if c.signedBars && s.mgt.otp.signedCfg then some stAuthFail
  else none

/-- R342, R493, R496: the entry of the NV write queue that a command waits for, when it writes NVM. -/
def nvEntryOf (code : Nat) : Option Nat :=
  if code = 0x0007 then some 6
  else if code = 0x1103 then some 3
  else if [0x7103, 0x7202, 0x7204, 0x7205].contains code then some 5
  else if [0x000A, 0x0204, 0x1004, 0x1005, 0x1006, 0x1007, 0x1107, 0x2003, 0x2006, 0x2103, 0x2107, 0x2108, 0x2206,
           0x3004, 0x3005, 0x3104, 0x3105, 0x4008, 0x4103, 0x5003, 0x5102, 0x6005].contains code then some 2
  else none

/-- R493, R495, R496: a command waits for the operations that an application-core restart has left behind in its own entry. -/
def State.nvBars (s : State) (code : Nat) : Bool :=
  match nvEntryOf code with
  | some e => nth s.nvm.orphans e != 0
  | none => false

/-- R332, R341: a command taken from its mailbox: the general checks, then its own body, then its answer. -/
def runCommand (c : CmdSpec) (msg : Msg) (boxes : Option (Nat × Nat)) (body : Msg → State → State × Reply) (s0 : State) : State :=
  let s := if msg.chunk then s0 else dropObject c.code s0
  match precheck c msg s with
  | some st => drain (answer c.code msg.tag boxes (.st st) s)
  | none =>
    if msg.chunk && c.chunks == .fetch then
      let r := fetchObject c.code msg s
      drain (respond r.2 boxes r.1)
    else
      let r := body msg s
      drain (answer c.code msg.tag boxes r.2 r.1)

/-- Execute a command. Nothing happens while the application core does not run or while an earlier command waits for NVM (R327). -/
def command (c : CmdSpec) (m : Msg) (body : Msg → State → State × Reply) (s : State) : State :=
  if !s.appUp || s.mbox.waiting.isSome || s.nvBars c.code then s
  else
    let t := takeAccepted c.code m s
    runCommand c t.1 t.2.1 body t.2.2

/-- A command that only reports: its payload is a function of the state. -/
def report' (f : State → List Byte) (_ : Msg) (s : State) : State × Reply := (s, .ok (f s))

/-- R12: reserved bytes of a payload are 0. -/
def padOk (m : Msg) (o n : Nat) : Bool := (slice m.payload o n).all (fun b => b == 0)

/-- R342: a command that would start an NVM write, a calibration run, a self-test or an image write is rejected at Critical. -/
def State.thermalBars (s : State) : Bool := s.therm.critical.entered

/-! ## Mailboxes (R323-R326, R328, R329) -/

/-- The bytes of an inbound mailbox. -/
def inBytes (s : State) (i : Nat) : List Byte :=
  let b := wordsBytes (nth s.mbox.inBuf i)
  b ++ zeros (4096 - b.length)

/-- R329: the checks at acceptance. -/
def acceptCheck (b : List Byte) (defined : Nat → Bool) : Option Nat :=
  let len := getW b 4
  if 4080 < len then some stBadLen
  else if getW b 0x0C ≠ crc32c (b.take 0x0C ++ slice b 0x10 len) then some stBadCrc
  else if !defined (getH b 0) then some stBadCmd
  else if 4 ≤ getH b 8 ∨ getH b 0x0A ≠ 0 then some stBadArg
  else none

/-- R340-R367: the command codes the set defines. -/
def cmdDefined (code : Nat) : Bool :=
  let f := code % 256
  match code / 256 with
  | 0x00 => 1 ≤ f && f ≤ 0x0A
  | 0x01 => f = 1
  | 0x02 => 1 ≤ f && f ≤ 8
  | 0x10 => 1 ≤ f && f ≤ 7
  | 0x11 => 1 ≤ f && f ≤ 7
  | 0x20 => 1 ≤ f && f ≤ 6
  | 0x21 => 1 ≤ f && f ≤ 8
  | 0x22 => 1 ≤ f && f ≤ 6
  | 0x30 => 1 ≤ f && f ≤ 5
  | 0x31 => 1 ≤ f && f ≤ 5
  | 0x40 => 1 ≤ f && f ≤ 8
  | 0x41 => 1 ≤ f && f ≤ 3
  | 0x50 => 1 ≤ f && f ≤ 3
  | 0x51 => 1 ≤ f && f ≤ 3
  | 0x60 => 1 ≤ f && f ≤ 5
  | 0x70 => 1 ≤ f && f ≤ 3
  | 0x71 => 1 ≤ f && f ≤ 3
  | 0x72 => 1 ≤ f && f ≤ 5
  | 0x7F => 1 ≤ f && f ≤ 2
  | _ => false

/-- R326, R329: accept the oldest posted mailbox into the lowest FREE outbound one. A message that fails its checks takes its place in the order with its status already known. -/
def acceptMailbox (s : State) : State :=
  match s.mbox.posted, (List.range 4).find? (fun j => nth s.mbox.outSt j == .free) with
  | i :: rest, some j =>
    let b := inBytes s i
    let len := getW b 4
    let msg : Msg := { tag := BitVec.ofNat 16 (getH b 2), chunk := (getH b 8).testBit 0,
                       last := (getH b 8).testBit 1, payload := slice b 0x10 len }
    let s1 := { s with mbox.posted := rest, mbox.inSt := s.mbox.inSt.set i .accepted,
                       mbox.inPtr := s.mbox.inPtr.set i 0,
                       mbox.outSt := s.mbox.outSt.set j .reserved, mbox.outPtr := s.mbox.outPtr.set j 0 }
    drain { s1 with mbox.accepted := s1.mbox.accepted ++
      [{ inb := i, outb := j, cmd := getH b 0, msg := msg, err := acceptCheck b cmdDefined }] }
  | _, _ => s

end Sys2Proof.Machine
end

