-- ==== Sys2Proof/Machine/Chain.lean ====
section
/-! DEFINITION. Chain, the mains-cycle timebase (R38-R50, R58, R530, R532). -/

namespace Sys2Proof.Machine

/-- R42: the nominal MC length in 24.000 MHz reference periods. -/
def State.nominalLen (s : State) : Nat := if s.nominal60 then 400000 else 480000

/-- R46, R454: a held or nominal length with the crystal's temperature correction; `X24_PPM` is in units of 0.01 ppm. -/
def State.freeLen (s : State) : Nat :=
  let d := s.chain.x24 - s.chain.x24Base
  ((s.chain.pEst : Int) + ((s.chain.pEst : Int) * d).tdiv 100000000).toNat

/-- R530 L: the current MC length of Chain. -/
def State.lenL (s : State) : Nat := if s.chain.st = .locked then s.chain.pEst else s.freeLen

/-- R58: move to another Chain state; a change raises source 101 and writes a record. -/
def setChain (st : ChainSt) (s : State) : State :=
  if s.chain.st = st then s
  else report 101 3 (if st = .holdover then 3 else 2) 0 { s with chain.st := st }

/-- R58: set `SLEWING`; its clearing raises source 101 and writes a record. -/
def setSlewing (v : Bool) (s : State) : State :=
  let s1 := { s with chain.slewing := v }
  if s.chain.slewing && !v then report 101 3 2 0 s1 else s1

/-- The PTs that have passed since a point (MC, PT) of the local counts. -/
def State.ptSince (s : State) (mc : Word) (pt : Nat) : Int :=
  ((s.chain.mc - mc).toNat : Int) * 4096 + s.chain.pt.toNat - pt

/-! ## The order of one PT (R54) -/

/-- R54: an activity of rank k may start: none of a later rank has started in this PT (notes/assumptions/76.md). -/
def State.inOrder (s : State) (k : Nat) : Bool := decide (s.chain.stage ≤ k)

/-- R54: an activity of rank k that runs once in a PT may start: neither it nor one of a later rank has started in this PT. -/
def State.inTurn (s : State) (k : Nat) : Bool := decide (s.chain.stage < k)

/-- R54: an activity of rank k starts. -/
def atStage (k : Nat) (s : State) : State := { s with chain.stage := k }

/-- R54: run an activity of rank k that `due` says is to start in this PT, at its place in the order of the PT. -/
def inStage (k : Nat) (due : Bool) (act : State → State) (s : State) : State :=
  if due && s.inOrder k then act (atStage k s) else s

/-- A time, in reference periods, that is over by the end of the PT in progress. -/
def State.reached (s : State) (t : Nat) : Bool :=
  decide (t < s.chain.mcStart + (s.chain.pt.toNat + 1) * s.chain.curLen / 4096)

/-- R43: the lock range of 45.0-65.0 Hz, for a period in reference periods. -/
def inLockRange (p : Nat) : Bool := decide (24000000 ≤ 65 * p) && decide (45 * p ≤ 24000000)

/-- R43: no more than 0.5 % from the previous accepted period; the first has none before it. -/
def nearPrevious (prev : Option Nat) (p : Nat) : Bool :=
  match prev with
  | none => true
  | some q => decide (200 * (p - q) ≤ q) && decide (200 * (q - p) ≤ q)

/-- R50: the position of a time relative to the start of the MC in progress, in PT: the floor of the offset on the scale of that MC's length (DESIGN CHOICE, notes/assumptions/77.md). -/
def State.posPt (s : State) (t : Int) : Int := ((t - s.chain.mcStart) * 4096).fdiv s.chain.curLen

/-- R50: a time on the PT line of the counts, MC × 4096 + PT. -/
def State.linePt (s : State) (t : Int) : Int := (s.chain.mc.toNat : Int) * 4096 + s.posPt t

/-- R44: the acceptance window a time lies nearest to, by the MC of its centre, and its distance from the expected crossing. -/
def State.windowOf (s : State) (t : Int) : Word × Int :=
  let x := s.linePt t - s.chain.expect
  let k := (x + 2048).fdiv 4096
  (wInt k, x - 4096 * k)

/-- R47, R46: the mean of a list of periods. -/
def meanOf (ps : List Nat) : Nat := if ps.isEmpty then 0 else ps.sum / ps.length

/-- R530, R43: the bookkeeping of an accepted crossing that covers n cycles: its period enters the list, and the consecutive count advances or returns to 0. -/
def acceptCrossing (obs : Int) (n p : Nat) (s : State) : State :=
  let ok := n = 1 && inLockRange p && nearPrevious s.chain.lastPeriod p
  { s with chain.lastCross := some obs, chain.lastPeriod := some p,
           chain.periods := (p :: s.chain.periods).take 20,
           chain.consec := if ok then s.chain.consec + 1 else 0, chain.missed := 0 }

/-- R50: the phase error at an accepted crossing sets the length of the next MC, `SLEWING` and the expected crossing. -/
def phaseCorrect (obs : Int) (s : State) : State :=
  let e := sext 12 (wrap 12 (s.linePt obs))
  let corr := clampI e (-8) 8
  let next := (s.chain.pEst : Int) + (corr * s.chain.pEst).tdiv 4096
  setSlewing (decide (8 < e.natAbs))
    { s with chain.phaseErr := e, chain.nextLen := some next.toNat, chain.expect := e - corr }

/-- R44: an accepted crossing uses up its window, which the expected crossing of the next one now numbers: e may have passed ±2048, and the windows' numbers with it. -/
def windowAccepted (obs : Int) (s : State) : State :=
  let k := (s.windowOf obs).1
  { s with chain.winUsed := some k, chain.winAccepted := some k, chain.winMissed := none }

/-- R47: the crossing that completes the 20th consecutive consistent cycle locks Chain. -/
def lockChain (obs : Int) (s : State) : State :=
  windowAccepted obs
    (phaseCorrect obs (setChain .locked { s with chain.pEst := meanOf s.chain.periods, chain.expect := 0 }))

/-- R44, R47: a crossing in ACQUIRE or HOLDOVER. -/
def crossFree (obs : Int) (s : State) : State :=
  match s.chain.lastCross with
  | none => { s with chain.lastCross := some obs, chain.missed := 0 }
  | some a =>
    if (obs - a) * 65 < 18000000 then s
    else
      let n := (max 1 (rne (obs - a) s.lenL)).toNat
      let s1 := acceptCrossing obs n ((obs - a).toNat / n) s
      if 20 ≤ s1.chain.consec then lockChain obs s1 else s1

/-- R44, R45, R50: a crossing in LOCKED. -/
def crossLocked (obs : Int) (s : State) : State :=
  let w := s.windowOf obs
  if s.chain.winUsed = some w.1 ∨ w.2 < -512 ∨ 511 < w.2 then s
  else
    let s0 := { s with chain.winUsed := some w.1 }
    let n := 1 + s.chain.missed
    let p := ((obs - s.chain.lastCross.getD obs).toNat) / n
    if !inLockRange p then s0
    else
      let s1 := acceptCrossing obs n p s0
      windowAccepted obs
        (phaseCorrect obs { s1 with chain.pEst := ((s1.chain.pEst : Int) + ((p : Int) - s1.chain.pEst).tdiv 16).toNat })

/-- R41, R532: MC 0 begins at PT 0 at a time, in a state. `FREQ_MHZ` shows the nominal frequency of `NOMINAL` from this moment on, and 50,000 before it (DESIGN CHOICE, notes/assumptions/77.md). -/
def beginCounting (t : Nat) (st : ChainSt) (s : State) : State :=
  setChain st { s with chain.mcStart := t, chain.now := t, chain.pEst := s.nominalLen,
                       chain.curLen := s.nominalLen, chain.nextLen := none }

/-- R38, R39, R41, R44, R517 ZX_CROSSING: a crossing timestamped to one reference period at the comparator's output, with its direction. The comparator's 1.00 µs (24 reference periods) and `ZX_COMP` are removed from the timestamp. MC 0 begins at the moment at which the comparator reports the crossing (DESIGN CHOICE, notes/assumptions/77.md). -/
def zxCrossing (t : Nat) (positive : Bool) (s : State) : State :=
  if !s.alive || positive == s.cb .chain 0 0 10 then s
  else
    let obs : Int := (t : Int) - 24 - 6 * s.cf .chain 0 0 9 2
    match s.chain.st with
    | .start =>
      if s.synthetic then s
      else { beginCounting t .acquire s with chain.lastCross := some obs }
    | .acquire | .holdover => crossFree obs s
    | .locked => crossLocked obs s
    | .synthetic => s

def execZxCrossing (t : Nat) (positive : Bool) (s : State) : Host.Outcome State Fault Refusal :=
  .next (zxCrossing t positive s)

/-- R41 START_TIMEOUT: 100 ms after step 4 of start-up (2,400,000 reference periods) with no crossing. -/
def execStartTimeout (s : State) : Host.Outcome State Fault Refusal :=
  .next (if s.alive && s.chain.st == .start && !s.synthetic then
      beginCounting (s.chain.now + 2400000) .acquire s else s)

/-- R45, R46: HOLDOVER holds the mean of the last 16 accepted periods. `SLEWING` clears with the correction it belongs to, after the change of state (DESIGN CHOICE, notes/assumptions/77.md). -/
def enterHoldover (s : State) : State :=
  setSlewing false
    (setChain .holdover
      { s with chain.pEst := meanOf (s.chain.periods.take 16), chain.x24Base := s.chain.x24, chain.consec := 0 })

/-- R44, R45: the acceptance window that closes at the start of the PT in progress, 512 PT after its expected crossing. -/
def State.closingWindow (s : State) : Option Word :=
  let x := (s.chain.mc.toNat : Int) * 4096 + s.chain.pt.toNat - s.chain.expect - 512
  if x % 4096 = 0 then some (wInt (x / 4096)) else none

/-- R44, R45 MISSING_CROSSING: the window that closes now had no accepted crossing. -/
def missingCrossing (s : State) : State :=
  let k := s.closingWindow
  if !s.alive || s.chain.st ≠ .locked || k.isNone || s.chain.winAccepted == k || s.chain.winMissed == k then s
  else
    let s1 := { s with chain.missed := s.chain.missed + 1, chain.winMissed := k }
    if 3 ≤ s1.chain.missed then enterHoldover s1 else s1

def execMissingCrossing (s : State) : Host.Outcome State Fault Refusal := .next (missingCrossing s)

/-- R34, R55, R56: the live Chain fields take effect at the MC boundary. -/
def chainLive (s : State) : State :=
  let w0 := merge (w32 (bmask 9 2)) (s.cw .chain 0 0) (s.cfg.committed.word .chain 0 0)
  let w1 := merge (w32 (bmask 16 11)) (s.cw .chain 0 1) (s.cfg.committed.word .chain 0 1)
  { s with cfg.inForce := (s.cfg.inForce.setWord .chain 0 0 w0).setWord .chain 0 1 w1 }

/-- R57, R72: the stagger slot in force at the MC boundary; a change raises source 100. -/
def slotBoundary (s : State) : State :=
  let slot := match s.acre.slotPend with
    | some n => n
    | none => if s.acre.slotAssigned then s.acre.slot else s.cf .chain 0 1 16 11
  let s1 := { s with acre.slot := slot, acre.slotAssigned := s.acre.slotAssigned || s.acre.slotPend.isSome,
                     acre.slotPend := none }
  if slot ≠ s.acre.slot then report 100 3 2 0 s1 else s1

/-- R60: a new class and offset step in at the MC boundary; the change raises source 100. -/
def classBoundary (s : State) : State :=
  match s.acre.pend with
  | none => s
  | some (c, o) =>
    let s1 := { s with acre.cls := c, acre.offset := o, acre.pend := none }
    if c ≠ s.acre.cls ∨ o ≠ s.acre.offset then report 100 3 2 0 s1 else s1

/-- R48, R136: PT wraps and MC increments; what waits for the boundary takes effect, the 24 MHz correction for the MC that now starts among it. -/
def mcBoundary (s0 : State) : State :=
  let s := { s0 with chain.x24 := s0.coefs.x24 }
  let len := match s.chain.nextLen with | some n => n | none => s.lenL
  let s1 := { s with chain.pt := 0, chain.stage := 0, chain.mc := s.chain.mc + 1,
                     chain.mcStart := s.chain.mcStart + s.chain.curLen,
                     chain.now := s.chain.mcStart + s.chain.curLen,
                     chain.curLen := len, chain.nextLen := none }
  classBoundary (slotBoundary (chainLive s1))

/-- R48, R49 PT_TICK: the NCO ends one PT and starts the next. -/
def ptTick (s : State) : State :=
  if !s.alive || s.chain.st == .start then s
  else if s.chain.pt = 4095 then mcBoundary s
  else
    { s with chain.pt := s.chain.pt + 1, chain.stage := 0,
             chain.now := s.chain.mcStart + (s.chain.pt.toNat + 1) * s.chain.curLen / 4096 }

/-- R41, R532: with `MODE` synthetic, Chain leaves START for SYNTHETIC at the end of step 4 of start-up. -/
def chainSynthetic (s : State) : State :=
  if s.synthetic && s.chain.st == .start then beginCounting s.chain.now .synthetic s else s

end Sys2Proof.Machine
end

