-- ==== Sys2Proof/Machine/Acre.lean ====
section
/-! DEFINITION. Acre: messages, class and offset resolution, membership and election, stagger slots (R58-R72, R392-R395). -/

namespace Sys2Proof.Machine

/-- R369 `ACRE_IF`: the port that carries Acre. -/
def State.acrePort (s : State) : Nat := if s.cb .bus 0 0 6 then 3 else 2

/-- R373: the IPv4 address of the Acre interface. -/
def State.acreAddr (s : State) : Nat := (s.cw .bus 0 (if s.cb .bus 0 0 6 then 7 else 4)).toNat

/-- R373: the subnet broadcast address of the Acre interface. -/
def State.acreBroadcast (s : State) : Nat :=
  let i := if s.cb .bus 0 0 6 then 7 else 4
  (s.cw .bus 0 i ||| ~~~ s.cw .bus 0 (i + 1)).toNat

/-- R56 `PORT`. -/
def State.acreUdp (s : State) : Nat := s.cf .chain 0 2 15 0

/-- R61, R67, R369: the device takes part in Acre. -/
def State.acreActive (s : State) : Bool :=
  s.cb .chain 0 1 10 && s.cb .bus 0 0 (if s.cb .bus 0 0 6 then 5 else 4) && s.acreAddr ≠ 0

/-- R58: source 100 and its record for each of: state, master, class or offset, resolution, slot, first mismatch. -/
def acreNotes (old : Acre) (s : State) : State :=
  let a := s.acre
  let n := b2n (old.st != a.st) + b2n (old.master != a.master) +
    b2n (old.cls != a.cls || old.offset != a.offset) + b2n (old.resolved != a.resolved) +
    b2n (old.slot != a.slot) + b2n (!old.nominalMismatch && a.nominalMismatch)
  (List.range n).foldl (fun x _ => report 100 3 2 0 x) s

/-- R61, R67: enter DISABLED, or SEEKING when the device begins to take part. -/
def acreEval (s : State) : State :=
  if s.acreActive then
    if s.acre.st = .disabled then
      acreNotes s.acre { s with acre.st := .seeking, acre.sinceMc := s.chain.mc }
    else s
  else if s.acre.st = .disabled ∨ s.acre.st = .duplicate then s
  else
    acreNotes s.acre
      { s with acre := { s.acre with st := .disabled, master := none, masterHoldover := false, members := [],
                                     window := [], resolved := false, cls := 0, offset := 0, pend := none,
                                     cand := none, candCnt := 0, fresh := true, aligned := false,
                                     joined := false, gotSlot := false, slotAssigned := false,
                                     slotPend := none, slot := s.cf .chain 0 1 16 11 } }

/-! ## Messages (R392, R393, R395) -/

/-- R392: body length of a type. -/
def acreLen (typ : Nat) : Nat := if typ = 1 then 16 else 8

/-- R392: a message with its `A_CRC`, which takes the stamp bytes of a BEACON as 0. -/
def acreMsg (typ id seq : Nat) (body plain : List Byte) : List Byte :=
  let h := le32 0x5A334143 ++ le8 1 ++ le8 typ ++ le16 id ++ le16 (acreLen typ) ++ le16 seq
  h ++ le32 (crc32c (h ++ plain)) ++ body

/-- R392: the body with the stamp bytes of a BEACON taken as 0. -/
def acrePlain (b : List Byte) : List Byte :=
  if getB b 5 = 1 then slice b 0x10 4 ++ zeros 6 ++ slice b 0x1A 6 else slice b 0x10 8

/-- R395: magic, version, length and CRC. -/
def acreValid (typ : Nat) (b : List Byte) : Bool :=
  getW b 0 == 0x5A334143 && getB b 4 == 1 && getB b 5 == typ && getH b 8 == acreLen typ &&
  b.length == 16 + acreLen typ && getW b 0x0C == crc32c (b.take 0x0C ++ acrePlain b)

/-- Update a port. -/
def updPort (p : Nat) (f : Port → Port) (s : State) : State := { s with bus.ports := upd s.bus.ports p f }

/-- R62, R392, R394: send an Acre message to an address as a UDP datagram on `PORT`, from the interface's address, with checksum 0 and its stamp; the count of messages advances. -/
def acreSend (typ dst : Nat) (body plain : List Byte) (s : State) : State :=
  let d : Datagram := { src := s.acreAddr, dst := dst, srcPort := s.acreUdp, dstPort := s.acreUdp, checksum := 0,
                        bytes := acreMsg typ s.acreId s.acre.seq.toNat body plain,
                        stampMc := s.chain.mc, stampPt := s.chain.pt.toNat }
  updPort s.acrePort (fun p => { p with txFrames := incSat 32 p.txFrames })
    { s with acre.sent := some d, acre.seq := s.acre.seq + 1 }

/-- R22, R440: Acre runs on clocks of the system PLL, from the release of the control path on. -/
def State.acreRuns (s : State) : Bool := s.released && s.clk.pllLocked

/-- R62, R395: receive an Acre message: the frame is stamped; own messages are ignored, malformed ones are counted in `RX_ERR`, and the others act. -/
def acreReceive (typ addr : Nat) (b : List Byte) (act : State → State) (s0 : State) : State :=
  let s := { s0 with acre.rxMc := s0.chain.mc, acre.rxPt := s0.chain.pt.toNat }
  if !s0.acreRuns || s0.acre.st == .disabled || addr == s0.acreAddr then s0
  else if !acreValid typ b then updPort s.acrePort (fun p => { p with rxErr := incSat 32 p.rxErr }) s
  else act (updPort s.acrePort (fun p => { p with acreRx := incSat 32 p.acreRx, rxFrames := incSat 32 p.rxFrames }) s)

/-- R67: a message that carries the device's own ID moves it to DUPLICATE; `was` is Acre as it came. -/
def duplicate (was : Acre) (s : State) : State :=
  acreNotes was { s with acre.st := .duplicate, acre.members := [] }

/-! ## Resolution (R60, R63, R65, R68) -/

/-- R63: class and offset from the minimum of D, or none while the residual is too large. -/
def resolve (dMin : Int) : Option (Nat × Word) :=
  let q := (3 * dMin).fdiv 4096
  let e3 := 3 * dMin - q * 4096
  if 2048 < e3 then none
  else
    let c := ((-q) % 3).toNat
    some (c, wInt ((-q - c) / 3))

/-- R68: a device in SYNTHETIC or ACQUIRE aligns AMC but never reports `CLASS_RESOLVED`. -/
def State.unsynced (s : State) : Bool :=
  s.chain.st == .acquire || s.chain.st == .synthetic || s.chain.st == .start

/-- R60: take a resolution result: at once when `first` (the first one, or the first after a change of master); else once it differs over 8 consecutive beacons. -/
def takeResult (first : Bool) (r : Nat × Word) (a : Acre) : Acre :=
  if first then { a with pend := some r, cand := none, candCnt := 0 }
  else if a.pend.getD (a.cls, a.offset) = r then { a with cand := none, candCnt := 0 }
  else
    let n := if a.cand = some r then a.candCnt + 1 else 1
    if 8 ≤ n then { a with pend := some r, cand := none, candCnt := 0 }
    else { a with cand := some r, candCnt := n }

/-- R60, R68: a resolution result (class, offset) as a member takes it. While Chain is not synchronized the offset alone aligns, once at once, and the first class after that is still a first resolution (notes/assumptions/78.md). -/
def takeResolved (unsynced : Bool) (r : Nat × Word) (a : Acre) : Acre :=
  if unsynced then { takeResult (a.fresh && !a.aligned) (0, r.2) a with resolved := false, aligned := true }
  else { takeResult a.fresh r a with resolved := true, fresh := false }

/-- R63: after a beacon from the current master. A beacon without a result ends a run of differing ones (R60). -/
def classResolution (d : Int) (s : State) : State :=
  let w := (d :: s.acre.window).take 8
  let s1 := { s with acre.window := w }
  if w.length < 3 then s1
  else
    match resolve (w.foldl min d) with
    | none => { s1 with acre.resolved := false, acre.cand := none, acre.candCnt := 0 }
    | some r => { s1 with acre := takeResolved s.unsynced r s1.acre }

/-! ## Beacons (R67-R70, R394) -/

/-- R72, R242: channels configured for pull-in; a ganged pair counts once. -/
def State.pullInChannels (s : State) : Nat :=
  ((List.range 32).filter (fun n =>
    s.cf .act n 0 31 29 == 2 && s.cb .act n 0 7 &&
    !(n == 29 && s.cb .actDev 0 0 0) && !(n == 31 && s.cb .actDev 0 0 1))).length

/-- R393, R394: send a JOIN to the current master. -/
def sendJoin (s : State) : State :=
  let body := le8 (if s.unsynced then 0 else s.acre.cls) ++ le8 (b2n s.unsynced) ++ le8 s.pullInChannels ++
    le8 (if s.acre.slotAssigned then s.acre.slot else 0xFF) ++ le16 (s.acre.master.getD 0xFFFF) ++ zeros 2
  acreSend 2 s.acre.masterAddr body body { s with acre.sinceJoin := 0 }

/-- R394: a JOIN at the first beacon after `CLASS_RESOLVED` becomes 1 (or, without synchronization, after becoming MEMBER), at each later beacon until a SLOT comes, and at every 8th after that. `joined` returns to 0 when the class becomes resolved, so that the next beacon brings a first JOIN again. -/
def joinAtBeacon (was : Acre) (s : State) : State :=
  let due := if was.joined then !s.acre.gotSlot || decide (8 ≤ s.acre.sinceJoin + 1) else was.resolved || s.unsynced
  let now := s.acre.resolved && !was.resolved
  if was.st != .member || was.master != s.acre.master then s
  else if due then sendJoin { s with acre.joined := !now }
  else { s with acre.joined := was.joined && !now, acre.sinceJoin := s.acre.sinceJoin + 1 }

/-- R63, R67, R69: the part of a beacon from the master the device follows from now on. A master heard again after its loss counts as a new one (DESIGN CHOICE, notes/assumptions/77.md). -/
def followBeacon (was : Acre) (id addr : Nat) (b : List Byte) (s : State) : State :=
  let tRecv : Int := s.acre.rxMc.toNat * 4096 + s.acre.rxPt
  let tSend : Int := getW b 0x14 * 4096 + getH b 0x18
  let d := sext 44 (wrap 44 (tRecv - tSend))
  let changed := s.acre.master ≠ some id
  let a := if changed then { s.acre with window := [], fresh := true, aligned := false, cand := none, candCnt := 0,
                                         joined := false, gotSlot := false, sinceJoin := 0 } else s.acre
  let s1 := { s with acre := { a with st := .member, master := some id, masterAddr := addr, members := [],
                                      masterHoldover := (getB b 0x10).testBit 1, sinceMc := s.chain.mc } }
  acreNotes was (joinAtBeacon was (classResolution d s1))

/-- R67, R68, R70: what a valid BEACON does. One of the other nominal frequency sets `NOMINAL_MISMATCH` in every state. One that carries the device's own ID and the other nominal frequency does both: the spec does not say whether R68's "ignores" keeps R67's DUPLICATE out (DESIGN CHOICE, notes/assumptions/77.md). -/
def beaconAct (addr : Nat) (b : List Byte) (s0 : State) : State :=
  let id := getH b 6
  let other := (getB b 0x10).testBit 0 != s0.nominal60
  let s := if other then { s0 with acre.nominalMismatch := true } else s0
  if s.acre.st = .duplicate then acreNotes s0.acre s
  else if id = s.acreId then duplicate s0.acre s
  else if other then acreNotes s0.acre s
  else
    match s.acre.st with
    | .seeking | .candidate | .master => if id < s.acreId then followBeacon s.acre id addr b s else s
    | .member =>
      if id ≤ s.acre.master.getD 0xFFFF then followBeacon s.acre id addr b s else s
    | _ => s

/-- R63 BEACON: a datagram from an address, stamped at its receipt with the local MC and PT (R62). -/
def execBeacon (addr : Nat) (b : List Byte) (s : State) : Host.Outcome State Fault Refusal :=
  .next (acreReceive 1 addr b (beaconAct addr b) s)

/-- R53, R68: at building PT 0 of an MC whose AMC is a multiple of the interval, the master's beacon is released. -/
def beaconRelease (s : State) : State :=
  if s.acreRuns && s.acre.st == .master && s.bpt == 0 && s.amc.toNat % s.beaconInterval == 0 then
    { s with acre.beaconDue := some s.amc }
  else s

/-- R62, R68 ACRE_BEACON_SEND: the start-of-frame delimiter, on the wire, of the beacon that building PT 0 of this building MC has released. It carries the (AMC, BPT) at which the wire takes it, as R70's does (notes/assumptions/78.md). -/
def beaconSend (s0 : State) : State :=
  if s0.acreRuns && s0.acre.st == .master && s0.acre.beaconDue == some s0.amc then
    let s := { s0 with acre.beaconDue := none }
    let flags := b2n s.nominal60 + at' (b2n (s.chain.st != .locked)) 1 + at' (b2n (s.chain.st == .synthetic)) 2
    let head := le8 flags ++ zeros 1 ++ le16 s.beaconInterval
    let tail := le16 s.acre.members.length ++ zeros 4
    acreSend 1 s.acreBroadcast (head ++ leW s.amc ++ le16 s.bpt ++ tail) (head ++ zeros 6 ++ tail) s
  else s0

def execAcreBeaconSend (s : State) : Host.Outcome State Fault Refusal := .next (beaconSend s)

/-! ## Joins and slots (R72, R394) -/

/-- R72: the slot with the smallest total of reported channels among the members of a class; ties go to the lowest. -/
def assignSlot (members : List Join) (cls : Nat) : Nat :=
  let total (n : Nat) := ((members.filter (fun j => j.cls == cls && j.slot == n)).map (·.channels)).sum
  (List.range 64).foldl (fun best n => if total n < total best then n else best) 0

/-- R72, R394: a master records a JOIN and answers with SLOT. -/
def joinAct (addr : Nat) (b : List Byte) (s : State) : State :=
  let id := getH b 6
  if s.acre.st = .duplicate then s
  else if id = s.acreId then duplicate s.acre s
  else if s.acre.st ≠ .master ∨ getH b 0x14 ≠ s.acreId then s
  else
    let others := s.acre.members.filter (fun j => j.id != id)
    let held := getB b 0x13
    let slot := if held < 64 then held else assignSlot others (getB b 0x10)
    let j : Join := { id := id, cls := getB b 0x10, slot := slot, channels := getB b 0x12, lastMc := s.chain.mc }
    let body := le16 id ++ le8 slot ++ zeros 5
    acreSend 3 addr body body { s with acre.members := others ++ [j] }

/-- R394 JOIN. -/
def execJoin (addr : Nat) (b : List Byte) (s : State) : Host.Outcome State Fault Refusal :=
  .next (acreReceive 2 addr b (joinAct addr b) s)

/-- R72, R394: a member applies a SLOT from its current master; it takes effect at the next MC boundary. -/
def slotAct (b : List Byte) (s : State) : State :=
  if s.acre.st = .member ∧ s.acre.master = some (getH b 6) ∧ getH b 0x10 = s.acreId ∧ getB b 0x12 < 64 then
    { s with acre.slotPend := some (getB b 0x12), acre.gotSlot := true, acre.sinceJoin := 0 }
  else s

/-- R72 SLOT. -/
def execSlot (addr : Nat) (b : List Byte) (s : State) : Host.Outcome State Fault Refusal :=
  .next (acreReceive 3 addr b (slotAct b) s)

/-! ## Timers (R67, R394) -/

/-- R67 ACRE_MASTER_LOSS: three intervals without a beacon from the master. R69: AMC, class and slot stay. -/
def execAcreMasterLoss (s : State) : Host.Outcome State Fault Refusal :=
  .next (if s.acreRuns && s.acre.st == .member && decide (3 * s.beaconInterval ≤ s.mcSince s.acre.sinceMc) then
      acreNotes s.acre { s with acre.st := .seeking, acre.master := none, acre.masterHoldover := false,
                                acre.sinceMc := s.chain.mc }
    else s)

/-- R67 ACRE_SEEKING_TIMEOUT. -/
def execAcreSeekingTimeout (s : State) : Host.Outcome State Fault Refusal :=
  .next (if s.acreRuns && s.acre.st == .seeking && decide (3 * s.beaconInterval ≤ s.mcSince s.acre.sinceMc) then
      acreNotes s.acre { s with acre.st := .candidate, acre.sinceMc := s.chain.mc }
    else s)

/-- R59, R67 ACRE_CANDIDATE_WAIT_END: the device becomes MASTER with class 0 and the offset it holds. `CLASS_RESOLVED` keeps its value (DESIGN CHOICE, notes/assumptions/77.md). -/
def execAcreCandidateWaitEnd (s : State) : Host.Outcome State Fault Refusal :=
  .next (if s.acreRuns && s.acre.st == .candidate && decide (2 * s.acreId ≤ s.mcSince s.acre.sinceMc) then
      acreNotes s.acre
        { s with acre.st := .master, acre.members := [],
                 acre.pend := some (0, (s.acre.pend.getD (s.acre.cls, s.acre.offset)).2) }
    else s)

/-- R394 ACRE_MEMBER_FORGET: no JOIN from a member for 32 beacon intervals. -/
def execAcreMemberForget (id : Nat) (s : State) : Host.Outcome State Fault Refusal :=
  .next (if s.acreRuns && s.acre.st == .master then
      { s with acre.members := s.acre.members.filter (fun j =>
          !(j.id == id && decide (32 * s.beaconInterval ≤ s.mcSince j.lastMc))) }
    else s)

end Sys2Proof.Machine
end

