-- ==== Sys2Proof/Machine/Calendar.lean ====
section
/-! DEFINITION. The calendar, local time, daylight saving and weekly schedules (R189-R192, R202, R422). -/

namespace Sys2Proof.Machine

/-- Year, month and day of a day number counted from 2000-01-01. -/
def civil (day : Int) : Int × Nat × Nat :=
  let z := day + 10957 + 719468
  let era := z.fdiv 146097
  let doe := (z - era * 146097).toNat
  let yoe := (doe - doe / 1460 + doe / 36524 - doe / 146096) / 365
  let doy := doe - (365 * yoe + yoe / 4 - yoe / 100)
  let mp := (5 * doy + 2) / 153
  let d := doy - (153 * mp + 2) / 5 + 1
  let m := if mp < 10 then mp + 3 else mp - 9
  ((yoe : Int) + era * 400 + (if m ≤ 2 then 1 else 0), m, d)

/-- Day number from 2000-01-01 of a date. -/
def dayOf (y : Int) (m d : Nat) : Int :=
  let y' := if m ≤ 2 then y - 1 else y
  let era := y'.fdiv 400
  let yoe := (y' - era * 400).toNat
  let doy := (153 * (if 2 < m then m - 3 else m + 9) + 2) / 5 + d - 1
  let doe := yoe * 365 + yoe / 4 - yoe / 100 + doy
  era * 146097 + doe - 719468 - 10957

/-- Monday-based day of the week of a day number; 2000-01-01 was a Saturday. -/
def weekday (day : Int) : Nat := ((day + 5) % 7).toNat

/-- R189: the day number a transition word names in a year. -/
def transDay (w : Word) (y : Int) : Int :=
  let m := fld w 23 20
  let first := dayOf y m 1
  let next := if m = 12 then dayOf (y + 1) 1 1 else dayOf y (m + 1) 1
  let d := first + ((fld w 16 14 : Int) - weekday first) % 7 + 7 * ((fld w 19 17 : Int) - 1)
  if next ≤ d then d - 7 else d

/-- R189: a transition in standard-time seconds from 2000-01-01. -/
def transAt (w : Word) (y : Int) : Int := transDay w y * 86400 + fld w 10 0 * 60

/-- R189: standard time at a calendar count, in seconds. -/
def State.stdAt (s : State) (cal : Int) : Int := cal + sfld (s.cw .time 0 0) 31 24 * 900

/-- R189: the daylight shift in seconds. -/
def State.dstShift (s : State) : Int := (s.cf .time 0 0 5 0 : Int) * 900

/-- R189: is daylight saving in force at a standard time. -/
def State.dstAt (s : State) (std : Int) : Bool :=
  if s.cf .time 0 1 23 20 = 0 then false
  else
    let y := (civil (std.fdiv 86400)).1
    let a := transAt (s.cw .time 0 1) y
    let b := transAt (s.cw .time 0 2) y
    if a < b then decide (a ≤ std) && decide (std < b) else decide (a ≤ std) || decide (std < b)

/-- R190: the end transition whose repeated interval is in its second pass, which may reach over New Year. -/
def State.repeatFrom (s : State) (std : Int) : Option Int :=
  if s.cf .time 0 1 23 20 = 0 then none
  else
    let y := (civil (std.fdiv 86400)).1
    [transAt (s.cw .time 0 2) y, transAt (s.cw .time 0 2) (y - 1)].find? (fun b =>
      decide (b ≤ std) && decide (std < b + s.dstShift) && !s.dstAt std && s.dstAt (b - 1))

/-- R190: the second pass through the repeated interval. -/
def State.repeatAt (s : State) (std : Int) : Bool := (s.repeatFrom std).isSome

/-- Local time at a calendar count, in seconds. -/
def State.localAt (s : State) (cal : Int) : Int :=
  let std := s.stdAt cal
  std + (if s.dstAt std then s.dstShift else 0)

/-- Now, in the three times. -/
def State.calNow (s : State) : Int := s.backup.calendar.toNat
def State.stdNow (s : State) : Int := s.stdAt s.calNow
def State.localNow (s : State) : Int := s.localAt s.calNow

/-- Minute of the week, Monday 00:00 = 0, of a time in seconds. -/
def minuteOfWeek (t : Int) : Nat := weekday (t.fdiv 86400) * 1440 + ((t % 86400) / 60).toNat

/-- R202: weekly bin of a time in seconds. -/
def weekBin (t : Int) : Nat := minuteOfWeek t / 5

/-- R190: the local time that schedules are searched with: in the repeated interval's second pass, the end of the first. -/
def State.schedTime (s : State) : Int :=
  match s.repeatFrom s.stdNow with
  | some b => b + s.dstShift - 1
  | none => s.localNow

/-! ## Weekly schedules (R191) -/

/-- R191: event word e of day d of a schedule. -/
def schedEvent (ws : List Word) (d e : Nat) : Nat :=
  let w := nth ws ((8 * d + e) / 2)
  if (8 * d + e) % 2 = 0 then fld w 15 0 else fld w 31 16

/-- R191: the mode of the latest used entry of a day at or before a minute. -/
def dayEvent (ws : List Word) (d minute : Nat) : Option Nat :=
  (List.range 8).foldl (fun a e =>
    let v := schedEvent ws d e
    if bits v 15 13 ≠ 0 ∧ bits v 10 0 ≤ minute then some (bits v 15 13) else a) none

/-- R191: the scheduled mode at a minute of the week, searching back through n more days. -/
def schedSearch (ws : List Word) (d minute : Nat) : Nat → Option Nat
  | 0 => dayEvent ws d minute
  | n + 1 =>
    match dayEvent ws d minute with
    | some v => some v
    | none => schedSearch ws ((d + 6) % 7) 1439 n

/-- R191: the scheduled mode at a minute of the week. -/
def schedMode (ws : List Word) (mow : Nat) : Option Nat := schedSearch ws (mow / 1440 % 7) (mow % 1440) 7

end Sys2Proof.Machine
end

