-- ==== Sys2Proof/Machine/Sens.lean ====
section
/-! DEFINITION. Sensing: rounds, windows, the decimation filter, engineering values, publication and presence detection (R73-R114, R533, R535). -/

namespace Sys2Proof.Machine

/-! ## Modulators and their inputs (R73, R86, R103, R105) -/

def hmod : Nat := 20

/-- R73: the event source of a modulator. -/
def modSource (m : Nat) : Nat := 64 + m

/-- R73, R99: the live index of an input position of a modulator; the housekeeping slots follow at 128. -/
def inputIndex (m k : Nat) : Nat := if m < 12 then 8 * m + k else if m < 20 then 96 + 4 * (m - 12) + k else 128 + k

/-- R103: fields of `AIN_CFG` in force. -/
def State.ainType (s : State) (i : Nat) : Nat := s.cf .ain i 0 27 24
def State.ainGain (s : State) (i : Nat) : Nat := s.cf .ain i 0 23 21
def State.ainWindow (s : State) (i : Nat) : Nat := s.cf .ain i 0 20 18
def State.ainOrder (s : State) (i : Nat) : Nat := s.cf .ain i 0 17 16 + 1
def State.ainRepeat (s : State) (i : Nat) : Nat := s.cf .ain i 0 15 12 + 1
def State.ainExc (s : State) (i : Nat) : Nat := s.cf .ain i 0 11 2

/-- R105: the modulator runs. HMOD always does. -/
def State.modEn (s : State) (m : Nat) : Bool := if m < 20 then s.cb .mod m 0 0 else true

/-- R86, R106: the input positions of a round. A presence modulator always visits its four (R107), HMOD its 16 (R114). -/
def State.roundInputs (s : State) (m : Nat) : List Nat :=
  if m < 12 then (List.range 8).filter (fun k => (s.cf .mod m 0 8 1).testBit k && s.ainType (8 * m + k) != 0)
  else if m < 20 then (if s.cf .mod m 0 4 1 = 0 then [] else List.range 4)
  else List.range 16

/-- Window length code, order and results of the visit to an input position (R82, R86, R107, R114, R119). -/
def State.visitParams (s : State) (m k : Nat) : Nat × Nat × Nat :=
  if (nth s.sens.mods m).stone.cur.isSome then (2, 3, 8)
  else if m < 12 then (s.ainWindow (8 * m + k), s.ainOrder (8 * m + k), s.ainRepeat (8 * m + k))
  else (2, 1, 1)

/-- R82: the length of a mains-locked window in PT, by its code. -/
def windowPts (w : Nat) : Nat := 1024 * 2 ^ w

/-- R82: the distance in PT of the points at which windows of a length may start. -/
def windowGrid (w : Nat) : Nat := min 4096 (windowPts w)

/-- R85: the point of the local counts at this moment is the first that windows of length w may start at, from the point on at which the modulator is free. -/
def State.startsNow (s : State) (w : Nat) (md : ModSt) : Bool :=
  s.ptSince md.freeMc md.freePt == ((windowGrid w - md.freePt % windowGrid w) % windowGrid w : Nat)

def updMod (m : Nat) (f : ModSt → ModSt) (s : State) : State := { s with sens.mods := upd s.sens.mods m f }

/-! ## Round start (R87-R89, R105-R107, R533) -/

/-- R88: the setting fields whose change makes an input read `NO_DATA`. -/
def ainSetting (w : Word) : Nat := (w &&& w32 (bmask 27 16 + bmask 11 2)).toNat

/-- R88, R97: an input without data: a result on its way to publication is dropped with it. -/
def noData (m k : Nat) (s : State) : State :=
  updMod m (fun x => { x with pend := x.pend.filter (fun d => d.pos != k) })
    { s with sens.results := upd s.sens.results (inputIndex m k) (fun r => { r with value := 0x80000001, old := 0x80000001 }) }

/-- R35, R88, R115: the live fields of a modulator, of its inputs, or of the housekeeping limits take effect, all of one commit together. -/
def applyModLive (m : Nat) (s : State) : State :=
  if m < 12 then
    let s1 := { s with cfg.inForce := s.cfg.inForce.setWord .mod m 0 (s.cfg.committed.word .mod m 0) }
    (List.range 8).foldl (fun a k =>
      let i := 8 * m + k
      let old := a.cw .ain i 0
      let new := a.cfg.committed.word .ain i 0
      let a1 := { a with cfg.inForce := a.cfg.inForce.setWords .ain (5 * i) (a.cfg.committed.inst .ain i) }
      if ainSetting old ≠ ainSetting new then noData m k a1 else a1) s1
  else if m < 20 then
    { s with cfg.inForce := s.cfg.inForce.setWord .mod m 0 (s.cfg.committed.word .mod m 0) }
  else { s with cfg.inForce := s.cfg.inForce.setWords .hkLim 0 (s.cfg.committed.sec .hkLim) }

/-- R533: a presence input in use. -/
def State.presUse (s : State) (d : Nat) : Bool :=
  s.modEn (12 + d / 4) && (s.cf .mod (12 + d / 4) 0 4 1).testBit (d % 4)

/-- R533: the detectors of a presence modulator stop and start with its mask and enable; a detector that starts, starts afresh. -/
def presUseUpdate (m : Nat) (s : State) : State :=
  if 12 ≤ m ∧ m < 20 then
    (List.range 4).foldl (fun a k =>
      let d := 4 * (m - 12) + k
      let use := a.presUse d
      if use = (nth a.sens.pres d).inUse then a
      else { a with sens.pres := a.sens.pres.set d { inUse := use } }) s
  else s

/-- R97, R106: inputs that the round does not visit read `NO_DATA`. -/
def blankInputs (m : Nat) (ins : List Nat) (s : State) : State :=
  if m < 12 then (List.range 8).foldl (fun a k => if ins.contains k then a else noData m k a) s
  else if m < 20 then
    (List.range 4).foldl (fun a k =>
      if a.presUse (4 * (m - 12) + k) then a else noData m k a) s
  else s

/-- R85, R106: a modulator converts: it is enabled and its rounds have inputs. -/
def State.converts (s : State) (m : Nat) : Bool := s.modEn m && !(s.roundInputs m).isEmpty

/-- The modulator is free from this moment on. -/
def freeNow (s : State) (x : ModSt) : ModSt := { x with freeMc := s.chain.mc, freePt := s.chain.pt.toNat }

/-- R106: a modulator that does not convert waits, from the release or from each commit on, for its first start point. -/
def modsArm (s : State) : State :=
  { s with sens.mods := s.sens.mods.mapIdx (fun m x =>
      if s.converts m || x.inRound || x.conv || x.stone.cur.isSome then x else freeNow s x) }

/-- R136, R454: the coefficients a modulator latches at a round start. VREF changes with the housekeeping round alone. -/
def State.roundCoef (s : State) (m : Nat) : ModCoef :=
  if m = hmod then s.modCoef m else { s.modCoef m with vrefDev := (nth s.sens.mods hmod).coef.vrefDev }

/-- R88: what a round's start leaves of a modulator that is disabled or has no input. -/
def roundNone (m : Nat) (s : State) : State :=
  updMod m (fun x => { x with single := none, wins := [], exc := none, ranged := [],
                              stone := { x.stone with owed := false } }) s

/-- R85-R88, R106 ROUND_START: a modulator's round begins with its first window, after every Stone visit released to it (R121). A disabled modulator and one without inputs take their settings and convert nothing. A single-input round after rounds of other inputs counts as a first one (R87; DESIGN CHOICE, notes/assumptions/77.md). -/
def roundStart (m : Nat) (s : State) : State :=
  let md := nth s.sens.mods m
  if !s.released || !s.clk.pllLocked || !s.inOrder 2 || md.inRound || md.conv || md.stone.cur.isSome ||
     !md.stone.todo.isEmpty || 21 ≤ m then s
  else
    let old := s.cw .ain (8 * m + md.single.getD 0) 0
    let s1 := presUseUpdate m (applyModLive m s)
    if !s1.modEn m then roundNone m (blankInputs m [] s1)
    else
      let ins := s1.roundInputs m
      let one := match ins with | [k] => some k | _ => none
      let kept := m < 12 && one.isSome && one == md.single &&
        ainSetting old == ainSetting (s1.cw .ain (8 * m + one.getD 0) 0)
      let s2 := blankInputs m ins s1
      if ins.isEmpty then roundNone m s2
      else if !s1.startsNow (s1.visitParams m (ins.headD 0)).1 md then s
      else
        atStage 2 (updMod m (fun x =>
          { x with inRound := true, left := ins, done := 0, kept := kept, single := one, ranged := [],
                   wins := if kept then x.wins else [], coef := s2.roundCoef m }) s2)

def execRoundStart (m : Nat) (s : State) : Host.Outcome State Fault Refusal := .next (roundStart m s)

/-- R78, R85 WINDOW_START: a window starts at the first allowed point; multiplexer and excitation switch. -/
def windowStart (m : Nat) (s : State) : State :=
  let md := nth s.sens.mods m
  let k := md.left.headD 0
  let len := (s.visitParams m k).1
  if !s.released || !s.clk.pllLocked || !s.inOrder 2 || md.conv || !(md.inRound || md.stone.cur.isSome) ||
     !s.startsNow len md then s
  else
    let i := 8 * m + k
    atStage 2 (updMod m (fun x =>
      { x with conv := true, winLen := len, winMc := s.chain.mc, winPt := s.chain.pt.toNat, winAt := s.chain.now,
               exc := if m < 12 && md.stone.cur.isNone && s.ainExc i ≠ 0 then some k else none }) s)

def execWindowStart (m : Nat) (s : State) : Host.Outcome State Fault Refusal := .next (windowStart m s)

/-! ## The decimation filter (R90, R91) -/

/-- Moving sums of a list over n elements: the convolution with a boxcar of length n, without its edges. -/
def boxcar (n : Nat) (x : List Rat) : List Rat :=
  let pre := x.foldl (fun (acc : List Rat × Rat) v => ((acc.2 + v) :: acc.1, acc.2 + v)) ([0], 0)
  let p := pre.1.reverse
  List.zipWith (fun a b => a - b) (p.drop n) p

/-- R90: the cascade of boxcar averages of the window counts, at the last sample. -/
def filterY (ws : List Win) : Rat :=
  let xs := (ws.reverse.map (·.x)).flatten
  let y := ws.foldl (fun l w => boxcar w.x.length l) xs
  (y.getLastD 0) / (ws.foldl (fun (a : Rat) w => a * (w.x.length : Nat)) 1)

/-- R90: the quantizer's limits at the samples of a window. -/
def Win.limits (w : Win) : List Int := (List.range w.x.length).map (fun i => nth w.lim i)

/-- 16 or more consecutive entries of a list equal a value. -/
def run16 (v : Int) (l : List Int) : Bool :=
  (l.foldl (fun (a : Nat × Bool) x => if x = v then (a.1 + 1, a.2 || decide (15 ≤ a.1)) else (0, a.2)) (0, false)).2

/-- R90: overload at a limit inside the span of h, which leaves out the first k - 1 samples of the oldest of the k windows. -/
def overload (v : Int) (ws : List Win) : Bool :=
  run16 v (((ws.reverse.map Win.limits).flatten).drop (ws.length - 1))

/-- R90, R91: code and flags of the k newest windows; `under` says of a raw code that the pin is below its working range (R81). -/
def filterCode (under : Int → Bool) (ws : List Win) : Int × Bool × Bool :=
  let raw := rneQ (filterY ws * (2 ^ 23 : Nat))
  let ovr := decide (8388607 < raw) || overload 1 ws
  let unr := decide (raw < -8388608) || overload (-1) ws || (!ovr && under raw)
  (if ovr then 8388607 else if unr then -8388608 else satS 24 raw, ovr, unr)

/-- R75, R77, R80, R81: a raw code whose pin voltage lies below -0.200 V, or below 0 V. The upper end of every working range is at or beyond full scale, and the temperature types read a pin below 0 V by R96 (DEDUCED, notes/assumptions/87.md). -/
def underMinus200mV (g : Nat) (raw : Int) : Bool := decide (raw * 15 < -((2 ^ g * 2 ^ 23 : Nat) : Int))
def pinUnder (ty g : Nat) (raw : Int) : Bool :=
  match ty with
  | 1 => underMinus200mV g raw
  | 2 | 3 => decide (raw < 0)
  | _ => false

/-! ## Engineering values (R94-R97, R135, R535) -/

/-- R135: Stone's correction of a delivered code; `volts` says whether VREF matters. -/
def correct (c : ModCoef) (g : Nat) (volts : Bool) (code : Int) (ovr unr : Bool) : Int × Bool × Bool :=
  if ovr || unr then (code, ovr, unr)
  else
    let c0 : Rat := ((code - nth c.ofs g : Int) : Rat) * (2 ^ 20 : Nat) / ((2 ^ 20 + nth c.gerr g : Int) : Rat)
    let c1 : Rat := if volts then c0 * ((2 ^ 24 + c.vrefDev : Int) : Rat) / (2 ^ 24 : Nat) else c0
    let r := rneQ c1
    if 8388607 < r then (8388607, true, false)
    else if r < -8388608 then (-8388608, false, true)
    else (r, false, false)

/-- A converted value, or the side of its range on which a temperature lies (R96). -/
inductive Conv where
  | val (x : Rat) | below | above
deriving DecidableEq, Repr, Inhabited

/-- R95: constants of IEC 60751. -/
def ptA : Rat := 39083 / 10000000
def ptB : Rat := -5775 / 10000000000
def ptC : Rat := -4183 / 1000000000000000

/-- R95: one Newton step on R = R0 × (1 + A·T + B·T² + C·(T − 100)·T³). -/
def ptNewton (ratio t : Rat) : Rat :=
  let f := 1 + ptA * t + ptB * t * t + ptC * (t - 100) * t * t * t - ratio
  let d := ptA + 2 * ptB * t + ptC * (4 * t * t * t - 300 * t * t)
  fixQ (t - f / d)

/-- R95, R96: a Pt1000 resistance as a temperature. -/
def pt1000 (r r0 : Rat) : Conv :=
  if r ≤ 0 then .below
  else
    let ratio := r / r0
    let disc := ptA * ptA - 4 * ptB * (1 - ratio)
    if disc < 0 then .above
    else
      let t0 := (-ptA + sqrtQ disc) / (2 * ptB)
      let t := if r0 ≤ r then t0 else ptNewton ratio (ptNewton ratio (ptNewton ratio (fixQ t0)))
      if t < -200 then .below else if 850 < t then .above else .val t

/-- R94, R96: an NTC resistance as a temperature by Steinhart-Hart. -/
def ntc (r : Rat) (a b c : Word) : Conv :=
  match b32Val a, b32Val b, b32Val c with
  | some x, some y, some z =>
    if r ≤ 0 then .above
    else
      let l := lnQ r
      let inv := x + y * l + z * l * l * l
      if inv ≤ 0 then .above
      else
        let t := 1 / inv - 27315 / 100
        if t < -55 then .below else if 150 < t then .above else .val t
  | _, _, _ => .above

/-- A Q16.16 word as a rational. -/
def q16 (w : Word) : Rat := (w.toInt : Rat) / 65536

/-- R94: the measured voltage of a corrected code. -/
def codeVolts (code : Int) (g : Nat) : Rat := (code : Rat) * 3 / ((2 ^ g * 2 ^ 23 : Nat) : Rat)

/-- R79, R127: the calibrated excitation current in µA. -/
def iCal (c : ModCoef) (exc : Nat) : Rat :=
  (exc : Rat) * (1 + (c.eg : Rat) / (2 ^ 24 : Nat)) + (c.eo : Rat) / 1000000

/-- R94: the engineering value of a fine input's corrected code. -/
def convertAin (s : State) (i : Nat) (c : ModCoef) (code : Int) : Conv :=
  let g := s.ainGain i
  let lin (k : Nat) := s.cw .ain i (k + 1)
  let r := codeVolts code g * 1000000 / iCal c (s.ainExc i)
  let off (v : Conv) (o : Word) : Conv := match v with | .val t => .val (t + q16 o) | x => x
  match s.ainType i with
  | 1 => .val (q16 (lin 0) * codeVolts code g + q16 (lin 1))
  | 2 => .val (q16 (lin 0) * (4 * codeVolts code 0) + q16 (lin 1))
  | 3 => .val (q16 (lin 0) * r + q16 (lin 1))
  | 4 => off (pt1000 r (q16 (lin 0))) (lin 1)
  | _ => off (ntc r (lin 0) (lin 1) (lin 2)) (lin 3)

/-- R97: a value as Q16.16 with its clamp. -/
def toQ16 (x : Rat) : Word × Bool :=
  let n := rneQ (x * 65536)
  let c := clampI n (-2147483646) 2147483646
  (wInt c, c != n)

/-- R94-R97: a result from its corrected code and its conversion. Beside `LIN_RANGE` the code stays the calibrated one (R99; DESIGN CHOICE, notes/assumptions/77.md). -/
def mkResult (code : Int) (ovr unr : Bool) (v : Conv) (mc : Word) : Result :=
  if ovr then { code := code, ovr := true, unr := unr, mcEnd := mc, value := 0x7FFFFFFF }
  else if unr then { code := code, unr := true, mcEnd := mc, value := 0x80000000 }
  else
    match v with
    | .above => { code := code, ovr := true, linRange := true, mcEnd := mc, value := 0x7FFFFFFF }
    | .below => { code := code, unr := true, linRange := true, mcEnd := mc, value := 0x80000000 }
    | .val x => let q := toQ16 x; { code := code, engSat := q.2, mcEnd := mc, value := q.1 }

/-- R114: the scaling of a housekeeping supply slot; die sensors and spares have none here. -/
def hkScale (k : Nat) : Option Nat :=
  match k with
  | 1 | 3 => some 20
  | 5 => some 25
  | 7 | 9 | 12 => some 2
  | 10 | 11 => some 1
  | _ => none

/-- R114: the die sensor of a slot. -/
def hkSensor (k : Nat) : Option Nat :=
  match k with | 0 => some 0 | 2 => some 1 | 4 => some 2 | 6 => some 3 | 8 => some 4 | _ => none

/-- R114, R135: the value of a housekeeping slot's corrected code. -/
def hkConvert (c : ModCoef) (k : Nat) (code : Int) : Conv :=
  match hkSensor k with
  | some j => .val (((Config.dieTemp j code + nth c.die j * 256 : Int) : Rat) / 65536)
  | none => .val (codeVolts code 0 * ((hkScale k).getD 1 : Nat))

/-- R90, R94, R107, R114, R535: the result that a window's end delivers for an input position. A spare slot 13-15 keeps `NO_DATA`; the spec gives it no `MC_END`, and the model takes the MC of its window's end (DESIGN CHOICE, notes/assumptions/99.md). -/
def deliver (s : State) (m k : Nat) (ws : List Win) : Result :=
  let c := (nth s.sens.mods m).coef
  let mc := s.chain.mc
  let r : Result :=
    if m < 12 then
      let i := 8 * m + k
      let ty := s.ainType i
      let f := filterCode (pinUnder ty (s.ainGain i)) ws
      let r := correct c (s.ainGain i) (ty = 1 || ty = 2) f.1 f.2.1 f.2.2
      mkResult r.1 r.2.1 r.2.2 (convertAin s i c r.1) mc
    else if m < 20 then
      let g := s.cf .mod m 0 7 5
      let f := filterCode (underMinus200mV g) ws
      let r := correct c g true f.1 f.2.1 f.2.2
      mkResult r.1 r.2.1 r.2.2 (.val (1000 * codeVolts r.1 g)) mc
    else if 13 ≤ k then { mcEnd := mc }
    else
      let f := filterCode (fun _ => false) ws
      let r := correct c 0 (hkScale k).isSome f.1 f.2.1 f.2.2
      { mkResult r.1 r.2.1 r.2.2 (hkConvert c k r.1) mc with raw := f.1 }
  { r with ptEnd := s.chain.pt.toNat }

/-! ## Presence detection (R107-R113) -/

def updPres (d : Nat) (f : Pres → Pres) (s : State) : State := { s with sens.pres := upd s.sens.pres d f }

/-- R108, R109: 15 s units as MC at nominal frequency. -/
def State.units15 (s : State) (n : Nat) : Nat := s.secMc (15 * n)

/-- R108: tan (π fc / fs) of the two filters: of the corner 0.2 Hz (`low` false) or 5.0 Hz and the rate 12.5 Hz or 15 Hz. -/
def presCorner (sixty low : Bool) : Rat :=
  match sixty, low with
  | false, false => 50307859189 / 1000000000000
  | true, false => 41912418041 / 1000000000000
  | false, true => 3077683537175 / 1000000000000
  | true, true => 1732050807569 / 1000000000000

/-- R108: gain, a1 and a2 of a 2nd-order Butterworth low-pass or high-pass filter with the corner k: the bilinear transform, by which the corner is exact (DESIGN CHOICE, notes/assumptions/98.md). -/
def butterworth (low : Bool) (k : Rat) (i : Fin 3) : Rat :=
  let r := sqrtQ 2
  let n := 1 / (1 + r * k + k * k)
  match i with
  | 0 => if low then k * k * n else n
  | 1 => 2 * (k * k - 1) * n
  | 2 => (1 - r * k + k * k) * n

/-- R108: a coefficient in use, within 2^-16 of the filter's. -/
def presCoef (sixty low : Bool) (i : Fin 3) : Rat :=
  let b := butterworth low (presCorner sixty low) i
  clampQ ((if low then Config.lpCoef else Config.hpCoef) sixty i) (b - 1 / 65536) (b + 1 / 65536)

/-- R108: one step of the filter: its input and the two before, and its two outputs before. The zeros of the high-pass lie at 0 Hz, so a steady input leaves 0. -/
def biquad (sixty low : Bool) (x : Rat) (xm ym : Rat × Rat) : Rat :=
  let c := presCoef sixty low
  c 0 * (x + (if low then 2 else -2) * xm.1 + xm.2) - c 1 * ym.1 - c 2 * ym.2

/-- R108: the filters and the energy take one valid sample in mV. -/
def presFilter (s : State) (d : Nat) (x : Rat) (p0 : Pres) : Pres :=
  let p := if p0.primed then p0
    else { p0 with primed := true, hx := (x, x), hy := (0, 0), ly := (0, 0), e := 0 }
  let hp := biquad s.nominal60 false x p.hx p.hy
  let bp := biquad s.nominal60 true hp p.hy p.ly
  let fs : Rat := if s.nominal60 then 15 else 25 / 2
  let tau : Rat := (s.cf .pres d 0 7 3 : Rat) / 4
  let e := p.e + (bp * bp - p.e) * (1 / fs) / tau
  { p with hx := (x, p.hx.1), hy := (hp, p.hy.1), ly := (bp, p.ly.1), e := e,
           rms := min (rneQ (sqrtQ e * 65536)).toNat 0x7FFFFFFF }

/-- R109: the comparisons of one valid sample outside warm-up. -/
def presCompare (s : State) (d : Nat) (p : Pres) : Pres :=
  let on := decide ((s.cw .pres d 1).toInt ≤ p.rms)
  let offB := decide ((p.rms : Int) < (s.cw .pres d 2).toInt)
  match p.st with
  | .vacant =>
    let q := if on then p.qual + 1 else 0
    if s.cf .pres d 0 19 16 ≤ q then { p with st := .occupied, qual := 0 } else { p with qual := q }
  | .occupied =>
    if offB then { p with st := .hold, holdMc := s.chain.mc, holdSet := s.cf .pres d 0 15 8 } else p
  | .hold => if on then { p with st := .occupied } else p
  | .fault => p

/-- R111, R112: the detector words take effect at the sample; a change of `HOLD` restarts a running timer. -/
def applyPresLive (d : Nat) (s : State) : State :=
  let s1 := { s with cfg.inForce := s.cfg.inForce.setWords .pres (3 * d) (s.cfg.committed.inst .pres d) }
  updPres d (fun p => if p.st = .hold ∧ p.holdSet ≠ s1.cf .pres d 0 15 8 then
    { p with holdMc := s1.chain.mc, holdSet := s1.cf .pres d 0 15 8 } else p) s1

/-- R109, R110: entry to FAULT raises the modulator's source and writes a record. -/
def presEnterFault (d : Nat) (s : State) : State :=
  report (76 + d / 4) 1 3 (96 + d) (updPres d (fun p => { p with st := .fault, good := 0, qual := 0 }) s)

/-- R108, R109: one sample of a presence detector; `x` is none for a flagged one, which ends a run of consecutive valid samples. In FAULT the filters go on with each valid sample; the 32nd, which leaves FAULT, primes them (both DESIGN CHOICES: notes/assumptions/77.md). -/
def presSample (d : Nat) (x : Option Rat) (s0 : State) : State :=
  let s := applyPresLive d s0
  let p := nth s.sens.pres d
  if !p.inUse then s
  else
    let warm := s.cf .pres d 0 2 0
    let p1 := if p.warmMc.isNone then { p with warmMc := some s.chain.mc, warming := warm ≠ 0 } else p
    match x with
    | none =>
      let p2 := { p1 with bad := p1.bad + 1, good := 0, qual := 0 }
      let s1 := updPres d (fun _ => p2) s
      if p1.st ≠ .fault ∧ 32 ≤ p2.bad then presEnterFault d s1 else s1
    | some v =>
      if p1.st = .fault then
        let g := p1.good + 1
        if 32 ≤ g then
          updPres d (fun _ => presFilter s d v { p1 with st := .vacant, good := 0, bad := 0, qual := 0, primed := false, warming := false }) s
        else updPres d (fun _ => presFilter s d v { p1 with good := g, bad := 0 }) s
      else
        let p2 := presFilter s d v { p1 with bad := 0, good := 0 }
        updPres d (fun _ => if p2.warming then p2 else presCompare s d p2) s

/-- R109 PRESENCE_WARMUP_END. -/
def execPresenceWarmupEnd (d : Nat) (s : State) : Host.Outcome State Fault Refusal :=
  .next (match (nth s.sens.pres d).warmMc with
    | none => s
    | some a =>
      if s.clk.pllLocked && decide (s.units15 (s.cf .pres d 0 2 0) ≤ s.mcSince a) then updPres d (fun p => { p with warming := false }) s else s)

/-- R109 PRESENCE_HOLD_EXPIRY. -/
def execPresenceHoldExpiry (d : Nat) (s : State) : Host.Outcome State Fault Refusal :=
  let p := nth s.sens.pres d
  .next (if s.clk.pllLocked ∧ p.st = .hold ∧ s.units15 p.holdSet ≤ s.mcSince p.holdMc then
      updPres d (fun p => { p with st := .vacant, qual := 0 }) s else s)

/-- R113: the presence status word; `RMS` truncates to 0.1 mV (DESIGN CHOICE, notes/assumptions/77.md). -/
def State.presStatus (s : State) (d : Nat) : Word :=
  let p := nth s.sens.pres d
  if !p.inUse then w32 8
  else
    let left := if p.st = .hold then
        let total := s.units15 p.holdSet
        (total - s.mcSince p.holdMc + s.mcPerSec - 1) / s.mcPerSec
      else 0
    w32 (at' (min left 65535) 16 + at' (min (p.rms * 10 / 65536) 4095) 4 + at' (b2n p.warming) 3 + p.st.code)

/-- R110: the detector reports occupied. -/
def Pres.occupied (p : Pres) : Bool := p.st == .occupied || p.st == .hold

/-! ## Window end and publication (R86, R90, R93, R98) -/

/-- R119: a window of a Stone visit: from the third on, its raw code counts. -/
def stoneWindow (m : Nat) (s : State) : State :=
  updMod m (fun x =>
    if 3 ≤ x.done ∧ x.stone.codes.length < 8 then
      { x with stone := { x.stone with codes := x.stone.codes ++ [(filterCode (fun _ => false) (x.wins.take 3)).1] } }
    else x) s

/-- R22, R83: a window of n samples, one every 16 reference periods, fits between two boundaries; the phase of the modulator clock leaves n open by one. -/
def samplesFit (start stop n : Nat) : Bool := decide (16 * n < stop - start + 16) && decide (stop - start < 16 * n + 16)

/-- R82-R84: the window in progress ends now: at its length in PT, with the samples between its boundaries, or, a fixed one, when its 150,000th sample completes, 2,400,000 reference periods after its start, within the PT in progress. -/
def State.endsNow (s : State) (md : ModSt) (w : Win) : Bool :=
  if md.winLen = 5 then
    decide (s.chain.now ≤ md.winAt + 2400000) && s.reached (md.winAt + 2400000) && w.x.length == 150000
  else s.inOrder 2 && s.ptSince md.winMc md.winPt == windowPts md.winLen && samplesFit md.winAt s.chain.now w.x.length

/-- R84, R85: the window has ended: the modulator is free from the end on, which for a fixed window may lie inside the PT in progress. -/
def windowOver (s : State) (md : ModSt) : ModSt :=
  { md with conv := false, freeMc := s.chain.mc,
            freePt := s.chain.pt.toNat + b2n (md.winLen == 5 && s.chain.now != md.winAt + 2400000) }

/-- R93, R98: a result is delivered: it waits for publication, and its first flag in the round is noted. -/
def deliverTo (m k : Nat) (r : Result) (s : State) : State :=
  let bad := r.ovr || r.unr
  updMod m (fun x => { x with pend := x.pend ++ [{ pos := k, res := r, first := bad && !x.ranged.contains k }],
                              ranged := if bad then k :: x.ranged else x.ranged }) s

/-- R90 WINDOW_END: a window ends with its samples; the filter delivers, and the visit and the round move on. R78 switches the excitation with the multiplexer, which R87 leaves on a single input, and also ends it with a visit's last window: the model switches it off with the last window of every round, so that it is off in the idle gap of a single-input modulator (DESIGN CHOICE, notes/assumptions/99.md). -/
def windowEnd (m : Nat) (w : Win) (s0 : State) : State :=
  let md := nth s0.sens.mods m
  if !md.conv || !s0.clk.pllLocked || !s0.endsNow md w then s0
  else
    let s := if md.winLen = 5 then s0 else atStage 2 s0
    let k := md.left.headD 0
    let prm := s.visitParams m k
    let order := prm.2.1
    let done := md.done + 1
    let wins := (w :: md.wins).take 4
    let s1 := updMod m (fun x => { windowOver s x with done := done, wins := wins }) s
    if md.stone.cur.isSome then stoneWindow m s1
    else
      let full := decide (order ≤ wins.length) && (md.kept || decide (order ≤ done))
      let s2 := if full then
          let r := deliver s1 m k (wins.take order)
          let used := m < 12 || 20 ≤ m || s.presUse (4 * (m - 12) + k)
          if used then
            let s' := deliverTo m k r s1
            if 12 ≤ m ∧ m < 20 then
              presSample (4 * (m - 12) + k)
                (if r.ovr || r.unr then none else some (1000 * codeVolts r.code (s.cf .mod m 0 7 5))) s'
            else s'
          else s1
        else s1
      let total := if md.kept then prm.2.2 else order + prm.2.2 - 1
      if done < total then s2
      else
        let s3 := { s2 with sens.hkDone := s2.sens.hkDone || (m == hmod && (md.left.drop 1).isEmpty) }
        updMod m (fun x =>
          let rest := x.left.drop 1
          { x with left := rest, done := 0, exc := none, inRound := !rest.isEmpty,
                   wins := if rest.isEmpty && x.single.isSome then x.wins else [],
                   stone := if rest.isEmpty then { x.stone with owed := false } else x.stone }) s3

def execWindowEnd (m : Nat) (w : Win) (s : State) : Host.Outcome State Fault Refusal := .next (windowEnd m w s)

/-- R93: the first flagged result of an input in a round raises the modulator's source and writes a record, unless the input has delivered no valid one since it last was flagged. -/
def rangeEvent (m k : Nat) (bad first : Bool) (s : State) : State :=
  let i := inputIndex m k
  let was := s.sens.flagged.getD i false
  let s1 := { s with sens.flagged := s.sens.flagged.set i bad }
  if bad && first && !was then report (modSource m) 1 3 (if m = hmod then k else i) s1 else s1

/-- R97: a value that is valid for control. -/
def validQ (w : Word) : Bool := w != 0x7FFFFFFF && w != 0x80000000 && w != 0x80000001

/-- R376: a valid value is what an Analog Input of the bus holds on to. -/
def busLast (n : Nat) (w : Word) (s : State) : State :=
  if validQ w && decide (n < 112) then { s with bus.aiLast := s.bus.aiLast.set n w } else s

/-- R98, R99: publish one result. -/
def publishOne (m : Nat) (d : Delivery) (s : State) : State :=
  let k := d.pos
  let r := d.res
  if m = hmod then
    rangeEvent m k (r.ovr || r.unr) d.first (busLast (96 + k) r.value
      { s with sens.hk := upd s.sens.hk k (fun h =>
                 { h with value := r.value, raw := r.raw, mcEnd := r.mcEnd, ptEnd := r.ptEnd, old := h.value, oldMc := h.mcEnd,
                          ovr := r.ovr, unr := r.unr }),
               sens.hkFresh := s.sens.hkFresh || k == 8 })
  else
    let n := inputIndex m k
    rangeEvent m k (r.ovr || r.unr) d.first (busLast (if n < 96 then n else 112) r.value
      { s with sens.results := upd s.sens.results n (fun o =>
          { r with seq := (o.seq + 1) % 16, old := o.value, oldMc := o.mcEnd }) })

/-- R98: publish the results of a window end together. -/
def publishAll (m : Nat) (s : State) : State :=
  let ps := (nth s.sens.mods m).pend
  ps.foldl (fun a d => publishOne m d a) (updMod m (fun x => { x with pend := [] }) s)

/-- R98: the value, and its MC, that an evaluation in the PT in progress uses of a window that ended at a point: in that PT and the next the one published before. -/
def State.seenResult (s : State) (mc : Word) (pt : Nat) (value old oldMc : Word) : Word × Word :=
  if s.ptSince mc pt < 2 then (old, oldMc) else (value, mc)

end Sys2Proof.Machine
end

