-- ==== Sys2Proof/Machine/Stone.lean ====
section
/-! DEFINITION. Stone: calibration runs, their agreement and plausibility, and the NV store's start-up (R116-R131, R140-R142). -/

namespace Sys2Proof.Machine

/-- R142: source 105 with its record; `on` tells an alarm's set from its clearing (R399). -/
def calAlarm (on : Bool) (s : State) : State := if on then report 105 1 4 0 s else report 105 2 1 0 s

/-- R20, R141: Stone reads both slots at start-up. A blank slot holds no checked store. -/
def stoneBoot (s0 : State) : State :=
  let s := nvReport 0 (stoneSlotBase 1) 0x1840 (nvReport 0 (stoneSlotBase 0) 0x1840 s0)
  let ok0 := stoneSlotOk s 0
  let ok1 := stoneSlotOk s 1
  let seq (k : Nat) : Word := w32 (getW (nvRead s.nvm 0 (stoneSlotBase k) 4) 0)
  let use (k : Nat) (fb : Bool) (s : State) : State :=
    { s with stone.sets := stoneSets s k, stone.slotSeq := seq k, stone.activeSlot := k, stone.slotFallback := fb }
  match ok0, ok1 with
  | true, true => if laterMC (seq 0) (seq 1) then use 1 false s else use 0 false s
  | true, false => calAlarm true (use 0 true s)
  | false, true => calAlarm true (use 1 true s)
  | false, false => calAlarm true s

/-! ## Quiet (R26, R27, R122) -/

/-- R26: Run becomes Quiet. -/
def enterQuiet (byStone : Bool) (s : State) : State :=
  { s with sup.mode := .quiet, sup.quietMc := s.chain.mc, sup.quietByStone := byStone, sup.quietByHost := !byStone }

/-- R26: Quiet becomes Run. -/
def leaveQuiet (s : State) : State :=
  if s.sup.mode = .quiet then
    { s with sup.mode := .run, sup.quietByStone := false, sup.quietByHost := false }
  else s

/-- A Stone visit is running on some modulator. -/
def State.visitRunning (s : State) : Bool := s.sens.mods.any (fun m => m.stone.cur.isSome)

/-- R26 QUIET_TIMEOUT: 256 MC after entry. -/
def execQuietTimeout (s : State) : Host.Outcome State Fault Refusal :=
  .next (if s.sup.mode = .quiet ∧ 256 ≤ s.mcSince s.sup.quietMc then leaveQuiet s else s)

/-! ## Steps (R120, R121) -/

/-- R120: the visits of a step, by modulator; disabled modulators take no part. -/
def stepVisits (s : State) (step : Nat) : List (Nat × List CalInput) :=
  if step = 1 then [(hmod, [.short 0, .divider 0, .bandgap])]
  else if step = 2 then [(hmod, (List.range 5).map .dvbe)]
  else if step ≤ 10 then
    let g := step - 3
    ((List.range 20).filter (fun m => s.modEn m && (decide (m < 12) || decide (g ≤ 4)))).map
      (fun m => (m, [CalInput.short g, CalInput.divider g]))
  else if step ≤ 22 then
    let m := step - 11
    if s.modEn m then [(m, [.calHi, .calLo])] else []
  else []

/-- R121: the step released has ended: no modulator has a visit to run or a normal round to complete. -/
def State.stepEnded (s : State) : Bool :=
  s.sens.mods.all (fun m => m.stone.todo.isEmpty && m.stone.cur.isNone && !m.stone.owed)

/-- R123: every actuator channel has been measured or skipped in the pass. -/
def CalRun.actsDone (r : CalRun) : Bool :=
  let vals := if r.pass = 1 then r.vals1 else r.vals2
  (List.range 32).all (fun n => r.skip.contains n || vals.any (fun v => v.1 == .act n))

def updRun (f : CalRun → CalRun) (s : State) : State := { s with stone.run := s.stone.run.map f }

/-- R121, R123 CAL_STEP_RELEASE: the next step of the pass is released; E0 waits for the channels not yet measured. -/
def stepRelease (s : State) : State :=
  match s.stone.run with
  | none => s
  | some r =>
    if r.done || !s.stepEnded || decide (22 ≤ r.step) || !s.released then s
    else if r.step = 10 ∧ !r.actsDone then
      (if r.e0Mc.isSome then s else updRun (fun x => { x with e0Mc := some s.chain.mc, active := false }) s)
    else
      let s1 := (stepVisits s (r.step + 1)).foldl
        (fun a mv => updMod mv.1 (fun x => { x with stone := { x.stone with todo := mv.2 } }) a) s
      updRun (fun x => { x with step := x.step + 1, active := true, e0Mc := none }) s1

def execCalStepRelease (s : State) : Host.Outcome State Fault Refusal := .next (onPll s (stepRelease s))

/-- R119, R121, R122 CAL_VISIT_START: a modulator at its round boundary begins its next visit, and Stone requests Quiet. The windows kept of a single-input modulator are not kept across it (R87; DESIGN CHOICE, notes/assumptions/77.md). -/
def visitStart (m : Nat) (s : State) : State :=
  let md := nth s.sens.mods m
  match s.stone.run, md.stone.todo with
  | some _, i :: rest =>
    if !s.released || md.inRound || md.conv || md.stone.cur.isSome || decide (21 ≤ m) || !s.modEn m then s
    else
      let s1 := updMod m (fun x => { (if s.converts m then x else freeNow s x) with
                                            done := 0, wins := [], single := none, exc := none, left := [],
                                            stone := { todo := rest, cur := some i, codes := [], owed := x.stone.owed } }) s
      if s1.sup.mode = .run then enterQuiet true s1 else s1
  | _, _ => s

def execCalVisitStart (m : Nat) (s : State) : Host.Outcome State Fault Refusal := .next (onPll s (visitStart m s))

/-- Record a measured value of the pass in progress. -/
def addVal (k : CalKey) (v : Rat) (s : State) : State :=
  updRun (fun r => if r.pass = 1 then { r with vals1 := r.vals1 ++ [(k, v)] }
                   else { r with vals2 := r.vals2 ++ [(k, v)] }) s

/-- The mean of a list of codes. -/
def meanCode (l : List Int) : Rat := (l.sum : Rat) / (l.length : Rat)

/-- The housekeeping reading of a die sensor without its offset, Q16.16. -/
def State.rawDie (s : State) (k : Nat) : Int :=
  (nth s.sens.hk (2 * k)).value.toInt - nth (nth s.sens.mods hmod).coef.die k * 256

/-- What a visit's end records: the mean of its 8 codes, and what item 3 and item 8 need beside it. The spec measures a die sensor's offset by ΔVBE and does not say against which reading: the model takes the sensor's housekeeping reading last published at the visit's end (DESIGN CHOICE, notes/assumptions/99.md). -/
def recordVisit (m : Nat) (i : CalInput) (codes : List Int) (s : State) : State :=
  let s1 := addVal (.visit m i) (meanCode codes) s
  match i with
  | .dvbe k => addVal (.die k) ((nth s.sens.hk (2 * k)).raw : Rat) s1
  | .calHi | .calLo =>
    if codes.any (fun c => c == 8388607 || c == -8388608) then addVal (.flag m) 1 s1 else s1
  | _ => s1

/-- R26, R122: the Stone measurement has ended; Quiet that Stone requested ends when no visit runs. A Quiet that the host commanded stays (DESIGN CHOICE, notes/assumptions/77.md). -/
def visitsOver (s : State) : State := if !s.visitRunning && s.sup.quietByStone then leaveQuiet s else s

/-- R119 CAL_VISIT_END: a visit ends with the mean of its 8 results, and the modulator owes one normal round after its last. -/
def visitEnd (m : Nat) (s : State) : State :=
  let md := nth s.sens.mods m
  match md.stone.cur with
  | none => s
  | some i =>
    if md.stone.codes.length < 8 then s
    else
      let s1 := if s.stone.run.isSome then recordVisit m i md.stone.codes s else s
      visitsOver (updMod m (fun x => { x with done := 0, wins := [], conv := false,
                                              stone := { todo := x.stone.todo, owed := x.stone.todo.isEmpty } }) s1)

def execCalVisitEnd (m : Nat) (s : State) : Host.Outcome State Fault Refusal := .next (onPll s (visitEnd m s))

/-- Every Stone visit ends, and its results are discarded (R130). -/
def clearVisits (s : State) : State :=
  visitsOver { s with sens.mods := s.sens.mods.map (fun x =>
    if x.stone.cur.isSome then { freeNow s x with stone := {}, done := 0, wins := [], conv := false, inRound := false, left := [] }
    else { x with stone := {} }) }

/-- R130, R142: the run ends with a result: every value is discarded and source 104 is raised. -/
def endRun (result status item : Nat) (s : State) : State :=
  match s.stone.run with
  | none => s
  | some r =>
    report 104 4 (if result = 1 then 2 else 3) r.set
      (clearVisits { s with stone.run := none, stone.lastResult := result, stone.lastStatus := status,
                            stone.failItem := item })

/-- R130: a run ended before completion. Once its commit has begun, the operation completes and the run ends with it (R495). -/
def abortRun (result status : Nat) (s : State) : State :=
  if s.stone.commitSet.isSome then s else endRun result status 0 s

/-- R120, R131: begin a run on a set. -/
def startRun (set : Nat) (s : State) : State :=
  let w := merge 2 (s.cw .stone 0 0) (s.cfg.committed.word .stone 0 0)
  let s1 := { s with cfg.inForce := s.cfg.inForce.setWord .stone 0 0 w }
  { s1 with stone.run := some { set := set, keepXtal := !bit w 1, passMc := s.chain.mc } }

/-! ## Counts and channels (R123, R124) -/

/-- R124: the count of a pass is complete: 16 intervals. -/
def CalRun.xtalDone (r : CalRun) : Bool := r.keepXtal || decide (17 ≤ r.pulses)

/-- R124 XTAL_REF_PULSE: a reference pulse on GPIO0, with the 24.000 MHz and 32.768 kHz periods since the pulse before. -/
def execXtalRefPulse (ticks24 ticks32 : Nat) (s : State) : Host.Outcome State Fault Refusal :=
  .next (onPll s (match s.stone.run with
    | none => s
    | some r =>
      if r.done || r.xtalDone then s
      else
        let first := r.pulses == 0
        let r1 := { r with pulses := r.pulses + 1, cnt24 := if first then 0 else r.cnt24 + ticks24,
                           cnt32 := if first then 0 else r.cnt32 + ticks32 }
        let s1 := { s with stone.run := some r1 }
        if r1.pulses = 17 then addVal .x32 (r1.cnt32 : Nat) (addVal .x24 (r1.cnt24 : Nat) s1) else s1))

/-- R124 XTAL_REF_TIMEOUT: no pulse within 2 s of a pass start. -/
def execXtalRefTimeout (s : State) : Host.Outcome State Fault Refusal :=
  .next (onPll s (match s.stone.run with
    | none => s
    | some r =>
      if !r.done && !r.keepXtal && r.pulses == 0 && decide (s.secMc 2 ≤ s.mcSince r.passMc) then
        { s with stone.run := some { r with keepXtal := true } }
      else s))

/-- R123 ACT_SENSE_SKIP: a channel found no measuring moment within the extra 256 MC. -/
def execActSenseSkip (ch : Nat) (s : State) : Host.Outcome State Fault Refusal :=
  .next (onPll s (match s.stone.run with
    | none => s
    | some r =>
      let vals := if r.pass = 1 then r.vals1 else r.vals2
      match r.e0Mc with
      | none => s
      | some a =>
        if ch < 32 ∧ 256 ≤ s.mcSince a ∧ !vals.any (fun v => v.1 == .act ch) ∧ !r.skip.contains ch then
          { s with stone.run := some { r with skip := r.skip ++ [ch] } }
        else s))

/-- R120, R124 CAL_PASS_END: the pass's steps, and its count, have ended. -/
def passEnd (s : State) : State :=
  match s.stone.run with
  | none => s
  | some r =>
    if r.done || r.step ≠ 22 || !s.stepEnded || !r.xtalDone then s
    else if r.pass = 1 then
      let w := merge 2 (s.cw .stone 0 0) (s.cfg.committed.word .stone 0 0)
      { s with cfg.inForce := s.cfg.inForce.setWord .stone 0 0 w,
               stone.run := some { r with pass := 2, step := 0, active := false, e0Mc := none, pulses := 0,
                                          cnt24 := 0, cnt32 := 0, passMc := s.chain.mc,
                                          keepXtal := r.keepXtal || !bit w 1 } }
    else { s with stone.run := some { r with done := true } }

def execCalPassEnd (s : State) : Host.Outcome State Fault Refusal := .next (onPll s (passEnd s))

/-! ## Agreement (R116, R126) -/

/-- The absolute value of a rational. -/
def absQ (q : Rat) : Rat := if q < 0 then -q else q

/-- A code difference as a voltage referred to the input, in µV. -/
def codeUv (g : Nat) (c : Rat) : Rat := c * 3000000 / ((2 ^ g * 2 ^ 23 : Nat) : Rat)

/-- R116 item 4: the offset tolerance of a gain, in µV. -/
def ofsTol (g : Nat) : Rat := if g ≤ 2 then 6 else if g ≤ 5 then 2 else 1

/-- R116: the item a value belongs to. -/
def itemOf : CalKey → Nat
  | .visit m i =>
    (match i with
     | .short _ => if m = hmod then 1 else if m < 12 then 4 else 6
     | .divider _ => if m = hmod then 1 else if m < 12 then 5 else 7
     | .bandgap => 2 | .dvbe _ => 3 | .calHi | .calLo => 8)
  | .act _ => 9 | .x24 => 10 | .x32 => 11 | .die _ => 0 | .flag _ => 0

/-- Two values agree within a relative tolerance, in units of 10^-9 of the first. -/
def agreeRel (ppb : Nat) (a b : Rat) : Bool := decide (absQ (b - a) * 1000000000 ≤ absQ a * (ppb : Rat))

/-- R126: do the two passes agree on a value. -/
def agree (k : CalKey) (a b : Rat) : Bool :=
  match k with
  | .visit _ i =>
    (match i with
     | .short g => decide (absQ (codeUv g (b - a)) ≤ ofsTol g)
     | .divider _ => agreeRel 20000 a b
     | .bandgap => agreeRel 20000 (Config.bandgapRatio a) (Config.bandgapRatio b)
     | .dvbe j => decide ((Config.dvbeTemp j b - Config.dvbeTemp j a).natAbs * 5 ≤ 65536)
     | .calHi | .calLo => agreeRel 20000 a b)
  | .act _ => agreeRel 1000000 a b
  | .x24 | .x32 => agreeRel 200 a b
  | .die _ | .flag _ => true

/-- R126, R144: of several failing items `FAIL_ITEM` names the lowest (DESIGN CHOICE, notes/assumptions/77.md); 0 stands for no failure. -/
def lowestItem (l : List Nat) : Nat :=
  (l.filter (fun x => x != 0)).foldl (fun a x => if a = 0 ∨ x < a then x else a) 0

/-- R126: the lowest item that disagrees; 0 for none. -/
def disagreement (r : CalRun) : Nat :=
  lowestItem (r.vals1.map (fun v =>
    match r.vals2.find? (fun w => w.1 == v.1) with
    | none => 0
    | some w => if agree v.1 v.2 w.2 then 0 else itemOf v.1))

/-! ## Results (R127-R129) -/

/-- R127: the mean of the two passes, while both hold the value. -/
def runMean (r : CalRun) (k : CalKey) : Option Rat :=
  match r.vals1.find? (fun v => v.1 == k), r.vals2.find? (fun v => v.1 == k) with
  | some a, some b => some ((a.2 + b.2) / 2)
  | _, _ => none

/-- R145: an offset in codes as its s16 field. -/
def ofsField (x : Int) : Int := if satS 16 x = x then x else (Config.wideOfs x).toInt

/-- R116, R127: offset and gain error of a modulator and gain from its short and divider means; uncalibrated (R133) when it took no part. The divider's 0.900 × VREF / G is 0.75 of the range. -/
def ofsGain (r : CalRun) (m g : Nat) : Int × Int :=
  match runMean r (.visit m (.short g)), runMean r (.visit m (.divider g)) with
  | some z, some d => (rneQ z, rneQ (((d - z) / 6291456 - 1) * (2 ^ 20 : Nat)))
  | _, _ => (0, 0)

/-- R116: are an offset and a gain error plausible. -/
def ogOk (g : Nat) (og : Int × Int) : Bool :=
  decide (absQ (codeUv g og.1) ≤ 200) && decide ((og.2.natAbs : Rat) * 100 ≤ (2 ^ 20 : Nat))

/-- R135: a code corrected by an offset and a gain error, exact. -/
def corrCode (og : Int × Int) (c : Rat) : Rat := (c - og.1) * (2 ^ 20 : Nat) / ((2 ^ 20 + og.2 : Int) : Rat)

/-- R127: the currents a modulator's source gave at 100 µA and 1,000 µA, in µA. -/
def excCurrents (s : State) (r : CalRun) (og : Int × Int) (m : Nat) : Option (Rat × Rat) :=
  match runMean r (.visit m .calHi), runMean r (.visit m .calLo) with
  | some hi, some lo =>
    let volts (c : Rat) : Rat := corrCode og c * 3 / (2 ^ 24 : Nat)
    some (volts hi * 1000000000 / ((s.cw .stone 0 2).toNat : Rat), volts lo * 1000000000 / ((s.cw .stone 0 1).toNat : Rat))
  | _, _ => none

/-- R127: slope and intercept (µA) of the line through the two currents. -/
def excLine (i : Rat × Rat) : Rat × Rat :=
  let slope := (i.2 - i.1) / 900
  (slope, i.1 - 100 * slope)

/-- R128: where a kept item takes its value from. -/
def keepFrom (s : State) (set : Nat) (t : Int) : CalSet :=
  let old := if s.calHost then s.stone.hostSet else
    (let c := nth s.stone.sets set
     if c.valid then some c else none)
  match old with
  | some c => c
  | none => (nearestSet t s.stone.sets).getD (uncalSet t)

/-- R124: the 24.000 MHz deviation of a count over 16 s, in 0.01 ppm. -/
def x24Of (cnt : Rat) : Int := rneQ ((cnt / 384000000 - 1) * 100000000)

/-- R116 item 11: the 32.768 kHz deviation against the corrected 24.000 MHz reference, in 0.01 ppm. -/
def x32Of (c32 c24 : Rat) (x24 : Int) : Int :=
  rneQ ((c32 / 32768 / (c24 / (24000000 * (1 + (x24 : Rat) / 100000000))) - 1) * 100000000)

/-- R127-R129: the set a run computes, and the lowest implausible item (0 for none). The stages follow R127's order, each corrected with those before it: VREF at the run's temperature without its die offset, which a later stage measures; the die offsets, ΔVBE and reading both corrected with the run's HMOD offset and gain; the set's temperature with its die offset. -/
def runResult (s : State) (r : CalRun) : CalSet × Nat :=
  let h := ofsGain r hmod 0
  let temp0 : Int := rneQ ((r.tSum : Rat) / ((max 1 r.tCnt : Nat) : Rat))
  let ratio := (runMean r (.visit hmod .bandgap)).map (fun c => Config.bandgapRatio (corrCode h c))
  let dev := factVrefDev temp0
  let dieOfs (k : Nat) : Int :=
    match runMean r (.visit hmod (.dvbe k)), runMean r (.die k) with
    | some c, some raw =>
      rneQ (((Config.dvbeTemp k (corrCode h c * ((2 ^ 24 + dev : Int) : Rat) / (2 ^ 24 : Nat)) : Rat) -
        Config.dieTemp k (rneQ (corrCode h raw))) / 256)
    | _, _ => 0
  let die := (List.range 5).map dieOfs
  let temp : Int := temp0 + dieOfs 4 * 256
  let fog := (List.range 12).map (fun m => (List.range 8).map (fun g => ofsGain r m g))
  let pog := (List.range 8).map (fun m => (List.range 5).map (fun g => ofsGain r (12 + m) g))
  let exc := (List.range 12).map (fun m => (excCurrents s r (nth (nth fog m) 1) m).map excLine)
  let keep := keepFrom s r.set temp
  let iCoil : Rat := (5 / 2 : Rat) * (1 + (dev : Rat) / (2 ^ 24 : Nat)) * 1000000 / ((s.cw .stone 0 1).toNat : Rat)
  let act := (List.range 32).map (fun n =>
    if r.skip.contains n then none
    else (runMean r (.act n)).map (fun v => rneQ ((v / iCoil - 1) * (2 ^ 20 : Nat))))
  let x24v := if r.keepXtal then none else (runMean r .x24).map x24Of
  let x32v := match x24v, runMean r .x32, runMean r .x24 with
    | some x, some c32, some c24 => some (x32Of c32 c24 x)
    | _, _, _ => none
  let fld16 (p : Int × Int) : Int × Int := (ofsField p.1, p.2)
  let set : CalSet :=
    { temp := temp, opt := s.backup.opt.toNat, valid := true, kept10 := x24v.isNone, kept11 := x32v.isNone,
      actSkip := maskOf 32 (fun n => (nth act n).isNone),
      fmod := fog.map (fun l => l.map fld16), pmod := pog.map (fun l => l.map fld16), hmod := fld16 h,
      exc := exc.map (fun e => match e with
        | some (slope, ic) => (rneQ ((slope - 1) * (2 ^ 24 : Nat)), rneQ (ic * 1000000))
        | none => (0, 0)),
      vrefDev := dev,
      act := (List.range 32).map (fun n => (nth act n).getD (nth keep.act n)),
      die := die, x32 := x32v.getD keep.x32, x24 := x24v.getD keep.x24 }
  let bad : List Nat :=
    [ if ogOk 0 h then 0 else 1,
      (match ratio with
       | some q => if absQ (q - factRatio temp0) * 2000 ≤ absQ (factRatio temp0) then 0 else 2
       | none => 0),
      if die.all (fun d => decide (d.natAbs ≤ 1280)) then 0 else 3,
      if (List.range 12).all (fun m => (List.range 8).all (fun g => decide (absQ (codeUv g (nth (nth fog m) g).1) ≤ 200))) then 0 else 4,
      if fog.all (fun l => l.all (fun p => decide ((p.2.natAbs : Rat) * 100 ≤ (2 ^ 20 : Nat)))) then 0 else 5,
      if (List.range 8).all (fun m => (List.range 5).all (fun g => decide (absQ (codeUv g (nth (nth pog m) g).1) ≤ 200))) then 0 else 6,
      if pog.all (fun l => l.all (fun p => decide ((p.2.natAbs : Rat) * 100 ≤ (2 ^ 20 : Nat)))) then 0 else 7,
      if exc.all (fun e => match e with
          | some (slope, ic) => decide (absQ (slope - 1) * 50 ≤ 1) && decide (absQ ic ≤ 1)
          | none => true) &&
         !(r.vals1 ++ r.vals2).any (fun v => match v.1 with | .flag _ => true | _ => false) then 0 else 8,
      if act.all (fun a => match a with | some e => decide ((e.natAbs : Rat) * 100 ≤ 3 * (2 ^ 20 : Nat)) | none => true) then 0 else 9,
      if (x24v.getD 0).natAbs ≤ 5000 then 0 else 10,
      if (x32v.getD 0).natAbs ≤ 20000 then 0 else 11,
      if r.tMax - r.tMin ≤ 131072 ∧
         (s.calHost ∨ (List.range 8).all (fun i => decide (i = r.set) || !(nth s.stone.sets i).valid ||
            decide (327680 < ((nth s.stone.sets i).temp - temp).natAbs))) then 0 else 12 ]
  (set, lowestItem bad)

/-- R126-R132, R142 CAL_RUN_COMPLETE: check, compute, and accept or reject. An accepted NV-mode run ends when its store has been read back. -/
def runComplete (s : State) : State :=
  match s.stone.run with
  | none => s
  | some r =>
    if !r.done || s.stone.commit.isSome then s
    else if disagreement r ≠ 0 then endRun 2 stCalDisagree (disagreement r) s
    else
      let q := runResult s r
      if q.2 ≠ 0 then endRun 3 stCalImplausible q.2 s
      else if s.calHost then
        endRun 1 stOk 0 { s with stone.hostSet := some q.1, stone.lastSet := r.set }
      else stoneCommit (s.stone.sets.set r.set q.1) (some r.set) s

def execCalRunComplete (s : State) : Host.Outcome State Fault Refusal := .next (onPll s (runComplete s))

/-- R140, R142: a store has been read back, or its write failed. A good one clears `SLOT_FALLBACK` (DESIGN CHOICE, notes/assumptions/77.md). -/
def stoneDone (ok : Bool) (s : State) : State :=
  match s.stone.commit with
  | none => s
  | some sets =>
    let s1 := { s with stone.commit := none, stone.commitSet := none }
    if ok then
      let s2 := { s1 with stone.sets := sets, stone.slotSeq := s.stone.slotSeq + 1,
                          stone.activeSlot := 1 - s.stone.activeSlot, stone.slotFallback := false }
      match s.stone.commitSet with
      | some i => endRun 1 stOk 0 { s2 with stone.lastSet := i }
      | none => finish stOk [] s2
    else
      let s2 := calAlarm true s1
      match s.stone.commitSet with
      | some _ => endRun 4 stNvFail 0 s2
      | none => finish stNvFail [] s2

/-! ## Calibration commands (R132, R144, R359) -/

/-- R342, R343, R359: `CAL.RUN`; its arguments come before the device state (R341). -/
def execCalRun (m : Msg) (s : State) : Host.Outcome State Fault Refusal :=
  .next (command { code := 0x1101, len := fun n => n == 4 } m
    (fun m s =>
      if 7 < getB m.payload 0 ∨ !padOk m 1 3 then (s, .st stBadArg)
      else if s.stone.run.isSome ∨ s.test.running ∨ s.stone.commit.isSome then (s, .st stBusy)
      else if s.throttled then (s, .st stThermal)
      else if s.bushel.closed && !s.calHost then (calAlarm true s, .st stNvFail)
      else (startRun (getB m.payload 0) s, .st stPending)) s)

/-- R130: `CAL.ABORT`. -/
def execCalAbort (m : Msg) (s : State) : Host.Outcome State Fault Refusal :=
  .next (command { code := 0x1102 } m (fun _ s => (abortRun 5 stOk s, .st stOk)) s)

/-- R140, R359: `CAL.DELETE`. -/
def execCalDelete (m : Msg) (s : State) : Host.Outcome State Fault Refusal :=
  .next (command { code := 0x1103, len := fun n => n == 4 } m
    (fun m s =>
      if 7 < getB m.payload 0 ∨ !padOk m 1 3 then (s, .st stBadArg)
      else if s.calHost then (s, .st stLocked)
      else if s.stone.run.isSome then (s, .st stBusy)
      else if s.thermalBars then (s, .st stThermal)
      else if s.bushel.closed then (calAlarm true s, .st stNvFail)
      else (stoneCommit (s.stone.sets.set (getB m.payload 0) {}) none s, .wait)) s)

/-- R132: `CAL.READ_COEF`. -/
def execCalReadCoef (m : Msg) (s : State) : Host.Outcome State Fault Refusal :=
  .next (command { code := 0x1104 } m (report' (fun s => s.coefRecord.bytes)) s)

/-- R116, R118, R132: `VREF_DEV` of a record predicts a reference ratio within 0.05 % of the factory ratio at the record's temperature. -/
def vrefPlausible (c : CalSet) : Bool :=
  decide ((c.vrefDev - factVrefDev c.temp).natAbs * 2000 ≤ (2 ^ 24 + factVrefDev c.temp).natAbs)

/-- R116, R132: the plausible ranges of a written record. -/
def coefPlausible (c : CalSet) : Bool :=
  ogOk 0 c.hmod && vrefPlausible c &&
  c.fmod.all (fun l => (List.range 8).all (fun g => ogOk g (nth l g))) &&
  c.pmod.all (fun l => (List.range 5).all (fun g => ogOk g (nth l g))) &&
  c.die.all (fun d => decide (d.natAbs ≤ 1280)) &&
  c.exc.all (fun e => decide (e.1.natAbs * 50 ≤ 2 ^ 24) && decide (e.2.natAbs ≤ 1000000)) &&
  c.act.all (fun a => decide (a.natAbs * 100 ≤ 3 * 2 ^ 20)) &&
  decide (c.x24.natAbs ≤ 5000) && decide (c.x32.natAbs ≤ 20000)

/-- R132: `CAL.WRITE_COEF`. -/
def execCalWriteCoef (m : Msg) (s : State) : Host.Outcome State Fault Refusal :=
  .next (command { code := 0x1105, len := fun n => n == 768 } m
    (fun m s =>
      if !calRecordOk m.payload then (s, .st stBadArg)
      else if !s.calHost then (s, .st stLocked)
      else if s.stone.run.isSome then (s, .st stBusy)
      else
        let c := CalSet.ofBytes m.payload
        if coefPlausible c then ({ s with stone.hostSet := some c }, .st stOk) else (s, .st stCalImplausible)) s)

/-- R144, R359: `CAL.STATUS`. -/
def execCalStatus (m : Msg) (s : State) : Host.Outcome State Fault Refusal :=
  .next (command { code := 0x1106 } m
    (report' (fun s => leW s.calStatus ++ le16 s.stone.lastStatus ++ zeros 2)) s)

end Sys2Proof.Machine
end

