-- ==== Sys2Proof/Machine/Rood.lean ====
section
/-! DEFINITION. Rood, the loop engine: evaluation, laws, block-floating storage, commit, open and close (R146-R180). -/

namespace Sys2Proof.Machine

/-! ## Contexts -/

def updLoop (l : Nat) (f : Loop → Loop) (s : State) : State := { s with rood.loops := upd s.rood.loops l f }
def updDyn (l : Nat) (f : LoopDyn → LoopDyn) (s : State) : State := updLoop l (fun c => { c with dyn := f c.dyn }) s

/-- A field of loop l's configuration in force (R152, R153). -/
def State.lf (s : State) (l w hi lo : Nat) : Nat := s.cf .loop (l - 1) w hi lo

/-- R146 `EN`. -/
def State.loopEn (s : State) (l : Nat) : Bool := s.cb .loop (l - 1) 0 0

/-- R154: a coefficient word as its exact value. -/
def coefOf (w : Word) : Rat := (sfld w 17 0 : Rat) * pow2 (sfld w 29 24)

/-- R153 `OUT_HOLD` in force. -/
def State.outHold (s : State) (l : Nat) : Nat := s.lf l 3 15 0

/-- R150, R171: set `OUT_HOLD`; what an evaluation in progress would set gives way to it. -/
def setOutHold (l v : Nat) (s : State) : State :=
  let w := merge 0xFFFF (s.cw .loop (l - 1) 3) (w32 (v % 65536))
  updLoop l (fun c => { c with eval := c.eval.map (fun e => { e with hold := none }) })
    { s with cfg.inForce := s.cfg.inForce.setWord .loop (l - 1) 3 w }

/-- R171, R173, R175: a write of `OUT_HOLD` for a loop that is not CLOSED; an earlier open's value, and the `OUT_SAFE` of a first sample still to come, give way to it. -/
def writeOutHold (l v : Nat) (s : State) : State :=
  setOutHold l v (updLoop l (fun c => { c with openReq := c.openReq.map (fun _ => none), startHold := false }) s)

/-- R195: the ceiling that a share of the dew guard sets, in IEEE 754 binary64. -/
def dewCeil (q : Rat) (outMin outMax : Nat) : Nat :=
  if 1 ≤ q then outMax else outMin + (roundB64 (q * ((outMax - outMin : Nat) : Rat))).floor.toNat

/-- R167, R195: `OUT_MAX` in force: the smaller of the configured one and the dew guard's ceiling, with the `OUT_MIN` and `OUT_MAX` that the loop has taken. -/
def State.outMax (s : State) (l : Nat) : Nat :=
  match (s.loop l).dewShare with
  | none => s.lf l 2 31 16
  | some q => min (s.lf l 2 31 16) (dewCeil q (s.lf l 2 15 0) (s.lf l 2 31 16))

/-- R345: the zone a loop is bound to. -/
def State.zoneOfLoop (s : State) (l : Nat) : Option Nat :=
  (List.range 32).find? (fun z =>
    s.cf .zone z 10 31 24 == l || s.cf .zone z 10 23 16 == l || s.cf .zone z 10 15 8 == l)

/-- R399: the source of a loop's records. -/
def State.loopSource (s : State) (l : Nat) : Nat := (s.zoneOfLoop l).getD 109

/-- R177, R179: raise the event source of the loop's zone, if there is one. -/
def raiseLoopZone (l : Nat) (s : State) : State :=
  match s.zoneOfLoop l with
  | none => s
  | some z => raise z s

/-- R174, R179: a record of a loop. -/
def loopRecord (typ sev l : Nat) (s : State) : State := happen (s.loopSource l) typ sev l s

/-- R32: does an actuator channel bind the loop. -/
def State.chBinds (s : State) (n l : Nat) : Bool :=
  s.cf .act n 0 31 29 != 0 &&
  ((s.cf .act n 0 28 27 == 1 && s.cf .act n 0 26 20 == l) ||
   (s.cf .act n 0 28 27 == 2 && (s.cf .act n 0 26 20 == l || s.cf .act n 0 19 13 == l)))

/-- R32: does a fan channel bind the loop. -/
def State.fanBinds (s : State) (f l : Nat) : Bool :=
  s.cb .fan f 0 0 && s.cf .fan f 0 31 30 == 1 && s.cf .fan f 0 29 23 == l

/-- R168: a channel bound to the loop reports an override. -/
def State.loopOverride (s : State) (l : Nat) : Bool :=
  (List.range 32).any (fun n => (nth s.act.ch n).ovr && s.chBinds n l) ||
  (List.range 16).any (fun f => (nth s.fans.ch f).ovr && s.fanBinds f l)

/-- R156 `EXP_A`, `EXP_B`, `HR_CNT`. -/
def LoopDyn.expA (d : LoopDyn) : Word :=
  w32 (at' (wrap 6 (nth d.exps 0)) 24 + at' (wrap 6 (nth d.exps 1)) 16 + at' (wrap 6 (nth d.exps 2)) 8 + wrap 6 (nth d.exps 3))
def LoopDyn.expB (d : LoopDyn) : Word := w32 (at' (wrap 6 (nth d.exps 4)) 8 + wrap 6 (nth d.exps 5))
def LoopDyn.hrCnt (d : LoopDyn) : Word :=
  w32 ((List.range 6).foldl (fun a i => a * 16 + nth d.hr i) 0)

/-- R152: bytes 0x00-0x7B of a context. -/
def State.loopBytes (s : State) (l : Nat) : List Byte :=
  let c := s.loop l
  let d := c.dyn
  let cfg := (s.cfg.inForce.inst .loop (l - 1)).set 2 (w32 (at' (s.outMax l) 16 + s.lf l 2 15 0))
  wordsBytes cfg ++ leW c.spIn ++ leW c.ffIn ++ leW c.hostMeas ++ le32 (b2n c.provIn) ++
  leW d.expA ++ leW d.expB ++ leW d.hrCnt ++
  leI32 d.meas ++ leI32 d.sp ++ leI32 d.err ++ leI32 d.int ++ leI32 d.ff ++ leI32 d.demV ++ leI32 d.demW ++
  leW d.outWord ++ leW (s.loopStatus l) ++ leW d.sampleMc ++ leW c.hostMc ++
  le32 (at' c.overrun 16 + d.clipCnt)

/-! ## Starting and stopping (R146, R170, R175-R177) -/

/-- R175, R177: a loop starts: OPEN with `OUT_HOLD` = `OUT_SAFE`, every stage fresh, counters and flags 0; `COUNTS` run since reset and `SAMPLE_MC` is that of the last commit (R156). Its first sample takes the `OUT_SAFE` and the `AUTO_CLOSE` then in force (`loopStart`). One that leaves FAULT keeps the `OUT_SAFE` it has latched until then. -/
def startLoop (l : Nat) (s : State) : State :=
  updLoop l (fun c => { c with dyn := { st := .opened, clipCnt := c.dyn.clipCnt, sampleMc := c.dyn.sampleMc,
                                        out := if c.dyn.st = .fault then c.dyn.out else 0 }, openReq := none,
                               closePend := false, holdForced := false, poison := false, eval := none,
                               startHold := true, startClose := true }) (setOutHold l (s.lf l 3 31 16) s)

/-- R175: the first sample of a loop that has started: `OUT_HOLD` = `OUT_SAFE`, unless it has been written since, and the close of `AUTO_CLOSE`, unless an open has cancelled it. -/
def loopStart (l : Nat) (s : State) : State :=
  let s1 := if (s.loop l).startHold then setOutHold l (s.lf l 3 31 16) s else s
  updLoop l (fun c => { c with startHold := false, startClose := false,
                               closePend := c.closePend || (c.startClose && s.cb .loop (l - 1) 0 4) }) s1

/-- R146, R170: a loop whose `EN` is cleared is DISABLED; `SAMPLE_MC` stays that of the last commit (R156). -/
def stopLoop (l : Nat) (s : State) : State :=
  updLoop l (fun c => { c with dyn := { clipCnt := c.dyn.clipCnt, sampleMc := c.dyn.sampleMc }, openReq := none,
                               closePend := false, holdForced := false, poison := false, eval := none,
                               startHold := false, startClose := false }) s

/-- R150, R178: an evaluation that does not reach its commit leaves nothing behind: the open it had taken waits again, unless a later one has come. -/
def dropEval (c : Loop) : Loop :=
  { c with eval := none, openReq := match c.openReq with | some v => some v | none => c.eval.bind (·.opened) }

/-- R176: Hold begins: evaluations stop, and each CLOSED loop is forced open at its last output, which `LOOP_OUT` keeps. -/
def loopsHold (s : State) : State :=
  (List.range 127).foldl (fun a i =>
    let l := i + 1
    let c := a.loop l
    let a1 := updLoop l dropEval a
    if c.dyn.st = .closed then
      loopRecord 3 1 l (setOutHold l c.dyn.out
        (updLoop l (fun x => { x with holdForced := true, dyn := { x.dyn with st := .opened } }) a1))
    else a1) s

/-- R28, R176: Hold ends: each loop with `HOLD_FORCED` posts a close. -/
def loopsUnhold (s : State) : State :=
  { s with rood.loops := s.rood.loops.map (fun c =>
      if c.holdForced then { c with holdForced := false, closePend := true } else c) }

/-! ## Block-floating stages (R160-R163) -/

/-- R160: q(x, st) at an exponent. -/
def qAt (e : Int) (x : Rat) : Int := rneQ (x / pow2 e)

/-- A value fits s24. -/
def fits24 (v : Int) : Bool := decide (-8388608 ≤ v) && decide (v ≤ 8388607)

/-- R163: the smallest exponent at which every value fits after q; +31 when none does. -/
def freshExp (xs : List Rat) : Int :=
  (((List.range 64).map (fun (k : Nat) => (Int.ofNat k) - 32)).find? (fun e => xs.all (fun x => fits24 (qAt e x)))).getD 31

/-- A stored stage: exponent, headroom counter, mantissas, clipped, saturated. -/
structure Stage where
  exp : Int := -32
  hr : Nat := 0
  vals : List Int := []
  clip : Bool := false
  sat : Bool := false
deriving DecidableEq, Repr, Inhabited

/-- R161, R162: store a stage that is not fresh. -/
def storeStage (e : Int) (h : Nat) (qs : List Int) : Stage :=
  if qs.all fits24 then
    if qs.all (fun v => decide (-1048576 ≤ v) && decide (v ≤ 1048575)) then
      if h < 15 then { exp := e, hr := h + 1, vals := qs }
      else if -32 < e then { exp := e - 1, hr := 0, vals := qs.map (fun v => 2 * v) }
      else { exp := e, hr := 15, vals := qs }
    else { exp := e, hr := 0, vals := qs }
  else if e < 31 then
    let vs := qs.map (fun v => v.fdiv 2)
    { exp := e + 1, hr := 0, vals := vs.map (satS 24), clip := !vs.all fits24 }
  else { exp := e, hr := 0, vals := qs.map (satS 24), sat := true }

/-- R163: store a fresh stage from its exact values. -/
def storeFresh (xs : List Rat) : Stage :=
  let e := freshExp xs
  let qs := xs.map (qAt e)
  { exp := e, hr := 0, vals := qs.map (satS 24), sat := !qs.all fits24 }

/-- R160-R163: store stage i of a loop from the rounded and the exact values of this evaluation. -/
def putStage (i : Nat) (fresh : Bool) (qs : List Int) (xs : List Rat) (d : LoopDyn) : LoopDyn :=
  let r := if fresh then storeFresh xs else storeStage (nth d.exps i) (nth d.hr i) qs
  let v (k : Nat) := nth r.vals k
  let d1 := { d with exps := d.exps.set i r.exp, hr := d.hr.set i r.hr, fresh := d.fresh.set i false,
                     satStg := d.satStg + at' (b2n r.sat) (5 - i), clipStg := d.clipStg + at' (b2n r.clip) (5 - i) }
  match i with
  | 0 => { d1 with meas := v 0 }
  | 1 => { d1 with sp := v 0 }
  | 2 => { d1 with err := v 0 }
  | 3 => { d1 with int := v 0 }
  | 4 => { d1 with ff := v 0 }
  | _ => { d1 with demV := v 0, demW := v 1 }

/-! ## The control law (R165-R169, R172) -/

/-- The configuration an evaluation uses (R150, R166). -/
structure LawIn where
  law : Nat := 0
  direct : Bool := false
  lo : Rat := 0
  hi : Rat := 0
  b : Rat := 0
  bandErr : Rat := 0
  kp : Rat := 0
  ki : Rat := 0
  kb : Rat := 0
  kff : Rat := 0
  ksp : Rat := 0
deriving DecidableEq, Repr, Inhabited

def State.lawIn (s : State) (l : Nat) : LawIn :=
  let k (w : Nat) := coefOf (s.cw .loop (l - 1) w)
  { law := s.lf l 0 3 2, direct := s.cb .loop (l - 1) 0 1,
    lo := (s.lf l 2 15 0 : Rat) / 65536, hi := (s.outMax l : Rat) / 65536,
    b := (s.lf l 5 15 0 : Rat) / 65536, bandErr := q16 (s.cw .loop (l - 1) 4),
    kp := k 6, ki := k 7, kb := k 8, kff := k 9, ksp := k 10 }

/-- R167: the previous output normalized to a level. -/
def normLevel (p : LawIn) (u : Rat) : Rat :=
  if u ≠ p.lo ∧ u ≠ p.hi then (if (p.lo + p.hi) / 2 ≤ u then p.hi else p.lo) else u

/-- R167: the output laws. -/
def lawOut (p : LawIn) (xe xv xw uPrev : Rat) : Rat :=
  match p.law with
  | 0 =>
    let u := normLevel p uPrev
    if p.bandErr < xe then p.hi else if xe < -p.bandErr then p.lo else u
  | 1 =>
    let u := normLevel p uPrev
    let c := (p.lo + p.hi) / 2
    if c + p.b < xv then p.hi else if xv < c - p.b then p.lo else u
  | _ =>
    let u := clampQ uPrev p.lo p.hi
    let t : Rat := (rneQ (xw * 65536) : Rat) / 65536
    let d := if t < u then u - t else t - u
    if p.b < d then t else if (t = p.lo ∨ t = p.hi) ∧ t ≠ u then t else u

/-- The measurement a loop's source names, with the MC it belongs to; none when R165 calls it invalid whatever its age. -/
def State.loopMeas (s : State) (l : Nat) : Option (Word × Word) :=
  let i := s.lf l 1 6 0
  let pick (v mc : Word) : Option (Word × Word) := if validQ v then some (v, mc) else none
  match s.lf l 1 15 14 with
  | 0 => let r := nth s.sens.results i; let v := s.seenResult r.mcEnd r.ptEnd r.value r.old r.oldMc; pick v.1 v.2
  | 1 => if i ≤ 12 then (let h := nth s.sens.hk i; let v := s.seenResult h.mcEnd h.ptEnd h.value h.old h.oldMc; pick v.1 v.2) else none
  | 2 => pick (s.loop l).hostMeas (s.loop l).hostMc
  | _ => none

/-- R165: the valid measurement of a sample, Q16.16. -/
def State.validMeas (s : State) (l : Nat) (sample : Word) : Option Word :=
  match s.loopMeas l with
  | none => none
  | some (v, mc) =>
    let age := s.lf l 1 31 24
    if age ≠ 0 ∧ (age : Int) < mcDiff mc sample then none else some v

/-- R165, R170: a sample with an invalid measurement. It stores no stage, and the spec does not say whether `SAT_STG`, `CLIP_STG` and `SAT` clear: they keep what the last valid sample set (DESIGN CHOICE, notes/assumptions/99.md). -/
def holdSample (l : Nat) (sample : Word) (s : State) (d : LoopDyn) : LoopDyn :=
  { d with out := if d.st = .closed then d.out else s.outHold l, outClosed := d.st == .closed, prov := (s.loop l).provIn,
           holding := true, override := s.loopOverride l, tag := (d.tag + 1) % 16, sampleMc := sample,
           invalidRun := min 255 (d.invalidRun + 1), outLim := d.outLim && d.st == .closed }

/-- R166, R172: a sample with a valid measurement; `close` performs a posted close. Two points are the model's (DESIGN CHOICE, notes/assumptions/99.md): INT is stored, and its counter moves, at every sample that integrates, also where the integer stays as it was, and never for a CLOSED HYST loop ('int if it changed', R166); and a close rebuilds INT also under an override (R172 before R168). -/
def lawSample (l : Nat) (sample : Word) (meas : Word) (close : Bool) (s : State) (d : LoopDyn) : LoopDyn :=
  let c := s.loop l
  let p := s.lawIn l
  let e (i : Nat) := nth d.exps i
  let f (i : Nat) := d.fresh.getD i false
  let m := q16 meas
  let r := q16 c.spIn
  let ff := q16 c.ffIn
  let qm := qAt (e 0) m
  let xm := (qm : Rat) * pow2 (e 0)
  let qr := qAt (e 1) r
  let xr := (qr : Rat) * pow2 (e 1)
  let ev := if p.direct then xm - xr else xr - xm
  let qe := qAt (e 2) ev
  let xe := (qe : Rat) * pow2 (e 2)
  let qf := qAt (e 4) ff
  let xf := (qf : Rat) * pow2 (e 4)
  let xi := (d.int : Rat) * pow2 (e 3)
  let ov := s.loopOverride l
  let v := p.kp * xe + xi + p.kff * xf + p.ksp * xr
  let qv := qAt (e 5) v
  let xv := (qv : Rat) * pow2 (e 5)
  let w := clampQ xv p.lo p.hi
  let qw := qAt (e 5) w
  let xw := (qw : Rat) * pow2 (e 5)
  let u0 := clampQ ((s.outHold l : Rat) / 65536) p.lo p.hi
  let d0 := { d with satStg := 0, clipStg := 0 }
  let d1 := putStage 4 (f 4) [qf] [ff] (putStage 2 (f 2) [qe] [ev] (putStage 1 (f 1) [qr] [r] (putStage 0 (f 0) [qm] [m] d0)))
  let fin (d : LoopDyn) (u : Rat) (lim : Bool) : LoopDyn :=
    { d with out := satU 16 (rneQ (u * 65536)), outClosed := d.st == .closed, prov := c.provIn, holding := false, outLim := lim, override := ov,
             tag := (d.tag + 1) % 16, sampleMc := sample, invalidRun := 0,
             clipCnt := if d.clipStg = 0 then d.clipCnt else incSat 16 d.clipCnt }
  if d.st = .opened ∧ close then
    let xi' := if p.law = 0 then 0 else u0 - (p.kp * xe + p.kff * xf + p.ksp * xr)
    let q0 := qAt (e 5) u0
    let u := if p.law = 2 then u0 else if (p.lo + p.hi) / 2 ≤ u0 then p.hi else p.lo
    let d2 := putStage 3 true [] [xi'] (putStage 5 (f 5) [q0, q0] [u0, u0] d1)
    fin { d2 with st := .closed } u false
  else if d.st = .closed then
    let u := lawOut p xe xv xw ((d.out : Rat) / 65536)
    let lim := decide (p.hi < xv) || decide (xv < p.lo)
    let d2 := putStage 5 (f 5) [qv, qw] [v, w] d1
    if p.law ≠ 0 ∧ !ov then
      let xi' := xi + p.ki * xe + p.kb * (xw - xv)
      fin (putStage 3 (f 3) [qAt (e 3) xi'] [xi'] d2) u lim
    else fin d2 u lim
  else fin (putStage 5 (f 5) [qv, qw] [v, w] d1) ((s.outHold l : Rat) / 65536) false

/-! ## Evaluation and commit (R149-R151, R173, R177-R179) -/

/-- R34, R180: the live fields of a loop's words take effect at its evaluation. -/
def loopLive (l : Nat) (s : State) : State :=
  let put (w mask : Nat) (img : Image) : Image :=
    img.setWord .loop (l - 1) w (merge (w32 mask) (img.word .loop (l - 1) w) (s.cfg.committed.word .loop (l - 1) w))
  { s with cfg.inForce := put 5 0xFFFF (put 4 all32 (put 3 0xFFFF0000 (put 2 all32 (put 1 (bmask 31 24) (put 0 16 s.cfg.inForce))))) }

/-- R36, R163, R173 step 1: staged changes apply while the loop is not CLOSED; a change of source makes MEAS fresh. -/
def loopApplyStaged (l : Nat) (s : State) : State :=
  if (s.loop l).dyn.st = .closed ∨ !s.loopStaged l then s
  else
    let w := merge (w32 (bmask 15 14 + bmask 6 0)) (s.cw .loop (l - 1) 1) (s.cfg.committed.word .loop (l - 1) 1)
    updDyn l (fun d => { d with fresh := d.fresh.set 0 true })
      { s with cfg.inForce := s.cfg.inForce.setWord .loop (l - 1) 1 w }

/-- R171, R173 steps 3-4: a posted open applies. One without a value leaves the `OUT_HOLD` of a loop that is OPEN already as it stands, also where it has been written since the last sample (DESIGN CHOICE, notes/assumptions/77.md). -/
def loopApplyOpen (l : Nat) (s : State) : State :=
  let c := s.loop l
  match c.openReq with
  | none => s
  | some v =>
    let s1 := updLoop l (fun x => { x with openReq := none, closePend := false }) s
    match c.dyn.st, v with
    | .closed, none => setOutHold l c.dyn.out s1
    | _, some n => setOutHold l n s1
    | _, none => s1

/-- R148: does a loop sample in an MC. -/
def State.samples (s : State) (l : Nat) (mc : Word) : Bool :=
  mc.toNat % 2 ^ s.lf l 0 19 16 == s.lf l 0 15 8

/-- R147: the sample MC of an evaluation that begins now. -/
def State.sampleMc (s : State) (l : Nat) : Word := if s.lf l 0 31 20 = 0 then s.chain.mc + 1 else s.chain.mc

/-- R147, R148: loop l's evaluation is due in this PT. -/
def State.evalDue (s : State) (l : Nat) : Bool :=
  decide (1 ≤ l) && decide (l ≤ 127) && s.released && s.sup.mode != .hold && s.loopEn l &&
  s.chain.pt.toNat == (s.lf l 0 31 20 + 4095) % 4096 && s.samples l (s.sampleMc l)

/-- R150, R177: the evaluation of a loop: FAULT with `OUT_SAFE` for one with an uncorrectable context word; otherwise, after the staged source and the open that reach it (R173), the law or the hold of its sample. Nothing of it is in `s` yet. -/
def loopEvalOf (l : Nat) (s : State) : LoopEval :=
  let c := s.loop l
  let sample := s.sampleMc l
  if c.poison then
    { slot := s.lf l 0 31 20,
      dyn := { st := .fault, out := s.lf l 3 31 16, tag := (c.dyn.tag + 1) % 16, sampleMc := sample, clipCnt := c.dyn.clipCnt } }
  else
    let staged := c.dyn.st != .closed && s.loopStaged l
    let s2 := loopApplyOpen l (loopApplyStaged l s)
    let d := (s2.loop l).dyn
    let d1 := if c.openReq.isSome && d.st == .closed then { d with st := .opened } else d
    let res := match s2.validMeas l sample with
      | none => holdSample l sample s2 d1
      | some v => lawSample l sample v (s2.loop l).closePend s2 d1
    { slot := s.lf l 0 31 20, dyn := res, opened := c.openReq, hold := c.openReq.map (fun _ => s2.outHold l),
      source := if staged then some (s2.cw .loop (l - 1) 1) else none, closeOver := c.openReq.isSome }

/-- R149: the evaluation of the sample now due is in progress. -/
def State.evaluating (s : State) (l : Nat) : Bool :=
  match (s.loop l).eval with | some e => e.dyn.sampleMc == s.sampleMc l | none => false

/-- R149, R166 LOOP_EVALUATION: the live fields take effect (R34), and Rood latches and computes; nothing of the results shows before the commit. -/
def loopEval (l : Nat) (s : State) : State :=
  let st := (s.loop l).dyn.st
  if !s.evalDue l || !s.clk.pllLocked || !(st == .opened || st == .closed) || s.evaluating l then s
  else
    let s1 := loopStart l (loopLive l (updLoop l dropEval s))
    let e := loopEvalOf l s1
    updLoop l (fun c => { c with eval := some e, openReq := if c.poison then c.openReq else none }) s1

def execLoopEvaluation (l : Nat) (s : State) : Host.Outcome State Fault Refusal := .next (loopEval l s)

/-- R179: what a commit reports: OPEN and CLOSED transitions, entry to and exit from `HOLDING`, the first saturated or clipped sample. -/
def loopNotes (l : Nat) (old new : LoopDyn) (s : State) : State :=
  let bad (d : LoopDyn) := d.satStg != 0 || d.clipStg != 0
  let s1 := if old.st ≠ new.st then loopRecord 3 1 l s else s
  let s2 := if old.holding ≠ new.holding then loopRecord 3 1 l s1 else s1
  if !bad old && bad new then loopRecord 1 3 l (raiseLoopZone l s2) else s2

/-- R178: an evaluation that is late is discarded. -/
def loopOverrun (l : Nat) (s : State) : State :=
  happen 109 4 6 l (raiseWith 109 0 l (updLoop l (fun c => { dropEval c with overrun := incSat 16 c.overrun }) s))

/-- R177: the loop enters FAULT. -/
def loopFault (l : Nat) (d : LoopDyn) (s : State) : State :=
  loopRecord 1 5 l (raiseLoopZone l
    (updLoop l (fun c => { c with dyn := d, eval := none, closePend := false, openReq := none, holdForced := false }) s))

/-- R36, R171: the configuration an evaluation has changed: the staged source, and `OUT_HOLD`. -/
def loopCommitCfg (l : Nat) (e : LoopEval) (s : State) : State :=
  let s1 := match e.source with
    | some w =>
      { s with cfg.inForce := s.cfg.inForce.setWord .loop (l - 1) 1
                 (merge (w32 (bmask 15 14 + bmask 6 0)) (s.cw .loop (l - 1) 1) w) }
    | none => s
  match e.hold with
  | some v => setOutHold l v s1
  | none => s1

/-- R151: the results of an evaluation take effect together. -/
def loopCommitted (l : Nat) (e : LoopEval) (s0 : State) : State :=
  let d := e.dyn
  let s := loopCommitCfg l e s0
  let old := (s.loop l).dyn
  if d.st = .fault then loopFault l d s
  else
    loopNotes l old d
      (updLoop l (fun c => { c with dyn := d, eval := none,
                                    closePend := c.closePend && !(d.st == .closed && old.st != .closed) && !e.closeOver }) s)

/-! ## Loop commands (R171-R174, R360) -/

/-- An evaluation in progress closes the loop. -/
def Loop.closing (c : Loop) : Bool := match c.eval with | some e => e.dyn.st == .closed | none => false

/-- An open of the loop has not been committed. -/
def Loop.opening (c : Loop) : Bool := c.openReq.isSome || (match c.eval with | some e => e.opened.isSome | none => false)

/-- R171, R176, R188: `LOOP.OPEN` and zone logic's opens. One that names a value for a loop that is OPEN is a write of `OUT_HOLD`; every other waits for the next evaluation. -/
def postOpen (l : Nat) (v : Option Nat) (s : State) : State :=
  let c := s.loop l
  let s1 := updLoop l (fun c => { c with closePend := false, holdForced := false, startClose := false }) s
  match v with
  | some n =>
    if c.dyn.st = .opened ∧ c.closing = false then writeOutHold l n s1
    else updLoop l (fun c => { c with openReq := some (some n) }) s1
  | none => updLoop l (fun c => { c with openReq := some none }) s1

/-- R150, R172: post a close; the open of an evaluation in progress no longer cancels it. -/
def postClose (l : Nat) (s : State) : State :=
  updLoop l (fun c =>
    if c.dyn.st = .opened then
      { c with closePend := true, eval := c.eval.map (fun e => { e with closeOver := false }) }
    else c) s

/-- R360: a loop number. -/
def loopOk (l : Nat) : Bool := decide (1 ≤ l) && decide (l ≤ 127)

def execLoopOpen (m : Msg) (s : State) : Host.Outcome State Fault Refusal :=
  .next (command { code := 0x2001, len := fun n => n == 4 } m
    (fun m s =>
      let l := getB m.payload 0
      let h := getB m.payload 1
      let v := getH m.payload 2
      if !loopOk l ∨ 1 < h ∨ (h = 0 ∧ v ≠ 0) then (s, .st stBadArg)
      else
        let s1 := updLoop l (fun c => { c with hostOpen := true }) s
        let c := s.loop l
        if c.dyn.st = .disabled ∨ c.dyn.st = .fault then
          ((if h = 1 then writeOutHold l v s1 else s1), .st stOk)
        else (postOpen l (if h = 1 then some v else none) s1, .st stOk)) s)

def execLoopClose (m : Msg) (s : State) : Host.Outcome State Fault Refusal :=
  .next (command { code := 0x2002, len := fun n => n == 4 } m
    (fun m s =>
      let l := getB m.payload 0
      if !loopOk l ∨ !padOk m 1 3 then (s, .st stBadArg)
      else
        match (s.loop l).dyn.st with
        | .disabled => (s, .st stBadArg)
        | .closed => (s, .st stLoopClosed)
        | .fault => (s, .st stBusy)
        | .opened => (postClose l (updLoop l (fun c => { c with hostOpen := false }) s), .st stOk)) s)

def execLoopGet (m : Msg) (s : State) : Host.Outcome State Fault Refusal :=
  .next (command { code := 0x2004, len := fun n => n == 4 } m
    (fun m s =>
      let l := getB m.payload 0
      if !loopOk l ∨ !padOk m 1 3 then (s, .st stBadArg) else (s, .ok (s.loopBytes l))) s)

/-- R201, R360: an enabled Solstice slot names the loop. -/
def State.solNames (s : State) (l : Nat) : Bool :=
  (List.range 64).any (fun k => s.cb .sol k 0 31 && s.cf .sol k 0 23 17 == l)

/-- R155, R360: write the input words the mask selects. -/
def loopInput (l mask : Nat) (b : List Byte) (s : State) : State :=
  let w (k : Nat) := w32 (getW b (4 + 4 * k))
  updLoop l (fun c =>
    { c with spIn := if mask.testBit 0 then w 0 else c.spIn,
             ffIn := if mask.testBit 1 then w 1 else c.ffIn,
             hostMeas := if mask.testBit 2 then w 2 else c.hostMeas,
             hostMc := if mask.testBit 2 then s.chain.mc else c.hostMc,
             provIn := if mask.testBit 3 then bit (w 3) 0 else c.provIn }) s

def execLoopInput (m : Msg) (s : State) : Host.Outcome State Fault Refusal :=
  .next (command { code := 0x2005, len := fun n => n == 20 } m
    (fun m s =>
      let l := getB m.payload 0
      let k := getB m.payload 1
      let zoned := (s.zoneOfLoop l).isSome
      if !loopOk l ∨ k = 0 ∨ 15 < k ∨ !padOk m 2 2 ∨ 1 < getW m.payload 16 ∨
         ((k.testBit 0 ∨ k.testBit 3) ∧ zoned) ∨ (k.testBit 1 ∧ s.solNames l) then (s, .st stBadArg)
      else (loopInput l k m.payload s, .st stOk)) s)

end Sys2Proof.Machine
end

