-- ==== Sys2Proof/Machine/Solstice.lean ====
section
/-! DEFINITION. Solstice: learner slots, feed-forward and persistence (R201-R210, R362). -/

namespace Sys2Proof.Machine

/-! ## Slots (R201, R202) -/

def State.slot (s : State) (k : Nat) : SolSlot := nth s.rood.slots k
def updSlot (k : Nat) (f : SolSlot → SolSlot) (s : State) : State := { s with rood.slots := upd s.rood.slots k f }
def updZone (z : Nat) (f : Zone → Zone) (s : State) : State := { s with rood.zones := upd s.rood.zones z f }

def State.slEn (s : State) (k : Nat) : Bool := s.cb .sol k 0 31
def State.slLoop (s : State) (k : Nat) : Nat := s.cf .sol k 0 23 17
def State.slMode (s : State) (k : Nat) : Nat := s.cf .sol k 0 28 26
/-- R201: the number of bins. -/
def State.slBins (s : State) (k : Nat) : Nat := if s.cb .sol k 0 30 then 2016 else 288

/-- R202: the time of a slot's clock at a calendar count. -/
def State.slTime (s : State) (k : Nat) (cal : Int) : Int := if s.cb .sol k 0 29 then s.stdAt cal else s.localAt cal

/-- R202: the bin index at a time of the slot's clock. -/
def State.slBin (s : State) (k : Nat) (t : Int) : Nat := weekBin t % s.slBins k

/-- R185, R213: the actual mode of a zone. -/
def Zone.actualMode (z : Zone) : ZMode := if z.spec = .provisional then .provisional else z.cm

/-- R203: the learning conditions of a slot, now. -/
def State.slLearns (s : State) (k : Nat) : Bool :=
  let d := (s.loop (s.slLoop k)).dyn
  match s.zoneOfLoop (s.slLoop k) with
  | none => false
  | some z =>
    d.st == .closed && !d.holding && !d.override && !d.outLim && d.satStg == 0 &&
    (s.zone z).actualMode.code == s.slMode k && s.backup.calValid && s.sup.mode != .hold &&
    (s.cb .sol k 0 29 || !s.repeatAt s.stdNow)

/-- R34, R201: a slot counts as paused. -/
def State.slPaused (s : State) (k : Nat) : Bool := !s.slEn k || !s.slLearns k

/-- R201: a slot's bins are discarded. -/
def solDiscard (k : Nat) (s : State) : State := updSlot k (fun _ => {}) s

/-- R207, R210: source 110 with its record. -/
def solReport (k : Nat) (s : State) : State := report 110 4 3 k s

/-! ## Learning (R204, R205) -/

/-- R204: at a commit of a loop, the slots it names accumulate. -/
def solAccumulate (l : Nat) (s : State) : State :=
  (List.range 64).foldl (fun a k =>
    if a.slEn k && a.slLoop k == l then
      let d := (a.loop l).dyn
      let ok := a.slLearns k
      updSlot k (fun x =>
        { x with expCnt := x.expCnt + 1, cnt := x.cnt + b2n ok,
                 acc := if ok then x.acc + (d.int : Rat) * pow2 (nth d.exps 3) else x.acc }) a
    else a) s

/-- A value fits s12. -/
def fits12 (v : Int) : Bool := decide (-2048 ≤ v) && decide (v ≤ 2047)

/-- R205: store the first n bins of a slot. -/
def storeBins (n : Nat) (vs : List Int) (x : SolSlot) : SolSlot :=
  let head := vs.take n
  let put (l : List Int) := l ++ vs.drop n
  if head.all fits12 then
    if head.all (fun v => decide (-256 ≤ v) && decide (v ≤ 255)) then
      if x.hr < 15 then { x with bins := vs, hr := x.hr + 1 }
      else if -32 < x.exp then { x with bins := put (head.map (fun v => 2 * v)), exp := x.exp - 1, hr := 0 }
      else { x with bins := vs, hr := 15 }
    else { x with bins := vs, hr := 0 }
  else if x.exp < 31 then
    { x with bins := put (head.map (fun v => satS 12 (v.fdiv 2))), exp := x.exp + 1, hr := 0 }
  else { x with bins := put (head.map (satS 12)), hr := 0, slSat := true }

/-- R204: the three-tap correction of bin k of n. -/
def correctBins (n k : Nat) (d : Rat) (x : SolSlot) : List Int :=
  let tap (j : Nat) (w : Rat) (l : List Int) : List Int :=
    l.set j (qAt x.exp (((nth l j : Int) : Rat) * pow2 x.exp + w * d))
  tap ((k + 1) % n) (1 / 4) (tap k (1 / 2) (tap ((k + n - 1) % n) (1 / 4) x.bins))

/-- R34, R201: `LEAD` and `GAIN_SHIFT` take effect at the bin boundary. -/
def solLive (k : Nat) (s : State) : State :=
  let w := merge (w32 (bmask 16 8)) (s.cw .sol k 0) (s.cfg.committed.word .sol k 0)
  { s with cfg.inForce := s.cfg.inForce.setWord .sol k 0 w }

/-- R208, R210: `SOL_CFG` with `LEAD` and `GAIN_SHIFT` taken as 0. -/
def solCfgKey (w : Word) : Word := w &&& ~~~w32 (bmask 16 8)

/-- R201, R204, R205, R207 SOLSTICE_BIN_END: the bin that ends at this second of the calendar; of a slot that is not enabled, a boundary for its live fields alone. -/
def solBinEnd (k : Nat) (s : State) : State :=
  if !s.backup.calValid || !s.alive || !s.clk.pllLocked || decide (64 ≤ k) then s
  else if !s.slEn k then solLive k s
  else
    let x := s.slot k
    let n := s.slBins k
    let b := s.slBin k (s.slTime k (s.calNow - 1))
    let gain : Rat := 1 / (2 ^ s.cf .sol k 0 11 8 : Nat)
    let takes := decide (0 < x.cnt) && decide (x.expCnt ≤ 2 * x.cnt)
    let vs := if takes then correctBins n b (x.acc / (x.cnt : Rat) * gain) x else x.bins
    let y := storeBins n vs { x with acc := 0, cnt := 0, expCnt := 0, updates := x.updates + b2n takes }
    let s1 := solLive k (updSlot k (fun _ => y) s)
    if y.slSat && !x.slSat then solReport k s1 else s1

def execSolsticeBinEnd (k : Nat) (s : State) : Host.Outcome State Fault Refusal := .next (solBinEnd k s)

/-- R355: a bin in progress when the time is set closes without an update. -/
def closeBins (s : State) : State :=
  { s with rood.slots := s.rood.slots.map (fun x => { x with acc := 0, cnt := 0, expCnt := 0 }),
           rood.zones := s.rood.zones.map (fun z => { z with binPasses := 0, binOcc := 0, binSkip := false }) }

/-! ## Feed-forward (R206) -/

/-- R206: the feed-forward word of a slot. -/
def State.solFf (s : State) (k : Nat) : Word :=
  let x := s.slot k
  let n := s.slBins k
  let t := s.slTime k s.calNow
  let b := s.slBin k t + s.cf .sol k 0 16 12
  let u : Rat := ((t % 300 : Int) : Rat) / 300
  let v := ((1 - u) * ((nth x.bins (b % n) : Int) : Rat) + u * ((nth x.bins ((b + 1) % n) : Int) : Rat)) * pow2 x.exp
  wInt (satS 32 (rneQ (v * 65536)))

/-- R206: an enabled slot of the loop that applies in the zone's actual mode. -/
def State.solApplies (s : State) (l : Nat) (z : Zone) : Option Nat :=
  (List.range 64).find? (fun k =>
    s.slEn k && s.slLoop k == l && s.backup.calValid &&
    (s.slMode k == z.actualMode.code || (s.slMode k == 4 && z.actualMode == .provisional)))

/-- R206: what Solstice writes into a loop: the word of the slot that applies, else 0. -/
def State.ffOf (s : State) (l : Nat) : Word :=
  match s.zoneOfLoop l with
  | none => 0
  | some z =>
    match s.solApplies l (s.zone z) with
    | none => 0
    | some j => s.solFf j

/-- R206: write `FF_IN` of every loop that an enabled slot names, and of those that a slot has left since the last pass. -/
def solFeedForward (s : State) : State :=
  ((idx 64 s.slEn).map s.slLoop ++ s.rood.ffDue).foldl (fun a l => updLoop l (fun c => { c with ffIn := a.ffOf l }) a)
    { s with rood.ffDue := [] }

/-! ## Persistence (R208-R210) -/

/-- R208: addresses in bank 0. -/
def solBinsAt (k : Nat) : Nat := nvSolBase + 3024 * k
def solProbAt (z : Nat) : Nat := nvSolBase + 0x2F400 + 2016 * z
def solHeadAt (k : Nat) : Nat := nvSolBase + 0x3F000 + 48 * k
def solZoneHeadAt (z : Nat) : Nat := nvSolBase + 0x3FC00 + 32 * z

/-- R208: two bins in three bytes. -/
def packBins : List Int → List Byte
  | a :: b :: t =>
    let x := wrap 12 a
    let y := wrap 12 b
    le8 (x % 256) ++ le8 ((y % 16) * 16 + x / 256) ++ le8 (y / 16) ++ packBins t
  | [a] => le16 (wrap 12 a)
  | [] => []

/-- R208: bins from their bytes. -/
def unpackBins (b : List Byte) (n : Nat) : List Int :=
  (List.range n).map (fun i =>
    let o := 3 * (i / 2)
    if i % 2 = 0 then sext 12 (getB b o + (getB b (o + 1) % 16) * 256)
    else sext 12 (getB b (o + 1) / 16 + getB b (o + 2) * 16))

/-- R208: a slot header. -/
def solHeader (cfg : Word) (state : Nat) (exp : Int) (opt updates : Nat) : List Byte :=
  leW cfg ++ le8 state ++ le8 (wrap 8 exp) ++ zeros 2 ++ le32 opt ++ le32 updates ++ zeros 32

/-- R20: what a write of n bytes at a reads to keep its neighbours' bytes: the codewords that it does not fill. -/
def nvEdges (bank a n : Nat) (s : State) : State :=
  let s1 := if a % 32 = 0 then s else nvReport bank a 1 s
  if (a + n) % 32 = 0 || (a % 32 != 0 && a / 32 == (a + n) / 32) then s1 else nvReport bank (a + n) 1 s1

/-- R20: is a codeword that such a write does not fill uncorrectable. -/
def nvEdgeBad (m : Nvm) (bank a n : Nat) : Bool :=
  (a % 32 != 0 && nvBad m bank a 1) || ((a + n) % 32 != 0 && nvBad m bank (a + n) 1)

/-- R20, R209: codeword writes of the bytes a to a + n without a codeword that is shared with a neighbour and cannot be read: the neighbour's bytes could not be kept, so it is left as it stands (notes/assumptions/84.md). -/
def keepShared (m : Nvm) (a n : Nat) (cws : List CwWrite) : List CwWrite :=
  cws.filter (fun w => !(m.bad.contains (w.bank, w.cw) && (decide (32 * w.cw < a) || decide (a + n < 32 * w.cw + 32))))

/-- R209, R362: a slot is copied and its write queued. The bins have not changed since the last bin boundary, unless a command has written or discarded them (notes/assumptions/84.md). The copy is the operation in entry 4, the only one of it (R491). -/
def persistSlot (k : Nat) (s0 : State) : State :=
  let x := s0.slot k
  let n := s0.slBins k * 3 / 2
  let cfg := solCfgKey (s0.cw .sol k 0)
  let s := nvEdges 0 (solBinsAt k) n (nvReport 0 (solHeadAt k) 48 s0)
  let old := nvRead s.nvm 0 (solHeadAt k) 48
  let ok := getB old 4 == 2 && sext 8 (getB old 5) == x.exp && w32 (getW old 0) == cfg && !nvBad s.nvm 0 (solHeadAt k) 48
  let head (st : Nat) := keepShared s.nvm (solHeadAt k) 48
    (nvCws s.nvm 0 (solHeadAt k) (solHeader cfg st x.exp s0.backup.opt.toNat x.updates))
  let body := keepShared s.nvm (solBinsAt k) n (nvCws s.nvm 0 (solBinsAt k) (packBins (x.bins.take (s0.slBins k))))
  { s with nvm := nvSubmit s.nvm 4 { job := .solSlot k, cws := (if ok then [] else head 1) ++ body ++ head 2 } }

/-- R209: queue the write of a zone table. -/
def persistZone (z : Nat) (s : State) : State :=
  let x := s.zone z
  let head := le32 x.occHours ++ le8 2 ++ zeros 3 ++ le32 s.backup.opt.toNat ++ zeros 20
  let cws := nvCws s.nvm 0 (solProbAt z) (x.prob.flatMap le8) ++ nvCws s.nvm 0 (solZoneHeadAt z) head
  { s with nvm := nvSubmit s.nvm 4 { job := .solZone z, cws := cws } }

/-- R209: the next enabled slot of the rotation. -/
def persistNextSlot (s : State) : State :=
  match ((List.range 64).map (fun i => (s.rood.rotSlot + i) % 64)).find? (fun k => s.slEn k) with
  | none => s
  | some k =>
    let p := persistSlot k s
    { p with rood.rotSlot := (k + 1) % 64 }

/-- R209: the next zone table of the rotation. -/
def persistNextZone (s : State) : State :=
  let s1 := persistZone s.rood.rotZone s
  { s1 with rood.rotZone := (s.rood.rotZone + 1) % 32, rood.zoneDue := false }

/-- R209 SOLSTICE_PERSIST: every 60 s, the next enabled slot and the next zone table; a requester whose operation still runs waits for its next turn (R491). The zone table is copied and submitted once the slot's operation has verified or failed (R493). -/
def solPersist (s : State) : State :=
  if !s.alive || nvBusy s.nvm 4 || s.nvm.halted || s.bushel.closed then s
  else
    let s1 := persistNextSlot s
    if nvBusy s1.nvm 4 then { s1 with rood.zoneDue := true } else persistNextZone s1

/-- R209, R210, R493: a slot's operation has verified or failed; the zone table of the same turn follows. -/
def solSlotDone (k : Nat) (ok : Bool) (s : State) : State :=
  let s1 := if ok then s else solReport k s
  if s1.rood.zoneDue && !s1.bushel.closed then persistNextZone s1 else s1

def execSolsticePersist (s : State) : Host.Outcome State Fault Refusal := .next (solPersist s)

/-- R20, R210: load the slots and the zone tables at start-up. -/
def solBoot (s : State) : State :=
  let s1 := (List.range 64).foldl (fun a k =>
    let h := nvRead a.nvm 0 (solHeadAt k) 48
    let n := a.slBins k
    let len := n * 3 / 2
    let a := nvReport 0 (solHeadAt k) 48 a
    let head := getB h 4 == 2 && w32 (getW h 0) == solCfgKey (a.cw .sol k 0) && a.slEn k &&
      !nvBad a.nvm 0 (solHeadAt k) 48
    let a := if head then nvReport 0 (solBinsAt k) len a else a
    if head && !nvBad a.nvm 0 (solBinsAt k) len then
      updSlot k (fun _ => { bins := unpackBins (nvRead a.nvm 0 (solBinsAt k) len) n ++ List.replicate (2016 - n) 0,
                            exp := sext 8 (getB h 5), updates := getW h 0x0C }) a
    else
      let a1 := solDiscard k a
      if a.slEn k then solReport k a1 else a1) s
  (List.range 32).foldl (fun a z =>
    let h := nvRead a.nvm 0 (solZoneHeadAt z) 32
    let a := nvReport 0 (solZoneHeadAt z) 32 a
    let head := getB h 4 == 2 && !nvBad a.nvm 0 (solZoneHeadAt z) 32
    let a := if head then nvReport 0 (solProbAt z) 2016 a else a
    if head && !nvBad a.nvm 0 (solProbAt z) 2016 then
      updZone z (fun x => { x with prob := (nvRead a.nvm 0 (solProbAt z) 2016).map (·.toNat), occHours := getW h 0 }) a
    else a) s1

/-! ## Commands (R362) -/

def slotArg (m : Msg) : Bool := decide (getB m.payload 0 < 64) && padOk m 1 3

/-- R362: s8 exponent, `pad`, u16 n, the bins. -/
def State.solBinsBytes (s : State) (k : Nat) : List Byte :=
  let x := s.slot k
  le8 (wrap 8 x.exp) ++ zeros 1 ++ le16 (s.slBins k) ++ (x.bins.take (s.slBins k)).flatMap (fun v => le16 (wrap 16 v))

def execSolStatus (m : Msg) (s : State) : Host.Outcome State Fault Refusal :=
  .next (command { code := 0x2201, len := fun n => n == 4 } m
    (fun m s =>
      if !slotArg m then (s, .st stBadArg)
      else
        let k := getB m.payload 0
        let x := s.slot k
        (s, .ok (leW (s.cw .sol k 0) ++ le8 (b2n x.slSat + at' (b2n (s.slPaused k)) 1) ++ le8 (wrap 8 x.exp) ++
          zeros 2 ++ le32 x.updates))) s)

def execSolReadBins (m : Msg) (s : State) : Host.Outcome State Fault Refusal :=
  .next (command { code := 0x2202, len := fun n => n == 4 } m
    (fun m s =>
      if !slotArg m then (s, .st stBadArg)
      else (s, .ok (s.solBinsBytes (getB m.payload 0)))) s)

/-- R362: `SOL.WRITE_BINS`; the bin range is checked on the s16 values. -/
def execSolWriteBins (m : Msg) (s : State) : Host.Outcome State Fault Refusal :=
  .next (command { code := 0x2203, len := fun n => decide (8 ≤ n), fits := fun p => p.length == 8 + 2 * getH p 6 } m
    (fun m s =>
      let k := getB m.payload 0
      let n := getH m.payload 6
      let vs := (List.range n).map (fun i => sext 16 (getH m.payload (8 + 2 * i)))
      let e := sext 8 (getB m.payload 4)
      if !slotArg m ∨ !padOk m 5 1 ∨ n ≠ s.slBins k ∨ !vs.all fits12 ∨ e < -32 ∨ 31 < e then (s, .st stBadArg)
      else if !s.slPaused k then (s, .st stLocked)
      else
        (updSlot k (fun x => { x with bins := vs ++ List.replicate (2016 - n) 0, exp := e, hr := 0 }) s, .st stOk)) s)

def execSolDiscard (m : Msg) (s : State) : Host.Outcome State Fault Refusal :=
  .next (command { code := 0x2204, len := fun n => n == 4 } m
    (fun m s =>
      if !slotArg m then (s, .st stBadArg) else (solDiscard (getB m.payload 0) s, .st stOk)) s)

def execSolReadProb (m : Msg) (s : State) : Host.Outcome State Fault Refusal :=
  .next (command { code := 0x2205, len := fun n => n == 4 } m
    (fun m s =>
      if 31 < getB m.payload 0 ∨ !padOk m 1 3 then (s, .st stBadArg)
      else (s, .ok ((s.zone (getB m.payload 0)).prob.flatMap le8))) s)

/-! ## Loop commit (R151, R178) -/

/-- R54, R151, R178, R204 LOOP_COMMIT: at the start of PT s of the sample MC, first in the order of its PT; `late` says that the evaluation has not reached its commit step. -/
def loopCommit (l : Nat) (late : Bool) (s : State) : State :=
  match (s.loop l).eval with
  | none => s
  | some e =>
    inStage 1 (s.clk.pllLocked && s.chain.pt.toNat == e.slot && s.chain.mc == e.dyn.sampleMc)
      (fun s => if late then loopOverrun l s else solAccumulate l (loopCommitted l e s)) s

def execLoopCommit (l : Nat) (late : Bool) (s : State) : Host.Outcome State Fault Refusal := .next (loopCommit l late s)

end Sys2Proof.Machine
end

