-- ==== Sys2Proof/Machine/Profile.lean ====
section
/-! DEFINITION. Setpoint profiles (R197-R200). -/

namespace Sys2Proof.Machine

/-- Integer cube root, one bit at a time. -/
def icbrtGo (n : Nat) : Nat → Nat → Nat
  | 0, r => r
  | k + 1, r => let t := r + 2 ^ k; icbrtGo n k (if t * t * t ≤ n then t else r)

/-- The cube root of a non-negative rational to 2^-80, rounded down. -/
def cbrtQ (q : Rat) : Rat :=
  if q ≤ 0 then 0
  else
    let n := q.num.toNat * 2 ^ 240 / q.den
    (icbrtGo n (n.log2 / 3 + 1) 0 : Rat) / (2 ^ 80 : Nat)

/-- R199: limits of a profile, in units per h, h² and h³. -/
structure ProfLim where
  vmax : Rat := 0
  amax : Rat := 0
  jmax : Rat := 0
deriving DecidableEq, Repr, Inhabited

/-- R199: the limits of loop l in force; no loop, no profile. -/
def State.profLim (s : State) (l : Nat) : ProfLim :=
  if l = 0 then {}
  else
    { vmax := (s.cf .prof (l - 1) 0 31 16 : Rat) / 100, jmax := (s.cf .prof (l - 1) 0 15 0 : Rat) / 100,
      amax := (s.cf .prof (l - 1) 1 15 0 : Rat) / 100 }

/-- R197: the largest speed that can stop within d. -/
def vstop (p : ProfLim) (d : Rat) : Rat :=
  if d * p.jmax * p.jmax ≤ p.amax * p.amax * p.amax then cbrtQ (d * d * p.jmax)
  else
    let k := p.amax * p.amax / p.jmax
    (sqrtQ (k * k + 8 * p.amax * d) - k) / 2

/-- Minimum of two rationals. -/
def minQ (a b : Rat) : Rat := if a ≤ b then a else b

/-- R197: sign. -/
def signQ (x : Rat) : Rat := if x < 0 then -1 else if x = 0 then 0 else 1

/-- R197: one step toward a target, with f passes per second. -/
def profStep (p : ProfLim) (f : Nat) (target : Rat) (t : Traj) : Traj :=
  if p.vmax = 0 then { x := target }
  else
    let dt : Rat := 1 / ((3600 * f : Nat) : Rat)
    let e := target - t.x
    let vd := signQ e * minQ p.vmax (vstop p (absQ e))
    let dv := vd - t.v
    let ad := signQ dv * minQ p.amax (sqrtQ (2 * p.jmax * absQ dv))
    let j := clampQ ((ad - t.a) / dt) (-p.jmax) p.jmax
    let a := roundB64 (t.a + j * dt)
    let v := roundB64 (clampQ (t.v + a * dt) (-p.vmax) p.vmax)
    let x := roundB64 (t.x + v * dt)
    if absQ (target - x) * 65536 ≤ 1 ∧ absQ v ≤ p.amax * dt ∧ absQ a ≤ p.jmax * dt then { x := target }
    else { x := x, v := v, a := a }

/-- R183, R200: one pass of one trajectory: with no target it holds its position at rest; the first target is its start. -/
def trajPass (p : ProfLim) (f : Nat) (frozen : Bool) (target : Option Rat) (t : Option Traj) : Option Traj :=
  match target, t with
  | none, none => none
  | none, some t => some { x := t.x }
  | some g, none => some { x := g }
  | some g, some t => if frozen then some t else some (profStep p f g t)

end Sys2Proof.Machine
end

