-- ==== Sys2Proof/Machine/Zone.lean ====
section
/-! DEFINITION. Zone logic: the pass, modes, changeover, dew guard, speculation, occupancy and the zone commands (R181-R196, R211-R219, R361). -/

namespace Sys2Proof.Machine

/-! ## Inputs -/

/-- R181, R187, R196: a published input value that is valid for control, in engineering units: one that is no reserved value of R97. R165's other clauses name fields of a loop, `SRC_CLASS` and `MAX_AGE`, which a zone's inputs do not have: they are not applied (DESIGN CHOICE, notes/assumptions/99.md). -/
def State.inputVal (s : State) (i : Nat) : Option Rat :=
  let v := (nth s.sens.results i).value
  if validQ v then some (q16 v) else none

/-- R345 `T_SRC`, `H_SRC` with `H_EN`. -/
def State.zoneT (s : State) (z : Nat) : Option Rat := s.inputVal (s.zf z 10 6 0)
def State.zoneH (s : State) (z : Nat) : Option Rat := if s.zb z 11 15 then s.inputVal (s.zf z 11 14 8) else none

/-- R184, R533: the presence input of the zone can be used. -/
def State.presOk (s : State) (z : Nat) : Bool :=
  let p := nth s.sens.pres (s.zf z 11 4 0)
  s.zb z 0 3 && p.inUse && p.st != .fault && !p.warming

/-- R183: a mode by its code. -/
def modeOf (n : Nat) : ZMode :=
  match n with
  | 1 => .protect | 2 => .unocc | 3 => .standby | 4 => .occ | 5 => .provisional | 6 => .manual | 7 => .fault
  | _ => .off

/-- R191, R192: the scheduled mode of a zone. -/
def State.schedModeOf (s : State) (z : Nat) : ZMode :=
  let fb := s.zf z 0 18 16
  if s.backup.calValid && s.zb z 0 19 then
    modeOf ((schedMode (s.cfg.inForce.inst .sched (s.zf z 0 23 20)) (minuteOfWeek s.schedTime)).getD fb)
  else modeOf fb

/-- R184: O_c. -/
def State.occOf (s : State) (z : Nat) (sm : ZMode) : Bool :=
  if s.presOk z then (nth s.sens.pres (s.zf z 11 4 0)).occupied else sm == .occ

/-- R185: manual mode is active; it ends at the pass at which its duration has counted out (R186). -/
def Zone.manualActive (z : Zone) : Bool :=
  match z.manual with
  | none => false
  | some m => m.left != some 0

/-- R185: the committed mode. -/
def State.resolveMode (s : State) (z : Nat) (x : Zone) (sm : ZMode) (occ : Bool) : ZMode :=
  if !s.zb z 0 0 || x.hostOff then .off
  else if x.faultCond then .fault
  else if x.windowOpen then .protect
  else if x.manualActive then .manual
  else if occ && (sm == .unocc || sm == .standby) then .occ
  else if !occ && sm == .occ && s.presOk z then .standby
  else sm

/-! ## Watched conditions (R187, R193, R194, R216) -/

/-- The MC since which a condition has held without a break. -/
def track (mc : Word) (cond : Bool) (since : Option Word) : Option Word :=
  if cond then some (since.getD mc) else none

/-- A watched condition has held for a time in MC. -/
def State.held (s : State) (since : Option Word) (n : Nat) : Bool :=
  match since with
  | none => false
  | some a => decide (n ≤ s.mcSince a)

/-- R193: the contact reads open. -/
def State.contactOpen (s : State) (z : Nat) : Bool :=
  s.gpio.level.getD (s.zf z 0 13 10) false == s.zb z 0 15

/-- R194, R212: a committed position. -/
def Zone.heatSp (z : Zone) : Option Rat := ((nth z.committed 0)).map (·.x)
def Zone.coolSp (z : Zone) : Option Rat := ((nth z.committed 1)).map (·.x)

/-- R194: the condition that would change the changeover state. -/
def State.coCond (s : State) (z : Nat) (x : Zone) : Bool :=
  match s.zf z 0 9 8 with
  | 0 =>
    (match s.zoneT z, x.cool, x.heatSp, x.coolSp with
     | some t, true, some h, _ => decide (t < h)
     | some t, false, _, some c => decide (c < t)
     | _, _, _, _ => false)
  | 1 => s.gpio.level.getD (s.zf z 0 7 4) false != x.cool
  | _ => false

/-- R216: how far the zone temperature lies outside its committed setpoints; none while either is missing. -/
def State.comfortDev (s : State) (z : Nat) (x : Zone) : Option Rat :=
  match s.zoneT z, x.heatSp, x.coolSp with
  | some t, some h, some c => some (if t < h then h - t else if c < t then t - c else 0)
  | _, _, _ => none

/-- R216: the temperature is where it must stay for the comfort alarm to change. -/
def State.comfCond (s : State) (z : Nat) (x : Zone) : Bool :=
  match s.comfortDev z x with
  | none => false
  | some d =>
    let band : Rat := (s.zf z 9 15 8 : Rat) / 10
    if x.comfort then decide (d ≤ band) else decide (band < d)

/-- R186-R194, R216: the conditions as this pass finds them. The changeover condition is watched in the controlled modes alone, so that in OFF and FAULT the state stays and its delay counts from control on; and `window_open` clears at once where `WIN_EN` is 0 (DESIGN CHOICES, notes/assumptions/99.md). -/
def State.watch (s : State) (z : Nat) (x : Zone) : Zone :=
  let mc := s.chain.mc
  let tOk := (s.zoneT z).isSome
  { x with winSince := track mc (s.zb z 0 14 && s.contactOpen z != x.windowOpen) x.winSince,
           fltSince := track mc (!tOk) x.fltSince, okSince := track mc tOk x.okSince,
           coSince := track mc (x.cm.controlled && s.coCond z x) x.coSince,
           comfSince := track mc (s.comfCond z x) x.comfSince,
           windowOpen := x.windowOpen && s.zb z 0 14 }

/-- R187: the zone's heating or cooling loop is in FAULT. -/
def State.zoneLoopFault (s : State) (z : Nat) : Bool :=
  [s.zf z 10 31 24, s.zf z 10 23 16].any (fun l => l != 0 && (s.loop l).dyn.st == .fault)

/-! ## Loops of a zone (R183, R187, R188, R194) -/

/-- R188: post a close for a loop whose host-open latch is clear. -/
def zoneClose (l : Nat) (s : State) : State :=
  let c := s.loop l
  if l = 0 ∨ c.hostOpen ∨ c.dyn.st ≠ .opened ∨ c.closePend ∨ c.opening ∨ c.holdForced then s else postClose l s

/-- R171, R183: open a loop naming a value; a loop that is not evaluated is left alone. -/
def zoneOpen (l v : Nat) (s : State) : State :=
  let c := s.loop l
  if l = 0 ∨ c.dyn.st = .disabled ∨ c.dyn.st = .fault then s else postOpen l (some v) s

/-- R183: open a loop naming its `OUT_SAFE`, or its `OUT_MIN`. -/
def openSafe (l : Nat) (s : State) : State := zoneOpen l (s.lf l 3 31 16) s
def openMin (l : Nat) (s : State) : State := zoneOpen l (s.lf l 2 15 0) s

/-- R183: the active loop and the other one. -/
def State.activeLoop (s : State) (z : Nat) (cool : Bool) : Nat := if cool then s.zf z 10 23 16 else s.zf z 10 31 24
def State.otherLoop (s : State) (z : Nat) (cool : Bool) : Nat := if cool then s.zf z 10 31 24 else s.zf z 10 23 16

/-- R183: a loop that a pass finds closed, or about to close. -/
def State.loopCloses (s : State) (l : Nat) : Bool :=
  let c := s.loop l
  (c.dyn.st == .closed || c.closePend) && !c.opening

/-- R183, R187, R194: the loops that the mode has open are opened on entry and on changeover, and whenever else a pass finds one closed; the controlled loops are closed. -/
def zoneLoopOps (z : Nat) (old new : Zone) (s : State) : State :=
  if !new.cm.controlled then
    let entry := new.cm != old.cm || old.first
    (s.zoneLoops z).foldl (fun a l => if entry || a.loopCloses l then openSafe l a else a) s
  else
    let other := s.otherLoop z new.cool
    let entry := old.first || !old.cm.controlled || old.cool != new.cool
    let s1 := if entry || s.loopCloses other then openMin other s else s
    zoneClose (s.zf z 10 15 8) (zoneClose (s1.activeLoop z new.cool) s1)

/-- R183: a changeover while controlled: the newly active loop gets a posted close and the other is opened at its `OUT_MIN`. -/
def changeoverOps (z : Nat) (cool : Bool) (s : State) : State :=
  zoneClose (s.activeLoop z cool) (openMin (s.otherLoop z cool) s)

/-! ## Dew guard (R195, R196) -/

/-- R195: the dew point by the Magnus formula in IEEE 754 binary64: each operation of the rule, in its order, rounded to nearest even (notes/assumptions/85.md). -/
def dewPoint (t rh : Rat) : Rat :=
  let a := roundB64 (1762 / 100)
  let b := roundB64 (24312 / 100)
  let r := roundB64 (clampQ rh 1 100 / 100)
  let g := roundB64 (roundB64 (lnQ r) + roundB64 (roundB64 (a * t) / roundB64 (b + t)))
  roundB64 (roundB64 (b * g) / roundB64 (a - g))

/-- R195: the share of the way from `OUT_MIN` to `OUT_MAX` that the guard allows, in IEEE 754 binary64: 1 from `DEW_RAMP` on, 0 up to m = 0. -/
def dewRatio (ts td margin ramp : Rat) : Rat :=
  let m := roundB64 (roundB64 (ts - td) - roundB64 margin)
  let r := roundB64 ramp
  if r ≤ m then 1 else if m ≤ 0 then 0 else roundB64 (m / r)

/-- R195, R196: the share in force for a zone: none while `DEW_EN` is 0; with `DEW_INVALID`. -/
def State.dewOf (s : State) (z : Nat) : Option (Rat × Bool) :=
  if !s.zb z 0 1 then none
  else
    match s.zoneT z, s.zoneH z, s.inputVal (s.zf z 7 6 0) with
    | some t, some rh, some ts =>
      some (dewRatio ts (dewPoint t rh) ((s.zf z 7 23 16 : Rat) / 10) ((s.zf z 7 15 8 : Rat) / 10), false)
    | _, _, _ => some (0, true)

/-- R195: write the `OUT_MAX` in force of the cooling loop (`State.outMax`). -/
def dewWrite (z : Nat) (s : State) : State :=
  let l := s.zf z 10 23 16
  match s.dewOf z with
  | none => updZone z (fun x => { x with dewActive := false, dewInvalid := false }) s
  | some (q, bad) =>
    let s1 := if l = 0 then s else updLoop l (fun x => { x with dewShare := some q }) s
    updZone z (fun x => { x with dewActive := l != 0 && decide (s1.outMax l < s.lf l 2 31 16), dewInvalid := bad }) s1

/-! ## Targets and speculation (R183, R212, R213) -/

/-- A setpoint word's halves in °C. -/
def spPair (w : Word) : Rat × Rat := (roundB64 ((sfld w 15 0 : Rat) / 100), roundB64 ((sfld w 31 16 : Rat) / 100))

/-- R183: the targets of a mode: heat, cool, humidity. -/
def State.targets (s : State) (z : Nat) (x : Zone) (m : ZMode) : List (Option Rat) :=
  let hum := roundB64 ((s.zf z 6 15 0 : Rat) / 100)
  let of (p : Rat × Rat) : List (Option Rat) := [some p.1, some p.2, some hum]
  match m with
  | .off | .fault => [none, none, none]
  | .protect => of (spPair (s.cw .zone z 5))
  | .unocc => of (spPair (s.cw .zone z 4))
  | .standby => of (spPair (s.cw .zone z 3))
  | .occ | .provisional => of (spPair (s.cw .zone z 2))
  | .manual =>
    match x.manual with
    | some p => of (roundB64 ((p.heat : Rat) / 100), roundB64 ((p.cool : Rat) / 100))
    | none => [none, none, none]

/-- R213: now + `HORIZON`, as a calendar count, and the probability of its weekly local bin. -/
def State.lookAhead (s : State) (z : Nat) : Int := s.calNow + 300 * (s.zf z 8 23 16 : Int)
def State.lookProb (s : State) (z : Nat) (x : Zone) : Nat := nth x.prob (weekBin (s.localAt (s.lookAhead z)))

def bump (n : Nat) : Nat := (n + 1) % 65536

/-- R213: at rest and equal. -/
def sameAtRest (a b : Option Traj) : Bool :=
  a == b && (match a with | none => true | some t => t.v == 0 && t.a == 0)

/-- R213: the speculation state after mode resolution; SPEC_CONFIRM_EXPIRY is its own step. -/
def State.specUpdate (s : State) (z : Nat) (x : Zone) : Zone :=
  match x.spec with
  | .idle =>
    if s.zb z 0 2 && s.backup.calValid && s.sup.mode != .hold && (x.cm == .unocc || x.cm == .standby) &&
       decide (s.zf z 8 31 24 ≤ s.lookProb z x) then
      let t := s.lookAhead z
      { x with spec := .provisional, tPred := (t - s.localAt t % 300).toNat, specEnter := bump x.specEnter }
    else x
  | .provisional =>
    if x.cm = .occ then { x with committed := x.actual, spec := .suppressed, specCommit := bump x.specCommit }
    else if x.cm ≠ .unocc ∧ x.cm ≠ .standby then { x with spec := .rollback, specCancel := bump x.specCancel }
    else x
  | .rollback =>
    if x.cm = .occ then { x with committed := x.actual, spec := .suppressed }
    else if (List.zipWith sameAtRest x.committed x.actual).all id then { x with spec := .suppressed }
    else x
  | .suppressed =>
    if s.backup.calValid && decide (s.lookProb z x < s.zf z 8 31 24) then { x with spec := .idle } else x

/-- R212: speculation runs two trajectories. -/
def Zone.split (x : Zone) : Bool := x.spec == .provisional || x.spec == .rollback

/-- R197, R212: step the trajectories of a zone. -/
def State.stepTrajs (s : State) (z : Nat) (x : Zone) : Zone :=
  let f := s.mcPerSec
  let frozen := s.sup.mode == .hold
  let ls := s.zoneLoops z
  let go (ts : List (Option Rat)) (us : List (Option Traj)) : List (Option Traj) :=
    (List.range 3).map (fun i => trajPass (s.profLim (nth ls i)) f frozen (nth ts i) (nth us i))
  let c := go (s.targets z x x.cm) x.committed
  let a := if x.split then
      go (s.targets z x (if x.spec = .provisional then .provisional else x.cm)) x.actual
    else c
  { x with committed := c, actual := a }

/-- R155, R181 step 10: write `SP_IN` and `PROV` of the zone's loops. -/
def zoneWrites (z : Nat) (s : State) : State :=
  let x := s.zone z
  let ls := s.zoneLoops z
  (List.range 3).foldl (fun a i =>
    let l := nth ls i
    match nth x.actual i with
    | none => a
    | some t =>
      if l = 0 then a
      else updLoop l (fun c => { c with spIn := t.word, provIn := x.split && nth x.committed i != some t }) a) s

/-! ## The pass (R181, R219) -/

/-- R219: a report of a zone for each of the six changes. -/
def zoneNotes (z : Nat) (old new : Zone) (s : State) : State :=
  let n := b2n (old.cm != new.cm) + b2n (old.occ != new.occ) + b2n (old.cool != new.cool) +
    b2n (old.windowOpen != new.windowOpen) + b2n (old.dewActive != new.dewActive) +
    b2n (old.dewInvalid != new.dewInvalid)
  (List.range n).foldl (fun a _ => report z 3 1 0 a) s

/-- R187, R219: the zone enters or leaves its FAULT state. -/
def setZoneFault (z : Nat) (v : Bool) (s : State) : State :=
  if (s.zone z).faultCond = v then s
  else (if v then report z 1 5 0 else report z 2 1 0) (updZone z (fun x => { x with faultCond := v }) s)

/-- R186: one pass of the manual duration. -/
def Zone.countManual (x : Zone) : Zone :=
  { x with manual := x.manual.map (fun m => { m with left := m.left.map (fun n => n - 1) }) }

/-- R25, R211: one pass of the occupancy counts; in Hold the probabilities do not learn. -/
def State.countOcc (s : State) (x : Zone) : Zone :=
  let per := 3600 * s.mcPerSec
  let sub := x.occSub + 1024 * b2n x.occ
  { x with occSub := sub % per, occHours := (x.occHours + sub / per) % 2 ^ 32,
           binPasses := x.binPasses + b2n (s.sup.mode != .hold), binOcc := x.binOcc + b2n (x.occ && s.sup.mode != .hold),
           binSkip := x.binSkip || x.cm == .off || x.cm == .fault || x.cm == .manual ||
             !s.backup.calValid || s.repeatAt s.stdNow }

/-- R194: the changeover state that a pass starts from. -/
def State.coStart (s : State) (z : Nat) (old : Zone) (cm : ZMode) : Bool :=
  let host := s.zf z 0 9 8 == 2
  if cm.controlled then
    if host then old.coHost else if !old.cm.controlled || old.first then false else old.cool
  else old.cool

/-- R181: the pass of one zone. -/
def zonePass (z : Nat) (s0 : State) : State :=
  let old := s0.zone z
  let s := if s0.zoneLoopFault z then setZoneFault z true s0 else s0
  let x0 := s.watch z (s.zone z).countManual
  let sm := s.schedModeOf z
  let occ := s.occOf z sm
  let cm := s.resolveMode z x0 sm occ
  let x1 := { x0 with sm := sm, occ := occ, calInvalid := !s.backup.calValid, cm := cm, cool := s.coStart z old cm }
  let s2 := dewWrite z (updZone z (fun _ => x1) s)
  let x2 := s2.countOcc (s2.stepTrajs z (s2.specUpdate z (s2.zone z)))
  let s3 := updZone z (fun _ => { x2 with first := false }) s2
  zoneNotes z old x2 (zoneLoopOps z old x2 (zoneWrites z s3))

/-- R34, R189, R191, R199, R217: the live words of zone logic take effect at the pass. -/
def zoneLive (s : State) : State :=
  let cp (sec : Sec) (img : Image) : Image := img.set sec.index (s.cfg.committed.sec sec)
  { s with cfg.inForce := cp .zone (cp .prof (cp .sched (cp .time s.cfg.inForce))) }

/-- R186: the delays restart at the first pass after a restart. -/
def restartDelays (s : State) : State :=
  if s.rood.delaysReset then
    { s with rood.delaysReset := false,
             rood.zones := s.rood.zones.map (fun x =>
               { x with winSince := none, fltSince := none, okSince := none, coSince := none, comfSince := none }) }
  else s

/-- R181: a zone-logic pass is due in this PT and has not run. -/
def State.passDue (s : State) : Bool :=
  s.released && s.mgt.appRunning && s.clk.pllLocked && s.chain.pt == 0 && s.rood.passMc != some s.chain.mc && s.inOrder 7

/-- R54, R181 ZONE_LOGIC_PASS: at PT 0 of every MC, seventh in the order of its PT. -/
def zoneLogicPass (s0 : State) : State :=
  if !s0.passDue then s0
  else
    let s := atStage 7 s0
    let s1 := restartDelays (zoneLive s)
    let s2 := { s1 with rood.passMc := some s.chain.mc,
                        rood.loops := s1.rood.loops.map (fun c => { c with dewShare := none }) }
    solFeedForward ((List.range 32).foldl (fun a z => zonePass z a) s2)

def execZoneLogicPass (s : State) : Host.Outcome State Fault Refusal := .next (zoneLogicPass s)

/-! ## Expiries -/

/-- R17, R22, R186: zone logic runs: the application core runs from the system PLL and has made its first pass since a restart. -/
def State.zoneLogic (s : State) : Bool := s.released && s.mgt.appRunning && s.clk.pllLocked && !s.rood.delaysReset

/-- R213 SPEC_CONFIRM_EXPIRY: the deadline is one of the calendar, whatever local time does meanwhile. -/
def specConfirm (z : Nat) (s : State) : State :=
  let x := s.zone z
  if s.zoneLogic ∧ x.spec = .provisional ∧ (x.cm = .unocc ∨ x.cm = .standby) ∧ s.backup.calValid ∧
     (x.tPred : Int) + 300 * (s.zf z 8 15 8 : Int) ≤ s.calNow then
    let b := weekBin (s.localAt x.tPred)
    let p := nth x.prob b
    report 111 4 1 z
      (updZone z (fun y => { y with spec := .rollback, specRollback := bump y.specRollback,
                                    prob := y.prob.set b (p - (rne p (2 ^ s.zf z 8 3 0)).toNat) }) s)
  else s

def execSpecConfirmExpiry (z : Nat) (s : State) : Host.Outcome State Fault Refusal := .next (specConfirm z s)

/-- R194 CHANGEOVER_DELAY_EXPIRY. -/
def changeoverExpiry (z : Nat) (s : State) : State :=
  let x := s.zone z
  let n := if s.zf z 0 9 8 = 0 then s.secMc (10 * s.zf z 1 31 24) else s.secMc 10
  if s.zoneLogic && x.cm.controlled && s.zf z 0 9 8 != 2 && s.held x.coSince n then
    report z 3 1 0 (changeoverOps z (!x.cool) (updZone z (fun y => { y with cool := !y.cool, coSince := none }) s))
  else s

def execChangeoverDelayExpiry (z : Nat) (s : State) : Host.Outcome State Fault Refusal := .next (changeoverExpiry z s)

/-- R193 WINDOW_DELAY_EXPIRY. -/
def windowExpiry (z : Nat) (s : State) : State :=
  let x := s.zone z
  let n := if x.windowOpen then s.secMc 10 else s.secMc (s.zf z 1 23 16)
  if s.zoneLogic && s.zb z 0 14 && s.held x.winSince n then
    report z 3 1 0 (updZone z (fun y => { y with windowOpen := !y.windowOpen, winSince := none }) s)
  else s

def execWindowDelayExpiry (z : Nat) (s : State) : Host.Outcome State Fault Refusal := .next (windowExpiry z s)

/-- R187 FAULT_DELAY_EXPIRY. -/
def faultExpiry (z : Nat) (s : State) : State :=
  let x := s.zone z
  if !s.zoneLogic then s
  else if !x.faultCond && s.held x.fltSince (s.secMc (s.zf z 1 15 8)) then setZoneFault z true s
  else if x.faultCond && !s.zoneLoopFault z && s.held x.okSince (s.secMc 10) then setZoneFault z false s
  else s

def execFaultDelayExpiry (z : Nat) (s : State) : Host.Outcome State Fault Refusal := .next (faultExpiry z s)

/-- R216, R384 COMFORT_DELAY_EXPIRY: the alarm is raised in OCC alone. -/
def comfortExpiry (z : Nat) (s : State) : State :=
  let x := s.zone z
  let n := if x.comfort then s.secMc 300 else s.secMc (60 * s.zf z 9 7 0)
  if s.zoneLogic && (x.comfort || x.cm == .occ) && s.held x.comfSince n then
    alarmsEval ((if x.comfort then report z 2 1 0 else report z 1 3 0)
      (updZone z (fun y => { y with comfort := !y.comfort, comfSince := none }) s))
  else s

def execComfortDelayExpiry (z : Nat) (s : State) : Host.Outcome State Fault Refusal := .next (comfortExpiry z s)

/-- R186 MANUAL_EXPIRY: manual mode ends as if it had been cancelled. -/
def execManualExpiry (z : Nat) (s : State) : Host.Outcome State Fault Refusal :=
  .next (if s.zoneLogic then updZone z (fun x => if x.manualActive then x else { x with manual := none }) s else s)

/-- R22, R25, R182, R211 OCC_BIN_END: the weekly local bin that ends at this second of the calendar; nothing is learned in Hold. -/
def occBinEnd (z : Nat) (s : State) : State :=
  let x := s.zone z
  let b := weekBin (s.localAt (s.calNow - 1))
  let p : Int := ((nth x.prob b : Nat) : Int)
  let target : Int := if x.binPasses ≤ 2 * x.binOcc then 255 else 0
  let q := p + (let d := target - p; rne d (2 ^ s.zf z 8 7 4))
  let takes := s.backup.calValid && s.sup.mode != .hold && !x.binSkip && decide (0 < x.binPasses) && !s.repeatAt (s.stdAt (s.calNow - 1))
  updZone z (fun y => { y with binPasses := 0, binOcc := 0, binSkip := false,
                               prob := if takes then y.prob.set b q.toNat else y.prob }) s

def execOccBinEnd (z : Nat) (s : State) : Host.Outcome State Fault Refusal := .next (onPll s (occBinEnd z s))

/-! ## Restart of the application core (R186, R200, R214) -/

/-- R200, R214: the profiles and speculation of a zone after a restart. -/
def zoneRestart (z : Nat) (s : State) : State :=
  let x := s.zone z
  let ls := s.zoneLoops z
  let held := (List.range 3).map (fun i =>
    if nth ls i = 0 then none else some ({ x := q16 (s.loop (nth ls i)).spIn } : Traj))
  if x.split then
    let ts := s.targets z x x.cm
    let cs := (List.range 3).map (fun i => match nth ts i with
      | some g => some ({ x := g } : Traj)
      | none => (nth x.committed i).map (fun t => ({ x := t.x } : Traj)))
    updZone z (fun y => { y with spec := .rollback, specCancel := bump y.specCancel, actual := held, committed := cs }) s
  else updZone z (fun y => { y with actual := held, committed := held }) s

/-- R186: zone logic resumes after a restart. -/
def zonesRestart (s : State) : State :=
  let s1 := (List.range 32).foldl (fun a z => zoneRestart z a) s
  { s1 with rood.delaysReset := true }

/-! ## Status and commands (R218, R361) -/

def zoneArg (m : Msg) : Bool := decide (getB m.payload 0 < 32)

def execZoneStatus (m : Msg) (s : State) : Host.Outcome State Fault Refusal :=
  .next (command { code := 0x2101, len := fun n => n == 4 } m
    (fun m s =>
      if !zoneArg m ∨ !padOk m 1 3 then (s, .st stBadArg)
      else
        let z := getB m.payload 0
        let x := s.zone z
        (s, .ok (leW (s.zoneStatus z) ++ x.committed.flatMap (fun t => leW (trajWord t)) ++ le32 x.occHours))) s)

def execZoneProvStatus (m : Msg) (s : State) : Host.Outcome State Fault Refusal :=
  .next (command { code := 0x2102, len := fun n => n == 4 } m
    (fun m s =>
      if !zoneArg m ∨ !padOk m 1 3 then (s, .st stBadArg)
      else
        let x := s.zone (getB m.payload 0)
        (s, .ok (le8 x.actualMode.code ++ le8 x.spec.code ++ le16 (minuteOfWeek (s.localAt x.tPred)) ++
          x.actual.flatMap (fun t => leW (trajWord t)) ++
          le16 x.specEnter ++ le16 x.specCommit ++ le16 x.specRollback ++ le16 x.specCancel))) s)

def execZoneOff (m : Msg) (s : State) : Host.Outcome State Fault Refusal :=
  .next (command { code := 0x2104, len := fun n => n == 4 } m
    (fun m s =>
      if !zoneArg m ∨ 1 < getB m.payload 1 ∨ !padOk m 2 2 then (s, .st stBadArg)
      else (updZone (getB m.payload 0) (fun x => { x with hostOff := getB m.payload 1 == 1 }) s, .st stOk)) s)

/-- R186, R361: start manual mode; its duration counts from the pass that follows. -/
def startManual (z minutes : Nat) (heat cool : Int) (s : State) : State :=
  let left := if minutes = 0 then none else some (s.secMc (60 * minutes) + 1)
  updZone z (fun x => { x with manual := some { heat := heat, cool := cool, left := left } }) s

def execZoneManual (m : Msg) (s : State) : Host.Outcome State Fault Refusal :=
  .next (command { code := 0x2105, len := fun n => n == 8 } m
    (fun m s =>
      let z := getB m.payload 0
      let heat := getS m.payload 4 2
      let cool := getS m.payload 6 2
      if !zoneArg m ∨ 1 < getB m.payload 1 then (s, .st stBadArg)
      else if getB m.payload 1 = 0 then (updZone z (fun x => { x with manual := none }) s, .st stOk)
      else if cool - heat < 10 * (s.zf z 1 7 0 : Int) then (s, .st stBadArg)
      else (startManual z (getH m.payload 2) heat cool s, .st stOk)) s)

def execZoneChangeover (m : Msg) (s : State) : Host.Outcome State Fault Refusal :=
  .next (command { code := 0x2106, len := fun n => n == 4 } m
    (fun m s =>
      let z := getB m.payload 0
      if !zoneArg m ∨ 1 < getB m.payload 1 ∨ !padOk m 2 2 ∨ s.zf z 0 9 8 ≠ 2 then (s, .st stBadArg)
      else (updZone z (fun x => { x with coHost := getB m.payload 1 == 1 }) s, .st stOk)) s)

end Sys2Proof.Machine
end

