-- ==== Sys2Proof/Machine/Act.lean ====
section
/-! DEFINITION. The actuator drive: sources, conditions, modes, gates, allocation, pull-in scheduling, FLOAT, faults and boost (R220-R253). -/

namespace Sys2Proof.Machine

/-! ## Access -/

def updCh (n : Nat) (f : ActCh → ActCh) (s : State) : State := { s with act.ch := upd s.act.ch n f }
def updPair (k : Nat) (f : ActPair → ActPair) (s : State) : State := { s with act.pairs := upd s.act.pairs k f }

/-- R249: currents in mA. -/
def State.iPullMa (s : State) (n : Nat) : Nat := 5 * s.af n 1 31 22
def State.iHoldMa (s : State) (n : Nat) : Nat := 5 * s.af n 1 21 12
def State.iMaxMa (s : State) (n : Nat) : Nat := 5 * s.af n 1 11 2

/-- The channel carries current or may (R226). -/
def ActCh.conducting (c : ActCh) : Bool := c.ph != .off

def ActCh.inPeak (c : ActCh) : Bool := match c.ph with | .peak _ => true | _ => false

/-- R225, R250: peaks run from VACT without being degraded. -/
def State.bypassed (s : State) : Bool := s.act.bypass || !s.cb .actDev 0 1 0

/-- R253: a record of a channel and the event of its pair. -/
def actReport (typ sev n : Nat) (s : State) : State := report (32 + n / 2) typ sev n s

/-! ## Steps 1 and 2: source and conditions (R228, R237, R240) -/

/-- R228: the request. -/
def State.actRequest (s : State) (n : Nat) : Nat :=
  match s.af n 0 28 27 with
  | 1 => (s.loop (s.af n 0 26 20)).dyn.out
  | 2 => if (s.zone (s.af n 0 12 8)).cool then (s.loop (s.af n 0 19 13)).dyn.out else (s.loop (s.af n 0 26 20)).dyn.out
  | _ => (s.ach n).req

/-- R237: a fault is latched on the channel or `PAIR_OFF` is set; either channel of a FLOAT pair counts for both. -/
def State.actFault (s : State) (n : Nat) : Bool :=
  let c := s.ach n
  let bad := c.shortSup || c.shortGnd || (nth s.act.pairs (n / 2)).off
  if s.floatPair (n / 2) then
    let d := s.ach (n ^^^ 1)
    bad || d.shortSup || d.shortGnd
  else bad

/-- R237 step 2: the condition in force on a channel; on the way to Shutdown's reset it is off as after the power-fail warning (R450). -/
def State.actCond (s : State) (n : Nat) : Nat :=
  if s.actFault n then 4
  else if s.sup.safePfw || s.sup.shutAt.isSome then 3
  else if s.safe then 2
  else if s.sup.mode = .hold then 1
  else 0

/-- R237 step 2: what is wanted; none asks for off. -/
def State.actWant (s : State) (n : Nat) : Option Nat :=
  match s.actCond n with
  | 0 => some (s.actRequest n)
  | 1 | 2 => if s.cb .act n 0 5 then some (s.af n 5 15 0) else none
  | _ => none

/-! ## Step 3: mode (R229-R234) -/

/-- R229: does the mode ask to conduct. FLOAT is decided for its pair (R235). -/
def State.actAsks (s : State) (n : Nat) : Bool :=
  match s.actWant n with
  | none => false
  | some r =>
    match s.actMode n with
    | 1 => r != 0 && s.iMaxMa n != 0
    | 2 => decide (0x8000 ≤ r)
    | 3 => (s.ach n).thOn
    | _ => false

/-! ## Turning off (R226, R232) -/

/-- R220, R243: the pull-in switch of a channel's pair opens at a time. -/
def releasePullIn (n at_ : Nat) (s : State) : State :=
  updPair (n / 2) (fun p => if p.boost = some n then { p with boost := none, relAt := some at_ } else p) s

/-- R226, R246: the channel turns off; its decay runs, through the recovery path, or through the freewheel switch while `BST_OV` holds. -/
def turnOff (n : Nat) (s : State) : State :=
  let c := s.ach n
  let s1 := if c.inPeak then releasePullIn n s.chain.now s else s
  match c.ph with
  | .off => s1
  | .decay => s1
  | _ => updCh n (fun x => { x with ph := .decay, toHold := false, offReady := false, slowDecay := s.act.bstOv, flRevOk := false }) s1

/-- R232, R233: the peak ends and the hold phase follows; the current falls to `I_HOLD` by fast decay, until a PWM period finds it there (`heldCurrent`). -/
def peakToHold (n at_ : Nat) (s : State) : State :=
  updCh n (fun x => { x with ph := .on, toHold := decide (s.iHoldMa n < x.iPull) }) (releasePullIn n at_ s)

/-- R232: the current measured over a PWM period has fallen to `I_HOLD`, and the low-side switch regulates it again. -/
def heldCurrent (n : Nat) (s : State) : State :=
  updCh n (fun c => { c with toHold := c.toHold && decide (s.iHoldMa n < c.iMeas) }) s

/-- R233, R240: a running peak ends at once where a stricter condition than the one before, `was`, has come into force, and at `CH_OT`: the channel turns off or goes to its safe value. -/
def peakStops (n was : Nat) (s : State) : State :=
  let c := s.ach n
  if c.inPeak && (decide (was < s.actCond n) || c.chOt) then
    (if s.actAsks n && !c.chOt then peakToHold n s.chain.now s else turnOff n s)
  else s

/-! ## Gates (R237 step 5, R238, R241) -/

/-- R241: the fixed load a channel is while it is on, in mA. -/
def State.fixedLoad (s : State) (n : Nat) : Nat :=
  let c := s.ach n
  let on := c.ph == .on || c.inPeak
  if !on then 0
  else if s.actMode n = 2 then s.iHoldMa n
  else if s.floatPair (n / 2) then s.iMaxMa (n - n % 2)
  else 0

/-- R241: the sums of the fixed loads of a bank and of the device. -/
def State.bankFixed (s : State) (b : Nat) : Nat := ((List.range 4).map (fun i => s.fixedLoad (4 * b + i))).sum
def State.devFixed (s : State) : Nat := ((List.range 32).map s.fixedLoad).sum
def State.bankLim (s : State) : Nat := 25 * s.cf .actDev 0 0 23 16
def State.devLim (s : State) : Nat := 50 * s.cf .actDev 0 0 31 24

/-- R241: does a fixed load fit. -/
def State.loadFits (s : State) (n load : Nat) : Bool :=
  decide (s.bankFixed (n / 4) + load ≤ s.bankLim) && decide (s.devFixed + load ≤ s.devLim)

def setWait (n : Nat) (w : WaitCause) (s : State) : State := updCh n (fun c => { c with wait := w }) s
def dequeue (n : Nat) (s : State) : State := { s with act.queue := s.act.queue.filter (fun q => q.ch != n) }

/-- No turn-on of the channel is pending. -/
def noTurnOn (n : Nat) (s : State) : State := updCh n (fun c => { c with wait := .none, degWait := false }) (dequeue n s)

/-- R232, R242-R244: a peak starts; `degraded` is a peak of R244. -/
def startPeak (n : Nat) (boosted degraded : Bool) (s : State) : State :=
  let c := s.ach n
  let s1 := updCh n (fun c =>
    { c with ph := .peak boosted, toHold := false, wait := .none, degWait := false, degraded := degraded,
             peakCnt := (c.peakCnt + 1) % 65536, degCnt := if degraded then incSat 16 c.degCnt else c.degCnt,
             iPull := s.iPullMa n, peakEnd := s.chain.now + 12000 * s.af n 2 31 24,
             sinceBoost := boosted || (c.sinceBoost && !degraded) }) (dequeue n s)
  let s2 := if boosted then updPair (n / 2) (fun p => { p with boost := some n }) s1 else s1
  if !degraded then s2
  else if c.sinceBoost then actReport 4 2 n s2
  else raise (32 + n / 2) s2

/-- R243: a channel joins the queue of pull-ins, if it is not in it. -/
def enqueue (n : Nat) (s : State) : State :=
  if s.act.queue.any (fun q => q.ch == n) then s else { s with act.queue := s.act.queue ++ [{ ch := n }] }

/-- R237 step 5 for a channel that is off and asked to conduct. A pull-in that Quiet defers is queued as it is asked for, so that Quiet's end releases it in that order (R27); one that waits for its pair switch goes back to the queue at Throttle, where no degraded peak starts (R240), and in bypass, where its peak runs from VACT undegraded at a slot start (R225). -/
def gates (n : Nat) (s : State) : State :=
  let c := s.ach n
  let pk := s.actMode n = 2
  if !c.offReady then setWait n .minOff (dequeue n s)
  else if pk && !s.loadFits n (s.iHoldMa n) then setWait n .budget (dequeue n s)
  else if pk && s.sup.mode == .quiet then setWait n .quiet (if s.cb .act n 0 7 && !c.degWait then enqueue n s else s)
  else if pk && s.cb .act n 0 7 then
    if c.degWait && s.actCond n == 0 && !s.throttled && !s.bypassed then setWait n .pairSwitch s
    else if s.act.queue.any (fun q => q.ch == n) then
      (if c.wait == .pairSwitch || c.wait == .piConc then s else setWait n .slot s)
    else updCh n (fun c => { c with wait := .slot, degWait := false }) (enqueue n s)
  else if pk then startPeak n false false s
  else updCh n (fun c => { c with ph := .on, wait := .none }) s

/-! ## FLOAT (R235, R236) -/

/-- R235: one PWM period of travel. -/
def State.flStep (s : State) (k : Nat) : Rat := 1 / ((s.af (2 * k) 3 17 10 * 20000 : Nat) : Rat)

/-- R235: the channel that drives a direction; true opens. -/
def flChannel (k : Nat) (dir : Bool) : Nat := if dir then 2 * k else 2 * k + 1

/-- R235: the drive stops. -/
def flStop (k : Nat) (s : State) : State :=
  updCh (2 * k) (fun c => { c with flDir := none }) (turnOff (2 * k) (turnOff (2 * k + 1) s))

/-- R235-R238: the drive of a direction starts when its gates pass. -/
def flStart (k : Nat) (dir : Bool) (s : State) : State :=
  let n := flChannel k dir
  let o := flChannel k (!dir)
  let other := s.ach o
  let c := s.ach n
  if c.ph ≠ .off then s
  else if c.chOt then setWait n .none s
  else if other.ph ≠ .off ∨ !other.flRevOk then setWait n .reversal s
  else if !c.offReady then setWait n .minOff s
  else if !s.loadFits n (s.iMaxMa (2 * k)) then setWait n .budget s
  else
    updCh n (fun c => { c with ph := .on, wait := .none })
      (updCh (2 * k) (fun c => { c with flDir := some dir, flOver := false }) s)

/-- R235: where the pair has to go: an end stop, or none. -/
def flTarget (y b : Rat) : Option Rat := if y ≤ b then some 0 else if 1 - b ≤ y then some 1 else none

/-- R235: does a moving pair stop. -/
def flStops (dir past : Bool) (x y b : Rat) : Bool :=
  match flTarget y b with
  | none => if dir then decide (y ≤ x) else decide (x ≤ y)
  | some e =>
    if e = 0 then dir || (decide (x = 0) && past) else !dir || (decide (x = 1) && past)

/-- R235, R236: pair k at one PWM period. -/
def floatControl (k : Nat) (s : State) : State :=
  let e := 2 * k
  let c := s.ach e
  let cond := s.actCond e
  let x := match c.flDir with
    | none => c.flX
    | some true => clampQ (c.flX + s.flStep k) 0 1
    | some false => clampQ (c.flX - s.flStep k) 0 1
  let s1 := updCh e (fun c => { c with flX := x, flSync := c.flSync || decide (3 ≤ cond) }) s
  let clear (s : State) : State := setWait e .none (setWait (e + 1) .none s)
  match s.actWant e with
  | none => clear (flStop k s1)
  | some r =>
    if c.dutyHold then clear (flStop k s1)
    else
      let y : Rat := (r : Rat) / 65536
      let b : Rat := (s.af e 3 4 0 : Rat) / 100
      if (s1.ach e).flSync then
        match c.flDir with
        | some true => clear (flStop k s1)
        | some false => s1
        | none => flStart k false (clear s1)
      else
        match c.flDir with
        | some d => if flStops d c.flOver x y b then clear (flStop k s1) else s1
        | none =>
          if b < y - x then flStart k true (setWait (e + 1) .none s1)
          else if b < x - y then flStart k false (setWait e .none s1)
          else clear s1

/-! ## The PWM period (R237-R241) -/

/-- R34, R35, R249, R250: the live fields of a channel and of the device take effect. -/
def actLive (n : Nat) (s : State) : State :=
  let masks : List Nat := [bmask 6 2, bmask 31 2, all32, all32, all32, 0xFFFF]
  let new := (List.range 6).map (fun w =>
    merge (w32 (nth masks w)) (s.cw .act n w) (s.cfg.committed.word .act n w))
  let old := s.cfg.inForce.inst .act n
  let retry := fld (nth old 0) 4 2
  let s1 := { s with cfg.inForce := s.cfg.inForce.setWords .act (6 * n) new }
  if old = new then s
  else
    let s2 := updCh n (fun c =>
      { c with retryLeft := if c.retryLeft = retry then fld (nth new 0) 4 2 else c.retryLeft,
               buckets := if fld (nth old 3) 31 24 = fld (nth new 3) 31 24 then c.buckets else [],
               curOn := if fld (nth old 3) 31 24 = fld (nth new 3) 31 24 then c.curOn else 0,
               curAll := if fld (nth old 3) 31 24 = fld (nth new 3) 31 24 then c.curAll else 0 }) s1
    updCh (n - n % 2) (fun c => { c with flSync := true }) s2

/-- R250: the live fields of the device words. -/
def actDevLive (s : State) : State :=
  let w0 := merge (w32 (bmask 31 16 + bmask 11 8)) (s.cw .actDev 0 0) (s.cfg.committed.word .actDev 0 0)
  let w1 := merge (w32 (bmask 23 8 + 1)) (s.cw .actDev 0 1) (s.cfg.committed.word .actDev 0 1)
  { s with cfg.inForce := (s.cfg.inForce.setWord .actDev 0 0 w0).setWord .actDev 0 1 w1 }

/-- R237 steps 1-5 for one channel that is not of a FLOAT pair. -/
def chanStep (n : Nat) (s : State) : State :=
  let c0 := s.ach n
  let th := if (s.actWant n).isNone then false else c0.thOn
  let s1 := updCh n (fun c => { c with thOn := th }) s
  let asks := s1.actAsks n
  let s2 := peakStops n c0.cond s1
  let d := s2.ach n
  let want := asks && !d.chOt && (d.inPeak || !d.dutyHold)
  match d.ph with
  | .peak _ => s2
  | .decay => if want then s2 else noTurnOn n s2
  | .on => if want then s2 else turnOff n s2
  | .off => if want then gates n s2 else noTurnOn n s2

/-- R245: `CH_OT` holds the channel off; the loop of a FLOAT pair feeds both its channels. -/
def State.hotHeld (s : State) (n : Nat) : Bool :=
  (s.ach n).chOt || (s.floatPair (n / 2) && (s.ach (n ^^^ 1)).chOt)

/-- R245: the override bit and the condition are kept. -/
def actOverride (n : Nat) (s : State) : State :=
  let cond := s.actCond n
  updCh n (fun c => { c with cond := cond, ovr := cond != 0 || s.hotHeld n }) s

/-- R233, R240, R426, R440: conditions take effect on every channel at once, outside a PWM period. -/
def switchesSafe (s : State) : State :=
  (List.range 32).foldl (fun a n =>
    let a1 := actOverride n (peakStops n (a.ach n).cond a)
    if (a1.actWant n).isNone then noTurnOn n (turnOff n a1) else a1) s

/-- R22, R440: once the system PLL has lost lock no PWM period follows: the switches hold the state that R240 asks for, with the requests of the safe state; a FLOAT pair, whose travel nothing times any more, stops (notes/assumptions/35.md). -/
def switchesHold (alloc : State → State) (s : State) : State :=
  alloc ((List.range 32).foldl (fun a n =>
    if a.floatPair (n / 2) then (if n % 2 = 0 then flStop (n / 2) a else a)
    else if (a.actWant n).isNone then a else chanStep n a) (switchesSafe s))

/-- R239: a PWM period counts in the bucket in progress; both channels of a FLOAT pair count toward the even one. -/
def dutyCount (n : Nat) (s : State) : State :=
  let odd := s.floatPair (n / 2) && n % 2 == 1
  let on := (!odd && (s.ach n).conducting) || (s.floatPair (n / 2) && n % 2 == 0 && (s.ach (n + 1)).conducting)
  updCh n (fun c => { c with curAll := c.curAll + 1, curOn := c.curOn + b2n on }) s

/-- R241: the scalable load of a channel, in mA. -/
def State.scalable (s : State) (n : Nat) : Rat :=
  if (s.ach n).ph ≠ .on then 0
  else
    match s.actMode n, s.actWant n with
    | 1, some r => (r : Rat) / 65536 * (s.iMaxMa n : Rat)
    | 3, _ => (s.iHoldMa n : Rat)
    | _, _ => 0

/-- R241: a bank's factor and the device's. -/
def State.bankFactor (s : State) (b : Nat) : Rat :=
  let sb := ((List.range 4).map (fun i => s.scalable (4 * b + i))).sum
  if sb = 0 then 1 else clampQ (((s.bankLim : Int) - s.bankFixed b : Int) / sb) 0 1
def State.devFactor (s : State) (kb : List Rat) : Rat :=
  let sd := ((List.range 32).map (fun n => nth kb (n / 4) * s.scalable n)).sum
  if sd = 0 then 1 else clampQ (((s.devLim : Int) - s.devFixed : Int) / sd) 0 1

/-- R231: the dither phase of a channel, as a fraction of its cycle. -/
def State.dithPhase (s : State) (n : Nat) : Rat :=
  if s.cb .act n 4 31 then
    let t := s.af n 4 29 20 * ((s.chain.pt.toNat + 4096 - s.af n 4 19 8) % 4096)
    ((t % 4096 : Nat) : Rat) / 4096
  else ((s.ach n).dithPh : Rat) / 20000

/-- R230: the triangular waveform at a fraction of its cycle: -1 at 0, 1 at a half. -/
def triangle (x : Rat) : Rat :=
  let p := x - x.floor
  if p ≤ 1 / 2 then 4 * p - 1 else 3 - 4 * p

/-- R230: the sine of a fraction of a cycle: its series to the eleventh power, within 10^-6, on the quarter cycles about 0. -/
def sineQ (x : Rat) : Rat :=
  let p := x - x.floor
  let q := if p ≤ 1 / 4 then p else if p ≤ 3 / 4 then 1 / 2 - p else p - 1
  let t := 2 * (355 / 113 : Rat) * q
  let u := t * t
  t * (1 - u / 6 * (1 - u / 20 * (1 - u / 42 * (1 - u / 72 * (1 - u / 110)))))

/-- R230: the dither waveform w; the sine as the regulator's arithmetic represents it, within 2^-16 and between -1 and 1 (notes/assumptions/82.md). -/
def ditherWave (sine : Bool) (phase : Rat) : Rat :=
  let x := phase + Config.ditherStart sine
  if sine then clampQ (clampQ (Config.sine x) (sineQ x - 1 / 65536) (sineQ x + 1 / 65536)) (-1) 1 else triangle x

/-- R230, R232, R234, R235: the current the regulator is set to, for an allocation factor. -/
def State.iTarget (s : State) (n : Nat) (k : Rat) : Rat :=
  let c := s.ach n
  match c.ph with
  | .peak _ => (c.iPull : Rat)
  | .on =>
    match s.actMode n with
    | 1 => s.scalable n * k * (1 + (s.af n 4 7 0 : Rat) / 1000 * ditherWave (s.cb .act n 4 30) (s.dithPhase n))
    | 3 => s.scalable n * k
    | 2 => (s.iHoldMa n : Rat)
    | _ => (s.iMaxMa (n - n % 2) : Rat)
  | _ => 0

/-- R241: the continuous current is allocated. -/
def allocate (s : State) : State :=
  let kb := (List.range 8).map s.bankFactor
  let kd := s.devFactor kb
  (List.range 32).foldl (fun a n =>
    let k := nth kb (n / 4) * kd
    let i := s.iTarget n k
    let sc := decide (k < 1) && (s.ach n).ph == .on && (s.actMode n == 1 || s.actMode n == 3)
    updCh n (fun c => { c with iSet := i, scaled := sc, dithPh := (c.dithPh + s.af n 4 29 20) % 20000 }) a) s

/-- R136, R221: the mean current of the period that ended, corrected by Stone's sense gain, in mA. -/
def senseCorrect (agerr : Int) (raw : Nat) : Nat :=
  satU 16 (rneQ ((raw : Rat) * 1048576 / ((1048576 + agerr : Int) : Rat)))

/-- R123, R243: a pull-in of the channel is pending: queued, or waiting for Quiet's end, its budget, a slot or its pair switch. -/
def State.pullPending (s : State) (n : Nat) : Bool :=
  let c := s.ach n
  c.degWait || s.act.queue.any (fun q => q.ch == n) ||
    (s.actMode n == 2 && (c.wait == .budget || c.wait == .quiet || c.wait == .slot || c.wait == .pairSwitch || c.wait == .piConc))

/-- R123: the MC of a PWM period is noted for a channel with a pull-in pending. -/
def notePull (n : Nat) (s : State) : State :=
  if s.pullPending n then updCh n (fun c => { c with pullMc := s.chain.mc }) s else s

/-- R237 PWM_PERIOD: the readings are the mean sense currents of the period that ended, in mA. -/
def pwmPeriod (raw : List Nat) (s : State) : State :=
  if !s.released || !s.clk.pllLocked then s
  else
    let s0 := (List.range 32).foldl (fun a n =>
      updCh n (fun c => { c with iMeas := senseCorrect (nth s.stone.agerr n) (nth raw n) }) a) s
    let s1 := { s0 with stone.agerr := s.coefs.act }
    let s2 := actDevLive ((List.range 32).foldl (fun a n => heldCurrent n (actLive n a)) s1)
    let s3 := (List.range 32).foldl (fun a n =>
      if a.floatPair (n / 2) then (if n % 2 = 0 then floatControl (n / 2) a else a) else chanStep n a) s2
    let s4 := (List.range 32).foldl (fun a n => dutyCount n (actOverride n a)) s3
    (List.range 32).foldl (fun a n => notePull n a) (allocate s4)

def execPwmPeriod (raw : List Nat) (s : State) : Host.Outcome State Fault Refusal := .next (pwmPeriod raw s)

/-! ## Times of a channel (R226, R234, R238, R239) -/

/-- R238 MIN_OFF_EXPIRY. -/
def execMinOffExpiry (n : Nat) (s : State) : Host.Outcome State Fault Refusal :=
  .next (if s.clk.pllLocked then updCh n (fun c => if c.ph = .off then { c with offReady := true } else c) s else s)

/-- R226 ACT_DECAY_END. -/
def execActDecayEnd (n : Nat) (s : State) : Host.Outcome State Fault Refusal :=
  .next (updCh n (fun c => if c.ph = .decay then { c with ph := .off, offReady := false, offMc := s.chain.mc } else c) s)

/-- R234: n_on, the PWM periods of the on-phase of a period of p seconds that latched r. -/
def thermalCycles (r p : Nat) : Int := rne ((r * p * 20000 : Nat) : Int) 65536

/-- R234: the on-phase fills the whole period. -/
def ActCh.thFull (c : ActCh) : Bool := decide (((c.thPeriod * 20000 : Nat) : Int) ≤ thermalCycles c.thR c.thPeriod)

/-- R234: the period in progress, if any, has lasted its `TH_PERIOD`, counted in MC at nominal frequency (notes/assumptions/82.md). -/
def State.thermalDue (s : State) (n : Nat) : Bool :=
  match (s.ach n).thMc with
  | none => true
  | some m => decide (s.secMc (s.ach n).thPeriod ≤ s.mcSince m)

/-- R234 THERMAL_PERIOD_START: a period begins at PT 0, where the one before it ends, and latches d. -/
def execThermalPeriodStart (n : Nat) (s : State) : Host.Outcome State Fault Refusal :=
  .next (if s.released && s.clk.pllLocked && s.actMode n == 3 && decide (n < 32) && s.chain.pt == 0 && s.thermalDue n then
    let r := (s.actWant n).getD 0
    let p := s.af n 3 23 18
    updCh n (fun c => { c with thR := r, thPeriod := p, thOn := decide (0 < thermalCycles r p),
                               thMc := some s.chain.mc }) s
  else s)

/-- R234 THERMAL_ON_PHASE_END: n_on PWM periods have elapsed. Where they fill the whole period the next period decides whether the channel stays on. -/
def execThermalOnPhaseEnd (n : Nat) (s : State) : Host.Outcome State Fault Refusal :=
  .next (if s.clk.pllLocked && s.actMode n = 3 && !((s.ach n).thOn && (s.ach n).thFull) then
    let s1 := updCh n (fun c => { c with thOn := false }) s
    if (s1.ach n).ph = .on then turnOff n s1 else noTurnOn n s1
  else s)

/-- R239 DUTY_BUCKET_END. The window starts empty, and the spec does not say what `DUTY_NOW` divides by until it holds 64 buckets: the model divides by the PWM periods of the buckets that have ended (DESIGN CHOICE, notes/assumptions/99.md). -/
def dutyBucketEnd (n : Nat) (s : State) : State :=
  let c := s.ach n
  let bs := ((c.curOn, c.curAll) :: c.buckets).take 64
  let on := (bs.map (·.1)).sum
  let all := (bs.map (·.2)).sum
  let lim := s.af n 2 7 0
  let s1 := updCh n (fun c => { c with buckets := bs, curOn := 0, curAll := 0, dutyNow := (on, all) }) s
  if lim = 100 ∨ (c.dutyHold ∧ 100 * on ≤ (lim - 5) * all) then updCh n (fun c => { c with dutyHold := false }) s1
  else if !c.dutyHold ∧ 0 < all ∧ lim * all ≤ 100 * on then
    actReport 4 2 n (updCh n (fun c => { c with dutyHold := true }) s1)
  else s1

def execDutyBucketEnd (n : Nat) (s : State) : Host.Outcome State Fault Refusal :=
  .next (if s.released && s.clk.pllLocked && decide (n < 32) then dutyBucketEnd n s else s)

/-! ## Pull-in scheduling (R242-R244) -/

/-- R240, R243: boosted pull-ins that run. -/
def State.boostedCount (s : State) : Nat :=
  s.act.ch.countP (fun c => c.ph == .peak true)

/-- R240, R448: `PI_CONC`, taken as 1 at Throttle. -/
def State.piConc (s : State) : Nat := if s.throttled then 1 else s.cf .actDev 0 0 11 8

/-- R243: a pair's pull-in switch is free: not engaged and released at least 100 µs before. -/
def State.switchFree (s : State) (k : Nat) : Bool :=
  let p := nth s.act.pairs k
  p.boost.isNone && (match p.relAt with | none => true | some t => decide (t + 2400 ≤ s.chain.now))

/-- R244: t1, the earliest later slot start at which the channel could start. -/
def State.nextChance (s : State) (n : Nat) : Nat :=
  let now := s.chain.now
  let l := max 1 s.lenL
  let p := nth s.act.pairs (n / 2)
  if s.switchFree (n / 2) then now + l
  else
    let free := match p.boost with
      | some b => (s.ach b).peakEnd + 2400
      | none => p.relAt.getD now + 2400
    now + l * max 1 ((free - now + l - 1) / l)

/-- R243, R244: one queued channel at a slot start. -/
def serveQueued (q : QEntry) (s : State) : State :=
  let n := q.ch
  let cond := s.actCond n
  if !s.loadFits n (s.iHoldMa n) then s
  else if s.bypassed then startPeak n false false s
  else if s.act.fault then startPeak n false true s
  else if cond = 1 ∨ cond = 2 then startPeak n false false s
  else if s.switchFree (n / 2) && decide (s.boostedCount < s.piConc) then startPeak n true false s
  else
    let t0 := q.t0.getD s.chain.now
    let byPair := !s.switchFree (n / 2)
    let s1 := { s with act.queue := s.act.queue.map (fun x => if x.ch = n then { x with t0 := some t0 } else x) }
    if !s.throttled && decide (24000 * s.af n 2 15 8 < s.nextChance n - t0) then
      updCh n (fun c => { c with degWait := true, wait := .pairSwitch }) (dequeue n s1)
    else setWait n (if byPair then .pairSwitch else .piConc) s1

/-- R54, R243 PULLIN_SLOT_START: third in the order of its PT. -/
def slotStart (s : State) : State :=
  inStage 3 (s.released && s.clk.pllLocked && s.sup.mode != .quiet && !s.sup.safePfw && s.sup.shutAt.isNone && s.chain.pt.toNat == s.slotPt)
    (fun s => s.act.queue.foldl (fun a q => serveQueued q a) s) s

def execPullinSlotStart (s : State) : Host.Outcome State Fault Refusal := .next (slotStart s)

/-- R240, R241, R244 DEGRADED_PEAK_START: the pair switch has been released for 100 µs. -/
def execDegradedPeakStart (n : Nat) (s : State) : Host.Outcome State Fault Refusal :=
  .next (if s.released && s.clk.pllLocked && (s.ach n).degWait && (nth s.act.pairs (n / 2)).boost.isNone && s.sup.mode != .quiet &&
      !s.throttled && !s.bypassed && s.loadFits n (s.iHoldMa n) && decide (s.actCond n = 0) then startPeak n false true s else s)

/-- R232, R233 PEAK_END: `T_PULL` ends. -/
def execPeakEnd (n : Nat) (s : State) : Host.Outcome State Fault Refusal :=
  .next (if s.clk.pllLocked && (s.ach n).inPeak then
    let t := (s.ach n).peakEnd
    if s.actAsks n && !(s.ach n).dutyHold then peakToHold n t s else turnOff n (releasePullIn n t s)
  else s)

/-! ## FLOAT times (R236) -/

/-- R236 FLOAT_OVERRUN_END. -/
def execFloatOverrunEnd (k : Nat) (s : State) : Host.Outcome State Fault Refusal :=
  .next (if s.clk.pllLocked && s.floatPair k then
    let c := s.ach (2 * k)
    if (c.flDir = some true ∧ c.flX = 1) ∨ (c.flDir = some false ∧ c.flX = 0) then
      updCh (2 * k) (fun c => { c with flOver := true }) s
    else s
  else s)

/-- R236 FLOAT_RESYNC_END. -/
def execFloatResyncEnd (k : Nat) (s : State) : Host.Outcome State Fault Refusal :=
  .next (if s.clk.pllLocked && s.floatPair k && (s.ach (2 * k)).flSync && (s.ach (2 * k)).flDir == some false then
    updCh (2 * k) (fun c => { c with flX := 0, flSync := false, flOver := true }) s else s)

/-- R236 FLOAT_REVERSAL_END: `FL_REV` has passed since the channel that drove turned off. -/
def execFloatReversalEnd (k : Nat) (s : State) : Host.Outcome State Fault Refusal :=
  .next (if s.clk.pllLocked && s.floatPair k then
    updCh (2 * k) (fun c => { c with flRevOk := c.flRevOk || c.ph != .on })
      (updCh (2 * k + 1) (fun c => { c with flRevOk := c.flRevOk || c.ph != .on }) s)
  else s)

/-! ## Detectors and faults (R246-R248, R253) -/

/-- R253 BUDGET_WAIT_TIMEOUT. -/
def execBudgetWaitTimeout (n : Nat) (s : State) : Host.Outcome State Fault Refusal :=
  .next (if s.clk.pllLocked && (s.ach n).wait == .budget then actReport 4 2 n s else s)

/-- R246 OPEN_LOAD_ON. -/
def execOpenLoadOn (n : Nat) (s : State) : Host.Outcome State Fault Refusal :=
  .next (let c := s.ach n
    if (c.ph == .on || c.inPeak) && decide (50 ≤ c.iSet) && !c.openLoad then
      actReport 1 4 n (updCh n (fun c => { c with openLoad := true }) s)
    else s)

/-- R246 OPEN_LOAD_OFF. -/
def execOpenLoadOff (n : Nat) (s : State) : Host.Outcome State Fault Refusal :=
  .next (let c := s.ach n
    if decide (n < 32) && s.cb .act n 0 6 && c.ph == .off && !c.openLoad then
      actReport 1 4 n (updCh n (fun c => { c with openLoad := true }) s)
    else s)

/-- R236: a pair in FLOAT resynchronizes once a fault of either channel has ended. -/
def floatResync (n : Nat) (s : State) : State :=
  if s.floatPair (n / 2) then updCh (n - n % 2) (fun c => { c with flSync := true }) s else s

/-- R236, R246 OPEN_LOAD_CLEAR. -/
def execOpenLoadClear (n : Nat) (s : State) : Host.Outcome State Fault Refusal :=
  .next (if (s.ach n).openLoad then
      actReport 2 2 n (floatResync n (updCh n (fun c => { c with openLoad := false }) s))
    else s)

/-- R237: a fault ends the on-phase of a THERMAL channel and every pending turn-on. -/
def faultOff (n : Nat) (s : State) : State :=
  let s1 := updCh n (fun c => { c with thOn := false }) (noTurnOn n (turnOff n s))
  if s.floatPair (n / 2) then updCh (n - n % 2) (fun c => { c with flSync := true }) (flStop (n / 2) s1) else s1

/-- R246 SHORT_SUP: the channel turns off without recovery. -/
def execShortSup (n : Nat) (s : State) : Host.Outcome State Fault Refusal :=
  .next (if (s.ach n).conducting && !(s.ach n).shortSup then
    actReport 1 5 n (updCh n (fun c => { c with slowDecay := true })
      (faultOff n (updCh n (fun c => { c with shortSup := true }) s))) else s)

/-- R246: the pair's switches open and `PAIR_OFF` is set. -/
def pairOff (k : Nat) (s : State) : State :=
  faultOff (2 * k + 1) (faultOff (2 * k) (updPair k (fun p => { p with off := true }) s))

/-- R246 SHORT_GND. -/
def execShortGnd (n : Nat) (s : State) : Host.Outcome State Fault Refusal :=
  .next (if decide (n < 32) && !(s.ach n).conducting && !(s.ach (n ^^^ 1)).conducting && !(s.ach n).shortGnd then
    actReport 1 5 n (pairOff (n / 2) (updCh n (fun c => { c with shortGnd := true }) s)) else s)

/-- R246 HSW_OVERCURRENT. -/
def execHswOvercurrent (k : Nat) (s : State) : Host.Outcome State Fault Refusal :=
  .next (if decide (k < 16) && !(nth s.act.pairs k).off then actReport 1 5 (2 * k) (pairOff k s) else s)

/-- R246: a channel of a FLOAT pair has been turned off; a drive of its own direction is over. -/
def flHalt (n : Nat) (s : State) : State :=
  let e := n - n % 2
  if s.floatPair (n / 2) && (s.ach e).flDir == some (n % 2 == 0) then updCh e (fun c => { c with flDir := none }) s else s

/-- R245, R246 CH_OT: the sensor crosses 165 °C (`over`) or 150 °C. It holds its own channel off, and a FLOAT pair may still drive the other way; the loop that feeds the pair sees the override. -/
def execChOt (n : Nat) (hot : Bool) (s : State) : Host.Outcome State Fault Refusal :=
  .next (if decide (32 ≤ n) || (s.ach n).chOt == hot then s
    else if hot then
      let s1 := flHalt n (noTurnOn n (turnOff n (updCh n (fun c => { c with chOt := true, ovr := true }) s)))
      actReport 1 4 n (if s1.floatPair (n / 2) then updCh (n ^^^ 1) (fun c => { c with ovr := true }) s1 else s1)
    else actReport 2 2 n (floatResync n (updCh n (fun c => { c with chOt := false }) s)))

/-- R248 SHORT_SUP_RETRY: the retry is a normal turn-on. -/
def execShortSupRetry (n : Nat) (s : State) : Host.Outcome State Fault Refusal :=
  .next (let c := s.ach n
    if s.clk.pllLocked && c.shortSup && decide (0 < c.retryLeft) then
      actReport 2 2 n (updCh n (fun c => { c with shortSup := false, retryLeft := c.retryLeft - 1 }) s)
    else s)

/-- R248 RETRY_LEFT_RESTORE. -/
def execRetryLeftRestore (n : Nat) (s : State) : Host.Outcome State Fault Refusal :=
  .next (if s.clk.pllLocked then updCh n (fun c => { c with retryLeft := s.af n 0 4 2 }) s else s)

/-- R248: clear the latched faults of a channel; `PAIR_OFF` goes with them. -/
def clearChannel (n : Nat) (s : State) : State :=
  let c := s.ach n
  let p := nth s.act.pairs (n / 2)
  let had := c.shortSup || c.shortGnd || p.off
  if !had then s
  else
    let s1 := updPair (n / 2) (fun p => { p with off := false })
      (updCh n (fun c => { c with shortSup := false, shortGnd := false }) s)
    actReport 2 2 n (updCh (n - n % 2) (fun c => { c with flSync := true }) s1)

/-! ## Boost (R225, R246, R247, R253) -/

def boostReport (on : Bool) (s : State) : State := if on then report 92 1 4 0 s else report 92 2 1 0 s

/-- R247: a boost fault; the fourth latches. -/
def boostFault (s : State) : State :=
  if s.act.fault then s
  else boostReport true { s with act.fault := true, act.latched := decide (3 ≤ s.act.faultRetry) }

def execBstUv (s : State) : Host.Outcome State Fault Refusal :=
  .next (if s.boostMay then boostFault { s with act.bstUv := true } else s)

/-- R246 BST_OV: VBST above 58 V for 1 ms; after a restart it is a boost fault again, though VBST has not been below 50 V. -/
def execBstOv (s : State) : Host.Outcome State Fault Refusal :=
  .next (if !s.alive then s
    else boostFault (if s.act.bstOv then s else boostReport true { s with act.bstOv := true }))

def execBstOvRelease (s : State) : Host.Outcome State Fault Refusal :=
  .next (if s.act.bstOv then boostReport false { s with act.bstOv := false } else s)

def execBstOc (s : State) : Host.Outcome State Fault Refusal :=
  .next (if s.boostRunning then boostFault { s with act.bstOc := true } else s)

/-- R247, R248: the boost fault ends. The spec does not say when `BST_UV` and `BST_OC` clear: the model clears them with it (DESIGN CHOICE, notes/assumptions/99.md). -/
def boostUnfault (s : State) : State :=
  boostReport false { s with act.fault := false, act.latched := false, act.bstUv := false, act.bstOc := false }

def execBoostRestart (s : State) : Host.Outcome State Fault Refusal :=
  .next (if s.act.fault && !s.act.latched then
    boostUnfault { s with act.faultRetry := min 3 (s.act.faultRetry + 1) } else s)

def execBoostRetryReset (s : State) : Host.Outcome State Fault Refusal :=
  .next (if s.act.fault then s else { s with act.faultRetry := 0 })

/-- R248: clear a latched boost fault. -/
def clearBoost (s : State) : State :=
  if s.act.latched then boostUnfault { s with act.faultRetry := 0 } else s

def execClampActive (on : Bool) (s : State) : Host.Outcome State Fault Refusal :=
  .next { s with act.clamp := on }

def execClampSustained (s : State) : Host.Outcome State Fault Refusal :=
  .next (if s.act.clamp then boostReport true s else s)

/-- R448: the bursts of the converter at Throttle: one starts when VBST is below 96 % of `VBST_SET` and the converter has idled for 1 MC since the last, and ends when VBST has reached `VBST_SET`; looked at once a PT (notes/assumptions/91.md). -/
def burstStep (s : State) : State :=
  if !(s.throttled && s.boostMay) then
    (if s.act.burst then { s with act.burst := false, act.burstEnd := some (s.chain.mc, s.chain.pt.toNat) } else s)
  else
    let set : Rat := (s.cf .actDev 0 1 23 16 : Rat) / 4
    let v := Config.vbst s.chain.now
    if s.act.burst then
      (if set ≤ v then { s with act.burst := false, act.burstEnd := some (s.chain.mc, s.chain.pt.toNat) } else s)
    else
      let idle := match s.act.burstEnd with | none => true | some (m, p) => decide (4096 ≤ s.ptSince m p)
      if idle && decide (v < 96 / 100 * set) then { s with act.burst := true } else s

/-- R225: `BST_BYPASS` by VACT as housekeeping measures it, in V. -/
def bypassEval (vact : Rat) (s : State) : State :=
  let set : Rat := (s.cf .actDev 0 1 23 16 : Rat) / 4
  if !s.act.bypass ∧ set - 2 ≤ vact then boostReport true { s with act.bypass := true }
  else if s.act.bypass ∧ vact < set - 3 then boostReport false { s with act.bypass := false }
  else s

/-! ## Status (R252) and commands (R363) -/

/-- R34, R249: the channel is idle: off, no turn-on pending or queued, and its request not asking to conduct. -/
def State.actIdle (s : State) (n : Nat) : Bool :=
  let c := s.ach n
  if s.floatPair (n / 2) then
    let e := s.ach (n - n % 2)
    (s.ach (n - n % 2)).ph == .off && (s.ach (n - n % 2 + 1)).ph == .off && !e.flSync && e.wait == .none &&
    (s.ach (n - n % 2 + 1)).wait == .none &&
    (match s.actWant (n - n % 2) with
     | none => true
     | some r =>
       let d := (r : Rat) / 65536 - e.flX
       let b : Rat := (s.af (n - n % 2) 3 4 0 : Rat) / 100
       decide (d ≤ b) && decide (-d ≤ b))
  else
    c.ph == .off && c.wait == .none && !c.degWait && !s.act.queue.any (fun q => q.ch == n) && !s.actAsks n &&
    !(s.actMode n == 3 && (s.actWant n).getD 0 != 0)

end Sys2Proof.Machine
end

