-- ==== Sys2Proof/Machine/Sha.lean ====
section
/-! DEFINITION. SHA-256 (FIPS 180-4), the digest of containers and of the attestation (R461, R476). -/

namespace Sys2Proof.Machine

/-- FIPS 180-4 4.2.2: the 64 constants. -/
def shaK : List Word :=
  [0x428A2F98, 0x71374491, 0xB5C0FBCF, 0xE9B5DBA5, 0x3956C25B, 0x59F111F1, 0x923F82A4, 0xAB1C5ED5] ++
  [0xD807AA98, 0x12835B01, 0x243185BE, 0x550C7DC3, 0x72BE5D74, 0x80DEB1FE, 0x9BDC06A7, 0xC19BF174] ++
  [0xE49B69C1, 0xEFBE4786, 0x0FC19DC6, 0x240CA1CC, 0x2DE92C6F, 0x4A7484AA, 0x5CB0A9DC, 0x76F988DA] ++
  [0x983E5152, 0xA831C66D, 0xB00327C8, 0xBF597FC7, 0xC6E00BF3, 0xD5A79147, 0x06CA6351, 0x14292967] ++
  [0x27B70A85, 0x2E1B2138, 0x4D2C6DFC, 0x53380D13, 0x650A7354, 0x766A0ABB, 0x81C2C92E, 0x92722C85] ++
  [0xA2BFE8A1, 0xA81A664B, 0xC24B8B70, 0xC76C51A3, 0xD192E819, 0xD6990624, 0xF40E3585, 0x106AA070] ++
  [0x19A4C116, 0x1E376C08, 0x2748774C, 0x34B0BCB5, 0x391C0CB3, 0x4ED8AA4A, 0x5B9CCA4F, 0x682E6FF3] ++
  [0x748F82EE, 0x78A5636F, 0x84C87814, 0x8CC70208, 0x90BEFFFA, 0xA4506CEB, 0xBEF9A3F7, 0xC67178F2]

/-- FIPS 180-4 5.3.3: the initial hash value. -/
def shaH0 : List Word := [0x6A09E667, 0xBB67AE85, 0x3C6EF372, 0xA54FF53A, 0x510E527F, 0x9B05688C, 0x1F83D9AB, 0x5BE0CD19]

def rotr (n : Nat) (x : Word) : Word := (x >>> n) ||| (x <<< (32 - n))

def shaS0 (x : Word) : Word := rotr 2 x ^^^ rotr 13 x ^^^ rotr 22 x
def shaS1 (x : Word) : Word := rotr 6 x ^^^ rotr 11 x ^^^ rotr 25 x
def shaG0 (x : Word) : Word := rotr 7 x ^^^ rotr 18 x ^^^ (x >>> 3)
def shaG1 (x : Word) : Word := rotr 17 x ^^^ rotr 19 x ^^^ (x >>> 10)

/-- FIPS 180-4 6.2.2 step 1: the message schedule, newest word first. -/
def shaSched : Nat → List Word → List Word
  | 0, ws => ws
  | k + 1, ws => shaSched k ((shaG1 (nth ws 1) + nth ws 6 + shaG0 (nth ws 14) + nth ws 15) :: ws)

/-- FIPS 180-4 6.2.2 step 3: one round on the eight working variables. -/
def shaRound (v : List Word) (k w : Word) : List Word :=
  let e := nth v 4
  let a := nth v 0
  let t1 := nth v 7 + shaS1 e + ((e &&& nth v 5) ^^^ (~~~e &&& nth v 6)) + k + w
  let t2 := shaS0 a + ((a &&& nth v 1) ^^^ (a &&& nth v 2) ^^^ (nth v 1 &&& nth v 2))
  [t1 + t2, a, nth v 1, nth v 2, nth v 3 + t1, e, nth v 5, nth v 6]

/-- One word of a block, most significant byte first. -/
def beWord (b : List Byte) : Word := w32 (b.foldl (fun a x => a * 256 + x.toNat) 0)

/-- FIPS 180-4 6.2.2: one block of 64 bytes. -/
def shaBlock (h : List Word) (blk : List Byte) : List Word :=
  let first := ((List.range 16).map (fun i => beWord (slice blk (4 * i) 4))).reverse
  let ws := (shaSched 48 first).reverse
  let v := (List.zip shaK ws).foldl (fun v kw => shaRound v kw.1 kw.2) h
  List.zipWith (· + ·) h v

/-- FIPS 180-4 5.1.1: a message, padded to whole blocks. -/
def shaPad (m : List Byte) : List Byte :=
  m ++ [0x80] ++ zeros ((119 - m.length % 64) % 64) ++ (le 8 (8 * m.length)).reverse

/-- Blocks of 64 bytes, at most n. -/
def shaBlocks : Nat → List Byte → List Word → List Word
  | 0, _, h => h
  | n + 1, b, h => if b.isEmpty then h else shaBlocks n (b.drop 64) (shaBlock h (b.take 64))

/-- SHA-256 of a byte string. -/
def sha256 (m : List Byte) : List Byte :=
  let p := shaPad m
  (shaBlocks (p.length / 64) p shaH0).flatMap (fun w => (leW w).reverse)

end Sys2Proof.Machine
end

