-- ==== Sys2Proof/Machine/Container.lean ====
section
/-! DEFINITION. The Unavavor container and its checks, and the store of the management state (R460-R467). -/

namespace Sys2Proof.Machine

/-! ## The container (R461, R462) -/

def contKind (c : List Byte) : Nat := getB c 6
def contPayloadLen (c : List Byte) : Nat := getW c 0x0C
def contVersion (c : List Byte) : Word := w32 (getW c 0x10)
def contSlot (c : List Byte) : Nat := getB c 0x14
def contHeader (c : List Byte) : List Byte := c.take 128
def contPayload (c : List Byte) : List Byte := (c.drop 128).take (contPayloadLen c)
def contSig (c : List Byte) : List Byte := c.drop (128 + contPayloadLen c)

/-- R465: the epoch of a version. -/
def epochOf (v : Word) : Nat := fld v 31 24

/-- R461: what the digest of a payload covers: a configuration's `SLOT_SEQ`, `SIG_OFS`, `SIG_LEN` and `HDR_CRC` count as 0. -/
def digestInput (kind : Nat) (p : List Byte) : List Byte :=
  if kind = 3 ∧ 64 ≤ p.length then splice (splice (splice p 0x08 (zeros 4)) 0x1C (zeros 8)) 0x3C (zeros 4) else p

def allZero (bs : List Byte) : Bool := bs.all (fun b => b == 0)

/-- R463 step 1. -/
def contFormatOk (kinds : List Nat) (limit : Nat) (c : List Byte) : Bool :=
  let sb := contSig c
  decide (8796 ≤ c.length) && decide (c.length ≤ limit) && getW c 0 == 0x5A335543 && getH c 4 == 1 &&
  kinds.contains (contKind c) && decide (getB c 7 ≤ if contKind c = 1 then 1 else 0) &&
  getW c 8 == c.length && c.length == 128 + contPayloadLen c + 8668 &&
  allZero (slice c 0x15 3) && allZero (slice c 0x24 4) && allZero (slice c 0x48 56) &&
  decide (epochOf (contVersion c) ≤ 64) && getW sb 0 == 0x5A335342 && getW sb 4 == 0

/-- R463 step 2. -/
def contBindOk (c : List Byte) : Bool :=
  (getLe c 0x18 8 == 0 || getLe c 0x18 8 == Config.serial.toNat) && (getW c 0x20 == 0 || getW c 0x20 == hwId.toNat)

/-- R463 step 3. -/
def contKeyOk (o : Otp) (c : List Byte) : Bool :=
  let k := contSlot c
  let sb := contSig c
  decide (k < 4) && o.filled k && !o.revoked.getD k false && (nth o.kind k).testBit (contKind c - 1) &&
  getW sb 0x188 == 65537 && sha256 (slice sb 8 388) == o.rsaHash k && slice sb 0x30C 32 == o.slhPk k

/-- R466: the floors a version must meet. -/
def floorOk (s : State) (kind : Nat) (v : Word) : Bool :=
  let m := s.mgt.mr
  match kind with
  | 1 => decide (s.mgt.otp.thermo ≤ epochOf v) && decide (m.floorFw.toNat ≤ v.toNat)
  | 2 => decide (m.floorWf.toNat ≤ v.toNat)
  | _ => decide (m.floorCfg.toNat ≤ v.toNat)

/-- R463: the first step of 1-7 that a container fails; none when it passes. -/
def contStep (s : State) (kinds : List Nat) (limit : Nat) (c : List Byte) : Option Nat :=
  let sb := contSig c
  if !contFormatOk kinds limit c then some 1
  else if !contBindOk c then some 2
  else if !contKeyOk s.mgt.otp c then some 3
  else if sha256 (digestInput (contKind c) (contPayload c)) != slice c 0x28 32 then some 4
  else if !Config.rsaPssVerify (slice sb 8 384) 65537 (contHeader c) (slice sb 0x18C 384) then some 5
  else if !Config.slhDsaVerify (slice sb 0x30C 32) (contHeader c) (slice sb 0x32C 7856) then some 6
  else if !floorOk s (contKind c) (contVersion c) then some 7
  else none

/-- R463: the status of a failed step. -/
def contStatus (step : Nat) : Nat :=
  match step with
  | 1 | 8 => stBadArg
  | 7 => stRollback
  | _ => stAuthFail

/-- R471: the reason of a failed step. -/
def contReason (step : Nat) : Nat :=
  match step with
  | 1 => 1 | 2 | 3 => 2 | 4 => 3 | 5 => 4 | 6 => 5 | _ => 6

/-! ## The management state (R460) -/

/-- R460: the codewords of the copy not in force, with `MR_SEQ` one higher. -/
def mgtCws (s : State) (mr : MgtRec) : List CwWrite :=
  nvCws s.nvm 0 (nvMgtBase + 0x800 + 256 * ((s.mgt.mrCopy + 1) % 2)) (mgtBytes mr)

/-- R469, R470, R476: what the management state takes up once its image is free for a requester (R491). -/
def mgtChange (why : MgtWhy) (s : State) : State :=
  let mr := s.mgt.mr
  match why with
  | .plain | .erase => s
  | .activate => { s with mgt.mr := { mr.setSt (1 - mr.active) .trial with active := 1 - mr.active, trialBoots := 0 } }
  | .image => { s with mgt.mr := mr.setBank s.mgt.upd.bank .written (contVersion (nth s.mgt.flash s.mgt.upd.bank)) }
  | .attest => { s with mgt.mr := { mr with attCount := mr.attCount + 1 }, mgt.att := { s.mgt.att with counted := true } }

/-- R460, R491, R493: the management state has one image; the requester whose operation stands first in entry 5 makes its change and submits it, once its predecessor has verified or failed. -/
def mgtTurn (s : State) : State :=
  match nth s.nvm.queue 5 with
  | { job := .mgtState why, cws := [], written := [] } :: rest =>
    let s1 := mgtChange why s
    let mr := { s1.mgt.mr with seq := s1.mgt.mr.seq + 1 }
    { s1 with mgt.mr := mr, nvm.queue := s.nvm.queue.set 5 ({ job := .mgtState why, cws := mgtCws s mr } :: rest) }
  | _ => s

/-- R460: write the management state to the copy not in force, when its turn comes. After the power-fail warning nothing is written (R428). -/
def mgtStore (why : MgtWhy) (s : State) : State :=
  if s.bushel.closed then s else mgtTurn { s with nvm := nvSubmit s.nvm 5 { job := .mgtState why } }

/-- R460, R470, R471: start-up writes the management state before it goes on (its read-back is taken to check, notes/assumptions/90.md). -/
def mgtStoreNow (s : State) : State :=
  let mr := { s.mgt.mr with seq := s.mgt.mr.seq + 1 }
  { s with mgt.mr := mr, mgt.mrCopy := (s.mgt.mrCopy + 1) % 2, nvm := (mgtCws s mr).foldl nvWriteCw s.nvm }

/-- R460: a copy has been read back: it comes into force, with its `MR_SEQ`, or it does not. -/
def mgtStored (ok : Bool) (s : State) : State :=
  if ok then { s with mgt.mrCopy := (s.mgt.mrCopy + 1) % 2 } else { s with mgt.mr := { s.mgt.mr with seq := s.mgt.mr.seq - 1 } }

/-- R460: one copy as read from NVM. -/
def mgtOfBytes (b : List Byte) : MgtRec :=
  let st (n : Nat) : BankSt := match n with | 1 => .written | 2 => .trial | 3 => .good | 4 => .old | 5 => .bad | _ => .empty
  { seq := w32 (getW b 4), floorFw := w32 (getW b 8), floorWf := w32 (getW b 0x0C), floorCfg := w32 (getW b 0x10),
    stateA := st (getB b 0x14), stateB := st (getB b 0x15), active := getB b 0x16 % 2, trialBoots := getB b 0x17,
    verA := w32 (getW b 0x18), verB := w32 (getW b 0x1C), attCount := w32 (getW b 0x20) }

def mgtValid (b : List Byte) : Bool := getW b 0 == 0x5A334D52 && getW b 0xFC == crc32c (b.take 0xFC)

/-- R466: raise a floor to a version, if higher, and store it. -/
def raiseFloor (kind : Nat) (v : Word) (s : State) : State :=
  let m := s.mgt.mr
  if kind = 2 then
    (if m.floorWf.toNat < v.toNat then mgtStore .plain { s with mgt.mr := { m with floorWf := v } } else s)
  else if kind = 3 then
    (if m.floorCfg.toNat < v.toNat then mgtStore .plain { s with mgt.mr := { m with floorCfg := v } } else s)
  else (if m.floorFw.toNat < v.toNat then mgtStore .plain { s with mgt.mr := { m with floorFw := v } } else s)

end Sys2Proof.Machine
end

