-- ==== Sys2Proof/Machine/Waveform.lean ====
section
/-! DEFINITION. The waveform table: layout, checks, codes and rail settings (R273, R276-R279, R282). -/

namespace Sys2Proof.Machine

def wfVersion (p : List Byte) : Nat := getH p 4
def wfBands (p : List Byte) : Nat := getB p 6
def wfModes (p : List Byte) : Nat := getB p 7
def wfBandT (p : List Byte) (i : Nat) : Int := sext 8 (getB p (8 + i))
def wfLayout (p : List Byte) (m : Nat) : Nat := getB p (0x14 + m) % 4
def wfFrames (p : List Byte) (b m : Nat) : Nat := getB p (0x18 + 4 * b + m)
def wfOffset (p : List Byte) (b m : Nat) : Nat := getW p (0x48 + 4 * (4 * b + m))
def wfDataLen (p : List Byte) : Nat := getW p 0x180

/-- R277: the drive code of entry e in frame f of block (b, m). -/
def wfCode (p : List Byte) (b m f e : Nat) : Nat :=
  bits (getB p (0x200 + wfOffset p b m + 64 * f + e / 4)) (2 * (e % 4) + 1) (2 * (e % 4))

/-- R276: the rails of a band in the power-on order VNEG, VGL, VPOS, VGH, VCOM, in mV. -/
def wfRails (p : List Byte) (b : Nat) : List Int :=
  let h (k : Nat) : Int := (getH p (0x108 + 10 * b + 2 * k) : Int)
  [-(h 1), -(h 3), h 0, h 2, sext 16 (getH p (0x108 + 10 * b + 8))]

/-- R282: the range of each rail, in mV. -/
def railRange : List (Int × Int) :=
  [(-16000, -10000), (-25000, -15000), (10000, 16000), (15000, 25000), (-3000, 1000)]

/-- R282: the setting step of each rail, in mV. -/
def railStep : List Int := [50, 100, 50, 100, 5]

/-- R282: a table value on the nearest setting step. -/
def railSet (mv step : Int) : Int :=
  let r := mv % step
  if r = 0 then mv
  else if 2 * r < step ∨ (2 * r = step ∧ !Config.railTie mv step) then mv - r
  else mv - r + step

/-- R276: the used (band, mode) pairs. -/
def wfPairs (p : List Byte) : List (Nat × Nat) :=
  (List.range (wfBands p)).flatMap (fun b => (List.range (wfModes p)).map (fun m => (b, m)))

/-- R278: two blocks do not overlap. -/
def wfApart (p : List Byte) (a b : Nat × Nat) : Bool :=
  decide (wfOffset p a.1 a.2 + 64 * wfFrames p a.1 a.2 ≤ wfOffset p b.1 b.2) ||
  decide (wfOffset p b.1 b.2 + 64 * wfFrames p b.1 b.2 ≤ wfOffset p a.1 a.2)

/-- R278: every entry of a block is DC-balanced. -/
def wfBalanced (p : List Byte) (a : Nat × Nat) : Bool :=
  (List.range 256).all (fun e =>
    let codes := (List.range (wfFrames p a.1 a.2)).map (fun f => wfCode p a.1 a.2 f e)
    codes.countP (· == 1) == codes.countP (· == 2))

/-- R12, R276: the reserved bytes and bits of a payload are 0. -/
def wfReserved (p : List Byte) : Bool :=
  (List.range 4).all (fun m => getB p (0x14 + m) < 4) && (slice p 0x188 120).all (· == 0)

/-- R12, R278: the checks of a payload. The entries of unused bands and modes, which R276 gives as 0 and does not call reserved, are not looked at (DESIGN CHOICE, notes/assumptions/77.md). -/
def wfOk (p : List Byte) : Bool :=
  let pairs := wfPairs p
  getW p 0 == 0x51465731 && wfReserved p && decide (1 ≤ wfBands p) && decide (wfBands p ≤ 12) &&
  decide (1 ≤ wfModes p) && decide (wfModes p ≤ 4) &&
  (List.range (wfBands p - 2)).all (fun i => decide (wfBandT p (i + 1) < wfBandT p (i + 2))) &&
  decide (wfDataLen p ≤ 98304) && decide (0x200 + wfDataLen p ≤ p.length) &&
  pairs.all (fun a => decide (1 ≤ wfFrames p a.1 a.2) && decide (wfFrames p a.1 a.2 ≤ 64) &&
    decide (wfOffset p a.1 a.2 + 64 * wfFrames p a.1 a.2 ≤ wfDataLen p)) &&
  pairs.all (fun a => pairs.all (fun b => a == b || wfApart p a b)) &&
  getW p 0x184 == crc32c ((p.drop 0x200).take (wfDataLen p)) &&
  (List.range (wfBands p)).all (fun b =>
    (List.zip (wfRails p b) railRange).all (fun x => decide (x.2.1 ≤ x.1) && decide (x.1 ≤ x.2.2))) &&
  (List.range (wfModes p)).all (fun m => wfLayout p m != 3) && pairs.all (wfBalanced p)

/-- R279: is + exchanged with − at a pixel. -/
def layoutSwaps (layout x y : Nat) : Bool :=
  match layout with
  | 1 => y % 2 == 1
  | 2 => (x + y) % 2 == 1
  | _ => false

/-- R273: a code with + and − exchanged. -/
def swapCode (c : Nat) : Nat := if c = 1 then 2 else if c = 2 then 1 else c

/-- R464, R466: a waveform container passes R463 with step 8 the checks of R278; the failing step. -/
def wfContStep (s : State) (c : List Byte) : Option Nat :=
  match contStep s [2] 131072 c with
  | some k => some k
  | none => if wfOk (contPayload c) then none else some 8

/-- R21, R464: the container in a waveform slot, by its own length. -/
def wfSlotBytes (s : State) (slot : Nat) : List Byte :=
  let base := nvWfBase + 0x20000 * slot
  let len := getW (nvRead s.nvm 0 base 12) 8
  nvRead s.nvm 0 base (min len 131072)

end Sys2Proof.Machine
end

