-- ==== Sys2Proof/Machine/Checks.lean ====
section
/-! DEFINITION. The commit checks of every section on a configuration as it will stand (R31, R76, R105, R112, R143, R159, R191, R199, R201, R217, R231, R251, R267, R271, R281, R298, R345, R346, R374, R401, R534). -/

namespace Sys2Proof.Machine

/-- A field of a word of an image. -/
def Image.fld (img : Image) (s : Sec) (i w hi lo : Nat) : Nat := Machine.fld (img.word s i w) hi lo

/-- A bit of a word of an image. -/
def Image.bit (img : Image) (s : Sec) (i w n : Nat) : Bool := Machine.bit (img.word s i w) n

/-- A value lies outside a range. -/
def outside (x lo hi : Nat) : Bool := decide (x < lo) || decide (hi < x)

/-- A loop number names an enabled loop. -/
def Image.loopOn (img : Image) (l : Nat) : Bool := decide (1 ≤ l) && decide (l ≤ 127) && img.bit .loop (l - 1) 0 0

/-! ## One check per section: does a word hold a failing field -/

/-- R534: a transition word while daylight saving is configured. -/
def dstBad (w : Word) : Bool :=
  outside (fld w 23 20) 1 12 || outside (fld w 19 17) 1 5 || decide (6 < fld w 16 14) || decide (1439 < fld w 10 0)

def timeBad (img : Image) (w : Nat) : Bool :=
  let ofs := sfld (img.word .time 0 0) 31 24
  if w = 0 then decide (ofs < -48) || decide (56 < ofs) || decide (8 < img.fld .time 0 0 5 0)
  else img.fld .time 0 1 23 20 != 0 && dstBad (img.word .time 0 w)

/-- R346: a pin named as an input while `FUNC` makes it an output. -/
def gpioBad (img : Image) (g : Nat) : Bool :=
  let f := img.fld .gpio g 0 7 6
  f == 3 || (f != 0 &&
    ((List.range 32).any (fun z =>
       (img.bit .zone z 0 14 && img.fld .zone z 0 13 10 == g) ||
       (img.fld .zone z 0 9 8 == 1 && img.fld .zone z 0 7 4 == g)) ||
     (img.bit .stone 0 0 1 && g == 0)))

/-- R75, R76, R103, R104. -/
def ainBad (img : Image) (i w : Nat) : Bool :=
  let t := img.fld .ain i 0 27 24
  let exc := img.fld .ain i 0 11 2
  match w with
  | 0 => decide (5 < t) || (t == 2 && img.fld .ain i 0 23 21 != 0) || (t == 2 && exc != 0) ||
      ((t == 3 || t == 4 || t == 5) && exc == 0) || (exc != 0 && outside exc 10 1000) ||
      decide (5 < img.fld .ain i 0 20 18)
  | 1 => t == 4 && decide ((img.word .ain i 1).toInt ≤ 0)
  | 2 => false
  | _ => t != 5 && img.word .ain i w != 0

/-- R112. -/
def presBad (img : Image) (i w : Nat) : Bool :=
  match w with
  | 0 => img.fld .pres i 0 19 16 == 0 || outside (img.fld .pres i 0 15 8) 1 240 || decide (img.fld .pres i 0 7 3 < 2)
  | 1 => decide ((img.word .pres i 1).toInt ≤ (img.word .pres i 2).toInt)
  | _ => false

/-- R143. -/
def stoneBad (img : Image) (w : Nat) : Bool :=
  let v := (img.word .stone 0 w).toNat
  match w with
  | 0 => false
  | 1 => outside v 900000 1100000
  | _ => outside v 9000000 11000000

/-- R159: another enabled loop has the loop's `SLOT`. -/
def slotTwice (img : Image) (i : Nat) : Bool :=
  img.bit .loop i 0 0 && (List.range 127).any (fun j =>
    j != i && img.bit .loop j 0 0 && img.fld .loop j 0 31 20 == img.fld .loop i 0 31 20)

/-- R159. -/
def loopBad (img : Image) (i w : Nat) : Bool :=
  let law := img.fld .loop i 0 3 2
  let div := img.fld .loop i 0 19 16
  let hi := img.fld .loop i 2 31 16
  let lo := img.fld .loop i 2 15 0
  match w with
  | 0 => slotTwice img i || decide (8 < div) || decide (2 ^ div ≤ img.fld .loop i 0 15 8) || law == 3
  | 1 =>
    let c := img.fld .loop i 1 15 14
    let k := img.fld .loop i 1 6 0
    (c == 1 && decide (15 < k)) || (decide (2 ≤ c) && k != 0)
  | 2 => decide (hi < lo) || (decide (law < 2) && lo == hi)
  | 4 => decide ((img.word .loop i 4).toInt < 0)
  | 5 => law == 1 && decide (hi ≤ lo + 2 * img.fld .loop i 5 15 0)
  | 6 | 7 => decide (coefOf (img.word .loop i w) < 0)
  | 8 => decide (coefOf (img.word .loop i 8) < 0) || decide (1 < coefOf (img.word .loop i 8))
  | _ => false

/-- R345: a zone's three loop bindings. -/
def Image.zoneLoops (img : Image) (z : Nat) : List Nat :=
  [img.fld .zone z 10 31 24, img.fld .zone z 10 23 16, img.fld .zone z 10 15 8]

/-- R345: a loop of the zone is bound twice. -/
def loopTwice (img : Image) (z : Nat) : Bool :=
  (img.zoneLoops z).any (fun l => l != 0 &&
    decide (1 < (List.range 32).foldl (fun a y => a + (img.zoneLoops y).count l) 0))

/-- R217, R345. -/
def zoneBad (img : Image) (z w : Nat) : Bool :=
  let f := img.fld .zone z
  let dew := img.bit .zone z 0 1
  match w with
  | 0 => outside (f 0 18 16) 2 4 || f 0 9 8 == 3
  | 1 => f 1 31 24 == 0 || f 1 15 8 == 0 || f 1 7 0 == 0
  | 2 | 3 | 4 | 5 => decide (sfld (img.word .zone z w) 31 16 - sfld (img.word .zone z w) 15 0 < 10 * (f 1 7 0 : Int))
  | 7 => f 7 15 8 == 0 || (dew && decide (95 < f 7 6 0))
  | 8 => outside (f 8 23 16) 1 72 || outside (f 8 15 8) 1 36 || outside (f 8 7 4) 1 7 || outside (f 8 3 0) 1 7
  | 9 => f 9 7 0 == 0
  | 10 => loopTwice img z || (img.zoneLoops z).any (fun l => decide (127 < l)) || decide (95 < f 10 6 0)
  | 11 => (dew && !img.bit .zone z 11 15) || decide (95 < f 11 14 8)
  | _ => false

/-- R191: entry e of a schedule's day breaks the day's rules. -/
def eventBad (ws : List Word) (d e : Nat) : Bool :=
  let v := schedEvent ws d e
  let p := schedEvent ws d (e - 1)
  bits v 15 13 != 0 &&
    (decide (4 < bits v 15 13) || decide (1439 < bits v 10 0) ||
     (e != 0 && (bits p 15 13 == 0 || decide (bits v 10 0 ≤ bits p 10 0))))

def schedBad (img : Image) (i w : Nat) : Bool :=
  let ws := img.inst .sched i
  eventBad ws (w / 4) (2 * (w % 4)) || eventBad ws (w / 4) (2 * (w % 4) + 1)

/-- R201. -/
def solBad (img : Image) (k : Nat) : Bool :=
  let l := img.fld .sol k 0 23 17
  let m := img.fld .sol k 0 28 26
  img.bit .sol k 0 31 &&
    (!img.loopOn l || img.fld .loop (l - 1) 0 3 2 == 0 || outside m 2 4 ||
     (List.range 64).any (fun j => j != k && img.bit .sol j 0 31 && img.fld .sol j 0 23 17 == l &&
       img.fld .sol j 0 28 26 == m))

/-- R242, R249: channel n is the odd channel of a ganged pair. -/
def Image.gangOdd (img : Image) (n : Nat) : Bool :=
  (n == 29 && img.bit .actDev 0 0 0) || (n == 31 && img.bit .actDev 0 0 1)

/-- Channel n is the output of a ganged pair. -/
def Image.gangOut (img : Image) (n : Nat) : Bool :=
  (n == 28 && img.bit .actDev 0 0 0) || (n == 30 && img.bit .actDev 0 0 1)

/-- R251. -/
def actBad (img : Image) (n w : Nat) : Bool :=
  let f := img.fld .act n
  let mode := f 0 31 29
  let src := f 0 28 27
  let gang := img.gangOut n
  match w with
  | 0 =>
    decide (4 < mode) || src == 3 || (img.gangOdd n && mode != 0) ||
    (mode == 4 && (n % 2 == 1 || gang || img.fld .act (n + 1) 0 31 29 != 0)) ||
    (mode != 0 && ((decide (1 ≤ src) && !img.loopOn (f 0 26 20)) || (src == 2 && !img.loopOn (f 0 19 13))))
  | 1 =>
    let lim := if gang then 300 else 150
    decide (lim < f 1 21 12) || decide (lim < f 1 11 2) || decide ((if gang then 1000 else 500) < f 1 31 22) ||
    (mode == 2 && (decide (f 1 31 22 < f 1 21 12) || f 1 21 12 == 0))
  | 2 => f 2 31 24 == 0 || outside (f 2 23 16) 1 200 || f 2 15 8 == 0 || outside (f 2 7 0) 1 100
  | 3 => outside (f 3 23 18) 1 60 || decide (f 3 17 10 < 5) || f 3 9 5 == 0 || f 3 4 0 == 0
  | 4 =>
    (if img.bit .act n 4 31 then
       outside (f 4 29 20) 1 8 || decide (400 < f 4 29 20 * (if img.bit .chain 0 0 1 then 60 else 50))
     else outside (f 4 29 20) 50 400) || decide (250 < f 4 7 0)
  | _ => false

/-- R250, R251. -/
def actDevBad (img : Image) (w : Nat) : Bool :=
  let f := img.fld .actDev 0
  if w = 0 then outside (f 0 31 24) 1 160 || outside (f 0 23 16) 1 80 || outside (f 0 11 8) 1 8
  else outside (f 1 23 16) 80 192 || outside (f 1 15 8) 20 120

/-- R267. -/
def fanBad (img : Image) (i w : Nat) : Bool :=
  let f := img.fld .fan i
  let on := img.bit .fan i 0 0
  if w = 0 then
    decide (2 ≤ f 0 31 30) || (on && f 0 31 30 == 1 && !img.loopOn (f 0 29 23)) ||
    (on && f 0 31 30 == 0 && f 0 29 23 != 0) || outside (f 0 16 12) 2 20 || decide (120 < f 0 11 4) ||
    (!img.bit .fan i 0 18 && f 0 11 4 == 0)
  else outside (f 1 9 0) 10 1000

/-- R271, R281, R298. With `TEMP_EN` the panel input is of a temperature type; the state in which reset leaves it, DISABLED under `PNL_EN` 0, passes (DESIGN CHOICE, notes/assumptions/60.md). -/
def panelBad (s : State) (img : Image) (w : Nat) : Bool :=
  let f := img.fld .panel 0
  let wd := f 0 26 17
  let ht := f 0 16 7
  let hb := f 1 27 20
  match w with
  | 0 => outside wd 8 800 || wd % 4 != 0 || outside ht 1 600
  | 1 => decide (f 1 31 28 < 4) || decide (hb < 8) || f 1 19 16 == 0 || f 1 15 12 == 0 || decide (hb < f 1 15 12 + 4) ||
      decide ((if img.bit .panel 0 0 30 then 730000 else 1460000) < (ht + f 1 19 16) * (wd / 4 + hb) * f 1 31 28)
  | 2 => f 2 16 12 == 0
  | 3 =>
    let t := img.fld .ain (f 3 14 8) 0 27 24
    decide (95 < f 3 14 8) || decide (11 < f 3 3 0) ||
    (match s.panel.wf with | some p => decide (wfBands p ≤ f 3 3 0) | none => false) ||
    (img.bit .panel 0 3 15 && t != 4 && t != 5 && (img.bit .panel 0 0 31 || t != 0))
  | _ => decide (f 4 7 0 < 5)

/-- R373, R374. -/
def busBad (img : Image) (w : Nat) : Bool :=
  let f := img.fld .bus 0
  let port := f 0 3 2
  let ip (k : Nat) := img.word .bus 0 k
  let t1l := img.bit .bus 0 0 4
  let rmii := img.bit .bus 0 0 5
  if w = 0 then
    (port == 2 && !t1l) || (port == 3 && !rmii) ||
    (img.bit .bus 0 0 0 && ((port == 2 && ip 4 == 0) || (port == 3 && ip 7 == 0))) ||
    (img.bit .bus 0 0 7 && decide (port < 2)) ||
    (t1l && rmii && ip 4 != 0 && ip 7 != 0 && (ip 4 ^^^ ip 7) &&& ip 5 &&& ip 8 == 0)
  else if w = 1 then decide (4194302 < f 1 21 0)
  else if w = 2 ∨ w = 3 then decide (5 < f w 22 20) || outside (f w 19 16) 1 8 || outside (f w 15 8) 1 127
  else if w = 12 then decide (f 12 31 16 < 30)
  else if w = 13 then outside (f 13 31 16) 1000 60000 || decide (8 < f 13 15 12) || decide (f 13 11 0 < 10)
  else if 31 ≤ w ∧ w ≤ 46 then !sigKnown (f w 31 16)
  else false

/-- R401. -/
def snapBad (img : Image) (k w : Nat) : Bool :=
  let f := img.fld .snap k
  if w ≤ 4 then !sigKnown (f w 15 0) || !sigKnown (f w 31 16)
  else if w = 5 then (img.bit .snap k 5 31 && decide (f 5 30 24 < f 5 22 16)) || img.bit .snap k 5 0 || img.bit .snap k 5 9
  else if w = 7 then img.bit .snap k 7 31 && f 0 15 0 == 0xF000
  else false

/-- R12, R349: does word w of instance i hold a failing field, a reserved bit among them. -/
def wordBad (s : State) (img : Image) (sec : Sec) (i w : Nat) : Bool :=
  (img.word sec i w &&& w32 (wdef sec i w).rsv) != 0 ||
  match sec with
  | .chain => false
  | .time => timeBad img w
  | .gpio => gpioBad img i
  | .ain => ainBad img i w
  | .mod => decide (12 ≤ i) && decide (4 < img.fld .mod i 0 7 5)
  | .pres => presBad img i w
  | .hkLim => false
  | .stone => stoneBad img w
  | .loop => loopBad img i w
  | .zone => zoneBad img i w
  | .prof => img.fld .prof i w 15 0 == 0
  | .sched => schedBad img i w
  | .sol => solBad img i
  | .act => actBad img i w
  | .actDev => actDevBad img w
  | .fan => fanBad img i w
  | .fanDev => outside (img.fld .fanDev 0 0 12 0) 4465 5952
  | .panel => panelBad s img w
  | .bus => busBad img w
  | .snap => snapBad img i w

/-- The first word of a section, in instance and word order, at which a test holds. -/
def secFind (sec : Sec) (p : Nat → Nat → Bool) : Option Locator :=
  ((List.range (sec.instances * sec.words)).find? (fun k => p (k / sec.words) (k % sec.words))).map
    (fun k => { sec := sec.id, inst := k / sec.words, word := k % sec.words })

/-- The first word of an image, in section, instance and word order, at which a test holds (R349's locator). -/
def imgFind (p : Sec → Nat → Nat → Bool) : Option Locator :=
  Sec.all.findSome? (fun sec => secFind sec (p sec))

/-- R349 step 1: the first field that fails a commit check. -/
def commitFail (s : State) (img : Image) : Option Locator := imgFind (wordBad s img)

end Sys2Proof.Machine
end

