-- ==== Sys2Proof/Machine/Fan.lean ====
section
/-! DEFINITION. The fans: requests, states, starts, tachometers and the fault policy (R254-R269). -/

namespace Sys2Proof.Machine

def updFan (f : Nat) (g : Fan → Fan) (s : State) : State := { s with fans.ch := upd s.fans.ch f g }

/-- R266: fields of a fan's words in force. -/
def State.ff (s : State) (f hi lo : Nat) : Nat := s.cf .fan f 0 hi lo
def State.fanEn (s : State) (f : Nat) : Bool := s.cb .fan f 0 0
def State.tachEn (s : State) (f : Nat) : Bool := s.cb .fan f 0 21 && s.fanEn f
/-- R260: `RPM_MIN` × 10. -/
def State.rpmMin (s : State) (f : Nat) : Nat := 10 * s.cf .fan f 1 9 0

/-- R269: an event and record of a fan. -/
def fanReport (typ sev f : Nat) (s : State) : State := report (48 + f) typ sev f s

/-- R257: the request. -/
def State.fanRequest (s : State) (f : Nat) : Nat :=
  if s.ff f 31 30 = 1 then (s.loop (s.ff f 29 23)).dyn.out else (s.fan f).req

/-- R258: the wanted duty. -/
def State.fanWant (s : State) (f : Nat) : Rat :=
  let r := s.fanRequest f
  if r = 0 ∧ s.cb .fan f 0 18 then 0
  else
    let a : Rat := (r : Rat) / 65536
    let b : Rat := (s.ff f 11 4 : Rat) / 200
    if a ≤ b then b else a

/-- R265: the condition of highest precedence; 0 is none. -/
def State.fanCond (s : State) (f : Nat) : Nat :=
  let x := s.fan f
  if s.sup.safePfw then 1
  else if x.blocked || x.tachLost then 2
  else if s.safe then 3
  else if s.sup.mode = .hold then 4
  else 0

/-- R265: the policy duty is 1. -/
def State.policyOne (s : State) (f : Nat) : Bool := !s.cb .fan f 0 17

/-- R262: the speed measurement starts again. -/
def freshTach (x : Fan) : Fan := { x with edges := [], edgeCnt := 0, rpm := 0 }

/-- R261: a channel joins the queue of kicks; of channels that enter PENDING at one time, here one PT, the lower number goes first (notes/assumptions/83.md). -/
def pendInsert (f now : Nat) (pendAt : Nat → Nat) : List Nat → List Nat
  | [] => [f]
  | g :: t => if pendAt g = now ∧ f < g then f :: g :: t else g :: pendInsert f now pendAt t

/-- R260: enter a state other than POLICY; STOPPED and RUN return `FAILS` to 0. -/
def fanTo (f : Nat) (st : FanSt) (s : State) : State :=
  let q := s.fans.queue.filter (· != f)
  updFan f (fun x =>
    let y := match x.st with | .stopped | .pause | .policy => freshTach x | _ => x
    { y with st := st, fails := if st = .stopped ∨ st = .run then 0 else y.fails,
             pendAt := if st = .pending then s.chain.now else y.pendAt })
    { s with fans.queue := if st = .pending then pendInsert f s.chain.now (fun g => (s.fan g).pendAt) q else q }

/-- R259, R265: the duty in POLICY. -/
def State.policyDuty (s : State) (f : Nat) : Rat := if s.fanCond f ≠ 1 ∧ s.policyOne f then 1 else 0

/-- R260, R262, R265: enter POLICY, with `OVERRIDE`; `FAILS` returns to 0 unless `FAN_BLOCKED` brings it there. -/
def fanPolicy (f : Nat) (s : State) : State :=
  updFan f (fun x =>
    let y := match x.st with | .stopped | .pause => freshTach x | _ => x
    { y with st := .policy, fails := if x.blocked then x.fails else 0, ovr := true,
             polOne := s.policyDuty f == 1 })
    { s with fans.queue := s.fans.queue.filter (· != f) }

/-- R34, R266: the live fields of a fan take effect. -/
def fanLive (f : Nat) (s : State) : State :=
  let w0 := merge (w32 (bmask 21 4)) (s.cw .fan f 0) (s.cfg.committed.word .fan f 0)
  let w1 := merge (w32 (bmask 9 0)) (s.cw .fan f 1) (s.cfg.committed.word .fan f 1)
  let d := merge (w32 (bmask 12 0)) (s.cw .fanDev 0 0) (s.cfg.committed.word .fanDev 0 0)
  let again := fld w0 21 19 != s.ff f 21 19
  let s1 := { s with cfg.inForce := ((s.cfg.inForce.setWord .fan f 0 w0).setWord .fan f 1 w1).setWord .fanDev 0 0 d }
  if again then updFan f freshTach s1 else s1

/-- R260: the transitions that conditions and the wanted duty bring about. -/
def fanMove (f : Nat) (s : State) : State :=
  let x := s.fan f
  let want := s.fanWant f
  let cond := s.fanCond f
  if !s.fanEn f then (if x.st = .disabled then s else fanTo f .disabled s)
  else
    match x.st with
    | .disabled => fanTo f .stopped s
    | .policy =>
      if cond ≠ 0 then s
      else if x.polOne && decide (0 < want) then fanTo f .run s
      else fanTo f .stopped s
    | .stopped =>
      if cond ≠ 0 then fanPolicy f s else if 0 < want then fanTo f .pending s else s
    | _ =>
      if cond ≠ 0 then fanPolicy f s else if want = 0 then fanTo f .stopped s else s

/-- R259, R265: the applied duty. -/
def State.fanDuty (s : State) (f : Nat) : Rat :=
  match (s.fan f).st with
  | .kick => 1
  | .run => s.fanWant f
  | .policy => s.policyDuty f
  | _ => 0

/-- R254: how many `CLK_ENG` cycles after channel 0 a channel starts its period. -/
def State.fanOffset (s : State) (f : Nat) : Nat := (rne ((f * s.cf .fanDev 0 0 12 0 : Nat) : Int) 16).toNat

/-- R254, R255 FAN_PWM_PERIOD: the channels start their periods in turn, each at its offset from channel 0. -/
def fanPeriod (f : Nat) (s : State) : State :=
  if !s.released || !s.clk.pllLocked || decide (16 ≤ f) || s.fans.next != f then s
  else
    let s1 := fanMove f (fanLive f { s with fans.next := (f + 1) % 16 })
    let div := s1.cf .fanDev 0 0 12 0
    let d := s1.fanDuty f
    updFan f (fun x =>
      { x with div := div, onCyc := (rneQ (d * (div : Rat))).toNat, ovr := s1.fanEn f && s1.fanCond f != 0,
               polOne := if x.st = .policy then d == 1 else x.polOne,
               rpm := if s1.tachEn f then x.rpm else 0 }) s1

def execFanPwmPeriod (f : Nat) (s : State) : Host.Outcome State Fault Refusal := .next (fanPeriod f s)

/-- R254-R256, R261, R434: FANPWMf is released, `c` being the `CLK_ENG` cycles since its period began: before the release of the control path and in Backup, up to the channel's first PWM period after it, and then while it is on with `POL` = 0 or off with `POL` = 1. Otherwise it is driven low. -/
def State.fanpwm (s : State) (f c : Nat) : Bool :=
  if !s.released || (s.fan f).div == 0 then true else decide (c < (s.fan f).onCyc) != s.cb .fan f 0 22

/-- R261, R266: a kick begins, with the `KICK_T` committed. -/
def kick (f : Nat) (s : State) : State :=
  updFan f (fun x => { x with startCnt := (x.startCnt + 1) % 65536, kickAt := s.chain.now,
                              kickT := fld (s.cfg.committed.word .fan f 0) 16 12 }) (fanTo f .kick s)

/-- R260: an override takes precedence over every other transition. -/
def fanUnless (f : Nat) (act : State → State) (s : State) : State :=
  if s.fanCond f = 0 then act s else fanPolicy f s

/-- R261 FAN_KICK_START: at PT 0, at most one in each MC. -/
def execFanKickStart (s : State) : Host.Outcome State Fault Refusal :=
  .next (match s.fans.queue with
    | [] => s
    | f :: _ =>
      if s.released && s.clk.pllLocked && s.chain.pt == 0 && s.fans.kickMc != some s.chain.mc then
        fanUnless f (fun s => kick f { s with fans.kickMc := some s.chain.mc }) s
      else s)

/-- R260, R269: a failed attempt of a start writes a record; the fourth is the one that sets `FAN_BLOCKED`, and its record is that. -/
def kickFailed (f : Nat) (s : State) : State :=
  let s1 := updFan f (fun x => { x with fails := x.fails + 1 }) s
  if 4 ≤ (s1.fan f).fails then fanReport 1 5 f (fanPolicy f (updFan f (fun x => { x with blocked := true }) s1))
  else happen (48 + f) 4 2 f (fanTo f .pause s1)

/-- R260: the `KICK_T` of the kick in progress, in units of 0.25 s, is over by the end of the PT in progress. -/
def State.kickOver (s : State) (f : Nat) : Bool :=
  s.reached ((s.fan f).kickAt + 6000000 * (s.fan f).kickT)

/-- R260 FAN_KICK_END: `KICK_T` has elapsed. -/
def execFanKickEnd (f : Nat) (s : State) : Host.Outcome State Fault Refusal :=
  .next (if (s.fan f).st = .kick && s.clk.pllLocked && s.kickOver f then
    fanUnless f (fun s =>
      if !s.tachEn f || decide (s.rpmMin f ≤ (s.fan f).rpm) then fanTo f .run s else kickFailed f s) s
  else s)

/-- R260 FAN_PAUSE_END. -/
def execFanPauseEnd (f : Nat) (s : State) : Host.Outcome State Fault Refusal :=
  .next (if (s.fan f).st = .pause && s.clk.pllLocked then fanUnless f (fanTo f .pending) s else s)

/-- R262: the speed over the last whole revolution. -/
def rpmOf (p : Nat) (edges : List Nat) : Nat :=
  let dt := nth edges 0 - nth edges p
  if dt = 0 then 65535 else min 65535 (rne 7500000000 dt).toNat

/-- R262 FAN_TACH_EDGE: an accepted edge, timestamped in `CLK_ENG` cycles. -/
def tachEdge (f t : Nat) (s : State) : State :=
  if !s.alive || !s.clk.pllLocked || !s.tachEn f then s
  else
    let p := s.ff f 20 19 + 1
    updFan f (fun x =>
      let edges := (t :: x.edges).take 5
      let cnt := x.edgeCnt + 1
      { x with edges := edges, edgeCnt := cnt, rpm := if p + 1 ≤ cnt then rpmOf p edges else 0 }) s

def execFanTachEdge (f t : Nat) (s : State) : Host.Outcome State Fault Refusal := .next (tachEdge f t s)

/-- R263: the tachometer is supervised. -/
def State.tachWatched (s : State) (f : Nat) : Bool :=
  let x := s.fan f
  s.tachEn f && (x.st == .run || (x.st == .policy && decide (3 ≤ s.fanCond f) && s.policyOne f))

/-- R262, R263 FAN_TACH_LOSS: no edge for 3 × T_exp. -/
def tachLoss (f : Nat) (s : State) : State :=
  let s1 := updFan f (fun x => { x with rpm := 0 }) s
  if s.tachWatched f then
    fanReport 1 5 f (fanPolicy f (updFan f (fun x => { x with tachLost := true, wasRunning := !x.slow }) s1))
  else s1

def execFanTachLoss (f : Nat) (s : State) : Host.Outcome State Fault Refusal := .next (onPll s (tachLoss f s))

/-- R263 FAN_SLOW_TIMER: `RPM` has stayed on one side of the limit for 5 s. -/
def execFanSlowTimer (f : Nat) (s : State) : Host.Outcome State Fault Refusal :=
  .next (onPll s <| let x := s.fan f
    let low := decide (x.rpm < s.rpmMin f)
    if s.tachWatched f && low != x.slow then
      fanReport (if low then 1 else 2) (if low then 3 else 1) f (updFan f (fun x => { x with slow := low }) s)
    else s)

/-- R264: clear the latched faults of a fan. -/
def clearFan (f : Nat) (s : State) : State :=
  let x := s.fan f
  let s1 := if x.blocked then fanReport 2 1 f (updFan f (fun x => { x with blocked := false }) s) else s
  if x.tachLost then fanReport 2 1 f (updFan f (fun x => { x with tachLost := false }) s1) else s1

/-- R265, R426: the power-fail warning takes every fan to duty 0 at once. -/
def fansOff (s : State) : State :=
  (List.range 16).foldl (fun a f =>
    if (a.fan f).st == .disabled then a else updFan f (fun x => { x with onCyc := 0, div := a.cf .fanDev 0 0 12 0 }) (fanPolicy f a)) s

/-- R261: the fans at the release of the control path. Until a channel's first PWM period after it no duty is latched, and its output stays as reset has left it (`State.fanpwm`). -/
def fanRelease (s : State) : State :=
  (List.range 16).foldl (fun a f =>
    let b := updFan f (fun x => { x with div := 0 }) a
    if !b.fanEn f then fanTo f .disabled b
    else fanUnless f (fun a => if 0 < a.fanWant f then kick f a else a) b) s

/-- R266: idle in the sense of R34. -/
def State.fanIdle (s : State) (f : Nat) : Bool := (s.fan f).st == .stopped || (s.fan f).st == .disabled

end Sys2Proof.Machine
end

