-- ==== Sys2Proof/Machine/Panel.lean ====
section
/-! DEFINITION. Quire, the panel engine: frame memory, bands, rails, regions, frames, faults and the panel commands (R270-R300, R364). -/

namespace Sys2Proof.Machine

/-! ## Access -/

def State.pf (s : State) (w hi lo : Nat) : Nat := s.cf .panel 0 w hi lo
def State.pnlW (s : State) : Nat := s.pf 0 26 17
def State.pnlH (s : State) : Nat := s.pf 0 16 7

/-- The frame memory reads 0 where nothing is listed (R274). -/
def fmDefault (_ : Nat) : Byte := 0

/-- R274: the frame-memory word at a word address. -/
def fmRead (m : Memory) (a : Nat) : Nat := unle (m.reads fmDefault (2 * a) 2)
def fmWrite (m : Memory) (a v : Nat) : Memory := m.writes fmDefault (2 * a) (le16 v)

/-- R274: the fields of a pixel word. -/
def pxCurrent (w : Nat) : Nat := w % 16
def pxTarget (w : Nat) : Nat := bits w 7 4
def pxRegion (w : Nat) : Nat := bits w 11 8
def pxStaging (w : Nat) : Nat := bits w 15 12
def pxWord (st rg tg cu : Nat) : Nat := at' st 12 + at' rg 8 + at' tg 4 + cu

/-- R7: the pixels of a rectangle, row by row. -/
def Rect.pixels (r : Rect) : List (Nat × Nat) :=
  (List.range (r.y1 + 1 - r.y0)).flatMap (fun j => (List.range (r.x1 + 1 - r.x0)).map (fun i => (r.x0 + i, r.y0 + j)))

def Rect.meets (a b : Rect) : Bool :=
  decide (a.x0 ≤ b.x1) && decide (b.x0 ≤ a.x1) && decide (a.y0 ≤ b.y1) && decide (b.y0 ≤ a.y1)

/-- R285: a rectangle that is neither inverted nor outside the panel. -/
def State.rectOk (s : State) (r : Rect) : Bool :=
  decide (r.x0 ≤ r.x1) && decide (r.y0 ≤ r.y1) && decide (r.x1 < s.pnlW) && decide (r.y1 < s.pnlH)

/-- Change every pixel word of a rectangle. -/
def mapRect (r : Rect) (f : Nat → Nat) (s : State) : State :=
  { s with panel.frame := r.pixels.foldl (fun m p =>
      let a := p.2 * s.pnlW + p.1
      fmWrite m a (f (fmRead m a))) s.panel.frame }

/-- The whole panel. -/
def State.panelRect (s : State) : Rect := { x0 := 0, y0 := 0, x1 := s.pnlW - 1, y1 := s.pnlH - 1 }

/-- R296: the CRC of a line of `CURRENT`. -/
def State.lineCrc (s : State) (y : Nat) : Nat :=
  let lv (x : Nat) := pxCurrent (fmRead s.panel.frame (y * s.pnlW + x))
  crc16 ((List.range (s.pnlW / 2)).map (fun i => BitVec.ofNat 8 (lv (2 * i) + 16 * lv (2 * i + 1))))

/-- R275, R296: Quire recomputes the entries of the lines of a rectangle. -/
def lineCrcs (r : Rect) (s : State) : State :=
  { s with panel.frame := (List.range (r.y1 + 1 - r.y0)).foldl (fun m j =>
      fmWrite m (s.pnlW * s.pnlH + r.y0 + j) (s.lineCrc (r.y0 + j))) s.panel.frame }

def State.region (s : State) (n : Nat) : Option Region := (s.panel.regions.getD (n - 1) none)
def setRegion (n : Nat) (r : Option Region) (s : State) : State := { s with panel.regions := s.panel.regions.set (n - 1) r }

/-- R34: Quire is idle. -/
def State.quireIdle (s : State) : Bool :=
  s.panel.regions.all (·.isNone) && s.panel.queue.isEmpty &&
  (match s.panel.clearing with | .running .. => false | _ => true)

/-- R286, R291: something drives: a region in a phase or balancing, or the clearing update. -/
def State.quireDrives (s : State) : Bool :=
  s.panel.regions.any (fun o => match o with | some r => r.driving || r.balance.isSome | none => false) ||
  (match s.panel.clearing with | .running .. => true | _ => false)

/-- R300: source 93 without and with its record. -/
def quireRaise (s : State) : State := raiseWith 93 3 0 s
def quireReport (s : State) : State := happen 93 3 1 0 (quireRaise s)

/-! ## The table (R278, R280) -/

/-- R282: the rail settings of a band. -/
def State.bandRails (s : State) (b : Nat) : List Int :=
  match s.panel.wf with
  | none => s.panel.railMv
  | some p => List.zipWith railSet (wfRails p b) railStep

/-- R291: the band in force changes. -/
def setBandRun (b : Nat) (s : State) : State :=
  if s.panel.bandRun = b then s else quireReport { s with panel.bandRun := b }

/-- R281: a band that the table in force has. -/
def State.bandWithin (s : State) (b : Nat) : Nat :=
  match s.panel.wf with
  | none => b
  | some p => min b (wfBands p - 1)

/-- R282, R291: rails that move to a band take the settings of the table in force, and begin the move anew where those differ. -/
def railsMove (b : Nat) (same : RailSt) (s : State) : State :=
  let mv := s.bandRails b
  if mv = s.panel.railMv then { s with panel.rails := same }
  else { s with panel.rails := .moving b [], panel.railMv := mv }

/-- R282: the rails follow `RAILS` of the table in force, for the band in force or, while they move, the one they move to; once on, they move. -/
def railsFollow (s : State) : State :=
  match s.panel.rails with
  | .on => railsMove s.panel.bandRun .on s
  | .moving b good => railsMove (s.bandWithin b) (.moving (s.bandWithin b) good) s
  | .moveDelay b => railsMove (s.bandWithin b) (.moveDelay (s.bandWithin b)) s
  | .rising _ | .riseDelay _ => { s with panel.railMv := s.bandRails s.panel.bandRun }
  | _ => s

/-- R278, R300, R466: a staged table takes effect once Quire is idle; a band that it does not have gives way to its last one. -/
def tableTake (s : State) : State :=
  match s.panel.wfPend with
  | none => s
  | some p =>
    if !s.quireIdle then s
    else
      let lim := wfBands p - 1
      let s1 := raiseFloor 2 s.panel.wfPendVer (quireReport
        { s with panel.wf := some p, panel.wfPend := none, panel.wfSlot := s.panel.wfPendSlot,
                 panel.wfVer := s.panel.wfPendVer, panel.wfBad := false,
                 panel.bandMeas := min s.panel.bandMeas lim })
      railsFollow (setBandRun (min s.panel.bandRun lim) s1)

/-- R278: an accepted table is staged. -/
def tableStage (p : List Byte) (slot : Nat) (ver : Word) (s : State) : State :=
  tableTake { s with panel.wfPend := some p, panel.wfPendSlot := slot, panel.wfPendVer := ver }

/-! ## Bands (R281, R291) -/

/-- R281: the band a temperature leads to from band b, in n steps at most. -/
def bandMove (p : List Byte) (t : Rat) : Nat → Nat → Nat
  | 0, b => b
  | n + 1, b =>
    if b + 1 < wfBands p ∧ (wfBandT p (b + 1) : Rat) ≤ t then bandMove p t n (b + 1)
    else if 0 < b ∧ t < (wfBandT p b : Rat) - 1 then bandMove p t n (b - 1)
    else b

/-- R281: before any valid temperature since reset the measured band is `BAND_DEF`. -/
def bandDefault (s : State) : State := if s.panel.tempSeen then s else { s with panel.bandMeas := s.pf 3 3 0 }

/-- R291: `BAND_PEND` follows the measured band; when nothing runs the rails move. -/
def bandCheck (s : State) : State :=
  let differs := s.panel.bandMeas != s.panel.bandRun
  let any := s.panel.regions.any (·.isSome)
  let s1 := if differs && (any || s.panel.rails == .on) then { s with panel.bandPend := true }
    else if !differs then { s with panel.bandPend := false } else s
  if differs && s1.panel.rails == .on && !s1.quireDrives then
    { s1 with panel.rails := .moving s1.panel.bandMeas [], panel.railMv := s1.bandRails s1.panel.bandMeas }
  else s1

/-- R281, R300: `TEMP_INVALID` changes. -/
def setTempInvalid (v : Bool) (s : State) : State :=
  if s.panel.tempInvalid = v then s else quireReport { s with panel.tempInvalid := v }

/-- R281 PANEL_BAND_EVAL: at each publication of the panel temperature input. -/
def bandEval (s : State) : State :=
  let src := s.pf 3 14 8
  let v := (nth s.sens.results src).value
  if !s.cb .panel 0 3 15 || !validQ v then
    bandCheck (setTempInvalid true (bandDefault s))
  else
    let b0 := s.panel.bandMeas
    let b := match s.panel.wf with
      | none => b0
      | some p => bandMove p (q16 v) 24 b0
    bandCheck (setTempInvalid false { s with panel.tempSeen := true, panel.bandMeas := b })

/-! ## Rails (R282) -/

/-- R282: power-on begins; `BAND_RUN` takes `BAND_MEAS` (R291). -/
def railsOn (s : State) : State :=
  if s.panel.rails = .off then
    let s1 := setBandRun s.panel.bandMeas s
    { s1 with panel.rails := .rising 0, panel.bandPend := false, panel.railMv := s1.bandRails s1.panel.bandRun }
  else s

/-- R282: power-off begins. -/
def railsOff (s : State) : State :=
  match s.panel.rails with
  | .off | .falling _ | .fallDelay _ => s
  | _ => { s with panel.rails := .falling 0 }

/-- R282 RAIL_POWER_GOOD: a rail, by its place in the power-on order. -/
def execRailPowerGood (i : Nat) (s : State) : Host.Outcome State Fault Refusal :=
  .next (onPll s <| match s.panel.rails with
    | .rising k => if k = i then { s with panel.rails := .riseDelay i } else s
    | .moving b good =>
      let g := if good.contains i then good else good ++ [i]
      if (List.range 5).all (fun k => g.contains k) then { s with panel.rails := .moveDelay b }
      else if i < 5 then { s with panel.rails := .moving b g } else s
    | _ => s)

/-- R282, R291 RAIL_SEQ_DELAY_EXPIRY. -/
def execRailSeqDelayExpiry (s : State) : Host.Outcome State Fault Refusal :=
  .next (onPll s <| match s.panel.rails with
    | .riseDelay i => { s with panel.rails := if 4 ≤ i then .on else .rising (i + 1) }
    | .fallDelay i => { s with panel.rails := .falling (i + 1) }
    | .moveDelay b => bandCheck (setBandRun b { s with panel.rails := .on, panel.bandPend := false })
    | _ => s)

/-- R282 RAIL_FALLEN: a rail, by its place in the power-on order. -/
def execRailFallen (i : Nat) (s : State) : Host.Outcome State Fault Refusal :=
  .next (onPll s <| match s.panel.rails with
    | .falling k =>
      if k + i = 4 then { s with panel.rails := if k = 4 then .off else .fallDelay k } else s
    | _ => s)

/-- R282 RAIL_HOLD_EXPIRY. -/
def execRailHoldExpiry (s : State) : Host.Outcome State Fault Refusal :=
  .next (if s.clk.pllLocked && s.panel.rails == .on && !s.quireDrives then railsOff s else s)

/-! ## Regions (R287-R293) -/

/-- R289: a region ends with `CURRENT` at its image. -/
def regionDone (n : Nat) (r : Region) (s : State) : State :=
  let s1 := lineCrcs r.req.rect (mapRect r.req.rect
    (fun w => pxWord (pxStaging w) 0 (pxTarget w) (pxTarget w)) s)
  raiseWith 93 1 r.req.tag (setRegion n none s1)

/-- R293: a phase of a blinking region ends. -/
def phaseDone (n : Nat) (r : Region) (s : State) : State :=
  if r.stopping then regionDone n r s
  else
    setRegion n (some { r with driving := false, f := 0 })
      (lineCrcs r.req.rect (mapRect r.req.rect
        (fun w => pxWord (pxStaging w) (pxRegion w) (pxTarget w) (pxTarget w)) s))

/-- R292: a region is freed with its pixels at `CURRENT`. -/
def regionFree (n : Nat) (r : Region) (s : State) : State :=
  setRegion n none (mapRect r.req.rect (fun w => pxWord (pxStaging w) 0 (pxCurrent w) (pxCurrent w)) s)

/-- R297: every region ends, with `CURRENT` unchanged. -/
def regionsEnd (s : State) : State :=
  (List.range 15).foldl (fun a i =>
    match a.region (i + 1) with
    | none => a
    | some r => setRegion (i + 1) none (mapRect r.req.rect
        (fun w => pxWord (pxStaging w) 0 (pxTarget w) (pxCurrent w)) a)) s

/-- R284: a clearing update that is cut short is due again. -/
def ClearSt.cut : ClearSt → ClearSt
  | .none => .none
  | _ => .due

/-- R280: the table is reloaded from its slot, and checked again. Without a valid table no update runs (R284): what runs and what waits is discarded as under R297, so that a new table can be taken, and a clearing update has still to run (notes/assumptions/86.md). -/
def tableReload (s0 : State) : State :=
  if !s0.panel.wfBad then s0
  else
    let c := wfSlotBytes s0 s0.panel.wfSlot
    let base := nvWfBase + 0x20000 * s0.panel.wfSlot
    let n := max 1 c.length
    let s := nvReport 0 base n { s0 with panel.wfBad := false }
    if !nvBad s.nvm 0 base n && (wfContStep s c).isNone then { s with panel.wf := some (contPayload c) }
    else
      let s1 := regionsEnd s
      tableTake { s1 with panel.wf := none, panel.queue := [], panel.clearing := s1.panel.clearing.cut, panel.driving := false }

/-- R286 step 1 for one region: it completes if its last frame has run. -/
def regionLast (n : Nat) (s : State) : State :=
  match s.region n with
  | none => s
  | some r =>
    if r.balance.isNone && r.driving && decide (r.n ≤ r.f) then
      (if r.req.blink.isSome then phaseDone n r s else regionDone n r s)
    else s

/-- R286 step 2 for one region: its abort balancing ends if it has finished. -/
def regionBalanced (n : Nat) (s : State) : State :=
  match s.region n with
  | none => s
  | some r => if r.balance = some 0 then raiseWith 93 2 r.req.tag (regionFree n r s) else s

/-- R286 steps 1 and 2: every completion, then every end of balancing. -/
def regionsSlot (s : State) : State :=
  let all (f : Nat → State → State) (s : State) : State := (List.range 15).foldl (fun a i => f (i + 1) a) s
  all regionBalanced (all regionLast s)

/-- R294: the device condition lets new requests and phases start. -/
def State.quireStarts (s : State) : Bool := s.sup.mode == .run && !s.safe

/-- R287: a request starts as region n. -/
def startRegion (q : PnlReq) (n : Nat) (p : List Byte) (s : State) : State :=
  let blink := q.blink.isSome
  let s1 := mapRect q.rect (fun w =>
    pxWord (if blink then pxCurrent w else pxStaging w) n (pxStaging w) (pxCurrent w)) s
  let r : Region := { req := q, band := s.panel.bandRun, n := wfFrames p s.panel.bandRun q.mode,
                      startMc := s.chain.mc, startPt := s.chain.pt.toNat }
  setRegion n (some r) s1

/-- R286: the lowest free region number. -/
def State.freeRegion (s : State) : Option Nat := ((List.range 15).map (· + 1)).find? (fun n => (s.region n).isNone)

/-- R286: nothing but the rails keeps a request from starting. -/
def State.reqFree (s : State) (ahead : List PnlReq) (q : PnlReq) : Bool :=
  s.freeRegion.isSome && s.panel.regions.all (fun o => match o with | some r => !r.req.rect.meets q.rect | none => true) &&
  ahead.all (fun a => !a.rect.meets q.rect) && s.quireStarts && s.panel.clearing == .none

/-- R286 step 3, R291: scan the queue from the oldest request. `kept` are the requests ahead that stay. A band change does not keep rails that are off from powering up. -/
def scanQueue (p : List Byte) : List PnlReq → List PnlReq → State → State
  | kept, [], s => { s with panel.queue := kept }
  | kept, q :: rest, s =>
    if s.reqFree kept q && (!s.panel.bandPend || s.panel.rails == .off) then
      if s.panel.rails = .on then
        match s.freeRegion with
        | some n => scanQueue p kept rest (startRegion q n p s)
        | none => scanQueue p (kept ++ [q]) rest s
      else scanQueue p (kept ++ [q]) rest (railsOn s)
    else scanQueue p (kept ++ [q]) rest s

/-- R284: the clearing update starts when it may. -/
def clearStart (p : List Byte) (s : State) : State :=
  let ready := match s.panel.clearing with
    | .due => true
    | .waitTemp => !s.panel.tempInvalid
    | _ => false
  if !ready || !s.quireStarts || s.panel.regions.any (·.isSome) then s
  else if s.panel.rails != .on then railsOn { s with panel.clearing := .due }
  else if s.panel.bandPend then { s with panel.clearing := .due }
  else
    let m := if s.pf 2 18 17 < wfModes p then s.pf 2 18 17 else 0
    { s with panel.clearing := .running m (s.pf 2 22 19) s.panel.bandRun 0 (wfFrames p s.panel.bandRun m) }

/-- R284: the clearing update completes. -/
def clearEnd (s : State) : State :=
  match s.panel.clearing with
  | .running _ lv _ f n =>
    if n ≤ f then
      let s1 := mapRect s.panelRect (fun _ => pxWord lv 0 lv lv) s
      quireRaise { lineCrcs s.panelRect s1 with panel.clearing := .none, panel.cleared := true }
    else s
  | _ => s

/-! ## Driving a frame (R272, R279, R288, R292) -/

/-- R280, R288, R292: the code Quire drives a pixel with in the frame in progress. -/
def State.drivenCode (s : State) (x y : Nat) : Nat :=
  match s.panel.wf with
  | none => 0
  | some p =>
    let w := fmRead s.panel.frame (y * s.pnlW + x)
    match s.panel.clearing with
    | .running m lv b f _ =>
      let c := wfCode p b m f (17 * lv)
      if s.panel.fetchBad.testBit 0 then 0 else if layoutSwaps (wfLayout p m) x y then swapCode c else c
    | _ =>
      if pxRegion w = 0 ∨ s.panel.fetchBad.testBit (pxRegion w) then 0
      else
        match s.region (pxRegion w) with
        | none => 0
        | some r =>
          let e := 16 * pxCurrent w + pxTarget w
          let m := r.req.mode
          if r.req.partialUpd && pxCurrent w == pxTarget w then 0
          else
            match r.balance with
            | some k =>
              if k = 0 then 0
              else
                let c := swapCode (wfCode p r.band m (k - 1) e)
                if layoutSwaps (wfLayout p m) x y then swapCode c else c
            | none =>
              if !r.playing then 0
              else
                let c := wfCode p r.band m r.f e
                if layoutSwaps (wfLayout p m) x y then swapCode c else c

/-- R288, R292: a region after a frame: the next frame of its block, or of its balancing. An abort counts the frames that have run. -/
def Region.after (r : Region) : Region :=
  let r1 :=
    if !r.playing then r
    else match r.balance with
      | some k => { r with playing := false, balance := some (k - 1) }
      | none => { r with playing := false, f := r.f + 1 }
  if r1.aborting then { r1 with aborting := false, balance := some r1.f } else r1

/-- R288: the frame of the slot before, if one was driven, is over. -/
def frameAfter (s : State) : State :=
  let clr := match s.panel.clearing with
    | .running m lv b f n => if s.panel.driving then .running m lv b (f + 1) n else s.panel.clearing
    | c => c
  { s with panel.clearing := clr, panel.driving := false, panel.fetchBad := 0,
           panel.regions := s.panel.regions.map (fun o => o.map Region.after) }

/-- R286: the frame drives; R294: at Throttle the next slot stays empty. -/
def driveFrame (s : State) : State :=
  if s.panel.rest then { s with panel.rest := false }
  else if !s.quireDrives || s.panel.wf.isNone || s.panel.rails != .on then s
  else
    { s with panel.driving := true, panel.rest := s.throttled,
             panel.regions := s.panel.regions.map (fun o => o.map (fun r =>
               { r with playing := r.driving || r.balance.isSome })) }

/-! ## Faults (R295-R297) -/

/-- R297: a panel fault latches. -/
def panelFault (cause : Nat) (s : State) : State :=
  if s.panel.fault then s
  else
    let s2 := railsOff { regionsEnd s with panel.fault := true, panel.cause := cause, panel.queue := [],
                                           panel.clearing := .none, panel.driving := false, panel.rest := false,
                                           panel.bandPend := false }
    tableTake (report 94 1 5 cause (alarmsEval s2))

/-- R282, R295, R296: the panel's size says which check watches it. -/
def State.crackWatched (s : State) : Bool := decide (s.pnlW * s.pnlH ≤ 120000) && s.cb .panel 0 0 27

/-- R295, R297: the crack check of a slot. It runs on while a fault is latched, so that a lasting crack latches again at the first check after the clear. -/
def crackCheck (ok : Bool) (s : State) : State :=
  if !s.crackWatched then { s with panel.crackFails := 0 }
  else if ok then { s with panel.crackFails := 0 }
  else
    let s1 := { s with panel.crackFails := min 2 (s.panel.crackFails + 1) }
    if 2 ≤ s1.panel.crackFails then panelFault 1 s1 else s1

/-- R296: every line's CRC of a driven frame checks. -/
def State.linesOk (s : State) : Bool :=
  (List.range s.pnlH).all (fun y => s.lineCrc y == fmRead s.panel.frame (s.pnlW * s.pnlH + y))

/-- R284, R296: the check of a frame that drives. The clearing update drives every pixel with one entry and reads no line. -/
def lineCheck (readOk : Bool) (s : State) : State :=
  let clears := match s.panel.clearing with | .running .. => true | _ => false
  if s.panel.driving && !clears && decide (120000 < s.pnlW * s.pnlH) && !(readOk && s.linesOk) then panelFault 2 s else s

/-- R34, R281, R298: the live panel fields take effect at a frame start. -/
def panelLive (s : State) : State :=
  let put (w mask : Nat) (img : Image) : Image :=
    img.setWord .panel 0 w (merge (w32 mask) (img.word .panel 0 w) (s.cfg.committed.word .panel 0 w))
  bandDefault { s with cfg.inForce := put 3 (bmask 15 8 + 15) (put 2 (bmask 31 4) (put 0 (2 ^ 27) s.cfg.inForce)) }

/-- R272: PT is a frame slot. -/
def State.isFrameSlot (s : State) : Bool := s.chain.pt == 0 || (s.cb .panel 0 0 30 && s.chain.pt == 2048)

/-- R19, R439: an uncorrectable error in the application SRAM; the restart follows (R455). -/
def sramFault (s : State) : State :=
  memUncorrectable 1 <| alarmsEval { testStop s.sup.safeSram s with sup.safeSram := true, mgt.restartDue := if s.sup.safeSupv then s.mgt.restartDue else some 3 }

/-- R280: the regions whose slice for this frame could not be fetched, of those that drive. -/
def State.fetchHits (s : State) (mask : Nat) : Nat :=
  maskOf 16 (fun n => mask.testBit n &&
    (if n = 0 then (match s.panel.clearing with | .running .. => true | _ => false)
     else match s.region n with | some r => r.driving || r.balance.isSome | none => false))

/-- R22, R54, R286: a frame slot is due. -/
def State.slotDue (s : State) : Bool :=
  s.released && s.pnlEn && s.clk.pllLocked && s.isFrameSlot && !s.sup.safePfw && s.sup.shutAt.isNone && s.inTurn 5

/-- R293 BLINK_PHASE: the next phase of a blinking region starts. -/
def blinkPhase (n : Nat) (s : State) : State :=
  match s.region n with
  | none => s
  | some r =>
    match r.req.blink, s.panel.wf with
    | some period, some p =>
      if r.driving || r.balance.isSome || !s.isFrameSlot || (s.panel.bandPend && s.panel.rails != .off) || !s.quireStarts || s.panel.fault ||
         decide (s.ptSince r.startMc r.startPt < 4096 * (r.phase * s.secMc period)) then s
      else if s.panel.rails != .on then railsOn s
      else
        setRegion n (some { r with driving := true, f := 0, phase := r.phase + 1, band := s.panel.bandRun,
                                   n := wfFrames p s.panel.bandRun r.req.mode })
          (mapRect r.req.rect (fun w => pxWord (pxTarget w) (pxRegion w) (pxStaging w) (pxCurrent w)) s)
    | _, _ => s

/-- R293: the phases of blinking regions that are due start, a phase whose predecessor has completed at this slot among them. -/
def blinkPhases (s : State) : State := (List.range 15).foldl (fun a i => blinkPhase (i + 1) a) s

/-- R286: a slot up to its driving: what ran before it is completed, and what may start does. -/
def slotTurn (s : State) : State :=
  let s0 := tableReload (panelLive (frameAfter (atStage 5 s)))
  let s1 := if s0.cb .panel 0 3 15 then s0 else setTempInvalid true s0
  let s2 := blinkPhases (tableTake (bandCheck (clearEnd (regionsSlot s1))))
  match s2.panel.wf with
  | none => s2
  | some p => scanQueue p [] s2.panel.queue (clearStart p s2)

/-- R19, R280: a fetch for this frame has met an uncorrectable error. -/
def slotFetch (fetchBad : Nat) (s : State) : State :=
  let bad := s.fetchHits fetchBad
  if bad = 0 then s else sramFault { s with panel.wfBad := true, panel.fetchBad := bad }

/-- R286 FRAME_SLOT: what the crack check, the line reads and the waveform fetches found are the operands; `fetchBad` names the regions whose fetch has failed, bit 0 being the clearing update. -/
def frameSlot (crackOk readOk : Bool) (fetchBad : Nat) (s : State) : State :=
  if !s.slotDue then s
  else if s.panel.fault then crackCheck crackOk (panelLive (atStage 5 s))
  else crackCheck crackOk (lineCheck readOk (driveFrame (slotFetch fetchBad (slotTurn s))))

def execFrameSlot (crackOk readOk : Bool) (fetchBad : Nat) (s : State) : Host.Outcome State Fault Refusal :=
  .next (frameSlot crackOk readOk fetchBad s)

/-- R295-R297 PANEL_FAULT: a fault that a check between slots finds: 1 crack, 2 CRC, 3 parity, 4 and 5 rails. -/
def execPanelFault (cause : Nat) (s : State) : Host.Outcome State Fault Refusal :=
  .next (let ok := match cause with
      | 1 => s.crackWatched
      | 2 => decide (120000 < s.pnlW * s.pnlH) && s.panel.driving
      | 3 | 4 | 5 => true
      | _ => false
    if s.released && s.clk.pllLocked && s.pnlEn && ok then panelFault cause s else s)

/-- R282 RAIL_FAULT: no power-good within 20 ms (4), or outside ±10 % for 1 ms (5). -/
def execRailFault (outOfRange : Bool) (s : State) : Host.Outcome State Fault Refusal :=
  .next (onPll s <| match s.panel.rails, outOfRange with
    | .rising _, false | .moving _ _, false => panelFault 4 s
    | .on, true => panelFault 5 s
    | _, _ => s)

def execBlinkPhase (n : Nat) (s : State) : Host.Outcome State Fault Refusal := .next (onPll s (blinkPhase n s))

/-- R284 CLEARING_TEMP_TIMEOUT: 2 s without a valid panel temperature. -/
def execClearingTempTimeout (s : State) : Host.Outcome State Fault Refusal :=
  .next (if s.clk.pllLocked ∧ s.panel.clearing = .waitTemp then { s with panel.clearing := .due } else s)

/-- R426, R450: at the power-fail warning and at Shutdown driving stops and the rails go off. -/
def panelStop (s : State) : State := railsOff { s with panel.driving := false }

/-! ## The panel's pins (R270, R272, R273) -/

/-- R272, R273: the panel's outputs, the data bus as the byte on SDD7-SDD0; `sdclk` says that SDCLK gives this period its pulse. -/
structure PanelPins where
  sdd : Nat := 0
  sdclk : Bool := false
  sdce0 : Bool := false
  sdce1 : Bool := false
  sdle : Bool := false
  gdclk : Bool := false
  gdsp : Bool := false
  gdoe : Bool := false
  sdoe : Bool := false
  gdud : Bool := false
deriving DecidableEq, Repr

/-- R272: SDCLK periods of a line, and lines of a frame. -/
def State.linePeriods (s : State) : Nat := s.pnlW / 4 + s.pf 1 27 20
def State.frameLines (s : State) : Nat := s.pnlH + s.pf 1 19 16

/-- R273: the byte of period i of line j: the codes of the pixels 4i to 4i + 3, the first in the low bits. -/
def State.sddByte (s : State) (i j : Nat) : Nat :=
  ((List.range 4).map (fun q => s.drivenCode (4 * i + q) j * 4 ^ q)).sum

/-- R270, R272, R273, R434: the panel's outputs in SDCLK period p of line j of the frame in progress: all low in reset and while `PNL_EN` is 0, and outside frames all but GDUD. SDD in the blank lines is a choice (notes/assumptions/86.md). -/
def State.panelPins (s : State) (j p : Nat) : PanelPins :=
  if !s.released || !s.pnlEn then {}
  else
    let gdud := s.cb .panel 0 0 29
    if !s.panel.driving || decide (s.frameLines ≤ j) || decide (s.linePeriods ≤ p) then { gdud := gdud }
    else
      let w := s.pnlW / 4
      let half := (s.pnlW + 7) / 8
      let le := s.pf 1 15 12
      let shift := decide (p < w) && decide (j < s.pnlH)
      let pulse := decide (w + 2 ≤ p) && decide (p < w + 2 + le) && decide (j ≤ s.pnlH)
      let fallen := decide (0 < j) || decide (w + 2 + le ≤ p)
      let ce := s.cb .panel 0 0 28
      { sdd := if j < s.pnlH then s.sddByte (min p (w - 1)) j else 0
        sdclk := true
        sdce0 := !(shift && (!ce || decide (p < half)))
        sdce1 := !(shift && ce && decide (half ≤ p))
        sdle := pulse, gdclk := pulse, gdsp := !fallen, gdoe := fallen, sdoe := fallen, gdud := gdud }

/-- R270, R295, R501: CRKA is high for the first 20 µs, 480 reference periods, of each frame slot of a watched panel; `c` counts the reference periods since the slot. Otherwise it is low. -/
def State.crka (s : State) (c : Nat) : Bool :=
  s.released && s.pnlEn && s.clk.pllLocked && s.isFrameSlot && !s.sup.safePfw && s.crackWatched && decide (c < 480)

/-! ## Commands (R364) -/

/-- R364: a rectangle at an offset of a payload. -/
def rectAt (b : List Byte) (o : Nat) : Rect :=
  { x0 := getH b o, y0 := getH b (o + 2), x1 := getH b (o + 4), y1 := getH b (o + 6) }

def rectBytes (r : Rect) : List Byte := le16 r.x0 ++ le16 r.y0 ++ le16 r.x1 ++ le16 r.y1

/-- R364: a region entry. -/
def regionEntry (o : Option Region) : List Byte :=
  match o with
  | none => zeros 16
  | some r =>
    rectBytes r.req.rect ++ le8 r.req.mode ++ le8 r.band ++ le8 r.f ++ le8 r.n ++
    le8 (1 + at' (b2n r.req.blink.isSome) 1 + at' (b2n (r.aborting || r.balance.isSome)) 2) ++ zeros 3

def execPanelStatus (m : Msg) (s : State) : Host.Outcome State Fault Refusal :=
  .next (command { code := 0x4001 } m
    (report' (fun s => leW s.pnlStatus ++ le16 ((s.panel.wf.map wfVersion).getD 0) ++ zeros 2 ++
      s.panel.regions.flatMap regionEntry)) s)

/-- R290: a rectangle touches staging that is locked. -/
def State.stagingLocked (s : State) (r : Rect) : Bool :=
  s.panel.queue.any (fun q => q.rect.meets r) ||
  s.panel.regions.any (fun o => match o with | some x => x.req.blink.isSome && x.req.rect.meets r | none => false)

/-- R364: write packed levels into `STAGING`. -/
def writeStaging (r : Rect) (data : List Byte) (s : State) : State :=
  { s with panel.frame := r.pixels.zipIdx.foldl (fun m p =>
      let a := p.1.2 * s.pnlW + p.1.1
      let b := getB data (p.2 / 2)
      let v := if p.2 % 2 = 0 then b % 16 else b / 16
      fmWrite m a (fmRead m a % 4096 + at' v 12)) s.panel.frame }

/-- R364: the pixels of a rectangle. -/
def Rect.count (r : Rect) : Nat := (r.x1 + 1 - r.x0) * (r.y1 + 1 - r.y0)

/-- R340, R364: the length that the rectangle of a PANEL.WRITE gives it; corners out of order give none. -/
def panelWriteFits (d : List Byte) : Bool :=
  let r := rectAt d 0
  decide (r.x1 < r.x0) || decide (r.y1 < r.y0) || d.length == 8 + (r.count + 1) / 2

/-- R290, R364: a whole PANEL.WRITE object. -/
def panelWrite (d : List Byte) (s : State) : State × Reply :=
  let r := rectAt d 0
  let n := r.count
  let data := d.drop 8
  if d.length < 8 ∨ !s.rectOk r ∨ data.length ≠ (n + 1) / 2 ∨ (n % 2 = 1 ∧ 16 ≤ getB data (n / 2)) then (s, .st stBadArg)
  else if s.stagingLocked r then (s, .st stBusy)
  else (writeStaging r data s, .st stOk)

def execPanelWrite (m : Msg) (s : State) : Host.Outcome State Fault Refusal :=
  .next (command { code := 0x4002, len := fun n => decide (8 ≤ n), fits := panelWriteFits, chunks := .inbound } m
    (fun m s =>
      if m.chunk then
        match takeChunk 0x4002 false m s with
        | (s1, .err st) => (s1, .st st)
        | (s1, .more) => (s1, .st stOk)
        | (s1, .whole d) => panelWrite d s1
      else panelWrite m.payload s) s)

/-- R364: a plane's level of a pixel word. -/
def planeOf (plane w : Nat) : Nat :=
  match plane with | 0 => pxCurrent w | 1 => pxTarget w | 2 => pxRegion w | _ => pxStaging w

/-- R364: levels packed two per byte. -/
def packLevels : List Nat → List Byte
  | [] => []
  | [a] => [BitVec.ofNat 8 a]
  | a :: b :: t => BitVec.ofNat 8 (a + 16 * b) :: packLevels t

def execPanelRead (m : Msg) (s : State) : Host.Outcome State Fault Refusal :=
  .next (command { code := 0x4003, len := fun n => n == 12, chunks := .fetch } m
    (fun m s =>
      let r := rectAt m.payload 4
      if 3 < getB m.payload 0 ∨ !padOk m 1 3 ∨ !s.rectOk r then (s, .st stBadArg)
      else
        (s, .object (packLevels (r.pixels.map (fun p =>
          planeOf (getB m.payload 0) (fmRead s.panel.frame (p.2 * s.pnlW + p.1))))))) s)

/-- R285: the request of a PANEL.UPDATE payload. -/
def updateReq (b : List Byte) : PnlReq :=
  { rect := rectAt b 0, mode := getB b 8, partialUpd := (getB b 9).testBit 0,
    blink := if (getB b 9).testBit 1 then some (getB b 10) else none, tag := getH b 12 }

def execPanelUpdate (m : Msg) (s : State) : Host.Outcome State Fault Refusal :=
  .next (command { code := 0x4004, len := fun n => n == 16 } m
    (fun m s =>
      let b := m.payload
      let q := updateReq b
      let per := getB b 10
      let perOk := if q.blink.isSome then decide (1 ≤ per) && decide (per ≤ 60) else per == 0
      let modeBad := match s.panel.wf with | some p => decide (wfModes p ≤ q.mode) | none => false
      if !s.pnlEn || decide (4 ≤ getB b 9) || !padOk m 11 1 || !padOk m 14 2 || !s.rectOk q.rect || !perOk then
        (s, .st stBadArg)
      else if modeBad then (s, .st stBadArg)
      else if s.panel.fault || s.noTable then (s, .st stBusy)
      else if 16 ≤ s.panel.queue.length then (s, .st stNoResource)
      else ({ s with panel.queue := s.panel.queue ++ [q] }, .ok (le8 s.panel.queue.length ++ zeros 3))) s)

def execPanelAbort (m : Msg) (s : State) : Host.Outcome State Fault Refusal :=
  .next (command { code := 0x4005, len := fun n => n == 4 } m
    (fun m s =>
      let n := getB m.payload 1
      match getB m.payload 0 with
      | 0 =>
        match s.panel.queue.find? (fun q => q.tag == getH m.payload 2) with
        | none => (s, .st stBadArg)
        | some q => (tableTake { s with panel.queue := s.panel.queue.erase q }, .st stOk)
      | 1 =>
        if n = 0 ∨ 15 < n then (s, .st stBadArg)
        else
          match s.region n with
          | none => (s, .st stBadArg)
          | some r =>
            if r.aborting || r.balance.isSome then (s, .st stOk)
            else if r.f = 0 then (tableTake (regionFree n r s), .st stOk)
            else (setRegion n (some { r with aborting := true }) s, .st stOk)
      | _ => (s, .st stBadArg)) s)

def execPanelBlinkStop (m : Msg) (s : State) : Host.Outcome State Fault Refusal :=
  .next (command { code := 0x4006, len := fun n => n == 4 } m
    (fun m s =>
      let n := getB m.payload 0
      if n = 0 ∨ 15 < n ∨ !padOk m 1 3 then (s, .st stBadArg)
      else
        match s.region n with
        | none => (s, .st stBadArg)
        | some r =>
          if r.req.blink.isNone then (s, .st stBadArg)
          else if r.driving || r.balance.isSome then (setRegion n (some { r with stopping := true }) s, .st stOk)
          else (tableTake (regionDone n r s), .st stOk)) s)

def execPanelClearFault (m : Msg) (s : State) : Host.Outcome State Fault Refusal :=
  .next (command { code := 0x4007 } m
    (fun _ s =>
      if s.panel.fault then
        (alarmsEval { s with panel.fault := false, panel.cause := 0, panel.clearing := .due }, .st stOk)
      else (s, .st stOk)) s)

end Sys2Proof.Machine
end

