-- ==== Sys2Proof/Machine/Ports.lean ====
section
/-! DEFINITION. The bus ports: what each carries, its buffers and its reports (R369-R372, R389-R391). -/

namespace Sys2Proof.Machine

/-- R373 `BAC_PORT`. -/
def State.bacPort (s : State) : Nat := s.cf .bus 0 0 3 2

/-- R369: an IP port is switched on; an MS/TP port has no switch of its own. -/
def State.portOn (s : State) (p : Nat) : Bool :=
  if p = 2 then s.cb .bus 0 0 4 else if p = 3 then s.cb .bus 0 0 5 else decide (p < 2)

/-- R369: the port carries BACnet. -/
def State.carriesBac (s : State) (p : Nat) : Bool := s.cb .bus 0 0 0 && p == s.bacPort && s.portOn p

/-- R369: the port carries Acre. -/
def State.carriesAcre (s : State) (p : Nat) : Bool := s.acreActive && p == s.acrePort

/-- R369, R437: the ports start at the release of the control path; one that carries neither is disabled. -/
def State.portEnabled (s : State) (p : Nat) : Bool := s.released && (s.carriesBac p || s.carriesAcre p)

/-- R22, R440: the bus controllers of an enabled port run from the system PLL. -/
def State.portRuns (s : State) (p : Nat) : Bool := s.portEnabled p && s.clk.pllLocked

/-- R369: frames that a port's buffers hold. -/
def rxLimit (p : Nat) : Nat := if p < 2 then 4 else 16
def txLimit (p : Nat) : Nat := if p < 2 then 4 else 8

def State.port (s : State) (p : Nat) : Port := nth s.bus.ports p

/-- R391: T1L and RMII share source 99. -/
def portReport (p : Nat) (s : State) : State := report (97 + min p 2) 3 2 p s

/-- R391: `FD_REG` changes. -/
def setFdReg (v : Bool) (s : State) : State :=
  if s.bus.fdReg = v then s else portReport s.bacPort { s with bus.fdReg := v }

/-- R371, R389: the foreign registration ends. -/
def fdEnd (s : State) : State := setFdReg false { s with bus.fdPending := false, bus.fdRemain := 0, bus.fdSent := none }

/-- R372, R391: a frame is dropped; the first drop after 60 s without one is reported. -/
def dropFrame (p : Nat) (s : State) : State :=
  let first := match (s.port p).lastDropMc with
    | none => true
    | some a => decide (s.secMc 60 < s.mcSince a)
  let s1 := updPort p (fun x => { x with rxDrop := incSat 32 x.rxDrop, lastDropMc := some s.chain.mc }) s
  if first then portReport p s1 else s1

/-- R372, R390: a frame that finds room in the receive buffer; a confirmed request stays there until a transmit buffer has been reserved for its answer. -/
def takeFrame (p : Nat) (k : FrameKind) (s : State) : State :=
  match k with
  | .bad => updPort p (fun x => { x with rxErr := incSat 32 x.rxErr }) s
  | .confirmed =>
    updPort p (fun x =>
      let y := { x with rxFrames := incSat 32 x.rxFrames }
      if x.tx < txLimit p then { y with tx := x.tx + 1, taken := x.taken + 1 } else { y with rx := x.rx + 1 }) s
  | .ack i =>
    updPort p (fun x => { x with rxFrames := incSat 32 x.rxFrames })
      { s with bus.outstanding := s.bus.outstanding.eraseIdx i }
  | .other | .notAccepted => updPort p (fun x => { x with rxFrames := incSat 32 x.rxFrames }) s

/-- R34, R373: the live fields of word w of the BUS section that belong to a port: its own enable, and for the BACnet port the others. -/
def State.busLive (s : State) (p w : Nat) : Nat :=
  let own := if p = s.bacPort then (if w = 0 then 1 else (wdef .bus 0 w).live) else 0
  if w = 0 then own + (if p = 2 then 0x10 else if p = 3 then 0x20 else 0) else own

/-- R34: the live fields of word w of the BUS section that wait for no boundary, because their port is disabled. -/
def State.busIdle (s : State) (w : Nat) : Nat :=
  (List.range 4).foldl (fun m p => if s.portEnabled p then m else m ||| s.busLive p w) 0

/-- R369, R372, R389: a disabled port holds no frame and has no link; a link that this ends is reported (R391). -/
def portStop (s : State) (p : Nat) : State :=
  if s.portEnabled p then s
  else
    let s1 := updPort p (fun x => { x with rx := 0, tx := 0, taken := 0, linkUp := false, soleMaster := false }) s
    if (s.port p).linkUp then portReport p s1 else s1

/-- R369, R371, R373: BUS fields have come into force: a changed `TREND` word restarts its log, Acre starts or stops, disabled ports stop, and without BACnet or `FD_EN` there is no registration. -/
def busInForce (old : Image) (s : State) : State :=
  let s1 := acreEval { s with bus.trends := (List.range 16).map (fun n =>
      if old.word .bus 0 (31 + n) = s.cw .bus 0 (31 + n) then nth s.bus.trends n else {}) }
  let s3 := (List.range 4).foldl portStop s1
  let s2 := { s3 with bus.held := if s3.carriesBac s3.bacPort then s3.bus.held else [] }
  if s2.carriesBac s2.bacPort && s2.cb .bus 0 0 7 then s2 else fdEnd s2

/-- R34, R373: a frame boundary on a port, at the end of a frame received or sent (notes/assumptions/9.md): its live fields come into force together. -/
def frameBoundary (p : Nat) (s : State) : State :=
  let img := (List.range 64).foldl (fun (g : Image) w =>
    g.setWord .bus 0 w (merge (w32 (s.busLive p w)) (g.word .bus 0 w) (s.cfg.committed.word .bus 0 w))) s.cfg.inForce
  if img = s.cfg.inForce then s else busInForce s.cfg.inForce { s with cfg.inForce := img }

/-- R372 BUS_FRAME_RECEIVE. Only the BACnet port takes requests and answers. -/
def busFrameReceive (p : Nat) (k : FrameKind) (s : State) : State :=
  if rxLimit p ≤ (s.port p).rx then dropFrame p s
  else takeFrame p (if s.carriesBac p || k == .bad then k else .other) s

def execBusFrameReceive (p : Nat) (k : FrameKind) (s : State) : Host.Outcome State Fault Refusal :=
  .next (if p < 4 ∧ s.portRuns p then frameBoundary p (busFrameReceive p k s) else s)

/-- R372: a transmit buffer is freed, and a waiting confirmed request reserves it. -/
def Port.txFree (x : Port) : Port :=
  { x with tx := x.tx - 1 + b2n (x.rx != 0), taken := x.taken + b2n (x.rx != 0), rx := x.rx - 1 }

/-- R372, R390 BUS_FRAME_TRANSMIT_DONE: a frame has left its transmit buffer; a buffer that is only reserved holds none. -/
def frameSent (p : Nat) (s : State) : State :=
  updPort p (fun x => if x.tx ≤ x.taken then x else { x.txFree with txFrames := incSat 32 x.txFrames }) s

/-- R372: a transmit buffer of the BACnet port is free. -/
def State.txRoom (s : State) : Bool := decide ((s.port s.bacPort).tx < txLimit s.bacPort)

/-- R372: put an unsolicited frame into a transmit buffer that is free. -/
def busQueue (s : State) : State := updPort s.bacPort (fun x => { x with tx := x.tx + 1 }) s

/-- R391 LINK_UP_CHANGE: on MS/TP, `sole` says whether another master has answered, and a lost token is counted. -/
def linkChange (p : Nat) (up sole : Bool) (s : State) : State :=
  let x := s.port p
  let s1 := updPort p (fun x => { x with linkUp := up, soleMaster := decide (p < 2) && sole,
                                         tokenLost := if p < 2 ∧ x.linkUp ∧ !up then incSat 32 x.tokenLost else x.tokenLost }) s
  if x.linkUp = up then s1 else portReport p s1

def execLinkUpChange (p : Nat) (up sole : Bool) (s : State) : Host.Outcome State Fault Refusal :=
  .next (if p < 4 ∧ s.portRuns p then linkChange p up sole s else s)

/-! ## `BUS.STATUS`, `BUS.COUNTERS` (R365, R389, R390) -/

/-- R389 `PORT_STATUS`. -/
def State.portStatus (s : State) (p : Nat) : Word :=
  let x := s.port p
  w32 (at' (b2n (s.carriesAcre p)) 7 + at' (b2n (s.carriesBac p)) 6 + at' (b2n (s.bus.fdReg && s.carriesBac p)) 5 +
    at' s.bus.dcc.code 3 + at' (b2n (x.soleMaster && decide (p < 2))) 2 + at' (b2n x.linkUp) 1 +
    b2n (s.portEnabled p))

/-- R389: the IPv4 address in use. -/
def State.portAddr (s : State) (p : Nat) : Word :=
  if p = 2 then s.cw .bus 0 4 else if p = 3 then s.cw .bus 0 7 else 0

def execBusStatus (m : Msg) (s : State) : Host.Outcome State Fault Refusal :=
  .next (command { code := 0x5001, len := fun n => n == 4 } m
    (fun m s =>
      let p := getB m.payload 0
      if 3 < p ∨ !padOk m 1 3 then (s, .st stBadArg)
      else
        (s, .ok (leW (s.portStatus p) ++ leW (s.portAddr p) ++
          le16 (if s.carriesBac p then s.bus.fdRemain else 0) ++ zeros 2))) s)

/-- R390: the eight counters. -/
def Port.counters (x : Port) : List Byte :=
  [x.rxFrames, x.txFrames, x.rxDrop, x.rxErr, x.tokenLost, x.covSent, x.notifFail, x.acreRx].flatMap le32

def Port.clear (x : Port) : Port :=
  { x with rxFrames := 0, txFrames := 0, rxDrop := 0, rxErr := 0, tokenLost := 0, covSent := 0, notifFail := 0, acreRx := 0 }

def execBusCounters (m : Msg) (s : State) : Host.Outcome State Fault Refusal :=
  .next (command { code := 0x5002, len := fun n => n == 4 } m
    (fun m s =>
      let p := getB m.payload 0
      if 3 < p ∨ 1 < getB m.payload 1 ∨ !padOk m 2 2 then (s, .st stBadArg)
      else (if getB m.payload 1 = 1 then updPort p Port.clear s else s, .ok (s.port p).counters)) s)

end Sys2Proof.Machine
end

