-- ==== Sys2Proof/Machine/Commit.lean ====
section
/-! DEFINITION. Configuration commits: locked fields, the slot write, and handing every changed field to its block (R33-R36, R349-R354). -/

namespace Sys2Proof.Machine

/-! ## Open or idle (R34) -/

/-- R34: are the locked fields that `diff` changes in a word free to change. Before the release of the control path every block is idle. -/
def State.lockFree (s : State) (sec : Sec) (i w : Nat) (diff : Word) : Bool :=
  !s.released ||
  match sec with
  | .stone => s.stone.run.isNone
  | .loop => (s.loop (i + 1)).dyn.st != .closed
  | .sol => s.slPaused i
  | .act => s.actIdle i
  | .actDev => (!bit diff 0 || (s.actIdle 28 && s.actIdle 29)) && (!bit diff 1 || (s.actIdle 30 && s.actIdle 31))
  | .fan => s.fanIdle i
  | .panel => decide (1 < w) || s.quireIdle
  | .bus => (List.range 4).all (fun p => !s.portEnabled p)
  | _ => true

/-- R349 step 2: a word whose changed locked field is not free; CHAIN fields are accepted and wait for the reset. -/
def State.lockBad (s : State) (img : Image) (sec : Sec) (i w : Nat) : Bool :=
  let diff := (img.word sec i w ^^^ s.cfg.committed.word sec i w) &&& w32 (wdef sec i w).locked
  sec != .chain && diff != 0 && !s.lockFree sec i w diff

/-! ## Handing the changes over (R34-R36, R349 step 4) -/

/-- R350: the image with every `OUT_HOLD` as it is in force. -/
def withOutHold (s : State) (img : Image) : Image :=
  img.set Sec.loop.index ((List.range (127 * 12)).map (fun k =>
    let v := img.word .loop (k / 12) (k % 12)
    if k % 12 = 3 then merge 0xFFFF v (s.cw .loop (k / 12) 3) else v))

/-- Instances of a section in which two images differ. -/
def changedInsts (a b : Image) (sec : Sec) : List Nat :=
  (List.range sec.instances).filter (fun i => a.inst sec i != b.inst sec i)

/-- Section IDs and instances in which two images differ. -/
def changedAll (a b : Image) : List (Nat × Nat) :=
  Sec.all.flatMap (fun sec => (changedInsts a b sec).map (fun i => (sec.id, i)))

/-- R349 step 4, R435: the bits of a word that take effect at the commit itself: locked fields, which before the release wait for it, and live fields whose block has no boundary to wait for: of sections without one, and before the release of every block but Chain and the learner (notes/assumptions/9.md). -/
def State.atOnce (s : State) (sec : Sec) (i w : Nat) : Nat :=
  let d := wdef sec i w
  let locked := if s.released then d.locked else 0
  let rest := if s.released then 0 else all32 - d.locked
  match sec with
  | .chain => 0
  | .gpio | .snap => all32
  | .bus => locked ||| s.busIdle w
  | .loop =>
    let idle := (s.loop (i + 1)).dyn.st == .disabled || (s.loop (i + 1)).dyn.st == .fault
    if w = 3 then (if idle then bmask 31 16 else 0)
    else if s.released && idle then all32
    else locked ||| rest
  | .sol => locked
  | _ => locked ||| rest

/-- The words of a section in force after a commit. -/
def handSec (s : State) (sec : Sec) : List Word :=
  (List.range (sec.instances * sec.words)).map (fun k =>
    let i := k / sec.words
    let w := k % sec.words
    merge (w32 (s.atOnce sec i w)) (s.cw sec i w) (s.cfg.committed.word sec i w))

/-- The configuration in force after a commit. -/
def handOver (s : State) : State := { s with cfg.inForce := Sec.all.map (handSec s) }

/-! ## What a commit does to its blocks beyond their fields -/

/-- R175, R177: a loop enabled, disabled, or rewritten while in FAULT. -/
def loopCommitEffect (old : Image) (rewritten : Bool) (s : State) (i : Nat) : State :=
  let l := i + 1
  let was := old.bit .loop i 0 0
  let on := s.loopEn l
  if !s.released then s
  else if was && !on then stopLoop l s
  else if on && (!was || (rewritten && (s.loop l).dyn.st == .fault)) then startLoop l s
  else s

/-- R201, R206: a changed locked field discards the slot; the next pass writes `FF_IN` of the loop it had. -/
def solCommitEffect (old : Image) (s : State) (k : Nat) : State :=
  let d := (old.word .sol k 0 ^^^ s.cw .sol k 0) &&& w32 (wdef .sol k 0).locked
  if d = 0 then s
  else
    let s1 := solDiscard k s
    if old.bit .sol k 0 31 then { s1 with rood.ffDue := s1.rood.ffDue ++ [old.fld .sol k 0 23 17] } else s1

/-- R266: a change of `TACH_EN` or `PPR` restarts the speed measurement. -/
def fanCommitEffect (old : Image) (s : State) (f : Nat) : State :=
  if old.fld .fan f 0 21 19 = s.ff f 21 19 then s else updFan f freshTach s

/-- R236, R248: rewriting a channel's words clears its latched faults; a changed word makes its FLOAT pair resynchronize. -/
def actCommitEffect (old : Image) (s : State) (n : Nat) : State :=
  let s1 := clearChannel n s
  if old.inst .act n = s.cfg.committed.inst .act n then s1
  else updCh (n - n % 2) (fun c => { c with flSync := true }) s1

/-- R132: a change of Stone's `MODE` to host mode loads the host set with the coefficients in force. `old` is here and below the image in force before. -/
def stoneCommitEffect (old : Image) (before : State) (s : State) : State :=
  if !old.bit .stone 0 0 0 && s.cb .stone 0 0 0 then
    let c := before.coefRecord
    { s with stone.hostSet := if c.valid then some c else none }
  else s

/-- R270: the panel is switched on or off. -/
def panelCommitEffect (old : Image) (s : State) : State :=
  if old.bit .panel 0 0 31 && !s.pnlEn then panelStop s else s

/-- R346: a pin that becomes an output drives `OUT_INIT` (notes/assumptions/61.md). -/
def gpioCommitEffect (old : Image) (s : State) (g : Nat) : State :=
  if old.fld .gpio g 0 7 6 = 0 ∧ s.cf .gpio g 0 7 6 ≠ 0 then
    { s with gpio.out := s.gpio.out.set g (s.cb .gpio g 0 4) }
  else s

/-- What fields that have come into force do to their blocks beyond them; `was` is the image in force before. -/
def forceEffects (was : Image) (before : State) (s : State) : State :=
  let changed (sec : Sec) : List Nat := changedInsts was s.cfg.inForce sec
  let s1 := (changed .sol).foldl (solCommitEffect was) (stoneCommitEffect was before s)
  let s2 := (changed .fan).foldl (fanCommitEffect was) s1
  busInForce was ((changed .gpio).foldl (gpioCommitEffect was) (panelCommitEffect was s2))

/-- The effects of a commit on the blocks, for the instances rewritten; `old` is the copy committed before, and `boost` says that `BOOST_CFG` is among the words rewritten (R248). -/
def blockEffects (old : Image) (before : State) (rw : List (Nat × Nat)) (boost : Bool) (s : State) : State :=
  let insts (sec : Sec) : List Nat := (rw.filter (fun p => p.1 == sec.id)).map (·.2)
  let s1 := (List.range 127).foldl (fun a i => loopCommitEffect old ((insts .loop).contains i) a i) s
  let s2 := (insts .act).foldl (actCommitEffect old) s1
  let s3 := if boost then clearBoost s2 else s2
  let s4 := (insts .fan).foldl (fun a f => clearFan f a) s3
  forceEffects before.cfg.inForce before s4

/-- R435: at the release of the control path every field but Chain's comes into force as committed; `OUT_HOLD` is Rood's own (R350), and the live fields of the learner wait for the bin boundary (R201). -/
def commitsRelease (s : State) : State :=
  let img0 := withOutHold s s.cfg.committed
  let img := Sec.all.map (fun sec =>
    match sec with
    | .chain => s.cfg.inForce.sec .chain
    | .sol => (List.range 64).map (fun k => merge (w32 (wdef .sol k 0).locked) (s.cw .sol k 0) (img0.word .sol k 0))
    | _ => img0.sec sec)
  forceEffects s.cfg.inForce s (modsArm { s with cfg.inForce := img })

/-! ## `CFG_STATUS` (R354) -/

/-- R349, R354 `RESET_PEND`: CHAIN fields await a reset. -/
def State.chainPend (s : State) : Bool :=
  (List.range 3).any (fun w =>
    (s.cw .chain 0 w ^^^ s.cfg.committed.word .chain 0 w) &&& w32 (wdef .chain 0 w).locked != 0)

/-- R36, R354 `PEND_COUNT`: staged fields that wait. -/
def State.pendCount (s : State) : Nat :=
  (List.range 127).foldl (fun a i =>
    a + b2n (s.cf .loop i 1 15 14 != s.cfg.committed.fld .loop i 1 15 14) +
      b2n (s.cf .loop i 1 6 0 != s.cfg.committed.fld .loop i 1 6 0)) 0

/-- R354 `CFG_STATUS`. -/
def State.cfgStatus (s : State) : Word :=
  w32 (at' (b2n s.cfg.edit.isSome) 31 + at' (b2n s.cfg.dflt) 30 + at' (b2n s.cfg.origin1) 29 +
    at' (b2n s.cfg.fallback) 28 + at' s.cfg.activeSlot 27 + at' (b2n s.cfg.resetPend) 26 + s.pendCount)

/-! ## The commit (R349) -/

/-- R349: a response's locator. -/
def State.locReply (s : State) (st : Nat) (l : Locator) : Reply := .done st (leW s.cfg.slotSeq ++ l.bytes)

/-- R349: a failed commit: source 121, and what `CFG.STATUS` reports. -/
def commitFailed (st : Nat) (l : Locator) (s : State) : State :=
  report 121 4 2 0 { s with cfg.lastStatus := st, cfg.loc := l }

/-- R349 step 3: the NVM codewords of a slot: the body and what follows it first, the header last. An `ORIGIN` 1 slot takes the body that the container's digest covers (R461). -/
def commitCws (s : State) (p : PendingCommit) : List CwWrite :=
  let base := nvCfgBase + 0x10000 * p.slot
  nvCws s.nvm 0 (base + 64) (p.slotImg.body ++ p.container) ++
  nvCws s.nvm 0 base (slotHeader p.seq p.slotImg p.origin1 p.version)

/-- R349 steps 1-3 for an image as it will stand. The stored copy takes the `OUT_HOLD` in force (R350), but for a container committed as loaded, whose slot must verify with the container's digest (R461; notes/assumptions/15.md). `busy` is R351's `ST_BUSY`, `closed` R174's `ST_LOOP_CLOSED`. -/
def commitStart (img0 : Image) (busy closed : Bool) (p : PendingCommit) (s : State) : State × Reply :=
  let img := withOutHold s img0
  match commitFail s img with
  | some l => (commitFailed stBadArg l s, s.locReply stBadArg l)
  | none =>
    if busy then (commitFailed stBusy {} s, s.locReply stBusy {})
    else
      match imgFind (s.lockBad img) with
      | some l => (commitFailed stLocked l s, s.locReply stLocked l)
      | none =>
        if closed then (commitFailed stLoopClosed {} s, s.locReply stLoopClosed {})
        else if s.thermalBars then (commitFailed stThermal {} s, s.locReply stThermal {})
        else if s.bushel.closed then (commitFailed stNvFail {} s, s.locReply stNvFail {})
        else
          let q := { p with img := img, slotImg := if p.origin1 then img0 else img, slot := 1 - s.cfg.activeSlot, seq := s.cfg.slotSeq + 1 }
          let op : NvOp := { job := .commit, cws := commitCws s q }
          ({ s with cfg.pendingCommit := some q, nvm := nvSubmit s.nvm 2 op }, .wait)

/-- R349 steps 4, 5: the slot has been written and read back. -/
def commitApply (p : PendingCommit) (s : State) : State :=
  let old := s.cfg.committed
  let edit := if p.fromEdit then none else s.cfg.edit.map (fun e => { e with stale := true })
  let cfg := { s.cfg with committed := p.img, stored := p.slotImg, slotSeq := p.seq, activeSlot := p.slot,
                          origin1 := p.origin1, version := p.version, container := p.container, edit := edit,
                          lastStatus := stOk, loc := {}, pendingCommit := none }
  let s1 := modsArm (handOver { s with cfg := cfg })
  let rw := if p.fromEdit then changedAll old p.img else p.named
  let boost := if p.fromEdit then old.word .actDev 0 1 != p.img.word .actDev 0 1
    else p.named.any (fun x => x.1 == Sec.actDev.id)
  let s2 := blockEffects old s rw boost s1
  let s3 := { s2 with cfg.resetPend := s2.chainPend }
  let s4 := match p.outHold with
    | some (l, v) => if (s3.loop l).dyn.st = .closed then s3 else writeOutHold l v s3
    | none => s3
  let s5 := if p.origin1 then raiseFloor 3 (w32 p.version) s4 else s4
  report 121 4 2 0 s5

/-- R349, R493: the slot's write has ended. -/
def commitDone (ok : Bool) (s : State) : State :=
  match s.cfg.pendingCommit with
  | none => s
  | some p =>
    if ok then
      let s1 := commitApply p s
      finish stOk (leW s1.cfg.slotSeq ++ Locator.bytes {}) s1
    else
      let s1 := commitFailed stNvFail {} { s with cfg.pendingCommit := none }
      finish stNvFail (leW s1.cfg.slotSeq ++ Locator.bytes {}) s1

/-! ## `SET_` commands (R351) -/

/-- R351: commit words of one instance of a section, from word w on. -/
def setWords (sec : Sec) (i w : Nat) (ws : List Word) (s : State) : State × Reply :=
  commitStart (s.cfg.committed.setWords sec (i * sec.words + w) ws) s.cfg.edit.isSome false
    { version := s.cfg.version, named := [(sec.id, i)] } s

/-- R340, R351: a `SET_` command of one instance: u8 instance, 3 `pad`, the words; `base` is the number of the first instance. -/
def setInst (sec : Sec) (base : Nat) (m : Msg) (s : State) : State × Reply :=
  let n := getB m.payload 0
  if n < base ∨ sec.instances + base ≤ n ∨ !padOk m 1 3 then (s, s.locReply stBadArg {})
  else setWords sec (n - base) 0 (getWords m.payload 4 sec.words) s

/-- The command spec of a `SET_` command. -/
def setSpec (code len : Nat) : CmdSpec := { code := code, len := fun n => n == len, signedBars := true }

/-- R345-R351: every instance of a section, or the words of a section of one instance, in one command. -/
def setAll (sec : Sec) (m : Msg) (s : State) : State × Reply :=
  commitStart (s.cfg.committed.setWords sec 0 (getWords m.payload 0 (sec.instances * sec.words))) s.cfg.edit.isSome false
    { version := s.cfg.version, named := (List.range sec.instances).map (fun i => (sec.id, i)) } s

/-- R360: `LOOP.SET_CFG`, with its `OUT_HOLD` written apart from the commit. -/
def setLoop (m : Msg) (s : State) : State × Reply :=
  let l := getB m.payload 0
  if !loopOk l ∨ !padOk m 1 3 then (s, s.locReply stBadArg {})
  else
    let ws := getWords m.payload 4 12
    let hold := fld (nth ws 3) 15 0
    let same := decide (hold = s.outHold l)
    commitStart (s.cfg.committed.setWords .loop ((l - 1) * 12) ws) s.cfg.edit.isSome
      (!same && (s.loop l).dyn.st == .closed)
      { version := s.cfg.version, named := [(Sec.loop.id, l - 1)], outHold := if same then none else some (l, hold) } s

end Sys2Proof.Machine
end

