-- ==== Sys2Proof/Machine/CfgCmds.lean ====
section
/-! DEFINITION. The configuration group and every `SET_` command that commits configuration words (R180, R249, R250, R266, R298, R346-R365, R400). -/

namespace Sys2Proof.Machine

/-! ## The configuration group (R352, R354, R357) -/

/-- R352: `CFG.BEGIN` opens an edit of the configuration as last committed. -/
def cfgBegin (s : State) : State :=
  { s with cfg.edit := some { img := s.cfg.committed, version := s.cfg.version } }

def execCfgBegin (m : Msg) (s : State) : Host.Outcome State Fault Refusal :=
  .next (command { code := 0x0201, signedBars := true } m (fun _ s => (cfgBegin s, .st stOk)) s)

/-- R357: a range of words of a section: the section and its first word; none where it does not exist. -/
def cfgSpan (sec inst word count limit : Nat) : Option (Sec × Nat) :=
  match Sec.ofId sec with
  | none => none
  | some x =>
    let start := inst * x.words + word
    if inst < x.instances ∧ word < x.words ∧ 1 ≤ count ∧ count ≤ limit ∧ start + count ≤ x.instances * x.words
    then some (x, start) else none

/-- R373: `RD_PASS` reads 0. -/
def readWord (sec : Sec) (k : Nat) (w : Word) : Word :=
  if sec = .bus ∧ 17 ≤ k ∧ k ≤ 20 then 0 else w

/-- R357: `CFG.READ`. -/
def cfgRead (m : Msg) (s : State) : State × Reply :=
  let p := m.payload
  let img : Option Image := match getB p 1 with
    | 0 => some s.cfg.inForce
    | 1 => s.cfg.edit.map Edit.img
    | 2 => some s.cfg.stored
    | _ => none
  match img, cfgSpan (getB p 0) (getH p 2) (getH p 4) (getH p 6) 1018 with
  | some img, some (sec, start) =>
    (s, .ok ((List.range (getH p 6)).flatMap (fun k => leW (readWord sec (start + k) ((img.sec sec).getD (start + k) 0)))))
  | _, _ => (s, .st stBadArg)

def execCfgRead (m : Msg) (s : State) : Host.Outcome State Fault Refusal :=
  .next (command { code := 0x0202, len := fun n => n == 8 } m cfgRead s)

/-- R352, R357: `CFG.WRITE` writes words of the working copy, which is then no unmodified loaded copy. -/
def cfgWrite (m : Msg) (s : State) : State × Reply :=
  let p := m.payload
  let n := getH p 6
  match s.cfg.edit, cfgSpan (getB p 0) (getH p 2) (getH p 4) n 1016 with
  | some e, some (sec, start) =>
    let ws := getWords p 8 n
    let bad := (List.range n).any (fun k =>
      (nth ws k &&& w32 (wdef sec ((start + k) / sec.words) ((start + k) % sec.words)).rsv) != 0)
    if getB p 1 ≠ 0 ∨ bad then (s, .st stBadArg)
    else ({ s with cfg.edit := some { e with img := e.img.setWords sec start ws, container := none } }, .st stOk)
  | _, _ => (s, .st stBadArg)

def execCfgWrite (m : Msg) (s : State) : Host.Outcome State Fault Refusal :=
  .next (command { code := 0x0203, len := fun n => decide (12 ≤ n) && decide (n ≤ 4072),
                     fits := fun p => p.length == 8 + 4 * getH p 6, signedBars := true } m cfgWrite s)

/-- R341, R349, R352: `CFG.COMMIT`. An edit that another commit has overtaken closes with `ST_BUSY` once its commit checks pass. -/
def cfgCommit (s : State) : State × Reply :=
  match s.cfg.edit with
  | none => (commitFailed stBadArg {} s, s.locReply stBadArg {})
  | some e =>
    if e.stale && (commitFail s (withOutHold s e.img)).isNone then
      (commitFailed stBusy {} { s with cfg.edit := none }, s.locReply stBusy {})
    else
      commitStart e.img false false
        { fromEdit := true, origin1 := e.container.isSome, version := e.version,
          container := match e.container with | some (h, sb) => h ++ sb | none => [] } s

def execCfgCommit (m : Msg) (s : State) : Host.Outcome State Fault Refusal :=
  .next (command { code := 0x0204 } m (fun _ s => cfgCommit s) s)

def execCfgDiscard (m : Msg) (s : State) : Host.Outcome State Fault Refusal :=
  .next (command { code := 0x0205 } m (fun _ s => ({ s with cfg.edit := none }, .st stOk)) s)

/-- R12: an image holds a reserved bit that is not 0. -/
def rsvSet (img : Image) : Bool := (imgFind (fun sec i w => (img.word sec i w &&& w32 (wdef sec i w).rsv) != 0)).isSome

/-- R12, R348, R463, R464: a configuration container: the step it fails, or its image. Its payload gives the `ORIGIN` of a signed container, so that its slot verifies with the same digest (R461). -/
def cfgContainer (s : State) (c : List Byte) : Nat ⊕ Image :=
  match contStep s [3] 65536 c with
  | some k => .inl k
  | none =>
    let p := contPayload c
    match Image.ofSlot p with
    | some img => if getB p 0x14 = 1 ∧ getW p 0x18 = (contVersion c).toNat ∧ p.length = 64 + bodyLen ∧ !rsvSet img
      then .inr img else .inl 8
    | none => .inl 8

/-- R357: `CFG.LOAD` of a whole container opens an edit with its payload. -/
def cfgLoad (c : List Byte) (s : State) : State × Reply :=
  match cfgContainer s c with
  | .inl k => (s, .st (contStatus k))
  | .inr img =>
    let e : Edit := { img := img, container := some (contHeader c, contSig c), version := (contVersion c).toNat }
    ({ s with cfg.edit := some e }, .st stOk)

def execCfgLoad (m : Msg) (s : State) : Host.Outcome State Fault Refusal :=
  .next (command { code := 0x0206, len := fun _ => true, chunks := .inbound } m
    (fun m s =>
      if m.chunk then
        match takeChunk 0x0206 false m s with
        | (s1, .err st) => (s1, .st st)
        | (s1, .more) => (s1, .st stOk)
        | (s1, .whole d) => cfgLoad d s1
      else cfgLoad m.payload s) s)

/-- R354: `CFG.STATUS`. -/
def execCfgStatus (m : Msg) (s : State) : Host.Outcome State Fault Refusal :=
  .next (command { code := 0x0207 } m
    (report' (fun s => leW s.cfgStatus ++ leW s.cfg.slotSeq ++ le16 s.cfg.lastStatus ++ s.cfg.loc.bytes)) s)

/-- R357: the stored slot: header, body and, for `ORIGIN` 1, the signature block; `ST_NV_FAIL` on an uncorrectable codeword (R20). -/
def cfgExport (s : State) : State × Reply :=
  let base := nvCfgBase + 0x10000 * s.cfg.activeSlot
  let len := 64 + bodyLen + (if s.cfg.origin1 then 128 + 8668 else 0)
  if nvBad s.nvm 0 base len then (nvReport 0 base len s, .st stNvFail)
  else
    let b := nvRead s.nvm 0 base len
    (s, .object (b.take (64 + bodyLen) ++ b.drop (64 + bodyLen + 128)))

def execCfgExport (m : Msg) (s : State) : Host.Outcome State Fault Refusal :=
  .next (command { code := 0x0208, chunks := .fetch } m (fun _ s => cfgExport s) s)

/-! ## Commands that commit configuration words (R351) -/

/-- R346, R355: all 16 `GPIO_CFG` words. -/
def execSysSetGpio (m : Msg) (s : State) : Host.Outcome State Fault Refusal :=
  .next (command (setSpec 0x000A 64) m (setAll .gpio) s)

def execSensSetAin (m : Msg) (s : State) : Host.Outcome State Fault Refusal :=
  .next (command (setSpec 0x1004 24) m (setInst .ain 0) s)

def execSensSetMod (m : Msg) (s : State) : Host.Outcome State Fault Refusal :=
  .next (command (setSpec 0x1005 8) m (setInst .mod 0) s)

def execSensSetPres (m : Msg) (s : State) : Host.Outcome State Fault Refusal :=
  .next (command (setSpec 0x1006 16) m (setInst .pres 0) s)

/-- R115, R358: housekeeping slots 1-12. -/
def execSensSetHkLim (m : Msg) (s : State) : Host.Outcome State Fault Refusal :=
  .next (command (setSpec 0x1007 12) m (setInst .hkLim 1) s)

/-- R143, R359. -/
def execCalSetCfg (m : Msg) (s : State) : Host.Outcome State Fault Refusal :=
  .next (command (setSpec 0x1107 12) m (setAll .stone) s)

/-- R180, R350, R360. -/
def execLoopSetCfg (m : Msg) (s : State) : Host.Outcome State Fault Refusal :=
  .next (command (setSpec 0x2003 52) m setLoop s)

/-- R199, R360: loops 1-127. -/
def execLoopSetProf (m : Msg) (s : State) : Host.Outcome State Fault Refusal :=
  .next (command (setSpec 0x2006 12) m (setInst .prof 1) s)

def execZoneSetCfg (m : Msg) (s : State) : Host.Outcome State Fault Refusal :=
  .next (command (setSpec 0x2103 52) m (setInst .zone 0) s)

/-- R191, R361. -/
def execZoneSetSched (m : Msg) (s : State) : Host.Outcome State Fault Refusal :=
  .next (command (setSpec 0x2107 116) m (setInst .sched 0) s)

/-- R189, R361. -/
def execZoneSetTime (m : Msg) (s : State) : Host.Outcome State Fault Refusal :=
  .next (command (setSpec 0x2108 12) m (setAll .time) s)

/-- R201, R362. -/
def execSolSetCfg (m : Msg) (s : State) : Host.Outcome State Fault Refusal :=
  .next (command (setSpec 0x2206 8) m (setInst .sol 0) s)

/-- R249, R251. -/
def execActSetCfg (m : Msg) (s : State) : Host.Outcome State Fault Refusal :=
  .next (command (setSpec 0x3004 28) m (setInst .act 0) s)

/-- R250, R251. -/
def execActSetDev (m : Msg) (s : State) : Host.Outcome State Fault Refusal :=
  .next (command (setSpec 0x3005 8) m (setAll .actDev) s)

/-- R266, R267. -/
def execFanSetCfg (m : Msg) (s : State) : Host.Outcome State Fault Refusal :=
  .next (command (setSpec 0x3104 12) m (setInst .fan 0) s)

def execFanSetDev (m : Msg) (s : State) : Host.Outcome State Fault Refusal :=
  .next (command (setSpec 0x3105 4) m (setAll .fanDev) s)

/-- R298: words 0-3 of the panel section. -/
def execPanelSetCfg (m : Msg) (s : State) : Host.Outcome State Fault Refusal :=
  .next (command (setSpec 0x4008 16) m (fun m s => setWords .panel 0 0 (getWords m.payload 0 4) s) s)

/-- R298: `KEY_CFG`. -/
def execKeySetCfg (m : Msg) (s : State) : Host.Outcome State Fault Refusal :=
  .next (command (setSpec 0x4103 4) m (fun m s => setWords .panel 0 4 (getWords m.payload 0 1) s) s)

/-- R365, R373. -/
def execBusSetCfg (m : Msg) (s : State) : Host.Outcome State Fault Refusal :=
  .next (command (setSpec 0x5003 256) m (setAll .bus) s)

/-- R55, R56, R365. -/
def execAcreSetCfg (m : Msg) (s : State) : Host.Outcome State Fault Refusal :=
  .next (command (setSpec 0x5102 12) m (setAll .chain) s)

/-- R366, R400. -/
def execLogSetSnap (m : Msg) (s : State) : Host.Outcome State Fault Refusal :=
  .next (command (setSpec 0x6005 36) m (setInst .snap 0) s)

end Sys2Proof.Machine
end

