-- ==== Sys2Proof/Machine/Keys.lean ====
section
/-! DEFINITION. The key matrix: scan, debounce, lock-out, phantom and stuck keys, the FIFO and the key commands (R301-R308). -/

namespace Sys2Proof.Machine

def State.kb (s : State) (n : Nat) : Bool := s.cb .panel 0 4 n

/-- R308: source 96 with its record. -/
def keyReport (on : Bool) (s : State) : State := if on then report 96 1 3 0 s else report 96 2 1 0 s

/-- R306, R308: a report enters the FIFO. -/
def keyPush (press stuck : Bool) (k : Nat) (s : State) : State :=
  if 16 ≤ s.keys.fifo.length then { s with keys.drop := min 255 (s.keys.drop + 1), keys.ovf := true }
  else
    let e : KeyEntry := { mc := s.chain.mc.toNat % 2 ^ 24, press := press, stuck := stuck, key := k }
    let s1 := { s with keys.fifo := s.keys.fifo ++ [e] }
    if s.keys.fifo.isEmpty then raise 95 s1 else s1

/-- R303: unmasked keys that are debounced down. -/
def Keys.downNow (k : Keys) : List Nat := idx 64 (fun i => k.down.getD i false && !k.stuck.getD i false)

/-- R304: four unmasked down keys occupy the corners of a rectangle. -/
def hasRectangle (ks : List Nat) : Bool :=
  ks.any (fun a => ks.any (fun b =>
    decide (a / 8 < b / 8) && decide (a % 8 < b % 8) && ks.contains (a / 8 * 8 + b % 8) && ks.contains (b / 8 * 8 + a % 8)))

/-- R304: set or clear `PHANTOM_SUSPECT`. -/
def phantomEval (s : State) : State :=
  let p := hasRectangle s.keys.downNow
  if p = s.keys.phantom then s else keyReport p { s with keys.phantom := p }

/-- R302, R305: one key of a scan. -/
def debounce (raw : List Bool) (mc : Word) (i : Nat) (k : Keys) : Keys :=
  let d := k.down.getD i false
  if raw.getD i false = d then { k with opp := k.opp.set i 0 }
  else if 2 ≤ nth k.opp i then
    { k with down := k.down.set i (!d), opp := k.opp.set i 0, since := k.since.set i mc }
  else { k with opp := upd k.opp i (· + 1) }

/-- R305: the mask of a key that is debounced up clears. -/
def unmask (k : Keys) : Keys := { k with stuck := List.zipWith (fun a b => a && b) k.stuck k.down }

/-- R303: the lock-out. -/
def lockOut (s : State) : State :=
  let now := s.keys.downNow
  let s1 := match s.keys.acc with
    | some a => if now.contains a then s else keyPush false false a { s with keys.acc := none }
    | none => s
  let s2 := match s1.keys.prev, now with
    | [], [k] => keyPush true false k { s1 with keys.acc := some k }
    | _, _ => s1
  { s2 with keys.prev := now }

/-- R305: `KEY_STUCK` changes with its mask. -/
def stuckNote (was : Bool) (s : State) : State :=
  if was = s.keys.anyStuck then s else keyReport s.keys.anyStuck s

/-- R301: with `KEY_EN` = 0 the debounced states clear without reports. -/
def keysIdle (s : State) : State :=
  let k : Keys := { fifo := s.keys.fifo, drop := s.keys.drop, ovf := s.keys.ovf, phantom := s.keys.phantom }
  phantomEval (stuckNote s.keys.anyStuck { s with keys := k })

/-- R22, R301: a key scan is due in this PT and has not started. -/
def State.scanDue (s : State) : Bool :=
  s.released && s.clk.pllLocked && (s.chain.pt == 1024 || s.chain.pt == 3072) && s.inTurn 6

/-- R54, R301 KEY_SCAN: a scan at PT 1024 or 3072, sixth in the order of its PT, with the contacts it reads. -/
def keyScan (raw : List Bool) (s1 : State) : State :=
  if !s1.scanDue then s1
  else
    let s := atStage 6 s1
    let s0 := { s with cfg.inForce := s.cfg.inForce.setWord .panel 0 4 (s.cfg.committed.word .panel 0 4) }
    if !s0.kb 8 then keysIdle s0
    else
      let k := unmask ((List.range 64).foldl (fun a i => debounce raw s0.chain.mc i a) s0.keys)
      phantomEval (lockOut (stuckNote s0.keys.anyStuck { s0 with keys := k }))

def execKeyScan (raw : List Bool) (s : State) : Host.Outcome State Fault Refusal := .next (keyScan raw s)

/-- R305 KEY_STUCK_EXPIRY. -/
def keyStuck (i : Nat) (s : State) : State :=
  if s.kb 8 && s.keys.down.getD i false && !s.keys.stuck.getD i false &&
     decide (s.secMc (s.cf .panel 0 4 7 0) ≤ s.mcSince (nth s.keys.since i)) then
    let s1 := stuckNote s.keys.anyStuck
      { s with keys.stuck := s.keys.stuck.set i true, keys.prev := s.keys.prev.filter (· != i) }
    let s2 := if s1.keys.acc = some i then keyPush false true i { s1 with keys.acc := none } else s1
    phantomEval s2
  else s

def execKeyStuckExpiry (i : Nat) (s : State) : Host.Outcome State Fault Refusal := .next (onPll s (keyStuck i s))

/-- R306: an entry's word. -/
def KeyEntry.word (e : KeyEntry) : Word := w32 (at' e.mc 8 + at' (b2n e.press) 7 + at' (b2n e.stuck) 6 + e.key % 64)

/-- R305 `STUCK_MASK`. -/
def Keys.stuckMask (k : Keys) : Nat := maskOf 64 (fun i => k.stuck.getD i false)

def execKeyRead (m : Msg) (s : State) : Host.Outcome State Fault Refusal :=
  .next (command { code := 0x4101, len := fun n => n == 4 } m
    (fun m s =>
      let n := getB m.payload 0
      if n = 0 ∨ 16 < n ∨ !padOk m 1 3 then (s, .st stBadArg)
      else
        let es := s.keys.fifo.take n
        ({ s with keys.fifo := s.keys.fifo.drop n }, .ok (le8 es.length ++ zeros 3 ++ es.flatMap (fun e => leW e.word)))) s)

def execKeyStatus (m : Msg) (s : State) : Host.Outcome State Fault Refusal :=
  .next (command { code := 0x4102 } m
    (fun _ s =>
      ({ s with keys.drop := 0, keys.ovf := false }, .ok (leW s.keyStatus ++ le 8 s.keys.stuckMask))) s)

end Sys2Proof.Machine
end

