-- ==== Sys2Proof/Machine/Housekeep.lean ====
section
/-! DEFINITION. Publication of results and what a housekeeping round's end evaluates; the actuator sense measurement of Stone (R98, R115, R123, R134, R138, R225, R281, R423). -/

namespace Sys2Proof.Machine

/-- R98, R281 RESULT_PUBLISH: the results of a window end are published, before the PT in which they must be. -/
def resultPublish (m : Nat) (s : State) : State :=
  let ks := (nth s.sens.mods m).pend.map (fun p => inputIndex m p.pos)
  let s1 := publishAll m s
  if m < 12 ∧ ks.contains (s.pf 3 14 8) then bandEval s1 else s1

/-- R98: a result of the modulator waits whose window ended two PT ago. -/
def State.publishDue (s : State) (m : Nat) : Bool :=
  (nth s.sens.mods m).pend.any (fun d => decide (2 ≤ s.ptSince d.res.mcEnd d.res.ptEnd))

/-- R98: at the start of a PT every result is published whose time has come. -/
def publishLate (s : State) : State :=
  if s.clk.pllLocked then (List.range 21).foldl (fun a m => if a.publishDue m then resultPublish m a else a) s else s

def execResultPublish (m : Nat) (s : State) : Host.Outcome State Fault Refusal := .next (if s.clk.pllLocked then resultPublish m s else s)

/-- R115: the limits of a slot, 1-12. -/
def State.hkLow (s : State) (k : Nat) : Int := (s.cw .hkLim (k - 1) 0).toInt
def State.hkHigh (s : State) (k : Nat) : Int := (s.cw .hkLim (k - 1) 1).toInt

/-- R115: the alarm of one slot. A reserved value says nothing. -/
def hkAlarm (k : Nat) (s : State) : State :=
  let h := nth s.sens.hk k
  if !validQ h.value then s
  else
    let v := h.value.toInt
    let out := decide (v < s.hkLow k) || decide (s.hkHigh k < v)
    let h1 := if out then { h with outCnt := min 2 (h.outCnt + 1), inCnt := 0 }
      else { h with inCnt := min 2 (h.inCnt + 1), outCnt := 0 }
    let put (x : HkSlot) : State := { s with sens.hk := s.sens.hk.set k x }
    if !h.alarm ∧ 2 ≤ h1.outCnt then report 85 1 4 k (put { h1 with alarm := true })
    else if h.alarm ∧ 2 ≤ h1.inCnt then report 85 2 1 k (put { h1 with alarm := false })
    else put h1

/-- R138: the ratio the VREF correction in force predicts. -/
def State.refPredicted (s : State) : Rat :=
  let t := s.sens.dieTemp
  let fact : Int := 2 ^ 24 + factVrefDev t
  if fact = 0 then factRatio t
  else factRatio t * ((2 ^ 24 + (nth s.sens.mods hmod).coef.vrefDev : Int) : Rat) / (fact : Rat)

/-- R138 REF_ALARM_CHECK. -/
def refCheck (s : State) : State :=
  let v := (nth s.sens.hk 11).value
  if !validQ v then s
  else
    let p := s.refPredicted
    let bad := decide (absQ p < 1000 * absQ (Config.hkRatio v.toInt - p))
    let st : Stone := if bad then { s.stone with refBad := min 3 (s.stone.refBad + 1), refOk := 0 }
      else { s.stone with refOk := min 3 (s.stone.refOk + 1), refBad := 0 }
    if !st.refAlarm ∧ 3 ≤ st.refBad then alarmsEval (calAlarm true { s with stone := { st with refAlarm := true } })
    else if st.refAlarm ∧ 3 ≤ st.refOk then alarmsEval (calAlarm false { s with stone := { st with refAlarm := false } })
    else { s with stone := st }

/-- R423: `VBAT_LOW` below 2.0 V, and above 2.2 V, for 2 rounds. -/
def vbatCheck (s : State) : State :=
  let w := (nth s.sens.hk 7).value
  if !validQ w then s
  else
    let v := w.toInt
    let low := decide (v < 131072)
    let high := decide (144179 < v)
    let u : Supply := { s.sup with vbatLowCnt := if low then min 2 (s.sup.vbatLowCnt + 1) else 0,
                                   vbatOkCnt := if high then min 2 (s.sup.vbatOkCnt + 1) else 0 }
    if !u.vbatLow ∧ 2 ≤ u.vbatLowCnt then report 91 6 4 0 { s with sup := { u with vbatLow := true } }
    else if u.vbatLow ∧ 2 ≤ u.vbatOkCnt then report 91 6 4 0 { s with sup := { u with vbatLow := false } }
    else { s with sup := u }

/-- R225 BST_BYPASS. -/
def vactCheck (s : State) : State :=
  let w := (nth s.sens.hk 3).value
  if validQ w then bypassEval (q16 w) s else s

/-- R134: the die temperature for interpolation: T4, or the mean of the other valid sensors while T4 is excluded. A reserved reading of T4 counts as excluded, and with no usable sensor t stays (DESIGN CHOICE, notes/assumptions/77.md). -/
def dieTempEval (s : State) : State :=
  let v (k : Nat) := (nth s.sens.hk (2 * k)).value
  let ok (k : Nat) := (nth s.therm.sensors k).valid && validQ (v k)
  if ok 4 then { s with sens.dieTemp := (v 4).toInt }
  else
    let good := (List.range 5).filter ok
    if good.isEmpty then s
    else { s with sens.dieTemp := rne ((good.map (fun k => (v k).toInt)).sum) good.length }

/-- R129: T4 over a calibration run, without its offset. -/
def runTemp (s : State) : State :=
  if !validQ (nth s.sens.hk 8).value then s
  else
    let t := s.rawDie 4
    updRun (fun r =>
      if r.done then r
      else { r with tMin := if r.tCnt = 0 then t else min r.tMin t, tMax := if r.tCnt = 0 then t else max r.tMax t,
                    tSum := r.tSum + t, tCnt := r.tCnt + 1 }) s

/-- R115 HK_ROUND_END. -/
def hkRoundEnd (s : State) : State :=
  if !s.released || !s.sens.hkDone then s
  else
    let s1 := { s with sens.hkDone := false }
    let s2 := (List.range 12).foldl (fun a i => hkAlarm (i + 1) a) s1
    runTemp (dieTempEval (vactCheck (vbatCheck (refCheck s2))))

def execHkRoundEnd (s : State) : Host.Outcome State Fault Refusal := .next (onPll s (hkRoundEnd s))

/-- R123 ACT_SENSE_MEASURE: a channel off for 2 MC with no pull-in pending, during steps H1-F8 or before E0. The reading is the coil current the sense path reports, in A. -/
def actSense (n : Nat) (reading : Rat) (s : State) : State :=
  match s.stone.run with
  | none => s
  | some r =>
    let c := s.ach n
    let vals := if r.pass = 1 then r.vals1 else r.vals2
    let calm := c.ph == .off && !s.pullPending n && decide (2 ≤ s.mcSince c.offMc) && decide (2 ≤ s.mcSince c.pullMc)
    if r.done || decide (32 ≤ n) || !decide (1 ≤ r.step ∧ r.step ≤ 10) || !calm || r.skip.contains n ||
       vals.any (fun v => v.1 == .act n) then s
    else addVal (.act n) reading s

def execActSenseMeasure (n : Nat) (reading : Rat) (s : State) : Host.Outcome State Fault Refusal :=
  .next (onPll s (actSense n reading s))

end Sys2Proof.Machine
end

