-- ==== Sys2Proof/Machine/Window.lean ====
section
/-! DEFINITION. The host window and its two wire framings: registers, mailbox ports, events, SPI and I²C (R98-R102, R309-R326, R336-R339). -/

namespace Sys2Proof.Machine

/-! ## Mailbox ports (R323-R325) -/

def errMbOvr (s : State) : State := { s with host.err.mbOvr := true }
def errMbSeq (s : State) : State := { s with host.err.mbSeq := true }
def errProto (s : State) : State := { s with host.err.proto := true }
def errUnmapped (s : State) : State := { s with host.err.unmapped := true }
def errAbort (s : State) : State := { s with host.err.abort := true }
def errAlign (s : State) : State := { s with host.err.align := true }

/-- R322: a write CRC mismatch, counted in `CRC_CNT`. -/
def errCrc (s : State) : State := { s with host.err.crc := true, host.crcCnt := incSat 16 s.host.crcCnt }

/-- A word of a mailbox buffer; a short list reads 0 past its end. -/
def bufWord (b : List Word) (k : Nat) : Word := b.getD k 0

/-- Write a word of a mailbox buffer. -/
def bufSet (b : List Word) (k : Nat) (v : Word) : List Word :=
  (b ++ List.replicate (k + 1 - b.length) 0).set k v

/-- R322, R323: what a pointer write sets in `HOST_ERR`, whatever the state of its mailbox. -/
def ptrErrs (allowed : Bool) (p : Nat) (s : State) : State :=
  let s1 := if allowed then s else errMbSeq s
  let s2 := if 4096 < p then errMbOvr s1 else s1
  if p % 4 ≠ 0 then errAlign s2 else s2

/-- R323: a pointer takes a value its field admits, in the state in which the host may write it. -/
def ptrWrite (allowed : Bool) (v : Word) (set : Nat → State → State) (s : State) : State :=
  let p := fld v 12 0
  if allowed ∧ p % 4 = 0 ∧ p ≤ 4096 then set p s else ptrErrs allowed p s

def inPtrWrite (i : Nat) (v : Word) (s : State) : State :=
  ptrWrite (nth s.mbox.inSt i == .free) v (fun p t => { t with mbox.inPtr := t.mbox.inPtr.set i p }) s

def outPtrWrite (j : Nat) (v : Word) (s : State) : State :=
  ptrWrite (nth s.mbox.outSt j == .full) v (fun p t => { t with mbox.outPtr := t.mbox.outPtr.set j p }) s

/-- R323: a write of an inbound data port. -/
def inDataWrite (i : Nat) (v : Word) (s : State) : State :=
  let p := nth s.mbox.inPtr i
  if nth s.mbox.inSt i ≠ .free then errMbSeq (if 4096 ≤ p then errMbOvr s else s)
  else if 4096 ≤ p then errMbOvr s
  else { s with mbox.inBuf := s.mbox.inBuf.set i (bufSet (nth s.mbox.inBuf i) (p / 4) v),
                mbox.inPtr := s.mbox.inPtr.set i (p + 4) }

/-- R323: the word an inbound data port reads, and the pointer's advance. -/
def inDataRead (i : Nat) (s : State) : Word × State :=
  let p := nth s.mbox.inPtr i
  if 4096 ≤ p then (0, errMbOvr s)
  else (bufWord (nth s.mbox.inBuf i) (p / 4), { s with mbox.inPtr := s.mbox.inPtr.set i (p + 4) })

/-- R323: the word an outbound data port reads, and the pointer's advance. -/
def outDataRead (j : Nat) (s : State) : Word × State :=
  let p := nth s.mbox.outPtr j
  if 4096 ≤ p then (0, errMbOvr s)
  else (bufWord (nth s.mbox.outBuf j) (p / 4), { s with mbox.outPtr := s.mbox.outPtr.set j (p + 4) })

/-- R325: one bit of `MB_IN_DB`. -/
def postOne (v : Word) (s : State) (i : Nat) : State :=
  if !bit v i then s
  else if nth s.mbox.inSt i ≠ .free then errMbSeq s
  else { s with mbox.inSt := s.mbox.inSt.set i .posted, mbox.inPtr := s.mbox.inPtr.set i 0,
                mbox.posted := s.mbox.posted ++ [i] }

/-- R325, R326: a write of `MB_IN_DB`; mailboxes of one write are posted in ascending number. -/
def inDoorbell (v : Word) (s : State) : State := (List.range 4).foldl (postOne v) s

/-- R325: one bit of `MB_OUT_DB`. -/
def releaseOne (v : Word) (s : State) (j : Nat) : State :=
  if !bit v j then s
  else if nth s.mbox.outSt j ≠ .full then errMbSeq s
  else { s with mbox.outSt := s.mbox.outSt.set j .free, mbox.outPtr := s.mbox.outPtr.set j 0 }

/-- R325: a write of `MB_OUT_DB`. -/
def outRelease (v : Word) (s : State) : State := (List.range 4).foldl (releaseOne v) s

/-! ## Events (R336, R337, R339) -/

/-- Place a 32-bit word at word k of a 128-bit event register. -/
def evPlace (v : Word) (k : Nat) : BitVec 128 := v.setWidth 128 <<< (32 * k)

/-- R336: writing 1 to a bit of `EVT_SUMMARY` clears it. -/
def summaryClear (k : Nat) (v : Word) (s : State) : State := { s with evt.summary := s.evt.summary &&& ~~~evPlace v k }

/-- R339: writing 1 to a bit of `EVQ_LOST` clears it. -/
def lostClear (k : Nat) (v : Word) (s : State) : State := { s with evt.lost := s.evt.lost &&& ~~~evPlace v k }

/-- R320: a write of `EVT_MASK`. -/
def maskWrite (k : Nat) (v : Word) (s : State) : State :=
  { s with evt.mask := (s.evt.mask &&& ~~~evPlace 0xFFFFFFFF k) ||| evPlace v k }

/-- R337: a write of `EVQ_POP`. -/
def evqPop (s : State) : State := { s with evt.queue := s.evt.queue.drop 1 }

/-- R322: writing 1 to a bit of `HOST_ERR` [7:0] clears it. -/
def hostErrClear (v : Word) (s : State) : State :=
  let e := s.host.err
  { s with host.err := { mbOvr := e.mbOvr && !bit v 7, mbSeq := e.mbSeq && !bit v 6, proto := e.proto && !bit v 5,
                         unmapped := e.unmapped && !bit v 4, abort := e.abort && !bit v 2,
                         align := e.align && !bit v 1, crc := e.crc && !bit v 0 } }

/-! ## The window (R320) -/

/-- R320: what stands at a word address. -/
inductive WinReg where
  | hwId | hwStatus | hostCfg | hostErr | mbInDb | mbInState | mbOutDb | mbOutState | liveTag
  | evqHead0 | evqHead1 | evqPop | evqLevel
  | inPtr (i : Nat) | inData (i : Nat) | outPtr (j : Nat) | outData (j : Nat)
  | summary (k : Nat) | mask (k : Nat) | lost (k : Nat)
  | liveIn (i : Nat) | liveLoop (l : Nat)
  | reserved
deriving DecidableEq, Repr, Inhabited

/-- R320: the mailbox registers, 0x0100-0x01FF. -/
def mboxReg (a : Nat) : WinReg :=
  let i := (a - 0x100) % 0x80 / 0x20
  match decide (a < 0x180), a % 0x20 with
  | true, 0 => .inPtr i
  | true, 4 => .inData i
  | false, 0 => .outPtr i
  | false, 4 => .outData i
  | _, _ => .reserved

/-- R320: the fixed registers below 0x0100. -/
def lowReg (a : Nat) : WinReg :=
  match a with
  | 0x00 => .hwId
  | 0x04 => .hwStatus
  | 0x08 => .hostCfg
  | 0x0C => .hostErr
  | 0x10 => .mbInDb
  | 0x14 => .mbInState
  | 0x18 => .mbOutDb
  | 0x1C => .mbOutState
  | 0x30 => .liveTag
  | 0x40 => .evqHead0
  | 0x44 => .evqHead1
  | 0x48 => .evqPop
  | 0x4C => .evqLevel
  | _ => .reserved

/-- R320: the event registers, 0x0200-0x024C. -/
def eventReg (a : Nat) : WinReg :=
  let k := a % 0x20 / 4
  if 4 ≤ k then .reserved
  else match a / 0x20 with
    | 0x10 => .summary k
    | 0x11 => .mask k
    | 0x12 => .lost k
    | _ => .reserved

/-- R320: the register at a word address. -/
def winReg (a : Nat) : WinReg :=
  if a < 0x100 then lowReg a
  else if a < 0x200 then mboxReg a
  else if a < 0x400 then eventReg a
  else if a < 0x600 then .liveIn ((a - 0x400) / 4)
  else if a ≤ 0x7F8 then .liveLoop ((a - 0x600) / 4 + 1)
  else .reserved

/-- R102 `LIVE_TAG`. -/
def State.liveTag (s : State) : Word :=
  w32 (at' (b2n s.host.tagMismatch) 16 + at' (s.host.tagIndex % 256) 4 + s.host.tagTag % 16)

/-- R11, R320: read a register. Write-only words read 0; a reserved address reads 0 and sets `UNMAPPED`. -/
def regRead (a : Nat) (s : State) : Word × State :=
  match winReg a with
  | .hwId => (hwId, s)
  | .hwStatus => (s.hwStatus, s)
  | .hostCfg => (s.hostCfg, s)
  | .hostErr => (s.hostErr, s)
  | .mbInDb => (0, s)
  | .mbInState => (s.mbInState, s)
  | .mbOutDb => (0, s)
  | .mbOutState => (s.mbOutState, s)
  | .liveTag => (s.liveTag, s)
  | .evqHead0 => (s.evqHead0, s)
  | .evqHead1 => (s.evqHead1, s)
  | .evqPop => (0, s)
  | .evqLevel => (w32 s.evt.queue.length, s)
  | .inPtr i => (w32 (nth s.mbox.inPtr i), s)
  | .inData i => inDataRead i s
  | .outPtr j => (w32 (nth s.mbox.outPtr j), s)
  | .outData j => outDataRead j s
  | .summary k => (evWord s.evt.summary k, s)
  | .mask k => (evWord s.evt.mask k, s)
  | .lost k => (evWord s.evt.lost k, s)
  | .liveIn i => ((nth s.sens.results i).value, s)
  | .liveLoop l => ((s.loop l).dyn.outWord, s)
  | .reserved => (0, errUnmapped s)

/-- R11, R320: write a register. Read-only words ignore the write; a reserved address sets `UNMAPPED`. -/
def regWrite (a : Nat) (v : Word) (s : State) : State :=
  match winReg a with
  | .hostCfg => { s with host.irqEn := bit v 1, host.crcEn := bit v 0 }
  | .hostErr => hostErrClear v s
  | .mbInDb => inDoorbell v s
  | .mbOutDb => outRelease v s
  | .evqPop => evqPop s
  | .inPtr i => inPtrWrite i v s
  | .inData i => inDataWrite i v s
  | .outPtr j => outPtrWrite j v s
  | .summary k => summaryClear k v s
  | .mask k => maskWrite k v s
  | .lost k => lostClear k v s
  | .reserved => errUnmapped s
  | .hwId | .hwStatus | .mbInState | .mbOutState | .liveTag | .evqHead0 | .evqHead1 | .evqLevel
  | .outData _ | .liveIn _ | .liveLoop _ => s

/-- R102: `INDEX` and `TAG` follow a read of a live value. -/
def liveTagRead (a : Nat) (v : Word) (s : State) : State :=
  match winReg a with
  | .liveIn i => { s with host.tagIndex := i, host.tagTag := (nth s.sens.results i).seq % 16 }
  | .liveLoop l => { s with host.tagIndex := 127 + l, host.tagTag := fld v 3 0 }
  | _ => s

/-- R102: a read of any register but `LIVE_TAG` clears `MISMATCH`. -/
def clearMismatch (a : Nat) (s : State) : State :=
  if winReg a = .liveTag then s else { s with host.tagMismatch := false }

/-! ## SPI (R309-R315) -/

/-- The byte addresses of a burst (R311, R312). -/
def burstAddr (fix : Bool) (a k : Nat) : Nat := if fix then a else (a + 4 * k) % 65536

/-- A word as it travels, [31:24] first. -/
def wordBE (w : Word) : List Byte := (leW w).reverse

/-- A big-endian half or word. -/
def beVal (bs : List Byte) : Nat := unle bs.reverse

/-- R310: the host window responds; it runs from the system PLL (R22, R440). -/
def State.windowOn (s : State) : Bool := s.alive && s.clk.pllLocked

/-- R311: SPI is selected and the window responds. -/
def State.spiOn (s : State) : Bool := s.windowOn && !s.host.hsel

/-- R102, R312: one word of an SPI read. -/
def spiReadWord (a : Nat) (s : State) : Word × State :=
  let r := regRead a s
  (r.1, liveTagRead a r.1 (clearMismatch a r.2))

/-- R312: the words of an SPI read, in order. -/
def spiReadWords (fix : Bool) (a : Nat) : Nat → Nat → State → List Word × State
  | 0, _, s => ([], s)
  | n + 1, k, s =>
    let r := spiReadWord (burstAddr fix a k) s
    let t := spiReadWords fix a n (k + 1) r.2
    (r.1 :: t.1, t.2)

/-- R312, R313: write words in address order. -/
def burstWrite (fix : Bool) (a : Nat) : List Word → Nat → State → State
  | [], _, s => s
  | w :: ws, k, s => burstWrite fix a ws (k + 1) (regWrite (burstAddr fix a k) w s)

/-- The whole words of the data bytes of a write. -/
def spiWords (data : List Byte) : Nat → List Word
  | 0 => []
  | n + 1 =>
    if data.length < 4 then [] else w32 (beVal (data.take 4)) :: spiWords (data.drop 4) n

/-- R312: the status byte of a transaction, and HMISO's first four bytes as far as the transaction has them. -/
def spiStatus (bytes : Nat) (s : State) : State :=
  let b : Byte := BitVec.ofNat 8 s.hwStatus.toNat
  { s with host.readStatus := b, host.readBytes := [], host.miso := (b :: zeros 3).take bytes }

/-- R311-R315: a write transaction, the bytes on HMOSI from the falling to the rising edge of HCS_N. -/
def spiWrite (mosi : List Byte) (s0 : State) : State :=
  let s := spiStatus mosi.length s0
  let c := getB mosi 0
  let n := c % 64 + 1
  let fix := c.testBit 6
  let a := beVal (slice mosi 1 2)
  let data := mosi.drop 3
  if mosi.length < 3 then errAbort s
  else if a % 4 ≠ 0 then errAlign s
  else if !s0.host.crcEn then
    let ws := spiWords data n
    let t := burstWrite fix a ws 0 s
    if ws.length < n then errAbort t else t
  else if data.length < 4 * n + 2 then errAbort s
  else if crc16 (mosi.take (3 + 4 * n)) ≠ beVal (slice data (4 * n) 2) then errCrc s
  else burstWrite fix a (spiWords data n) 0 s

/-- R310-R315: an SPI write; the interface is silent before step 5, and a command byte with `RD` set is no write. HCS_N falling and rising with no byte between is a transaction that ended early (R313). -/
def execSpiWriteTransaction (mosi : List Byte) (s : State) : Host.Outcome State Fault Refusal :=
  .next (if s.spiOn && !(getB mosi 0).testBit 7 then spiWrite mosi s else s)

/-- R311-R315: a read transaction: the status byte, then the words whose transfer began; the host's clocks are the bytes on HMOSI. -/
def spiRead (mosi : List Byte) (s0 : State) : State :=
  let s := spiStatus mosi.length s0
  let c := getB mosi 0
  let n := c % 64 + 1
  let fix := c.testBit 6
  let a := beVal (slice mosi 1 2)
  let got := mosi.length - 4
  let full := 4 * n + (if s0.host.crcEn then 2 else 0)
  if mosi.length < 3 then errAbort s
  else if a % 4 ≠ 0 then errAlign s
  else
    let r := spiReadWords fix a (min n ((got + 3) / 4)) 0 s
    let data := r.1.flatMap wordBE
    let crc := if s0.host.crcEn then (le16 (crc16 (mosi.take 3 ++ data))).reverse else []
    let out := (data ++ crc).take got
    let t := { r.2 with host.readBytes := out, host.miso := s.host.miso ++ out }
    if got < full then errAbort t else t

/-- R310-R315: an SPI read. -/
def execSpiReadTransaction (mosi : List Byte) (s : State) : Host.Outcome State Fault Refusal :=
  .next (if s.spiOn && (getB mosi 0).testBit 7 then spiRead mosi s else s)

/-! ## I²C (R309, R316-R319) -/

/-- R316: the device's 7-bit address. -/
def State.i2cAddr (s : State) : Nat := 0x38 + at' (b2n s.host.a1) 1 + b2n s.host.a0

/-- R310, R316: I²C is selected, the window responds and the address is the device's. -/
def State.i2cOn (s : State) (target : Nat) : Bool := s.windowOn && s.host.hsel && decide (target = s.i2cAddr)

/-- R318: the address of half k. -/
def halfAddr (fix : Bool) (a k : Nat) : Nat := if fix then a + 2 * (k % 2) else (a + 2 * k) % 65536

/-- R318: is the address aligned for the access. -/
def i2cAligned (fix : Bool) (a : Nat) : Bool := a % 2 == 0 && (!fix || a % 4 == 0)

/-- R322: an access to a half of a reserved word sets `UNMAPPED`. -/
def halfTouch (a : Nat) (s : State) : State := if winReg (a - a % 4) = .reserved then errUnmapped s else s

/-- R319, R322: one half of an I²C write. -/
def i2cWriteHalf (a h : Nat) (s0 : State) : State :=
  let s := halfTouch a s0
  if a % 4 = 0 then { s with host.i2cHeld := some (a, h) }
  else
    match s.host.i2cHeld with
    | some (w, low) =>
      let t := { s with host.i2cHeld := none }
      if w = a - 2 then regWrite w (w32 (at' h 16 + low)) t else errProto t
    | none => errProto s

/-- R318: the halves of an I²C write, each [15:8] first. -/
def i2cWriteHalves (fix : Bool) (a : Nat) : List Byte → Nat → Nat → State → State
  | _, _, 0, s => s
  | data, k, n + 1, s =>
    i2cWriteHalves fix a (data.drop 2) (k + 1) n (i2cWriteHalf (halfAddr fix a k) (beVal (data.take 2)) s)

/-- R317-R319: an I²C write: the bytes after the target address, up to STOP. -/
def i2cWrite (wire : List Byte) (s : State) : State :=
  let a := beVal (slice wire 0 2)
  let c := getB wire 2
  let n := c % 128 + 1
  let fix := c.testBit 7
  let data := wire.drop 3
  if data.length ≠ 2 * n + (if s.host.crcEn then 2 else 0) ∨ !i2cAligned fix a then errProto s
  else if s.host.crcEn && crc16 (wire.take (3 + 2 * n)) != beVal (slice data (2 * n) 2) then errCrc s
  else i2cWriteHalves fix a data 0 n s

def execI2cWrite (target : Nat) (wire : List Byte) (s : State) : Host.Outcome State Fault Refusal :=
  .next (if s.i2cOn target then i2cWrite wire s else s)

/-- R323: on I²C a data port's low half is read without moving the pointer. -/
def i2cPeek (a : Nat) (s : State) : Word × State :=
  match winReg a with
  | .inData i => ((inDataRead i s).1, { s with host.err := (inDataRead i s).2.host.err })
  | .outData j => ((outDataRead j s).1, { s with host.err := (outDataRead j s).2.host.err })
  | _ => regRead a s

/-- R323: the data ports, whose pointer moves after the high half. -/
def isPort (a : Nat) : Bool :=
  match winReg a with
  | .inData _ | .outData _ => true
  | _ => false

/-- R101, R102, R319, R322: one half of an I²C read. -/
def i2cReadHalf (a : Nat) (s0 : State) : Nat × State :=
  let s := halfTouch a s0
  let w := a - a % 4
  if a % 4 = 0 then
    let r := i2cPeek w s
    let t := clearMismatch w r.2
    (fld r.1 15 0, liveTagRead w r.1 { t with host.i2cLatch := some (w, fld r.1 31 16) })
  else
    let latched := match s.host.i2cLatch with | some (x, h) => if x = w then some h else none | none => none
    match latched with
    | some h => (h, if isPort w then (regRead w s).2 else s)
    | none =>
      let t := if winReg w = .liveTag then s else { s with host.tagMismatch := true }
      let r := regRead w t
      (fld r.1 31 16, r.2)

/-- R317: the halves of an I²C read. -/
def i2cReadHalves (fix : Bool) (a : Nat) : Nat → Nat → State → List Nat × State
  | _, 0, s => ([], s)
  | k, n + 1, s =>
    let r := i2cReadHalf (halfAddr fix a k) s
    let t := i2cReadHalves fix a (k + 1) n r.2
    (r.1 :: t.1, t.2)

/-- R317-R319: an I²C read of address a with its control byte. -/
def i2cRead (a ctl : Nat) (s : State) : State :=
  let n := ctl % 128 + 1
  let fix := ctl.testBit 7
  let head : List Byte := (le16 a).reverse ++ le8 ctl
  let crc := fun (d : List Byte) => if s.host.crcEn then (le16 (crc16 (head ++ d))).reverse else []
  if !i2cAligned fix a then
    let d := zeros (2 * n)
    errProto { s with host.readBytes := d ++ crc d }
  else
    let r := i2cReadHalves fix a 0 n s
    let d := r.1.flatMap (fun h => (le16 h).reverse)
    { r.2 with host.readBytes := d ++ crc d }

def execI2cRead (target a ctl : Nat) (s : State) : Host.Outcome State Fault Refusal :=
  .next (if s.i2cOn target then i2cRead (a % 65536) (ctl % 256) s else s)

/-! ## Register-level commands: each is one write or read that a transaction carries -/

/-- R325: the inbound doorbell register. -/
def execMbInDb (v : Word) (s : State) : Host.Outcome State Fault Refusal :=
  .next (if s.windowOn then inDoorbell v s else s)

/-- R325: the outbound release register. -/
def execMbOutDb (v : Word) (s : State) : Host.Outcome State Fault Refusal :=
  .next (if s.windowOn then outRelease v s else s)

/-- R323: a pointer write of an outbound (`outb`) or inbound mailbox. -/
def execMbPtrWrite (outb : Bool) (i : Nat) (v : Word) (s : State) : Host.Outcome State Fault Refusal :=
  .next (if s.windowOn && decide (i < 4) then (if outb then outPtrWrite i v s else inPtrWrite i v s) else s)

/-- R323: a data-port write. -/
def execMbInDataWrite (i : Nat) (v : Word) (s : State) : Host.Outcome State Fault Refusal :=
  .next (if s.windowOn && decide (i < 4) then inDataWrite i v s else s)

/-- R323: a data-port read; its word is left as the bytes read. -/
def execMbOutDataRead (j : Nat) (s : State) : Host.Outcome State Fault Refusal :=
  .next (if s.windowOn && decide (j < 4) then
    let r := outDataRead j s
    { r.2 with host.readBytes := leW r.1 }
  else s)

/-- R337: any value removes the oldest entry. -/
def execEvqPop (_ : Word) (s : State) : Host.Outcome State Fault Refusal :=
  .next (if s.windowOn then evqPop s else s)

def execEvtSummaryClear (k : Nat) (v : Word) (s : State) : Host.Outcome State Fault Refusal :=
  .next (if s.windowOn && decide (k < 4) then summaryClear k v s else s)

def execEvqLostClear (k : Nat) (v : Word) (s : State) : Host.Outcome State Fault Refusal :=
  .next (if s.windowOn && decide (k < 4) then lostClear k v s else s)

def execHostErrClear (v : Word) (s : State) : Host.Outcome State Fault Refusal :=
  .next (if s.windowOn then hostErrClear v s else s)

/-- R11, R320: a write of the word at an address; a misaligned one is ignored and sets `ALIGN` (R312). -/
def execRegisterWrite (a : Nat) (v : Word) (s : State) : Host.Outcome State Fault Refusal :=
  .next (if !s.windowOn then s else if a % 4 ≠ 0 then errAlign s else regWrite (a % 65536) v s)

/-! ## Acceptance and abandoned objects (R326, R331, R332) -/

def execMbAccept (s : State) : Host.Outcome State Fault Refusal :=
  .next (if s.appUp then acceptMailbox s else s)

/-- R331, R332: 60 s have passed since a local MC, counted in MC at nominal frequency. -/
def State.minuteSince (s : State) (a : Word) : Bool := decide (s.secMc 60 ≤ s.mcSince a)

/-- R387: 60 s have passed since the last write of the file in progress, or none is. -/
def State.fileStale (s : State) : Bool := match s.bus.file with | some f => s.minuteSince f.mc | none => true

/-- R331, R387: 60 s without a new chunk abandon the inbound object, and 60 s without a write the file in progress. -/
def chunkTimeout (s : State) : State :=
  let ends := match s.mbox.chunkIn with | some c => if c.bus then s.fileStale else s.minuteSince c.mc | none => false
  let s1 := if ends then dropChunkIn s else s
  { s1 with bus.file := if s.fileStale then none else s.bus.file }

def execChunkObjectTimeout (s : State) : Host.Outcome State Fault Refusal := .next (onPll s (chunkTimeout s))

/-- R332: 60 s since the last fetch release the response object of a command. -/
def execResponseObjectTimeout (cmd : Nat) (s : State) : Host.Outcome State Fault Refusal :=
  .next (onPll s { s with mbox.respObj := s.mbox.respObj.filter (fun o => !(o.cmd == cmd && s.minuteSince o.mc)) })

end Sys2Proof.Machine
end

