-- ==== Sys2Proof/Machine/Groups.lean ====
section
/-! DEFINITION. The system, identity, sensing, actuator, fan, Acre, recorder and health commands (R25-R28, R355, R356, R358, R363, R365, R366, R411, R412). -/

namespace Sys2Proof.Machine

/-! ## Operating modes (R25-R28) -/

/-- R26, R176: Hold begins: it ends Quiet at once, and every CLOSED loop is forced open. -/
def enterHold (s : State) : State := loopsHold { leaveQuiet s with sup.mode := .hold }

/-- R28: Hold becomes Run. -/
def leaveHold (s : State) : State := loopsUnhold { s with sup.mode := .run }

/-- R26, R27, R437: a mode command; a mode asked for before the release waits for it. -/
def setMode (n : Nat) (s : State) : State × Reply :=
  if !s.released then
    (match n with
     | 1 => ({ s with sup.modeReq := none }, .st stOk)
     | 2 => if s.sup.modeReq = some .hold then (s, .st stBusy) else ({ s with sup.modeReq := some .quiet }, .st stOk)
     | _ => ({ s with sup.modeReq := some .hold }, .st stOk))
  else
    match n, s.sup.mode with
    | 1, .quiet => (leaveQuiet s, .st stOk)
    | 1, .hold => (leaveHold s, .st stOk)
    | 1, _ => (s, .st stOk)
    | 2, .hold => (s, .st stBusy)
    | 2, .quiet => ({ s with sup.quietByStone := false, sup.quietByHost := true }, .st stOk)
    | 2, _ => (enterQuiet false s, .st stOk)
    | _, .hold => (s, .st stOk)
    | _, _ => (enterHold s, .st stOk)

def execSysSetMode (m : Msg) (s : State) : Host.Outcome State Fault Refusal :=
  .next (command { code := 0x0002, len := fun n => n == 4 } m
    (fun m s =>
      let n := getB m.payload 0
      if n < 1 ∨ 3 < n ∨ !padOk m 1 3 then (s, .st stBadArg)
      else if s.test.running then (s, .st stBusy)
      else setMode n s) s)

/-! ## System (R355) -/

/-- R57: the Chain status block, 20 bytes. -/
def State.chainBytes (s : State) : List Byte := wordsBytes s.chainBlock

def execSysStatus (m : Msg) (s : State) : Host.Outcome State Fault Refusal :=
  .next (command { code := 0x0001 } m (report' (fun s =>
    leW s.hwStatus ++ s.chainBytes ++ le16 s.chain.pt.toNat ++ zeros 2 ++ leW s.calWord ++ leW s.resetCause)) s)

/-- R192, R355: the calendar is set and becomes valid; bins in progress close without an update. -/
def setCalendar (t : Word) (s : State) : State :=
  closeBins { s with backup.calendar := t, backup.calValid := true }

def execSysSetTime (m : Msg) (s : State) : Host.Outcome State Fault Refusal :=
  .next (command { code := 0x0003, len := fun n => n == 4 } m
    (fun m s => (setCalendar (w32 (getW m.payload 0)) s, .st stOk)) s)

def execSysGetTime (m : Msg) (s : State) : Host.Outcome State Fault Refusal :=
  .next (command { code := 0x0004 } m (report' (fun s =>
    if s.backup.calValid then
      leW s.calWord ++ le16 (minuteOfWeek s.localNow) ++ le8 (1 + at' (b2n (s.dstAt s.stdNow)) 1) ++ zeros 1
    else le32 0xFFFFFFFF ++ le16 0xFFFF ++ zeros 2)) s)

/-- R355, R431: the reset follows 10 ms after the answer. -/
def execSysReset (m : Msg) (s : State) : Host.Outcome State Fault Refusal :=
  .next (command { code := 0x0005, len := fun n => n == 4 } m
    (fun m s =>
      if getW m.payload 0 ≠ 0xA5C3 then (s, .st stBadArg) else ({ s with sup.softPend := true }, .st stOk)) s)

/-- R21, R355: the size of the host data area. -/
def hostArea : Nat := 262144

def execSysNvRead (m : Msg) (s : State) : Host.Outcome State Fault Refusal :=
  .next (command { code := 0x0006, len := fun n => n == 8 } m
    (fun m s =>
      let o := getW m.payload 0
      let n := getH m.payload 4
      if n < 1 ∨ 4072 < n ∨ hostArea < o + n ∨ !padOk m 6 2 then (s, .st stBadArg)
      else if nvBad s.nvm 0 (nvHostBase + o) n then (nvReport 0 (nvHostBase + o) n s, .st stNvFail)
      else (s, .ok (nvRead s.nvm 0 (nvHostBase + o) n))) s)

/-- R20, R355, R428: `SYS.NV_WRITE` waits for its write; after the power-fail warning no write starts. A write that fills a codeword in part reads it first: one that is uncorrectable delivers no data, so the command fails (DEDUCED, notes/assumptions/79.md). -/
def nvWriteCmd (m : Msg) (s : State) : State × Reply :=
  let o := getW m.payload 0
  let d := m.payload.drop 4
  if hostArea < o + d.length then (s, .st stBadArg)
  else if s.thermalBars then (s, .st stThermal)
  else if s.bushel.closed then (s, .st stNvFail)
  else if nvEdgeBad s.nvm 0 (nvHostBase + o) d.length then (nvEdges 0 (nvHostBase + o) d.length s, .st stNvFail)
  else ({ s with nvm := nvSubmit s.nvm 6 { job := .host, cws := nvCws s.nvm 0 (nvHostBase + o) d } }, .wait)

def execSysNvWrite (m : Msg) (s : State) : Host.Outcome State Fault Refusal :=
  .next (command { code := 0x0007, len := fun n => decide (5 ≤ n) && decide (n ≤ 4076) } m nvWriteCmd s)

def execSysGpioGet (m : Msg) (s : State) : Host.Outcome State Fault Refusal :=
  .next (command { code := 0x0008 } m (report' (fun s => le16 s.gpioLevels ++ zeros 2)) s)

/-- R355: the masked outputs take the levels given. -/
def gpioSet (mask levels : Nat) (s : State) : State :=
  { s with gpio.out := (List.range 16).map (fun g =>
      if mask.testBit g then levels.testBit g else s.gpio.out.getD g false) }

def execSysGpioSet (m : Msg) (s : State) : Host.Outcome State Fault Refusal :=
  .next (command { code := 0x0009, len := fun n => n == 4 } m
    (fun m s =>
      let mask := getH m.payload 0
      if (List.range 16).any (fun g => mask.testBit g && s.cf .gpio g 0 7 6 == 0) then (s, .st stBadArg)
      else (gpioSet mask (getH m.payload 2) s, .st stOk)) s)

/-! ## Identity (R356) -/

def execIdGet (m : Msg) (s : State) : Host.Outcome State Fault Refusal :=
  .next (command { code := 0x0101 } m (report' (fun s =>
    leW hwId ++ le 8 Config.serial.toNat ++ leW s.mgt.mr.verA ++ leW s.mgt.mr.verB ++ le8 s.mgt.mr.active ++
    le8 (b2n s.mgt.otp.provisioned) ++ le16 ((s.panel.wf.map wfVersion).getD 0) ++ le32 s.cfg.version ++
    le16 s.acreId ++ zeros 2)) s)

/-! ## Sensing (R358) -/

/-- R340, R358, R363: u8 first, u8 count, 2 `pad`: a range within n; none where it is wrong. -/
def rangeArg (n : Nat) (m : Msg) : Option (Nat × Nat) :=
  let f := getB m.payload 0
  let c := getB m.payload 1
  if n ≤ f ∨ c < 1 ∨ n < f + c ∨ !padOk m 2 2 then none else some (f, c)

/-- A command that returns the same bytes for each of a range. -/
def rangeCmd (n : Nat) (f : State → Nat → List Byte) (tail : State → List Byte) (m : Msg) (s : State) : State × Reply :=
  match rangeArg n m with
  | none => (s, .st stBadArg)
  | some (a, c) => (s, .ok ((List.range c).flatMap (fun i => f s (a + i)) ++ tail s))

/-- R99: a result record. -/
def resBytes (s : State) (i : Nat) : List Byte :=
  let r := nth s.sens.results i
  leW r.codeWord ++ leW r.mcEnd ++ leW r.value

def execSensRead (m : Msg) (s : State) : Host.Outcome State Fault Refusal :=
  .next (command { code := 0x1001, len := fun n => n == 4 } m (rangeCmd 128 resBytes (fun _ => [])) s)

def execSensPres (m : Msg) (s : State) : Host.Outcome State Fault Refusal :=
  .next (command { code := 0x1002, len := fun n => n == 4 } m
    (rangeCmd 32 (fun s d => leW (s.presStatus d)) (fun _ => [])) s)

def execSensHk (m : Msg) (s : State) : Host.Outcome State Fault Refusal :=
  .next (command { code := 0x1003 } m
    (report' (fun s => s.sens.hk.flatMap (fun h => leW h.value ++ leW h.mcEnd))) s)

/-! ## Actuators and fans (R363) -/

def execActStatus (m : Msg) (s : State) : Host.Outcome State Fault Refusal :=
  .next (command { code := 0x3001, len := fun n => n == 4 } m
    (rangeCmd 32 (fun s n => leW (s.actStatus n) ++ leW (s.actAux n) ++ leW (s.actCount n))
      (fun s => leW s.boostStatus)) s)

def execActSetReq (m : Msg) (s : State) : Host.Outcome State Fault Refusal :=
  .next (command { code := 0x3002, len := fun n => n == 4 } m
    (fun m s =>
      let n := getB m.payload 0
      if 32 ≤ n ∨ !padOk m 1 1 then (s, .st stBadArg)
      else (updCh n (fun c => { c with req := getH m.payload 2 }) s, .st stOk)) s)

def execActClear (m : Msg) (s : State) : Host.Outcome State Fault Refusal :=
  .next (command { code := 0x3003, len := fun n => n == 8 } m
    (fun m s =>
      let mask := getW m.payload 0
      let b := getB m.payload 4
      if 2 ≤ b ∨ !padOk m 5 3 then (s, .st stBadArg)
      else
        let s1 := (idx 32 mask.testBit).foldl (fun a n => clearChannel n a) s
        (if b = 1 then clearBoost s1 else s1, .st stOk)) s)

def execFanStatus (m : Msg) (s : State) : Host.Outcome State Fault Refusal :=
  .next (command { code := 0x3101, len := fun n => n == 4 } m
    (rangeCmd 16 (fun s f => leW (s.fanStatus f) ++ leW (s.fanAux f)) (fun _ => [])) s)

def execFanSetReq (m : Msg) (s : State) : Host.Outcome State Fault Refusal :=
  .next (command { code := 0x3102, len := fun n => n == 4 } m
    (fun m s =>
      let f := getB m.payload 0
      if 16 ≤ f ∨ !padOk m 1 1 then (s, .st stBadArg)
      else (updFan f (fun x => { x with req := getH m.payload 2 }) s, .st stOk)) s)

def execFanClear (m : Msg) (s : State) : Host.Outcome State Fault Refusal :=
  .next (command { code := 0x3103, len := fun n => n == 4 } m
    (fun m s =>
      if !padOk m 2 2 then (s, .st stBadArg)
      else ((idx 16 (getH m.payload 0).testBit).foldl (fun a f => clearFan f a) s, .st stOk)) s)

/-! ## Acre (R365) -/

def execAcreStatus (m : Msg) (s : State) : Host.Outcome State Fault Refusal :=
  .next (command { code := 0x5101 } m (report' State.chainBytes) s)

/-- R72, R365: the joins a master holds. -/
def acreMembers (s : State) : List Byte :=
  let js := if s.acre.st = .master then s.acre.members else []
  le16 js.length ++ zeros 2 ++
    js.flatMap (fun j => le16 j.id ++ le8 j.cls ++ le8 j.slot ++ le8 j.channels ++ zeros 3)

def execAcreMembers (m : Msg) (s : State) : Host.Outcome State Fault Refusal :=
  .next (command { code := 0x5103, chunks := .fetch } m (fun _ s => (s, .object (acreMembers s))) s)

/-! ## The recorder (R366, R411, R412) -/

/-- R411, R414: the stored records as serial and slot; in summary mode those that bank 1 still gives. -/
def storedRecs (s : State) : List (Word × Nat) :=
  if s.bushel.summaryMode then
    (List.range logSlots).filterMap (fun i => (scanSlot s i).map (fun r => (r.serial, i)))
  else s.storedIndex.map (fun e => (e.serial, e.slot))

/-- R20, R411: records in order until enough are found; one with an uncorrectable codeword is reported and left out. -/
def logTake : List (Nat × (List Byte ⊕ Nat)) → Nat → State → State × List (List Byte)
  | [], _, s => (s, [])
  | _, 0, s => (s, [])
  | (_, .inl b) :: t, n + 1, s =>
    let r := logTake t n s
    (r.1, b :: r.2)
  | (_, .inr slot) :: t, n + 1, s =>
    if nvBad s.nvm 1 (64 * slot) 64 then logTake t (n + 1) (nvReport 1 (64 * slot) 64 s)
    else
      let r := logTake t n s
      (r.1, slotBytes s slot :: r.2)

/-- Insert an entry in ascending order of its distance from the serial asked for. -/
def logInsert (x : Nat × (List Byte ⊕ Nat)) : List (Nat × (List Byte ⊕ Nat)) → List (Nat × (List Byte ⊕ Nat))
  | [] => [x]
  | y :: t => if x.1 ≤ y.1 then x :: y :: t else y :: logInsert x t

/-- R411: the records at or after a serial, from the buffer and from the log, in ascending serial. In summary mode there is no index: codeword 0 of every slot is read for its serial (R20, R414). -/
def logRead (first : Word) (count : Nat) (s : State) : State × List (List Byte) :=
  let buf : List (Nat × (List Byte ⊕ Nat)) := (s.bushel.buf.filter (fun e => e.record.serial != 0)).map
    (fun e => ((e.record.serial - first).toNat, Sum.inl e.record.bytes))
  let log : List (Nat × (List Byte ⊕ Nat)) := (storedRecs s).map (fun p => ((p.1 - first).toNat, Sum.inr p.2))
  let after := (buf ++ log).filter (fun p => decide (p.1 < 2 ^ 31))
  logTake (after.foldr logInsert []) count (if s.bushel.summaryMode then tornReport s else s)

def execLogRead (m : Msg) (s : State) : Host.Outcome State Fault Refusal :=
  .next (command { code := 0x6001, len := fun n => n == 8 } m
    (fun m s =>
      let n := getB m.payload 4
      if n < 1 ∨ 63 < n ∨ !padOk m 5 3 then (s, .st stBadArg)
      else
        let rs := logRead (w32 (getW m.payload 0)) n s
        (rs.1, .ok (le8 rs.2.length ++ zeros 3 ++ rs.2.flatten))) s)

/-- The latest serial of a list under R10, or 0; the earliest. -/
def latestSerial : List Word → Word
  | [] => 0
  | x :: t => t.foldl (fun a b => if laterMC a b then b else a) x
def earliestSerial : List Word → Word
  | [] => 0
  | x :: t => t.foldl (fun a b => if laterMC b a then b else a) x

/-- R412: the recorder status block. -/
def logStatus (s : State) : List Byte :=
  let b := s.bushel
  let stored := s.storedIndex.map (·.serial)
  let bufd := (b.buf.map (·.record.serial)).filter (fun n => n != 0)
  le32 (at' (b2n b.summaryMode) 31 + at' (b2n b.logFull) 30 + at' (b2n b.scanDone) 29 + at' b.buf.length 24 +
    at' b.failCause 16 + min b.writeFails 65535) ++
  leW (earliestSerial stored) ++ leW (latestSerial (stored ++ bufd)) ++ leW b.nextSerial ++ le32 stored.length ++
  le16 (min b.scanErr 65535) ++ le16 (min (b.pend.map (·.count)).sum 65535) ++ b.dropped.flatMap le32 ++
  ((List.range 8).flatMap (fun v => le16 (s.storedIndex.countP (fun e => e.sev == v)))) ++ le32 b.flushes

def execLogStatus (m : Msg) (s : State) : Host.Outcome State Fault Refusal :=
  .next (command { code := 0x6002 } m (report' logStatus) s)

def execLogSummary (m : Msg) (s : State) : Host.Outcome State Fault Refusal :=
  .next (command { code := 0x6003, chunks := .fetch } m
    (fun _ s => (s, .object (sumBytes s.bushel.sum (b2n s.bushel.summaryMode)))) s)

/-- R366, R397, R402: a HOST record, which never merges; the happenings before it in the ring come first. -/
def logWrite (m : Msg) (s : State) : State × Reply :=
  let p := m.payload
  if 8 ≤ getB p 2 ∨ !padOk m 3 1 then (s, .st stBadArg)
  else
    let h : Happening := { typ := 9, sev := getB p 2, source := getH p 0, snap := getWords p 4 10, mc := s.chain.mc }
    if s.bushel.closed && !s.bushel.summaryMode then (countDropped h.sev s, .ok (le32 0))
    else if s.sup.restorePend then
      (if 64 ≤ s.bushel.ring.length then countDropped h.sev s
       else { s with bushel.ring := s.bushel.ring ++ [h] }, .ok (le32 0))
    else
      let s1 := serveRing s
      let next := s1.bushel.nextSerial
      let s2 := serveOne h s1
      let given := s2.bushel.nextSerial != next && !s2.bushel.summaryMode
      (s2, .ok (if given then leW next else le32 0))

def execLogWrite (m : Msg) (s : State) : Host.Outcome State Fault Refusal :=
  .next (command { code := 0x6004, len := fun n => n == 44 } m logWrite s)

/-! ## Health (R366) -/

def execHealthStatus (m : Msg) (s : State) : Host.Outcome State Fault Refusal :=
  .next (command { code := 0x7001 } m (report' (fun s =>
    le8 s.thermLevel ++ le8 (maskOf 5 (fun k => (nth s.therm.sensors k).valid)) ++ zeros 2 ++
    leW s.therm.governing ++ (List.range 5).flatMap (fun k => leW (nth s.sens.hk (2 * k)).value))) s)

def execHealthLastFault (m : Msg) (s : State) : Host.Outcome State Fault Refusal :=
  .next (command { code := 0x7002 } m (report' State.lastFault) s)

def execHealthMem (m : Msg) (s : State) : Host.Outcome State Fault Refusal :=
  .next (command { code := 0x7003 } m (report' (fun s =>
    (List.range 8).flatMap (fun k => le32 (nth s.clk.corrected k) ++ le32 (nth s.clk.uncorrectable k)))) s)

end Sys2Proof.Machine
end

