-- ==== Sys2Proof/Machine/Mgmt.lean ====
section
/-! DEFINITION. Firmware banks, image writes, OTP, attestation and trials: the operations of the management core (R458-R478). -/

namespace Sys2Proof.Machine

/-! ## Reports (R399) -/

/-- Source 106 or 107 with its SECURITY record: severity 2 on success, 5 on failure. -/
def secReport (src : Nat) (ok : Bool) (s : State) : State := report src 8 (if ok then 2 else 5) 0 s

/-! ## Firmware banks (R464-R471) -/

/-- R464: the largest firmware container. -/
def fwLimit : Nat := 2097152

/-- R20: does a bank hold an uncorrectable codeword: its image cannot be read whole, and fails its digest (DEDUCED, notes/assumptions/24.md). -/
def State.bankBad (s : State) (b : Nat) : Bool := s.mgt.flashBad.any (fun c => c.1 == b)

/-- R463: the first step of 1-7 that a bank fails. The image Balloth delivered carries Balloth's signatures, of slot 0 (R4, R468, R536), so only its slot's revocation and the floors can fail it. -/
def bankStep (s : State) (b : Nat) : Option Nat :=
  if s.bankBad b then some 4
  else if b = 0 ∧ s.mgt.delivered then
    (if s.mgt.otp.revoked.getD 0 false then some 3
     else if !floorOk s 1 s.mgt.mr.verA then some 7 else none)
  else contStep s [1] fwLimit (nth s.mgt.flash b)

/-- R20: reading a bank reports each uncorrectable codeword of it on source 123. -/
def bankReport (b : Nat) (s : State) : State :=
  (s.mgt.flashBad.filter (fun c => c.1 == b)).foldl (fun a _ => memUncorrectable 7 a) s

/-- R424, R471: the last-fault entry of a boot-image failure. -/
def bootFault (b reason : Nat) (s : State) : State := writeFault 9 106 (b + 1 + at' reason 4) 0 s

/-- R470: a trial fails: the bank BAD, the previous bank active, last-fault cause 9 with reason 7, source 106. -/
def trialFail (store : State → State) (s : State) : State :=
  let b := s.mgt.mr.active
  let s1 := { s with mgt.mr := { s.mgt.mr.setSt b .bad with active := 1 - b }, mgt.trial := false }
  secReport 106 false (bootFault b 7 (store s1))

/-- R466, R474: the `KEY_SLOT` of a bank's container. -/
def bankSlot (s : State) (b : Nat) : Nat := if b = 0 ∧ s.mgt.delivered then 0 else contSlot (nth s.mgt.flash b)

/-- R461 `BURN_EPOCH` of a bank's container. -/
def bankBurns (s : State) (b : Nat) : Bool := !(b == 0 && s.mgt.delivered) && getB (nth s.mgt.flash b) 7 == 1

/-- R459, R466, R474: the OTP bits that a confirmation sets: N, and whether slot 0 is revoked. -/
def confirmBits (s : State) : Nat × Bool :=
  let b := s.mgt.mr.active
  (if bankBurns s b then max s.mgt.otp.thermo (epochOf (s.mgt.mr.bankVer b)) else s.mgt.otp.thermo,
   s.mgt.otp.revokeOnConfirm && decide (1 ≤ bankSlot s b) && !s.mgt.otp.revoked.getD 0 false)

/-- R459, R493: queue the OTP bits of a confirmation, when it sets any; entry 5 takes them before the management state. -/
def confirmOtp (s : State) : State :=
  let c := confirmBits s
  if (c.1 = s.mgt.otp.thermo && !c.2) || s.bushel.closed then s
  else { s with nvm := nvSubmit s.nvm 5 { job := .otpConfirm c.1 c.2 } }

/-- R459, R466, R474: the OTP bits of a confirmation have been set and read back. A bit that does not read back set ends the operation: how far it came is a free value (`THERMO` first), and source 107 reports it (DESIGN CHOICE, notes/assumptions/90.md). -/
def confirmDone (thermo : Nat) (revoke ok : Bool) (s : State) : State :=
  let o := s.mgt.otp
  let n := if ok then thermo else min thermo (o.thermo + s.freeNat % (thermo - o.thermo + b2n revoke))
  let s1 := { s with mgt.otp := { o with thermo := max o.thermo n,
                                         revoked := if revoke && ok then o.revoked.set 0 true else o.revoked } }
  if ok then (if revoke then secReport 107 true s1 else s1) else secReport 107 false s1.draw

/-- R466, R470, R474: the confirmation of a trial. -/
def trialConfirm (s : State) : State :=
  let b := s.mgt.mr.active
  let v := s.mgt.mr.bankVer b
  let mr := ((s.mgt.mr.setSt b .good).setSt (1 - b) .old)
  let mr1 := if mr.floorFw.toNat < v.toNat then { mr with floorFw := v } else mr
  secReport 106 true (mgtStore .plain { confirmOtp s with mgt.mr := mr1, mgt.trial := false })

/-- R470 TRIAL_CONFIRM: 600 s of released control path without a restart. -/
def execTrialConfirm (s : State) : Host.Outcome State Fault Refusal :=
  .next (if s.released && s.mgt.trial then trialConfirm s else s)

/-! ## Image writes (R469) -/

/-- R469: an image write ends. -/
def imageEnd (status : Nat) (s : State) : State :=
  secReport 106 (status == stOk)
    { s with mgt.upd := { s.mgt.upd with state := 4, lastStatus := status, image := [] } }

/-- R469: the management state with the bank WRITTEN has been stored, or not. -/
def imageStored (ok : Bool) (s : State) : State :=
  if ok then
    let s1 := if s.mgt.upd.bus then { s with mgt.upd := { s.mgt.upd with bankByFile := some s.mgt.upd.bank } } else s
    imageEnd stOk s1
  else imageEnd stNvFail { s with mgt.mr := s.mgt.mr.setBank s.mgt.upd.bank .empty 0 }

/-- R464: the slot write of a waveform has been read back. -/
def waveformDone (slot : Nat) (ok : Bool) (s : State) : State :=
  if ok then
    let c := s.mgt.upd.image
    tableStage (contPayload c) slot (contVersion c) (imageEnd stOk s)
  else imageEnd stNvFail s

/-- Cut bytes into pieces of 32. -/
def pieces32 : Nat → List Byte → List (List Byte)
  | 0, _ => []
  | n + 1, bs => if bs.isEmpty then [] else bs.take 32 :: pieces32 n (bs.drop 32)

/-- R469, R493: flash bytes on their way to a bank: entry 7, where banks 2 and 3 stand for flash banks A and B. -/
def flashWrite (b : Nat) (bs : List Byte) (s : State) : State :=
  let ps := pieces32 (bs.length / 32 + 1) bs
  { s with nvm := nvSubmit s.nvm 7 { job := .flash, cws := ps.map (fun p => { bank := 2 + b, cw := 0, data := p }) } }

/-- R469 step 1: the bank is erased. -/
def flashErase (b : Nat) (s : State) : State :=
  { s with mgt.flash := s.mgt.flash.set b [], mgt.flashBad := s.mgt.flashBad.filter (fun c => c.1 != b),
           mgt.delivered := s.mgt.delivered && b != 0 }

/-- R469 step 1: the bank is set EMPTY. Data wait in entry 7 until the EMPTY has been stored (`State.eraseOpen`), and start-up finds an erased bank EMPTY (`mgtBoot`). -/
def flashEmpty (b : Nat) (s : State) : State :=
  mgtStore .erase { s with mgt.mr := s.mgt.mr.setBank b .empty 0 }

/-- R485: test 9 reads the flash. -/
def State.readsFlash (s : State) : Bool := s.test.running && s.test.left.head? == some 9

/-- R469, R485, R493, R495: the bank is EMPTY at once; its erasure waits in entry 7 behind flash bytes still on their way, and until test 9 has ended. -/
def flashEraseDue (b : Nat) (s : State) : State :=
  let s1 := flashEmpty b s
  if s1.readsFlash || nvBusy s1.nvm 7 then { s1 with nvm := nvSubmit s1.nvm 7 { job := .flashErase b } } else flashErase b s1

/-- R343: an image is being verified or written. -/
def State.imageBusy (s : State) : Bool := s.mgt.upd.state == 2 || s.mgt.upd.state == 3

/-- R469, R343: the first chunk of an image of a kind. -/
def imageBegin (kind : Nat) (version : Word) (bus : Bool) (s : State) : State :=
  let b := 1 - s.mgt.mr.active
  let u := { s.mgt.upd with state := 1, kind := kind, version := version, bus := bus, bank := b, image := [] }
  if kind = 1 then flashEraseDue b { s with mgt.upd := u } else { s with mgt.upd := u }

/-- R469: data of the image in progress arrive. -/
def imageData (bs : List Byte) (s : State) : State :=
  if s.mgt.upd.kind = 1 then flashWrite s.mgt.upd.bank bs s else s

/-- R469: the whole container has arrived. -/
def imageWhole (data : List Byte) (s : State) : State :=
  { s with mgt.upd := { s.mgt.upd with state := 2, image := data } }

/-- R469, R463: verification ends; it waits for the flash to hold the image and for an attestation that signs (R476). -/
def imageVerify (s : State) : State :=
  let u := s.mgt.upd
  if u.state ≠ 2 ∨ s.mgt.att.running ∨ nvBusy s.nvm 7 then s
  else if u.kind = 1 then
    match bankStep s u.bank with
    | some k => imageEnd (contStatus k) (bankReport u.bank s)
    | none =>
      if s.bushel.closed ∨ s.nvm.halted then imageEnd stNvFail s
      else mgtStore .image { s with mgt.upd := { u with state := 3 } }
  else
    match wfContStep s u.image with
    | some k => imageEnd (contStatus k) s
    | none =>
      if s.bushel.closed ∨ s.nvm.halted then imageEnd stNvFail s
      else
        let slot := 1 - s.panel.wfSlot
        { s with mgt.upd := { u with state := 3 },
                 nvm := nvSubmit s.nvm 5 { job := .waveform slot,
                                           cws := nvCws s.nvm 0 (nvWfBase + 0x20000 * slot) u.image } }

def execImageVerifyDone (s : State) : Host.Outcome State Fault Refusal :=
  .next (if s.alive then imageVerify s else s)

/-- R342, R464, R469, R470: may an image of this kind begin. -/
def imageMayBegin (kind : Nat) (s : State) : Nat :=
  if kind ≠ 1 ∧ kind ≠ 2 then stBadArg
  else if s.imageBusy ∨ (kind = 1 ∧ s.mgt.mr.inTrial) then stBusy
  else if s.thermalBars then stThermal
  else if s.bushel.closed then stNvFail
  else stOk

/-- R341, R469: one chunk of an image through `UPD.WRITE_IMAGE` or a bus file; a chunk that the device's state refuses has no effect. -/
def imageChunk (bus : Bool) (m : Msg) (s : State) : State × Reply :=
  let first := !m.chunk || getH m.payload 0 == 0
  let data := if m.chunk then m.payload.drop 8 else m.payload
  let r := if m.chunk then takeChunk 0x7101 bus m s else (s, .whole m.payload)
  let may := if first then imageMayBegin (getB data 6) s else if s.thermalBars then stThermal
    else if s.bushel.closed then stNvFail else stOk
  match r.2 with
  | .err st => if st = stBusy ∧ may = stBadArg then (s, .st may) else (r.1, .st st)
  | res =>
    if may ≠ stOk then (s, .st may)
    else
      let s1 := if first then imageBegin (getB data 6) (w32 (getW data 0x10)) bus r.1 else r.1
      match res with
      | .whole all => (imageWhole all (imageData data s1), .st stPending)
      | _ => (imageData data s1, .st stOk)

def execUpdWriteImage (m : Msg) (s : State) : Host.Outcome State Fault Refusal :=
  .next (command { code := 0x7101, len := fun _ => true, chunks := .inbound } m (imageChunk false) s)

/-- R367: the state that `UPD.STATUS` shows; an abandoned object leaves none in progress (R331). -/
def State.updShown (s : State) : Nat :=
  let going := match s.mbox.chunkIn with | some c => c.cmd == 0x7101 | none => false
  if s.mgt.upd.state = 1 ∧ !going then 0 else s.mgt.upd.state

def execUpdStatus (m : Msg) (s : State) : Host.Outcome State Fault Refusal :=
  .next (command { code := 0x7102 } m (report' (fun s =>
    le8 s.updShown ++ le8 s.mgt.upd.kind ++ le16 s.mgt.upd.lastStatus ++ leW s.mgt.upd.version)) s)

/-! ## Activation (R470) -/

/-- R466, R470: the bank has been stored as TRIAL, or not; the reset follows 10 ms after the response. A failure takes back the bank states alone. -/
def activateStored (ok : Bool) (s : State) : State :=
  match s.mgt.activating with
  | none => s
  | some old =>
    let s1 := { s with mgt.activating := none }
    if ok then finish stOk [] { s1 with sup.softPend := true }
    else
      finish stNvFail [] { s1 with mgt.mr := { s.mgt.mr with
        stateA := old.stateA, stateB := old.stateB, active := old.active, trialBoots := old.trialBoots } }

/-- R341, R342, R470: activate a bank: the state of the device first (step 5), then the bank's verification (step 6). -/
def activate (b : Nat) (s : State) : State × Reply :=
  if s.mgt.mr.inTrial then (s, .st stBusy)
  else if b = s.mgt.mr.active then (s, .st stOk)
  else if s.thermalBars then (s, .st stThermal)
  else
    match (if s.mgt.mr.bankSt b = .empty then some 3 else bankStep s b) with
    | some 7 => (s, .st stRollback)
    | some _ => (bankReport b s, .st stAuthFail)
    | none =>
      if s.bushel.closed then (s, .st stNvFail)
      else
        (mgtStore .activate { s with mgt.activating := some s.mgt.mr }, .wait)

def execUpdActivate (m : Msg) (s : State) : Host.Outcome State Fault Refusal :=
  .next (command { code := 0x7103, len := fun n => n == 4 } m
    (fun m s =>
      let b := getB m.payload 0
      if 1 < b ∨ !padOk m 1 3 then (s, .st stBadArg) else activate b s) s)

/-! ## Security (R472-R478) -/

def execSecStatus (m : Msg) (s : State) : Host.Outcome State Fault Refusal :=
  .next (command { code := 0x7201 } m (report' (fun s =>
    let r := s.mgt.mr
    leW s.secFlags ++ le8 r.stateA.code ++ le8 r.stateB.code ++ le8 r.trialBoots ++ zeros 1 ++
    leW r.verA ++ leW r.verB ++ leW r.floorFw ++ leW r.floorWf ++ leW r.floorCfg ++ leW r.attCount)) s)

/-- R477: the evidence block. -/
def evidence (s : State) : List Byte :=
  let o := s.mgt.otp
  let r := s.mgt.mr
  let fw := if r.active = 0 ∧ s.mgt.delivered then Config.firmwareA else nth s.mgt.flash r.active
  le32 0x5A334154 ++ le16 1 ++
  le16 (b2n o.provisioned + at' (b2n o.debugLock) 1 + at' (b2n o.signedCfg) 2 + at' (b2n r.inTrial) 3 +
    at' (b2n s.mgt.mrLost) 4 + at' (b2n s.safe) 5 + at' (b2n s.cfg.dflt) 6) ++
  leW hwId ++ le 8 Config.serial.toNat ++ leW r.attCount ++ le32 s.backup.pcc.toNat ++ leW s.backup.opt ++
  leW s.chain.mc ++ leW s.calWord ++ slice s.mgt.att.nonce 0 32 ++
  le8 r.active ++ le8 o.thermo ++ le8 o.revokedMask ++ le8 (maskOf 4 (fun k => o.filled k)) ++
  leW (r.bankVer r.active) ++ leW (r.bankVer (1 - r.active)) ++ le8 r.stateA.code ++ le8 r.stateB.code ++ zeros 2 ++
  leW r.floorFw ++ leW r.floorWf ++ leW r.floorCfg ++
  le32 ((s.panel.wf.map wfVersion).getD 0) ++ le32 s.cfg.version ++ leW s.cfg.slotSeq ++
  slice fw 0x28 32 ++ sha256 (s.panel.wf.getD []) ++ sha256 (Image.body s.cfg.inForce) ++ sha256 (o.seenBy false) ++
  (List.finRange 384).map Config.devRsaN ++ le32 65537 ++ (List.finRange 32).map Config.devSlhPk ++ zeros 12

/-- R476: the count has been stored, or not. -/
def attestStored (ok : Bool) (s : State) : State :=
  if !s.mgt.att.running then s
  else if ok then { s with mgt.att := { s.mgt.att with evidence := some (evidence s) } }
  else
    secReport 107 false
      { s with mgt.att := { s.mgt.att with running := false, failed := true, counted := false },
               mgt.mr := { s.mgt.mr with attCount := if s.mgt.att.counted then s.mgt.mr.attCount - 1 else s.mgt.mr.attCount } }

/-- R343, R476: `SEC.ATTEST`. -/
def attest (m : Msg) (s : State) : State × Reply :=
  if s.mgt.att.running then (s, .st stNoResource)
  else if s.thermalBars then (s, .st stThermal)
  else if s.bushel.closed then (s, .st stNvFail)
  else
    (mgtStore .attest { s with mgt.att := { running := true, nonce := m.payload } }, .st stPending)

def execSecAttest (m : Msg) (s : State) : Host.Outcome State Fault Refusal :=
  .next (command { code := 0x7202, len := fun n => n == 32 } m attest s)

/-- R476 ATTEST_DONE: the signatures are made. -/
def attestDone (s : State) : State :=
  match s.mgt.att.evidence with
  | none => s
  | some e =>
    if !s.mgt.att.running then s
    else
      let sig := (List.finRange 384).map (Config.deviceRsaSign Config.kwk Config.wrappedKey s.free e) ++
        (List.finRange 7856).map (Config.deviceSlhSign Config.devSlhSk s.free e)
      secReport 107 true
        ({ s with mgt.att := { s.mgt.att with running := false, evidence := none, response := some (e ++ sig) } }).draw

def execAttestDone (s : State) : Host.Outcome State Fault Refusal := .next (if s.alive then attestDone s else s)

/-- R343, R477: `SEC.ATTEST_GET`. -/
def execSecAttestGet (m : Msg) (s : State) : Host.Outcome State Fault Refusal :=
  .next (command { code := 0x7203, chunks := .fetch } m
    (fun _ s =>
      if s.mgt.att.failed then (s, .st stNvFail)
      else match s.mgt.att.response with
        | none => (s, .st stBusy)
        | some r => (s, .object r)) s)

/-! ## Provisioning and the debug lock (R459, R472-R475) -/

/-- R472: the key bytes of slot k (1-3). -/
def pvKey (b : List Byte) (k : Nat) : List Byte := slice b (0x10 + 64 * (k - 1)) 64

/-- R472: is the object well formed. -/
def pvOk (b : List Byte) : Bool :=
  let slots := getB b 8
  let flags := getB b 6
  let fills (k : Nat) : Bool := slots.testBit k
  getW b 0 == 0x5A335056 && getH b 4 == 1 && decide (flags < 8) && decide (slots < 16) && slots % 2 == 0 && slots != 0 &&
  allZero (slice b 0x0C 4) &&
  [1, 2, 3].all (fun k => decide (getB b (8 + k) < 8) &&
    (if fills k then (slice b (0x10 + 64 * (k - 1)) 32).any (fun x => x != 0) else allZero (pvKey b k))) &&
  (!flags.testBit 2 || [1, 2, 3].any (fun k => fills k && (getB b (8 + k)).testBit 0))

/-- R473: the OTP as the object asks. -/
def pvOtp (b : List Byte) (o : Otp) : Otp :=
  let slots := getB b 8
  { o with keys := (List.range 3).map (fun i => if slots.testBit (i + 1) then pvKey b (i + 1) else nth o.keys i),
           kind := (List.range 4).map (fun k => if k != 0 && slots.testBit k then getB b (8 + k) else nth o.kind k),
           pfwTh := getB b 7, signedCfg := (getB b 6).testBit 0, postBist := (getB b 6).testBit 1,
           revokeOnConfirm := (getB b 6).testBit 2, provisioned := true, debugLock := true }

/-- Every bit set in a is set in b. -/
def bitsWithin (a b : Nat) : Bool := a &&& b == a

/-- R473: the object needs no set bit cleared. -/
def pvAdds (o n : Otp) : Bool :=
  (List.range 3).all (fun i => bitsWithin (unle (nth o.keys i)) (unle (nth n.keys i))) &&
  (List.range 4).all (fun k => bitsWithin (nth o.kind k) (nth n.kind k)) &&
  bitsWithin o.pfwTh n.pfwTh && (!o.signedCfg || n.signedCfg) && (!o.postBist || n.postBist) &&
  (!o.revokeOnConfirm || n.revokeOnConfirm)

/-- R459: a field of w bits that begins at bit p of an operation, after its first k bits have been set. -/
def pvBits (k p w o n : Nat) : Nat := o ||| n % 2 ^ min w (k - p)

/-- R459, R473: a flag at bit p, after the first k bits have been set. -/
def pvFlag (k p : Nat) (o n : Bool) : Bool := o || (n && decide (p < k))

/-- R473: the bits of a provisioning: keys, kinds, `PFW_TH`, the flags, `PROVISIONED`, `DEBUG_LOCK`. -/
def pvTotal : Nat := 1581

/-- R459, R473: the OTP after the first k bits have been set, in the order of R473; within a field the least significant byte and bit come first (DESIGN CHOICE, notes/assumptions/90.md). -/
def pvPart (k : Nat) (o n : Otp) : Otp :=
  { o with keys := (List.range 3).map (fun i => le (max 64 (nth o.keys i).length)
                             (pvBits k (512 * i) 512 (unle (nth o.keys i)) (unle (nth n.keys i)))),
           kind := (List.range 4).map (fun i => pvBits k (1536 + 8 * i) 8 (nth o.kind i) (nth n.kind i)),
           pfwTh := pvBits k 1568 8 o.pfwTh n.pfwTh,
           signedCfg := pvFlag k 1576 o.signedCfg n.signedCfg, postBist := pvFlag k 1577 o.postBist n.postBist,
           revokeOnConfirm := pvFlag k 1578 o.revokeOnConfirm n.revokeOnConfirm,
           provisioned := pvFlag k 1579 o.provisioned n.provisioned, debugLock := pvFlag k 1580 o.debugLock n.debugLock }

/-- R473: the OTP once every bit has been set. What a confirmation has set meanwhile (R466, R474) stays. -/
def pvWhole (o n : Otp) : Otp := { n with revoked := o.revoked, thermo := o.thermo }

/-- R459: the OTP operation has ended. How many bits a failed one has set is a free value. -/
def otpDone (ok : Bool) (s : State) : State :=
  match s.mgt.prov with
  | none => s
  | some n =>
    let s1 := { s with mgt.prov := none, mgt.provCmd := false }
    if ok then
      let s2 := { s1 with mgt.otp := pvWhole s.mgt.otp n }
      finish stOk [] (if s.mgt.provCmd then secReport 107 true s2 else s2)
    else
      let s2 := ({ s1 with mgt.otp := pvPart (s.freeNat % pvTotal) s.mgt.otp n }).draw
      finish stNvFail [] (if s.mgt.provCmd then secReport 107 false s2 else s2)

/-- R459: a reset or a loss of supply during an OTP operation leaves each bit set or clear: how many bits of the one in progress were set is a free value. -/
def otpCut (s : State) : Otp :=
  match nth s.nvm.queue 5, s.mgt.prov with
  | { job := .otp, .. } :: _, some n => pvPart (s.freeNat % (pvTotal + 1)) s.mgt.otp n
  | { job := .otpConfirm t r, .. } :: _, _ =>
    let o := s.mgt.otp
    let k := s.freeNat % (t - o.thermo + b2n r + 1)
    { o with thermo := max o.thermo (min t (o.thermo + k)),
             revoked := if r && decide (t - o.thermo < k) then o.revoked.set 0 true else o.revoked }
  | _, _ => s.mgt.otp

/-- R342, R459, R493: queue an OTP operation. -/
def otpStart (n : Otp) (prov : Bool) (s : State) : State × Reply :=
  if s.thermalBars then (s, .st stThermal)
  else if s.bushel.closed then (s, .st stNvFail)
  else ({ s with mgt.prov := some n, mgt.provCmd := prov, nvm := nvSubmit s.nvm 5 { job := .otp } }, .wait)

/-- R472: a chunk that carries the whole object. -/
def pvChunkOk (m : Msg) : Bool :=
  m.last && getH m.payload 0 == 0 && getH m.payload 2 == 0 && getW m.payload 4 == 208 && m.payload.length == 216

/-- R331, R341, R472, R473: `SEC.PROVISION`. -/
def provision (m : Msg) (s : State) : State × Reply :=
  let b := if m.chunk then m.payload.drop 8 else m.payload
  let n := pvOtp b s.mgt.otp
  if (m.chunk && !pvChunkOk m) || !pvOk b || !pvAdds s.mgt.otp n then (s, .st stBadArg)
  else if m.chunk && s.chunkBars 0x7204 then (s, .st stBusy)
  else if s.mgt.otp.provisioned then (s, .st stLocked)
  else otpStart n true s

def execSecProvision (m : Msg) (s : State) : Host.Outcome State Fault Refusal :=
  .next (command { code := 0x7204, len := fun n => n == 208, chunks := .inbound } m provision s)

def execSecLockDebug (m : Msg) (s : State) : Host.Outcome State Fault Refusal :=
  .next (command { code := 0x7205, len := fun n => n == 4 } m
    (fun m s =>
      if getW m.payload 0 ≠ 0xD3B6 then (s, .st stBadArg)
      else if s.mgt.otp.debugLock then (s, .st stOk)
      else otpStart { s.mgt.otp with debugLock := true } false s) s)

end Sys2Proof.Machine
end

