-- ==== Sys2Proof/Machine/BusObj.lean ====
section
/-! DEFINITION. The BACnet objects and what reading their properties gives (R375, R376, R378-R380, R384). Numbers of object types, units and enumerations are the bus standard's (notes/assumptions/70.md). -/

namespace Sys2Proof.Machine

/-! ## Text -/

def asciiOf (s : String) : List Byte := s.toList.map (fun c => BitVec.ofNat 8 c.toNat)

def digitsGo : Nat → Nat → List Byte
  | 0, _ => []
  | k + 1, n => (if n < 10 then [] else digitsGo k (n / 10)) ++ [BitVec.ofNat 8 (48 + n % 10)]

/-- A number in decimal. -/
def decText (n : Nat) : List Byte := digitsGo 10 n

/-! ## The object list (R375) -/

/-- R373 `DEV_INST`. -/
def State.devInst (s : State) : Nat := s.cf .bus 0 1 21 0

/-- R375: instances of each type but Device. -/
def ObjType.count : ObjType → Nat
  | .ai => 112 | .av => 144 | .bv => 68 | .msv => 64 | .schedule => 16 | .trendLog => 16 | .notifClass => 2
  | .file => 4 | .device | .other _ => 0

/-- R375: the device holds the object. -/
def State.objExists (s : State) (o : ObjId) : Bool :=
  if o.typ = .device then o.inst == s.devInst else decide (o.inst < o.typ.count)

def ObjType.num : ObjType → Nat
  | .ai => 0 | .av => 2 | .bv => 5 | .device => 8 | .file => 10 | .notifClass => 15 | .schedule => 17 | .msv => 19
  | .trendLog => 20 | .other n => n

/-- R375: the fixed list of objects. -/
def State.objectList (s : State) : List ObjId :=
  { typ := .device, inst := s.devInst } ::
  [ObjType.ai, .av, .bv, .msv, .schedule, .trendLog, .notifClass, .file].flatMap (fun t =>
    (List.range t.count).map (fun i => { typ := t, inst := i }))

/-- R375: Object_Name. -/
def objName (o : ObjId) : List Byte :=
  let n := o.inst
  let z (k : Nat) (suffix : String) : List Byte := asciiOf "Z" ++ decText k ++ asciiOf suffix
  match o.typ with
  | .device => asciiOf "Z3200-" ++ decText n
  | .ai => if n < 96 then asciiOf "AIN" ++ decText n else asciiOf "HK" ++ decText n
  | .av =>
    if n < 32 then z n "-SP" else if n < 64 then z (n - 32) "-OCC-HEAT" else if n < 96 then z (n - 64) "-OCC-COOL"
    else if n < 128 then asciiOf "ACT" ++ decText (n - 96) ++ asciiOf "-I"
    else asciiOf "FAN" ++ decText (n - 128) ++ asciiOf "-RPM"
  | .bv =>
    if n < 32 then z n "-OCC" else if n < 64 then z (n - 32) "-COMFORT"
    else asciiOf (if n = 64 then "LOGFAIL" else if n = 65 then "SAFE" else if n = 66 then "PANELFAULT" else "REFALARM")
  | .msv => if n < 32 then z n "-MODE" else z (n - 32) "-CMD"
  | .schedule => asciiOf "SCHED" ++ decText n
  | .trendLog => asciiOf "TREND" ++ decText n
  | .notifClass => asciiOf "NC" ++ decText n
  | .file => asciiOf (if n = 0 then "FW" else if n = 1 then "WAVE" else if n = 2 then "CFGIN" else "CFGOUT")
  | .other _ => []

/-! ## Present values -/

/-- R376: the value behind an Analog Input. -/
def State.aiWord (s : State) (n : Nat) : Word :=
  if n < 96 then (nth s.sens.results n).value else (nth s.sens.hk (n - 96)).value

/-- R376: Reliability: 0 no fault, 1 NO_SENSOR, 2 OVER_RANGE, 3 UNDER_RANGE. -/
def State.aiReliability (s : State) (n : Nat) : Nat :=
  let w := s.aiWord n
  if w = 0x80000001 then 1 else if w = 0x7FFFFFFF then 2 else if w = 0x80000000 then 3 else 0

/-- R376: Present_Value of an Analog Input. -/
def State.aiReal (s : State) (n : Nat) : Word :=
  match s.aiReliability n with
  | 0 => b32Of (q16 (s.aiWord n))
  | 1 => 0
  | _ => b32Of (q16 (nth s.bus.aiLast n))

/-- R376: Units of an Analog Input: 62 degrees-Celsius, 5 volts, 4 ohms, 95 no-units. -/
def State.aiUnits (s : State) (n : Nat) : Nat :=
  if 96 ≤ n then
    (let k := n - 96
     if k % 2 = 0 ∧ k ≤ 8 then 62 else if k ≤ 12 then 5 else 95)
  else
    let t := s.cf .ain n 0 27 24
    let ofs := s.cw .ain n (if t = 5 then 4 else 2)
    let scaled := decide (t ≤ 3) && s.cw .ain n 1 != 0x00010000
    if scaled || ofs != 0 then 95
    else if t = 4 ∨ t = 5 then 62 else if t = 1 ∨ t = 2 then 5 else if t = 3 then 4 else 95

/-- R375: the active committed setpoint of a zone: heating in HEAT, cooling in COOL. -/
def Zone.activeSp (z : Zone) (of : List (Option Traj)) : Word := b32Of (q16 (trajWord (of.getD (b2n z.cool) none)))

/-- R375: Present_Value of an Analog Value. -/
def State.avReal (s : State) (n : Nat) : Word :=
  let half (z hi lo : Nat) : Word := b32Of ((sfld (s.cfg.committed.word .zone z 2) hi lo : Rat) / 100)
  if n < 32 then (s.zone n).activeSp (s.zone n).committed
  else if n < 64 then half (n - 32) 15 0
  else if n < 96 then half (n - 64) 31 16
  else if n < 128 then b32Of (((s.ach (n - 96)).iMeas : Rat) / 1000)
  else b32Of ((s.fan (n - 128)).rpm : Rat)

/-- Units of an Analog Value: 62 degrees-Celsius, 3 amperes, 104 revolutions-per-minute. -/
def avUnits (n : Nat) : Nat := if n < 96 then 62 else if n < 128 then 3 else 104

/-- R375: Present_Value of a Multi-state Value. -/
def State.msvVal (s : State) (n : Nat) : Nat :=
  if n < 32 then (s.zone n).cm.code + 1 else if (s.zone (n - 32)).hostOff then 2 else 1

/-- R375, R378: Present_Value of a Schedule: the `EV_MODE` in force, Schedule_Default where there is none. -/
def State.schedVal (s : State) (i : Nat) : Nat :=
  if s.backup.calValid then (schedMode (s.cfg.inForce.inst .sched i) (minuteOfWeek s.schedTime)).getD 0 else 0

/-- The word by which a subscription compares and a notification carries a Present_Value: a REAL's bits, or the number. -/
def State.presentWord (s : State) (o : ObjId) : Word :=
  match o.typ with
  | .ai => s.aiReal o.inst
  | .av => s.avReal o.inst
  | .bv => w32 (b2n (s.bvOn o.inst))
  | .msv => w32 (s.msvVal o.inst)
  | _ => 0

/-- R384: an object that reports events. -/
def ObjId.alarmed (o : ObjId) : Bool := o.typ == .bv && decide (32 ≤ o.inst)


/-- Status_Flags as the standard numbers them from bit 0: IN_ALARM, FAULT, OVERRIDDEN, OUT_OF_SERVICE. -/
def State.statusFlags (s : State) (o : ObjId) : Nat :=
  at' (b2n (o.typ == .ai && s.aiReliability o.inst != 0)) 1 + b2n (o.alarmed && (s.alarm o.inst).active)

/-- R373: the word of the BUS section that holds an object's COV_Increment. -/
def State.covWord (s : State) (o : ObjId) : Nat :=
  let u := if o.typ = .ai then s.aiUnits o.inst else avUnits o.inst
  if u = 62 then 14 else if u = 98 then 15 else 16

/-- R373: COV_Increment of an analog object. -/
def State.covInc (s : State) (o : ObjId) : Rat := q16 (s.cw .bus 0 (s.covWord o))

/-! ## Properties -/

/-- A property that this spec does not name is the standard's (notes/assumptions/71.md); any other is unknown to the object. R377: no object has a Priority_Array (property 87). -/
def otherProp (o : ObjId) (p : PropId) : BRes :=
  match p with
  | .other 87 => .err .unknownProperty
  | .other n =>
    (match Config.otherProp o.typ.num o.inst n with
     | some b => .val (.encoded b)
     | none => .err .unknownProperty)
  | _ => .err .unknownProperty

def bits4 (n : Nat) : BVal := .bitString ((List.range 4).map n.testBit)

/-- Properties that AI, AV, BV and MSV share. -/
def State.valueProp (s : State) (o : ObjId) (p : PropId) : BRes :=
  match p with
  | .statusFlags => .val (bits4 (s.statusFlags o))
  | .eventState => .val (.enumerated (at' (b2n (o.alarmed && (s.alarm o.inst).active)) 1))
  | .outOfService => .val (.bool false)
  | _ => otherProp o p

def State.aiProp (s : State) (o : ObjId) (p : PropId) : BRes :=
  match p with
  | .presentValue => .val (.real (s.aiReal o.inst))
  | .reliability => .val (.enumerated (s.aiReliability o.inst))
  | .units => .val (.enumerated (s.aiUnits o.inst))
  | .covIncrement => .val (.real (b32Of (s.covInc o)))
  | _ => s.valueProp o p

def State.avProp (s : State) (o : ObjId) (p : PropId) : BRes :=
  match p with
  | .presentValue => .val (.real (s.avReal o.inst))
  | .units => .val (.enumerated (avUnits o.inst))
  | .covIncrement => .val (.real (b32Of (s.covInc o)))
  | .provisionalSetpoint =>
    if o.inst < 32 then .val (.real ((s.zone o.inst).activeSp (s.zone o.inst).actual)) else .err .unknownProperty
  | _ => s.valueProp o p

def State.bvProp (s : State) (o : ObjId) (p : PropId) : BRes :=
  let a := s.alarm o.inst
  match p, o.alarmed with
  | .presentValue, _ => .val (.enumerated (b2n (s.bvOn o.inst)))
  | .alarmValue, true => .val (.enumerated 1)
  | .timeDelay, true => .val (.unsigned 0)
  | .eventEnable, true => .val (.bitString [true, true, true])
  | .ackedTransitions, true => .val (.bitString a.acked)
  | .eventTimeStamps, true => .val (.list (a.stamps.map (·.toNat)))
  | .notificationClass, true => .val (.unsigned (notifClassOf o.inst))
  | .notifyType, true => .val (.enumerated 0)
  | _, _ => s.valueProp o p

def State.msvProp (s : State) (o : ObjId) (p : PropId) : BRes :=
  match p with
  | .presentValue => .val (.unsigned (s.msvVal o.inst))
  | .numberOfStates => .val (.unsigned (if o.inst < 32 then 8 else 2))
  | _ => s.valueProp o p

/-- R378: a stored schedule as Weekly_Schedule. -/
def weekly (ws : List Word) : List (List TimeValue) :=
  (List.range 7).map (fun d => (List.range 8).filterMap (fun e =>
    let v := schedEvent ws d e
    if bits v 15 13 = 0 then none
    else some { hour := bits v 10 0 / 60, minute := bits v 10 0 % 60, value := bits v 15 13 }))

def State.schedProp (s : State) (o : ObjId) (p : PropId) : BRes :=
  match p with
  | .presentValue => .val (.unsigned (s.schedVal o.inst))
  | .weeklySchedule => .val (.schedule (weekly (s.cfg.committed.inst .sched o.inst)))
  | .exceptionSchedule => .val (.schedule [])
  | .effectivePeriod => .val (.list (List.replicate 8 255))
  | .scheduleDefault => .val (.unsigned 0)
  | .listOfObjectPropertyReferences => .val (.objects [])
  | .statusFlags => .val (bits4 0)
  | .reliability => .val (.enumerated 0)
  | .outOfService => .val (.bool false)
  | _ => otherProp o p

def State.trend (s : State) (n : Nat) : Trend := nth s.bus.trends n

/-- R373: `SIGNAL` and `LOG_INT` of a Trend Log. -/
def State.trendSignal (s : State) (n : Nat) : Nat := s.cf .bus 0 (31 + n) 31 16
def State.trendInt (s : State) (n : Nat) : Nat := s.cf .bus 0 (31 + n) 15 0

def State.trendProp (s : State) (o : ObjId) (p : PropId) : BRes :=
  match p with
  | .signalId => .val (.unsigned (s.trendSignal o.inst))
  | .logInterval => .val (.unsigned (100 * s.trendInt o.inst))
  | .enable => .val (.bool (s.trendInt o.inst != 0))
  | .stopWhenFull => .val (.bool false)
  | .bufferSize => .val (.unsigned 1024)
  | .recordCount => .val (.unsigned (s.trend o.inst).recs.length)
  | .totalRecordCount => .val (.unsigned (s.trend o.inst).total)
  | .logBuffer => .err .readAccessDenied
  | .statusFlags => .val (bits4 0)
  | .eventState => .val (.enumerated 0)
  | _ => otherProp o p

def State.notifProp (s : State) (o : ObjId) (p : PropId) : BRes :=
  let w := s.cw .bus 0 (21 + o.inst)
  match p with
  | .priority => .val (.priorities (fld w 23 16) (fld w 15 8) (fld w 7 0))
  | .ackRequired => .val (.bitString [bit w 26, bit w 25, bit w 24])
  | .recipientList => .val (.recipients ((List.range 4).filterMap (s.recipient o.inst)))
  | .notificationClass => .val (.unsigned o.inst)
  | _ => otherProp o p

/-- R380: Update_Status of a file. -/
def State.updateStatus (s : State) (n : Nat) : Nat :=
  if n = 2 then s.bus.cfgFile else if s.imageBusy then stPending else s.mgt.upd.lastStatus

def State.fileProp (s : State) (o : ObjId) (p : PropId) : BRes :=
  match p with
  | .updateStatus => if o.inst < 3 then .val (.unsigned (s.updateStatus o.inst)) else .err .unknownProperty
  | .fileAccessMethod => .val (.enumerated 1)
  | .readOnly => .val (.bool (o.inst == 3))
  | _ => otherProp o p

/-- R379: System_Status: 0 OPERATIONAL, 3 DOWNLOAD_IN_PROGRESS, 4 NON_OPERATIONAL. -/
def State.systemStatus (s : State) : Nat := if s.imageBusy then 3 else if s.sup.mode = .hold then 4 else 0

/-- R379: the APDU sizes of a port. -/
def maxApdu (port : Nat) : Nat := if port < 2 then 480 else 1476

/-- R379: Local_Date, every field 255 while the calendar is invalid. -/
def State.localDate (s : State) : BVal :=
  if s.backup.calValid then
    let d := s.localNow.fdiv 86400
    let c := civil d
    .date c.1.toNat c.2.1 c.2.2 (weekday d + 1)
  else .date 255 255 255 255

def State.localTime (s : State) : BVal :=
  if s.backup.calValid then
    let t := (s.localNow % 86400).toNat
    .time (t / 3600) (t / 60 % 60) (t % 60) 0
  else .time 255 255 255 255

def State.devProp (s : State) (o : ObjId) (p : PropId) : BRes :=
  let port := s.bacPort
  match p with
  | .vendorName => .val (.text (asciiOf "Balloth Microsystems"))
  | .modelName => .val (.text (asciiOf "Ryuska Z3200"))
  | .vendorIdentifier => .val (.unsigned 1187)
  | .firmwareRevision => .val (.unsigned (s.mgt.mr.bankVer s.mgt.mr.active).toNat)
  | .applicationSoftwareVersion => .val (.text (decText s.cfg.version))
  | .protocolVersion => .val (.unsigned 1)
  | .protocolRevision => .val (.unsigned 22)
  | .maxApduLengthAccepted => .val (.unsigned (maxApdu port))
  | .segmentationSupported => .val (.enumerated 0)
  | .maxSegmentsAccepted => .val (.unsigned 16)
  | .apduTimeout => .val (.unsigned (s.cf .bus 0 13 31 16))
  | .numberOfApduRetries => .val (.unsigned (s.cf .bus 0 13 15 12))
  | .apduSegmentTimeout => .val (.unsigned (10 * s.cf .bus 0 13 11 0))
  | .databaseRevision => .val (.unsigned s.cfg.slotSeq.toNat)
  | .systemStatus => .val (.enumerated s.systemStatus)
  | .localDate => .val s.localDate
  | .localTime => .val s.localTime
  | .utcOffset => .val (.int (-15 * sfld (s.cw .time 0 0) 31 24))
  | .daylightSavingsStatus => .val (.bool (s.backup.calValid && s.dstAt s.stdNow))
  | .maxMaster => if port < 2 then .val (.unsigned (s.cf .bus 0 (2 + port) 15 8)) else .err .unknownProperty
  | .maxInfoFrames => if port < 2 then .val (.unsigned (s.cf .bus 0 (2 + port) 19 16)) else .err .unknownProperty
  | .objectList => .val (.objects s.objectList)
  | _ => otherProp o p

/-- R375-R380: reading one property. -/
def State.readProp (s : State) (o : ObjId) (p : PropId) : BRes :=
  if !s.objExists o then .err .unknownObject
  else
    match p with
    | .objectIdentifier => .val (.objId o)
    | .objectName => .val (.text (objName o))
    | .objectType => .val (.enumerated o.typ.num)
    | _ =>
      match o.typ with
      | .device => s.devProp o p
      | .ai => s.aiProp o p
      | .av => s.avProp o p
      | .bv => s.bvProp o p
      | .msv => s.msvProp o p
      | .schedule => s.schedProp o p
      | .trendLog => s.trendProp o p
      | .notifClass => s.notifProp o p
      | .file => s.fileProp o p
      | .other _ => .err .unknownObject

end Sys2Proof.Machine
end

