-- ==== Sys2Proof/Machine/BusReq.lean ====
section
/-! DEFINITION. The BACnet requests: reads, writes and the commits they map onto, files, communication control, reinitialization and time (R351, R377, R378, R381-R388). -/

namespace Sys2Proof.Machine

/-! ## Answers -/

/-- R22, R369, R385: the device takes BACnet requests; the application core runs, and the system PLL with it. -/
def State.busUp (s : State) : Bool := s.released && s.appUp && s.carriesBac s.bacPort && s.bus.dcc != .disabled

/-- The last answer. -/
def busReply (r : BReply) (s : State) : State := { s with bus.lastReply := some r }

/-- R388: the error that a status answers with. -/
def busErr (st : Nat) : BErr :=
  if st = stBadArg ∨ st = stBadLen then .valueOutOfRange
  else if st = stLocked ∨ st = stBusy ∨ st = stLoopClosed ∨ st = stNoResource then .deviceBusy
  else if st = stAuthFail ∨ st = stRollback then .writeAccessDenied
  else .operationalProblem

/-- What a write leads to. -/
inductive BOut where
  | ack
  | err (e : BErr)
  | wait
deriving DecidableEq, Repr, Inhabited

def outOf : Reply → BOut
  | .done st _ => if st = stOk then .ack else .err (busErr st)
  | .object _ => .ack
  | .wait => .wait

/-- R351: a bus request waits for its NV operation. -/
def busWait (j : BusJob) (s : State) : State :=
  { s with mbox.waiting := some { cmd := 0, tag := 0, boxes := none }, bus.waiting := some j }

/-! ## Reads -/

def BRes.reply : BRes → BReply
  | .val v => .value v
  | .err e => .error e

/-- R381: the answer to a ReadPropertyMultiple. -/
def readMulti (l : List (ObjId × PropId)) (s : State) : State :=
  busReply (.values (l.map (fun x => (x.1, x.2, s.readProp x.1 x.2)))) s

/-- Records i to j of a list, numbered from 1, with their numbers. -/
def numbered (i j : Int) (l : List (Word × Word)) : List (Nat × Word) :=
  (List.range l.length).filterMap (fun (k : Nat) =>
    if i ≤ ((k + 1 : Nat) : Int) ∧ ((k + 1 : Nat) : Int) ≤ j then some (k + 1, (nth l k).2) else none)

/-- R381: the records that a range names, from an item and a count whose sign is its direction. -/
def rangeFrom (item : Int) (count : Int) (l : List (Word × Word)) : List (Nat × Word) :=
  if 0 < count then numbered item (item + count - 1) l else numbered (item + count + 1) item l

/-- R381, R382: ReadRange of a trend buffer. -/
def Trend.range (t : Trend) : RangeBy → List (Nat × Word)
  | .all => numbered 1 t.recs.length t.recs
  | .position f c => rangeFrom f c t.recs
  | .sequence f c => rangeFrom ((f : Int) - (t.total - t.recs.length : Nat)) c t.recs
  | .time w c =>
    let older := t.recs.countP (fun r => decide (r.1.toNat < w.toNat))
    let upTo := t.recs.countP (fun r => decide (r.1.toNat ≤ w.toNat))
    if 0 < c then rangeFrom ((upTo : Int) + 1) c t.recs else rangeFrom older c t.recs

def readRange (o : ObjId) (by_ : RangeBy) (s : State) : State :=
  if !s.objExists o then busReply (.error .unknownObject) s
  else if o.typ ≠ .trendLog then busReply (.error .unknownProperty) s
  else busReply (.records ((s.trend o.inst).range by_)) s

/-! ## Writes (R377, R378) -/

/-- R348, R351: a commit of configuration words on behalf of the bus. -/
def busCommit (sec : Sec) (i w : Nat) (ws : List Word) (s : State) : State × BOut :=
  if s.mgt.otp.signedCfg then (s, .err (busErr stAuthFail))
  else
    let r := setWords sec i w ws s
    (r.1, outOf r.2)

/-- A word of the BUS section with one field replaced. -/
def State.busField (s : State) (w hi lo v : Nat) : Word :=
  merge (w32 (bmask hi lo)) (s.cfg.committed.word .bus 0 w) (w32 (at' v lo))

/-- R377: commit one field of the BUS section; a value its bits cannot hold is out of range. -/
def busSet (w hi lo v : Nat) (s : State) : State × BOut :=
  if 2 ^ (hi + 1 - lo) ≤ v then (s, .err .valueOutOfRange) else busCommit .bus 0 w [s.busField w hi lo v] s

/-- R377: write one half of `SP_OCC`, rounded to 0.01 °C. -/
def writeSp (z : Nat) (cool : Bool) (v : BVal) (s : State) : State × BOut :=
  match v with
  | .real b =>
    (match b32Val b with
     | none => (s, .err .valueOutOfRange)
     | some q =>
       let x := rneQ (q * 100)
       if x < -32768 ∨ 32767 < x then (s, .err .valueOutOfRange)
       else
         let half := wrap 16 x
         let old := s.cfg.committed.word .zone z 2
         busCommit .zone z 2 [if cool then merge 0xFFFF0000 old (w32 (at' half 16)) else merge 0xFFFF old (w32 half)] s)
  | _ => (s, .err .invalidDataType)

/-- R377: the zone command. -/
def writeZoneCmd (z : Nat) (v : BVal) (s : State) : State × BOut :=
  match v with
  | .unsigned 1 => (updZone z (fun x => { x with hostOff := false, manual := none }) s, .ack)
  | .unsigned 2 => (updZone z (fun x => { x with hostOff := true }) s, .ack)
  | .unsigned _ => (s, .err .valueOutOfRange)
  | _ => (s, .err .invalidDataType)

/-- R378: insert an entry of a day in time order. -/
def insertTv (t : TimeValue) : List TimeValue → List TimeValue
  | [] => [t]
  | x :: xs => if 60 * t.hour + t.minute ≤ 60 * x.hour + x.minute then t :: x :: xs else x :: insertTv t xs

/-- R378: two equal times in a sorted day. -/
def twice : List TimeValue → Bool
  | a :: b :: t => (a.hour == b.hour && a.minute == b.minute) || twice (b :: t)
  | _ => false

/-- R378: a day, sorted, may be stored. -/
def dayOk (d : List TimeValue) : Bool :=
  decide (d.length ≤ 8) && !twice d &&
  d.all (fun t => t.second == 0 && t.hundredth == 0 && decide (1 ≤ t.value) && decide (t.value ≤ 4) &&
    decide (t.hour < 24) && decide (t.minute < 60))

/-- R191, R378: the four words of a day. -/
def dayWords (d : List TimeValue) : List Word :=
  let ev (e : Nat) : Nat := match d[e]? with
    | some t => at' t.value 13 + 60 * t.hour + t.minute
    | none => 0
  (List.range 4).map (fun k => w32 (at' (ev (2 * k + 1)) 16 + ev (2 * k)))

def writeWeekly (i : Nat) (v : BVal) (s : State) : State × BOut :=
  match v with
  | .schedule days =>
    let ds := days.map (fun d => d.foldr insertTv [])
    if ds.length ≠ 7 ∨ !ds.all dayOk then (s, .err .valueOutOfRange)
    else busCommit .sched i 0 (ds.flatMap dayWords) s
  | _ => (s, .err .invalidDataType)

/-- R373: COV_Increment. -/
def writeCovInc (o : ObjId) (v : BVal) (s : State) : State × BOut :=
  match v with
  | .real b =>
    (match b32Val b with
     | none => (s, .err .valueOutOfRange)
     | some q =>
       let x := rneQ (q * 65536)
       if x < 0 ∨ 0x7FFFFFFF < x then (s, .err .valueOutOfRange)
       else busCommit .bus 0 (s.covWord o) [wInt x] s)
  | _ => (s, .err .invalidDataType)

/-- R377: write an unsigned field; `unit` is what one of its steps stands for. -/
def writeUnsigned (w hi lo unit : Nat) (v : BVal) (s : State) : State × BOut :=
  match v with
  | .unsigned n => if n % unit ≠ 0 then (s, .err .valueOutOfRange) else busSet w hi lo (n / unit) s
  | _ => (s, .err .invalidDataType)

/-- R373: the word of a recipient. -/
def Recipient.word (r : Recipient) : Option Word :=
  match r.device with
  | none => none
  | some d =>
    if 8 ≤ r.trans ∨ 32 ≤ r.procId ∨ 2 ^ 22 ≤ d then none
    else some (w32 (at' 1 31 + at' (b2n r.confirmed) 30 + at' r.trans 27 + at' r.procId 22 + d))

/-- R377, R382: Notification Class properties. -/
def writeNotif (c : Nat) (p : PropId) (v : BVal) (s : State) : State × BOut :=
  match p, v with
  | .priority, .priorities a b n =>
    if 256 ≤ a ∨ 256 ≤ b ∨ 256 ≤ n then (s, .err .valueOutOfRange)
    else busSet (21 + c) 23 0 (at' a 16 + at' b 8 + n) s
  | .ackRequired, .bitString [a, b, n] => busSet (21 + c) 26 24 (at' (b2n a) 2 + at' (b2n b) 1 + b2n n) s
  | .recipientList, .recipients l =>
    if 4 < l.length ∨ l.any (fun r => r.word.isNone) then (s, .err .valueOutOfRange)
    else busCommit .bus 0 (23 + 4 * c) ((List.range 4).map (fun k => ((l[k]?).bind Recipient.word).getD 0)) s
  | _, _ => (s, .err .invalidDataType)

/-- R377: Device properties that are fields of the BUS section. -/
def writeDevice (o : ObjId) (p : PropId) (v : BVal) (s : State) : State × BOut :=
  let port := s.bacPort
  match p with
  | .apduTimeout => writeUnsigned 13 31 16 1 v s
  | .numberOfApduRetries => writeUnsigned 13 15 12 1 v s
  | .apduSegmentTimeout => writeUnsigned 13 11 0 10 v s
  | .maxMaster => if port < 2 then writeUnsigned (2 + port) 15 8 1 v s else (s, .err .unknownProperty)
  | .maxInfoFrames => if port < 2 then writeUnsigned (2 + port) 19 16 1 v s else (s, .err .unknownProperty)
  | .objectIdentifier =>
    (match v with
     | .objId { typ := .device, inst := n } => busSet 1 21 0 n s
     | .objId _ => (s, .err .valueOutOfRange)
     | _ => (s, .err .invalidDataType))
  | _ => (s, .err (if s.readProp o p = .err .unknownProperty then .unknownProperty else .writeAccessDenied))

/-- R377: one property write. What no rule makes writable is read-only. -/
def writeProp (o : ObjId) (p : PropId) (v : BVal) (s : State) : State × BOut :=
  let denied : State × BOut :=
    (s, .err (if s.readProp o p = .err .unknownProperty then .unknownProperty else .writeAccessDenied))
  if !s.objExists o then (s, .err .unknownObject)
  else
    match o.typ, p with
    | .av, .presentValue =>
      if 32 ≤ o.inst ∧ o.inst < 64 then writeSp (o.inst - 32) false v s
      else if 64 ≤ o.inst ∧ o.inst < 96 then writeSp (o.inst - 64) true v s
      else denied
    | .msv, .presentValue => if 32 ≤ o.inst then writeZoneCmd (o.inst - 32) v s else denied
    | .schedule, .weeklySchedule => writeWeekly o.inst v s
    | .ai, .covIncrement => writeCovInc o v s
    | .av, .covIncrement => writeCovInc o v s
    | .trendLog, .signalId => writeUnsigned (31 + o.inst) 31 16 1 v s
    | .trendLog, .logInterval => writeUnsigned (31 + o.inst) 15 0 100 v s
    | .notifClass, .priority => writeNotif o.inst p v s
    | .notifClass, .ackRequired => writeNotif o.inst p v s
    | .notifClass, .recipientList => writeNotif o.inst p v s
    | .device, _ => writeDevice o p v s
    | _, _ => denied

/-- R377: writes in order; the first that fails ends them. -/
def busWrites (multi : Bool) : List PropWrite → State → State
  | [], s => busReply .simpleAck s
  | w :: t, s =>
    match writeProp w.obj w.prop w.val s with
    | (s1, .ack) => busWrites multi t s1
    | (s1, .err e) => busReply (if multi then .writeError w.obj w.prop e else .error e) s1
    | (s1, .wait) => busWait (.writes w t multi) s1

/-! ## Subscriptions and alarms (R382, R384) -/

def ObjType.covType (t : ObjType) : Bool := t == .ai || t == .av || t == .bv || t == .msv

def CovSub.same (client procId : Nat) (o : ObjId) (c : CovSub) : Bool :=
  c.client == client && c.procId == procId && c.obj == o

/-- R382: subscribe, renew, or cancel where `confirmed` is not given. -/
def subscribe (client procId : Nat) (o : ObjId) (confirmed : Option Bool) (lifetime : Nat) (s : State) : State :=
  let rest := s.bus.subs.filter (fun c => !c.same client procId o)
  match confirmed with
  | none => busReply .simpleAck { s with bus.subs := rest }
  | some cf =>
    if !s.objExists o then busReply (.error .unknownObject) s
    else if !o.typ.covType then busReply (.error .notCovProperty) s
    else if 28800 < lifetime ∨ (lifetime = 0 ∧ cf) then busReply (.error .valueOutOfRange) s
    else if 256 ≤ rest.length then busReply (.error .noSpaceToAddListElement) s
    else
      busReply .simpleAck
        { s with bus.subs := rest ++ [{ obj := o, client := client, procId := procId, confirmed := cf, lifetime := lifetime }] }

/-- R382 COV_LIFETIME_EXPIRY of subscription k; an indefinite one has none. -/
def execCovLifetimeExpiry (k : Nat) (s : State) : Host.Outcome State Fault Refusal :=
  .next (onPll s <| match s.bus.subs[k]? with
    | some c => if c.lifetime = 0 then s else { s with bus.subs := s.bus.subs.eraseIdx k }
    | none => s)

/-- R384: acknowledge a transition: 0 to-offnormal, 1 to-fault, 2 to-normal. -/
def ackAlarm (o : ObjId) (tr : Nat) (s : State) : State :=
  if !s.objExists o then busReply (.error .unknownObject) s
  else if !o.alarmed then busReply (.error .noAlarmConfigured) s
  else if 2 < tr then busReply (.error .valueOutOfRange) s
  else
    busReply .simpleAck
      { s with bus.alarms := upd s.bus.alarms (o.inst - 32) (fun a => { a with acked := a.acked.set tr true }) }

/-- R381: the objects that are not normal or have unacknowledged transitions: event state and Acked_Transitions. -/
def State.eventInfo (s : State) : List (ObjId × Nat × Nat) :=
  (List.range 36).filterMap (fun k =>
    let a := nth s.bus.alarms k
    if a.active || a.acked.any (fun b => !b) then
      some ({ typ := .bv, inst := 32 + k }, at' (b2n a.active) 1, maskOf 3 (fun i => a.acked.getD i true))
    else none)

/-! ## Files (R387) -/

/-- R387: a whole configuration container through File 2 is loaded and committed. -/
def fileConfig (c : List Byte) (s : State) : State :=
  match cfgLoad c s with
  | (s1, .done st _) =>
    if st ≠ stOk then { s1 with bus.cfgFile := st }
    else
      (match cfgCommit s1 with
       | (s2, .done st2 _) => { s2 with bus.cfgFile := st2 }
       | (s2, _) => busWait .cfgFile { s2 with bus.cfgFile := stPending })
  | (s1, _) => s1

/-- R330, R387: pass one chunk of a file on; the status it is answered with. -/
def fileChunk (file : Nat) (m : Msg) (s : State) : State × Nat :=
  if file = 2 then
    (match takeChunk 0x0206 true m s with
     | (s1, .err st) => (s1, st)
     | (s1, .more) => (s1, stOk)
     | (s1, .whole d) => (fileConfig d s1, stOk))
  else if getH m.payload 0 = 0 ∧ getB m.payload (8 + 6) ≠ file + 1 then (s, stBadArg)
  else
    (match imageChunk true m s with
     | (s1, .done st _) => (s1, if st = stPending then stOk else st)
     | (s1, _) => (s1, stOk))

/-- R387: the object of the bus is the one in progress. -/
def State.fileGoing (s : State) (chunk : Nat) : Bool :=
  chunk == 0 || (match s.mbox.chunkIn with | some c => c.bus && c.next == chunk | none => false)

/-- R330, R387: the next chunk of a file, and whether it is the last; none while too little has arrived. -/
def FileObj.nextChunk (f : FileObj) : Option (Msg × Bool) :=
  match f.total with
  | none => none
  | some total =>
    let left := total - 4072 * f.chunk
    let last := decide (left ≤ 4072)
    let n := if last then left else 4072
    if f.held.length < n then none
    else some ({ chunk := true, last := last, payload := le16 f.chunk ++ zeros 2 ++ le32 total ++ f.held.take n }, last)

/-- R387: pass on what has arrived, in chunks of 4,072 bytes. -/
def filePass : Nat → State → State × Nat
  | 0, s => (s, stOk)
  | k + 1, s =>
    match s.bus.file with
    | none => (s, stOk)
    | some f =>
      match f.nextChunk with
      | none => (s, stOk)
      | some (m, last) =>
        if !s.fileGoing f.chunk then ({ s with bus.file := none }, stBusy)
        else
          let r := fileChunk f.file m s
          if r.2 ≠ stOk then ({ r.1 with bus.file := none }, r.2)
          else if last then ({ r.1 with bus.file := none }, stOk)
          else filePass k { r.1 with bus.file := some { f with held := f.held.drop 4072, chunk := f.chunk + 1 } }

/-- R387: bytes of a file arrive where its object has come to. -/
def fileData (f : FileObj) (start : Nat) (data : List Byte) (s : State) : State :=
  let g := { f with held := f.held ++ data, next := f.next + data.length, mc := s.chain.mc }
  let total := match f.total with
    | some t => some t
    | none => if 12 ≤ g.next then some (getW g.held 8) else none
  match total with
  | some t =>
    if t < g.next then busReply (.error .invalidFileStartPosition) s
    else
      let r := filePass (g.held.length / 4072 + 2) { s with bus.file := some { g with total := some t } }
      busReply (if r.2 = stOk then .fileAck start else .error (busErr r.2)) r.1
  | none => busReply (.fileAck start) { s with bus.file := some g }

/-- R387: the host has an image or a chunked object of the same command in progress. -/
def State.hostFile (s : State) (file : Nat) : Bool :=
  let cmd := if file = 2 then 0x0206 else 0x7101
  (match s.mbox.chunkIn with | some c => !c.bus && c.cmd == cmd | none => false) ||
  (decide (file < 2) && !s.mgt.upd.bus && s.imageBusy)

/-- R387: abandon the object of the bus. -/
def fileDrop (s : State) : State :=
  let gone := match s.mbox.chunkIn with | some c => c.bus | none => false
  { (if gone then dropChunkIn s else s) with bus.file := none }

def writeFile (file start : Nat) (stream : Bool) (data : List Byte) (s : State) : State :=
  if 4 ≤ file then busReply (.error .unknownObject) s
  else if !stream then busReply (.error .invalidFileAccessMethod) s
  else if file = 3 then busReply (.error .fileAccessDenied) s
  else if start = 0 then
    (if s.hostFile file then busReply (.error .fileAccessDenied) s
     else fileData { file := file } 0 data (fileDrop s))
  else
    match s.bus.file with
    | some f =>
      if f.file = file ∧ f.next = start then fileData f start data s
      else busReply (.error .invalidFileStartPosition) s
    | none => busReply (.error .invalidFileStartPosition) s

def readFile (file start : Nat) (stream : Bool) (count : Nat) (s : State) : State :=
  if 4 ≤ file then busReply (.error .unknownObject) s
  else if !stream then busReply (.error .invalidFileAccessMethod) s
  else if file ≠ 3 then busReply (.error .fileAccessDenied) s
  else
    match cfgExport s with
    | (s1, .object b) =>
      if b.length < start then busReply (.error .invalidFileStartPosition) s1
      else busReply (.fileData start (decide (b.length ≤ start + count)) ((b.drop start).take count)) s1
    | (s1, .done st _) => busReply (.error (busErr st)) s1
    | (s1, .wait) => s1

/-! ## Control, reinitialization and time (R385, R386) -/

/-- R385: the password matches `RD_PASS`, or none is set. -/
def State.passOk (s : State) (pass : List Byte) : Bool :=
  let set := (List.range 4).flatMap (fun k => leW (s.cw .bus 0 (17 + k)))
  allZero set || (decide (pass.length ≤ 16) && pass ++ zeros (16 - pass.length) == set)

/-- R385, R391: 0 ENABLE, 1 DISABLE, 2 DISABLE_INITIATION. -/
def dccOf (n : Nat) : Option Dcc :=
  match n with | 0 => some .enabled | 1 => some .disabled | 2 => some .disableInitiation | _ => none

def commControl (n : Nat) (pass : List Byte) (s : State) : State :=
  match dccOf n with
  | none => busReply (.error .valueOutOfRange) s
  | some d =>
    if !s.passOk pass then busReply (.error .passwordFailure) s
    else
      busReply .simpleAck
        (if s.bus.dcc = d then s else portReport s.bacPort { s with bus.dcc := d })

/-- R385: 0 COLDSTART, 1 WARMSTART, 7 ACTIVATE_CHANGES. -/
def reinitialize (n : Nat) (pass : List Byte) (s : State) : State :=
  if !s.passOk pass then busReply (.error .passwordFailure) s
  else if n ≤ 1 then busReply .simpleAck { s with sup.softPend := true }
  else if n = 7 then
    (match s.mgt.upd.bankByFile with
     | none => busReply (.error .writeAccessDenied) s
     | some b =>
       match activate b s with
       | (s1, .done st _) => busReply (if st = stOk then .simpleAck else .error (busErr st)) s1
       | (s1, _) => busWait .reinit s1)
  else busReply (.error .optionalFunctionalityNotSupported) s

/-! ## Confirmed requests in their order (R351, R372, R496, R497) -/

/-- What a confirmed request does. -/
def busDo (r : BusRequest) (s : State) : State :=
  match r with
  | .readProp o p => busReply (s.readProp o p).reply s
  | .readMulti l => readMulti l s
  | .readRange o by_ => readRange o by_ s
  | .writes multi l => busWrites multi l s
  | .subscribe client procId o confirmed lifetime => subscribe client procId o confirmed lifetime s
  | .ackAlarm o tr => ackAlarm o tr s
  | .eventInfo => busReply (.events s.eventInfo) s
  | .writeFile file start stream data => writeFile file start stream data s
  | .readFile file start stream count => readFile file start stream count s
  | .commControl n pass => commControl n pass s
  | .reinitialize n pass => reinitialize n pass s
  | .unrecognized => busReply .rejectUnrecognized s

/-- R385: the two services that act while communication is disabled too. -/
def BusRequest.control : BusRequest → Bool
  | .commControl _ _ | .reinitialize _ _ => true
  | _ => false

/-- R493, R496: the entry of the NV write queue that a request waits for. -/
def BusRequest.entry : BusRequest → Option Nat
  | .writes _ _ => some 2
  | .writeFile file _ _ _ => if file = 2 then some 2 else none
  | .reinitialize _ _ => some 5
  | _ => none

/-- R369, R385: the BACnet port hears a request. -/
def State.busHears (s : State) (r : BusRequest) : Bool :=
  s.released && s.clk.pllLocked && s.carriesBac s.bacPort && (s.bus.dcc != .disabled || r.control)

/-- R351, R372, R495, R496: a request is taken once a transmit buffer is reserved for its answer, no command or request waits for NVM, and nothing that a restart has left behind holds its entry. -/
def State.busReady (s : State) (r : BusRequest) : Bool :=
  let p := s.port s.bacPort
  s.appUp && decide (0 < p.taken) && s.mbox.waiting.isNone &&
  (match r.entry with | some e => nth s.nvm.orphans e == 0 | none => true)

/-- R372: a request uses the transmit buffer that was reserved for it. -/
def busTake (s : State) : State := updPort s.bacPort (fun x => { x with taken := x.taken - 1 }) s

/-- R372, R497: the requests that may be executed now, oldest first; one that communication control shuts out is dropped, and its transmit buffer is free again. -/
def busServe : Nat → State → State
  | 0, s => s
  | n + 1, s =>
    match s.bus.held with
    | [] => s
    | r :: rest =>
      if !s.busReady r then s
      else
        let s1 := busTake { s with bus.held := rest }
        busServe n (if s.busHears r then busDo r s1 else updPort s.bacPort Port.txFree s1)

def busTurn (s : State) : State := busServe s.bus.held.length s

/-- R372: the frame of a confirmed request is in the port's buffers: it came as BUS_FRAME_RECEIVE, or it comes with the request (notes/assumptions/100.md); none when the receive buffer is full. -/
def busArrived (s : State) : Option State :=
  let p := s.port s.bacPort
  if s.bus.held.length < p.rx + p.taken then some s
  else if rxLimit s.bacPort ≤ p.rx then none
  else some (takeFrame s.bacPort .confirmed s)

/-- R372, R497: a confirmed request arrives: it waits behind those that wait, and what finds the receive buffer full is dropped. -/
def busAsk (r : BusRequest) (s : State) : State :=
  if !(s.released && s.clk.pllLocked && s.carriesBac s.bacPort) then s
  else
    match busArrived s with
    | none => dropFrame s.bacPort s
    | some t => busTurn { t with bus.held := t.bus.held ++ [r] }

def execReadProperty (o : ObjId) (p : PropId) (s : State) : Host.Outcome State Fault Refusal := .next (busAsk (.readProp o p) s)

def execReadPropertyMultiple (l : List (ObjId × PropId)) (s : State) : Host.Outcome State Fault Refusal :=
  .next (busAsk (.readMulti l) s)

def execReadRange (o : ObjId) (by_ : RangeBy) (s : State) : Host.Outcome State Fault Refusal := .next (busAsk (.readRange o by_) s)

def execWriteProperty (o : ObjId) (p : PropId) (v : BVal) (s : State) : Host.Outcome State Fault Refusal :=
  .next (busAsk (.writes false [{ obj := o, prop := p, val := v }]) s)

def execWritePropertyMultiple (l : List PropWrite) (s : State) : Host.Outcome State Fault Refusal := .next (busAsk (.writes true l) s)

def execSubscribeCov (client procId : Nat) (o : ObjId) (confirmed : Option Bool) (lifetime : Nat) (s : State) :
    Host.Outcome State Fault Refusal :=
  .next (busAsk (.subscribe client procId o confirmed lifetime) s)

def execAcknowledgeAlarm (o : ObjId) (tr : Nat) (s : State) : Host.Outcome State Fault Refusal := .next (busAsk (.ackAlarm o tr) s)

def execGetEventInformation (s : State) : Host.Outcome State Fault Refusal := .next (busAsk .eventInfo s)

def execAtomicWriteFile (file start : Nat) (stream : Bool) (data : List Byte) (s : State) : Host.Outcome State Fault Refusal :=
  .next (busAsk (.writeFile file start stream data) s)

def execAtomicReadFile (file start : Nat) (stream : Bool) (count : Nat) (s : State) : Host.Outcome State Fault Refusal :=
  .next (busAsk (.readFile file start stream count) s)

def execDeviceCommunicationControl (n : Nat) (pass : List Byte) (s : State) : Host.Outcome State Fault Refusal :=
  .next (busAsk (.commControl n pass) s)

def execReinitializeDevice (n : Nat) (pass : List Byte) (s : State) : Host.Outcome State Fault Refusal :=
  .next (busAsk (.reinitialize n pass) s)

def execUnrecognizedService (s : State) : Host.Outcome State Fault Refusal := .next (busAsk .unrecognized s)

/-- R372 BUS_FRAME_TRANSMIT_DONE: with a transmit buffer free, what waits for one goes on. -/
def execBusFrameTransmitDone (p : Nat) (s : State) : Host.Outcome State Fault Refusal :=
  .next (if p < 4 ∧ s.portRuns p then busTurn (frameBoundary p (frameSent p s)) else s)

/-- Seconds from 2000-01-01 of a date and a time. -/
def secondsOf (y mo d h mi sec : Nat) : Int := dayOf y mo d * 86400 + (h * 3600 + mi * 60 + sec : Nat)

/-- A date and a time that exist. -/
def stampOk (y mo d h mi sec : Nat) : Bool :=
  decide (2000 ≤ y) && decide (1 ≤ mo) && decide (mo ≤ 12) && decide (1 ≤ d) &&
  decide ((d : Int) ≤ dayOf (if mo = 12 then y + 1 else y) (if mo = 12 then 1 else mo + 1) 1 - dayOf y mo 1) &&
  decide (h < 24) && decide (mi < 60) && decide (sec < 60)

/-- R386: the calendar of a local time; a time that occurs twice is taken as its first occurrence. -/
def State.calOfLocal (s : State) (t : Int) : Int :=
  let summer := t - s.dstShift
  (if s.dstAt summer then summer else t) - sfld (s.cw .time 0 0) 31 24 * 900

/-- R386: no rule makes a TimeSynchronization wait for a command that waits for NVM: R351 and R496 order what commits. -/
def execTimeSynchronization (y mo d h mi sec : Nat) (s : State) : Host.Outcome State Fault Refusal :=
  .next (if s.busUp && stampOk y mo d h mi sec then setCalendar (wInt (s.calOfLocal (secondsOf y mo d h mi sec))) s else s)

def execUtcTimeSynchronization (y mo d h mi sec : Nat) (s : State) : Host.Outcome State Fault Refusal :=
  .next (if s.busUp && stampOk y mo d h mi sec then setCalendar (wInt (secondsOf y mo d h mi sec)) s else s)

/-! ## Discovery and the data link (R370, R371, R379, R381) -/

/-- R371: where the device's broadcasts go. -/
def State.bcast (s : State) : Bcast :=
  if decide (2 ≤ s.bacPort) && s.cb .bus 0 0 7 then .distribute (s.cw .bus 0 11).toNat (s.cf .bus 0 12 15 0) else .localNet

/-- R381: Who-Is of all devices or of a range of instances. Without a free transmit buffer the I-Am is not sent (notes/assumptions/54.md). -/
def execWhoIs (range : Option (Nat × Nat)) (s : State) : Host.Outcome State Fault Refusal :=
  .next (
    let asked := match range with | none => true | some (a, b) => decide (a ≤ s.devInst) && decide (s.devInst ≤ b)
    if s.busUp && asked && s.txRoom then busReply (.iAm s.devInst (maxApdu s.bacPort) 1187 s.bcast) (busQueue s) else s)

/-- R381: Who-Has of an object, by identifier or by name. -/
def execWhoHas (range : Option (Nat × Nat)) (o : Option ObjId) (name : List Byte) (s : State) :
    Host.Outcome State Fault Refusal :=
  .next (
    let asked := match range with | none => true | some (a, b) => decide (a ≤ s.devInst) && decide (s.devInst ≤ b)
    let hit := match o with
      | some o => if s.objExists o then some o else none
      | none => s.objectList.find? (fun x => objName x == name)
    match hit with
    | some x => if s.busUp && asked && s.txRoom then busReply (.iHave x s.bcast) (busQueue s) else s
    | none => s)

/-- R371: every BDT and FDT function is answered, whatever DeviceCommunicationControl says of BACnet's services and whatever a command waits for: the NAK is the data link's. -/
def execBdtFdtFunction (s : State) : Host.Outcome State Fault Refusal :=
  .next (if s.released && s.clk.pllLocked && s.carriesBac s.bacPort && decide (2 ≤ s.bacPort) then busReply .bvlcNak s else s)

/-- R370. -/
def execMstpReplyPostponed (s : State) : Host.Outcome State Fault Refusal :=
  .next (if s.released && s.clk.pllLocked && s.carriesBac s.bacPort && decide (s.bacPort < 2) then busReply .replyPostponed s else s)

/-- R371: the device is to be registered with its BBMD. -/
def State.fdWanted (s : State) : Bool :=
  s.released && s.appUp && s.carriesBac s.bacPort && decide (2 ≤ s.bacPort) && s.cb .bus 0 0 7

/-- R371: a registration is due: the first, or half of `FD_TTL` after the last request. -/
def State.fdDue (s : State) : Bool :=
  s.fdWanted && (match s.bus.fdSent with
    | none => true
    | some r => decide (s.secMc (s.cf .bus 0 12 31 16) ≤ 2 * s.mcSince r.mc))

/-- R371 FD_REREGISTER: a registration request to the BBMD at `FD_ADDR`:`FD_PORT`. -/
def fdReregister (s : State) : State :=
  let r : FdRequest := { addr := (s.cw .bus 0 11).toNat, port := s.cf .bus 0 12 15 0, ttl := s.cf .bus 0 12 31 16,
                         mc := s.chain.mc }
  { busQueue s with bus.fdPending := true, bus.fdSent := some r }

def execFdReregister (s : State) : Host.Outcome State Fault Refusal :=
  .next (if s.fdDue && s.txRoom then fdReregister s else s)

/-- R371, R391: the BBMD's answer. A NAK leaves a registration still in force until its time has run out. -/
def fdResult (ok : Bool) (s : State) : State :=
  let s1 := { s with bus.fdPending := false }
  if ok then setFdReg true { s1 with bus.fdRemain := s.cf .bus 0 12 31 16 } else portReport s.bacPort s1

def execFdRegistrationResult (ok : Bool) (s : State) : Host.Outcome State Fault Refusal :=
  .next (if s.fdWanted && s.bus.fdPending then fdResult ok s else s)

/-- R389: one second of a registration's remaining time. -/
def fdSecond (s : State) : State :=
  if s.bus.fdRemain = 0 then s
  else if s.bus.fdRemain = 1 then setFdReg false { s with bus.fdRemain := 0 }
  else { s with bus.fdRemain := s.bus.fdRemain - 1 }

/-! ## After an NV operation (R351) -/

/-- R351: the NV operation of a bus request has ended. -/
def busResume (s : State) : State :=
  match s.bus.result, s.bus.waiting with
  | some st, some j =>
    let s1 := { s with bus.waiting := none, bus.result := none }
    (match j with
     | .writes w rest multi =>
       if st = stOk then busWrites multi rest s1
       else busReply (if multi then .writeError w.obj w.prop (busErr st) else .error (busErr st)) s1
     | .reinit => busReply (if st = stOk then .simpleAck else .error (busErr st)) s1
     | .cfgFile => { s1 with bus.cfgFile := st })
  | _, _ => s

end Sys2Proof.Machine
end

