-- ==== Sys2Proof/Machine/BusRel.lean ====
section
/-! DEFINITION. The bus release: events, COV notifications, and the trend logs (R373, R380, R382-R384). -/

namespace Sys2Proof.Machine

/-! ## Notifications (R372, R382, R383) -/

/-- R382, R383: a notification leaves when a transmit buffer, and for a confirmed one a credit, is free. -/
def sendNotif (n : Notif) (s : State) : State × Bool :=
  let p := s.bacPort
  if (s.port p).tx < txLimit p ∧ (!n.confirmed ∨ s.bus.outstanding.length < 8) then
    let s1 := updPort p (fun x =>
      { x with tx := x.tx + 1, covSent := if n.event.isNone then incSat 32 x.covSent else x.covSent }) s
    ({ s1 with bus.outstanding := if n.confirmed then s.bus.outstanding ++ [n] else s.bus.outstanding,
               bus.sent := s.bus.sent ++ [n] }, true)
  else (s, false)

/-- R383, R384: the event notifications of one object; what finds no buffer waits for the next release. -/
def sendEvents (s : State) (n : Nat) : State :=
  let o : ObjId := { typ := .bv, inst := n }
  let r := (s.alarm n).due.foldl (fun (acc : State × List (Nat × Nat)) d =>
    match acc.1.recipient (notifClassOf n) d.2 with
    | none => acc
    | some x =>
      let sent := sendNotif { client := x.device.getD 0, obj := o, confirmed := x.confirmed, value := acc.1.presentWord o,
                              flags := acc.1.statusFlags o, event := some d.1 } acc.1
      if sent.2 then (sent.1, acc.2) else (sent.1, acc.2 ++ [d])) (s, [])
  { r.1 with bus.alarms := upd r.1.bus.alarms (n - 32) (fun a => { a with due := r.2 }) }

/-- R382, R383: the object has changed by its COV_Increment, or in Status_Flags, since its last notification. -/
def State.covChanged (s : State) (c : CovSub) : Bool :=
  let w := s.presentWord c.obj
  let moved := match c.obj.typ with
    | .ai | .av => decide (s.covInc c.obj ≤ absQ ((b32Val w).getD 0 - (b32Val c.lastVal).getD 0)) && w != c.lastVal
    | _ => w != c.lastVal
  c.due || moved || s.statusFlags c.obj != c.lastFlags

/-- R383: one notification for subscription k, if it is due. -/
def sendCov (s : State) (k : Nat) : State :=
  match s.bus.subs[k]? with
  | none => s
  | some c =>
    if !s.covChanged c then s
    else
      let w := s.presentWord c.obj
      let fl := s.statusFlags c.obj
      let r := sendNotif { client := c.client, obj := c.obj, confirmed := c.confirmed, value := w, flags := fl } s
      let put (x : CovSub) : State := { r.1 with bus.subs := r.1.bus.subs.set k x }
      if r.2 then put { c with lastVal := w, lastFlags := fl, due := false } else put { c with due := true }

/-- R383: the device's bus release: PT 0 of an MC with AMC mod 64 equal to its stagger slot. -/
def State.atRelease (s : State) : Bool := s.chain.pt == 0 && s.amc.toNat % 64 == s.acre.slot

/-- R54, R383 BUS_RELEASE: last in the order of its PT. -/
def busRelease (s0 : State) : State :=
  if !s0.released || !s0.appUp || !s0.atRelease then s0
  else
    let s := atStage 8 s0
    let ns := (List.range 36).map (· + 32)
    let s1 := alarmsEval { s with bus.sent := [] }
    if !s.carriesBac s.bacPort || s.bus.dcc != .enabled then s1
    else (List.range s.bus.subs.length).foldl sendCov (ns.foldl sendEvents s1)

def execBusRelease (s : State) : Host.Outcome State Fault Refusal := .next (busRelease s)

/-- R383, R390 APDU_TIMEOUT: confirmed notification i is given up after its retries. -/
def apduTimeout (i : Nat) (s : State) : State :=
  if s.bus.outstanding.length ≤ i then s
  else
    updPort s.bacPort (fun x => { x with notifFail := incSat 32 x.notifFail })
      { s with bus.outstanding := s.bus.outstanding.eraseIdx i }

def execApduTimeout (i : Nat) (s : State) : Host.Outcome State Fault Refusal := .next (onPll s (apduTimeout i s))

/-! ## Trend logs (R373, R380, R382) -/

/-- R373, R382: the interval of Trend Log n has elapsed. -/
def trendSample (n : Nat) (s : State) : State :=
  if 16 ≤ n ∨ !s.released ∨ !s.appUp ∨ s.trendInt n = 0 then s
  else
    let t := s.trend n
    let rs := t.recs ++ [(s.calWord, s.signal (s.trendSignal n))]
    { s with bus.trends := s.bus.trends.set n { recs := rs.drop (rs.length - 1024), total := t.total + 1 } }

def execTrendLogSample (n : Nat) (s : State) : Host.Outcome State Fault Refusal := .next (trendSample n s)

end Sys2Proof.Machine
end

