-- ==== Sys2Proof/Machine/Nv.lean ====
section
/-! DEFINITION. The NV write queue at work: one codeword at a time, and what the end of an operation completes (R491-R495, R20, R428). -/

namespace Sys2Proof.Machine

/-- R459-R476: a write of the management state has ended; the EMPTY of an erased bank is written again until it stands (notes/assumptions/90.md). -/
def mgtDone (why : MgtWhy) (ok : Bool) (s : State) : State :=
  let s1 := mgtStored ok s
  match why with
  | .plain => s1
  | .erase => if ok then s1 else mgtStore .erase s1
  | .activate => activateStored ok s1
  | .image => imageStored ok s1
  | .attest => attestStored ok s1

/-- R493: what the verification of an operation completes. -/
def nvDone (job : NvJob) (ok : Bool) (s : State) : State :=
  match job with
  | .record serial slot => recordDone serial slot ok s
  | .rewrite _ => rewriteDone ok s
  | .clear slot => clearDone slot ok s
  | .summary copy => summaryDone copy ok s
  | .summaryFail => s
  | .commit => commitDone ok s
  | .stone => stoneDone ok s
  | .solSlot k => solSlotDone k ok s
  | .solZone _ => s
  | .mgtState why => mgtDone why ok s
  | .waveform slot => waveformDone slot ok s
  | .otp => otpDone ok s
  | .otpConfirm thermo revoke => confirmDone thermo revoke ok s
  | .host => finish (if ok then stOk else stNvFail) [] s
  | .flash => s
  | .flashErase b => flashErase b s
  | .pfRecord serial slot => pfRecordDone serial slot ok s

/-- R495: an operation whose command an application-core restart has taken away completes without answering anyone. R460: the next write of the management state then has its turn; R351: and so have the bus requests that wait. -/
def nvComplete (entry : Nat) (job : NvJob) (ok : Bool) (s : State) : State :=
  if nth s.nvm.orphans entry = 0 then busTurn (busResume (mgtTurn (nvDone job ok s)))
  else
    let s1 := mgtTurn (nvDone job ok { s with mbox.waiting := none, nvm.orphans := upd s.nvm.orphans entry (· - 1) })
    busTurn { s1 with mbox.waiting := s.mbox.waiting }

/-- R469: the EMPTY of an erased bank has not been stored yet. -/
def State.eraseOpen (s : State) : Bool := (nth s.nvm.queue 5).any (fun o => o.job == .mgtState .erase)

/-- R428, R469, R485, R493: the entry served next; flash waits while test 9 runs and while the EMPTY of its bank is not stored, after the power-fail warning only the flush is served, and after Shutdown none (R407, R451). -/
def State.nvServed (s : State) : Option Nat :=
  let hold := s.readsFlash || s.eraseOpen
  if s.nvm.halted then none
  else if s.bushel.closed then nvNext { s.nvm with queue := s.nvm.queue.take 1 ++ List.replicate 7 [] }
  else nvNext (if hold then { s.nvm with queue := s.nvm.queue.set 7 [] } else s.nvm)

/-- R493: the bookkeeping of the order of service. -/
def nvTurn (entry : Nat) (n : Nvm) : Nvm :=
  if entry ≤ 1 then { n with consec01 := n.consec01 + 1 } else { n with consec01 := 0, rr := entry }

/-- R18, R469: a codeword reaches its array. -/
def writeCw (w : CwWrite) (s : State) : State :=
  if w.bank < 2 then { s with nvm := nvWriteCw s.nvm w }
  else { s with mgt.flash := upd s.mgt.flash (w.bank - 2) (· ++ w.data) }

/-- R469: the number of the codeword written: flash is written in order. -/
def State.cwPlace (s : State) (w : CwWrite) : Nat := if w.bank < 2 then w.cw else (nth s.mgt.flash (w.bank - 2)).length / 32

/-- R20, R353: an operation has failed its read-back: one of the codewords it has written does not read correctly. Which one is a free value (notes/assumptions/79.md). -/
def readBackFails (op : NvOp) (s : State) : State :=
  match op.written with
  | [] => s
  | w :: _ =>
    let c := op.written.getD (s.freeNat % op.written.length) w
    let s1 := s.draw
    if c.1 < 2 then { s1 with nvm.bad := if s1.nvm.bad.contains c then s1.nvm.bad else c :: s1.nvm.bad }
    else { s1 with mgt.flashBad := if s1.mgt.flashBad.contains (c.1 - 2, c.2) then s1.mgt.flashBad else (c.1 - 2, c.2) :: s1.mgt.flashBad }

/-- R493: one codeword of the entry served; an operation that has no further codeword is verified. -/
def nvServe (verifyOk : Bool) (s : State) : State :=
  match s.nvServed with
  | none => s
  | some e =>
    match nth s.nvm.queue e with
    | [] => s
    | op :: rest =>
      let s1 := { s with nvm := nvTurn e s.nvm }
      match op.cws with
      | [] => nvComplete e op.job verifyOk { s1 with nvm.queue := s1.nvm.queue.set e rest }
      | w :: more =>
        let op1 := { op with cws := more, written := op.written ++ [(w.bank, s.cwPlace w)] }
        let s2 := writeCw w s1
        if more.isEmpty then
          let s3 := { s2 with nvm.queue := s2.nvm.queue.set e rest }
          nvComplete e op.job verifyOk (if verifyOk then s3 else readBackFails op1 s3)
        else { s2 with nvm.queue := s2.nvm.queue.set e (op1 :: rest) }

/-- The main domain is out of reset (R422, R435). -/
def State.outOfReset (s : State) : Bool :=
  match s.sup.phase with
  | .backup | .held _ => false
  | _ => true

/-- R413, R493 NV_CODEWORD_WRITE: whether the read-back of an operation that ends checks, and whether bank 1 has become unusable, are the operands. -/
def nvCodeword (verifyOk bank1Lost : Bool) (s : State) : State :=
  if !s.outOfReset then s
  else
    nvServe verifyOk (if bank1Lost then logFail 4 s else s)

def execNvCodewordWrite (verifyOk bank1Lost : Bool) (s : State) : Host.Outcome State Fault Refusal :=
  .next (nvCodeword verifyOk bank1Lost s)

/-- R431, R495: the queue drains before a soft reset. -/
def nvDrain : Nat → State → State
  | 0, s => s
  | n + 1, s => if s.nvServed.isNone then s else nvDrain n (nvServe true s)

/-- A bound on the turns that the waiting operations take, and those whose requesters wait to submit them; a management-state write takes 8 codewords, and a zone table and a summary image 64. -/
def nvLoad (s : State) : Nat := 150 + (s.nvm.queue.map (fun l => (l.map (fun o => o.cws.length + 9)).sum)).sum

/-- R428: does an operation survive the power-fail warning: the Bushel flush only. -/
def NvJob.isFlush : NvJob → Bool
  | .record _ _ | .rewrite _ | .clear _ | .pfRecord _ _ => true
  | _ => false

/-- R428: every other operation is abandoned at its next codeword boundary; nothing is reported of a Solstice or summary write. -/
def nvAbandoned (s : State) : List (Nat × NvJob) :=
  ((List.range 8).flatMap (fun e => (nth s.nvm.queue e).map (fun o => (e, o.job)))).filter (fun p =>
    match p.2 with
    | .solSlot _ | .solZone _ | .summary _ | .summaryFail => false
    | j => !j.isFlush)

end Sys2Proof.Machine
end

