-- ==== Sys2Proof/Machine/Reset.lean ====
section
/-! DEFINITION. Reset and start-up of the main domain, the release of the control path, and Backup (R41, R141, R210, R309, R353, R416, R421-R438, R460, R464, R470, R471, R488, R504). -/

namespace Sys2Proof.Machine

/-! ## What a reset leaves (R421, R431, R434) -/

/-- R431, R434: the main domain in reset. Of an OTP operation in progress each bit is set or clear (R459). The backup domain, the NVM, the flash, the OTP, the straps, the pins' levels and the test access port stand outside it. -/
def resetMain (p : Phase) (s : State) : State :=
  { backup := s.backup,
    nvm := { bank0 := s.nvm.bank0, bank1 := s.nvm.bank1, bad := s.nvm.bad },
    mgt := { mr := s.mgt.mr, mrCopy := s.mgt.mrCopy, otp := otpCut s, flash := s.mgt.flash,
             delivered := s.mgt.delivered, flashBad := s.mgt.flashBad },
    host := { hsel := s.host.hsel, a1 := s.host.a1, a0 := s.host.a0 },
    cfg := { inForce := Image.reset, committed := Image.reset, stored := Image.reset },
    gpio := { level := s.gpio.level },
    jtag := s.jtag, therm := if p = .backup then {} else { lastGov := s.therm.lastGov },
    sup := { phase := p, vmain := s.sup.vmain, railLow := s.sup.railLow, nrstLow := s.sup.nrstLow, thermLow := s.sup.thermLow,
             switched := s.sup.switched, wdtPend := s.sup.wdtPend },
    pending := s.pending, free := if otpCut s = s.mgt.otp then s.free else s.free + 1 }

/-- R431: the rank of a reason to hold the domain in reset; the lower wins. -/
def Held.rank : Held → Nat
  | .power => 0 | .railUv => 1 | .nrst => 2 | .thermal => 3

/-- R431: the cause a release from a hold gives. -/
def Held.cause : Held → Cause
  | .power => .por | .railUv => .railUv | .nrst => .nrst | .thermal => .thermal

/-- R431: the main domain enters reset; in Backup it has no supply to leave. R452: within the 2 ms of a Shutdown the cool-down holds it too, whichever reset comes (notes/assumptions/30.md). -/
def enterReset (why : Held) (s : State) : State :=
  match s.sup.phase with
  | .backup => s
  | .held w => { s with sup.phase := .held (if why.rank < w.rank then why else w) }
  | _ => resetMain (.held why) { s with sup.thermLow := s.sup.thermLow || s.sup.shutAt.isSome }

/-! ## Steps 1 and 2 (R422, R423, R435, R460) -/

/-- R422, R423: the backup domain at a reset release: PCC counts a power-up; a lost marker clears what it held, and the counters wait for the scan. -/
def backupCheck (c : Cause) (s : State) : State :=
  if s.backup.marker then
    (if c = .por then { s with backup.pcc := s.backup.pcc + 1 } else s)
  else
    report 91 6 4 0
      { s with backup := { s.backup with calValid := false, calendar := 0, lfInit := false, lfCount := 0, lf := [],
                                         marker := true },
               sup.vbatLost := true, sup.restorePend := true }

/-- R468, R469: a bank that has been erased is EMPTY, also where the management state does not say so yet. -/
def eraseSeen (s : State) : State :=
  (List.range 2).foldl (fun a k =>
    if (nth a.mgt.flash k).isEmpty && !(k == 0 && a.mgt.delivered) then { a with mgt.mr := a.mgt.mr.setBank k .empty 0 } else a) s

/-- R460: the copy of the management state that start-up uses. -/
def mgtRead (s : State) : State :=
  let at_ (k : Nat) : Nat := nvMgtBase + 0x800 + 256 * k
  let b (k : Nat) : List Byte := nvRead s.nvm 0 (at_ k) 256
  let ok (k : Nat) : Bool := mgtValid (b k) && !nvBad s.nvm 0 (at_ k) 256
  let s0 := nvReport 0 (at_ 0) 512 s
  let use (k : Nat) : State := { s0 with mgt.mr := mgtOfBytes (b k), mgt.mrCopy := k }
  match ok 0, ok 1 with
  | true, true => if laterMC (mgtOfBytes (b 0)).seq (mgtOfBytes (b 1)).seq then use 1 else use 0
  | true, false => use 0
  | false, true => use 1
  | false, false =>
    let s1 := { s0 with mgt.mrLost := true, mgt.mr := { floorFw := w32 (s.mgt.otp.thermo * 2 ^ 24), stateA := .empty } }
    let ver (k : Nat) : Word :=
      if k = 0 ∧ s.mgt.delivered then w32 Config.verARelease.toNat else contVersion (nth s.mgt.flash k)
    let s2 := (List.range 2).foldl (fun a k =>
      let t := { a with mgt.mr := a.mgt.mr.setBank k .good (ver k) }
      if (bankStep t k).isNone then t else bankReport k a) s1
    let mr := s2.mgt.mr
    let act := if mr.stateB == .good && (mr.stateA != .good || decide (mr.verA.toNat < mr.verB.toNat)) then 1 else 0
    secReport 107 false { s2 with mgt.mr := { mr with active := act } }

/-- R460, R468: the management state at start-up. -/
def mgtBoot (s : State) : State := eraseSeen (mgtRead s)

/-- R20, R412, R414, R416: the summary area at start-up; summary mode, with its `DROPPED` counters, persists for the life of the part. -/
def sumBoot (s0 : State) : State :=
  let at_ (k : Nat) : Nat := nvSumBase + 2048 * k
  let s := nvReport 0 (at_ 0) 4096 s0
  let b (k : Nat) : List Byte := nvRead s.nvm 0 (at_ k) 2048
  let ok (k : Nat) : Bool := sumValid (b k) && !nvBad s.nvm 0 (at_ k) 2048
  let use (k : Nat) : State :=
    let m := sumOfBytes (b k) k
    if getB (b k) 8 = 1 then
      alarmsEval (raise 103 { s with bushel.sum := m, bushel.summaryMode := true, bushel.failCause := m.failCause,
                                     bushel.dropped := m.dropped })
    else { s with bushel.sum := m }
  match ok 0, ok 1 with
  | true, true => if laterMC (sumOfBytes (b 0) 0).seq (sumOfBytes (b 1) 1).seq then use 1 else use 0
  | true, false => use 0
  | false, true => use 1
  | false, false => s

/-- R423: in summary mode the counters are restored from the summary area. -/
def sumRestore (s : State) : State :=
  if s.sup.restorePend && s.bushel.summaryMode then
    restoreCounters s.bushel.sum.failPcc s.bushel.sum.failOpt s
  else s

/-- R481: the published signatures. -/
def goodSignature (t : Nat) : BitVec 64 :=
  [0x3A91C4E07D25B816, 0xE6C20F591A8B4D73, 0x5D07A3B6C91E2F48, 0x91F46E2A0B7CD535, 0x2C8BD170E45A96F1,
   0xB36E58C927D01A4E, 0x0F5AE2D48C63B709, 0x7A2993BEF0165C82, 0x64D10C8FA3E72B95, 0xC8E07B15496DF3A2].getD t 0

/-- R480: the verdict of a test that has ended: of a logic test by its signature, of a read check by what it reads, of a memory test by its comparisons. -/
def testVerdict (s : State) (t : Nat) (pass : Bool) (sig : BitVec 64) : Nat :=
  if t ≤ 2 then b2n (sig == goodSignature t)
  else if t = 8 then b2n s.nvm.bad.isEmpty
  else if t = 9 then b2n s.mgt.flashBad.isEmpty
  else b2n pass

/-- R480: the signature of a test that has ended: a memory test whose comparisons all agree has the published one. -/
def testSignature (t : Nat) (pass : Bool) (sig : BitVec 64) : BitVec 64 :=
  if 3 ≤ t ∧ t ≤ 7 ∧ pass then goodSignature t else sig

/-- R20, R480: what a read check of a memory raises: source 123 for each of its `bad` uncorrectable codewords, and source 122 for each codeword corrected. How many were is a free value below `cws`, the codewords of the memory: at least one where only a correction explains a signature other than the published one (notes/assumptions/92.md). -/
def readCheck (mem cws bad : Nat) (same : Bool) (s : State) : State :=
  let n := s.freeNat % cws
  let fixed := if bad = 0 then (if same then 0 else n + 1) else n
  let s1 := (List.range fixed).foldl (fun a _ => memCorrected mem a) s
  (List.range bad).foldl (fun a _ => memUncorrectable mem a) (if bad = 0 && same then s1 else s1.draw)

/-- R480: tests 8 and 9 read the NVM, of 65,536 codewords, and the flash, of 131,072. -/
def testReads (t : Nat) (sig : BitVec 64) (s : State) : State :=
  let same := sig == goodSignature t
  if t = 8 then readCheck 8 65536 s.nvm.bad.length same s
  else if t = 9 then readCheck 7 131072 s.mgt.flashBad.length same s
  else s

/-- R480, R482, R487: test t ends: its result joins those of the run. -/
def testEnds (t : Nat) (pass : Bool) (sig : BitVec 64) (s : State) : State :=
  testReads t sig { s with test.results := s.test.results ++
    [{ test := t, verdict := testVerdict s t pass sig, signature := testSignature t pass sig }] }

/-- R488: step 2a. -/
def postRun (r : Release) (s : State) : State :=
  if s.mgt.otp.postBist then
    (List.range 10).foldl (fun a t => testEnds t (nth r.post t).1 (nth r.post t).2 a) { s with sup.postRan := true }
  else s

/-! ## Step 3: the boot image (R467, R470, R471) -/

/-- R470: at start-up a trial fails after an `MGT_WDT` reset and at its fourth start-up. -/
def trialBootCheck (s : State) : State :=
  if s.mgt.mr.inTrial && (s.sup.cause == some .mgtWdt || decide (3 ≤ s.mgt.mr.trialBoots)) then trialFail mgtStoreNow s else s

/-- R470: a start-up of a TRIAL bank is counted, and stored before step 5. -/
def trialBootCount (s : State) : State :=
  let mr := s.mgt.mr
  if mr.inTrial then
    mgtStoreNow { s with mgt.trial := true, mgt.mr := { mr with trialBoots := min 3 (mr.trialBoots + 1) } }
  else s

/-- R471: the other bank, if GOOD, is verified and booted; `failed` names the bank that failed before it and why. -/
def bootOther (failed reason : Nat) (s : State) : Option State × State :=
  let b := 1 - failed
  if s.mgt.mr.bankSt b ≠ .good then (none, bootFault failed reason s)
  else
    match bankStep s b with
    | some _ => (none, writeFault 9 106 (3 + at' reason 4) 0 (bankReport b s))
    | none =>
      let s1 := bootFault failed reason s
      (some (if s1.mgt.mr.active = b then s1 else mgtStoreNow { s1 with mgt.mr := { s1.mgt.mr with active := b } }), s1)

/-- R471: step 3: the state with a bank to boot, or none with the state in which start-up stops. -/
def bankBoot (s0 : State) : Option State × State :=
  let s1 := trialBootCheck s0
  let a := s1.mgt.mr.active
  let s := bankReport a s1
  match bankStep s a with
  | none => (some (trialBootCount s), s)
  | some k =>
    if s.mgt.mr.inTrial then
      let r := bootOther a (contReason k) s
      match r.1 with
      | some t => (some (trialFail mgtStoreNow { t with mgt.mr := s.mgt.mr, mgt.mrCopy := s.mgt.mrCopy, nvm := s.nvm }), r.2)
      | none => (none, trialFail mgtStoreNow r.2)
    else bootOther a (contReason k) s

/-! ## Step 4: configuration, tables (R141, R210, R278, R353) -/

/-- R353: the bytes of a configuration slot. -/
def cfgSlotBytes (s : State) (k : Nat) : List Byte := nvRead s.nvm 0 (nvCfgBase + 0x10000 * k) (64 + bodyLen + 128 + 8668)

/-- R348, R353, R461: the container that an `ORIGIN` 1 slot keeps. -/
def cfgSlotContainer (b : List Byte) : List Byte :=
  slice b (64 + bodyLen) 128 ++ slice b 0 (64 + bodyLen) ++ slice b (64 + bodyLen + 128) 8668

/-- R353: how many bytes of a slot its check reads. -/
def cfgSlotLen (s : State) (k : Nat) : Nat :=
  64 + bodyLen + (if getB (cfgSlotBytes s k) 0x14 = 1 then 128 + 8668 else 0)

/-- R353: the image of a valid slot. -/
def cfgSlot (s : State) (k : Nat) : Option Image :=
  let b := cfgSlotBytes s k
  if nvBad s.nvm 0 (nvCfgBase + 0x10000 * k) (cfgSlotLen s k) then none
  else if getB b 0x14 = 0 then
    (if s.mgt.otp.signedCfg ∨ getW b 0x1C ≠ 0 ∨ getW b 0x20 ≠ 0 then none else Image.ofSlot b)
  else if getW b 0x1C ≠ 64 + bodyLen + 128 ∨ getW b 0x20 ≠ 8668 then none
  else
    match contStep s [3] 65536 (cfgSlotContainer b) with
    | none | some 7 => Image.ofSlot b
    | some _ => none

/-- R353: is a slot empty. -/
def cfgSlotEmpty (s : State) (k : Nat) : Bool :=
  !nvBad s.nvm 0 (nvCfgBase + 0x10000 * k) 64 && allZero ((cfgSlotBytes s k).take 64)

/-- R353: a slot's copy comes into force. -/
def cfgUse (k : Nat) (img : Image) (fb : Bool) (s : State) : State :=
  let b := cfgSlotBytes s k
  let o1 := getB b 0x14 == 1
  { s with cfg := { inForce := img, committed := img, stored := img, fallback := fb, activeSlot := k,
                    slotSeq := w32 (getW b 8), origin1 := o1, version := getW b 0x18,
                    container := if o1 then slice b (64 + bodyLen) (128 + 8668) else [] } }

/-- R20, R353: the configuration at start-up. -/
def cfgBoot (s0 : State) : State :=
  let s := nvReport 0 (nvCfgBase + 0x10000) (cfgSlotLen s0 1) (nvReport 0 nvCfgBase (cfgSlotLen s0 0) s0)
  let seq (k : Nat) : Word := w32 (getW (cfgSlotBytes s k) 8)
  match cfgSlot s 0, cfgSlot s 1 with
  | some a, some b => if laterMC (seq 0) (seq 1) then cfgUse 1 b false s else cfgUse 0 a false s
  | some a, none => cfgUse 0 a (!cfgSlotEmpty s 1) s
  | none, some b => cfgUse 1 b (!cfgSlotEmpty s 0) s
  | none, none => raise 121 { s with cfg := { inForce := Image.reset, committed := Image.reset, stored := Image.reset,
                                              dflt := true } }

/-- R278, R464: the waveform table at start-up: of the slots that pass their checks, the one with the higher version. -/
def wfBoot (s0 : State) : State :=
  let len (k : Nat) : Nat := max 1 (wfSlotBytes s0 k).length
  let bad (k : Nat) : Bool := nvBad s0.nvm 0 (nvWfBase + 0x20000 * k) (len k)
  let s := (List.range 2).foldl (fun a k => nvReport 0 (nvWfBase + 0x20000 * k) (len k) a) s0
  let ok (k : Nat) : Bool := !bad k && (wfContStep s (wfSlotBytes s k)).isNone
  let use (k : Nat) : State :=
    let c := wfSlotBytes s k
    { s with panel.wf := some (contPayload c), panel.wfSlot := k, panel.wfVer := contVersion c }
  match ok 0, ok 1 with
  | true, true => if (contVersion (wfSlotBytes s 0)).toNat < (contVersion (wfSlotBytes s 1)).toNat then use 1 else use 0
  | true, false => use 0
  | false, true => use 1
  | false, false => s

/-- R435 step 5: the application core runs and the host window responds. -/
def appBoot (s : State) : State :=
  { s with sup.phase := .starting, mbox.ready := true, mgt.appRunning := true, acre.slot := s.cf .chain 0 1 16 11 }

/-- R248, R252: every channel's automatic retries are `RETRY`. -/
def retriesLoad (s : State) : State :=
  (List.range 32).foldl (fun a n => updCh n (fun c => { c with retryLeft := a.af n 0 4 2 }) a) s

/-- R435 steps 3-5, R437. -/
def startLate (s : State) : State :=
  match bankBoot s with
  | (none, t) => { t with sup.phase := .stopped }
  | (some t, _) => appBoot (chainSynthetic (solBoot (bandDefault (wfBoot (stoneBoot (retriesLoad (cfgBoot t)))))))

/-- R435, R504: start-up from t0, with a cause and what the release finds; with `VBAT_LOST` it waits in step 2 for the scan. R18: the ROM check is taken to pass; what a start-up does when it fails the spec does not say (DESIGN CHOICE, notes/assumptions/77.md). -/
def startUp (c : Cause) (r : Release) (s0 : State) : State :=
  let s := resetMain .scanning s0
  let s1 := { s with host := { hsel := r.hsel, a1 := r.hsel && r.a1, a0 := r.hsel && r.a0 }, sup.cause := some c,
                     sup.pfwTh := s.mgt.otp.pfwTh }
  let s2 := postRun r (sumRestore (sumBoot (mgtBoot (backupCheck c s1))))
  if s2.sup.restorePend then s2 else startLate s2

/-- R410, R423, R435 BUSHEL_SCAN: the scan ends; a start-up that waited for it goes on, unless the power-fail warning has stopped it (R437). In summary mode it is skipped (R414). -/
def execBushelScan (s : State) : Host.Outcome State Fault Refusal :=
  .next (if s.sup.phase = .scanning then (if s.sup.npfwLow then s else startLate (bushelScan s))
    else if s.alive && !s.bushel.scanDone && !s.bushel.summaryMode && !s.bushel.closed then bushelScan s else s)

/-- R431, R452: a reset that releases at once, or, within the 2 ms of a Shutdown, the reset that the Shutdown cools down in. -/
def resetTo (c : Cause) (r : Release) (s : State) : State :=
  if s.sup.shutAt.isSome then enterReset .thermal s else startUp c r s

/-- R421, R431: the reset is released once VMAIN is up and nothing holds it. -/
def leaveReset (r : Release) (s : State) : State :=
  if !s.sup.vmain || s.sup.railLow || s.sup.nrstLow || s.sup.thermLow then s
  else match s.sup.phase with
    | .held why => startUp why.cause r s
    | _ => s

/-! ## Power (R421, R426-R430, R438) -/

/-- R421, R431, R435 POWER_UP: VMAIN rises through 4.5 V, after being below 4.3 V; whether VBAT has kept the backup domain is an operand. -/
def powerUp (vbatHeld : Bool) (r : Release) (s : State) : State :=
  if s.sup.vmain then s
  else
    match s.sup.phase with
    | .backup | .held .power =>
      leaveReset r { s with sup.phase := .held .power, sup.vmain := true,
                            backup.marker := s.backup.marker && vbatHeld }
    | _ => s

def execPowerUp (vbatHeld : Bool) (r : Release) (s : State) : Host.Outcome State Fault Refusal :=
  .next (powerUp vbatHeld r s)

/-- R429: the codeword in progress is torn: it reads as uncorrectable. -/
def tear (s : State) : State :=
  match s.nvServed with
  | none => s
  | some e =>
    match nth s.nvm.queue e with
    | { cws := w :: _, .. } :: _ =>
      let c := (w.bank, s.cwPlace w)
      if w.bank < 2 then (if s.nvm.bad.contains c then s else { s with nvm.bad := c :: s.nvm.bad })
      else
        let d := (w.bank - 2, c.2)
        if s.mgt.flashBad.contains d then s else { s with mgt.flashBad := d :: s.mgt.flashBad }
    | _ => s

/-- R429: no warning has been raised at least 3 ms earlier, which is 72,000 reference periods. -/
def State.mayTear (s : State) : Bool := !s.sup.npfwLow || decide (s.chain.now < s.sup.pfwAt + 72000)

/-- R421, R429, R432, R438 BACKUP_SWITCHOVER: VMAIN falls below 4.3 V; `torn` says whether a codeword in progress is torn. NRST stays at its level. -/
def switchover (torn : Bool) (s : State) : State :=
  if !s.sup.vmain then s
  else
    let s1 := if torn && s.outOfReset && s.mayTear then tear s else s
    let s2 := resetMain .backup s1
    { s2 with sup := { phase := .backup, switched := true, nrstLow := s.sup.nrstLow } }

def execBackupSwitchover (torn : Bool) (s : State) : Host.Outcome State Fault Refusal := .next (switchover torn s)

/-- R486: a test run is abandoned and no result of it is kept. -/
def testAbandon (s : State) : State := if s.test.running then { s with test := {} } else s

/-- R130: a calibration run is lost, and no status is reported. -/
def runLost (s : State) : State :=
  if s.stone.run.isSome then
    clearVisits { s with stone.run := none, stone.commit := none, stone.commitSet := none }
  else s

/-- R425: PFW_TH in mV, by the OTP field in force. -/
def State.pfwMv (s : State) : Nat := if 20 ≤ s.sup.pfwTh ∧ s.sup.pfwTh ≤ 120 then 250 * s.sup.pfwTh else 18000

/-- R240, R265, R294, R426, R439, R486: what the warning does before its flush: NPFW low, the safe state, every channel and fan off, and the panel, a calibration run and a self-test abandoned. -/
def powerFailSafe (s : State) : State :=
  let s1 := raise 90 { s with sup.npfwLow := true, sup.safePfw := true, sup.pfwAt := s.chain.now }
  let s2 := if s1.released then fansOff (switchesSafe s1) else s1
  alarmsEval (panelStop (runLost (testAbandon s2)))

/-- R406, R426, R428, R451: after Shutdown the warning has no further effect. What it does else: the loads and the panel off, the flush, and every other NVM operation abandoned. -/
def powerFail (s : State) : State :=
  if !s.outOfReset || s.sup.npfwLow || s.sup.shutAt.isSome then s
  else
    let s3 := powerFailSafe s
    let lost := nvAbandoned s3
    lost.foldl (fun a p => nvComplete p.1 p.2 false a) (powerFailFlush s3)

/-- R425: the comparator's output while VMAIN is at a level in mV: below PFW_TH, with 0.5 V of hysteresis once it is below. -/
def State.vmainBelow (s : State) (was : Bool) (mv : Nat) : Bool :=
  decide (mv < s.pfwMv + (if was then 500 else 0))

/-- R425: VMAIN's levels of the last 20 µs, in mV, have kept the comparator low without a break: the warning is raised, which is the row POWER_FAIL_WARNING (notes/assumptions/80.md). -/
def State.pfwRaised (s : State) : List Nat → Bool
  | [] => false
  | mv :: rest => s.vmainBelow false mv && rest.all (s.vmainBelow true)

/-- R425, R426 POWER_FAIL_WARNING: VMAIN has been below PFW_TH for 20 µs without a break, as `State.pfwRaised` says. -/
def execPowerFailWarning (s : State) : Host.Outcome State Fault Refusal := .next (powerFail s)

/-- R430 PFW_RECOVER: VMAIN has stayed above PFW_TH + 1.0 V for 100 ms after a warning. -/
def execPfwRecover (r : Release) (s : State) : Host.Outcome State Fault Refusal :=
  .next (if s.outOfReset && s.sup.npfwLow && decide (s.pfwMv + 1000 < r.vmain) then resetTo .pfwRecover r s else s)

/-! ## Rails, NRST, soft reset, watchdog (R419, R431, R432, R457) -/

/-- R419 RAIL_UNDERVOLTAGE. -/
def execRailUndervoltage (s : State) : Host.Outcome State Fault Refusal :=
  .next (if s.sup.phase = .backup then s else enterReset .railUv { s with sup.railLow := true })

/-- R419 RAIL_UV_RECOVERY. -/
def execRailUvRecovery (r : Release) (s : State) : Host.Outcome State Fault Refusal :=
  .next (if s.sup.railLow then leaveReset r { s with sup.railLow := false } else s)

/-- R432 NRST: low for at least 10 µs; a level held from Backup keeps the domain in reset at the power-up that follows. -/
def execNrst (s : State) : Host.Outcome State Fault Refusal :=
  .next (enterReset .nrst { s with sup.nrstLow := true })

/-- R432 NRST_RELEASE. -/
def execNrstRelease (r : Release) (s : State) : Host.Outcome State Fault Refusal :=
  .next (if s.sup.nrstLow then leaveReset r { s with sup.nrstLow := false } else s)

/-- R431 SOFT_RESET: Bushel queues its buffer, the queue drains, and the device resets. R407, R450, R451: after Shutdown no codeword starts, so nothing drains, and the reset is the Shutdown's. -/
def softReset (r : Release) (s : State) : State :=
  if !s.outOfReset || !s.sup.softPend || s.sup.shutAt.isSome then s
  else
    let s1 := flushPass s
    startUp .soft r (nvDrain (nvLoad s1) s1)

def execSoftReset (r : Release) (s : State) : Host.Outcome State Fault Refusal := .next (softReset r s)

/-- R457 MGT_WATCHDOG_EXPIRY. -/
def mgtWatchdog (r : Release) (s : State) : State :=
  if !s.outOfReset then s
  else
    resetTo .mgtWdt r { writeFault 5 120 0 0 s with sup.wdtPend := true }

def execMgtWatchdogExpiry (r : Release) (s : State) : Host.Outcome State Fault Refusal := .next (mgtWatchdog r s)

/-! ## The release of the control path (R436, R437) -/

/-- R346, R436: outputs drive `OUT_INIT`. -/
def gpioRelease (s : State) : State :=
  { s with gpio.out := (List.range 16).map (fun g => s.cb .gpio g 0 4) }

/-- R175, R436: enabled loops start OPEN. -/
def loopsRelease (s : State) : State :=
  (List.range 127).foldl (fun a i => if a.loopEn (i + 1) then startLoop (i + 1) a else a) s

/-- R284: the clearing update waits for the panel temperature. -/
def panelRelease (s : State) : State :=
  if s.pnlEn then { s with panel.clearing := .waitTemp } else s

/-- R26, R437: the mode at the release. -/
def releaseMode (s : State) : State :=
  match s.sup.modeReq with
  | some .quiet => enterQuiet false { s with sup.modeReq := none }
  | some .hold => { s with sup.mode := .hold, sup.modeReq := none }
  | _ => { s with sup.mode := .run, sup.modeReq := none }

/-- R433, R436, R438, R452, R457, R488: what the release reports. -/
def releaseReports (s : State) : State :=
  let s1 := report 91 6 1 0 s
  let s2 := if s1.sup.switched then happen 91 6 4 0 { s1 with sup.switched := false } else s1
  let s3 := if s2.sup.cause = some .thermal then report 89 7 7 0 s2 else s2
  let s4 := if s3.sup.wdtPend then report 120 4 6 0 { s3 with sup.wdtPend := false } else s3
  if s4.sup.postRan then
    report 108 4 (if s4.test.results.all (fun t => t.verdict == 1) then 2 else 5) 0 { s4 with sup.postRan := false }
  else s4

/-- R436 CONTROL_PATH_RELEASE: at a PT 0 after step 5, once Chain counts. -/
def controlRelease (s : State) : State :=
  if s.sup.phase ≠ .starting ∨ s.chain.st = .start ∨ s.chain.pt ≠ 0 ∨ s.sup.npfwLow then s
  else
    let s := commitsRelease s
    let s1 := { s with sup.phase := .running, sens.mods := upd (s.sens.mods.map (freeNow s)) hmod (fun x => { x with coef := s.modCoef hmod }) }
    let s2 := releaseMode (gpioRelease (panelRelease (retriesLoad (loopsRelease s1))))
    releaseReports (acreEval (fanRelease s2))

def execControlPathRelease (s : State) : Host.Outcome State Fault Refusal := .next (controlRelease s)

end Sys2Proof.Machine
end

