-- ==== Sys2Proof/Machine/Superv.lean ====
section
/-! DEFINITION. Supervision of the application core, the clocks, the memories, thermal management, self-test and the test port (R19, R24, R333, R439-R457, R479-R490). -/

namespace Sys2Proof.Machine

/-! ## The application core (R333, R343, R455, R456) -/

/-- R333: an accepted command that will be answered `ST_INTERNAL`. -/
def Accepted.internal (a : Accepted) : Accepted := { a with err := some stInternal }

/-- R333: the command that waits for NVM counts as accepted without a response; its operation goes on (R495). -/
def waitingAccepted (s : State) : List Accepted :=
  match s.mbox.waiting with
  | none => []
  | some w =>
    match w.boxes with
    | none => []
    | some (i, j) => [{ inb := i, outb := j, cmd := w.cmd, msg := { tag := w.tag }, err := some stInternal }]

/-- R333, R372: the transmit buffer of a bus request whose answer the restart has taken away is free again; that of a file's container was used by its acknowledgement. -/
def busForget (s : State) : State :=
  match s.bus.waiting with
  | none | some .cfgFile => s
  | some _ => updPort s.bacPort Port.txFree s

/-- R17, R333, R343, R352, R382: the application core stops. -/
def appStop (s : State) : State :=
  let s1 := busForget (dropChunkIn (abortRun 5 stInternal s))
  { s1 with mbox.ready := false, mbox.appRestart := true, mbox.waiting := none,
            mbox.accepted := waitingAccepted s1 ++ s1.mbox.accepted.map Accepted.internal,
            mbox.respObj := [], cfg.edit := none, mgt.appRunning := false,
            nvm.orphans := (List.range 8).map (fun e => if 2 ≤ e then (nth s1.nvm.queue e).length else 0),
            bus := { s1.bus with subs := [], outstanding := [], trends := List.replicate 16 {},
                                 file := none, waiting := none, result := none } }

/-- R456: the restarts of the last 600 s, in MC at nominal frequency. -/
def State.recentRestarts (s : State) : List Word := s.mgt.restarts.filter (fun a => decide (s.mcSince a ≤ s.secMc 600))

/-- R439, R456: supervision fails: safe state, last-fault cause 4. -/
def supvFail (detail : Nat) (s : State) : State :=
  if s.sup.safeSupv then s
  else report 120 4 6 0 (alarmsEval (writeFault 4 120 detail 0 { testStop false s with sup.safeSupv := true, mgt.restartDue := none }))

/-- R455 HEARTBEAT_TIMEOUT: a restart is demanded; after `SAFE_SUPV` the core is held stopped (R456). -/
def heartbeatTimeout (s : State) : State :=
  if !s.alive || !s.mgt.appRunning || s.mgt.restartDue.isSome then s
  else if s.sup.safeSupv then appStop { s with mgt.appHeld := true }
  else { s with mgt.restartDue := some 2 }

def execHeartbeatTimeout (s : State) : Host.Outcome State Fault Refusal := .next (heartbeatTimeout s)

/-- R455, R456, R470 APP_CORE_RESTART: the management core stops the application core and starts it again. -/
def appCoreRestart (s : State) : State :=
  match s.mgt.restartDue with
  | none => s
  | some cause =>
    if !s.alive then s
    else
      let s1 := appStop { s with mgt.restartDue := none, mgt.restarting := true,
                                 mgt.restarts := s.chain.mc :: s.recentRestarts }
      let n := s1.mgt.restarts.length
      let s2 := report 120 4 6 0
        (writeFault cause (if cause = 2 then 120 else 123) (if cause = 2 then n else 0) 0 s1)
      let s3 := if 3 ≤ n then supvFail 2 s2 else s2
      if s3.mgt.trial then { trialFail (mgtStore .plain) s3 with sup.softPend := true } else s3

def execAppCoreRestart (s : State) : Host.Outcome State Fault Refusal := .next (appCoreRestart s)

/-- R333, R439 APP_RESTART_COMPLETE: `READY` returns to 1, the commands left without a response are answered, and zone logic resumes (R186). -/
def appRestartComplete (s : State) : State :=
  if !s.alive || !s.clk.pllLocked || !s.mbox.appRestart || s.mgt.appHeld || s.test.appStopped then s
  else
    let s1 := { s with mbox.ready := true, mbox.appRestart := false, mgt.appRunning := true, mgt.restarting := false,
                       sup.safeSram := false }
    let s2 := if s.sup.safeSram then raiseWith 123 1 0 s1 else s1
    busTurn (zonesRestart (drain (alarmsEval s2)))

def execAppRestartComplete (s : State) : Host.Outcome State Fault Refusal := .next (appRestartComplete s)

/-- R456 SUPERVISION_TIMEOUT: a restart has not completed within 2 s. -/
def execSupervisionTimeout (s : State) : Host.Outcome State Fault Refusal :=
  .next (if s.alive && s.mgt.restarting then supvFail 1 s else s)

/-! ## Clocks (R22, R24) -/

/-- R24, R439: a clock failure; it is left only through a reset. -/
def clockFail (detail : Nat) (s : State) : State :=
  if !s.outOfReset || s.clk.fail then s
  else report 120 4 6 0 (alarmsEval (writeFault 1 120 detail 0 { testStop false s with clk.fail := true, sup.safeClock := true }))

/-- R24 CLOCK_MONITOR_WINDOW: reference periods counted over a window, by the calendar crystal (1 %) or, while it is lost, by the internal oscillator (10 %). -/
def clockWindow (count : Nat) (byXtal : Bool) (s : State) : State :=
  if !s.outOfReset || (!byXtal && !s.clk.xtal32Lost) then s
  else
    let s1 := if byXtal then { s with clk.xtal32Lost := false } else s
    let dev := absQ ((count : Rat) - 24000000 * 4 / 32768)
    let bad := decide ((24000000 * 4 / 32768 : Rat) * (if byXtal then 1 / 100 else 1 / 10) < dev)
    if bad then
      let s2 := { s1 with clk.badWin := min 2 (s1.clk.badWin + 1) }
      if 2 ≤ s2.clk.badWin then clockFail 1 s2 else s2
    else { s1 with clk.badWin := 0 }

def execClockMonitorWindow (count : Nat) (byXtal : Bool) (s : State) : Host.Outcome State Fault Refusal :=
  .next (clockWindow count byXtal s)

/-- R24 REFERENCE_STOP: for 100 µs. -/
def execReferenceStop (s : State) : Host.Outcome State Fault Refusal := .next (clockFail 1 s)

/-- R22, R24, R440 PLL_UNLOCK: the blocks clocked from the system PLL stop. -/
def pllUnlock (s : State) : State :=
  if !s.outOfReset || !s.clk.pllLocked then s
  else
    let s1 := { clockFail 2 s with clk.pllLocked := false }
    if s1.released then switchesHold allocate s1 else s1

def execPllUnlock (s : State) : Host.Outcome State Fault Refusal := .next (pllUnlock s)

/-- R24 CALENDAR_CRYSTAL_LOSS: no edge for 100 µs; the monitor counts against the internal oscillator. -/
def execCalendarCrystalLoss (s : State) : Host.Outcome State Fault Refusal :=
  .next (if s.outOfReset then { s with clk.xtal32Lost := true } else s)

/-- R422 OPT_TICK: every 1/1024 h out of reset; not while the counter waits to be restored (R423). -/
def execOptTick (s : State) : Host.Outcome State Fault Refusal :=
  .next (if s.outOfReset && !s.sup.restorePend then { s with backup.opt := s.backup.opt + 1 } else s)

/-- R137, R421, R422, R454 CALENDAR_SECOND: the calendar counts; the trim follows Stone while the main domain runs, and a foreign registration runs out (R389). -/
def calendarSecond (s : State) : State :=
  let s1 := { s with backup.calendar := s.backup.calendar + 1 }
  let s2 := { s1 with backup.trim := rne s.coefs.x32 10 }
  if s.alive then onPll s2 (fdSecond s2) else s1

def execCalendarSecond (s : State) : Host.Outcome State Fault Refusal := .next (calendarSecond s)

/-! ## Memories (R19, R20, R207) -/

/-- R19, R20 MEMORY_READ_ERROR: in a memory of R338's code; the unit is the Solstice slot, the loop, the flash codeword with bank B from 65,536 on, or the NVM codeword with bank 1 from 32,768 on. -/
def memoryError (mem unit : Nat) (fatal : Bool) (s : State) : State :=
  if !s.outOfReset || mem = 0 || decide (8 < mem) then s
  else if !fatal then memCorrected mem s
  else
    match mem with
    | 1 => sramFault s
    | 2 => panelFault 3 (memUncorrectable 2 s)
    | 3 => solReport (unit % 64) (solDiscard (unit % 64) (memUncorrectable 3 s))
    | 4 => updLoop (unit % 128) (fun c => { c with poison := true }) (memUncorrectable 4 s)
    | 7 =>
      let c := (unit / 65536 % 2, unit % 65536)
      memUncorrectable 7 { s with mgt.flashBad := if s.mgt.flashBad.contains c then s.mgt.flashBad else c :: s.mgt.flashBad }
    | 8 =>
      let c := (unit / 32768 % 2, unit % 32768)
      memUncorrectable 8 { s with nvm.bad := if s.nvm.bad.contains c then s.nvm.bad else c :: s.nvm.bad }
    | _ => memUncorrectable mem s

def execMemoryReadError (mem unit : Nat) (fatal : Bool) (s : State) : Host.Outcome State Fault Refusal :=
  .next (memoryError mem unit fatal s)

/-- R18: words of the four SRAMs with SEC-DED: application, Solstice, Rood context, management. -/
def scrubSize (k : Nat) : Nat := [131072, 32768, 8192, 32768].getD k 1

/-- R19 SCRUB_READ: the scrubber reads the next word of an SRAM. -/
def execScrubRead (k : Nat) (s : State) : Host.Outcome State Fault Refusal :=
  .next (if s.outOfReset then { s with clk.scrub := upd s.clk.scrub k (fun w => (w + 1) % scrubSize k) } else s)

/-! ## Thermal management (R442-R453) -/

/-- R444: the ring of the sensors, and the place of each in it. -/
def ring : List Nat := [0, 1, 3, 4, 2]
def ringPos (i : Nat) : Nat := ring.findIdx (· == i)

/-- R444: the reading of a sensor, and whether it is usable. -/
def State.dieReading (s : State) (i : Nat) : Int := (nth s.sens.hk (2 * i)).value.toInt
def State.dieUsable (s : State) (i : Nat) : Bool :=
  let h := nth s.sens.hk (2 * i)
  !h.ovr && !h.unr && validQ h.value

/-- R444: the first valid sensor with a usable reading along the ring, in steps of d. -/
def State.ringNeighbour (s : State) (i d : Nat) : Option Nat :=
  ((List.range 4).map (fun k => nth ring ((ringPos i + d * (k + 1)) % 5))).find?
    (fun j => (nth s.therm.sensors j).valid && s.dieUsable j)

/-- R444: does a sensor disagree, 10.0 K being 655,360. -/
def State.dieDisagrees (s : State) (i : Nat) : Bool :=
  let v := s.dieReading i
  if !s.dieUsable i then true
  else match s.ringNeighbour i 1, s.ringNeighbour i 4 with
    | some a, some b => decide (2 * 655360 < (2 * v - s.dieReading a - s.dieReading b).natAbs)
    | some a, none | none, some a => decide (655360 < (v - s.dieReading a).natAbs)
    | none, none => false

/-- R444: one sensor's counts after a round, and whether it changed sides. -/
def DieSensor.round (x : DieSensor) (disagrees : Bool) : DieSensor × Bool :=
  if x.valid then
    (if !disagrees then ({ x with disagree := 0 }, false)
     else if 3 ≤ x.disagree + 1 then ({ valid := false }, true)
     else ({ x with disagree := x.disagree + 1 }, false))
  else
    (if disagrees then ({ x with readmit := 0 }, false)
     else if 8 ≤ x.readmit + 1 then ({ valid := true }, true)
     else ({ x with readmit := x.readmit + 1 }, false))

/-- R444: all sensors, against the validity at the start of the round. -/
def crossCheck (s : State) : State :=
  let rs := (List.range 5).map (fun i => (nth s.therm.sensors i).round (s.dieDisagrees i))
  let s1 := { s with therm.sensors := rs.map (·.1) }
  (List.range 5).foldl (fun a i => if (nth (rs.map (·.2)) i) then report 89 7 4 i a else a) s1

/-- R445: the highest usable reading of the sensors valid at the start of the round; its last value while none is usable. -/
def State.governs (s : State) : Word :=
  let vs := (List.range 5).filter (fun i => (nth s.therm.sensors i).valid)
  if vs.isEmpty then 0x80000001
  else match (vs.filter s.dieUsable).map s.dieReading with
    | [] => s.therm.governing
    | x :: t => wInt (t.foldl max x)

/-- R446: entry thresholds of the four levels, Q16.16. -/
def levelThr (k : Nat) : Int := ([110, 120, 130, 140].getD k 0 : Int) * 65536

def Therm.level (t : Therm) (k : Nat) : Level :=
  match k with
  | 0 => t.warning | 1 => t.throttle | 2 => t.critical | _ => t.shutdown
def Therm.setLevel (t : Therm) (k : Nat) (l : Level) : Therm :=
  match k with
  | 0 => { t with warning := l } | 1 => { t with throttle := l } | 2 => { t with critical := l }
  | _ => { t with shutdown := l }

/-- R447: one level's count after an evaluation; Shutdown has no exit. -/
def Level.round (l : Level) (k : Nat) (g : Int) : Level :=
  if l.entered then
    (if k = 3 then l
     else if levelThr k - 327680 ≤ g then { l with count := 0 }
     else if 3 ≤ l.count + 1 then {}
     else { l with count := l.count + 1 })
  else if g < levelThr k then { l with count := 0 }
  else if 3 ≤ l.count + 1 then { entered := true }
  else { l with count := l.count + 1 }

/-- R399, R446: source and LEVEL record of a level. -/
def levelReport (k : Nat) (s : State) : State := report (86 + k) 7 (4 + k) (k + 1) s

/-- R439, R445, R449: `SAFE_THERMAL` follows the level and the sensors. -/
def safeThermal (s : State) : State :=
  let few := decide ((List.range 5).countP (fun i => (nth s.therm.sensors i).valid) < 3)
  let on := s.therm.critical.entered || s.therm.shutdown.entered || few
  alarmsEval { testStop (!on || s.sup.safeThermal) s with sup.safeThermal := on }

/-- R450, R451, R486: Shutdown at time 0: last-fault cause 6, no further NVM codeword, every channel off, the boost converter stopped, the panel's driving ended; a test run is abandoned. The rest runs on until the reset 2 ms later (`shutdownEnd`). -/
def shutdown (s : State) : State :=
  let s1 := writeFault 6 0xFF 0 s.therm.governing.toNat s
  panelStop (switchesSafe (testAbandon { s1 with nvm.halted := true, sup.shutAt := some s.chain.now }))

/-- R450, R452: 2 ms after the entry, which are 48,000 reference periods, the main domain enters reset and cools down. -/
def shutdownEnd (s : State) : State :=
  match s.sup.shutAt with
  | none => s
  | some t => if t + 48000 ≤ s.chain.now then enterReset .thermal { s with sup.thermLow := true } else s

/-- R48, R68, R98, R448, R450 PT_TICK: a PT starts, and what is due at its start happens. -/
def execPtTick (s : State) : Host.Outcome State Fault Refusal := .next (shutdownEnd (burstStep (publishLate (beaconRelease (ptTick s)))))

/-- R446-R450: the actions of an entry. -/
def levelEnter (k : Nat) (s : State) : State :=
  match k with
  | 0 => levelReport 0 s
  | 1 => abortRun 6 stThermal (levelReport 1 s)
  | 2 =>
    let s1 := flushPass (safeThermal (testStop false (levelReport 2 s)))
    if s1.bushel.summaryMode then sumWrite s1 else s1
  | _ => shutdown s

/-- R447: the levels at an evaluation: every entry first, in ascending threshold, then every exit, in descending threshold. -/
def levels (g : Int) (s : State) : State :=
  let old := s.therm
  let now := (List.range 4).foldl (fun t k => t.setLevel k ((old.level k).round k g)) s.therm
  let s1 := { s with therm := now }
  let s2 := (List.range 4).foldl (fun a k =>
    if (now.level k).entered && !(old.level k).entered then levelEnter k a else a) s1
  if now.shutdown.entered then s2
  else ([2, 1, 0] : List Nat).foldl (fun a k =>
    if (old.level k).entered && !(now.level k).entered then levelReport k a else a) s2

/-- R442-R447 THERMAL_EVALUATION: once per housekeeping round, at PT 2 of the MC that follows the end of slot 8: the MC that its window's end begins. -/
def thermalEvaluation (s : State) : State :=
  if !s.released || !s.sens.hkFresh || s.chain.pt != 2 || s.chain.mc != (nth s.sens.hk 8).mcEnd || s.sup.shutAt.isSome then s
  else
    let g := s.governs
    let s1 := crossCheck { s with sens.hkFresh := false, therm.governing := g, therm.lastGov := g }
    let s2 := if g = 0x80000001 then s1 else levels g.toInt s1
    if s2.released then safeThermal s2 else s2

def execThermalEvaluation (s : State) : Host.Outcome State Fault Refusal := .next (thermalEvaluation s)

/-- R452 THERMAL_RESTART: 10 s have passed and the trip sensor reads below 110 °C. -/
def execThermalRestart (r : Release) (s : State) : Host.Outcome State Fault Refusal :=
  .next (if s.sup.thermLow then leaveReset r { s with sup.thermLow := false } else s)

/-- R453 ANALOG_TRIP: the comparators work from VMAIN, in reset and start-up as well, the cool-down after a Shutdown among it. -/
def analogTrip (s : State) : State :=
  if !s.sup.vmain then s
  else enterReset .thermal { writeFault 7 0xFF 0 s.therm.lastGov.toNat s with sup.thermLow := true }

def execAnalogTrip (s : State) : Host.Outcome State Fault Refusal := .next (analogTrip s)

/-! ## Self-test (R479-R488) -/

/-- R482: tests that require Hold. -/
def needsHold (t : Nat) : Bool := decide (t ≤ 6)

/-- R484: Quire holds no region. -/
def State.noRegion (s : State) : Bool :=
  s.panel.regions.all (·.isNone) && (match s.panel.clearing with | .running .. => false | _ => true)

/-- R482: in a run that has entered Hold, the first test waits until every channel has reached its safe value, which the first PWM period in Hold brings about: until then the channel's condition is not yet Hold's. -/
def State.testSettled (s : State) : Bool :=
  !s.test.enteredHold || !s.test.results.isEmpty || (List.range 32).all (fun n => (s.ach n).cond == s.actCond n)

/-- R479, R482, R484: the precondition of a test. -/
def State.testReady (s : State) (t : Nat) : Bool :=
  (!needsHold t || s.sup.mode == .hold) && t != 7 && s.testSettled &&
  (match t with
   | 2 => s.noRegion && s.panel.rails == .off
   | 4 => s.noRegion
   | _ => true)

/-- R483: the application core is stopped before the first of tests 0 and 3, and restarted after the last; that restart is none of supervision's (R456). -/
def testTurn (s : State) : State :=
  let rest := s.test.left
  match rest with
  | t :: _ =>
    if t = 0 ∨ t = 3 then
      (if s.test.appStopped then s else appStop { s with test.appStopped := true })
    else if s.test.appStopped && !rest.contains 3 then { s with test.appStopped := false }
    else s
  | [] => { s with test.appStopped := false }

/-- R482: `TEST.RUN`. -/
def testRun (m : Msg) (s : State) : State × Reply :=
  let mask := getW m.payload 0
  if mask = 0 ∨ mask.testBit 7 ∨ 1024 ≤ mask then (s, .st stBadArg)
  else if s.test.running ∨ s.stone.run.isSome then (s, .st stBusy)
  else if s.thermalBars then (s, .st stThermal)
  else
    let enters := decide (mask % 128 ≠ 0) && (s.sup.mode == .run || s.sup.mode == .quiet)
    let s1 := { s with test := { running := true, left := idx 10 mask.testBit, mask := mask, enteredHold := enters } }
    (testTurn (if enters then enterHold s1 else s1), .st stPending)

def execTestRun (m : Msg) (s : State) : Host.Outcome State Fault Refusal :=
  .next (command { code := 0x7F01, len := fun n => n == 4 } m testRun s)

/-- R367, R487: `TEST.RESULT`. -/
def execTestResult (m : Msg) (s : State) : Host.Outcome State Fault Refusal :=
  .next (command { code := 0x7F02 } m
    (fun _ s =>
      if s.test.running then (s, .st stBusy)
      else (s, .ok (le8 s.test.results.length ++ zeros 3 ++ s.test.results.flatMap (fun t =>
        le8 t.test ++ le8 t.verdict ++ zeros 2 ++ zeros 4 ++ le 8 t.signature.toNat)))) s)

/-- R486: what ends a run early. -/
def State.testStops (s : State) : Bool := s.test.stopped

/-- R480, R482 SELF_TEST_COMPLETE: the test in progress ends with its outcome and signature. -/
def selfTestComplete (pass : Bool) (sig : BitVec 64) (s : State) : State :=
  match s.test.left with
  | [] => s
  | t :: rest =>
    if !s.alive || !s.test.running || s.testStops || !s.testReady t then s
    else
      testTurn (testEnds t pass sig { s with test.left := rest })

def execSelfTestComplete (pass : Bool) (sig : BitVec 64) (s : State) : Host.Outcome State Fault Refusal :=
  .next (selfTestComplete pass sig s)

/-- R484 TEST_PRECONDITION_TIMEOUT: the test is not run. -/
def testSkip (s : State) : State :=
  match s.test.left with
  | [] => s
  | t :: rest =>
    if !s.alive || !s.test.running || s.testReady t then s
    else testTurn { s with test.left := rest, test.results := s.test.results ++ [{ test := t }] }

def execTestPreconditionTimeout (s : State) : Host.Outcome State Fault Refusal := .next (testSkip s)

/-- R482, R486 TEST_RUN_END. -/
def testRunEnd (s : State) : State :=
  if !s.alive || !s.test.running || !(s.test.left.isEmpty || s.testStops) then s
  else
    let rs := s.test.results ++ s.test.left.map (fun t => { test := t })
    let s1 := testTurn { s with test.left := [], test.results := rs }
    let s2 := { s1 with test.running := false, test.enteredHold := false }
    let s3 := if s.test.enteredHold && s.sup.mode == .hold then leaveHold s2 else s2
    report 108 4 (if rs.all (fun t => t.verdict != 0) then 2 else 5) 0 s3

def execTestRunEnd (s : State) : Host.Outcome State Fault Refusal := .next (testRunEnd s)

/-! ## GPIO edges (R346) -/

/-- R346 GPIO_EDGE: a new level has been stable for 1 ms. -/
def gpioEdge (g : Nat) (high : Bool) (s : State) : State :=
  let was := s.gpio.level.getD g false
  let s1 := { s with gpio.level := s.gpio.level.set g high }
  if 16 ≤ g ∨ was = high ∨ !s.alive ∨ s.cf .gpio g 0 7 6 ≠ 0 then s1
  else if s.cb .gpio g 0 (if high then 3 else 2) then raise (124 + g / 4) s1
  else s1

def execGpioEdge (g : Nat) (high : Bool) (s : State) : Host.Outcome State Fault Refusal := .next (gpioEdge g high s)

/-! ## The test port (R475, R489, R490) -/

/-- R489: the current instruction and the register it selects. -/
def setIr (op : BitVec 5) (r : JtagReg) (s : State) : State := { s with jtag := { ir := op, reg := r } }

/-- R489: the device identification: version 1, part 0x3200, Balloth's identity, 1. -/
def deviceId : BitVec 32 := 0x13200965

/-- R475, R489: the register that the current instruction selects: Bypass for a debug instruction once `DEBUG_LOCK` is set, also while it is current. -/
def State.testReg (s : State) : JtagReg := if s.jtag.reg = .debug ∧ s.mgt.otp.debugLock then .bypass else s.jtag.reg

/-- R489: what the device identification register holds for the tester that has selected it. -/
def State.idCaptured (s : State) : Option (BitVec 32) := if s.testReg = .idcode then some deviceId else none

def execExtest (s : State) : Host.Outcome State Fault Refusal := .next (setIr 0 .boundary s)
def execIdcode (s : State) : Host.Outcome State Fault Refusal := .next (setIr 1 .idcode s)
def execSamplePreload (s : State) : Host.Outcome State Fault Refusal := .next (setIr 2 .boundary s)
def execHighz (s : State) : Host.Outcome State Fault Refusal := .next (setIr 4 .bypass s)
def execClamp (s : State) : Host.Outcome State Fault Refusal := .next (setIr 5 .bypass s)

/-- R489: opcodes 0b10000 to 0b11110. -/
def isDebugOp (op : BitVec 5) : Bool := decide (16 ≤ op.toNat) && decide (op.toNat ≤ 30)

/-- R475, R489 DEBUG_ACCESS. -/
def execDebugAccess (op : BitVec 5) (s : State) : Host.Outcome State Fault Refusal :=
  .next (if isDebugOp op then setIr op (if s.mgt.otp.debugLock then .bypass else .debug) s else s)

/-- R489 BYPASS: 0b11111 and every code that names no other instruction. -/
def execBypass (op : BitVec 5) (s : State) : Host.Outcome State Fault Refusal :=
  .next (if isDebugOp op || [0, 1, 2, 4, 5].contains op.toNat then s else setIr op .bypass s)

/-- R490: EXTEST, HIGHZ or CLAMP is the current instruction: the power outputs and the analog pins hold the states of R434. -/
def State.scanHeld (s : State) : Bool := [0, 4, 5].contains s.jtag.ir.toNat

/-- R223: the channel whose drive the switches of ACTn follow: of a ganged pair, the even one. -/
def State.gangOf (s : State) (n : Nat) : Nat :=
  if n = 29 ∧ s.cb .actDev 0 0 0 ∨ n = 31 ∧ s.cb .actDev 0 0 1 then n - 1 else n

/-- R220, R223, R226, R232, R434, R490: the low-side switch of ACTn regulates a current; it is open in a decay, that from a peak to the hold among them, before the release and while the scan port holds the pins. -/
def State.actPinDriven (s : State) (n : Nat) : Bool :=
  let c := s.ach (s.gangOf n)
  s.released && ((c.ph == .on && !c.toHold) || c.inPeak) && !s.scanHeld

/-- R220, R223, R226, R246: the freewheel switch of ACTn: it conducts in the off part of each PWM period of a channel that drives, and through a slow decay. -/
def State.actFreewheel (s : State) (n : Nat) : Bool :=
  let c := s.ach (s.gangOf n)
  s.released && ((c.ph == .on && !c.toHold) || c.inPeak || (c.ph == .decay && c.slowDecay)) && !s.scanHeld

/-- R220, R223, R226, R232: the recovery path of ACTn carries the coil current into VBST. -/
def State.actRecovery (s : State) (n : Nat) : Bool :=
  let c := s.ach (s.gangOf n)
  s.released && ((c.ph == .decay && !c.slowDecay) || (c.ph == .on && c.toHold)) && !s.scanHeld

/-- R220, R434, R490: the pull-in switch of HSWk conducts. -/
def State.hswPullIn (s : State) (k : Nat) : Bool :=
  s.released && (s.act.pairs.getD k {}).boost.isSome && !s.scanHeld

/-- R220, R434, R490: the pair supply switch of HSWk conducts. -/
def State.hswSupply (s : State) (k : Nat) : Bool :=
  s.released && !(s.act.pairs.getD k {}).off && (s.act.pairs.getD k {}).boost.isNone && !s.scanHeld

/-- R224, R434, R490: BSTSW switches. -/
def State.bstswOn (s : State) : Bool := s.boostRunning && !s.scanHeld

/-- R270, R282, R434, R490: EPDSW_P and EPDSW_N switch, which they may while the panel is enabled and a rail is on or on its way. -/
def State.epdswOn (s : State) : Bool := s.released && s.pnlEn && s.panel.rails != .off && !s.scanHeld

end Sys2Proof.Machine
end

