-- ==== Sys2Proof/Machine/Pins.lean ====
section
/-! DEFINITION. The states of the pins that no other file gives: supplies, references, excitation, keys, buses, host and test port (R78, R118, R301, R310, R346, R373, R419, R434, R435, R489, R490, R498-R505). -/

namespace Sys2Proof.Machine

/-! ## Supply pins (R419, R435, R499) -/

/-- R421, R435, R499: the buck converter switches BUCKSW from step 1 on, while VMAIN is there. -/
def State.buckswOn (s : State) : Bool := s.sup.vmain

/-- R434, R435, R438, R499: VDD33, VCORE and VREFOUT are on from the end of step 1, and off in Backup. The spec does not say how they stand in a reset before that: none. -/
def State.railsUp (s : State) : Option Bool :=
  if s.outOfReset then some true else if s.sup.phase = .backup then some false else none

/-- R499, R502: the crystal oscillator runs from step 1. -/
def State.xinRuns (s : State) : Bool := s.outOfReset

/-! ## Analog pins (R78, R118, R434, R490) -/

/-- R78, R434, R490, R500: the input that the excitation source of modulator m feeds, if any. -/
def State.excitation (s : State) (m : Nat) : Option Nat := if s.released && !s.scanHeld then (nth s.sens.mods m).exc else none

/-- R116, R118, R434, R490, R499: CALHI and CALLO are driven in the Stone visits that select them alone; the reference current of item 9 passes CALLO within each current-sense measurement. -/
def State.calPinOn (s : State) (pin : CalInput) : Bool :=
  s.released && !s.scanHeld && s.sens.mods.any (fun x => x.stone.cur == some pin)
def State.calHiOn (s : State) : Bool := s.calPinOn .calHi
def State.calLoOn (s : State) : Bool := s.calPinOn .calLo

/-! ## Keys and GPIO (R301, R346, R434, R501) -/

/-- R301, R434, R501: KROWr is driven low, `us` being the microseconds since the scan began: each row for 10 µs of a scan in turn; else it is released. -/
def State.krowLow (s : State) (r us : Nat) : Bool :=
  s.released && s.clk.pllLocked && s.kb 8 && decide (r < 8) && us / 10 == r

/-- R346, R434: the internal pull-up of a GPIO pin. -/
def State.gpioPull (s : State) (g : Nat) : Bool := if s.released then s.cb .gpio g 0 5 else true

/-- R346, R434: a GPIO pin is an output. -/
def State.gpioOutput (s : State) (g : Nat) : Bool := s.released && s.cf .gpio g 0 7 6 != 0

/-! ## Bus pins (R370, R373, R434, R502) -/

/-- R434, R502: the bus outputs at rest: U0TX and U1TX high, U0DE and U1DE low, the T1L PHY off, the RMII outputs low. -/
structure BusPins where
  tx : List Bool := [true, true]
  de : List Bool := [false, false]
  t1lOn : Bool := false
  rmiiOn : Bool := false
deriving DecidableEq, Repr

/-- R370, R373, R434: the bus outputs while port p sends (`sends p`), with the level its frame puts on UpTX (`level p`). A port that is not enabled does not send. R490, R502: T1LP and T1LN are analog pins, which the scan port holds at their reset state. -/
def State.busPins (sends level : Nat → Bool) (s : State) : BusPins :=
  let on (p : Nat) : Bool := s.portRuns p && sends p
  { tx := [!on 0 || level 0, !on 1 || level 1], de := [on 0, on 1], t1lOn := s.portRuns 2 && !s.scanHeld, rmiiOn := s.portRuns 3 }

/-! ## Host and test port (R309, R310, R426, R489, R502) -/

/-- R309, R310, R502: HMISO is driven: in SPI mode, from step 5 on, while HCS_N is low; else it is high-impedance. -/
def State.hmisoOn (s : State) (csLow : Bool) : Bool := s.spiOn && csLow

/-- R489, R502: TDO is driven while the port shifts (`shifts`) outside Test-Logic-Reset (`reset`); else it is high-impedance. -/
def tdoOn (reset shifts : Bool) : Bool := shifts && !reset

/-- R426, R502: NPFW is driven low. -/
def State.npfwDriven (s : State) : Bool := s.sup.npfwLow

end Sys2Proof.Machine
end

