-- ==== Sys2Proof/Machine/Dispatch.lean ====
section
/-! DEFINITION. One arm per command: its meaning. -/

namespace Sys2Proof.Machine

open Sys2Proof

/-- What a command does, to everything but the queue. -/
def exec (i : Instr) (s : State) : Host.Outcome State Fault Refusal :=
  match i with
  | .zxCrossing t positive => Sys2Proof.Machine.execZxCrossing t positive s
  | .startTimeout => Sys2Proof.Machine.execStartTimeout s
  | .missingCrossing => Sys2Proof.Machine.execMissingCrossing s
  | .ptTick => Sys2Proof.Machine.execPtTick s
  | .acreBeaconSend => Sys2Proof.Machine.execAcreBeaconSend s
  | .beacon addr b => Sys2Proof.Machine.execBeacon addr b s
  | .join addr b => Sys2Proof.Machine.execJoin addr b s
  | .slot addr b => Sys2Proof.Machine.execSlot addr b s
  | .acreMasterLoss => Sys2Proof.Machine.execAcreMasterLoss s
  | .acreSeekingTimeout => Sys2Proof.Machine.execAcreSeekingTimeout s
  | .acreCandidateWaitEnd => Sys2Proof.Machine.execAcreCandidateWaitEnd s
  | .acreMemberForget id => Sys2Proof.Machine.execAcreMemberForget id s
  | .windowStart k => Sys2Proof.Machine.execWindowStart k s
  | .roundStart k => Sys2Proof.Machine.execRoundStart k s
  | .windowEnd k w => Sys2Proof.Machine.execWindowEnd k w s
  | .resultPublish k => Sys2Proof.Machine.execResultPublish k s
  | .presenceWarmupEnd d => Sys2Proof.Machine.execPresenceWarmupEnd d s
  | .presenceHoldExpiry d => Sys2Proof.Machine.execPresenceHoldExpiry d s
  | .hkRoundEnd => Sys2Proof.Machine.execHkRoundEnd s
  | .calStepRelease => Sys2Proof.Machine.execCalStepRelease s
  | .calVisitStart k => Sys2Proof.Machine.execCalVisitStart k s
  | .calVisitEnd k => Sys2Proof.Machine.execCalVisitEnd k s
  | .actSenseMeasure n reading => Sys2Proof.Machine.execActSenseMeasure n reading s
  | .actSenseSkip n => Sys2Proof.Machine.execActSenseSkip n s
  | .xtalRefPulse ticks24 ticks32 => Sys2Proof.Machine.execXtalRefPulse ticks24 ticks32 s
  | .xtalRefTimeout => Sys2Proof.Machine.execXtalRefTimeout s
  | .calPassEnd => Sys2Proof.Machine.execCalPassEnd s
  | .calRunComplete => Sys2Proof.Machine.execCalRunComplete s
  | .loopEvaluation l => Sys2Proof.Machine.execLoopEvaluation l s
  | .loopCommit l late => Sys2Proof.Machine.execLoopCommit l late s
  | .zoneLogicPass => Sys2Proof.Machine.execZoneLogicPass s
  | .specConfirmExpiry z => Sys2Proof.Machine.execSpecConfirmExpiry z s
  | .changeoverDelayExpiry z => Sys2Proof.Machine.execChangeoverDelayExpiry z s
  | .windowDelayExpiry z => Sys2Proof.Machine.execWindowDelayExpiry z s
  | .faultDelayExpiry z => Sys2Proof.Machine.execFaultDelayExpiry z s
  | .comfortDelayExpiry z => Sys2Proof.Machine.execComfortDelayExpiry z s
  | .manualExpiry z => Sys2Proof.Machine.execManualExpiry z s
  | .solsticeBinEnd k => Sys2Proof.Machine.execSolsticeBinEnd k s
  | .occBinEnd z => Sys2Proof.Machine.execOccBinEnd z s
  | .solsticePersist => Sys2Proof.Machine.execSolsticePersist s
  | .pwmPeriod raw => Sys2Proof.Machine.execPwmPeriod raw s
  | .minOffExpiry n => Sys2Proof.Machine.execMinOffExpiry n s
  | .thermalPeriodStart n => Sys2Proof.Machine.execThermalPeriodStart n s
  | .thermalOnPhaseEnd n => Sys2Proof.Machine.execThermalOnPhaseEnd n s
  | .dutyBucketEnd n => Sys2Proof.Machine.execDutyBucketEnd n s
  | .pullinSlotStart => Sys2Proof.Machine.execPullinSlotStart s
  | .degradedPeakStart n => Sys2Proof.Machine.execDegradedPeakStart n s
  | .peakEnd n => Sys2Proof.Machine.execPeakEnd n s
  | .actDecayEnd n => Sys2Proof.Machine.execActDecayEnd n s
  | .floatOverrunEnd k => Sys2Proof.Machine.execFloatOverrunEnd k s
  | .floatResyncEnd k => Sys2Proof.Machine.execFloatResyncEnd k s
  | .floatReversalEnd k => Sys2Proof.Machine.execFloatReversalEnd k s
  | .budgetWaitTimeout n => Sys2Proof.Machine.execBudgetWaitTimeout n s
  | .openLoadOn n => Sys2Proof.Machine.execOpenLoadOn n s
  | .openLoadOff n => Sys2Proof.Machine.execOpenLoadOff n s
  | .openLoadClear n => Sys2Proof.Machine.execOpenLoadClear n s
  | .shortSup n => Sys2Proof.Machine.execShortSup n s
  | .shortGnd n => Sys2Proof.Machine.execShortGnd n s
  | .hswOvercurrent k => Sys2Proof.Machine.execHswOvercurrent k s
  | .chOt n hot => Sys2Proof.Machine.execChOt n hot s
  | .shortSupRetry n => Sys2Proof.Machine.execShortSupRetry n s
  | .retryLeftRestore n => Sys2Proof.Machine.execRetryLeftRestore n s
  | .bstUv => Sys2Proof.Machine.execBstUv s
  | .bstOv => Sys2Proof.Machine.execBstOv s
  | .bstOvRelease => Sys2Proof.Machine.execBstOvRelease s
  | .bstOc => Sys2Proof.Machine.execBstOc s
  | .boostRestart => Sys2Proof.Machine.execBoostRestart s
  | .boostRetryReset => Sys2Proof.Machine.execBoostRetryReset s
  | .clampActive on => Sys2Proof.Machine.execClampActive on s
  | .clampSustained => Sys2Proof.Machine.execClampSustained s
  | .fanPwmPeriod f => Sys2Proof.Machine.execFanPwmPeriod f s
  | .fanKickStart => Sys2Proof.Machine.execFanKickStart s
  | .fanKickEnd f => Sys2Proof.Machine.execFanKickEnd f s
  | .fanPauseEnd f => Sys2Proof.Machine.execFanPauseEnd f s
  | .fanTachEdge f t => Sys2Proof.Machine.execFanTachEdge f t s
  | .fanTachLoss f => Sys2Proof.Machine.execFanTachLoss f s
  | .fanSlowTimer f => Sys2Proof.Machine.execFanSlowTimer f s
  | .frameSlot crackOk readOk fetchBad => Sys2Proof.Machine.execFrameSlot crackOk readOk fetchBad s
  | .panelFault cause => Sys2Proof.Machine.execPanelFault cause s
  | .blinkPhase n => Sys2Proof.Machine.execBlinkPhase n s
  | .railPowerGood ix => Sys2Proof.Machine.execRailPowerGood ix s
  | .railSeqDelayExpiry => Sys2Proof.Machine.execRailSeqDelayExpiry s
  | .railHoldExpiry => Sys2Proof.Machine.execRailHoldExpiry s
  | .railFault outOfRange => Sys2Proof.Machine.execRailFault outOfRange s
  | .clearingTempTimeout => Sys2Proof.Machine.execClearingTempTimeout s
  | .keyScan raw => Sys2Proof.Machine.execKeyScan raw s
  | .keyStuckExpiry ix => Sys2Proof.Machine.execKeyStuckExpiry ix s
  | .spiWriteTransaction mosi => Sys2Proof.Machine.execSpiWriteTransaction mosi s
  | .spiReadTransaction mosi => Sys2Proof.Machine.execSpiReadTransaction mosi s
  | .i2cWrite target wire => Sys2Proof.Machine.execI2cWrite target wire s
  | .i2cRead target a ctl => Sys2Proof.Machine.execI2cRead target a ctl s
  | .mbInDb v => Sys2Proof.Machine.execMbInDb v s
  | .mbOutDb v => Sys2Proof.Machine.execMbOutDb v s
  | .mbPtrWrite outb ix v => Sys2Proof.Machine.execMbPtrWrite outb ix v s
  | .mbInDataWrite ix v => Sys2Proof.Machine.execMbInDataWrite ix v s
  | .mbOutDataRead j => Sys2Proof.Machine.execMbOutDataRead j s
  | .evqPop v => Sys2Proof.Machine.execEvqPop v s
  | .evtSummaryClear k v => Sys2Proof.Machine.execEvtSummaryClear k v s
  | .evqLostClear k v => Sys2Proof.Machine.execEvqLostClear k v s
  | .hostErrClear v => Sys2Proof.Machine.execHostErrClear v s
  | .registerWrite a v => Sys2Proof.Machine.execRegisterWrite a v s
  | .mbAccept => Sys2Proof.Machine.execMbAccept s
  | .chunkObjectTimeout => Sys2Proof.Machine.execChunkObjectTimeout s
  | .responseObjectTimeout cmd => Sys2Proof.Machine.execResponseObjectTimeout cmd s
  | .sysStatus m => Sys2Proof.Machine.execSysStatus m s
  | .sysSetMode m => Sys2Proof.Machine.execSysSetMode m s
  | .quietTimeout => Sys2Proof.Machine.execQuietTimeout s
  | .sysSetTime m => Sys2Proof.Machine.execSysSetTime m s
  | .sysGetTime m => Sys2Proof.Machine.execSysGetTime m s
  | .sysReset m => Sys2Proof.Machine.execSysReset m s
  | .sysNvRead m => Sys2Proof.Machine.execSysNvRead m s
  | .sysNvWrite m => Sys2Proof.Machine.execSysNvWrite m s
  | .sysGpioGet m => Sys2Proof.Machine.execSysGpioGet m s
  | .sysGpioSet m => Sys2Proof.Machine.execSysGpioSet m s
  | .sysSetGpio m => Sys2Proof.Machine.execSysSetGpio m s
  | .idGet m => Sys2Proof.Machine.execIdGet m s
  | .cfgBegin m => Sys2Proof.Machine.execCfgBegin m s
  | .cfgRead m => Sys2Proof.Machine.execCfgRead m s
  | .cfgWrite m => Sys2Proof.Machine.execCfgWrite m s
  | .cfgCommit m => Sys2Proof.Machine.execCfgCommit m s
  | .cfgDiscard m => Sys2Proof.Machine.execCfgDiscard m s
  | .cfgLoad m => Sys2Proof.Machine.execCfgLoad m s
  | .cfgStatus m => Sys2Proof.Machine.execCfgStatus m s
  | .cfgExport m => Sys2Proof.Machine.execCfgExport m s
  | .sensRead m => Sys2Proof.Machine.execSensRead m s
  | .sensPres m => Sys2Proof.Machine.execSensPres m s
  | .sensHk m => Sys2Proof.Machine.execSensHk m s
  | .sensSetAin m => Sys2Proof.Machine.execSensSetAin m s
  | .sensSetMod m => Sys2Proof.Machine.execSensSetMod m s
  | .sensSetPres m => Sys2Proof.Machine.execSensSetPres m s
  | .sensSetHkLim m => Sys2Proof.Machine.execSensSetHkLim m s
  | .calRun m => Sys2Proof.Machine.execCalRun m s
  | .calAbort m => Sys2Proof.Machine.execCalAbort m s
  | .calDelete m => Sys2Proof.Machine.execCalDelete m s
  | .calReadCoef m => Sys2Proof.Machine.execCalReadCoef m s
  | .calWriteCoef m => Sys2Proof.Machine.execCalWriteCoef m s
  | .calStatus m => Sys2Proof.Machine.execCalStatus m s
  | .calSetCfg m => Sys2Proof.Machine.execCalSetCfg m s
  | .loopOpen m => Sys2Proof.Machine.execLoopOpen m s
  | .loopClose m => Sys2Proof.Machine.execLoopClose m s
  | .loopSetCfg m => Sys2Proof.Machine.execLoopSetCfg m s
  | .loopGet m => Sys2Proof.Machine.execLoopGet m s
  | .loopInput m => Sys2Proof.Machine.execLoopInput m s
  | .loopSetProf m => Sys2Proof.Machine.execLoopSetProf m s
  | .zoneStatus m => Sys2Proof.Machine.execZoneStatus m s
  | .zoneProvStatus m => Sys2Proof.Machine.execZoneProvStatus m s
  | .zoneSetCfg m => Sys2Proof.Machine.execZoneSetCfg m s
  | .zoneOff m => Sys2Proof.Machine.execZoneOff m s
  | .zoneManual m => Sys2Proof.Machine.execZoneManual m s
  | .zoneChangeover m => Sys2Proof.Machine.execZoneChangeover m s
  | .zoneSetSched m => Sys2Proof.Machine.execZoneSetSched m s
  | .zoneSetTime m => Sys2Proof.Machine.execZoneSetTime m s
  | .solStatus m => Sys2Proof.Machine.execSolStatus m s
  | .solReadBins m => Sys2Proof.Machine.execSolReadBins m s
  | .solWriteBins m => Sys2Proof.Machine.execSolWriteBins m s
  | .solDiscard m => Sys2Proof.Machine.execSolDiscard m s
  | .solReadProb m => Sys2Proof.Machine.execSolReadProb m s
  | .solSetCfg m => Sys2Proof.Machine.execSolSetCfg m s
  | .actStatus m => Sys2Proof.Machine.execActStatus m s
  | .actSetReq m => Sys2Proof.Machine.execActSetReq m s
  | .actClear m => Sys2Proof.Machine.execActClear m s
  | .actSetCfg m => Sys2Proof.Machine.execActSetCfg m s
  | .actSetDev m => Sys2Proof.Machine.execActSetDev m s
  | .fanStatus m => Sys2Proof.Machine.execFanStatus m s
  | .fanSetReq m => Sys2Proof.Machine.execFanSetReq m s
  | .fanClear m => Sys2Proof.Machine.execFanClear m s
  | .fanSetCfg m => Sys2Proof.Machine.execFanSetCfg m s
  | .fanSetDev m => Sys2Proof.Machine.execFanSetDev m s
  | .panelStatus m => Sys2Proof.Machine.execPanelStatus m s
  | .panelWrite m => Sys2Proof.Machine.execPanelWrite m s
  | .panelRead m => Sys2Proof.Machine.execPanelRead m s
  | .panelUpdate m => Sys2Proof.Machine.execPanelUpdate m s
  | .panelAbort m => Sys2Proof.Machine.execPanelAbort m s
  | .panelBlinkStop m => Sys2Proof.Machine.execPanelBlinkStop m s
  | .panelClearFault m => Sys2Proof.Machine.execPanelClearFault m s
  | .panelSetCfg m => Sys2Proof.Machine.execPanelSetCfg m s
  | .keyRead m => Sys2Proof.Machine.execKeyRead m s
  | .keyStatus m => Sys2Proof.Machine.execKeyStatus m s
  | .keySetCfg m => Sys2Proof.Machine.execKeySetCfg m s
  | .busStatus m => Sys2Proof.Machine.execBusStatus m s
  | .busCounters m => Sys2Proof.Machine.execBusCounters m s
  | .busSetCfg m => Sys2Proof.Machine.execBusSetCfg m s
  | .acreStatus m => Sys2Proof.Machine.execAcreStatus m s
  | .acreSetCfg m => Sys2Proof.Machine.execAcreSetCfg m s
  | .acreMembers m => Sys2Proof.Machine.execAcreMembers m s
  | .logRead m => Sys2Proof.Machine.execLogRead m s
  | .logStatus m => Sys2Proof.Machine.execLogStatus m s
  | .logSummary m => Sys2Proof.Machine.execLogSummary m s
  | .logWrite m => Sys2Proof.Machine.execLogWrite m s
  | .logSetSnap m => Sys2Proof.Machine.execLogSetSnap m s
  | .healthStatus m => Sys2Proof.Machine.execHealthStatus m s
  | .healthLastFault m => Sys2Proof.Machine.execHealthLastFault m s
  | .healthMem m => Sys2Proof.Machine.execHealthMem m s
  | .updWriteImage m => Sys2Proof.Machine.execUpdWriteImage m s
  | .updStatus m => Sys2Proof.Machine.execUpdStatus m s
  | .updActivate m => Sys2Proof.Machine.execUpdActivate m s
  | .secStatus m => Sys2Proof.Machine.execSecStatus m s
  | .secAttest m => Sys2Proof.Machine.execSecAttest m s
  | .secAttestGet m => Sys2Proof.Machine.execSecAttestGet m s
  | .secProvision m => Sys2Proof.Machine.execSecProvision m s
  | .secLockDebug m => Sys2Proof.Machine.execSecLockDebug m s
  | .testRun m => Sys2Proof.Machine.execTestRun m s
  | .testResult m => Sys2Proof.Machine.execTestResult m s
  | .selfTestComplete pass sig => Sys2Proof.Machine.execSelfTestComplete pass sig s
  | .testPreconditionTimeout => Sys2Proof.Machine.execTestPreconditionTimeout s
  | .testRunEnd => Sys2Proof.Machine.execTestRunEnd s
  | .imageVerifyDone => Sys2Proof.Machine.execImageVerifyDone s
  | .attestDone => Sys2Proof.Machine.execAttestDone s
  | .trialConfirm => Sys2Proof.Machine.execTrialConfirm s
  | .busFrameReceive p k => Sys2Proof.Machine.execBusFrameReceive p k s
  | .readProperty o p => Sys2Proof.Machine.execReadProperty o p s
  | .readPropertyMultiple l => Sys2Proof.Machine.execReadPropertyMultiple l s
  | .writeProperty o p v => Sys2Proof.Machine.execWriteProperty o p v s
  | .writePropertyMultiple l => Sys2Proof.Machine.execWritePropertyMultiple l s
  | .subscribeCov client procId o confirmed lifetime => Sys2Proof.Machine.execSubscribeCov client procId o confirmed lifetime s
  | .acknowledgeAlarm o tr => Sys2Proof.Machine.execAcknowledgeAlarm o tr s
  | .getEventInformation => Sys2Proof.Machine.execGetEventInformation s
  | .readRange o range => Sys2Proof.Machine.execReadRange o range s
  | .atomicReadFile file start stream count => Sys2Proof.Machine.execAtomicReadFile file start stream count s
  | .atomicWriteFile file start stream data => Sys2Proof.Machine.execAtomicWriteFile file start stream data s
  | .deviceCommunicationControl n pass => Sys2Proof.Machine.execDeviceCommunicationControl n pass s
  | .reinitializeDevice n pass => Sys2Proof.Machine.execReinitializeDevice n pass s
  | .whoIs range => Sys2Proof.Machine.execWhoIs range s
  | .whoHas range o name => Sys2Proof.Machine.execWhoHas range o name s
  | .timeSynchronization y mo d h mi sec => Sys2Proof.Machine.execTimeSynchronization y mo d h mi sec s
  | .utcTimeSynchronization y mo d h mi sec => Sys2Proof.Machine.execUtcTimeSynchronization y mo d h mi sec s
  | .unrecognizedService => Sys2Proof.Machine.execUnrecognizedService s
  | .bdtFdtFunction => Sys2Proof.Machine.execBdtFdtFunction s
  | .fdRegistrationResult ok => Sys2Proof.Machine.execFdRegistrationResult ok s
  | .fdReregister => Sys2Proof.Machine.execFdReregister s
  | .mstpReplyPostponed => Sys2Proof.Machine.execMstpReplyPostponed s
  | .busRelease => Sys2Proof.Machine.execBusRelease s
  | .apduTimeout k => Sys2Proof.Machine.execApduTimeout k s
  | .covLifetimeExpiry k => Sys2Proof.Machine.execCovLifetimeExpiry k s
  | .trendLogSample n => Sys2Proof.Machine.execTrendLogSample n s
  | .bushelRingService => Sys2Proof.Machine.execBushelRingService s
  | .bushelFlushTimer => Sys2Proof.Machine.execBushelFlushTimer s
  | .bushelPoolRestore => Sys2Proof.Machine.execBushelPoolRestore s
  | .bushelScan => Sys2Proof.Machine.execBushelScan s
  | .summaryWriteTimer => Sys2Proof.Machine.execSummaryWriteTimer s
  | .histogramSample => Sys2Proof.Machine.execHistogramSample s
  | .nvCodewordWrite verifyOk bank1Lost => Sys2Proof.Machine.execNvCodewordWrite verifyOk bank1Lost s
  | .powerUp vbatHeld r => Sys2Proof.Machine.execPowerUp vbatHeld r s
  | .backupSwitchover torn => Sys2Proof.Machine.execBackupSwitchover torn s
  | .powerFailWarning => Sys2Proof.Machine.execPowerFailWarning s
  | .pfwRecover r => Sys2Proof.Machine.execPfwRecover r s
  | .railUndervoltage => Sys2Proof.Machine.execRailUndervoltage s
  | .nrst => Sys2Proof.Machine.execNrst s
  | .softReset r => Sys2Proof.Machine.execSoftReset r s
  | .controlPathRelease => Sys2Proof.Machine.execControlPathRelease s
  | .optTick => Sys2Proof.Machine.execOptTick s
  | .calendarSecond => Sys2Proof.Machine.execCalendarSecond s
  | .heartbeatTimeout => Sys2Proof.Machine.execHeartbeatTimeout s
  | .appCoreRestart => Sys2Proof.Machine.execAppCoreRestart s
  | .appRestartComplete => Sys2Proof.Machine.execAppRestartComplete s
  | .supervisionTimeout => Sys2Proof.Machine.execSupervisionTimeout s
  | .mgtWatchdogExpiry r => Sys2Proof.Machine.execMgtWatchdogExpiry r s
  | .memoryReadError mem unit fatal => Sys2Proof.Machine.execMemoryReadError mem unit fatal s
  | .scrubRead k => Sys2Proof.Machine.execScrubRead k s
  | .clockMonitorWindow count byXtal => Sys2Proof.Machine.execClockMonitorWindow count byXtal s
  | .referenceStop => Sys2Proof.Machine.execReferenceStop s
  | .pllUnlock => Sys2Proof.Machine.execPllUnlock s
  | .thermalEvaluation => Sys2Proof.Machine.execThermalEvaluation s
  | .thermalRestart r => Sys2Proof.Machine.execThermalRestart r s
  | .analogTrip => Sys2Proof.Machine.execAnalogTrip s
  | .gpioEdge g high => Sys2Proof.Machine.execGpioEdge g high s
  | .extest => Sys2Proof.Machine.execExtest s
  | .idcode => Sys2Proof.Machine.execIdcode s
  | .samplePreload => Sys2Proof.Machine.execSamplePreload s
  | .highz => Sys2Proof.Machine.execHighz s
  | .clamp => Sys2Proof.Machine.execClamp s
  | .debugAccess op => Sys2Proof.Machine.execDebugAccess op s
  | .bypass op => Sys2Proof.Machine.execBypass op s
  | .nrstRelease r => Sys2Proof.Machine.execNrstRelease r s
  | .railUvRecovery r => Sys2Proof.Machine.execRailUvRecovery r s
  | .calendarCrystalLoss => Sys2Proof.Machine.execCalendarCrystalLoss s
  | .linkUpChange p up sole => Sys2Proof.Machine.execLinkUpChange p up sole s
  | .railFallen ix => Sys2Proof.Machine.execRailFallen ix s
  | .busFrameTransmitDone p => Sys2Proof.Machine.execBusFrameTransmitDone p s

end Sys2Proof.Machine
end

