-- ==== Sys2Proof/Safety.lean ====
section
/-! DEFINITION. What counts as a sound state, in the terms the statements use. -/

namespace Sys2Proof.Machine

/-- R18, R21: both NVM banks are held in the one canonical form: addresses rising, nothing listed that equals what an unlisted byte reads as. -/
def State.nvWf (s : State) : Prop :=
  Memory.wf (nvDefault 0) s.nvm.bank0 = true ∧ Memory.wf (nvDefault 1) s.nvm.bank1 = true

/-- R458, R459: from a to b OTP bits have been set, and none cleared. -/
def Otp.within (a b : Otp) : Prop :=
  pvAdds a b = true ∧ (a.debugLock = true → b.debugLock = true) ∧ (a.provisioned = true → b.provisioned = true) ∧
  a.thermo ≤ b.thermo ∧ ∀ k, a.revoked.getD k false = true → b.revoked.getD k false = true

/-- R473, R475: an OTP operation that waits asks for no set bit to be cleared. -/
def State.provWf (s : State) : Prop :=
  ∀ n, s.mgt.prov = some n → pvAdds s.mgt.otp n = true ∧ (s.mgt.otp.debugLock = true → n.debugLock = true) ∧
    (s.mgt.otp.provisioned = true → n.provisioned = true)

/-- Apart from events raised and records written, t is s. -/
def Noted (s t : State) : Prop := ∃ e b, t = { s with evt := e, bushel := b }

/-- R336: the summary bit of a source is set. -/
def State.raised (s : State) (src : Nat) : Prop := s.evt.summary.getLsbD src = true

/-- R327, R333: the application core executes the command `code` with message `m` next: nothing waits for NVM, no operation that a restart left behind bars it, and the mailbox order holds no other command. -/
def State.executes (s : State) (code : Nat) (m : Msg) : Prop :=
  s.appUp = true ∧ s.mbox.waiting = none ∧ s.nvBars code = false ∧
  (s.mbox.accepted = [] ∨ ∃ a, s.mbox.accepted = [a] ∧ a.cmd = code ∧ a.msg = m ∧ a.err = none)

/-- R328, R340: a message without `CHUNK` whose payload has n bytes. -/
def Msg.plain (m : Msg) (n : Nat) : Prop := m.chunk = false ∧ m.payload.length = n

/-- R327: the command is answered at once with a status and a payload, and but for the mailboxes and the events the state is then s'. -/
def Answers (i : Instr) (s : State) (code : Nat) (m : Msg) (st : Nat) (payload : List Byte) (s' : State) : Prop :=
  ∃ t : State, exec i s = .next t ∧
    t.mbox.lastResp = some { cmd := code, tag := m.tag, status := st, payload := payload } ∧
    t.mbox.waiting = none ∧ t.mbox.accepted = [] ∧ t = { s' with mbox := t.mbox, evt := t.evt }

/-- R330, R332: the command answers with an object: whole if it fits one payload, else by its first chunk, and the object is held. -/
def AnswersObject (i : Instr) (s : State) (code : Nat) (m : Msg) (data : List Byte) : Prop :=
  (data.length ≤ 4080 → Answers i s code m stOk data s) ∧
  (4080 < data.length → ∃ t : State, exec i s = .next t ∧
    t.mbox.lastResp = some { cmd := code, tag := m.tag, status := stOk, chunk := true, payload := chunkOf data 0 } ∧
    t.mbox.respObj = [{ cmd := code, data := data, mc := s.chain.mc }] ∧
    t.mbox.waiting = none ∧ t.mbox.accepted = [] ∧ t = { s with mbox := t.mbox, evt := t.evt })

/-- R349, R354: the command's commit fails with a status and a locator: both are answered, `CFG.STATUS` keeps them, source 121 is raised, and of the configuration nothing changes beyond s'. -/
def CommitFails (i : Instr) (s : State) (code : Nat) (m : Msg) (st : Nat) (l : Locator) (s' : State) : Prop :=
  ∃ t : State, exec i s = .next t ∧
    t.mbox.lastResp = some { cmd := code, tag := m.tag, status := st, payload := leW s.cfg.slotSeq ++ l.bytes } ∧
    t.mbox.waiting = none ∧ t.mbox.accepted = [] ∧ t.raised 121 ∧
    Noted { s' with cfg := { s'.cfg with lastStatus := st, loc := l }, mbox := t.mbox } t

/-- R349, R351: a command's commit of an image passes its checks, so that the write of the other slot is queued, and the command waits for it. -/
def CommitBegins (i : Instr) (s : State) (code : Nat) (m : Msg) (img0 : Image) (p : PendingCommit) : Prop :=
  commitFail s (withOutHold s img0) = none → imgFind (s.lockBad (withOutHold s img0)) = none →
  s.thermalBars = false → s.bushel.closed = false →
  ∃ t : State, exec i s = .next t ∧ (∃ b, t.mbox.waiting = some { cmd := code, tag := m.tag, boxes := b }) ∧
    (let q : PendingCommit := { p with img := withOutHold s img0,
                                       slotImg := if p.origin1 then img0 else withOutHold s img0,
                                       slot := 1 - s.cfg.activeSlot, seq := s.cfg.slotSeq + 1 }
     t.cfg.pendingCommit = some q ∧
     t.nvm = { s.nvm with queue := upd s.nvm.queue 2 (fun l => l ++ [{ job := .commit, cws := commitCws s q }]) }) ∧
    t = { s with cfg := { s.cfg with pendingCommit := t.cfg.pendingCommit }, nvm := t.nvm, mbox := t.mbox }

/-- R340, R351: a `SET_` command of one instance, numbered from base: the words that follow its 4-byte head are committed. -/
def SetsInst (c : Msg → Instr) (code : Nat) (sec : Sec) (base : Nat) : Prop :=
  ∀ (s : State) (m : Msg), s.executes code m → m.plain (4 + 4 * sec.words) → padOk m 1 3 = true → s.cfg.edit = none →
    s.mgt.otp.signedCfg = false →
    ∀ n, getB m.payload 0 = base + n → n < sec.instances →
      CommitBegins (c m) s code m (s.cfg.committed.setWords sec (n * sec.words) (getWords m.payload 4 sec.words))
        { version := s.cfg.version, named := [(sec.id, n)] }

/-- R345, R351: a `SET_` command of every instance of a section. -/
def SetsAll (c : Msg → Instr) (code : Nat) (sec : Sec) : Prop :=
  ∀ (s : State) (m : Msg), s.executes code m → m.plain (4 * (sec.instances * sec.words)) → s.cfg.edit = none →
    s.mgt.otp.signedCfg = false →
    CommitBegins (c m) s code m (s.cfg.committed.setWords sec 0 (getWords m.payload 0 (sec.instances * sec.words)))
      { version := s.cfg.version, named := (List.range sec.instances).map (fun i => (sec.id, i)) }

/-- R340, R351: a `SET_` command of k words of a section of one instance, from word w on. -/
def SetsSpan (c : Msg → Instr) (code : Nat) (sec : Sec) (w k : Nat) : Prop :=
  ∀ (s : State) (m : Msg), s.executes code m → m.plain (4 * k) → s.cfg.edit = none → s.mgt.otp.signedCfg = false →
    CommitBegins (c m) s code m (s.cfg.committed.setWords sec w (getWords m.payload 0 k))
      { version := s.cfg.version, named := [(sec.id, 0)] }

/-- R431, R433-R437: t is s after a start-up with a cause: the straps as found, the main domain's blocks reset, the stored state kept; start-up waits for the scan, has stopped, or runs the application core. -/
def StartsUp (c : Cause) (r : Release) (s t : State) : Prop :=
  t.sup.cause = some c ∧ t.sup.pfwTh = t.mgt.otp.pfwTh ∧
  t.host = { hsel := r.hsel, a1 := r.hsel && r.a1, a0 := r.hsel && r.a0 } ∧
  (t.sup.phase = .scanning ∨ t.sup.phase = .stopped ∨ t.sup.phase = .starting) ∧
  t.mbox.ready = (t.sup.phase == .starting) ∧ t.mgt.appRunning = (t.sup.phase == .starting) ∧
  t.act = { ({} : Act) with ch := t.act.ch } ∧
  (∀ n, n < 32 → t.ach n = { ({} : ActCh) with retryLeft := if t.sup.phase == .starting then t.af n 0 4 2 else 0 }) ∧
  t.fans = {} ∧ t.sens = {} ∧ t.keys = {} ∧ t.jtag = s.jtag ∧ t.pending = s.pending ∧
  t.nvm.bank1 = s.nvm.bank1 ∧
  (∀ a, a < nvMgtBase + 0x800 ∨ nvMgtBase + 0xA00 ≤ a → nvRead t.nvm 0 a 1 = nvRead s.nvm 0 a 1) ∧
  (∀ c, c ∈ t.nvm.bad → c ∈ s.nvm.bad) ∧
  (∀ c, c ∈ s.nvm.bad → c.1 ≠ 0 ∨ 32 * c.2 < nvMgtBase + 0x800 ∨ nvMgtBase + 0xA00 ≤ 32 * c.2 → c ∈ t.nvm.bad) ∧
  t.mgt.otp = otpCut s ∧ (nth s.nvm.queue 5 = [] → t.mgt.otp = s.mgt.otp) ∧ t.mgt.flash = s.mgt.flash ∧
  (s.backup.marker = true → t.sup.phase ≠ .scanning ∧ t.sup.vbatLost = false ∧ t.backup.marker = true ∧
    t.backup.calendar = s.backup.calendar ∧ t.backup.calValid = s.backup.calValid ∧ t.backup.opt = s.backup.opt ∧
    t.backup.pcc = if c = .por then s.backup.pcc + 1 else s.backup.pcc) ∧
  (s.backup.marker = false → t.sup.vbatLost = true ∧ t.backup.marker = true ∧ t.backup.calValid = false ∧ t.raised 91)

/-- R431, R434, R438: t is s with the main domain in reset or without supply: every block of the main domain at its reset state, and the stored state kept. -/
def InReset (p : Phase) (s t : State) : Prop :=
  t.sup.phase = p ∧ t.backup = s.backup ∧ t.act = {} ∧ t.fans = {} ∧ t.panel = {} ∧ t.rood = {} ∧ t.sens = {} ∧ t.stone = {} ∧
  t.keys = {} ∧ t.mbox = {} ∧ t.evt = {} ∧ t.bushel = {} ∧ t.bus = {} ∧ t.acre = {} ∧ t.chain = {} ∧ t.clk = {} ∧
  t.therm = (if p = .backup then {} else { lastGov := s.therm.lastGov }) ∧
  t.test = {} ∧ t.jtag = s.jtag ∧ t.pending = s.pending ∧
  t.nvm = { bank0 := s.nvm.bank0, bank1 := s.nvm.bank1, bad := s.nvm.bad } ∧
  t.mgt.otp = otpCut s ∧ (nth s.nvm.queue 5 = [] → t.mgt.otp = s.mgt.otp) ∧ t.mgt.mr = s.mgt.mr ∧ t.mgt.flash = s.mgt.flash

/-- R351, R372: the BACnet port takes a confirmed request at once: nothing waits for NVM, no request waits before it, and a transmit buffer is reserved for the answer to its frame, or the frame comes with it and finds one free. -/
def State.portTakes (s : State) : Bool :=
  let p := s.port s.bacPort
  s.appUp && s.mbox.waiting.isNone && s.bus.held.isEmpty && decide (s.bacPort < s.bus.ports.length) &&
  (decide (0 < p.taken) || (p.taken == 0 && p.rx == 0 && decide (p.tx < txLimit s.bacPort)))

/-- R372, R390: the buffers of the BACnet port once a request has been taken: its answer uses the transmit buffer that was reserved for it. -/
def State.served (s : State) : State :=
  updPort s.bacPort (fun x =>
    if 0 < x.taken then { x with taken := x.taken - 1 }
    else { x with rxFrames := incSat 32 x.rxFrames, tx := x.tx + 1 }) s

/-- R369, R385, R496: a confirmed request is heard and taken at once, and nothing that a restart has left behind holds the NV entry it needs. -/
def State.takes (s : State) (r : BusRequest) : Prop :=
  s.busHears r = true ∧ s.portTakes = true ∧
  (match r.entry with | some e => nth s.nvm.orphans e == 0 | none => true) = true

/-- R381: the device answers a bus request, and but for the answer the state is then s'. -/
def Replies (i : Instr) (s : State) (r : BReply) (s' : State) : Prop :=
  exec i s = .next { s' with bus := { s'.bus with lastReply := some r } }

/-- R348, R349, R351: a bus request's commit of an image passes its checks, so that the write of the other slot is queued, and the request waits for it, its transmit buffer in use. -/
def BusCommitBegins (i : Instr) (s : State) (j : BusJob) (img0 : Image) (p : PendingCommit) : Prop :=
  commitFail s (withOutHold s img0) = none → imgFind (s.lockBad (withOutHold s img0)) = none →
  s.thermalBars = false → s.bushel.closed = false → s.mgt.otp.signedCfg = false → s.cfg.edit = none →
  ∃ t : State, exec i s = .next t ∧ t.mbox = { s.mbox with waiting := t.mbox.waiting } ∧ t.mbox.waiting.isSome = true ∧
    t.bus = { s.served.bus with waiting := some j } ∧
    (let q : PendingCommit := { p with img := withOutHold s img0, slotImg := withOutHold s img0,
                                       slot := 1 - s.cfg.activeSlot, seq := s.cfg.slotSeq + 1 }
     t.cfg = { s.cfg with pendingCommit := some q } ∧
     t.nvm = { s.nvm with queue := upd s.nvm.queue 2 (fun l => l ++ [{ job := .commit, cws := commitCws s q }]) }) ∧
    t = { s with cfg := t.cfg, nvm := t.nvm, mbox := t.mbox, bus := t.bus }

end Sys2Proof.Machine
end

