-- ==== Sys2Proof/Certificates/Slice0/Obligations.lean ====
section
/-! DEFINITION. The statements for the provers: first the machine as a whole, then the manual's chapters in order. -/

open Sys2Proof Sys2Proof.Machine

/-! ## The machine as a whole -/

/-- A step runs the command at the front of the queue on the state with the queue's rest; on an empty queue the block idles, which is the model's choice (notes/assumptions/1.md). -/
def Obligations.StepRunsFront : Prop :=
  ∀ s : State, (∀ c rest, s.pending = c :: rest → step s = exec c { s with pending := rest }) ∧
    (s.pending = [] → step s = .next s)

/-- R4, R213, R321, R336, R434, R465, R468, R473, R537: what the spec says reset leaves. That the queue of commands is empty, and that the memories stand in the one canonical form of this model, are the model's choices (notes/assumptions/7.md, 8.md). -/
def Obligations.ResetLeaves : Prop :=
  let s := State.reset
  s.pending = [] ∧ s.released = false ∧ s.sup.mode = .startup ∧
  (∀ n, n < 32 → (s.ach n).ph = .off) ∧ s.panel.rails = .off ∧
  s.evt.mask = 0 ∧ s.evt.summary = 0 ∧ s.evt.lost = 0 ∧ s.evt.queue = [] ∧
  (∀ i, i < 4 → nth s.mbox.inSt i = .free ∧ nth s.mbox.outSt i = .free) ∧ s.mbox.ready = false ∧ s.host.err.byte = 0 ∧
  (∀ z, z < 32 → (s.zone z).spec = .idle) ∧
  (∀ g, g < 16 → s.cf .gpio g 0 7 6 = 0) ∧
  s.mgt.mr.floorFw = s.mgt.mr.verA ∧ s.mgt.mr.verA.toNat < 2 ^ 24 ∧ s.mgt.mr.verB = 0 ∧ s.mgt.mr.floorWf = 0 ∧
  s.mgt.mr.floorCfg = 0 ∧ s.mgt.mr.attCount = 0 ∧ s.mgt.mr.trialBoots = 0 ∧ s.mgt.mr.stateA = .good ∧
  s.mgt.mr.stateB = .empty ∧ s.mgt.mr.active = 0 ∧
  s.mgt.otp.thermo = 0 ∧ s.mgt.otp.provisioned = false ∧ s.mgt.otp.debugLock = false ∧
  s.nvWf ∧ s.provWf

/-- No command of the table is turned away: exec answers a next state in every state, with the queue as it was. That a row which is not due, or whose condition does not hold, is answered so and without effect is the model's choice (notes/assumptions/6.md, 19.md). -/
def Obligations.EveryCommandCompletes : Prop :=
  ∀ (c : Instr) (s : State), ∃ t : State, exec c s = .next t ∧ t.pending = s.pending

/-- R18, R21: every step keeps both NVM banks in their one canonical form, which is the model's own way to hold them (notes/assumptions/8.md): the rules give the banks, not the form. -/
def Obligations.StepsKeepNvmCanonical : Prop :=
  ∀ s t : State, s.nvWf → step s = .next t → t.nvWf

/-- R458, R459: no step clears an OTP bit, in any state in which the OTP operation that waits clears none; and every step keeps that so. -/
def Obligations.StepsClearNoOtpBit : Prop :=
  ∀ s t : State, s.provWf → step s = .next t → s.mgt.otp.within t.mgt.otp ∧ t.provWf

/-- R465: the epoch of a version and its comparison, and that an image whose epoch exceeds 64 fails step 1. -/
def Obligations.VersionsAndEpochs : Prop :=
  ∀ (s : State) (v : Word),
    v.toNat = epochOf v * 2 ^ 24 + v.toNat % 2 ^ 24 ∧
    (floorOk s 1 v = true ↔ s.mgt.otp.thermo ≤ epochOf v ∧ s.mgt.mr.floorFw.toNat ≤ v.toNat) ∧
    (floorOk s 2 v = true ↔ s.mgt.mr.floorWf.toNat ≤ v.toNat) ∧ (floorOk s 3 v = true ↔ s.mgt.mr.floorCfg.toNat ≤ v.toNat) ∧
    (∀ kinds limit c, 64 < epochOf (contVersion c) → contStep s kinds limit c = some 1) ∧
    (s.alive = true → s.mgt.upd.state = 2 → s.mgt.upd.kind = 1 → s.mgt.att.running = false → nvBusy s.nvm 7 = false →
      s.bankBad s.mgt.upd.bank = false → (s.mgt.upd.bank = 0 → s.mgt.delivered = false) →
      64 < epochOf (contVersion (nth s.mgt.flash s.mgt.upd.bank)) →
      ∃ t, exec .imageVerifyDone s = .next t ∧ t.mgt.upd.lastStatus = 0x0104 ∧ t.mgt.upd.state = 4 ∧ t.mgt.mr = s.mgt.mr)

/-- R76: a commit of an analog input that breaks the rule is rejected: by the commit itself, whatever command it serves, and so by `CFG.COMMIT`, which changes no configuration. -/
def Obligations.InputCommitsRejected : Prop :=
  ∀ (s : State) (img : Image) (i : Nat), i < 96 →
    let t := img.fld .ain i 0 27 24
    let exc := img.fld .ain i 0 11 2
    6 ≤ t ∨ (t = 2 ∧ img.fld .ain i 0 23 21 ≠ 0) ∨ (exc = 0 ∧ (t = 3 ∨ t = 4 ∨ t = 5)) ∨ (exc ≠ 0 ∧ t = 2) ∨
      (1 ≤ exc ∧ exc ≤ 9) ∨ (t = 4 ∧ (img.word .ain i 1).toInt ≤ 0) →
    (∀ busy closed p, ∃ l, commitStart img busy closed p s = (commitFailed 0x0104 l s, s.locReply 0x0104 l)) ∧
    (∀ m e, s.executes 0x0204 m → m.plain 0 → s.cfg.edit = some e → e.img = img →
      ∃ (u : State) (l : Locator), exec (.cfgCommit m) s = .next u ∧
        u.mbox.lastResp = some { cmd := 0x0204, tag := m.tag, status := 0x0104, payload := leW s.cfg.slotSeq ++ l.bytes } ∧
        u.cfg = { s.cfg with lastStatus := 0x0104, loc := l } ∧ u.raised 121 ∧
        Noted { s with cfg := u.cfg, mbox := u.mbox } u)

/-! ## Chain (R38-R50) -/

/-- R41, R43, R44, R45, R47, R50, R530, R532: In START, the first crossing, or the time-out, begins MC 0 in ACQUIRE at the nominal frequency (R42); the crossing is the observed one of R38. Local MC and PT keep their values. That MC 0 begins at the moment the comparator reports the crossing is the model's choice (notes/assumptions/77.md). A crossing in ACQUIRE, LOCKED and HOLDOVER: the period it measures, the count of consistent cycles, the lock at the 20th, and the phase correction, which changes the length of the next MC and never steps MC or PT (R48). That a position is the floor of the offset on the scale of the MC in progress, and that SLEWING records its clearing here, are the model's choices (notes/assumptions/77.md). A window that closes empty counts as missing; the third in a row enters HOLDOVER at the mean of the last 16 periods (R46). That SLEWING clears there is the model's choice (notes/assumptions/77.md). -/
def Obligations.ChainCrossings : Prop :=
  (∀ s : State, s.alive = true → s.chain.st = .start → s.synthetic = false →
    (∀ (t : Nat) (pos : Bool), pos ≠ s.cb .chain 0 0 10 →
      ∃ u, exec (.zxCrossing t pos) s = .next u ∧
        Noted { s with chain := { s.chain with
          st := .acquire, mcStart := t, now := t, pEst := s.nominalLen, curLen := s.nominalLen, nextLen := none,
          lastCross := some ((t : Int) - 24 - 6 * s.cf .chain 0 0 9 2) } } u) ∧
    (∃ u, exec .startTimeout s = .next u ∧
      Noted { s with chain := { s.chain with
        st := .acquire, mcStart := s.chain.now + 2400000, now := s.chain.now + 2400000, pEst := s.nominalLen,
        curLen := s.nominalLen, nextLen := none } } u)) ∧
  (∀ (s : State) (time : Nat) (pos : Bool), s.alive = true → pos ≠ s.cb .chain 0 0 10 →
    let obs : Int := (time : Int) - 24 - 6 * s.cf .chain 0 0 9 2
    let e := sext 12 (wrap 12 ((s.chain.mc.toNat : Int) * 4096 + ((obs - s.chain.mcStart) * 4096).fdiv s.chain.curLen))
    let corr := clampI e (-8) 8
    let corrected (pEst : Nat) (c : Chain) : Chain := { c with
      pEst := pEst, phaseErr := e, nextLen := some ((pEst : Int) + (corr * pEst).tdiv 4096).toNat, expect := e - corr,
      slewing := decide (8 < e.natAbs), winMissed := none }
    let near (p : Nat) : Prop := ∀ q, s.chain.lastPeriod = some q → 200 * ((p : Int) - q).natAbs ≤ q
    (s.chain.st = .acquire ∨ s.chain.st = .holdover →
      (s.chain.lastCross = none → exec (.zxCrossing time pos) s =
        .next { s with chain := { s.chain with lastCross := some obs, missed := 0 } }) ∧
      (∀ a, s.chain.lastCross = some a →
        ((obs - a) * 65 < 18000000 → exec (.zxCrossing time pos) s = .next s) ∧
        (18000000 ≤ (obs - a) * 65 →
          let n := (max 1 (rne (obs - a) s.lenL)).toNat
          let p := (obs - a).toNat / n
          let m : Chain := { s.chain with
            lastCross := some obs, lastPeriod := some p, periods := (p :: s.chain.periods).take 20, missed := 0 }
          let ok := n = 1 ∧ 24000000 ≤ 65 * p ∧ 45 * p ≤ 24000000 ∧ near p
          (¬ ok → exec (.zxCrossing time pos) s = .next { s with chain := { m with consec := 0 } }) ∧
          (ok → s.chain.consec < 19 →
            exec (.zxCrossing time pos) s = .next { s with chain := { m with consec := s.chain.consec + 1 } }) ∧
          (ok → 19 ≤ s.chain.consec → ∃ u, exec (.zxCrossing time pos) s = .next u ∧ u.raised 101 ∧
            Noted { s with chain := { corrected (m.periods.sum / m.periods.length) m with
              st := .locked, consec := s.chain.consec + 1,
              winUsed := u.chain.winUsed, winAccepted := u.chain.winAccepted } } u)))) ∧
    (s.chain.st = .locked →
      let w := s.windowOf obs
      (s.chain.winUsed = some w.1 ∨ w.2 < -512 ∨ 511 < w.2 → exec (.zxCrossing time pos) s = .next s) ∧
      (∀ a, s.chain.lastCross = some a → s.chain.winUsed ≠ some w.1 → -512 ≤ w.2 → w.2 ≤ 511 →
        let p := (obs - a).toNat / (1 + s.chain.missed)
        (65 * p < 24000000 ∨ 24000000 < 45 * p →
          exec (.zxCrossing time pos) s = .next { s with chain := { s.chain with winUsed := some w.1 } }) ∧
        (24000000 ≤ 65 * p → 45 * p ≤ 24000000 →
          ∃ u, exec (.zxCrossing time pos) s = .next u ∧ u.chain.mc = s.chain.mc ∧ u.chain.pt = s.chain.pt ∧
            Noted { s with chain := { corrected ((s.chain.pEst : Int) + ((p : Int) - s.chain.pEst).tdiv 16).toNat s.chain with
              lastCross := some obs, lastPeriod := some p, periods := (p :: s.chain.periods).take 20, missed := 0,
              consec := u.chain.consec, winUsed := u.chain.winUsed, winAccepted := u.chain.winAccepted } } u)))) ∧
  (∀ s : State, s.alive = true → s.chain.st = .locked →
    let x := (s.chain.mc.toNat : Int) * 4096 + s.chain.pt.toNat - s.chain.expect - 512
    let k := wInt (x / 4096)
    x % 4096 = 0 → s.chain.winAccepted ≠ some k → s.chain.winMissed ≠ some k →
    (s.chain.missed < 2 →
      exec .missingCrossing s =
        .next { s with chain := { s.chain with missed := s.chain.missed + 1, winMissed := some k } }) ∧
    (2 ≤ s.chain.missed →
      ∃ u, exec .missingCrossing s = .next u ∧
        Noted { s with chain := { s.chain with
          missed := s.chain.missed + 1, winMissed := some k, st := .holdover, consec := 0, slewing := false,
          pEst := meanOf (s.chain.periods.take 16), x24Base := s.chain.x24 } } u))

/-- R48, R49, R53, R68, R98: PT takes every value of an MC once, in order, and MC increments by 1 as PT wraps; within an MC a tick changes PT, the clock and the place in the order of the PT alone, but that results whose windows ended two PT ago are published (outside the boost converter's burst mode and the interval of a Shutdown), and that building PT 0 of an MC whose AMC is a multiple of the interval releases a master's beacon, which the model holds as a beacon due (notes/assumptions/78.md). -/
def Obligations.PhaseTicks : Prop :=
  ∀ s : State, s.alive = true → s.chain.st ≠ .start → s.sup.shutAt = none → s.throttled = false → s.act.burst = false →
    (s.chain.pt ≠ 4095 →
      let t : State := { s with chain := { s.chain with
        pt := s.chain.pt + 1, stage := 0, now := s.chain.mcStart + (s.chain.pt.toNat + 1) * s.chain.curLen / 4096 } }
      let due := if s.released = true ∧ s.clk.pllLocked = true ∧ s.acre.st = .master ∧ t.bpt = 0 ∧
        t.amc.toNat % t.beaconInterval = 0 then some t.amc else s.acre.beaconDue
      ∃ u, exec .ptTick s = .next u ∧ u.chain = t.chain ∧ u.acre = { s.acre with beaconDue := due } ∧
        ((∀ m, m < 21 → ∀ d, d ∈ (nth s.sens.mods m).pend → t.ptSince d.res.mcEnd d.res.ptEnd < 2) →
          u = { t with acre := u.acre }) ∧
        (s.clk.pllLocked = true → ∀ m, m < 21 → m < s.sens.mods.length →
          (∃ d, d ∈ (nth s.sens.mods m).pend ∧ 2 ≤ t.ptSince d.res.mcEnd d.res.ptEnd) → (nth u.sens.mods m).pend = [])) ∧
    (s.chain.pt = 4095 →
      ∃ u, exec .ptTick s = .next u ∧ u.chain.pt = 0 ∧ u.chain.stage = 0 ∧ u.chain.mc = s.chain.mc + 1 ∧
        u.chain.mcStart = s.chain.mcStart + s.chain.curLen ∧ u.chain.x24 = s.coefs.x24 ∧
        u.chain.curLen = s.chain.nextLen.getD { s with chain := { s.chain with x24 := s.coefs.x24 } }.lenL ∧
        ((∀ m, m < 21 → ∀ d, d ∈ (nth s.sens.mods m).pend → u.ptSince d.res.mcEnd d.res.ptEnd < 2) →
          Noted { s with chain := u.chain, acre := u.acre, cfg.inForce := u.cfg.inForce } u))

/-! ## Acre (R67-R72, R392-R395) -/

/-- R67, R394: the timers of the election, and a master's forgetting of members. That a device that becomes MASTER keeps its CLASS_RESOLVED is the model's choice (notes/assumptions/77.md). -/
def Obligations.AcreElection : Prop :=
  ∀ s : State, s.released = true → s.clk.pllLocked = true →
    (s.acre.st = .member → 3 * s.beaconInterval ≤ s.mcSince s.acre.sinceMc →
      ∃ u, exec .acreMasterLoss s = .next u ∧
        Noted { s with acre := { s.acre with st := .seeking, master := none, masterHoldover := false,
                                             sinceMc := s.chain.mc } } u) ∧
    (s.acre.st = .seeking → 3 * s.beaconInterval ≤ s.mcSince s.acre.sinceMc →
      ∃ u, exec .acreSeekingTimeout s = .next u ∧
        Noted { s with acre := { s.acre with st := .candidate, sinceMc := s.chain.mc } } u) ∧
    (s.acre.st = .candidate → 2 * s.acreId ≤ s.mcSince s.acre.sinceMc →
      ∃ u, exec .acreCandidateWaitEnd s = .next u ∧
        Noted { s with acre := { s.acre with
          st := .master, members := [], pend := some (0, (s.acre.pend.getD (s.acre.cls, s.acre.offset)).2) } } u) ∧
    (s.acre.st = .master → ∀ id : Nat,
      exec (.acreMemberForget id) s = .next { s with acre := { s.acre with
        members := s.acre.members.filter (fun j =>
          !(j.id == id && decide (32 * s.beaconInterval ≤ s.mcSince j.lastMc))) } })

/-- R60, R62, R63, R67, R68, R72, R392-R395: What a valid message does: a lower master is followed, the device's own ID makes it a DUPLICATE, a master answers a JOIN with a SLOT, a member takes the SLOT of its master; and a master sends its beacon once in an MC whose AMC is a multiple of the interval; every message is stamped with the MC and PT of its frame (R62). A beacon from the master that a member follows: the residual of the window of 8 beacons resolves class and offset from the third on, a first result waits for the next MC boundary at once and a differing one for its 8th beacon in a row, and a JOIN goes out when one is due; a beacon of the other nominal frequency is ignored but for NOMINAL_MISMATCH. That a beacon without a result ends a run of differing ones is the model's choice (notes/assumptions/78.md). The beacon carries AMC and BPT of its sending, once for each release at building PT 0; that it then goes out as late as the wire takes it, within that building MC, is the model's choice (notes/assumptions/78.md). -/
def Obligations.AcreMessagesAndBeacons : Prop :=
  (∀ (s : State) (addr : Nat) (b : List Byte), s.released = true → s.clk.pllLocked = true → s.acre.st ≠ .disabled → s.acre.st ≠ .duplicate →
    addr ≠ s.acreAddr →
    (acreValid 1 b = true → getH b 6 ≠ s.acreId → (getB b 0x10).testBit 0 = s.nominal60 → getH b 6 < s.acreId →
      s.acre.st = .seeking ∨ s.acre.st = .candidate ∨ s.acre.st = .master →
      ∃ u, exec (.beacon addr b) s = .next u ∧ u.acre.st = .member ∧ u.acre.master = some (getH b 6) ∧
        u.acre.masterAddr = addr ∧ u.acre.masterHoldover = (getB b 0x10).testBit 1 ∧ u.acre.sinceMc = s.chain.mc ∧
        u.chain = s.chain ∧ Noted { s with acre := u.acre, bus := u.bus } u) ∧
    (acreValid 2 b = true → getH b 6 = s.acreId →
      ∃ u, exec (.join addr b) s = .next u ∧ u.acre.st = .duplicate ∧ u.acre.offset = s.acre.offset ∧
        u.acre.cls = s.acre.cls ∧ u.acre.slot = s.acre.slot ∧ Noted { s with acre := u.acre, bus := u.bus } u) ∧
    (acreValid 2 b = true → s.acre.st = .master → getH b 6 ≠ s.acreId → getH b 0x14 = s.acreId →
      ∃ u, exec (.join addr b) s = .next u ∧
        (let others := s.acre.members.filter (fun j => j.id != getH b 6)
         let slot := if getB b 0x13 < 64 then getB b 0x13 else assignSlot others (getB b 0x10)
         let body := le16 (getH b 6) ++ le8 slot ++ zeros 5
         u.acre.members = others ++ [{ id := getH b 6, cls := getB b 0x10, slot := slot, channels := getB b 0x12,
                                       lastMc := s.chain.mc }] ∧
         u.acre.sent = some { src := s.acreAddr, dst := addr, srcPort := s.acreUdp, dstPort := s.acreUdp, checksum := 0,
                              bytes := acreMsg 3 s.acreId s.acre.seq.toNat body body,
                              stampMc := s.chain.mc, stampPt := s.chain.pt.toNat }) ∧
        u = { s with acre := u.acre, bus := u.bus }) ∧
    (acreValid 3 b = true → s.acre.st = .member → s.acre.master = some (getH b 6) → getH b 0x10 = s.acreId →
      getB b 0x12 < 64 →
      ∃ u, exec (.slot addr b) s = .next u ∧ u.acre.slotPend = some (getB b 0x12) ∧ u.acre.slot = s.acre.slot ∧
        u = { s with acre := { s.acre with slotPend := some (getB b 0x12), gotSlot := true,
                                           sinceJoin := 0, rxMc := s.chain.mc,
                                           rxPt := s.chain.pt.toNat },
                     bus := u.bus })) ∧
  (∀ (s : State) (addr : Nat) (b : List Byte), s.released = true → s.clk.pllLocked = true → addr ≠ s.acreAddr →
    acreValid 1 b = true → getH b 6 ≠ s.acreId →
    ((getB b 0x10).testBit 0 ≠ s.nominal60 → s.acre.st ≠ .disabled →
      ∃ u, exec (.beacon addr b) s = .next u ∧
        Noted { s with bus := u.bus, acre := { s.acre with
          rxMc := s.chain.mc, rxPt := s.chain.pt.toNat, nominalMismatch := true } } u) ∧
    (s.acre.st = .member → s.acre.master = some (getH b 6) → (getB b 0x10).testBit 0 = s.nominal60 →
      let d := sext 44 (wrap 44 ((s.chain.mc.toNat : Int) * 4096 + s.chain.pt.toNat -
        ((getW b 0x14 : Int) * 4096 + getH b 0x18)))
      let win := (d :: s.acre.window).take 8
      let dMin := win.foldl min d
      let q := (3 * dMin).fdiv 4096
      let e3 := 3 * dMin - q * 4096
      let c := ((-q) % 3).toNat
      let r := (c, wInt ((-q - c) / 3))
      let same := s.acre.pend.getD (s.acre.cls, s.acre.offset) = r
      let run := if s.acre.cand = some r then s.acre.candCnt + 1 else 1
      let due := if s.acre.joined = true then s.acre.gotSlot = false ∨ 7 ≤ s.acre.sinceJoin
        else s.acre.resolved = true ∨ s.unsynced = true
      ∃ u, exec (.beacon addr b) s = .next u ∧ Noted { s with acre := u.acre, bus := u.bus } u ∧
        u.acre.st = .member ∧ u.acre.master = s.acre.master ∧ u.acre.masterAddr = addr ∧ u.acre.sinceMc = s.chain.mc ∧
        u.acre.masterHoldover = (getB b 0x10).testBit 1 ∧ u.acre.window = win ∧
        u.acre.cls = s.acre.cls ∧ u.acre.offset = s.acre.offset ∧
        (win.length < 3 → u.acre.resolved = s.acre.resolved ∧ u.acre.pend = s.acre.pend) ∧
        (3 ≤ win.length → 2048 < e3 → u.acre.resolved = false ∧ u.acre.pend = s.acre.pend ∧ u.acre.candCnt = 0) ∧
        (3 ≤ win.length → e3 ≤ 2048 → s.unsynced = false →
          u.acre.resolved = true ∧ u.acre.fresh = false ∧
          (s.acre.fresh = true → u.acre.pend = some r) ∧
          (s.acre.fresh = false → same → u.acre.pend = s.acre.pend ∧ u.acre.candCnt = 0) ∧
          (s.acre.fresh = false → ¬ same → run < 8 →
            u.acre.pend = s.acre.pend ∧ u.acre.cand = some r ∧ u.acre.candCnt = run) ∧
          (s.acre.fresh = false → ¬ same → 8 ≤ run → u.acre.pend = some r)) ∧
        (s.unsynced = true → 3 ≤ win.length → u.acre.resolved = false) ∧
        (due → u.acre.sinceJoin = 0 ∧
          (let body := le8 (if s.unsynced = true then 0 else s.acre.cls) ++ le8 (if s.unsynced = true then 1 else 0) ++
            le8 s.pullInChannels ++ le8 (if s.acre.slotAssigned = true then s.acre.slot else 0xFF) ++ le16 (getH b 6) ++ zeros 2
           u.acre.sent = some { src := s.acreAddr, dst := addr, srcPort := s.acreUdp, dstPort := s.acreUdp, checksum := 0,
                                bytes := acreMsg 2 s.acreId s.acre.seq.toNat body body,
                                stampMc := s.chain.mc, stampPt := s.chain.pt.toNat })) ∧
        (¬ due → u.acre.sent = s.acre.sent))) ∧
  (∀ s : State, s.released = true → s.clk.pllLocked = true → s.acre.st = .master → s.acre.beaconDue = some s.amc →
    ∃ u, exec .acreBeaconSend s = .next u ∧ u.acre.seq = s.acre.seq + 1 ∧
      (∃ d, u.acre.sent = some d ∧ getW d.bytes 0 = 0x5A334143 ∧ getB d.bytes 5 = 1 ∧ getH d.bytes 6 = s.acreId % 65536 ∧
        getW d.bytes 0x14 = s.amc.toNat ∧ getH d.bytes 0x18 = s.bpt % 65536 ∧
        d.dst = s.acreBroadcast ∧ d.dstPort = s.acreUdp ∧ d.checksum = 0 ∧
        d.stampMc = s.chain.mc ∧ d.stampPt = s.chain.pt.toNat) ∧
      u = { s with acre := { s.acre with seq := u.acre.seq, sent := u.acre.sent, beaconDue := none }, bus := u.bus })

/-! ## Sensing (R73-R115) -/

/-- R82-R87, R85-R88, R90, R93, R97, R98, R105-R107, R107-R109, R114, R115, R119, R533: A round latches the configuration and the coefficients, visits the inputs in use in rising order and leaves the others without data; a round of a single input keeps the windows before it unless its setting has changed; round and window start at the first point allowed. That the first single-input round after rounds of others counts as a first one is the model's choice (notes/assumptions/77.md). A window ends at its length with the samples that fit it, or with its 150,000th sample; its end frees the modulator and keeps its samples. Once the filter is full, a window delivers the result of the k newest, which waits for publication; the visit goes on until its results have come. A window of a Stone visit gives a raw code from the third on. A delivery of a presence input in use is its detector's next sample. That a flagged sample starts the count of `PRES_QUAL` again is the model's choice (notes/assumptions/77.md). -/
def Obligations.SensingRounds : Prop :=
  (∀ (s : State) (m : Nat), s.released = true → s.clk.pllLocked = true → s.chain.stage ≤ 2 → m < s.sens.mods.length →
    let md := nth s.sens.mods m
    let t := applyModLive m s
    let ins := t.roundInputs m
    let one : Option Nat := if ins.length = 1 then some (ins.headD 0) else none
    let kept : Prop := one.isSome = true ∧ md.single = one ∧
      ainSetting (s.cw .ain (8 * m + ins.headD 0) 0) = ainSetting (t.cw .ain (8 * m + ins.headD 0) 0)
    (m < 20 → md.inRound = false → md.conv = false → md.stone.cur = none → md.stone.todo = [] → t.modEn m = true →
      ins ≠ [] → s.startsNow (t.visitParams m (ins.headD 0)).1 md = true →
      ∃ u, exec (.roundStart m) s = .next u ∧ (nth u.sens.mods m).inRound = true ∧
        (nth u.sens.mods m).left = ins ∧ (nth u.sens.mods m).done = 0 ∧ (nth u.sens.mods m).single = one ∧
        (m < 12 → kept → (nth u.sens.mods m).kept = true ∧ (nth u.sens.mods m).wins = md.wins) ∧
        (12 ≤ m ∨ ¬ kept → (nth u.sens.mods m).kept = false ∧ (nth u.sens.mods m).wins = []) ∧
        (nth u.sens.mods m).coef = t.roundCoef m ∧
        u.cfg.inForce = t.cfg.inForce ∧ (∀ j, j ≠ m → nth u.sens.mods j = nth s.sens.mods j) ∧
        (∀ k, k < (if m < 12 then 8 else 4) → (if m < 12 then k ∉ ins else t.presUse (4 * (m - 12) + k) = false) →
          inputIndex m k < s.sens.results.length →
          (nth u.sens.results (inputIndex m k)).value = 0x80000001 ∧ ∀ d, d ∈ (nth u.sens.mods m).pend → d.pos ≠ k) ∧
        (m < 12 → u.sens.pres = s.sens.pres) ∧
        (12 ≤ m → ∀ k, k < 4 → 4 * (m - 12) + k < s.sens.pres.length →
          let d := 4 * (m - 12) + k
          nth u.sens.pres d = if t.presUse d = (nth s.sens.pres d).inUse then nth s.sens.pres d else { inUse := t.presUse d }) ∧
        u = { s with sens := { s.sens with mods := u.sens.mods, results := u.sens.results, pres := u.sens.pres },
                     cfg.inForce := u.cfg.inForce, chain.stage := 2 }) ∧
    (m = 20 → md.inRound = false → md.conv = false → md.stone.cur = none → md.stone.todo = [] → s.startsNow 2 md = true →
      exec (.roundStart m) s = .next (atStage 2 (updMod m (fun x =>
        { x with inRound := true, left := List.range 16, done := 0, kept := false, single := none, ranged := [],
                 wins := [], coef := t.roundCoef m })
        { s with cfg.inForce := s.cfg.inForce.setWords .hkLim 0 (s.cfg.committed.sec .hkLim) }))) ∧
    (md.conv = false → md.inRound = true ∨ md.stone.cur.isSome = true →
      s.startsNow (s.visitParams m (md.left.headD 0)).1 md = true →
      exec (.windowStart m) s = .next (atStage 2 (updMod m (fun x =>
        { x with conv := true, winLen := (s.visitParams m (md.left.headD 0)).1, winMc := s.chain.mc,
                 winPt := s.chain.pt.toNat, winAt := s.chain.now,
                 exc := if m < 12 && md.stone.cur.isNone && s.ainExc (8 * m + md.left.headD 0) ≠ 0
                        then some (md.left.headD 0) else none }) s)))) ∧
  (∀ (s : State) (m : Nat) (w : Win), s.clk.pllLocked = true → m < s.sens.mods.length → m < 21 →
    let md := nth s.sens.mods m
    let k := md.left.headD 0
    let prm := s.visitParams m k
    let st := if md.winLen = 5 then s.chain.stage else 2
    let late := if md.winLen = 5 ∧ s.chain.now ≠ md.winAt + 2400000 then 1 else 0
    let ws := (w :: md.wins).take 4
    let total := if md.kept then prm.2.2 else prm.2.1 + prm.2.2 - 1
    let full : Prop := prm.2.1 ≤ ws.length ∧ (md.kept = true ∨ prm.2.1 ≤ md.done + 1)
    let d := 4 * (m - 12) + k
    let p := nth s.sens.pres d
    let pres : Prop := 12 ≤ m ∧ m < 20
    md.conv = true →
    (md.winLen = 5 → s.chain.now ≤ md.winAt + 2400000 ∧ s.reached (md.winAt + 2400000) = true ∧ w.x.length = 150000) →
    (md.winLen ≠ 5 → s.chain.stage ≤ 2 ∧ s.ptSince md.winMc md.winPt = 1024 * 2 ^ md.winLen ∧
      samplesFit md.winAt s.chain.now w.x.length = true) →
    (md.stone.cur.isSome = true →
      exec (.windowEnd m w) s = .next (updMod m (fun x =>
        { x with conv := false, freeMc := s.chain.mc, freePt := s.chain.pt.toNat + late, done := x.done + 1, wins := ws,
                 stone := { x.stone with codes :=
                   if 3 ≤ md.done + 1 ∧ md.stone.codes.length < 8
                   then md.stone.codes ++ [(filterCode (fun _ => false) (ws.take 3)).1] else md.stone.codes } })
        { s with chain.stage := st })) ∧
    (md.stone.cur = none → ∃ u, exec (.windowEnd m w) s = .next u ∧
      (nth u.sens.mods m).conv = false ∧ (nth u.sens.mods m).freeMc = s.chain.mc ∧
      (nth u.sens.mods m).freePt = s.chain.pt.toNat + late ∧
      (¬ full ∨ pres ∧ s.presUse d = false → (nth u.sens.mods m).pend = md.pend ∧ u.sens.pres = s.sens.pres ∧
        u.cfg = s.cfg ∧ u.evt = s.evt ∧ u.bushel = s.bushel) ∧
      (full → ¬ pres ∨ s.presUse d = true →
        let r := deliver s m k (ws.take prm.2.1)
        (nth u.sens.mods m).pend =
          md.pend ++ [{ pos := k, res := r, first := (r.ovr || r.unr) && !md.ranged.contains k }] ∧
        (¬ pres → u.sens.pres = s.sens.pres ∧ u.cfg = s.cfg ∧ u.evt = s.evt ∧ u.bushel = s.bushel) ∧
        (pres → d < s.sens.pres.length → p.inUse = true →
          let q := nth u.sens.pres d
          let v : Rat := 1000 * codeVolts r.code (s.cf .mod m 0 7 5)
          (r.ovr = true ∨ r.unr = true → q.bad = p.bad + 1 ∧ q.qual = 0 ∧ q.rms = p.rms ∧ q.e = p.e ∧
            q.st = (if p.st = .fault ∨ p.bad + 1 < 32 then p.st else .fault) ∧
            (p.st ≠ .fault → 32 ≤ p.bad + 1 → u.raised (76 + d / 4))) ∧
          (r.ovr = false → r.unr = false → q.bad = 0 ∧
            (p.st ≠ .fault ∨ p.good + 1 < 32 → q.rms = (presFilter u d v p).rms) ∧
            (p.st = .fault → q.st = if p.good + 1 < 32 then .fault else .vacant) ∧
            (p.warmMc.isSome = true → p.warming = false → p.st = .vacant →
              let n := if (u.cw .pres d 1).toInt ≤ q.rms then p.qual + 1 else 0
              q.st = if u.cf .pres d 0 19 16 ≤ n then .occupied else .vacant)))) ∧
      (md.done + 1 < total → (nth u.sens.mods m).done = md.done + 1 ∧ (nth u.sens.mods m).left = md.left ∧
        (nth u.sens.mods m).wins = ws ∧ (nth u.sens.mods m).inRound = md.inRound ∧ u.sens.hkDone = s.sens.hkDone) ∧
      (total ≤ md.done + 1 → (nth u.sens.mods m).done = 0 ∧ (nth u.sens.mods m).left = md.left.drop 1 ∧
        (nth u.sens.mods m).inRound = !(md.left.drop 1).isEmpty ∧
        (nth u.sens.mods m).wins = (if md.left.drop 1 = [] ∧ md.single.isSome = true then ws else []) ∧
        u.sens.hkDone = (s.sens.hkDone || (m == 20 && (md.left.drop 1).isEmpty))) ∧
      (∀ j, j ≠ m → nth u.sens.mods j = nth s.sens.mods j) ∧
      Noted { s with sens := { s.sens with mods := u.sens.mods, hkDone := u.sens.hkDone, pres := u.sens.pres },
                     cfg.inForce := u.cfg.inForce, chain.stage := st } u))

/-- R73, R93, R98, R99, R109, R114, R115, R116: A detector's warm-up ends after its time, and its hold timer returns it to VACANT. A result of any modulator is published whole with the next SEQ, and the value published before is kept beside it; the first flagged one of a round since a valid one raises the modulator's source. A housekeeping slot also keeps its raw code, against which the model measures a die sensor's offset (notes/assumptions/99.md). At the end of a housekeeping round each slot's value is held against its limits; two rounds out of them set the alarm, and two within clear it. -/
def Obligations.PresenceResultsAndAlarms : Prop :=
  (∀ (s : State) (d : Nat), s.clk.pllLocked = true →
    (∀ a, (nth s.sens.pres d).warmMc = some a → s.units15 (s.cf .pres d 0 2 0) ≤ s.mcSince a →
      exec (.presenceWarmupEnd d) s =
        .next { s with sens.pres := s.sens.pres.modify d (fun p => { p with warming := false }) }) ∧
    ((nth s.sens.pres d).st = .hold → s.units15 (nth s.sens.pres d).holdSet ≤ s.mcSince (nth s.sens.pres d).holdMc →
      exec (.presenceHoldExpiry d) s =
        .next { s with sens.pres := s.sens.pres.modify d (fun p => { p with st := .vacant, qual := 0 }) })) ∧
  (∀ (s : State) (m k : Nat) (r : Result) (first : Bool), s.clk.pllLocked = true → m < 21 → m < s.sens.mods.length →
    let n := inputIndex m k
    n < s.sens.flagged.length → (nth s.sens.mods m).pend = [{ pos := k, res := r, first := first }] →
    (m < 12 → s.pf 3 14 8 ≠ n) →
    ∃ u, exec (.resultPublish m) s = .next u ∧
      (m < 20 → n < s.sens.results.length → nth u.sens.results n =
        { r with seq := ((nth s.sens.results n).seq + 1) % 16, old := (nth s.sens.results n).value,
                 oldMc := (nth s.sens.results n).mcEnd }) ∧
      (∀ j, m = 20 ∨ j ≠ n → nth u.sens.results j = nth s.sens.results j) ∧
      (m = 20 → k < s.sens.hk.length →
        let h := nth s.sens.hk k
        nth u.sens.hk k = { h with value := r.value, raw := r.raw, mcEnd := r.mcEnd, ptEnd := r.ptEnd, old := h.value,
                                   oldMc := h.mcEnd, ovr := r.ovr, unr := r.unr }) ∧
      (∀ j, m ≠ 20 ∨ j ≠ k → nth u.sens.hk j = nth s.sens.hk j) ∧
      u.sens.hkFresh = (s.sens.hkFresh || (m == 20 && k == 8)) ∧ (nth u.sens.mods m).pend = [] ∧
      (first = false ∨ (r.ovr = false ∧ r.unr = false) → u.evt = s.evt ∧ u.bushel = s.bushel) ∧
      (first = true → r.ovr = true ∨ r.unr = true → s.sens.flagged.getD n false = false →
        u.raised (64 + m)) ∧
      Noted { s with sens := { s.sens with mods := u.sens.mods, results := u.sens.results, flagged := u.sens.flagged,
                                           hk := u.sens.hk, hkFresh := u.sens.hkFresh },
                     bus.aiLast := u.bus.aiLast } u) ∧
  (∀ s : State, s.released = true → s.clk.pllLocked = true → s.sens.hkDone = true →
    ∃ u, exec .hkRoundEnd s = .next u ∧ u.sens.hkDone = false ∧
      (∀ k, 1 ≤ k → k ≤ 12 → k < s.sens.hk.length → validQ (nth s.sens.hk k).value = true →
        let h := nth s.sens.hk k
        let out := decide (h.value.toInt < s.hkLow k) || decide (s.hkHigh k < h.value.toInt)
        nth u.sens.hk k = { h with
          outCnt := if out then min 2 (h.outCnt + 1) else 0,
          inCnt := if out then 0 else min 2 (h.inCnt + 1),
          alarm := if out then h.alarm || decide (1 ≤ h.outCnt) else h.alarm && decide (h.inCnt = 0) }) ∧
      Noted { s with sens := { s.sens with hk := u.sens.hk, dieTemp := u.sens.dieTemp, hkDone := false },
                     stone := u.stone, sup := u.sup, act.bypass := u.act.bypass, bus.alarms := u.bus.alarms } u)

/-! ## Stone (R116-R145) -/

/-- R116, R119, R120, R121, R122, R123, R124, R127: The steps of a run, one at a time; E0 waits for the channels; a visit of any calibration input takes Stone to Quiet, and ends with the mean of its results. That a die sensor is measured against its housekeeping reading last published is the model's choice (notes/assumptions/99.md). A channel's reading is kept while it is off and calm, else it is skipped; the reference pulses are counted over 16 intervals or given up after 2 s; the pass ends, and after the second the run. -/
def Obligations.CalibrationSteps : Prop :=
  (∀ (s : State) (r : CalRun), s.released = true → s.clk.pllLocked = true → s.stone.run = some r →
    s.sens.mods.length = 21 →
    (r.done = false → s.stepEnded = true → r.step < 22 → r.step ≠ 10 ∨ r.actsDone = true →
      ∃ u, exec .calStepRelease s = .next u ∧
        u.stone.run = some { r with step := r.step + 1, active := true, e0Mc := none } ∧
        (r.step = 0 → (nth u.sens.mods 20).stone.todo = [.short 0, .divider 0, .bandgap]) ∧
        (r.step = 1 → (nth u.sens.mods 20).stone.todo = [.dvbe 0, .dvbe 1, .dvbe 2, .dvbe 3, .dvbe 4]) ∧
        (2 ≤ r.step → r.step < 10 → ∀ m, m < 20 → s.modEn m = true → m < 12 ∨ r.step ≤ 6 →
          (nth u.sens.mods m).stone.todo = [.short (r.step - 2), .divider (r.step - 2)]) ∧
        (10 ≤ r.step → s.modEn (r.step - 10) = true →
          (nth u.sens.mods (r.step - 10)).stone.todo = [.calHi, .calLo]) ∧
        u = { s with sens := { s.sens with mods := u.sens.mods }, stone := { s.stone with run := u.stone.run } }) ∧
    (r.done = false → s.stepEnded = true → r.step = 10 → r.actsDone = false → r.e0Mc = none →
      exec .calStepRelease s =
        .next { s with stone.run := some { r with e0Mc := some s.chain.mc, active := false } }) ∧
    (∀ (m : Nat) (i : CalInput) (rest : List CalInput), m < 21 → s.modEn m = true →
      (nth s.sens.mods m).stone.todo = i :: rest → (nth s.sens.mods m).inRound = false →
      (nth s.sens.mods m).conv = false → (nth s.sens.mods m).stone.cur = none →
      ∃ u, exec (.calVisitStart m) s = .next u ∧ (nth u.sens.mods m).stone.cur = some i ∧
        (nth u.sens.mods m).stone.todo = rest ∧ (nth u.sens.mods m).stone.codes = [] ∧
        (∀ j, j ≠ m → nth u.sens.mods j = nth s.sens.mods j) ∧
        (s.sup.mode = .run → u.sup.mode = .quiet ∧ u.sup.quietByStone = true ∧ u.sup.quietMc = s.chain.mc) ∧
        (s.sup.mode ≠ .run → u.sup = s.sup) ∧
        u = { s with sens := { s.sens with mods := u.sens.mods }, sup := u.sup }) ∧
    (∀ (m : Nat) (i : CalInput), m < 21 → (nth s.sens.mods m).stone.cur = some i →
      8 ≤ (nth s.sens.mods m).stone.codes.length →
      let codes := (nth s.sens.mods m).stone.codes
      let clipped := codes.any (fun c => c == 8388607 || c == -8388608)
      let vals : List (CalKey × Rat) := (.visit m i, meanCode codes) ::
        match i with
        | .dvbe k => [(.die k, ((nth s.sens.hk (2 * k)).raw : Rat))]
        | .calHi | .calLo => if clipped then [(.flag m, 1)] else []
        | _ => []
      ∃ u, exec (.calVisitEnd m) s = .next u ∧ (nth u.sens.mods m).stone.cur = none ∧
        (nth u.sens.mods m).stone.owed = (nth s.sens.mods m).stone.todo.isEmpty ∧
        (∀ j, j ≠ m → nth u.sens.mods j = nth s.sens.mods j) ∧
        (r.pass = 1 → u.stone.run = some { r with vals1 := r.vals1 ++ vals }) ∧
        (r.pass ≠ 1 → u.stone.run = some { r with vals2 := r.vals2 ++ vals }) ∧
        u = { s with sens := { s.sens with mods := u.sens.mods }, sup := u.sup, stone := { s.stone with run := u.stone.run } })) ∧
  (∀ (s : State) (r : CalRun), s.clk.pllLocked = true → s.stone.run = some r →
    let vals := if r.pass = 1 then r.vals1 else r.vals2
    (∀ (n : Nat) (q : Rat), n < 32 → r.done = false → r.pass = 1 → 1 ≤ r.step → r.step ≤ 10 →
      r.skip.contains n = false → vals.any (fun v => v.1 == .act n) = false → (s.ach n).ph = .off →
      s.pullPending n = false → 2 ≤ s.mcSince (s.ach n).offMc → 2 ≤ s.mcSince (s.ach n).pullMc →
      exec (.actSenseMeasure n q) s = .next { s with stone.run := some { r with vals1 := r.vals1 ++ [(.act n, q)] } }) ∧
    (∀ (n : Nat) (a : Word), n < 32 → r.e0Mc = some a → 256 ≤ s.mcSince a → r.skip.contains n = false →
      vals.any (fun v => v.1 == .act n) = false →
      exec (.actSenseSkip n) s = .next { s with stone.run := some { r with skip := r.skip ++ [n] } }) ∧
    (∀ a b : Nat, r.done = false → r.keepXtal = false → r.pulses = 0 →
      exec (.xtalRefPulse a b) s = .next { s with stone.run := some { r with pulses := 1, cnt24 := 0, cnt32 := 0 } }) ∧
    (∀ a b : Nat, r.done = false → r.keepXtal = false → r.pulses = 16 → r.pass = 1 →
      exec (.xtalRefPulse a b) s = .next { s with
        stone.run := some { r with pulses := 17, cnt24 := r.cnt24 + a, cnt32 := r.cnt32 + b, vals1 :=
          r.vals1 ++ [(.x24, ((r.cnt24 + a : Nat) : Rat)), (.x32, ((r.cnt32 + b : Nat) : Rat))] } }) ∧
    (∀ a b : Nat, r.done = false → r.keepXtal = false → 1 ≤ r.pulses → r.pulses < 16 →
      exec (.xtalRefPulse a b) s = .next { s with
        stone.run := some { r with pulses := r.pulses + 1, cnt24 := r.cnt24 + a, cnt32 := r.cnt32 + b } }) ∧
    (r.done = false → r.keepXtal = false → r.pulses = 0 → s.secMc 2 ≤ s.mcSince r.passMc →
      exec .xtalRefTimeout s = .next { s with stone.run := some { r with keepXtal := true } }) ∧
    (r.done = false → r.step = 22 → s.stepEnded = true → r.xtalDone = true →
      (r.pass ≠ 1 → exec .calPassEnd s = .next { s with stone.run := some { r with done := true } }) ∧
      (r.pass = 1 → ∃ u, exec .calPassEnd s = .next u ∧
        (∃ r', u.stone.run = some r' ∧ r'.pass = 2 ∧ r'.step = 0 ∧ r'.vals1 = r.vals1 ∧ r'.vals2 = r.vals2 ∧
          r'.passMc = s.chain.mc ∧ r'.pulses = 0 ∧ r'.done = false) ∧
        u = { s with cfg := { s.cfg with inForce := u.cfg.inForce }, stone := { s.stone with run := u.stone.run } })) ∧
    (s.sup.mode = .quiet → 256 ≤ s.mcSince s.sup.quietMc →
      exec .quietTimeout s = .next { s with sup := { s.sup with
        mode := .run, quietByStone := false, quietByHost := false } }))

/-- R126-R132, R140, R142: a complete run is rejected at the lowest item that disagrees or is implausible, and else accepted: into the host set in host mode, else into an NV store for the other slot. That `FAIL_ITEM` names the lowest of several items is the model's choice (notes/assumptions/77.md). -/
def Obligations.CalibrationRunEnds : Prop :=
  ∀ (s : State) (r : CalRun), s.clk.pllLocked = true → s.stone.run = some r → r.done = true → s.stone.commit = none →
    (disagreement r ≠ 0 →
      ∃ u, exec .calRunComplete s = .next u ∧ u.stone = { s.stone with
          run := none, lastResult := 2, lastStatus := 0x0301, failItem := disagreement r } ∧ u.raised 104 ∧
        Noted { s with stone := u.stone, sens := { s.sens with mods := u.sens.mods }, sup := u.sup } u) ∧
    (disagreement r = 0 → (runResult s r).2 ≠ 0 →
      ∃ u, exec .calRunComplete s = .next u ∧ u.stone = { s.stone with
          run := none, lastResult := 3, lastStatus := 0x0302, failItem := (runResult s r).2 } ∧ u.raised 104 ∧
        Noted { s with stone := u.stone, sens := { s.sens with mods := u.sens.mods }, sup := u.sup } u) ∧
    (disagreement r = 0 → (runResult s r).2 = 0 → s.calHost = true →
      ∃ u, exec .calRunComplete s = .next u ∧ u.stone = { s.stone with
          run := none, lastResult := 1, lastStatus := 0, failItem := 0, lastSet := r.set,
          hostSet := some (runResult s r).1 } ∧ u.raised 104 ∧
        Noted { s with stone := u.stone, sens := { s.sens with mods := u.sens.mods }, sup := u.sup } u) ∧
    (disagreement r = 0 → (runResult s r).2 = 0 → s.calHost = false →
      ∃ u, exec .calRunComplete s = .next u ∧
        u.stone = { s.stone with commit := some (s.stone.sets.set r.set (runResult s r).1), commitSet := some r.set } ∧
        u.nvm.bank0 = s.nvm.bank0 ∧ u.nvm.bank1 = s.nvm.bank1 ∧
        (3 < s.nvm.queue.length → ∃ op, op.job = .stone ∧ nth u.nvm.queue 3 = nth s.nvm.queue 3 ++ [op]) ∧
        u = { s with stone := u.stone, nvm := { s.nvm with queue := u.nvm.queue } })

/-- R130, R132, R140, R142, R144, R342, R359: the calibration commands; one that ends with ST_NV_FAIL raises source 105. -/
def Obligations.CalibrationCommands : Prop :=
  ∀ (s : State) (m : Msg),
    (s.executes 0x1101 m → m.plain 4 → getB m.payload 0 < 8 → padOk m 1 3 = true → s.stone.run = none →
      s.test.running = false → s.stone.commit = none → s.throttled = false → s.bushel.closed = false ∨ s.calHost = true →
      ∃ r c, r.set = getB m.payload 0 ∧ r.pass = 1 ∧ r.step = 0 ∧ r.passMc = s.chain.mc ∧ r.done = false ∧
        Answers (.calRun m) s 0x1101 m 0x0001 [] { s with stone.run := some r, cfg.inForce := c }) ∧
    (s.executes 0x1101 m → m.plain 4 → getB m.payload 0 < 8 → padOk m 1 3 = true → s.stone.run ≠ none →
      Answers (.calRun m) s 0x1101 m 0x0203 [] s) ∧
    (s.executes 0x1101 m → m.plain 4 → getB m.payload 0 < 8 → padOk m 1 3 = true → s.stone.run = none →
      s.test.running = false → s.stone.commit = none → s.throttled = false → s.bushel.closed = true → s.calHost = false →
      ∃ t, exec (.calRun m) s = .next t ∧ t.raised 105 ∧
        t.mbox.lastResp = some { cmd := 0x1101, tag := m.tag, status := 0x0401, payload := [] } ∧
        Noted { s with mbox := t.mbox } t) ∧
    (s.executes 0x1103 m → m.plain 4 → getB m.payload 0 < 8 → padOk m 1 3 = true → s.calHost = false →
      s.stone.run = none → s.thermalBars = false → s.bushel.closed = true →
      ∃ t, exec (.calDelete m) s = .next t ∧ t.raised 105 ∧
        t.mbox.lastResp = some { cmd := 0x1103, tag := m.tag, status := 0x0401, payload := [] } ∧
        Noted { s with mbox := t.mbox } t) ∧
    (s.executes 0x1102 m → m.plain 0 → s.stone.run = none → s.stone.commitSet = none →
      Answers (.calAbort m) s 0x1102 m 0 [] s) ∧
    (∀ r, s.executes 0x1102 m → m.plain 0 → s.stone.run = some r → s.stone.commitSet = none →
      ∃ t, exec (.calAbort m) s = .next t ∧
        t.mbox.lastResp = some { cmd := 0x1102, tag := m.tag, status := 0, payload := [] } ∧
        t.stone = { s.stone with run := none, lastResult := 5, lastStatus := 0, failItem := 0 } ∧ t.raised 104 ∧
        Noted { s with stone := t.stone, sens := { s.sens with mods := t.sens.mods }, sup := t.sup, mbox := t.mbox } t) ∧
    (s.executes 0x1103 m → m.plain 4 → getB m.payload 0 < 8 → padOk m 1 3 = true → s.calHost = false →
      s.stone.run = none → s.thermalBars = false → s.bushel.closed = false →
      ∃ t op, exec (.calDelete m) s = .next t ∧ op.job = .stone ∧
        (∃ b, t.mbox.waiting = some { cmd := 0x1103, tag := m.tag, boxes := b }) ∧
        t.nvm = { s.nvm with queue := upd s.nvm.queue 3 (fun l => l ++ [op]) } ∧
        t.stone = { s.stone with commit := some (s.stone.sets.set (getB m.payload 0) {}), commitSet := none } ∧
        t = { s with stone := t.stone, nvm := t.nvm, mbox := t.mbox }) ∧
    (s.executes 0x1104 m → m.plain 0 → Answers (.calReadCoef m) s 0x1104 m 0 s.coefRecord.bytes s) ∧
    (s.executes 0x1105 m → m.plain 768 → calRecordOk m.payload = true → s.calHost = true →
      s.stone.run = none → coefPlausible (CalSet.ofBytes m.payload) = true →
      Answers (.calWriteCoef m) s 0x1105 m 0 [] { s with stone.hostSet := some (CalSet.ofBytes m.payload) }) ∧
    (s.executes 0x1106 m → m.plain 0 →
      Answers (.calStatus m) s 0x1106 m 0 (leW s.calStatus ++ le16 s.stone.lastStatus ++ zeros 2) s)

/-! ## Rood and Solstice (R146-R180, R201-R210) -/

/-- R34, R54, R149, R150, R151, R160-R163, R165-R166, R168, R171-R172, R175, R177-R178, R204: An evaluation takes the live fields, and at a first sample `OUT_SAFE` and the close of `AUTO_CLOSE`, latches and computes, and nothing of it shows before its commit. That the first sample takes the `OUT_SAFE` then in force, unless `OUT_HOLD` has been written since the start, is the model's choice (notes/assumptions/41.md). With an invalid measurement a CLOSED loop holds its output; with a valid one the output law gives it, from the stages rounded at their exponents. What an evaluation stores in the stages, with the integral and the bleed of a CLOSED loop that no override freezes; the bumpless close; the open; and the FAULT of a context word that cannot be read. That INT is stored at every sample that integrates, and rebuilt by a close also under an override, are the model's choices (notes/assumptions/99.md). At its PT, first in the order of that PT, the results of an evaluation take effect together and the slots the loop names count the sample; a late evaluation is discarded and counted; one that FAULT ends raises the source of the zone. That the open it had taken waits again is the model's choice (notes/assumptions/41.md). -/
def Obligations.LoopEvaluatesAndCommits : Prop :=
  (∀ (s : State) (l : Nat), s.evalDue l = true → s.clk.pllLocked = true →
    (s.loop l).dyn.st = .opened ∨ (s.loop l).dyn.st = .closed →
    (s.loop l).poison = false → (s.loop l).openReq = none → (s.loop l).eval = none →
    let s0 := loopLive l s
    let s1 := updLoop l (fun c => { c with startHold := false, startClose := false,
                                           closePend := c.closePend || (c.startClose && s0.cb .loop (l - 1) 0 4) })
      (if (s.loop l).startHold = true then setOutHold l (s0.lf l 3 31 16) s0 else s0)
    let d := (s.loop l).dyn
    ∃ (u : State) (x : LoopEval) (e : LoopDyn), exec (.loopEvaluation l) s = .next u ∧
      u = updLoop l (fun c => { c with eval := some x }) s1 ∧
      x.dyn = e ∧ x.slot = s1.lf l 0 31 20 ∧ x.opened = none ∧ x.hold = none ∧ x.closeOver = false ∧
      e.sampleMc = s1.sampleMc l ∧ e.tag = (d.tag + 1) % 16 ∧
      (d.st = .opened → s1.loopStaged l = false → s1.validMeas l (s1.sampleMc l) = none →
        e.out = s1.outHold l ∧ e.st = .opened ∧ e.holding = true ∧ e.outClosed = false) ∧
      (d.st = .opened → s1.loopStaged l = false → (s1.loop l).closePend = false → s1.validMeas l (s1.sampleMc l) ≠ none →
        e.out = satU 16 (s1.outHold l) ∧ e.st = .opened ∧ e.holding = false ∧ e.outClosed = false) ∧
      (d.st = .closed → x.source = none ∧ e.outClosed = true) ∧
      (d.st = .closed → s1.validMeas l (s1.sampleMc l) = none →
        e.out = d.out ∧ e.holding = true ∧ e.invalidRun = min 255 (d.invalidRun + 1) ∧ e.st = .closed ∧
        e.meas = d.meas ∧ e.sp = d.sp ∧ e.err = d.err ∧ e.int = d.int ∧ e.ff = d.ff ∧ e.demV = d.demV ∧
        e.demW = d.demW ∧ e.exps = d.exps ∧ e.hr = d.hr) ∧
      (∀ v, d.st = .closed → s1.validMeas l (s1.sampleMc l) = some v →
        let p := s1.lawIn l
        let x (i : Nat) (q : Rat) : Rat := (qAt (nth d.exps i) q : Rat) * pow2 (nth d.exps i)
        let xm := x 0 (q16 v)
        let xr := x 1 (q16 (s.loop l).spIn)
        let xe := x 2 (if p.direct then xm - xr else xr - xm)
        let xf := x 4 (q16 (s.loop l).ffIn)
        let xi := (d.int : Rat) * pow2 (nth d.exps 3)
        let dem := p.kp * xe + xi + p.kff * xf + p.ksp * xr
        let xv := x 5 dem
        let xw := x 5 (clampQ xv p.lo p.hi)
        e.out = satU 16 (rneQ (lawOut p xe xv xw ((d.out : Rat) / 65536) * 65536)) ∧
        e.holding = false ∧ e.invalidRun = 0 ∧ e.st = .closed ∧ e.outLim = (decide (p.hi < xv) || decide (xv < p.lo)))) ∧
  (∀ (s : State) (l : Nat), s.evalDue l = true → s.clk.pllLocked = true →
    (s.loop l).dyn.st = .opened ∨ (s.loop l).dyn.st = .closed → (s.loop l).eval = none →
    let s0 := loopLive l s
    let s1 := updLoop l (fun c => { c with startHold := false, startClose := false,
                                           closePend := c.closePend || (c.startClose && s0.cb .loop (l - 1) 0 4) })
      (if (s.loop l).startHold = true then setOutHold l (s0.lf l 3 31 16) s0 else s0)
    let d := (s.loop l).dyn
    let fits (a : Int) (xs : List Rat) : Prop := ∀ x, x ∈ xs → fits24 (rneQ (x / pow2 a)) = true
    let stored (fresh : Bool) (i : Nat) (qs : List Int) (xs : List Rat) (e : LoopDyn) (ms : List Int) : Prop :=
      let b := nth d.exps i
      let h := nth d.hr i
      let now (b' : Int) (h' : Nat) (ms' : List Int) : Prop := nth e.exps i = b' ∧ nth e.hr i = h' ∧ ms = ms'
      let small : Prop := ∀ v, v ∈ qs → -1048576 ≤ v ∧ v ≤ 1048575
      let wide : Prop := ∃ v, v ∈ qs ∧ fits24 v = false
      (fresh = false →
        (¬ wide → small → h < 15 → now b (h + 1) qs) ∧
        (¬ wide → small → 15 ≤ h → -32 < b → now (b - 1) 0 (qs.map (fun v => 2 * v))) ∧
        (¬ wide → small → 15 ≤ h → b ≤ -32 → now b 15 qs) ∧
        (¬ wide → ¬ small → now b 0 qs) ∧
        (wide → b < 31 → now (b + 1) 0 (qs.map (fun v => satS 24 (v.fdiv 2)))) ∧
        (wide → 31 ≤ b → now b 0 (qs.map (satS 24)))) ∧
      (fresh = true → ∃ a : Int, -32 ≤ a ∧ a ≤ 31 ∧ now a 0 (xs.map (fun x => satS 24 (rneQ (x / pow2 a)))) ∧
        (∀ c : Int, -32 ≤ c → c < a → ¬ fits c xs) ∧ (a < 31 → fits a xs))
    ((s.loop l).poison = true → ∃ x : LoopEval,
      exec (.loopEvaluation l) s = .next (updLoop l (fun c => { c with eval := some x }) s1) ∧
      x.dyn.st = .fault ∧ x.dyn.out = s1.lf l 3 31 16 ∧ x.dyn.sampleMc = s1.sampleMc l ∧ x.slot = s1.lf l 0 31 20) ∧
    (∀ v, (s.loop l).poison = false → (s.loop l).openReq = some v → d.st = .closed →
      s.cfg.inForce.length = 20 → (s.cfg.inForce.sec .loop).length = 1524 →
      let w := v.getD d.out % 65536
      ∃ x : LoopEval, exec (.loopEvaluation l) s =
          .next (updLoop l (fun c => { c with eval := some x, openReq := none }) s1) ∧
        x.opened = some v ∧ x.hold = some w ∧ x.closeOver = true ∧ x.dyn.st = .opened ∧ x.dyn.out = w ∧
        x.dyn.outClosed = false) ∧
    (∀ v, (s.loop l).poison = false → (s.loop l).openReq = none → s1.validMeas l (s1.sampleMc l) = some v →
      d.exps.length = 6 → d.hr.length = 6 →
      let p := s1.lawIn l
      let q (i : Nat) (y : Rat) : Int := qAt (nth d.exps i) y
      let at' (i : Nat) (y : Rat) : Rat := (q i y : Rat) * pow2 (nth d.exps i)
      let r := q16 (s.loop l).spIn
      let ff := q16 (s.loop l).ffIn
      let xr := at' 1 r
      let ev := if p.direct then at' 0 (q16 v) - xr else xr - at' 0 (q16 v)
      let xe := at' 2 ev
      let xf := at' 4 ff
      let xi := (d.int : Rat) * pow2 (nth d.exps 3)
      let dem := p.kp * xe + xi + p.kff * xf + p.ksp * xr
      let xv := at' 5 dem
      let w := clampQ xv p.lo p.hi
      let i' := xi + p.ki * xe + p.kb * (at' 5 w - xv)
      let inputs (e : LoopDyn) : Prop :=
        stored (d.fresh.getD 0 false) 0 [q 0 (q16 v)] [q16 v] e [e.meas] ∧
        stored (d.fresh.getD 1 false) 1 [q 1 r] [r] e [e.sp] ∧
        stored (d.fresh.getD 2 false) 2 [q 2 ev] [ev] e [e.err] ∧
        stored (d.fresh.getD 4 false) 4 [q 4 ff] [ff] e [e.ff] ∧
        e.clipCnt = (if e.clipStg = 0 then d.clipCnt else incSat 16 d.clipCnt)
      (d.st = .closed → ∃ (x : LoopEval) (e : LoopDyn),
        exec (.loopEvaluation l) s = .next (updLoop l (fun c => { c with eval := some x }) s1) ∧ x.dyn = e ∧ inputs e ∧
        stored (d.fresh.getD 5 false) 5 [q 5 dem, q 5 w] [dem, w] e [e.demV, e.demW] ∧
        (p.law ≠ 0 → s1.loopOverride l = false → stored (d.fresh.getD 3 false) 3 [q 3 i'] [i'] e [e.int]) ∧
        (p.law = 0 ∨ s1.loopOverride l = true →
          e.int = d.int ∧ nth e.exps 3 = nth d.exps 3 ∧ nth e.hr 3 = nth d.hr 3)) ∧
      (d.st = .opened → s1.loopStaged l = false → (s1.loop l).closePend = true →
        let u0 := clampQ ((s1.outHold l : Rat) / 65536) p.lo p.hi
        let u := if p.law = 2 then u0 else if (p.lo + p.hi) / 2 ≤ u0 then p.hi else p.lo
        ∃ (x : LoopEval) (e : LoopDyn),
          exec (.loopEvaluation l) s = .next (updLoop l (fun c => { c with eval := some x }) s1) ∧ x.dyn = e ∧ inputs e ∧
          e.st = .closed ∧ e.out = satU 16 (rneQ (u * 65536)) ∧ e.outLim = false ∧
          stored true 3 [] [if p.law = 0 then 0 else u0 - (p.kp * xe + p.kff * xf + p.ksp * xr)] e [e.int] ∧
          stored (d.fresh.getD 5 false) 5 [q 5 u0, q 5 u0] [u0, u0] e [e.demV, e.demW]))) ∧
  (∀ (s : State) (l : Nat) (e : LoopEval), (s.loop l).eval = some e → s.clk.pllLocked = true → s.chain.stage ≤ 1 →
    s.chain.pt.toNat = e.slot → s.chain.mc = e.dyn.sampleMc →
    (e.dyn.st ≠ .fault → ∃ u, exec (.loopCommit l false) s = .next u ∧ (u.loop l).dyn = e.dyn ∧ (u.loop l).eval = none ∧
      (∀ j, j ≠ l → u.loop j = s.loop j) ∧
      (u.loop l).closePend = ((s.loop l).closePend && !(e.dyn.st == .closed && (s.loop l).dyn.st != .closed) && !e.closeOver) ∧
      (e.source = none → u.cfg = { s.cfg with inForce := match e.hold with
        | none => s.cfg.inForce
        | some v => s.cfg.inForce.setWord .loop (l - 1) 3 (merge 0xFFFF (s.cw .loop (l - 1) 3) (w32 (v % 65536))) }) ∧
      (∀ k, k < 64 → k < s.rood.slots.length → s.slEn k = true → s.slLoop k = l →
        (u.slot k).expCnt = (s.slot k).expCnt + 1 ∧ (u.slot k).bins = (s.slot k).bins) ∧
      (∀ k, s.slEn k = false ∨ s.slLoop k ≠ l → u.slot k = s.slot k) ∧
      Noted { s with rood := { s.rood with loops := u.rood.loops, slots := u.rood.slots }, cfg.inForce := u.cfg.inForce,
                     chain.stage := 1 } u) ∧
    (e.dyn.st = .fault → ∃ u, exec (.loopCommit l false) s = .next u ∧ (u.loop l).dyn = e.dyn ∧ (u.loop l).eval = none ∧
      (u.loop l).closePend = false ∧ (u.loop l).openReq = none ∧ (u.loop l).holdForced = false ∧
      (∀ z, s.zoneOfLoop l = some z → u.raised z) ∧ (∀ j, j ≠ l → u.loop j = s.loop j)) ∧
    (∃ u, exec (.loopCommit l true) s = .next u ∧ (u.loop l).dyn = (s.loop l).dyn ∧ (u.loop l).eval = none ∧
      ((s.loop l).openReq = none → (u.loop l).openReq = e.opened) ∧
      (u.loop l).overrun = incSat 16 (s.loop l).overrun ∧ (∀ j, j ≠ l → u.loop j = s.loop j) ∧ u.raised 109 ∧
      Noted { s with rood := { s.rood with loops := u.rood.loops }, chain.stage := 1 } u))

/-- R155, R171, R172, R360: the loop commands. That `LOOP.OPEN` with a value, on an OPEN loop whose evaluation is closing it, posts an open is the model's choice (notes/assumptions/41.md). -/
def Obligations.LoopCommands : Prop :=
  ∀ (s : State) (m : Msg), loopOk (getB m.payload 0) = true →
    let l := getB m.payload 0
    (s.executes 0x2001 m → m.plain 4 → getB m.payload 1 < 2 → (getB m.payload 1 = 0 → getH m.payload 2 = 0) →
      (s.loop l).dyn.st = .closed ∨ ((s.loop l).dyn.st = .opened ∧ (getB m.payload 1 = 0 ∨ (s.loop l).closing = true)) →
      Answers (.loopOpen m) s 0x2001 m 0 [] (updLoop l (fun c =>
        { c with hostOpen := true, openReq := some (if getB m.payload 1 = 1 then some (getH m.payload 2) else none),
                 closePend := false, holdForced := false, startClose := false }) s)) ∧
    (s.executes 0x2001 m → m.plain 4 → getB m.payload 1 = 1 → (s.loop l).dyn.st = .opened → (s.loop l).closing = false →
      Answers (.loopOpen m) s 0x2001 m 0 [] (writeOutHold l (getH m.payload 2) (updLoop l (fun c =>
        { c with hostOpen := true, closePend := false, holdForced := false, startClose := false }) s))) ∧
    (s.executes 0x2001 m → m.plain 4 → (s.loop l).dyn.st = .disabled ∨ (s.loop l).dyn.st = .fault →
      (getB m.payload 1 = 1 →
        Answers (.loopOpen m) s 0x2001 m 0 []
          (writeOutHold l (getH m.payload 2) (updLoop l (fun c => { c with hostOpen := true }) s))) ∧
      (getB m.payload 1 = 0 → getH m.payload 2 = 0 →
        Answers (.loopOpen m) s 0x2001 m 0 [] (updLoop l (fun c => { c with hostOpen := true }) s))) ∧
    (s.executes 0x2002 m → m.plain 4 → padOk m 1 3 = true →
      ((s.loop l).dyn.st = .opened →
        Answers (.loopClose m) s 0x2002 m 0 []
          (updLoop l (fun c => { c with hostOpen := false, closePend := true,
                                        eval := c.eval.map (fun e => { e with closeOver := false }) }) s)) ∧
      ((s.loop l).dyn.st = .closed → Answers (.loopClose m) s 0x2002 m 0x0202 [] s) ∧
      ((s.loop l).dyn.st = .disabled → Answers (.loopClose m) s 0x2002 m 0x0104 [] s) ∧
      ((s.loop l).dyn.st = .fault → Answers (.loopClose m) s 0x2002 m 0x0203 [] s)) ∧
    (s.executes 0x2004 m → m.plain 4 → padOk m 1 3 = true → Answers (.loopGet m) s 0x2004 m 0 (s.loopBytes l) s) ∧
    (s.executes 0x2005 m → m.plain 20 → padOk m 2 2 = true → 1 ≤ getB m.payload 1 → getB m.payload 1 ≤ 15 →
      getW m.payload 16 ≤ 1 → ((getB m.payload 1).testBit 3 = true → s.zoneOfLoop l = none) →
      ((getB m.payload 1).testBit 0 = true → s.zoneOfLoop l = none) →
      ((getB m.payload 1).testBit 1 = true → s.solNames l = false) →
      Answers (.loopInput m) s 0x2005 m 0 [] (updLoop l (fun c =>
        { c with spIn := if (getB m.payload 1).testBit 0 then w32 (getW m.payload 4) else c.spIn,
                 ffIn := if (getB m.payload 1).testBit 1 then w32 (getW m.payload 8) else c.ffIn,
                 hostMeas := if (getB m.payload 1).testBit 2 then w32 (getW m.payload 12) else c.hostMeas,
                 hostMc := if (getB m.payload 1).testBit 2 then s.chain.mc else c.hostMc,
                 provIn := if (getB m.payload 1).testBit 3 then bit (w32 (getW m.payload 16)) 0 else c.provIn }) s)) ∧
    (s.executes 0x2005 m → m.plain 20 → (getB m.payload 1).testBit 0 = true → s.zoneOfLoop l ≠ none →
      Answers (.loopInput m) s 0x2005 m 0x0104 [] s)

/-- R20, R34, R201, R204, R205, R208, R209, R362, R493: The end of a slot's bin corrects three bins when at least half of its samples learned, and is the boundary at which LEAD and GAIN_SHIFT change; the rotation writes one slot, and after its operation one zone table, through entry 4 of the NV queue. That the bins are copied at the slot's turn, that a codeword shared with a neighbour that cannot be read is left, and that the live fields of a disabled slot change at its boundary too, are the model's choices (notes/assumptions/84.md). The Solstice commands; bins are written only while the slot is paused. -/
def Obligations.SolsticeLearning : Prop :=
  (∀ s : State, s.alive = true →
    (∀ k, k < 64 → k < s.rood.slots.length → s.backup.calValid = true → s.clk.pllLocked = true →
      s.slEn k = true →
      let x := s.slot k
      let n := s.slBins k
      let b := s.slBin k (s.slTime k (s.calNow - 1))
      ∃ u, exec (.solsticeBinEnd k) s = .next u ∧ (u.slot k).acc = 0 ∧ (u.slot k).cnt = 0 ∧ (u.slot k).expCnt = 0 ∧
        (1 ≤ x.cnt → x.expCnt ≤ 2 * x.cnt →
          (u.slot k).updates = x.updates + 1 ∧
          (∀ y, y = correctBins n b (x.acc / (x.cnt : Rat) * (1 / (2 ^ s.cf .sol k 0 11 8 : Nat))) x →
            (y.take n).all fits12 = true → (y.take n).all (fun v => decide (-256 ≤ v) && decide (v ≤ 255)) = false →
            (u.slot k).bins = y ∧ (u.slot k).exp = x.exp ∧ (u.slot k).hr = 0)) ∧
        (x.cnt = 0 ∨ 2 * x.cnt < x.expCnt → (u.slot k).updates = x.updates) ∧
        u.cfg.inForce = (solLive k s).cfg.inForce ∧
        (∀ j, j ≠ k → u.slot j = s.slot j) ∧
        Noted { s with rood := { s.rood with slots := u.rood.slots }, cfg := { s.cfg with inForce := u.cfg.inForce } } u) ∧
    (∀ k, k < 64 → s.backup.calValid = true → s.clk.pllLocked = true → s.slEn k = false →
      exec (.solsticeBinEnd k) s = .next (solLive k s)) ∧
    (∀ k, nvBusy s.nvm 4 = false → s.nvm.halted = false → s.bushel.closed = false → 4 < s.nvm.queue.length →
      ((List.range 64).map (fun i => (s.rood.rotSlot + i) % 64)).find? (fun j => s.slEn j) = some k →
      let keep (a n : Nat) (l : List CwWrite) := l.filter (fun w =>
        !((w.bank, w.cw) ∈ s.nvm.bad ∧ (32 * w.cw < a ∨ a + n < 32 * w.cw + 32)))
      let head (st : Nat) := keep (solHeadAt k) 48 (nvCws s.nvm 0 (solHeadAt k)
        (solHeader (solCfgKey (s.cw .sol k 0)) st (s.slot k).exp s.backup.opt.toNat (s.slot k).updates))
      ∃ u a pre, exec .solsticePersist s = .next u ∧ a.job = .solSlot k ∧
        a.cws = pre ++ keep (solBinsAt k) (s.slBins k * 3 / 2)
          (nvCws s.nvm 0 (solBinsAt k) (packBins ((s.slot k).bins.take (s.slBins k)))) ++ head 2 ∧
        (pre = [] ∨ pre = head 1) ∧
        nth u.nvm.queue 4 = [a] ∧
        Noted { s with nvm := { s.nvm with queue := u.nvm.queue }, clk := u.clk,
                       rood := { s.rood with rotSlot := (k + 1) % 64, zoneDue := true } } u) ∧
    (let z := s.rood.rotZone
     let zone (u : State) : Prop := ∃ b, b.job = .solZone z ∧ nth u.nvm.queue 4 = [b] ∧
       b.cws = nvCws u.nvm 0 (solProbAt z) ((s.zone z).prob.flatMap le8) ++ nvCws u.nvm 0 (solZoneHeadAt z)
         (le32 (s.zone z).occHours ++ le8 2 ++ zeros 3 ++ le32 s.backup.opt.toNat ++ zeros 20) ∧
       u.rood = { s.rood with rotZone := (z + 1) % 32, zoneDue := false }
     4 < s.nvm.queue.length → s.bushel.closed = false → s.nvm.halted = false →
     ((∀ k, k < 64 → s.slEn k = false) → nvBusy s.nvm 4 = false →
       ∃ u, exec .solsticePersist s = .next u ∧ zone u) ∧
     (∀ k op w, s.nvServed = some 4 → nth s.nvm.queue 4 = [op] → op.job = .solSlot k → op.cws = [w] →
       s.rood.zoneDue = true → s.bus.held = [] → s.bus.waiting = none →
       ∃ u, exec (.nvCodewordWrite true false) s = .next u ∧ zone u))) ∧
  (∀ (s : State) (m : Msg),
    let k := getB m.payload 0
    (s.executes 0x2201 m → m.plain 4 → slotArg m = true →
      Answers (.solStatus m) s 0x2201 m 0
        (leW (s.cw .sol k 0) ++ le8 (b2n (s.slot k).slSat + 2 * b2n (s.slPaused k)) ++ le8 (wrap 8 (s.slot k).exp) ++
          zeros 2 ++ le32 (s.slot k).updates) s) ∧
    (s.executes 0x2202 m → m.plain 4 → slotArg m = true →
      Answers (.solReadBins m) s 0x2202 m 0
        (le8 (wrap 8 (s.slot k).exp) ++ zeros 1 ++ le16 (s.slBins k) ++
          ((s.slot k).bins.take (s.slBins k)).flatMap (fun v => le16 (wrap 16 v))) s) ∧
    (s.executes 0x2203 m → m.plain (8 + 2 * s.slBins k) → slotArg m = true → padOk m 5 1 = true →
      getH m.payload 6 = s.slBins k → -32 ≤ sext 8 (getB m.payload 4) → sext 8 (getB m.payload 4) ≤ 31 →
      ((List.range (s.slBins k)).all (fun i => fits12 (sext 16 (getH m.payload (8 + 2 * i))))) = true →
      (s.slPaused k = true →
        Answers (.solWriteBins m) s 0x2203 m 0 [] (updSlot k (fun x => { x with
          bins := (List.range (s.slBins k)).map (fun i => sext 16 (getH m.payload (8 + 2 * i))) ++
            List.replicate (2016 - s.slBins k) 0,
          exp := sext 8 (getB m.payload 4), hr := 0 }) s)) ∧
      (s.slPaused k = false → Answers (.solWriteBins m) s 0x2203 m 0x0201 [] s)) ∧
    (s.executes 0x2204 m → m.plain 4 → slotArg m = true →
      Answers (.solDiscard m) s 0x2204 m 0 [] (updSlot k (fun _ => {}) s)) ∧
    (s.executes 0x2205 m → m.plain 4 → k < 32 → padOk m 1 3 = true →
      Answers (.solReadProb m) s 0x2205 m 0 ((s.zone k).prob.flatMap le8) s))

/-! ## Zone logic (R181-R196, R211-R219) -/

/-- R181, R183, R184, R185, R194-R197, R206, R212, R213: At PT 0 of an MC zone logic takes up the live words and passes each zone once: its scheduled mode, its occupancy and the committed mode that follow from them; then Solstice writes the feed-forward of each loop that a slot names, or has left. What the pass does for a zone: the changeover state, the profile step of its targets, which go to the loops, the entry into speculation and its end by the mode, the dew guard's ceiling, and the posts to its loops. That a zone's inputs are tested for reserved values alone, and that a trajectory is rounded to binary64 at each step, are the model's choices (notes/assumptions/99.md, 85.md). -/
def Obligations.ZonePass : Prop :=
  (∀ s : State, s.released = true → s.mgt.appRunning = true → s.clk.pllLocked = true → s.chain.pt = 0 → s.rood.passMc ≠ some s.chain.mc →
    s.chain.stage ≤ 7 → s.rood.zones.length = 32 → s.rood.loops.length = 128 →
    let c := restartDelays (zoneLive s)
    ∃ u, exec .zoneLogicPass s = .next u ∧ u.rood.passMc = some s.chain.mc ∧
      (∀ sec, sec ≠ .loop → u.cfg.inForce.sec sec = c.cfg.inForce.sec sec) ∧
      (∀ i k, k < 12 → k ≠ 3 → u.cw .loop i k = c.cw .loop i k) ∧
      (∀ z, z < 32 →
        (u.zone z).sm = c.schedModeOf z ∧ (u.zone z).occ = c.occOf z (c.schedModeOf z) ∧
        (u.zone z).calInvalid = !s.backup.calValid ∧
        (c.zoneLoopFault z = false →
          (u.zone z).cm = c.resolveMode z (c.watch z (c.zone z).countManual) (c.schedModeOf z) (c.occOf z (c.schedModeOf z))) ∧
        (c.zoneLoopFault z = true → (u.zone z).faultCond = true)) ∧
      (∀ l, (u.loop l).dyn = (s.loop l).dyn) ∧
      (∀ k, k < 64 → c.slEn k = true → (u.loop (c.slLoop k)).ffIn = u.ffOf (c.slLoop k)) ∧
      (∀ l, l < 128 → l ∈ s.rood.ffDue → (u.loop l).ffIn = u.ffOf l) ∧
      Noted { s with rood := { s.rood with loops := u.rood.loops, zones := u.rood.zones, passMc := some s.chain.mc,
                                           delaysReset := false, ffDue := [] },
                     cfg := { s.cfg with inForce := u.cfg.inForce }, chain.stage := 7 } u) ∧
  (∀ s : State, s.released = true → s.mgt.appRunning = true → s.clk.pllLocked = true → s.chain.pt = 0 → s.rood.passMc ≠ some s.chain.mc →
    s.chain.stage ≤ 7 → s.rood.zones.length = 32 → s.rood.loops.length = 128 →
    let c := restartDelays (zoneLive s)
    ∃ u, exec .zoneLogicPass s = .next u ∧ ∀ z, z < 32 → c.zoneLoopFault z = false →
      let x := s.zone z
      let n := u.zone z
      let apart (l : Nat) : Prop := l ≠ 0 ∧ l < 128 ∧ (∀ y, y < 32 → y ≠ z → l ∉ c.zoneLoops y) ∧ (c.zoneLoops z).count l = 1
      let setpoint (m : ZMode) (i : Nat) : Rat :=
        if i = 2 then roundB64 ((c.zf z 6 15 0 : Rat) / 100)
        else roundB64 ((sfld (c.cw .zone z (match m with | .protect => 5 | .unocc => 4 | .standby => 3 | _ => 2))
          (16 * i + 15) (16 * i) : Rat) / 100)
      let moved (m : ZMode) (i : Nat) (t : Traj) : Traj :=
        let p := c.profLim (nth (c.zoneLoops z) i)
        let g := setpoint m i
        let dt : Rat := 1 / ((3600 * (if s.nominal60 = true then 60 else 50) : Nat) : Rat)
        let dv := signQ (g - t.x) * minQ p.vmax (vstop p (absQ (g - t.x))) - t.v
        let ad := signQ dv * minQ p.amax (sqrtQ (2 * p.jmax * absQ dv))
        let a := roundB64 (t.a + clampQ ((ad - t.a) / dt) (-p.jmax) p.jmax * dt)
        let v := roundB64 (clampQ (t.v + a * dt) (-p.vmax) p.vmax)
        let y := roundB64 (t.x + v * dt)
        if p.vmax = 0 ∨ (absQ (g - y) * 65536 ≤ 1 ∧ absQ v ≤ p.amax * dt ∧ absQ a ≤ p.jmax * dt) then { x := g }
        else { x := y, v := v, a := a }
      let ph := nth x.prob (weekBin (c.localAt (s.calNow + 300 * (c.zf z 8 23 16 : Int))))
      let away : Prop := n.cm = .unocc ∨ n.cm = .standby
      n.cool = (if n.cm.controlled = false then x.cool else if c.zf z 0 9 8 = 2 then x.coHost
        else if x.cm.controlled = false ∨ x.first = true then false else x.cool) ∧
      (∀ i t, i < 3 → nth x.committed i = some t → x.spec = .idle ∨ x.spec = .suppressed →
        (s.sup.mode ≠ .hold → n.cm.controlled = true → n.cm ≠ .manual → nth n.committed i = some (moved n.cm i t)) ∧
        (s.sup.mode = .hold → n.cm.controlled = true → n.cm ≠ .manual → nth n.committed i = some t) ∧
        (n.cm.controlled = false → nth n.committed i = some { x := t.x })) ∧
      (x.spec = .idle ∨ x.spec = .suppressed → n.spec ≠ .provisional → n.actual = n.committed) ∧
      (x.spec = .idle →
        (away → c.zb z 0 2 = true → s.backup.calValid = true → s.sup.mode ≠ .hold → c.zf z 8 31 24 ≤ ph →
          n.spec = .provisional ∧ n.specEnter = (x.specEnter + 1) % 65536 ∧
          (let ahead := s.calNow + 300 * (c.zf z 8 23 16 : Int)
           n.tPred = (ahead - c.localAt ahead % 300).toNat) ∧
          (∀ i t, i < 3 → nth x.actual i = some t → nth n.actual i = some (moved .provisional i t))) ∧
        (¬ away ∨ c.zb z 0 2 = false ∨ s.backup.calValid = false ∨ s.sup.mode = .hold ∨ ph < c.zf z 8 31 24 →
          n.spec = .idle ∧ n.specEnter = x.specEnter)) ∧
      (x.spec = .provisional →
        (n.cm = .occ → n.spec = .suppressed ∧ n.specCommit = (x.specCommit + 1) % 65536 ∧ n.committed = n.actual) ∧
        (n.cm ≠ .occ → ¬ away → n.spec = .rollback ∧ n.specCancel = (x.specCancel + 1) % 65536) ∧
        (away → n.spec = .provisional)) ∧
      (x.spec = .rollback → n.cm = .occ → n.spec = .suppressed ∧ n.committed = n.actual) ∧
      (x.spec = .suppressed → n.spec = if s.backup.calValid = true ∧ ph < c.zf z 8 31 24 then .idle else .suppressed) ∧
      (let l := c.zf z 10 23 16
       let lo := c.lf l 2 15 0
       let hi := c.lf l 2 31 16
       (c.zb z 0 1 = false → n.dewActive = false ∧ n.dewInvalid = false ∧ (apart l → u.outMax l = hi)) ∧
       (c.zb z 0 1 = true → c.zoneT z = none ∨ c.zoneH z = none ∨ c.inputVal (c.zf z 7 6 0) = none →
         n.dewInvalid = true ∧ (apart l → lo ≤ hi → u.outMax l = lo ∧ n.dewActive = decide (lo < hi))) ∧
       (∀ t rh ts, c.zb z 0 1 = true → c.zoneT z = some t → c.zoneH z = some rh → c.inputVal (c.zf z 7 6 0) = some ts →
         let m := roundB64 (roundB64 (ts - dewPoint t rh) - roundB64 ((c.zf z 7 23 16 : Rat) / 10))
         let r := roundB64 ((c.zf z 7 15 8 : Rat) / 10)
         n.dewInvalid = false ∧
         (apart l → lo ≤ hi →
           (r ≤ m → u.outMax l = hi ∧ n.dewActive = false) ∧
           (m < r → m ≤ 0 → u.outMax l = lo) ∧
           (m < r → 0 < m → roundB64 (m / r) < 1 →
             u.outMax l = min hi (lo + (roundB64 (roundB64 (m / r) * ((hi - lo : Nat) : Rat))).floor.toNat)) ∧
           n.dewActive = decide (u.outMax l < hi)))) ∧
      (∀ i, i < 3 → let l := nth (c.zoneLoops z) i
        apart l →
          (∀ t, nth n.actual i = some t → (u.loop l).spIn = wInt (rneQ (t.x * 65536)) ∧
            ((u.loop l).provIn = true ↔ (n.spec = .provisional ∨ n.spec = .rollback) ∧ nth n.committed i ≠ some t)) ∧
          (n.cm.controlled = true → (if n.cool = true then i ≠ 0 else i ≠ 1) → (s.loop l).dyn.st = .opened →
            (s.loop l).hostOpen = false → (s.loop l).opening = false → (s.loop l).holdForced = false →
            (u.loop l).closePend = true) ∧
          (n.cm.controlled = true → (if n.cool = true then i = 0 else i = 1) → (s.loop l).dyn.st = .closed →
            (s.loop l).opening = false → (u.loop l).openReq = some (some (c.lf l 2 15 0))) ∧
          (n.cm.controlled = false → (s.loop l).dyn.st = .closed → (s.loop l).opening = false →
            (u.loop l).openReq = some (some (c.lf l 3 31 16)))))

/-- R25, R186, R187, R193, R194, R211, R213, R216, R218, R361: What the end of each of a zone's delays, and of its occupancy bin, does; in Hold nothing is learned. The zone commands. -/
def Obligations.ZoneExpiriesAndCommands : Prop :=
  (∀ (s : State) (z : Nat), z < 32 → s.zoneLogic = true →
    let x := s.zone z
    (x.spec = .provisional → x.cm = .unocc ∨ x.cm = .standby → s.backup.calValid = true →
      (x.tPred : Int) + 300 * (s.zf z 8 15 8 : Int) ≤ s.calNow →
      ∃ u, exec (.specConfirmExpiry z) s = .next u ∧ u.raised 111 ∧
        Noted (updZone z (fun y => { y with
          spec := .rollback, specRollback := (y.specRollback + 1) % 65536,
          prob := y.prob.set (weekBin (s.localAt x.tPred)) (nth x.prob (weekBin (s.localAt x.tPred)) -
            (rne (nth x.prob (weekBin (s.localAt x.tPred))) (2 ^ s.zf z 8 3 0)).toNat) }) s) u) ∧
    (x.cm.controlled = true → s.zf z 0 9 8 ≠ 2 →
      s.held x.coSince (if s.zf z 0 9 8 = 0 then s.secMc (10 * s.zf z 1 31 24) else s.secMc 10) = true →
      ∃ u, exec (.changeoverDelayExpiry z) s = .next u ∧ u.raised z ∧
        Noted (changeoverOps z (!x.cool) (updZone z (fun y => { y with cool := !y.cool, coSince := none }) s)) u) ∧
    (s.zb z 0 14 = true → s.held x.winSince (if x.windowOpen then s.secMc 10 else s.secMc (s.zf z 1 23 16)) = true →
      ∃ u, exec (.windowDelayExpiry z) s = .next u ∧ u.raised z ∧
        Noted (updZone z (fun y => { y with windowOpen := !y.windowOpen, winSince := none }) s) u) ∧
    (x.faultCond = false → s.held x.fltSince (s.secMc (s.zf z 1 15 8)) = true →
      ∃ u, exec (.faultDelayExpiry z) s = .next u ∧ u.raised z ∧
        Noted (updZone z (fun y => { y with faultCond := true }) s) u) ∧
    (x.faultCond = true → s.zoneLoopFault z = false → s.held x.okSince (s.secMc 10) = true →
      ∃ u, exec (.faultDelayExpiry z) s = .next u ∧ u.raised z ∧
        Noted (updZone z (fun y => { y with faultCond := false }) s) u) ∧
    (x.comfort = true ∨ x.cm = .occ → s.held x.comfSince (if x.comfort then s.secMc 300 else s.secMc (60 * s.zf z 9 7 0)) = true →
      ∃ u, exec (.comfortDelayExpiry z) s = .next u ∧ u.raised z ∧
        Noted { updZone z (fun y => { y with comfort := !y.comfort, comfSince := none }) s with
          bus.alarms := u.bus.alarms } u) ∧
    (∀ p, x.manual = some p → p.left = some 0 →
      exec (.manualExpiry z) s = .next (updZone z (fun y => { y with manual := none }) s)) ∧
    (let b := weekBin (s.localAt (s.calNow - 1))
     let d : Int := (if x.binPasses ≤ 2 * x.binOcc then 255 else 0) - (nth x.prob b : Nat)
     (s.sup.mode = .hold → exec (.occBinEnd z) s =
        .next (updZone z (fun y => { y with binPasses := 0, binOcc := 0, binSkip := false }) s)) ∧
     (s.sup.mode ≠ .hold → s.backup.calValid = true → x.binSkip = false → 1 ≤ x.binPasses →
      s.repeatAt (s.stdAt (s.calNow - 1)) = false →
      exec (.occBinEnd z) s = .next (updZone z (fun y => { y with
        binPasses := 0, binOcc := 0, binSkip := false,
        prob := y.prob.set b (((nth x.prob b : Nat) : Int) + rne d (2 ^ s.zf z 8 7 4)).toNat }) s)))) ∧
  (∀ (s : State) (m : Msg), getB m.payload 0 < 32 →
    let z := getB m.payload 0
    let x := s.zone z
    (s.executes 0x2101 m → m.plain 4 → padOk m 1 3 = true →
      Answers (.zoneStatus m) s 0x2101 m 0
        (leW (s.zoneStatus z) ++ x.committed.flatMap (fun t => leW (trajWord t)) ++ le32 x.occHours) s) ∧
    (s.executes 0x2102 m → m.plain 4 → padOk m 1 3 = true →
      Answers (.zoneProvStatus m) s 0x2102 m 0
        (le8 x.actualMode.code ++ le8 x.spec.code ++ le16 (minuteOfWeek (s.localAt x.tPred)) ++
          x.actual.flatMap (fun t => leW (trajWord t)) ++
          le16 x.specEnter ++ le16 x.specCommit ++ le16 x.specRollback ++ le16 x.specCancel) s) ∧
    (s.executes 0x2104 m → m.plain 4 → getB m.payload 1 < 2 → padOk m 2 2 = true →
      Answers (.zoneOff m) s 0x2104 m 0 [] (updZone z (fun y => { y with hostOff := getB m.payload 1 == 1 }) s)) ∧
    (s.executes 0x2105 m → m.plain 8 →
      (getB m.payload 1 = 0 →
        Answers (.zoneManual m) s 0x2105 m 0 [] (updZone z (fun y => { y with manual := none }) s)) ∧
      (getB m.payload 1 = 1 → 10 * (s.zf z 1 7 0 : Int) ≤ getS m.payload 6 2 - getS m.payload 4 2 →
        Answers (.zoneManual m) s 0x2105 m 0 [] (updZone z (fun y => { y with
          manual := some { heat := getS m.payload 4 2, cool := getS m.payload 6 2,
                           left := if getH m.payload 2 = 0 then none
                                   else some (s.secMc (60 * getH m.payload 2) + 1) } }) s)) ∧
      (getB m.payload 1 = 1 → getS m.payload 6 2 - getS m.payload 4 2 < 10 * (s.zf z 1 7 0 : Int) →
        Answers (.zoneManual m) s 0x2105 m 0x0104 [] s)) ∧
    (s.executes 0x2106 m → m.plain 4 → getB m.payload 1 < 2 → padOk m 2 2 = true →
      (s.zf z 0 9 8 = 2 →
        Answers (.zoneChangeover m) s 0x2106 m 0 [] (updZone z (fun y => { y with coHost := getB m.payload 1 == 1 }) s)) ∧
      (s.zf z 0 9 8 ≠ 2 → Answers (.zoneChangeover m) s 0x2106 m 0x0104 [] s)))

/-! ## The actuator drive (R220-R253) -/

/-- R136, R221, R226, R229, R230, R232-R234, R235-R238, R241, R245: A PWM period takes the readings, corrected by the sense gains latched at the period before, latches those of Stone, and leaves on each channel the condition in force and its override bit. Steps 3 to 6 of a PWM period, for the channels of no FLOAT pair and with what it leaves in force: a channel conducts where its mode asks for it, `CH_OT` and the duty window aside; one that is off waits for its minimum off-time, then turns on, or holds off for the budget, Quiet, or its place among the pull-ins; a peak runs on, unless a stricter condition or `CH_OT` ends it. The scalable loads share what the fixed loads leave. The turn-on of an unboosted PKHOLD channel by the budget is stated where no other channel is a fixed load. A FLOAT pair at a PWM period: its estimate follows the drive; the drive stops where the target or, after the overrun, the end stop is reached, where `DUTY_HOLD` holds it or nothing is asked of it; it starts toward a target further off than `FL_DB`, or toward the closed end stop for a resync, once its channel and the other let it. The two channels never both conduct. The start by the budget is stated where no other channel is a fixed load. -/
def Obligations.PwmPeriods : Prop :=
  (∀ (s : State) (raw : List Nat), s.released = true → s.clk.pllLocked = true → s.act.ch.length = 32 →
    ∃ u, exec (.pwmPeriod raw) s = .next u ∧
      (∀ n, n < 32 →
        (u.ach n).iMeas = satU 16 (rneQ ((nth raw n : Rat) * 1048576 / ((1048576 + nth s.stone.agerr n : Int) : Rat))) ∧
        (u.ach n).cond = u.actCond n ∧ (u.ach n).ovr = (u.actCond n != 0 || (u.ach n).chOt || (u.floatPair (n / 2) && (u.ach (n ^^^ 1)).chOt)) ∧
        (u.ach n).shortSup = (s.ach n).shortSup ∧ (u.ach n).chOt = (s.ach n).chOt ∧ (u.ach n).req = (s.ach n).req) ∧
      u.stone.agerr = s.coefs.act ∧
      Noted { s with act := u.act, stone := { s.stone with agerr := u.stone.agerr },
                     cfg := { s.cfg with inForce := u.cfg.inForce } } u) ∧
  (∀ (s : State) (raw : List Nat), s.released = true → s.clk.pllLocked = true → s.act.ch.length = 32 →
    ∃ u, exec (.pwmPeriod raw) s = .next u ∧
      (∀ n, n < 32 → s.floatPair (n / 2) = false →
        let c := s.ach n
        let v := u.ach n
        let conduct := u.actAsks n && !c.chOt && !c.dutyHold
        (c.ph = .on → v.ph = if conduct then .on else .decay) ∧
        (c.ph = .decay → v.ph = .decay) ∧
        (∀ b, c.ph = .peak b →
          v.ph = if c.cond < u.actCond n ∨ c.chOt = true then (if conduct then .on else .decay) else .peak b) ∧
        (c.ph = .off → conduct = false → v.ph = .off ∧ v.wait = .none) ∧
        (c.ph = .off → conduct = true → c.offReady = false → v.ph = .off ∧ v.wait = .minOff) ∧
        (c.ph = .off → conduct = true → c.offReady = true → u.actMode n ≠ 2 → v.ph = .on ∧ v.wait = .none) ∧
        (c.ph = .off → conduct = true → c.offReady = true → u.actMode n = 2 →
          (s.sup.mode = .quiet → v.ph = .off ∧ (v.wait = .budget ∨ v.wait = .quiet)) ∧
          (s.sup.mode ≠ .quiet → u.cb .act n 0 7 = true → v.ph = .off ∧
            (v.wait = .budget ∨ v.wait = .slot ∨ v.wait = .pairSwitch ∨ v.wait = .piConc)) ∧
          (s.sup.mode ≠ .quiet → u.cb .act n 0 7 = false → v.ph = .off ∧ v.wait = .budget ∨
            v.ph = .peak false ∧ v.iPull = u.iPullMa n ∧ v.peakEnd = s.chain.now + 12000 * u.af n 2 31 24) ∧
          (s.sup.mode ≠ .quiet → u.cb .act n 0 7 = false →
            (∀ j, j < 32 → j ≠ n → s.actMode j ≠ 2 ∧ s.floatPair (j / 2) = false) →
            v.ph = if u.iHoldMa n ≤ u.bankLim ∧ u.iHoldMa n ≤ u.devLim then .peak false else .off))) ∧
      (let load (n : Nat) : Rat :=
        if (u.ach n).ph ≠ .on then 0
        else if u.actMode n = 1 then ((u.actWant n).getD 0 : Rat) / 65536 * (u.iMaxMa n : Rat)
        else if u.actMode n = 3 then (u.iHoldMa n : Rat) else 0
       let held (n : Nat) : Nat :=
        if (u.ach n).ph ≠ .on ∧ (u.ach n).inPeak = false then 0
        else if u.actMode n = 2 then u.iHoldMa n
        else if u.floatPair (n / 2) then u.iMaxMa (n - n % 2) else 0
       let factor (lim fixed : Nat) (scaled : Rat) : Rat :=
        if scaled = 0 then 1 else clampQ (((lim : Int) - (fixed : Int) : Int) / scaled) 0 1
       let kb (b : Nat) : Rat := factor u.bankLim ((List.range 4).map (fun i => held (4 * b + i))).sum
        ((List.range 4).map (fun i => load (4 * b + i))).sum
       let kd : Rat := factor u.devLim ((List.range 32).map held).sum ((List.range 32).map (fun n => kb (n / 4) * load n)).sum
       ∀ n, n < 32 →
        let v := u.ach n
        let k := kb (n / 4) * kd
        let phase := if u.cb .act n 4 31 then u.dithPhase n else ((s.ach n).dithPh : Rat) / 20000
        v.scaled = decide (k < 1 ∧ v.ph = .on ∧ (u.actMode n = 1 ∨ u.actMode n = 3)) ∧
        (v.inPeak = true → v.iSet = (v.iPull : Rat)) ∧
        (v.ph = .off ∨ v.ph = .decay → v.iSet = 0) ∧
        (v.ph = .on → u.actMode n = 1 → v.iSet =
          load n * k * (1 + (u.af n 4 7 0 : Rat) / 1000 * ditherWave (u.cb .act n 4 30) phase)) ∧
        (v.ph = .on → u.actMode n = 2 → v.iSet = (u.iHoldMa n : Rat)) ∧
        (v.ph = .on → u.actMode n = 3 → v.iSet = load n * k) ∧
        (v.ph = .on → u.floatPair (n / 2) = true → u.actMode n = 4 ∨ u.actMode n = 0 → v.iSet = (u.iMaxMa (n - n % 2) : Rat)))) ∧
  (∀ (s : State) (raw : List Nat) (k : Nat), s.released = true → s.clk.pllLocked = true → s.act.ch.length = 32 →
    k < 16 → s.floatPair k = true →
    let c := s.ach (2 * k)
    let o := s.ach (2 * k + 1)
    ∃ u, exec (.pwmPeriod raw) s = .next u ∧
      (let v := u.ach (2 * k)
       let w := u.ach (2 * k + 1)
       let step : Rat := 1 / ((u.af (2 * k) 3 17 10 * 20000 : Nat) : Rat)
       let b : Rat := (u.af (2 * k) 3 4 0 : Rat) / 100
       let stopped : Prop := v.flDir = none ∧ v.ph ≠ .on ∧ w.ph ≠ .on ∧ v.wait = .none ∧ w.wait = .none
       let starts (open_ : Bool) : Prop :=
        let x := if open_ then c else o
        let z := if open_ then o else c
        let ready : Prop := x.ph = .off ∧ x.chOt = false ∧ z.ph = .off ∧ z.flRevOk = true ∧ x.offReady = true
        (¬ready → v.flDir = none) ∧
        (ready → (∀ j, j < 32 → j / 2 ≠ k → s.actMode j ≠ 2 ∧ s.floatPair (j / 2) = false) →
          if u.iMaxMa (2 * k) ≤ u.bankLim ∧ u.iMaxMa (2 * k) ≤ u.devLim then
            v.flDir = some open_ ∧ v.flOver = false ∧ (if open_ then v else w).ph = .on
          else v.flDir = none ∧ (if open_ then v else w).wait = .budget)
       v.flX = (match c.flDir with
        | none => c.flX
        | some true => clampQ (c.flX + step) 0 1
        | some false => clampQ (c.flX - step) 0 1) ∧
       (3 ≤ u.actCond (2 * k) → v.flSync = true) ∧
       (c.flSync = true → v.flSync = true) ∧
       (c.ph = .off ∨ o.ph = .off → v.ph = .off ∨ w.ph = .off) ∧
       (u.actWant (2 * k) = none ∨ c.dutyHold = true → stopped) ∧
       (c.dutyHold = false → ∀ r, u.actWant (2 * k) = some r →
        let y : Rat := (r : Rat) / 65536
        (v.flSync = true → (c.flDir = some true → stopped) ∧ (c.flDir = some false → v.flDir = some false) ∧
          (c.flDir = none → starts false)) ∧
        (v.flSync = false → c.flDir = some true →
          let stops : Prop := if y ≤ b then True else if 1 - b ≤ y then v.flX = 1 ∧ c.flOver = true else y ≤ v.flX
          (stops → stopped) ∧ (¬stops → v.flDir = some true ∧ v.ph = c.ph)) ∧
        (v.flSync = false → c.flDir = some false →
          let stops : Prop := if y ≤ b then v.flX = 0 ∧ c.flOver = true else if 1 - b ≤ y then True else v.flX ≤ y
          (stops → stopped) ∧ (¬stops → v.flDir = some false ∧ w.ph = o.ph)) ∧
        (v.flSync = false → c.flDir = none →
          (b < y - c.flX → starts true) ∧ (b < c.flX - y → starts false) ∧
          (y - c.flX ≤ b → c.flX - y ≤ b → v.flDir = none ∧ v.ph = c.ph ∧ w.ph = o.ph)))))

/-- R226, R232, R233, R234, R235, R236, R238, R239, R240, R242-R244, R248, R253: The times of a channel: its decay, its minimum off-time, its thermal period, its duty bucket, its retry count. That an on-phase that fills its period leaves the decision to the next, and that TH_PERIOD counts in local MC, are the model's choices (notes/assumptions/82.md). A peak ends in the hold phase, or off when the channel is no longer asked for; the times of a FLOAT pair; the wait for the current budget is reported. At the slot start a queued pull-in whose gates pass runs boosted from its pair's switch; one whose switch is not free, or that would make more than `PI_CONC`, waits in its place, until `PI_WAIT` would be overrun: it then leaves the queue for a degraded peak, which runs once the switch is released. Queued channels are served in their order. -/
def Obligations.ChannelTimesAndPullIns : Prop :=
  (∀ (s : State) (n : Nat), n < 32 → s.clk.pllLocked = true →
    let c := s.ach n
    (c.ph = .off → exec (.minOffExpiry n) s = .next (updCh n (fun x => { x with offReady := true }) s)) ∧
    (c.ph = .decay → exec (.actDecayEnd n) s =
      .next (updCh n (fun x => { x with ph := .off, offReady := false, offMc := s.chain.mc }) s)) ∧
    (s.released = true → s.actMode n = 3 → s.chain.pt = 0 → (∀ m, c.thMc = some m → s.secMc c.thPeriod ≤ s.mcSince m) →
      exec (.thermalPeriodStart n) s = .next (updCh n (fun x => { x with
        thR := (s.actWant n).getD 0, thPeriod := s.af n 3 23 18, thMc := some s.chain.mc,
        thOn := decide (0 < rne (((s.actWant n).getD 0 * s.af n 3 23 18 * 20000 : Nat) : Int) 65536) }) s)) ∧
    (s.actMode n = 3 → c.ph = .on →
      let fills := rne ((c.thR * c.thPeriod * 20000 : Nat) : Int) 65536 ≥ ((c.thPeriod * 20000 : Nat) : Int)
      (c.thOn = false ∨ ¬fills → exec (.thermalOnPhaseEnd n) s = .next (updCh n (fun x => { x with
        thOn := false, ph := .decay, toHold := false, offReady := false, slowDecay := s.act.bstOv, flRevOk := false }) s)) ∧
      (c.thOn = true → fills → exec (.thermalOnPhaseEnd n) s = .next s)) ∧
    (s.released = true →
      let bs := ((c.curOn, c.curAll) :: c.buckets).take 64
      let on := (bs.map (·.1)).sum
      let all := (bs.map (·.2)).sum
      ∃ u, exec (.dutyBucketEnd n) s = .next u ∧
        Noted (updCh n (fun x => { x with
          buckets := bs, curOn := 0, curAll := 0, dutyNow := (on, all),
          dutyHold := if s.af n 2 7 0 = 100 ∨ (c.dutyHold = true ∧ 100 * on ≤ (s.af n 2 7 0 - 5) * all) then false
            else c.dutyHold || (decide (0 < all) && decide (s.af n 2 7 0 * all ≤ 100 * on)) }) s) u) ∧
    exec (.retryLeftRestore n) s = .next (updCh n (fun x => { x with retryLeft := s.af n 0 4 2 }) s)) ∧
  (∀ (s : State) (n : Nat), n < 32 → s.clk.pllLocked = true →
    let c := s.ach n
    (∀ b, c.ph = .peak b → n / 2 < s.act.pairs.length →
      ∃ u, exec (.peakEnd n) s = .next u ∧
        (u.ach n).ph = (if s.actAsks n && !c.dutyHold then .on else .decay) ∧
        (u.ach n).toHold = (s.actAsks n && !c.dutyHold && decide (s.iHoldMa n < c.iPull)) ∧
        ((nth s.act.pairs (n / 2)).boost = some n →
          (nth u.act.pairs (n / 2)).boost = none ∧ (nth u.act.pairs (n / 2)).relAt = some c.peakEnd) ∧
        (∀ j, j ≠ n → u.ach j = s.ach j) ∧
        u = { s with act := { s.act with ch := u.act.ch, pairs := u.act.pairs } }) ∧
    (c.wait = .budget → ∃ u, exec (.budgetWaitTimeout n) s = .next u ∧ u.raised (32 + n / 2) ∧ Noted s u) ∧
    (s.floatPair (n / 2) = true →
      let e := s.ach (2 * (n / 2))
      ((e.flDir = some true ∧ e.flX = 1) ∨ (e.flDir = some false ∧ e.flX = 0) →
        exec (.floatOverrunEnd (n / 2)) s = .next (updCh (2 * (n / 2)) (fun x => { x with flOver := true }) s)) ∧
      (e.flSync = true → e.flDir = some false →
        exec (.floatResyncEnd (n / 2)) s =
          .next (updCh (2 * (n / 2)) (fun x => { x with flX := 0, flSync := false, flOver := true }) s)) ∧
      ((s.ach (2 * (n / 2))).ph = .off → (s.ach (2 * (n / 2) + 1)).ph = .off →
        exec (.floatReversalEnd (n / 2)) s =
          .next (updCh (2 * (n / 2)) (fun x => { x with flRevOk := true })
            (updCh (2 * (n / 2) + 1) (fun x => { x with flRevOk := true }) s))))) ∧
  (∀ (s : State) (n : Nat), n < 32 → n < s.act.ch.length → n / 2 < s.act.pairs.length → s.released = true →
    s.clk.pllLocked = true → s.sup.mode ≠ .quiet → s.actCond n = 0 →
    let c := s.ach n
    (∀ t0, s.chain.stage ≤ 3 → s.sup.safePfw = false → s.chain.pt.toNat = s.slotPt → s.act.queue = [{ ch := n, t0 := t0 }] →
      s.loadFits n (s.iHoldMa n) = true → s.bypassed = false → s.act.fault = false →
      (s.switchFree (n / 2) = true → s.boostedCount < s.piConc →
        ∃ u, exec .pullinSlotStart s = .next u ∧
          (u.ach n).ph = .peak true ∧ (u.ach n).wait = .none ∧ (u.ach n).degraded = false ∧
          (u.ach n).iPull = s.iPullMa n ∧ (u.ach n).peakEnd = s.chain.now + 12000 * s.af n 2 31 24 ∧
          (u.ach n).peakCnt = (c.peakCnt + 1) % 65536 ∧ (u.ach n).degCnt = c.degCnt ∧
          (nth u.act.pairs (n / 2)).boost = some n ∧ u.act.queue = [] ∧ (∀ j, j ≠ n → u.ach j = s.ach j) ∧
          u = { s with act := { s.act with ch := u.act.ch, pairs := u.act.pairs, queue := [] }, chain.stage := 3 }) ∧
      (s.switchFree (n / 2) = false → s.nextChance n - t0.getD s.chain.now ≤ 24000 * s.af n 2 15 8 →
        exec .pullinSlotStart s = .next (updCh n (fun x => { x with wait := .pairSwitch })
          { s with act := { s.act with queue := [{ ch := n, t0 := some (t0.getD s.chain.now) }] }, chain.stage := 3 })) ∧
      (s.switchFree (n / 2) = true → s.piConc ≤ s.boostedCount →
        s.throttled = true ∨ s.nextChance n - t0.getD s.chain.now ≤ 24000 * s.af n 2 15 8 →
        exec .pullinSlotStart s = .next (updCh n (fun x => { x with wait := .piConc })
          { s with act := { s.act with queue := [{ ch := n, t0 := some (t0.getD s.chain.now) }] }, chain.stage := 3 })) ∧
      (s.switchFree (n / 2) = false ∨ s.piConc ≤ s.boostedCount → s.throttled = false →
        24000 * s.af n 2 15 8 < s.nextChance n - t0.getD s.chain.now →
        exec .pullinSlotStart s = .next (updCh n (fun x => { x with degWait := true, wait := .pairSwitch })
          { s with act := { s.act with queue := [] }, chain.stage := 3 }))) ∧
    (∀ k t0 t1, s.chain.stage ≤ 3 → s.chain.pt.toNat = s.slotPt →
      s.act.queue = [{ ch := n, t0 := t0 }, { ch := k, t0 := t1 }] → k < 32 → k < s.act.ch.length →
      k / 2 < s.act.pairs.length → k / 2 ≠ n / 2 → s.actCond k = 0 → c.ph = .off → (s.ach k).ph = .off →
      s.bypassed = false → s.act.fault = false → s.switchFree (n / 2) = true → s.switchFree (k / 2) = true →
      s.loadFits n (s.iHoldMa n) = true → (startPeak n true false s).loadFits k (s.iHoldMa k) = true →
      (s.boostedCount + 2 ≤ s.piConc →
        ∃ u, exec .pullinSlotStart s = .next u ∧ (u.ach n).ph = .peak true ∧ (u.ach k).ph = .peak true ∧ u.act.queue = [] ∧
          (∀ j, j ≠ n → j ≠ k → u.ach j = s.ach j)) ∧
      (s.boostedCount + 1 = s.piConc → s.nextChance k - t1.getD s.chain.now ≤ 24000 * s.af k 2 15 8 →
        ∃ u, exec .pullinSlotStart s = .next u ∧ (u.ach n).ph = .peak true ∧ (u.ach k).ph = .off ∧
          (u.ach k).wait = .piConc ∧ u.act.queue = [{ ch := k, t0 := some (t1.getD s.chain.now) }] ∧
          (∀ j, j ≠ n → j ≠ k → u.ach j = s.ach j))) ∧
    (c.degWait = true → (nth s.act.pairs (n / 2)).boost = none → s.throttled = false → s.bypassed = false →
      s.loadFits n (s.iHoldMa n) = true →
      ∃ u, exec (.degradedPeakStart n) s = .next u ∧
        (u.ach n).ph = .peak false ∧ (u.ach n).degraded = true ∧ (u.ach n).degWait = false ∧
        (u.ach n).peakCnt = (c.peakCnt + 1) % 65536 ∧ (u.ach n).degCnt = incSat 16 c.degCnt ∧
        (u.ach n).peakEnd = s.chain.now + 12000 * s.af n 2 31 24 ∧ u.act.pairs = s.act.pairs ∧
        (∀ j, j ≠ n → u.ach j = s.ach j) ∧ u.raised (32 + n / 2) ∧
        Noted { s with act := { s.act with ch := u.act.ch, queue := u.act.queue } } u))

/-- R236, R237, R246, R248, R253: An open load is flagged and cleared, with its event; a FLOAT pair resynchronizes as it clears, which is the model's choice (notes/assumptions/82.md). Shorts, an overcurrent of a pair's switch and an overtemperature turn off what they concern and nothing of another pair; a short to supply is retried while retries are left. That a FLOAT pair resynchronizes as an overtemperature ends is the model's choice (notes/assumptions/82.md). -/
def Obligations.ChannelFaultsAndOpenLoads : Prop :=
  (∀ (s : State) (n : Nat), n < 32 →
    let c := s.ach n
    let flag (v : Bool) := updCh n (fun x => { x with openLoad := v }) s
    let resync (t : State) := if s.floatPair (n / 2) then updCh (n - n % 2) (fun x => { x with flSync := true }) t else t
    (c.ph = .on ∨ c.inPeak = true → 50 ≤ c.iSet → c.openLoad = false →
      ∃ u, exec (.openLoadOn n) s = .next u ∧ u.raised (32 + n / 2) ∧ Noted (flag true) u) ∧
    (s.cb .act n 0 6 = true → c.ph = .off → c.openLoad = false →
      ∃ u, exec (.openLoadOff n) s = .next u ∧ u.raised (32 + n / 2) ∧ Noted (flag true) u) ∧
    (c.openLoad = true →
      ∃ u, exec (.openLoadClear n) s = .next u ∧ u.raised (32 + n / 2) ∧ Noted (resync (flag false)) u)) ∧
  (∀ (s : State) (n : Nat), n < 32 → n < s.act.ch.length → n / 2 < s.act.pairs.length →
    let c := s.ach n
    let others (u : State) : Prop := (∀ j, j / 2 ≠ n / 2 → u.ach j = s.ach j) ∧ u.raised (32 + n / 2) ∧
      Noted { s with act := { s.act with ch := u.act.ch, pairs := u.act.pairs, queue := u.act.queue } } u
    (c.conducting = true → c.shortSup = false →
      ∃ u, exec (.shortSup n) s = .next u ∧ (u.ach n).shortSup = true ∧ (u.ach n).ph = .decay ∧
        (u.ach n).slowDecay = true ∧ (u.ach n).thOn = false ∧ u.act.queue = s.act.queue.filter (fun q => q.ch != n) ∧ others u) ∧
    (c.conducting = false → (s.ach (n ^^^ 1)).conducting = false → c.shortGnd = false →
      ∃ u, exec (.shortGnd n) s = .next u ∧ (u.ach n).shortGnd = true ∧ (nth u.act.pairs (n / 2)).off = true ∧ others u) ∧
    ((nth s.act.pairs (n / 2)).off = false →
      ∃ u, exec (.hswOvercurrent (n / 2)) s = .next u ∧ (nth u.act.pairs (n / 2)).off = true ∧
        (u.ach n).ph ≠ .on ∧ others u) ∧
    (c.chOt = false →
      ∃ u, exec (.chOt n true) s = .next u ∧ (u.ach n).chOt = true ∧ (u.ach n).ovr = true ∧ (u.ach n).ph ≠ .on ∧ others u) ∧
    (c.chOt = true →
      ∃ u, exec (.chOt n false) s = .next u ∧ u.raised (32 + n / 2) ∧
        Noted (let t := updCh n (fun x => { x with chOt := false }) s
               if s.floatPair (n / 2) then updCh (n - n % 2) (fun x => { x with flSync := true }) t else t) u) ∧
    (s.clk.pllLocked = true → c.shortSup = true → 1 ≤ c.retryLeft →
      ∃ u, exec (.shortSupRetry n) s = .next u ∧ u.raised (32 + n / 2) ∧
        Noted (updCh n (fun x => { x with shortSup := false, retryLeft := x.retryLeft - 1 }) s) u))

/-- R225, R227, R246, R247, R253, R448: the boost converter's faults, their retries and the clamp; its bursts at Throttle, which the model looks at once a PT (notes/assumptions/91.md). -/
def Obligations.Boost : Prop :=
  ∀ s : State,
    let a := s.act
    (s.boostMay = true → a.fault = false →
      ∃ u, exec .bstUv s = .next u ∧ u.raised 92 ∧
        Noted { s with act := { a with bstUv := true, fault := true, latched := decide (3 ≤ a.faultRetry) } } u) ∧
    (s.boostRunning = true → a.fault = false →
      (∃ u, exec .bstOc s = .next u ∧ u.raised 92 ∧
        Noted { s with act := { a with bstOc := true, fault := true, latched := decide (3 ≤ a.faultRetry) } } u)) ∧
    (s.alive = true → a.fault = false →
      ∃ u, exec .bstOv s = .next u ∧ u.raised 92 ∧
        Noted { s with act := { a with bstOv := true, fault := true, latched := decide (3 ≤ a.faultRetry) } } u) ∧
    (a.bstOv = true →
      ∃ u, exec .bstOvRelease s = .next u ∧ u.raised 92 ∧ Noted { s with act := { a with bstOv := false } } u) ∧
    (a.fault = true → a.latched = false →
      ∃ u, exec .boostRestart s = .next u ∧ u.raised 92 ∧
        Noted { s with act := { a with fault := false, latched := false, bstUv := false, bstOc := false,
                                       faultRetry := min 3 (a.faultRetry + 1) } } u) ∧
    (a.fault = false → exec .boostRetryReset s = .next { s with act := { a with faultRetry := 0 } }) ∧
    (∀ v, exec (.clampActive v) s = .next { s with act := { a with clamp := v } }) ∧
    (s.throttled = true → s.boostMay = true → s.alive = true → s.chain.st ≠ .start → s.chain.pt ≠ 4095 →
      s.sup.shutAt = none → (∀ m, m < 21 → (nth s.sens.mods m).pend = []) →
      let set : Rat := (s.cf .actDev 0 1 23 16 : Rat) / 4
      ∃ u, exec .ptTick s = .next u ∧
        (a.burst = true → (u.act.burst = true ↔ Config.vbst u.chain.now < set)) ∧
        (a.burst = false → a.burstEnd = none → (u.act.burst = true ↔ Config.vbst u.chain.now < 96 / 100 * set)) ∧
        (a.burst = true → u.act.burst = false → u.act.burstEnd = some (s.chain.mc, s.chain.pt.toNat + 1))) ∧
    (a.clamp = true → ∃ u, exec .clampSustained s = .next u ∧ u.raised 92 ∧ Noted s u)

/-! ## Fans (R254-R269) -/

/-- R254, R255, R258-R261, R262, R263, R265, R266: The fans start their PWM periods in turn; at its period a fan takes up its live words, moves between its states (among them the exits of POLICY, and STOPPED when the wanted duty becomes 0), and applies its duty in whole cycles. That fans which come to be pending within one PT are taken in ascending order is the model's reading (notes/assumptions/83.md). Where no override holds, a start: the kick of the longest-waiting fan, at most one in an MC, its end, the pause after a failed attempt, and the fault after the fourth. The speed is measured over the last whole revolution; a supervised fan without edges goes to its policy, and one that stays on a side of its limit is marked slow or clear. -/
def Obligations.Fans : Prop :=
  (∀ (s : State) (f : Nat), f < 16 → f < s.fans.ch.length → s.released = true → s.clk.pllLocked = true →
    s.fans.next = f →
    let a := fanLive f s
    ∃ u, exec (.fanPwmPeriod f) s = .next u ∧
      (u.fan f).div = a.cf .fanDev 0 0 12 0 ∧
      (u.fan f).onCyc = (rneQ ((fanMove f a).fanDuty f * (a.cf .fanDev 0 0 12 0 : Rat))).toNat ∧
      (u.fan f).ovr = (a.fanEn f && a.fanCond f != 0) ∧
      (a.fanEn f = false → (u.fan f).st = .disabled) ∧
      (a.fanEn f = true → (s.fan f).st = .stopped →
        (a.fanCond f ≠ 0 → (u.fan f).st = .policy) ∧
        (a.fanCond f = 0 → 0 < a.fanWant f → (u.fan f).st = .pending ∧ u.fans.queue =
          pendInsert f s.chain.now (fun g => (s.fan g).pendAt) (s.fans.queue.filter (· != f))) ∧
        (a.fanCond f = 0 → ¬ 0 < a.fanWant f → (u.fan f).st = .stopped)) ∧
      (a.fanEn f = true → (s.fan f).st = .disabled → (u.fan f).st = .stopped) ∧
      (a.fanEn f = true → (s.fan f).st = .policy →
        (a.fanCond f ≠ 0 → (u.fan f).st = .policy ∧ u.fans.queue = s.fans.queue) ∧
        (a.fanCond f = 0 → (s.fan f).polOne = true → 0 < a.fanWant f → (u.fan f).st = .run ∧ (u.fan f).fails = 0) ∧
        (a.fanCond f = 0 → (s.fan f).polOne = false ∨ ¬ 0 < a.fanWant f → (u.fan f).st = .stopped ∧ (u.fan f).fails = 0)) ∧
      (a.fanEn f = true →
        (s.fan f).st = .pending ∨ (s.fan f).st = .kick ∨ (s.fan f).st = .run ∨ (s.fan f).st = .pause →
        (a.fanCond f ≠ 0 → (u.fan f).st = .policy) ∧
        (a.fanCond f = 0 → a.fanWant f = 0 → (u.fan f).st = .stopped ∧ (u.fan f).onCyc = 0) ∧
        (a.fanCond f = 0 → a.fanWant f ≠ 0 → (u.fan f).st = (s.fan f).st ∧ u.fans.queue = s.fans.queue) ∧
        (a.fanCond f ≠ 0 ∨ a.fanWant f = 0 → u.fans.queue = s.fans.queue.filter (· != f))) ∧
      (∀ j, j ≠ f → u.fan j = s.fan j) ∧
      u = { s with fans := { s.fans with ch := u.fans.ch, queue := u.fans.queue, next := (f + 1) % 16 },
                   cfg := { s.cfg with inForce := u.cfg.inForce } }) ∧
  (∀ (s : State) (f : Nat), f < 16 → f < s.fans.ch.length → s.clk.pllLocked = true →
    let x := s.fan f
    (∀ rest, s.fanCond f = 0 → s.fans.queue = f :: rest → s.released = true → s.chain.pt = 0 → s.fans.kickMc ≠ some s.chain.mc →
      ∃ u, exec .fanKickStart s = .next u ∧ (u.fan f).st = .kick ∧ (u.fan f).startCnt = (x.startCnt + 1) % 65536 ∧
        (u.fan f).kickAt = s.chain.now ∧ (u.fan f).kickT = fld (s.cfg.committed.word .fan f 0) 16 12 ∧
        u.fans.queue = rest.filter (· != f) ∧ u.fans.kickMc = some s.chain.mc ∧ (∀ j, j ≠ f → u.fan j = s.fan j) ∧
        u = { s with fans := { s.fans with ch := u.fans.ch, queue := u.fans.queue, kickMc := u.fans.kickMc } }) ∧
    (s.fanCond f ≠ 0 → (x.st = .kick → s.reached (x.kickAt + 6000000 * x.kickT) = true →
        ∃ u, exec (.fanKickEnd f) s = .next u ∧ (u.fan f).st = .policy ∧ (u.fan f).ovr = true ∧
          u = { s with fans := { s.fans with ch := u.fans.ch, queue := u.fans.queue } }) ∧
      (x.st = .pause →
        ∃ u, exec (.fanPauseEnd f) s = .next u ∧ (u.fan f).st = .policy ∧ (u.fan f).ovr = true ∧
          u = { s with fans := { s.fans with ch := u.fans.ch, queue := u.fans.queue } })) ∧
    (x.st = .kick → s.fanCond f = 0 → s.reached (x.kickAt + 6000000 * x.kickT) = true →
      (s.tachEn f = false ∨ s.rpmMin f ≤ x.rpm →
        ∃ u, exec (.fanKickEnd f) s = .next u ∧ (u.fan f).st = .run ∧ (u.fan f).fails = 0 ∧
          (∀ j, j ≠ f → u.fan j = s.fan j) ∧
          u = { s with fans := { s.fans with ch := u.fans.ch, queue := u.fans.queue } }) ∧
      (s.tachEn f = true → x.rpm < s.rpmMin f → x.fails < 3 →
        ∃ u, exec (.fanKickEnd f) s = .next u ∧ (u.fan f).st = .pause ∧ (u.fan f).fails = x.fails + 1 ∧
          (u.fan f).blocked = x.blocked ∧ (∀ j, j ≠ f → u.fan j = s.fan j) ∧
          Noted { s with fans := { s.fans with ch := u.fans.ch, queue := u.fans.queue } } u) ∧
      (s.tachEn f = true → x.rpm < s.rpmMin f → x.fails = 3 →
        ∃ u, exec (.fanKickEnd f) s = .next u ∧ (u.fan f).st = .policy ∧ (u.fan f).blocked = true ∧
          (u.fan f).fails = 4 ∧ u.raised (48 + f) ∧ (∀ j, j ≠ f → u.fan j = s.fan j) ∧
          Noted { s with fans := { s.fans with ch := u.fans.ch, queue := u.fans.queue } } u)) ∧
    (x.st = .pause → s.fanCond f = 0 →
      ∃ u, exec (.fanPauseEnd f) s = .next u ∧ (u.fan f).st = .pending ∧ (u.fan f).fails = x.fails ∧
        u.fans.queue = pendInsert f s.chain.now (fun g => (s.fan g).pendAt) (s.fans.queue.filter (· != f)) ∧ (∀ j, j ≠ f → u.fan j = s.fan j) ∧
        u = { s with fans := { s.fans with ch := u.fans.ch, queue := u.fans.queue } })) ∧
  (∀ (s : State) (f : Nat), f < 16 → f < s.fans.ch.length → s.clk.pllLocked = true →
    let x := s.fan f
    (∀ t, s.alive = true → s.tachEn f = true →
      let p := s.ff f 20 19 + 1
      let es := (t :: x.edges).take 5
      exec (.fanTachEdge f t) s = .next { s with fans.ch := s.fans.ch.modify f (fun y => { y with
        edges := es, edgeCnt := x.edgeCnt + 1, rpm := if p < x.edgeCnt + 1 then rpmOf p es else 0 }) }) ∧
    (s.tachWatched f = true →
      ∃ u, exec (.fanTachLoss f) s = .next u ∧ (u.fan f).tachLost = true ∧ (u.fan f).rpm = 0 ∧
        (u.fan f).st = .policy ∧ (u.fan f).wasRunning = !x.slow ∧ u.raised (48 + f) ∧ (∀ j, j ≠ f → u.fan j = s.fan j) ∧
        Noted { s with fans := { s.fans with ch := u.fans.ch, queue := u.fans.queue } } u) ∧
    (s.tachWatched f = false → exec (.fanTachLoss f) s = .next (updFan f (fun y => { y with rpm := 0 }) s)) ∧
    (s.tachWatched f = true → decide (x.rpm < s.rpmMin f) ≠ x.slow →
      ∃ u, exec (.fanSlowTimer f) s = .next u ∧ u.raised (48 + f) ∧
        Noted (updFan f (fun y => { y with slow := decide (x.rpm < s.rpmMin f) }) s) u))

/-! ## Quire (R270-R300) -/

/-- R54, R280, R282, R284, R286-R289, R291, R293, R294, R295-R297: At a frame slot, fifth in the order of its PT, the frame driven before is over; a region that has more frames drives its next one; one whose frames have all been driven completes with its event, or, where it blinks, starts its next phase once that is due; a queued request that may start takes the lowest region and drives its first frame. On a panel of more than 120,000 pixels a driven frame whose line CRCs do not check is a fault. The clearing update starts with the rails on, or turns them on first; it drives a frame a slot, and with its last one every pixel is at its level. The rails rise and fall one after another with their delays, move together to a new band, and go off when nothing has driven for the hold time. A fault stops everything, lets the rails fall and latches its cause; the crack check runs on while it is latched; the next phase of a blinking region swaps its levels. -/
def Obligations.FramesRailsFaultsAndBlink : Prop :=
  (∀ (s : State) (p : List Byte) (readOk : Bool), s.released = true → s.pnlEn = true → s.clk.pllLocked = true →
    s.isFrameSlot = true → s.chain.stage < 5 →
    s.sup.safePfw = false → s.sup.shutAt = none → s.panel.fault = false → s.panel.wfBad = false → s.panel.wf = some p →
    s.panel.wfPend = none → s.panel.rails = .on → s.panel.clearing = .none → s.panel.rest = false → s.panel.bandMeas = s.panel.bandRun →
    s.panel.bandPend = false → s.panel.tempSeen = true →
    let a := panelLive s
    let small : Prop := s.pnlW * s.pnlH ≤ 120000
    a.cb .panel 0 3 15 = true → a.pnlW = s.pnlW → a.pnlH = s.pnlH →
    (∀ r : Region, s.panel.regions = some r :: List.replicate 14 none → r.balance = none → r.driving = true →
      r.aborting = false → s.panel.queue = [] →
      let g := if r.playing then r.f + 1 else r.f
      (g < r.n → small ∨ (readOk = true ∧ a.linesOk = true) →
        exec (.frameSlot true readOk 0) s = .next { s with
          panel := { s.panel with driving := true, rest := s.throttled, crackFails := 0, fetchBad := 0,
                                  regions := some { r with f := g, playing := true } :: List.replicate 14 none },
          cfg := { s.cfg with inForce := a.cfg.inForce }, chain.stage := 5 }) ∧
      (r.n ≤ g → r.req.blink = none →
        ∃ u, exec (.frameSlot true readOk 0) s = .next u ∧ u.raised 93 ∧
          u.panel = { s.panel with driving := false, crackFails := 0, fetchBad := 0, regions := List.replicate 15 none,
                                   frame := (regionDone 1 r a).panel.frame } ∧
          u = { s with panel := u.panel, evt := u.evt, cfg := { s.cfg with inForce := a.cfg.inForce }, chain.stage := 5 }) ∧
      (g < r.n → ¬small → readOk = false ∨ a.linesOk = false →
        ∃ u, exec (.frameSlot true readOk 0) s = .next u ∧ u.panel.fault = true ∧ u.panel.cause = 2 ∧
          u.panel.rails = .falling 0 ∧ u.raised 94 ∧
          Noted { s with panel := u.panel, cfg := { s.cfg with inForce := a.cfg.inForce }, bus.alarms := u.bus.alarms,
                         chain.stage := 5 } u)) ∧
    (∀ rs : List (Option Region), s.panel.regions = rs → rs.length = 15 → s.panel.queue = [] →
      (∃ r, some r ∈ rs ∧ (r.driving = true ∨ r.balance ≠ none ∨ r.aborting = true)) →
      (∀ r, some r ∈ rs → r.after.balance ≠ some 0 ∧ (r.after.balance = none → r.driving = true → r.after.f < r.n) ∧
        (r.req.blink ≠ none → r.after.driving = true ∨ r.after.balance ≠ none)) →
      small ∨ (readOk = true ∧ a.linesOk = true) →
      exec (.frameSlot true readOk 0) s = .next { s with
        panel := { s.panel with
          driving := true, rest := s.throttled, crackFails := 0, fetchBad := 0,
          regions := rs.map (fun o => o.map (fun r =>
            { r.after with playing := r.after.driving || r.after.balance.isSome })) },
        cfg := { s.cfg with inForce := a.cfg.inForce }, chain.stage := 5 }) ∧
    (∀ (r : Region) (period : Nat), s.panel.regions = some r :: List.replicate 14 none → r.balance = none → r.driving = true →
      r.aborting = false → r.stopping = false → r.req.blink = some period → s.panel.queue = [] →
      s.sup.mode = .run → s.safe = false → r.n ≤ (if r.playing then r.f + 1 else r.f) →
      let d := phaseDone 1 r a
      let w := mapRect r.req.rect (fun w => pxWord (pxTarget w) (pxRegion w) (pxStaging w) (pxCurrent w)) d
      let due : Prop := ((4096 * (r.phase * s.secMc period) : Nat) : Int) ≤ s.ptSince r.startMc r.startPt
      (due → small ∨ (readOk = true ∧ w.linesOk = true) →
        exec (.frameSlot true readOk 0) s = .next { s with
          panel := { s.panel with
            driving := true, rest := s.throttled, crackFails := 0, fetchBad := 0, frame := w.panel.frame,
            regions := some { r with f := 0, playing := true, phase := r.phase + 1, band := s.panel.bandRun,
                                     n := wfFrames p s.panel.bandRun r.req.mode } :: List.replicate 14 none },
          cfg := { s.cfg with inForce := a.cfg.inForce }, chain.stage := 5 }) ∧
      (¬due → exec (.frameSlot true readOk 0) s = .next { s with
          panel := { s.panel with
            driving := false, crackFails := 0, fetchBad := 0, frame := d.panel.frame,
            regions := some { r with driving := false, f := 0, playing := false } :: List.replicate 14 none },
          cfg := { s.cfg with inForce := a.cfg.inForce }, chain.stage := 5 })) ∧
    (∀ (r : Region) (n : Nat), 1 ≤ n → n ≤ 15 → s.panel.regions = (List.replicate 15 none).set (n - 1) (some r) →
      s.panel.queue = [] → r.balance = some 1 → r.playing = true → r.aborting = false →
      ∃ u, exec (.frameSlot true readOk 0) s = .next u ∧ u.raised 93 ∧
        u.panel = { s.panel with driving := false, crackFails := 0, fetchBad := 0, regions := List.replicate 15 none,
                                 frame := (regionFree n r a).panel.frame } ∧
        u = { s with panel := u.panel, evt := u.evt, cfg := { s.cfg with inForce := a.cfg.inForce }, chain.stage := 5 }) ∧
    (∀ q : PnlReq, s.panel.regions = List.replicate 15 none → s.panel.queue = [q] → s.sup.mode = .run → s.safe = false →
      small ∨ (readOk = true ∧ (startRegion q 1 p a).linesOk = true) →
      exec (.frameSlot true readOk 0) s = .next { s with
        panel := { s.panel with
          driving := true, rest := s.throttled, crackFails := 0, fetchBad := 0, queue := [],
          frame := (startRegion q 1 p a).panel.frame,
          regions := some { req := q, band := s.panel.bandRun, n := wfFrames p s.panel.bandRun q.mode,
                            startMc := s.chain.mc, startPt := s.chain.pt.toNat, playing := true } :: List.replicate 14 none },
        cfg := { s.cfg with inForce := a.cfg.inForce }, chain.stage := 5 })) ∧
  (∀ (s : State) (p : List Byte) (readOk : Bool), s.slotDue = true → s.panel.fault = false → s.panel.wfBad = false →
    s.panel.wf = some p → s.panel.wfPend = none → s.panel.rest = false → s.panel.bandMeas = s.panel.bandRun →
    s.panel.bandPend = false → s.panel.tempSeen = true → s.panel.queue = [] → s.panel.regions = List.replicate 15 none →
    let a := panelLive s
    a.cb .panel 0 3 15 = true →
    let m := if a.pf 2 18 17 < wfModes p then a.pf 2 18 17 else 0
    (s.panel.clearing = .due → s.quireStarts = true → s.panel.rails = .on →
      exec (.frameSlot true readOk 0) s = .next { s with
        panel := { s.panel with
          driving := true, rest := s.throttled, crackFails := 0, fetchBad := 0,
          clearing := .running m (a.pf 2 22 19) s.panel.bandRun 0 (wfFrames p s.panel.bandRun m) },
        cfg := { s.cfg with inForce := a.cfg.inForce }, chain.stage := 5 }) ∧
    (s.panel.clearing = .due → s.quireStarts = true → s.panel.rails = .off →
      exec (.frameSlot true readOk 0) s = .next { s with
        panel := { s.panel with driving := false, crackFails := 0, fetchBad := 0, rails := .rising 0,
                                railMv := s.bandRails s.panel.bandRun },
        cfg := { s.cfg with inForce := a.cfg.inForce }, chain.stage := 5 }) ∧
    (∀ k lv b f n, s.panel.clearing = .running k lv b f n → s.panel.driving = true → s.panel.rails = .on →
      (f + 1 < n →
        exec (.frameSlot true readOk 0) s = .next { s with
          panel := { s.panel with rest := s.throttled, crackFails := 0, fetchBad := 0, clearing := .running k lv b (f + 1) n },
          cfg := { s.cfg with inForce := a.cfg.inForce }, chain.stage := 5 }) ∧
      (n ≤ f + 1 →
        ∃ u, exec (.frameSlot true readOk 0) s = .next u ∧ u.raised 93 ∧
          u.panel = { s.panel with
            driving := false, crackFails := 0, fetchBad := 0, clearing := .none, cleared := true,
            frame := (lineCrcs a.panelRect (mapRect a.panelRect (fun _ => pxWord lv 0 lv lv) a)).panel.frame } ∧
          u = { s with panel := u.panel, evt := u.evt, cfg := { s.cfg with inForce := a.cfg.inForce }, chain.stage := 5 }))) ∧
  (∀ s : State, s.clk.pllLocked = true →
    let p := s.panel
    (∀ i, p.rails = .rising i → exec (.railPowerGood i) s = .next { s with panel.rails := .riseDelay i }) ∧
    (∀ i b good, p.rails = .moving b good → i < 5 → good.contains i = false →
      (List.range 5).all (fun k => (good ++ [i]).contains k) = false →
      exec (.railPowerGood i) s = .next { s with panel.rails := .moving b (good ++ [i]) }) ∧
    (∀ i b good, p.rails = .moving b good → good.contains i = false →
      (List.range 5).all (fun k => (good ++ [i]).contains k) = true →
      exec (.railPowerGood i) s = .next { s with panel.rails := .moveDelay b }) ∧
    (∀ i, p.rails = .riseDelay i →
      exec .railSeqDelayExpiry s = .next { s with panel.rails := if i < 4 then .rising (i + 1) else .on }) ∧
    (∀ i, p.rails = .fallDelay i → exec .railSeqDelayExpiry s = .next { s with panel.rails := .falling (i + 1) }) ∧
    (∀ b, p.rails = .moveDelay b → p.bandMeas = b →
      ∃ u, exec .railSeqDelayExpiry s = .next u ∧
        Noted { s with panel := { p with rails := .on, bandPend := false, bandRun := b } } u) ∧
    (∀ k, p.rails = .falling k → k ≤ 4 →
      exec (.railFallen (4 - k)) s = .next { s with panel.rails := if k = 4 then .off else .fallDelay k }) ∧
    (p.rails = .on → s.quireDrives = false → exec .railHoldExpiry s = .next { s with panel.rails := .falling 0 }) ∧
    (p.clearing = .waitTemp → exec .clearingTempTimeout s = .next { s with panel.clearing := .due })) ∧
  (∀ s : State, s.panel.regions.length = 15 → s.clk.pllLocked = true →
    let faulted (c : Nat) (u : State) : Prop :=
      u.panel.fault = true ∧ u.panel.cause = c ∧ u.panel.queue = [] ∧ u.panel.regions = List.replicate 15 none ∧
      u.panel.clearing = .none ∧ u.panel.driving = false ∧ u.panel.rails = .falling 0 ∧ u.raised 94 ∧
      Noted { s with panel := u.panel, bus.alarms := u.bus.alarms } u
    (s.panel.fault = false → s.panel.wfPend = none →
      (∀ c, s.released = true → s.pnlEn = true → s.panel.rails = .on → 3 ≤ c → c ≤ 5 →
        ∃ u, exec (.panelFault c) s = .next u ∧ faulted c u) ∧
      (∀ i, s.panel.rails = .rising i → ∃ u, exec (.railFault false) s = .next u ∧ faulted 4 u) ∧
      (s.panel.rails = .on → ∃ u, exec (.railFault true) s = .next u ∧ faulted 5 u)) ∧
    (∀ crackOk readOk fetchBad, s.slotDue = true → s.panel.fault = true → (panelLive s).crackWatched = true →
      exec (.frameSlot crackOk readOk fetchBad) s = .next { s with
        panel := { (panelLive s).panel with crackFails := if crackOk = true then 0 else min 2 (s.panel.crackFails + 1) },
        cfg := { s.cfg with inForce := (panelLive s).cfg.inForce }, chain.stage := 5 }) ∧
    (∀ (n : Nat) (r : Region) (period : Nat) (p : List Byte), 1 ≤ n → n ≤ 15 → s.region n = some r →
      r.req.blink = some period → s.panel.wf = some p → r.driving = false → r.balance = none → s.isFrameSlot = true →
      s.panel.bandPend = false → s.quireStarts = true → s.panel.fault = false → s.panel.rails = .on →
      ((4096 * (r.phase * s.secMc period) : Nat) : Int) ≤ s.ptSince r.startMc r.startPt →
      exec (.blinkPhase n) s = .next (setRegion n (some { r with
          driving := true, f := 0, phase := r.phase + 1, band := s.panel.bandRun,
          n := wfFrames p s.panel.bandRun r.req.mode })
        (mapRect r.req.rect (fun w => pxWord (pxTarget w) (pxRegion w) (pxStaging w) (pxCurrent w)) s))))

/-- R285, R290, R292, R293, R297, R299, R340, R364: the panel commands. That `PANEL.ABORT` of a tag takes the oldest request with it is the model's choice (notes/assumptions/45.md). -/
def Obligations.PanelCommands : Prop :=
  ∀ (s : State) (m : Msg), s.panel.wfPend = none →
    (s.executes 0x4001 m → m.plain 0 →
      Answers (.panelStatus m) s 0x4001 m 0 (leW s.pnlStatus ++ le16 ((s.panel.wf.map wfVersion).getD 0) ++ zeros 2 ++
        s.panel.regions.flatMap regionEntry) s) ∧
    (∀ n, s.executes 0x4002 m → m.plain (8 + n) →
      let r := rectAt m.payload 0
      let px := (r.x1 + 1 - r.x0) * (r.y1 + 1 - r.y0)
      s.rectOk r = true → n = (px + 1) / 2 → (px % 2 = 1 → getB (m.payload.drop 8) (px / 2) < 16) →
      (s.stagingLocked r = false →
        Answers (.panelWrite m) s 0x4002 m 0 [] (writeStaging r (m.payload.drop 8) s)) ∧
      (s.stagingLocked r = true → Answers (.panelWrite m) s 0x4002 m 0x0203 [] s)) ∧
    (∀ n, s.executes 0x4002 m → m.plain (8 + n) →
      let r := rectAt m.payload 0
      let px := (r.x1 + 1 - r.x0) * (r.y1 + 1 - r.y0)
      r.x0 ≤ r.x1 → r.y0 ≤ r.y1 → n ≠ (px + 1) / 2 → Answers (.panelWrite m) s 0x4002 m 0x0102 [] s) ∧
    (s.executes 0x4003 m → m.plain 12 → getB m.payload 0 < 4 → padOk m 1 3 = true → s.rectOk (rectAt m.payload 4) = true →
      AnswersObject (.panelRead m) s 0x4003 m (packLevels ((rectAt m.payload 4).pixels.map (fun p =>
        planeOf (getB m.payload 0) (fmRead s.panel.frame (p.2 * s.pnlW + p.1)))))) ∧
    (∀ p, s.executes 0x4004 m → m.plain 16 → s.pnlEn = true → getB m.payload 9 < 4 → padOk m 11 1 = true →
      padOk m 14 2 = true → s.rectOk (rectAt m.payload 0) = true →
      ((getB m.payload 9).testBit 1 = true → 1 ≤ getB m.payload 10 ∧ getB m.payload 10 ≤ 60) →
      ((getB m.payload 9).testBit 1 = false → getB m.payload 10 = 0) →
      s.panel.wf = some p → getB m.payload 8 < wfModes p → s.panel.fault = false → s.noTable = false →
      (s.panel.queue.length < 16 →
        Answers (.panelUpdate m) s 0x4004 m 0 (le8 s.panel.queue.length ++ zeros 3)
          { s with panel.queue := s.panel.queue ++ [updateReq m.payload] }) ∧
      (16 ≤ s.panel.queue.length → Answers (.panelUpdate m) s 0x4004 m 0x0105 [] s)) ∧
    (s.executes 0x4005 m → m.plain 4 →
      (∀ q, getB m.payload 0 = 0 → s.panel.queue.find? (fun q => q.tag == getH m.payload 2) = some q →
        Answers (.panelAbort m) s 0x4005 m 0 [] { s with panel.queue := s.panel.queue.erase q }) ∧
      (∀ r, getB m.payload 0 = 1 → 1 ≤ getB m.payload 1 → getB m.payload 1 ≤ 15 → s.region (getB m.payload 1) = some r →
        (r.aborting = true ∨ r.balance ≠ none → Answers (.panelAbort m) s 0x4005 m 0 [] s) ∧
        (r.aborting = false → r.balance = none → r.f = 0 → Answers (.panelAbort m) s 0x4005 m 0 [] (regionFree (getB m.payload 1) r s)) ∧
        (r.aborting = false → r.balance = none → r.f ≠ 0 → Answers (.panelAbort m) s 0x4005 m 0 []
          (setRegion (getB m.payload 1) (some { r with aborting := true }) s)))) ∧
    (∀ r, s.executes 0x4006 m → m.plain 4 → 1 ≤ getB m.payload 0 → getB m.payload 0 ≤ 15 → padOk m 1 3 = true →
      s.region (getB m.payload 0) = some r → r.req.blink ≠ none → r.driving = true →
      Answers (.panelBlinkStop m) s 0x4006 m 0 [] (setRegion (getB m.payload 0) (some { r with stopping := true }) s)) ∧
    (s.executes 0x4007 m → m.plain 0 → s.panel.fault = true →
      Answers (.panelClearFault m) s 0x4007 m 0 []
        (alarmsEval { s with panel := { s.panel with fault := false, cause := 0, clearing := .due } }))

/-! ## Keys (R301-R308) and the host window (R309-R326, R336-R339) -/

/-- R54, R301-R306, R365: a scan, sixth in the order of its PT, debounces each key over three readings, a key pressed alone is reported, a key held too long is masked; the key commands. -/
def Obligations.KeyMatrix : Prop :=
  ∀ s : State, s.keys.down.length = 64 → s.keys.opp.length = 64 → s.keys.stuck.length = 64 →
    (∀ raw : List Bool, s.released = true → s.clk.pllLocked = true → s.chain.pt = 1024 ∨ s.chain.pt = 3072 → s.chain.stage < 6 →
      ∃ u, exec (.keyScan raw) s = .next u ∧
        (u.kb 8 = true →
          (∀ i, i < 64 →
            let d := s.keys.down.getD i false
            let flips := raw.getD i false != d && decide (2 ≤ nth s.keys.opp i)
            u.keys.down.getD i false = (if flips then !d else d) ∧
            nth u.keys.opp i = (if raw.getD i false = d ∨ flips = true then 0 else nth s.keys.opp i + 1) ∧
            u.keys.stuck.getD i false = (s.keys.stuck.getD i false && u.keys.down.getD i false)) ∧
          u.keys.prev = u.keys.downNow ∧
          (∀ k, s.keys.prev = [] → s.keys.acc = none → u.keys.downNow = [k] → s.keys.fifo.length < 16 →
            u.keys.acc = some k ∧
            u.keys.fifo = s.keys.fifo ++ [{ mc := s.chain.mc.toNat % 2 ^ 24, press := true, stuck := false, key := k }])) ∧
        (u.kb 8 = false → u.keys.down = List.replicate 64 false ∧ u.keys.fifo = s.keys.fifo ∧ u.keys.acc = none) ∧
        Noted { s with keys := u.keys, cfg := { s.cfg with inForce := u.cfg.inForce }, chain.stage := 6 } u) ∧
    (∀ i, i < 64 → s.clk.pllLocked = true → s.kb 8 = true → s.keys.down.getD i false = true → s.keys.stuck.getD i false = false →
      s.secMc (s.cf .panel 0 4 7 0) ≤ s.mcSince (nth s.keys.since i) →
      ∃ u, exec (.keyStuckExpiry i) s = .next u ∧ u.keys.stuck.getD i false = true ∧ u.keys.down = s.keys.down ∧
        (s.keys.acc = some i → s.keys.fifo.length < 16 → u.keys.acc = none ∧
          u.keys.fifo = s.keys.fifo ++ [{ mc := s.chain.mc.toNat % 2 ^ 24, press := false, stuck := true, key := i }]) ∧
        Noted { s with keys := u.keys } u) ∧
    (∀ m, s.executes 0x4101 m → m.plain 4 → 1 ≤ getB m.payload 0 → getB m.payload 0 ≤ 16 → padOk m 1 3 = true →
      Answers (.keyRead m) s 0x4101 m 0
        (le8 (s.keys.fifo.take (getB m.payload 0)).length ++ zeros 3 ++
          (s.keys.fifo.take (getB m.payload 0)).flatMap (fun e => leW e.word))
        { s with keys := { s.keys with fifo := s.keys.fifo.drop (getB m.payload 0) } }) ∧
    (∀ m, s.executes 0x4102 m → m.plain 0 →
      Answers (.keyStatus m) s 0x4102 m 0 (leW s.keyStatus ++ le 8 s.keys.stuckMask)
        { s with keys := { s.keys with drop := 0, ovf := false } })

/-- R101, R311-R315, R316-R319, R322: HMISO sends the status byte and three zeros, a transaction that ends before its address aborts, a complete SPI write performs its register writes in order, with the CRC only when it checks; a read returns its words [31:24] first and then their CRC. That a read transaction which ends early sets `ABORT` is the model's reading (notes/assumptions/17.md). Over I²C a register is written by its two halves, and read as one value in two halves. -/
def Obligations.HostTransactions : Prop :=
  (∀ (s : State) (mosi : List Byte), s.spiOn = true →
    let c := getB mosi 0
    let n := c % 64 + 1
    let a := beVal (slice mosi 1 2)
    let data := mosi.drop 3
    let st : Byte := BitVec.ofNat 8 s.hwStatus.toNat
    let s0 : State := { s with host := { s.host with
      readStatus := st, readBytes := [], miso := ([st, 0, 0, 0] : List Byte).take mosi.length } }
    (mosi.length < 3 → c.testBit 7 = false → exec (.spiWriteTransaction mosi) s =
      .next { s0 with host := { s0.host with err := { s.host.err with abort := true } } }) ∧
    (mosi.length < 3 → c.testBit 7 = true → exec (.spiReadTransaction mosi) s =
      .next { s0 with host := { s0.host with err := { s.host.err with abort := true } } }) ∧
    (a % 4 = 0 →
    (c.testBit 7 = false →
      (s.host.crcEn = false → mosi.length = 3 + 4 * n →
        exec (.spiWriteTransaction mosi) s = .next (burstWrite (c.testBit 6) a (spiWords data n) 0 s0)) ∧
      (s.host.crcEn = true → mosi.length = 5 + 4 * n →
        (crc16 (mosi.take (3 + 4 * n)) = beVal (slice data (4 * n) 2) →
          exec (.spiWriteTransaction mosi) s = .next (burstWrite (c.testBit 6) a (spiWords data n) 0 s0)) ∧
        (crc16 (mosi.take (3 + 4 * n)) ≠ beVal (slice data (4 * n) 2) →
          exec (.spiWriteTransaction mosi) s = .next { s0 with host := { s0.host with
            err := { s.host.err with crc := true }, crcCnt := incSat 16 s.host.crcCnt } }))) ∧
    (c.testBit 7 = true →
      let words := (spiReadWords (c.testBit 6) a n 0 s0).1
      (s.host.crcEn = false → mosi.length = 4 + 4 * n →
        ∃ u, exec (.spiReadTransaction mosi) s = .next u ∧ u.host.readBytes = words.flatMap wordBE ∧
          u.host.readStatus = st ∧ u.host.miso = [st, 0, 0, 0] ++ words.flatMap wordBE ∧
          u = { s with host := u.host, mbox := u.mbox }) ∧
      (s.host.crcEn = true → mosi.length = 6 + 4 * n →
        ∃ u, exec (.spiReadTransaction mosi) s = .next u ∧
          u.host.readBytes =
            words.flatMap wordBE ++ (le16 (crc16 (mosi.take 3 ++ words.flatMap wordBE))).reverse ∧
          u = { s with host := u.host, mbox := u.mbox })))) ∧
  (∀ (s : State) (a : Nat), s.windowOn = true → s.host.hsel = true → a % 4 = 0 → a < 65536 →
    (∀ l1 l0 h1 h0 : Byte, s.host.crcEn = false →
      exec (.i2cWrite s.i2cAddr ((le16 a).reverse ++ [1, l1, l0, h1, h0])) s =
        .next (regWrite a (w32 (65536 * (h1.toNat * 256 + h0.toNat) + (l1.toNat * 256 + l0.toNat)))
          { s with host := { s.host with i2cHeld := none } })) ∧
    (isPort a = false → s.host.crcEn = false →
      ∃ u, exec (.i2cRead s.i2cAddr a 1) s = .next u ∧
        u.host.readBytes = (le16 (fld (regRead a s).1 15 0)).reverse ++ (le16 (fld (regRead a s).1 31 16)).reverse ∧
        u.host.i2cLatch = some (a, fld (regRead a s).1 31 16) ∧ u = { s with host := u.host }) ∧
    (∀ target wire, target ≠ s.i2cAddr → exec (.i2cWrite target wire) s = .next s) ∧
    (∀ wire : List Byte, s.host.crcEn = false → wire.length < 5 →
      exec (.i2cWrite s.i2cAddr wire) s =
        .next { s with host := { s.host with err := { s.host.err with proto := true } } }))

/-- R11, R310, R320, R322, R323-R325, R336, R337, R339: For every value written, doorbells post the free inbound and release the full outbound mailboxes they name and flag the others, a pointer takes a value its field admits, and a data port moves its pointer; each flags what it refuses, in every state of its mailbox. The event and error registers clear the bits written with 1; the queue drops its oldest entry; read-only words ignore a write, and every reserved address, below 0x800 too, reads 0 and is flagged, as a misaligned one is; while the window does not respond nothing happens. A raise sets its source's summary bit; of an unmasked source it appends an entry to the queue, which is lost, and noted in `EVQ_LOST`, when 256 entries wait; a source that the mask leaves out gives no entry. -/
def Obligations.WindowAccesses : Prop :=
  (∀ s : State, s.windowOn = true → s.mbox.inSt.length = 4 → s.mbox.inPtr.length = 4 →
    s.mbox.outSt.length = 4 → s.mbox.outPtr.length = 4 →
    let seq (b : Bool) : HostErr := { s.host.err with mbSeq := s.host.err.mbSeq || b }
    let ovr (b : Bool) : HostErr := { s.host.err with mbOvr := s.host.err.mbOvr || b }
    (∀ v : Word, ∃ u, exec (.mbInDb v) s = .next u ∧
      (∀ i, i < 4 → let goes := v.getLsbD i && decide (nth s.mbox.inSt i = .free)
        nth u.mbox.inSt i = (if goes then .posted else nth s.mbox.inSt i) ∧
        nth u.mbox.inPtr i = (if goes then 0 else nth s.mbox.inPtr i)) ∧
      u.mbox.posted = s.mbox.posted ++
        (List.range 4).filter (fun i => v.getLsbD i && decide (nth s.mbox.inSt i = .free)) ∧
      u = { s with
        mbox := { s.mbox with inSt := u.mbox.inSt, inPtr := u.mbox.inPtr, posted := u.mbox.posted },
        host := { s.host with err := seq ((List.range 4).any (fun i => v.getLsbD i && decide (nth s.mbox.inSt i ≠ .free))) } }) ∧
    (∀ v : Word, ∃ u, exec (.mbOutDb v) s = .next u ∧
      (∀ j, j < 4 → let goes := v.getLsbD j && decide (nth s.mbox.outSt j = .full)
        nth u.mbox.outSt j = (if goes then .free else nth s.mbox.outSt j) ∧
        nth u.mbox.outPtr j = (if goes then 0 else nth s.mbox.outPtr j)) ∧
      u = { s with
        mbox := { s.mbox with outSt := u.mbox.outSt, outPtr := u.mbox.outPtr },
        host := { s.host with err := seq ((List.range 4).any (fun j => v.getLsbD j && decide (nth s.mbox.outSt j ≠ .full))) } }) ∧
    (∀ i, i < 4 → ∀ v : Word, ∀ outb : Bool,
      let p := v.toNat % 8192
      let may := if outb then nth s.mbox.outSt i = .full else nth s.mbox.inSt i = .free
      let fits := p % 4 = 0 ∧ p ≤ 4096
      ∃ u, exec (.mbPtrWrite outb i v) s = .next u ∧
        (may → fits → u = { s with mbox := { s.mbox with
          inPtr := if outb then s.mbox.inPtr else s.mbox.inPtr.set i p,
          outPtr := if outb then s.mbox.outPtr.set i p else s.mbox.outPtr } }) ∧
        (may → ¬fits → u = { s with host := { s.host with err := { s.host.err with
          align := s.host.err.align || decide (p % 4 ≠ 0), mbOvr := s.host.err.mbOvr || decide (4096 < p) } } }) ∧
        (¬may → u = { s with host := { s.host with err := { seq true with
          align := s.host.err.align || decide (p % 4 ≠ 0), mbOvr := s.host.err.mbOvr || decide (4096 < p) } } })) ∧
    (∀ i, i < 4 → ∀ v : Word, ∃ u, exec (.mbInDataWrite i v) s = .next u ∧
      (nth s.mbox.inSt i = .free → nth s.mbox.inPtr i < 4096 → u = { s with mbox := { s.mbox with
        inBuf := s.mbox.inBuf.set i (bufSet (nth s.mbox.inBuf i) (nth s.mbox.inPtr i / 4) v),
        inPtr := s.mbox.inPtr.set i (nth s.mbox.inPtr i + 4) } }) ∧
      (nth s.mbox.inSt i = .free → 4096 ≤ nth s.mbox.inPtr i → u = { s with host := { s.host with err := ovr true } }) ∧
      (nth s.mbox.inSt i ≠ .free → u = { s with host := { s.host with err := { seq true with
        mbOvr := s.host.err.mbOvr || decide (4096 ≤ nth s.mbox.inPtr i) } } })) ∧
    (∀ j, j < 4 → ∃ u, exec (.mbOutDataRead j) s = .next u ∧
      (nth s.mbox.outPtr j < 4096 → u = { s with
        mbox := { s.mbox with outPtr := s.mbox.outPtr.set j (nth s.mbox.outPtr j + 4) },
        host := { s.host with readBytes := leW (bufWord (nth s.mbox.outBuf j) (nth s.mbox.outPtr j / 4)) } }) ∧
      (4096 ≤ nth s.mbox.outPtr j → u = { s with host := { s.host with err := ovr true, readBytes := leW 0 } }))) ∧
  (∀ (s : State) (v : Word),
    (∀ (a k : Nat) (outb : Bool), s.windowOn = false → ∀ c ∈ [Instr.mbInDb v, .mbOutDb v, .mbPtrWrite outb k v,
      .mbInDataWrite k v, .mbOutDataRead k, .evqPop v, .evtSummaryClear k v, .evqLostClear k v, .hostErrClear v,
      .registerWrite a v], exec c s = .next s) ∧
    (s.windowOn = true →
    (exec (.evqPop v) s = .next { s with evt := { s.evt with queue := s.evt.queue.drop 1 } }) ∧
    (∀ k, k < 4 → ∃ u, exec (.evtSummaryClear k v) s = .next u ∧
      (∀ b, b < 128 → u.evt.summary.getLsbD b = (s.evt.summary.getLsbD b && !(decide (b / 32 = k) && v.getLsbD (b % 32)))) ∧
      u = { s with evt := { s.evt with summary := u.evt.summary } }) ∧
    (∀ k, k < 4 → ∃ u, exec (.evqLostClear k v) s = .next u ∧
      (∀ b, b < 128 → u.evt.lost.getLsbD b = (s.evt.lost.getLsbD b && !(decide (b / 32 = k) && v.getLsbD (b % 32)))) ∧
      u = { s with evt := { s.evt with lost := u.evt.lost } }) ∧
    (∃ u, exec (.hostErrClear v) s = .next u ∧
      u.host.err.crc = (s.host.err.crc && !v.getLsbD 0) ∧ u.host.err.align = (s.host.err.align && !v.getLsbD 1) ∧
      u.host.err.abort = (s.host.err.abort && !v.getLsbD 2) ∧ u.host.err.unmapped = (s.host.err.unmapped && !v.getLsbD 4) ∧
      u.host.err.proto = (s.host.err.proto && !v.getLsbD 5) ∧ u.host.err.mbSeq = (s.host.err.mbSeq && !v.getLsbD 6) ∧
      u.host.err.mbOvr = (s.host.err.mbOvr && !v.getLsbD 7) ∧
      u = { s with host := { s.host with err := u.host.err } }) ∧
    (exec (.registerWrite 0x08 v) s =
      .next { s with host := { s.host with irqEn := v.getLsbD 1, crcEn := v.getLsbD 0 } }) ∧
    (∀ a, a ∈ [0x00, 0x04, 0x14, 0x1C, 0x30, 0x40, 0x44, 0x4C] ∨ (0x400 ≤ a ∧ a ≤ 0x7F8) → a % 4 = 0 →
      exec (.registerWrite a v) s = .next s) ∧
    (exec (.registerWrite 0x0C v) s = exec (.hostErrClear v) s ∧ exec (.registerWrite 0x10 v) s = exec (.mbInDb v) s ∧
      exec (.registerWrite 0x18 v) s = exec (.mbOutDb v) s ∧ exec (.registerWrite 0x48 v) s = exec (.evqPop v) s) ∧
    (∀ k, k < 4 →
      exec (.registerWrite (0x100 + 0x20 * k) v) s = exec (.mbPtrWrite false k v) s ∧
      exec (.registerWrite (0x104 + 0x20 * k) v) s = exec (.mbInDataWrite k v) s ∧
      exec (.registerWrite (0x180 + 0x20 * k) v) s = exec (.mbPtrWrite true k v) s ∧
      exec (.registerWrite (0x184 + 0x20 * k) v) s = .next s ∧
      exec (.registerWrite (0x200 + 4 * k) v) s = exec (.evtSummaryClear k v) s ∧
      exec (.registerWrite (0x240 + 4 * k) v) s = exec (.evqLostClear k v) s ∧
      ∃ u, exec (.registerWrite (0x220 + 4 * k) v) s = .next u ∧
        (∀ b, b < 128 → u.evt.mask.getLsbD b = (if b / 32 = k then v.getLsbD (b % 32) else s.evt.mask.getLsbD b)) ∧
        u = { s with evt := { s.evt with mask := u.evt.mask } }) ∧
    (∀ a, a < 65536 → a % 4 = 0 →
      a ∈ [0x20, 0x24, 0x28, 0x2C, 0x34, 0x38, 0x3C] ∨ (0x50 ≤ a ∧ a < 0x100) ∨ (0x100 ≤ a ∧ a < 0x200 ∧ 8 ≤ a % 0x20) ∨
        (0x200 ≤ a ∧ a < 0x400 ∧ (0x10 ≤ a % 0x20 ∨ 0x260 ≤ a)) ∨ 0x7FC ≤ a →
      regRead a s = (0, { s with host := { s.host with err := { s.host.err with unmapped := true } } }) ∧
      exec (.registerWrite a v) s = .next { s with host := { s.host with err := { s.host.err with unmapped := true } } }) ∧
    (∀ a, a % 4 ≠ 0 →
      exec (.registerWrite a v) s = .next { s with host := { s.host with err := { s.host.err with align := true } } }))) ∧
  (∀ (s : State) (src code detail : Nat), src < 128 →
    (let t := raiseWith src code detail s
     (∀ b, b < 128 → t.evt.summary.getLsbD b = (s.evt.summary.getLsbD b || decide (b = src))) ∧
     t.evt.mask = s.evt.mask ∧
     (s.evt.mask.getLsbD src = false → t.evt.queue = s.evt.queue ∧ t.evt.lost = s.evt.lost) ∧
     (s.evt.mask.getLsbD src = true → s.evt.queue.length < 256 → t.evt.lost = s.evt.lost ∧
       t.evt.queue = s.evt.queue ++ [{ source := src, code := code, detail := detail, mc := s.chain.mc }]) ∧
     (s.evt.mask.getLsbD src = true → 256 ≤ s.evt.queue.length → t.evt.queue = s.evt.queue ∧
       ∀ b, b < 128 → t.evt.lost.getLsbD b = (s.evt.lost.getLsbD b || decide (b = src))) ∧
     t = { s with evt := t.evt }) ∧
    (s.act.bstOv = true → s.bushel.closed = false → s.bushel.ring.length < 64 → ∃ u, exec .bstOvRelease s = .next u ∧ u.evt = (raiseWith 92 0 0 s).evt) ∧
    (∀ e rest, s.evt.queue = e :: rest → e.source < 128 → e.code < 256 → e.detail < 65536 →
      (regRead 0x40 s).1 = w32 (2 ^ 31 + e.source * 2 ^ 24 + e.code * 65536 + e.detail) ∧ (regRead 0x44 s).1 = e.mc) ∧
    (s.evt.queue = [] → (regRead 0x40 s).1 = 0 ∧ (regRead 0x44 s).1 = 0))

/-- R326, R327, R329, R330, R331, R332, R387: The oldest posted mailbox is accepted into the lowest free outbound one; a message that fails its checks is answered at once. 60 s without a new chunk end an inbound object of the host, 60 s without a write end a file in progress and the object it has brought, and 60 s without a fetch release a response object. That the 60 s count in local MC, apart for the host's object and the file, and that nothing happens before them, are the model's choices (notes/assumptions/40.md, 81.md). An inbound object: chunk 0 begins one of its command and abandons one before it, unless another command's is in progress; each chunk is the next, of the same total and of the length its place asks for, and `LAST` completes it; any other chunk of its command is `ST_BAD_ARG` and abandons it. A chunk of `PANEL.WRITE` is answered so, and its last one writes the staging plane. -/
def Obligations.MailboxAcceptance : Prop :=
  (∀ (s : State) (i j : Nat) (rest : List Nat), s.appUp = true → s.mbox.posted = i :: rest →
    (List.range 4).find? (fun k => nth s.mbox.outSt k == .free) = some j → s.mbox.accepted = [] →
    s.mbox.waiting = none → s.mbox.inSt.length = 4 → s.mbox.outSt.length = 4 → i < 4 →
    let b := inBytes s i
    let tag := BitVec.ofNat 16 (getH b 2)
    (acceptCheck b cmdDefined = none →
      exec .mbAccept s = .next { s with mbox := { s.mbox with
        posted := rest, inSt := s.mbox.inSt.set i .accepted, inPtr := s.mbox.inPtr.set i 0,
        outSt := s.mbox.outSt.set j .reserved, outPtr := s.mbox.outPtr.set j 0,
        accepted := [{ inb := i, outb := j, cmd := getH b 0, err := none,
                       msg := { tag := tag, chunk := (getH b 8).testBit 0, last := (getH b 8).testBit 1,
                                payload := slice b 0x10 (getW b 4) } }] } }) ∧
    (∀ st, acceptCheck b cmdDefined = some st →
      ∃ u, exec .mbAccept s = .next u ∧
        u.mbox.lastResp = some { cmd := getH b 0, tag := tag, status := st, payload := [] } ∧
        nth u.mbox.inSt i = .free ∧ nth u.mbox.outSt j = .full ∧ u.mbox.accepted = [] ∧ u.mbox.posted = rest ∧
        u.raised (112 + i) ∧ u.raised (116 + j) ∧ u = { s with mbox := u.mbox, evt := u.evt })) ∧
  (∀ s : State,
    (s.clk.pllLocked = false → exec .chunkObjectTimeout s = .next s ∧ ∀ code, exec (.responseObjectTimeout code) s = .next s) ∧
    (s.clk.pllLocked = true →
    let stale (mc : Word) : Prop := 60 * s.mcPerSec ≤ s.mcSince mc
    (∀ c, s.mbox.chunkIn = some c → c.bus = false → stale c.mc →
      ∃ u, exec .chunkObjectTimeout s = .next u ∧ u.mbox = { s.mbox with chunkIn := none } ∧
        (s.bus.file = none → u.bus = s.bus) ∧
        (∀ f, s.bus.file = some f → (stale f.mc → u.bus = { s.bus with file := none }) ∧ (¬stale f.mc → u.bus = s.bus)) ∧
        u = { s with mbox := u.mbox, bus := u.bus }) ∧
    (∀ c, s.mbox.chunkIn = some c → c.bus = false → ¬stale c.mc → s.bus.file = none →
      exec .chunkObjectTimeout s = .next s) ∧
    (∀ c f, s.mbox.chunkIn = some c → c.bus = true → s.bus.file = some f →
      (stale f.mc → exec .chunkObjectTimeout s =
        .next { s with mbox := { s.mbox with chunkIn := none }, bus := { s.bus with file := none } }) ∧
      (¬stale f.mc → exec .chunkObjectTimeout s = .next s)) ∧
    (s.mbox.chunkIn = none → s.bus.file = none → exec .chunkObjectTimeout s = .next s) ∧
    (∀ code, ∃ u, exec (.responseObjectTimeout code) s = .next u ∧
      (∀ o, o ∈ u.mbox.respObj ↔ o ∈ s.mbox.respObj ∧ ¬(o.cmd = code ∧ stale o.mc)) ∧
      u = { s with mbox := { s.mbox with respObj := u.mbox.respObj } }))) ∧
  (∀ (s : State) (cmd : Nat) (bus : Bool) (m : Msg),
    let no := getH m.payload 0
    let total := getW m.payload 4
    let data := m.payload.drop 8
    let lenOk : Prop := if m.last = true then 1 ≤ data.length ∧ data.length ≤ 4072 ∧ 4072 * no + data.length = total
      else data.length = 4072 ∧ 4072 * no + 4072 < total
    let good : Prop := 8 ≤ m.payload.length ∧ getH m.payload 2 = 0 ∧ lenOk
    let put (c : Option ChunkIn) : State := { s with mbox := { s.mbox with chunkIn := c } }
    let other : Prop := ∃ c, s.mbox.chunkIn = some c ∧ c.cmd ≠ cmd
    (good → no = 0 → ¬ other →
      (m.last = true → takeChunk cmd bus m s = (put none, .whole data)) ∧
      (m.last = false → takeChunk cmd bus m s =
        (put (some { cmd := cmd, bus := bus, total := total, next := 1, data := data, mc := s.chain.mc }), .more))) ∧
    (good → no = 0 → other → takeChunk cmd bus m s = (s, .err 0x0203)) ∧
    (∀ c, good → no ≠ 0 → s.mbox.chunkIn = some c → c.cmd = cmd → no = c.next → total = c.total →
      (m.last = true → takeChunk cmd bus m s = (put none, .whole (c.data ++ data))) ∧
      (m.last = false → takeChunk cmd bus m s =
        (put (some { c with next := c.next + 1, data := c.data ++ data, mc := s.chain.mc }), .more))) ∧
    (¬ good ∨ (no ≠ 0 ∧ ∀ c, s.mbox.chunkIn = some c → c.cmd ≠ cmd ∨ no ≠ c.next ∨ total ≠ c.total) →
      (other → takeChunk cmd bus m s = (s, .err 0x0104)) ∧ (¬ other → takeChunk cmd bus m s = (put none, .err 0x0104))) ∧
    (s.executes 0x4002 m → m.chunk = true →
      let r := takeChunk 0x4002 false m s
      let answers (st : Nat) (s' : State) : Prop := ∃ t, exec (.panelWrite m) s = .next t ∧
        t.mbox.lastResp = some { cmd := 0x4002, tag := m.tag, status := st, payload := [] } ∧
        t.mbox.chunkIn = r.1.mbox.chunkIn ∧ t = { s' with mbox := t.mbox, evt := t.evt }
      (∀ st, r.2 = .err st → answers st s) ∧ (r.2 = .more → answers 0 s) ∧
      (∀ d, r.2 = .whole d → 8 ≤ d.length → s.rectOk (rectAt d 0) = true → (d.drop 8).length = ((rectAt d 0).count + 1) / 2 →
        ((rectAt d 0).count % 2 = 1 → getB (d.drop 8) ((rectAt d 0).count / 2) < 16) →
        s.stagingLocked (rectAt d 0) = false → answers 0 (writeStaging (rectAt d 0) (d.drop 8) s))))

/-! ## System, identity, sensing, actuator, fan, Acre, recorder and health commands (R25-R28, R355-R366) -/

/-- R21, R25-R28, R176, R192, R346, R355, R361, R428: The mode commands from Run and back. That a Quiet commanded by the host is kept as such is the model's choice (notes/assumptions/77.md). The other commands of the system group. That a `SYS.NV_WRITE` goes ahead unless a codeword it overwrites in part is uncorrectable is the model's choice (notes/assumptions/79.md). -/
def Obligations.ModeAndSystemCommands : Prop :=
  (∀ (s : State) (m : Msg), s.executes 0x0002 m → m.plain 4 → padOk m 1 3 = true → s.test.running = false →
    s.released = true →
    (getB m.payload 0 = 2 → s.sup.mode = .run →
      Answers (.sysSetMode m) s 0x0002 m 0 [] { s with sup := { s.sup with
        mode := .quiet, quietMc := s.chain.mc, quietByStone := false, quietByHost := true } }) ∧
    (getB m.payload 0 = 1 → s.sup.mode = .quiet →
      Answers (.sysSetMode m) s 0x0002 m 0 [] { s with sup := { s.sup with
        mode := .run, quietByStone := false, quietByHost := false } }) ∧
    (getB m.payload 0 = 2 → s.sup.mode = .hold → Answers (.sysSetMode m) s 0x0002 m 0x0203 [] s) ∧
    (getB m.payload 0 = 3 → s.sup.mode = .run → s.rood.loops.length = 128 →
      ∃ t, exec (.sysSetMode m) s = .next t ∧
        t.mbox.lastResp = some { cmd := 0x0002, tag := m.tag, status := 0, payload := [] } ∧
        t.sup = { s.sup with mode := .hold } ∧
        (∀ l, 1 ≤ l → l ≤ 127 →
          ((s.loop l).dyn.st = .closed → (t.loop l).dyn.st = .opened ∧ (t.loop l).holdForced = true ∧
            (t.loop l).dyn.outWord = (s.loop l).dyn.outWord) ∧
          ((s.loop l).dyn.st ≠ .closed → (t.loop l).dyn = (s.loop l).dyn ∧ (t.loop l).holdForced = (s.loop l).holdForced)) ∧
        Noted { s with sup := t.sup, rood := { s.rood with loops := t.rood.loops }, mbox := t.mbox,
                       cfg := { s.cfg with inForce := t.cfg.inForce } } t) ∧
    (getB m.payload 0 = 1 → s.sup.mode = .hold →
      Answers (.sysSetMode m) s 0x0002 m 0 [] { s with
        sup := { s.sup with mode := .run },
        rood := { s.rood with loops := s.rood.loops.map (fun c =>
          if c.holdForced then { c with holdForced := false, closePend := true } else c) } })) ∧
  (∀ (s : State) (m : Msg),
    (s.executes 0x0001 m → m.plain 0 →
      Answers (.sysStatus m) s 0x0001 m 0
        (leW s.hwStatus ++ wordsBytes s.chainBlock ++ le16 s.chain.pt.toNat ++ zeros 2 ++ leW s.calWord ++ leW s.resetCause) s) ∧
    (s.executes 0x0003 m → m.plain 4 →
      Answers (.sysSetTime m) s 0x0003 m 0 [] { s with
        backup := { s.backup with calendar := w32 (getW m.payload 0), calValid := true },
        rood := { s.rood with
          slots := s.rood.slots.map (fun x => { x with acc := 0, cnt := 0, expCnt := 0 }),
          zones := s.rood.zones.map (fun z => { z with binPasses := 0, binOcc := 0, binSkip := false }) } }) ∧
    (s.executes 0x0004 m → m.plain 0 →
      (s.backup.calValid = true → Answers (.sysGetTime m) s 0x0004 m 0
        (leW s.backup.calendar ++ le16 (minuteOfWeek s.localNow) ++ le8 (1 + 2 * b2n (s.dstAt s.stdNow)) ++ zeros 1) s) ∧
      (s.backup.calValid = false → Answers (.sysGetTime m) s 0x0004 m 0 (le32 0xFFFFFFFF ++ le16 0xFFFF ++ zeros 2) s)) ∧
    (s.executes 0x0005 m → m.plain 4 →
      (getW m.payload 0 = 0xA5C3 →
        Answers (.sysReset m) s 0x0005 m 0 [] { s with sup := { s.sup with softPend := true } }) ∧
      (getW m.payload 0 ≠ 0xA5C3 → Answers (.sysReset m) s 0x0005 m 0x0104 [] s)) ∧
    (s.executes 0x0006 m → m.plain 8 → 1 ≤ getH m.payload 4 → getH m.payload 4 ≤ 4072 →
      getW m.payload 0 + getH m.payload 4 ≤ 262144 → padOk m 6 2 = true →
      nvBad s.nvm 0 (nvHostBase + getW m.payload 0) (getH m.payload 4) = false →
      Answers (.sysNvRead m) s 0x0006 m 0 (nvRead s.nvm 0 (nvHostBase + getW m.payload 0) (getH m.payload 4)) s) ∧
    (∀ n, s.executes 0x0007 m → m.plain (4 + n) → 1 ≤ n → n ≤ 4072 → getW m.payload 0 + n ≤ 262144 →
      s.thermalBars = false → s.bushel.closed = false →
      nvEdgeBad s.nvm 0 (nvHostBase + getW m.payload 0) n = false →
      ∃ t, exec (.sysNvWrite m) s = .next t ∧ (∃ b, t.mbox.waiting = some { cmd := 0x0007, tag := m.tag, boxes := b }) ∧
        t.nvm = { s.nvm with queue := upd s.nvm.queue 6 (fun l => l ++
          [{ job := .host, cws := nvCws s.nvm 0 (nvHostBase + getW m.payload 0) (m.payload.drop 4) }]) } ∧
        t = { s with nvm := t.nvm, mbox := t.mbox }) ∧
    (s.executes 0x0008 m → m.plain 0 → Answers (.sysGpioGet m) s 0x0008 m 0 (le16 s.gpioLevels ++ zeros 2) s) ∧
    (s.executes 0x0009 m → m.plain 4 →
      (∀ g, g < 16 → (getH m.payload 0).testBit g = true → s.cf .gpio g 0 7 6 ≠ 0) →
      ∃ o, (∀ g, g < 16 → o.getD g false =
          if (getH m.payload 0).testBit g then (getH m.payload 2).testBit g else s.gpio.out.getD g false) ∧
        Answers (.sysGpioSet m) s 0x0009 m 0 [] { s with gpio := { s.gpio with out := o } }))

/-- R11, R72, R99, R113, R114, R356, R358, R365: what the identity, sensing and Acre commands return. -/
def Obligations.ReadingCommands : Prop :=
  ∀ (s : State) (m : Msg),
    (s.executes 0x0101 m → m.plain 0 →
      Answers (.idGet m) s 0x0101 m 0
        (leW hwId ++ le 8 Config.serial.toNat ++ leW s.mgt.mr.verA ++ leW s.mgt.mr.verB ++ le8 s.mgt.mr.active ++
          le8 (b2n s.mgt.otp.provisioned) ++ le16 ((s.panel.wf.map wfVersion).getD 0) ++ le32 s.cfg.version ++
          le16 s.acreId ++ zeros 2) s) ∧
    (∀ f c, rangeArg 128 m = some (f, c) → s.executes 0x1001 m → m.plain 4 →
      Answers (.sensRead m) s 0x1001 m 0 ((List.range c).flatMap (fun i =>
        leW (nth s.sens.results (f + i)).codeWord ++ leW (nth s.sens.results (f + i)).mcEnd ++
          leW (nth s.sens.results (f + i)).value)) s) ∧
    (rangeArg 128 m = none → s.executes 0x1001 m → m.plain 4 → Answers (.sensRead m) s 0x1001 m 0x0104 [] s) ∧
    (∀ f c, rangeArg 32 m = some (f, c) → s.executes 0x1002 m → m.plain 4 →
      Answers (.sensPres m) s 0x1002 m 0 ((List.range c).flatMap (fun i => leW (s.presStatus (f + i)))) s) ∧
    (s.executes 0x1003 m → m.plain 0 →
      Answers (.sensHk m) s 0x1003 m 0 (s.sens.hk.flatMap (fun h => leW h.value ++ leW h.mcEnd)) s) ∧
    (s.executes 0x5101 m → m.plain 0 → Answers (.acreStatus m) s 0x5101 m 0 (wordsBytes s.chainBlock) s) ∧
    (s.executes 0x5103 m → m.plain 0 →
      AnswersObject (.acreMembers m) s 0x5103 m
        (let js := if s.acre.st = .master then s.acre.members else []
         le16 js.length ++ zeros 2 ++
           js.flatMap (fun j => le16 j.id ++ le8 j.cls ++ le8 j.slot ++ le8 j.channels ++ zeros 3)))

/-- R228, R248, R252, R257, R264, R268, R363: the actuator and fan commands. That `ACT.CLEAR` of either channel clears `PAIR_OFF`, and that a cleared boost fault starts its retries anew, are the model's choices (notes/assumptions/43.md, 93.md). -/
def Obligations.DriveCommands : Prop :=
  ∀ (s : State) (m : Msg),
    (∀ f c, rangeArg 32 m = some (f, c) → s.executes 0x3001 m → m.plain 4 →
      Answers (.actStatus m) s 0x3001 m 0 ((List.range c).flatMap (fun i =>
        leW (s.actStatus (f + i)) ++ leW (s.actAux (f + i)) ++ leW (s.actCount (f + i))) ++ leW s.boostStatus) s) ∧
    (s.executes 0x3002 m → m.plain 4 → getB m.payload 0 < 32 → padOk m 1 1 = true →
      Answers (.actSetReq m) s 0x3002 m 0 [] (updCh (getB m.payload 0) (fun c => { c with req := getH m.payload 2 }) s)) ∧
    (s.executes 0x3003 m → m.plain 8 → getB m.payload 4 < 2 → padOk m 5 3 = true →
      ∃ t, exec (.actClear m) s = .next t ∧
        t.mbox.lastResp = some { cmd := 0x3003, tag := m.tag, status := 0, payload := [] } ∧
        (∀ n, n < 32 → n < s.act.ch.length → n / 2 < s.act.pairs.length → (getW m.payload 0).testBit n = true →
          (t.ach n).shortSup = false ∧ (t.ach n).shortGnd = false ∧ (nth t.act.pairs (n / 2)).off = false) ∧
        (∀ n, n < 32 → (getW m.payload 0).testBit n = false →
          (t.ach n).shortSup = (s.ach n).shortSup ∧ (t.ach n).shortGnd = (s.ach n).shortGnd) ∧
        (getB m.payload 4 = 1 → s.act.latched = true → t.act.latched = false ∧ t.act.fault = false ∧ t.act.faultRetry = 0) ∧
        (getB m.payload 4 = 0 → t.act.latched = s.act.latched ∧ t.act.fault = s.act.fault) ∧
        Noted { s with act := t.act, mbox := t.mbox } t) ∧
    (∀ f c, rangeArg 16 m = some (f, c) → s.executes 0x3101 m → m.plain 4 →
      Answers (.fanStatus m) s 0x3101 m 0
        ((List.range c).flatMap (fun i => leW (s.fanStatus (f + i)) ++ leW (s.fanAux (f + i)))) s) ∧
    (s.executes 0x3102 m → m.plain 4 → getB m.payload 0 < 16 → padOk m 1 1 = true →
      Answers (.fanSetReq m) s 0x3102 m 0 [] (updFan (getB m.payload 0) (fun x => { x with req := getH m.payload 2 }) s)) ∧
    (s.executes 0x3103 m → m.plain 4 → padOk m 2 2 = true →
      ∃ t, exec (.fanClear m) s = .next t ∧
        t.mbox.lastResp = some { cmd := 0x3103, tag := m.tag, status := 0, payload := [] } ∧
        (∀ f, f < 16 → f < s.fans.ch.length → (getH m.payload 0).testBit f = true →
          t.fan f = { s.fan f with blocked := false, tachLost := false }) ∧
        (∀ f, f < 16 → (getH m.payload 0).testBit f = false → t.fan f = s.fan f) ∧
        Noted { s with fans := { s.fans with ch := t.fans.ch }, mbox := t.mbox } t)

/-- R366, R397, R402, R411, R412, R424, R443: the recorder and health commands. The serial that `LOG.WRITE` answers where its record is given none, 0, is the model's choice (notes/assumptions/21.md). -/
def Obligations.RecorderAndHealthCommands : Prop :=
  ∀ (s : State) (m : Msg),
    (s.executes 0x6001 m → m.plain 8 → 1 ≤ getB m.payload 4 → getB m.payload 4 ≤ 63 → padOk m 5 3 = true →
      s.nvm.bad = [] →
      Answers (.logRead m) s 0x6001 m 0
        (le8 (logRead (w32 (getW m.payload 0)) (getB m.payload 4) s).2.length ++ zeros 3 ++
          (logRead (w32 (getW m.payload 0)) (getB m.payload 4) s).2.flatten) s) ∧
    (s.executes 0x6002 m → m.plain 0 → Answers (.logStatus m) s 0x6002 m 0 (logStatus s) s) ∧
    (s.executes 0x6003 m → m.plain 0 →
      AnswersObject (.logSummary m) s 0x6003 m (sumBytes s.bushel.sum (b2n s.bushel.summaryMode))) ∧
    (s.executes 0x6004 m → m.plain 44 → getB m.payload 2 < 8 → padOk m 3 1 = true → s.bushel.closed = false →
      s.sup.restorePend = false →
      ∃ c t, c = { s with mbox := c.mbox } ∧ exec (.logWrite m) s = .next t ∧
        (let h : Happening := { typ := 9, sev := getB m.payload 2, source := getH m.payload 0, mc := s.chain.mc,
                                snap := getWords m.payload 4 10 }
         let a := serveRing c
         let b := serveOne h a
         let given : List Byte :=
           if b.bushel.nextSerial != a.bushel.nextSerial && !b.bushel.summaryMode then leW a.bushel.nextSerial else le32 0
         t.mbox.lastResp = some { cmd := 0x6004, tag := m.tag, status := 0, payload := given } ∧
         t = { b with mbox := t.mbox, evt := t.evt })) ∧
    (s.executes 0x7001 m → m.plain 0 →
      Answers (.healthStatus m) s 0x7001 m 0
        (le8 s.thermLevel ++ le8 (maskOf 5 (fun k => (nth s.therm.sensors k).valid)) ++ zeros 2 ++
          leW s.therm.governing ++ (List.range 5).flatMap (fun k => leW (nth s.sens.hk (2 * k)).value)) s) ∧
    (s.executes 0x7002 m → m.plain 0 → Answers (.healthLastFault m) s 0x7002 m 0 s.lastFault s) ∧
    (s.executes 0x7003 m → m.plain 0 →
      Answers (.healthMem m) s 0x7003 m 0
        ((List.range 8).flatMap (fun k => le32 (nth s.clk.corrected k) ++ le32 (nth s.clk.uncorrectable k))) s)

/-! ## Configuration (R33-R36, R345-R357) -/

/-- R340, R348, R349, R351, R355, R358-R360, R361-R366: The `SET_` commands of the GPIO pins, of sensing, of Stone and of the loops begin a commit of the words they carry: the write of the other slot is queued, body first and header last. That a `SET_` command counts the instance it names as rewritten and keeps the version in force, the place of `ST_LOOP_CLOSED` among the checks and the zero locator of that refusal are the model's choices (notes/assumptions/11.md, 15.md, 12.md, 13.md). The `SET_` commands of zones, Solstice, actuators, fans, panel, keys, bus, Acre and recorder begin a commit of the words they carry; which instances count as rewritten, and the version kept, are the model's choices (notes/assumptions/11.md, 15.md). -/
def Obligations.SetCommands : Prop :=
  (SetsAll .sysSetGpio 0x000A .gpio ∧ SetsInst .sensSetAin 0x1004 .ain 0 ∧ SetsInst .sensSetMod 0x1005 .mod 0 ∧
  SetsInst .sensSetPres 0x1006 .pres 0 ∧ SetsInst .sensSetHkLim 0x1007 .hkLim 1 ∧ SetsAll .calSetCfg 0x1107 .stone ∧
  SetsInst .loopSetProf 0x2006 .prof 1 ∧
  (∀ (s : State) (m : Msg), s.executes 0x2003 m → m.plain 52 → padOk m 1 3 = true → s.cfg.edit = none →
    s.mgt.otp.signedCfg = false → loopOk (getB m.payload 0) = true →
    let l := getB m.payload 0
    let hold := fld (nth (getWords m.payload 4 12) 3) 15 0
    let img := s.cfg.committed.setWords .loop ((l - 1) * 12) (getWords m.payload 4 12)
    (hold = s.outHold l ∨ (s.loop l).dyn.st ≠ .closed →
      CommitBegins (.loopSetCfg m) s 0x2003 m img
        { version := s.cfg.version, named := [(Sec.loop.id, l - 1)],
          outHold := if hold = s.outHold l then none else some (l, hold) }) ∧
    (hold ≠ s.outHold l → (s.loop l).dyn.st = .closed → commitFail s (withOutHold s img) = none →
      imgFind (s.lockBad (withOutHold s img)) = none →
      CommitFails (.loopSetCfg m) s 0x2003 m 0x0202 {} s))) ∧
  (SetsInst .zoneSetCfg 0x2103 .zone 0 ∧ SetsInst .zoneSetSched 0x2107 .sched 0 ∧ SetsAll .zoneSetTime 0x2108 .time ∧
  SetsInst .solSetCfg 0x2206 .sol 0 ∧ SetsInst .actSetCfg 0x3004 .act 0 ∧ SetsAll .actSetDev 0x3005 .actDev ∧
  SetsInst .fanSetCfg 0x3104 .fan 0 ∧ SetsAll .fanSetDev 0x3105 .fanDev ∧ SetsSpan .panelSetCfg 0x4008 .panel 0 4 ∧
  SetsSpan .keySetCfg 0x4103 .panel 4 1 ∧ SetsAll .busSetCfg 0x5003 .bus ∧ SetsAll .acreSetCfg 0x5102 .chain ∧
  SetsInst .logSetSnap 0x6005 .snap 0)

/-- R20, R342, R348, R349, R351, R354, R428, R493: A commit is refused at the first failing check, with the locator; source 121 is raised and nothing of the configuration changes. The order of the checks, and the locator 0 of a refusal that names no field, are the model's choices (notes/assumptions/12.md, 13.md). The NV controller writes one codeword of the entry it serves; the last one of a commit, read back, makes the image the committed one and answers the command, and a failed one leaves it as it was and a codeword of the slot unreadable. That the command waits for its last codeword, and which codeword a failed read-back finds, are the model's choices (notes/assumptions/10.md, 79.md), as is the locator 0 (13.md). -/
def Obligations.CommitsCompleteOrFail : Prop :=
  (∀ (s : State) (m : Msg) (n : Nat), s.executes 0x3004 m → m.plain 28 → padOk m 1 3 = true → getB m.payload 0 = n → n < 32 →
    let img := withOutHold s (s.cfg.committed.setWords .act (n * 6) (getWords m.payload 4 6))
    let fails (st : Nat) (l : Locator) : Prop := CommitFails (.actSetCfg m) s 0x3004 m st l s
    (s.mgt.otp.signedCfg = true → Answers (.actSetCfg m) s 0x3004 m 0x0501 [] s) ∧
    (s.mgt.otp.signedCfg = false →
      (∀ l, commitFail s img = some l → fails 0x0104 l) ∧
      (commitFail s img = none →
        (s.cfg.edit ≠ none → fails 0x0203 {}) ∧
        (∀ l, s.cfg.edit = none → imgFind (s.lockBad img) = some l → fails 0x0201 l) ∧
        (s.cfg.edit = none → imgFind (s.lockBad img) = none → s.thermalBars = true → fails 0x0601 {}) ∧
        (s.cfg.edit = none → imgFind (s.lockBad img) = none → s.thermalBars = false → s.bushel.closed = true →
          fails 0x0401 {})))) ∧
  (∀ (s : State) (w : CwWrite) (rest : List NvOp) (wt : Waiting) (p : PendingCommit) (op : NvOp),
    s.outOfReset = true → s.nvm.halted = false → s.nvServed = some 2 → w.bank = 0 →
    (∀ (w2 : CwWrite) (more : List CwWrite), nth s.nvm.queue 2 = { op with cws := w :: w2 :: more } :: rest →
      ∀ ok, ∃ u, exec (.nvCodewordWrite ok false) s = .next u ∧
        u.nvm.bank0 = s.nvm.bank0.writes (nvDefault 0) (w.cw * 32) w.data ∧ u.nvm.bank1 = s.nvm.bank1 ∧
        (2 < s.nvm.queue.length → 
          nth u.nvm.queue 2 = { op with cws := w2 :: more, written := op.written ++ [(0, w.cw)] } :: rest) ∧
        u.nvm.bad = s.nvm.bad.filter (fun c => !(c.1 == 0 && c.2 == w.cw)) ∧ u = { s with nvm := u.nvm }) ∧
    (nth s.nvm.queue 2 = [op] → op.job = .commit → op.cws = [w] → nth s.nvm.orphans 2 = 0 → s.cfg.pendingCommit = some p →
      s.mbox.waiting = some wt → wt.boxes ≠ none → s.bus.waiting = none → s.bus.held = [] →
      s.mbox.accepted = [] → s.mbox.appRestart = false →
      (∃ u, exec (.nvCodewordWrite true false) s = .next u ∧
        u.cfg.committed = p.img ∧ u.cfg.stored = p.slotImg ∧ u.cfg.slotSeq = p.seq ∧ u.cfg.activeSlot = p.slot ∧
        u.cfg.lastStatus = 0 ∧ u.cfg.pendingCommit = none ∧ u.mbox.waiting = none ∧ u.raised 121 ∧
        u.nvm.bank0 = s.nvm.bank0.writes (nvDefault 0) (w.cw * 32) w.data ∧
        u.mbox.lastResp = some { cmd := wt.cmd, tag := wt.tag, status := 0, payload := leW p.seq ++ Locator.bytes {} }) ∧
      (∃ u, exec (.nvCodewordWrite false false) s = .next u ∧
        u.cfg = { s.cfg with pendingCommit := none, lastStatus := 0x0401, loc := {} } ∧ u.raised 121 ∧
        u.mbox.waiting = none ∧
        u.mbox.lastResp = some { cmd := wt.cmd, tag := wt.tag, status := 0x0401,
                                 payload := leW s.cfg.slotSeq ++ Locator.bytes {} } ∧
        ((∀ c ∈ op.written, c.1 < 2) → ∃ c ∈ op.written ++ [(0, w.cw)], c ∈ u.nvm.bad) ∧
        (nth s.nvm.queue 5 = [] → u.mgt = s.mgt) ∧
        Noted { s with cfg := u.cfg, nvm := u.nvm, mbox := u.mbox, mgt := u.mgt, free := u.free } u)))

/-- R330, R347-R349, R352, R354, R357: the configuration group: an edit is a working copy; it is begun, read, written, given up, loaded from a container, which comes in chunks, and committed. That a copy committed as loaded keeps its container and its version, and the order and the locator of the refusals of `CFG.COMMIT`, are the model's choices (notes/assumptions/12.md, 13.md, 15.md). -/
def Obligations.ConfigurationGroup : Prop :=
  ∀ (s : State) (m : Msg),
    (s.executes 0x0201 m → m.plain 0 → s.mgt.otp.signedCfg = false →
      Answers (.cfgBegin m) s 0x0201 m 0 []
        { s with cfg := { s.cfg with edit := some { img := s.cfg.committed, version := s.cfg.version } } }) ∧
    (∀ sec start img, s.executes 0x0202 m → m.plain 8 →
      cfgSpan (getB m.payload 0) (getH m.payload 2) (getH m.payload 4) (getH m.payload 6) 1018 = some (sec, start) →
      (getB m.payload 1 = 0 ∧ img = s.cfg.inForce) ∨ (getB m.payload 1 = 1 ∧ s.cfg.edit.map Edit.img = some img) ∨
        (getB m.payload 1 = 2 ∧ img = s.cfg.stored) →
      Answers (.cfgRead m) s 0x0202 m 0 ((List.range (getH m.payload 6)).flatMap (fun k =>
        leW (if sec = .bus ∧ 17 ≤ start + k ∧ start + k ≤ 20 then 0 else (img.sec sec).getD (start + k) 0))) s) ∧
    (∀ e sec start, s.executes 0x0203 m → m.plain (8 + 4 * getH m.payload 6) → s.mgt.otp.signedCfg = false →
      s.cfg.edit = some e → getB m.payload 1 = 0 →
      cfgSpan (getB m.payload 0) (getH m.payload 2) (getH m.payload 4) (getH m.payload 6) 1016 = some (sec, start) →
      (List.range (getH m.payload 6)).any (fun k => (nth (getWords m.payload 8 (getH m.payload 6)) k &&&
        w32 (wdef sec ((start + k) / sec.words) ((start + k) % sec.words)).rsv) != 0) = false →
      Answers (.cfgWrite m) s 0x0203 m 0 [] { s with cfg := { s.cfg with
        edit := some { e with img := e.img.setWords sec start (getWords m.payload 8 (getH m.payload 6)),
                              container := none } } }) ∧
    (∀ e, s.executes 0x0204 m → m.plain 0 → s.cfg.edit = some e →
      (∀ l, commitFail s (withOutHold s e.img) = some l → CommitFails (.cfgCommit m) s 0x0204 m 0x0104 l s) ∧
      (e.stale = true → commitFail s (withOutHold s e.img) = none →
        CommitFails (.cfgCommit m) s 0x0204 m 0x0203 {} { s with cfg := { s.cfg with edit := none } }) ∧
      (e.stale = false →
        CommitBegins (.cfgCommit m) s 0x0204 m e.img
          { fromEdit := true, origin1 := e.container.isSome, version := e.version,
            container := e.container.elim [] (fun c => c.1 ++ c.2) })) ∧
    (s.executes 0x0204 m → m.plain 0 → s.cfg.edit = none → CommitFails (.cfgCommit m) s 0x0204 m 0x0104 {} s) ∧
    (s.executes 0x0205 m → m.plain 0 →
      Answers (.cfgDiscard m) s 0x0205 m 0 [] { s with cfg := { s.cfg with edit := none } }) ∧
    (∀ c, s.executes 0x0206 m → m.chunk = true → m.last = true → s.mbox.chunkIn = some c → c.cmd = 0x0206 → c.next ≠ 0 →
      8 ≤ m.payload.length → getH m.payload 0 = c.next → getH m.payload 2 = 0 → getW m.payload 4 = c.total →
      chunkLenOk c.next c.total (m.payload.length - 8) true = true →
      let d := c.data ++ m.payload.drop 8
      (∀ img, cfgContainer s d = .inr img →
        Answers (.cfgLoad m) s 0x0206 m 0 [] { s with cfg := { s.cfg with
          edit := some { img := img, container := some (contHeader d, contSig d),
                         version := (contVersion d).toNat } } }) ∧
      (∀ k, cfgContainer s d = .inl k → Answers (.cfgLoad m) s 0x0206 m (contStatus k) [] s)) ∧
    (s.executes 0x0206 m → m.chunk = false → ∀ k, cfgContainer s m.payload = .inl k →
      Answers (.cfgLoad m) s 0x0206 m (contStatus k) [] s) ∧
    (s.executes 0x0207 m → m.plain 0 →
      Answers (.cfgStatus m) s 0x0207 m 0
        (leW s.cfgStatus ++ leW s.cfg.slotSeq ++ le16 s.cfg.lastStatus ++ s.cfg.loc.bytes) s) ∧
    (s.executes 0x0208 m → m.plain 0 → s.nvm.bad = [] →
      let b := nvRead s.nvm 0 (nvCfgBase + 0x10000 * s.cfg.activeSlot)
        (64 + bodyLen + (if s.cfg.origin1 then 128 + 8668 else 0))
      AnswersObject (.cfgExport m) s 0x0208 m (b.take (64 + bodyLen) ++ b.drop (64 + bodyLen + 128)))

/-! ## Management, security and update (R458-R478) -/

/-- R20, R330, R343, R463, R464, R469, R485: An image that arrives: chunk 0 begins it, and one of firmware empties the other bank, never the active one, at once, or, while flash bytes wait or test 9 runs, behind them; the last chunk brings the rest and leaves the image to its verification. An image of a kind the device has not, or that its state refuses, changes nothing. That an image of a wrong kind answers `ST_BAD_ARG` and erases nothing is the model's choice (notes/assumptions/25.md). The verification of the image that has arrived, and what follows it: an uncorrectable codeword of the bank fails it and is reported on source 123. That such a codeword fails the digest is the model's choice (notes/assumptions/24.md). -/
def Obligations.ImageWritesAndVerification : Prop :=
  (∀ (s : State) (m : Msg), s.executes 0x7101 m →
    let data := m.payload.drop 8
    let u := s.mgt.upd
    (m.chunk = false → imageMayBegin (getB m.payload 6) s ≠ stOk →
      Answers (.updWriteImage m) s 0x7101 m (imageMayBegin (getB m.payload 6) s) [] s) ∧
    (m.chunk = false → getB m.payload 6 = 2 → imageMayBegin 2 s = stOk →
      Answers (.updWriteImage m) s 0x7101 m 0x0001 [] { s with mgt := { s.mgt with upd := { u with
        state := 2, kind := 2, version := w32 (getW m.payload 0x10), bus := false, bank := 1 - s.mgt.mr.active,
        image := m.payload } } }) ∧
    (m.chunk = true → m.last = false → 8 ≤ m.payload.length → getH m.payload 0 = 0 → getH m.payload 2 = 0 →
      chunkLenOk 0 (getW m.payload 4) data.length false = true → s.chunkBars 0x7101 = false →
      (imageMayBegin (getB data 6) s ≠ stOk →
        Answers (.updWriteImage m) s 0x7101 m (imageMayBegin (getB data 6) s) [] s) ∧
      (getB data 6 = 2 → imageMayBegin 2 s = stOk →
        Answers (.updWriteImage m) s 0x7101 m 0 [] { s with mgt := { s.mgt with upd := { u with
          state := 1, kind := 2, version := w32 (getW data 0x10), bus := false, bank := 1 - s.mgt.mr.active,
          image := [] } } }) ∧
      (∀ b, getB data 6 = 1 → imageMayBegin 1 s = stOk → s.mgt.mr.active = 1 - b → b < 2 → 7 < s.nvm.queue.length →
        ∃ (t : State) (op : NvOp), exec (.updWriteImage m) s = .next t ∧
          t.mbox.lastResp = some { cmd := 0x7101, tag := m.tag, status := 0 } ∧
          t.mgt.upd = { u with state := 1, kind := 1, version := w32 (getW data 0x10), bus := false, bank := b, image := [] } ∧
          op.job = .flash ∧ (op.cws.map CwWrite.data).flatten = data ∧
          (s.readsFlash = false → nvBusy s.nvm 7 = false → nth s.nvm.queue 5 = [] →
            t.mgt = { s.mgt with
              upd := t.mgt.upd, flash := s.mgt.flash.set b [], flashBad := s.mgt.flashBad.filter (fun c => c.1 != b),
              delivered := s.mgt.delivered && b != 0,
              mr := { s.mgt.mr.setBank b .empty 0 with seq := s.mgt.mr.seq + 1 } } ∧
            nth t.nvm.queue 7 = [op]) ∧
          (s.readsFlash = true ∨ nvBusy s.nvm 7 = true →
            t.mgt = { s.mgt with upd := t.mgt.upd, mr := t.mgt.mr } ∧
            (nth s.nvm.queue 5 = [] → t.mgt.mr = { s.mgt.mr.setBank b .empty 0 with seq := s.mgt.mr.seq + 1 }) ∧
            nth t.nvm.queue 7 = nth s.nvm.queue 7 ++ [{ job := .flashErase b }, op]) ∧
          t = { s with mgt := t.mgt, nvm := { s.nvm with queue := t.nvm.queue }, mbox := t.mbox, evt := t.evt })) ∧
    (∀ c, m.chunk = true → m.last = true → s.mbox.chunkIn = some c → c.cmd = 0x7101 → c.next ≠ 0 → 8 ≤ m.payload.length →
      getH m.payload 0 = c.next → getH m.payload 2 = 0 → getW m.payload 4 = c.total →
      chunkLenOk c.next c.total data.length true = true → s.thermalBars = false → s.bushel.closed = false →
      (u.kind = 2 → Answers (.updWriteImage m) s 0x7101 m 0x0001 [] { s with mgt := { s.mgt with
        upd := { u with state := 2, image := c.data ++ data } } }) ∧
      (u.kind = 1 → ∃ (t : State) (op : NvOp), exec (.updWriteImage m) s = .next t ∧
        t.mbox.lastResp = some { cmd := 0x7101, tag := m.tag, status := 0x0001 } ∧ t.mbox.chunkIn = none ∧
        t.mgt = { s.mgt with upd := { u with state := 2, image := c.data ++ data } } ∧
        op.job = .flash ∧ (op.cws.map CwWrite.data).flatten = data ∧
        t.nvm = { s.nvm with queue := upd s.nvm.queue 7 (fun l => l ++ [op]) } ∧
        t = { s with mgt := t.mgt, nvm := t.nvm, mbox := t.mbox, evt := t.evt }))) ∧
  (∀ s : State, s.alive = true → s.mgt.upd.state = 2 → s.mgt.att.running = false → nvBusy s.nvm 7 = false →
    let b := s.mgt.upd.bank
    (∀ k, (s.mgt.upd.kind = 1 ∧ bankStep s b = some k) ∨ (s.mgt.upd.kind = 2 ∧ wfContStep s s.mgt.upd.image = some k) →
      ∃ t, exec .imageVerifyDone s = .next t ∧ t.raised 106 ∧ (s.mgt.upd.kind = 1 → s.bankBad b = true → t.raised 123 ∧ k = 4) ∧
        t.mgt = { s.mgt with upd := { s.mgt.upd with state := 4, lastStatus := contStatus k, image := [] } } ∧
        (s.mgt.upd.kind = 2 ∨ s.bankBad b = false → Noted { s with mgt := t.mgt } t) ∧
        Noted { s with mgt := t.mgt, clk := { s.clk with uncorrectable := t.clk.uncorrectable } } t) ∧
    (s.bushel.closed = false → s.nvm.halted = false →
      (s.mgt.upd.kind = 1 → bankStep s b = none → nth s.nvm.queue 5 = [] → 5 < s.nvm.queue.length →
        ∃ t, exec .imageVerifyDone s = .next t ∧
          t.mgt = { s.mgt with
            upd := { s.mgt.upd with state := 3 },
            mr := { s.mgt.mr.setBank b .written (contVersion (nth s.mgt.flash b)) with seq := s.mgt.mr.seq + 1 } } ∧
          (∃ op : NvOp, op.job = .mgtState .image ∧
            t.nvm = { s.nvm with queue := upd s.nvm.queue 5 (fun l => l ++ [op]) }) ∧
          t = { s with mgt := t.mgt, nvm := t.nvm }) ∧
      (s.mgt.upd.kind = 2 → wfContStep s s.mgt.upd.image = none →
        ∃ t, exec .imageVerifyDone s = .next t ∧
          t.mgt = { s.mgt with upd := { s.mgt.upd with state := 3 } } ∧
          (∃ op : NvOp, op.job = .waveform (1 - s.panel.wfSlot) ∧
            t.nvm = { s.nvm with queue := upd s.nvm.queue 5 (fun l => l ++ [op]) }) ∧
          t = { s with mgt := t.mgt, nvm := t.nvm })))

/-- R20, R341-R343, R459, R466, R470, R474: activation, the device's state before the bank's verification, and the confirmation of a trial, whose OTP bits are set by an operation of the write queue. That only `ST_ROLLBACK` of a failed bank is told apart, that a bank with an uncorrectable codeword fails its digest, and that source 107 reports a confirmation only where it revokes, are the model's choices (notes/assumptions/24.md, 90.md). -/
def Obligations.ActivationAndTrial : Prop :=
  (∀ (s : State) (m : Msg), s.executes 0x7102 m → m.plain 0 →
    Answers (.updStatus m) s 0x7102 m 0
      (le8 s.updShown ++ le8 s.mgt.upd.kind ++ le16 s.mgt.upd.lastStatus ++ leW s.mgt.upd.version) s) ∧
  (∀ (s : State) (m : Msg) (b : Nat), s.executes 0x7103 m → m.plain 4 → padOk m 1 3 = true → getB m.payload 0 = b → b < 2 →
    (s.mgt.mr.inTrial = true → Answers (.updActivate m) s 0x7103 m 0x0203 [] s) ∧
    (s.mgt.mr.inTrial = false →
      (b = s.mgt.mr.active → Answers (.updActivate m) s 0x7103 m 0 [] s) ∧
      (b ≠ s.mgt.mr.active → s.thermalBars = true → Answers (.updActivate m) s 0x7103 m 0x0601 [] s) ∧
      (b ≠ s.mgt.mr.active → s.thermalBars = false → s.mgt.mr.bankSt b = .empty ∨ (∃ k, k ≠ 7 ∧ bankStep s b = some k) →
        (s.bankBad b = false → Answers (.updActivate m) s 0x7103 m 0x0501 [] s) ∧
        (s.bankBad b = true → ∃ t, exec (.updActivate m) s = .next t ∧ t.raised 123 ∧
          t.mbox.lastResp = some { cmd := 0x7103, tag := m.tag, status := 0x0501 } ∧ t.mgt = s.mgt ∧ t.nvm = s.nvm)) ∧
      (b ≠ s.mgt.mr.active → s.thermalBars = false → s.mgt.mr.bankSt b ≠ .empty → bankStep s b = some 7 →
        Answers (.updActivate m) s 0x7103 m 0x0502 [] s) ∧
      (s.mgt.mr.active = 1 - b → s.mgt.mr.bankSt b ≠ .empty → bankStep s b = none → s.thermalBars = false →
        s.bushel.closed = false → nth s.nvm.queue 5 = [] → 5 < s.nvm.queue.length →
        ∃ t : State, exec (.updActivate m) s = .next t ∧
          (∃ bx, t.mbox.waiting = some { cmd := 0x7103, tag := m.tag, boxes := bx }) ∧
          t.mgt.mr.bankSt b = .trial ∧ t.mgt.mr.active = b ∧ t.mgt.mr.trialBoots = 0 ∧
          t.mgt.mr.seq = s.mgt.mr.seq + 1 ∧ t.mgt.mr.bankSt (1 - b) = s.mgt.mr.bankSt (1 - b) ∧ t.mgt.activating = some s.mgt.mr ∧
          (∃ op : NvOp, op.job = .mgtState .activate ∧
            t.nvm = { s.nvm with queue := upd s.nvm.queue 5 (fun l => l ++ [op]) }) ∧
          t = { s with mgt := { s.mgt with mr := t.mgt.mr, activating := t.mgt.activating }, nvm := t.nvm,
                       mbox := t.mbox }))) ∧
  (∀ (s : State) (b : Nat), s.released = true → s.mgt.trial = true → s.mgt.mr.active = b → b < 2 → s.bushel.closed = false →
    nth s.nvm.queue 5 = [] → 5 < s.nvm.queue.length →
    let thermo := if bankBurns s b = true then max s.mgt.otp.thermo (epochOf (s.mgt.mr.bankVer b)) else s.mgt.otp.thermo
    let revoke := s.mgt.otp.revokeOnConfirm && decide (1 ≤ bankSlot s b) && !s.mgt.otp.revoked.getD 0 false
    ∃ (t : State) (op : NvOp), exec .trialConfirm s = .next t ∧ t.raised 106 ∧
      t.mgt.mr.bankSt b = .good ∧ t.mgt.mr.bankSt (1 - b) = .old ∧ t.mgt.mr.active = b ∧
      t.mgt.mr.floorFw.toNat = max s.mgt.mr.floorFw.toNat (s.mgt.mr.bankVer b).toNat ∧
      t.mgt.mr.floorWf = s.mgt.mr.floorWf ∧ t.mgt.mr.floorCfg = s.mgt.mr.floorCfg ∧ op.job = .mgtState .plain ∧
      nth t.nvm.queue 5 = (if thermo = s.mgt.otp.thermo ∧ revoke = false then [op]
        else [{ job := .otpConfirm thermo revoke }, op]) ∧
      t.mgt = { s.mgt with mr := t.mgt.mr, trial := false } ∧ Noted { s with mgt := t.mgt, nvm := t.nvm } t) ∧
  (∀ (s : State) (thermo : Nat) (revoke : Bool) (op : NvOp), s.outOfReset = true → s.nvm.halted = false → s.nvServed = some 5 →
    nth s.nvm.queue 5 = [op] → op.job = .otpConfirm thermo revoke → op.cws = [] → nth s.nvm.orphans 5 = 0 →
    s.bus.held = [] → s.bus.waiting = none →
    ∃ t : State, exec (.nvCodewordWrite true false) s = .next t ∧
      t.mgt = { s.mgt with otp := { s.mgt.otp with
        thermo := max s.mgt.otp.thermo thermo,
        revoked := if revoke = true then s.mgt.otp.revoked.set 0 true else s.mgt.otp.revoked } } ∧
      (revoke = true → t.raised 107) ∧ Noted { s with mgt := t.mgt, nvm := t.nvm } t)

/-- R343, R475-R478: the status and attestation commands. The signatures are free values (notes/assumptions/2.md); that a count that could not be stored is taken back is the model's choice (notes/assumptions/26.md). -/
def Obligations.Attestation : Prop :=
  (∀ (s : State) (m : Msg), s.executes 0x7201 m → m.plain 0 →
    Answers (.secStatus m) s 0x7201 m 0
      (leW s.secFlags ++ le8 s.mgt.mr.stateA.code ++ le8 s.mgt.mr.stateB.code ++ le8 s.mgt.mr.trialBoots ++ zeros 1 ++
        leW s.mgt.mr.verA ++ leW s.mgt.mr.verB ++ leW s.mgt.mr.floorFw ++ leW s.mgt.mr.floorWf ++ leW s.mgt.mr.floorCfg ++
        leW s.mgt.mr.attCount) s) ∧
  (∀ (s : State) (m : Msg), s.executes 0x7202 m → m.plain 32 →
    (s.mgt.att.running = true → Answers (.secAttest m) s 0x7202 m 0x0105 [] s) ∧
    (s.mgt.att.running = false → s.thermalBars = false → s.bushel.closed = false →
      nth s.nvm.queue 5 = [] → 5 < s.nvm.queue.length →
      ∃ t : State, exec (.secAttest m) s = .next t ∧
        t.mbox.lastResp = some { cmd := 0x7202, tag := m.tag, status := 0x0001 } ∧
        t.mgt = { s.mgt with
          att := { running := true, nonce := m.payload, counted := true },
          mr := { s.mgt.mr with attCount := s.mgt.mr.attCount + 1, seq := s.mgt.mr.seq + 1 } } ∧
        (∃ op : NvOp, op.job = .mgtState .attest ∧
          t.nvm = { s.nvm with queue := upd s.nvm.queue 5 (fun l => l ++ [op]) }) ∧
        t = { s with mgt := t.mgt, nvm := t.nvm, mbox := t.mbox, evt := t.evt })) ∧
  (∀ (s : State) (e : List Byte), s.alive = true → s.mgt.att.running = true → s.mgt.att.evidence = some e →
    ∃ (t : State) (sig : List Byte), exec .attestDone s = .next t ∧ sig.length = 384 + 7856 ∧ t.raised 107 ∧
      t.mgt = { s.mgt with att := { s.mgt.att with running := false, evidence := none, response := some (e ++ sig) } } ∧
      Noted { s with mgt := t.mgt, free := t.free } t) ∧
  (∀ (s : State) (m : Msg), s.executes 0x7203 m → m.plain 0 →
    (s.mgt.att.failed = true → Answers (.secAttestGet m) s 0x7203 m 0x0401 [] s) ∧
    (s.mgt.att.failed = false → s.mgt.att.response = none → Answers (.secAttestGet m) s 0x7203 m 0x0203 [] s) ∧
    (∀ r, s.mgt.att.failed = false → s.mgt.att.response = some r → AnswersObject (.secAttestGet m) s 0x7203 m r)) ∧
  (∀ s : State, (evidence s).length = 0x2A0)

/-- R458, R459, R472-R475: provisioning and the debug lock: what they ask of the OTP, and that a finished OTP operation sets it. That the fields are seen to be set when the operation completes is the model's choice (notes/assumptions/23.md). -/
def Obligations.OtpCommands : Prop :=
  (∀ (s : State) (m : Msg), s.executes 0x7204 m → m.plain 208 →
    (pvOk m.payload = false ∨ pvAdds s.mgt.otp (pvOtp m.payload s.mgt.otp) = false →
      Answers (.secProvision m) s 0x7204 m 0x0104 [] s) ∧
    (pvOk m.payload = true → pvAdds s.mgt.otp (pvOtp m.payload s.mgt.otp) = true → s.mgt.otp.provisioned = true → Answers (.secProvision m) s 0x7204 m 0x0201 [] s) ∧
    (pvOk m.payload = true → s.mgt.otp.provisioned = false → pvAdds s.mgt.otp (pvOtp m.payload s.mgt.otp) = true →
      s.thermalBars = false → s.bushel.closed = false →
      ∃ t : State, exec (.secProvision m) s = .next t ∧
        (∃ bx, t.mbox.waiting = some { cmd := 0x7204, tag := m.tag, boxes := bx }) ∧
        t.mgt.prov = some (pvOtp m.payload s.mgt.otp) ∧ t.mgt.provCmd = true ∧
        t.nvm = { s.nvm with queue := upd s.nvm.queue 5 (fun l => l ++ [{ job := .otp }]) } ∧
        t = { s with mgt := { s.mgt with prov := t.mgt.prov, provCmd := t.mgt.provCmd }, nvm := t.nvm, mbox := t.mbox })) ∧
  (∀ (s : State) (m : Msg), s.executes 0x7205 m → m.plain 4 →
    (getW m.payload 0 ≠ 0xD3B6 → Answers (.secLockDebug m) s 0x7205 m 0x0104 [] s) ∧
    (getW m.payload 0 = 0xD3B6 → s.mgt.otp.debugLock = true → Answers (.secLockDebug m) s 0x7205 m 0 [] s) ∧
    (getW m.payload 0 = 0xD3B6 → s.mgt.otp.debugLock = false → s.thermalBars = false → s.bushel.closed = false →
      ∃ t : State, exec (.secLockDebug m) s = .next t ∧
        (∃ bx, t.mbox.waiting = some { cmd := 0x7205, tag := m.tag, boxes := bx }) ∧
        t.mgt.prov = some { s.mgt.otp with debugLock := true } ∧
        t.nvm = { s.nvm with queue := upd s.nvm.queue 5 (fun l => l ++ [{ job := .otp }]) } ∧
        t = { s with mgt := { s.mgt with prov := t.mgt.prov, provCmd := t.mgt.provCmd }, nvm := t.nvm, mbox := t.mbox })) ∧
  (∀ (s : State) (n : Otp) (op : NvOp), s.outOfReset = true → s.nvm.halted = false →
    s.nvServed = some 5 → nth s.nvm.queue 5 = [op] → op.job = .otp → op.cws = [] → nth s.nvm.orphans 5 = 0 →
    s.mgt.prov = some n → s.mbox.waiting.elim True (fun w => w.boxes ≠ none) →
    s.bus.waiting = none → s.bus.held = [] →
    ∃ t : State, exec (.nvCodewordWrite true false) s = .next t ∧
      t.mgt.otp = { n with revoked := s.mgt.otp.revoked, thermo := s.mgt.otp.thermo } ∧ t.mgt.prov = none ∧ t.nvm.bank0 = s.nvm.bank0 ∧
      t.nvm.bank1 = s.nvm.bank1 ∧ (s.mgt.provCmd = true → t.raised 107) ∧
      t.mgt = { s.mgt with otp := t.mgt.otp, prov := none, provCmd := false })

/-! ## Supervision, clocks, memories, temperature, self-test and the test port (R19-R24, R439-R457, R479-R490) -/

/-- R17, R333, R343, R439, R455, R456, R470: the heartbeat, a restart of the application core, its completion, and a restart that does not complete. That the 600 s are local MC, the core stays stopped after `SAFE_SUPV`, and the source of the last-fault entries are the model's choices (notes/assumptions/31.md, 33.md). -/
def Obligations.ApplicationCoreRestarts : Prop :=
  ∀ s : State, s.alive = true →
    (s.mgt.appRunning = true → s.mgt.restartDue = none →
      (s.sup.safeSupv = false →
        exec .heartbeatTimeout s = .next { s with mgt := { s.mgt with restartDue := some 2 } }) ∧
      (s.sup.safeSupv = true → ∃ t, exec .heartbeatTimeout s = .next t ∧ t.mgt.appHeld = true ∧ t.mgt.appRunning = false ∧
        t.mbox.ready = false ∧ t.mbox.respObj = [] ∧ t.mbox.chunkIn = none ∧ t.cfg.edit = none ∧ t.bus.subs = [] ∧
        t.nvm.bank0 = s.nvm.bank0 ∧ t.nvm.bank1 = s.nvm.bank1)) ∧
    (∀ cause, s.mgt.restartDue = some cause →
      ∃ t, exec .appCoreRestart s = .next t ∧ t.raised 120 ∧
        t.mgt.restartDue = none ∧ t.mgt.appRunning = false ∧ t.mgt.restarting = true ∧
        t.mgt.restarts = s.chain.mc :: s.recentRestarts ∧
        t.mbox.ready = false ∧ t.mbox.respObj = [] ∧ t.mbox.chunkIn = none ∧ t.mbox.waiting = none ∧
        (∀ a, a ∈ t.mbox.accepted → a.err = some stInternal) ∧ t.mbox.inSt = s.mbox.inSt ∧ t.mbox.outSt = s.mbox.outSt ∧
        t.cfg.edit = none ∧ t.cfg.committed = s.cfg.committed ∧ t.bus.subs = [] ∧ t.rood = s.rood ∧ t.act = s.act ∧
        t.nvm.bank0 = s.nvm.bank0 ∧ t.nvm.bank1 = s.nvm.bank1 ∧ t.mgt.otp = s.mgt.otp ∧
        t.sup.safeSupv = (s.sup.safeSupv || decide (2 ≤ s.recentRestarts.length)) ∧
        (s.mgt.trial = false → t.mgt.mr = s.mgt.mr ∧
          (s.sup.safeSupv = true ∨ s.recentRestarts.length < 2 → (nth t.backup.lf 0).cause = cause) ∧
          (s.sup.safeSupv = false → 2 ≤ s.recentRestarts.length →
            (nth t.backup.lf 0).cause = 4 ∧ (nth t.backup.lf 0).detail = 2 ∧ (nth t.backup.lf 1).cause = cause)) ∧
        (s.mgt.trial = true → s.mgt.mr.active < 2 → nth s.nvm.queue 5 = [] →
          t.mgt.trial = false ∧ t.sup.softPend = true ∧ t.mgt.mr.bankSt s.mgt.mr.active = .bad ∧
          t.mgt.mr.active = 1 - s.mgt.mr.active ∧ t.raised 106 ∧ (nth t.backup.lf 0).cause = 9)) ∧
    (s.clk.pllLocked = false → exec .appRestartComplete s = .next s) ∧
    (s.clk.pllLocked = true → s.mbox.appRestart = true → s.mgt.appHeld = false → s.test.appStopped = false → s.mbox.waiting = none → s.bus.held = [] →
      s.mbox.accepted.all (fun a => a.err.isSome) = true →
      ∃ t, exec .appRestartComplete s = .next t ∧ t.mbox.ready = true ∧ t.mbox.appRestart = false ∧ t.mbox.accepted = [] ∧
        (∀ a, s.mbox.accepted.getLast? = some a →
          t.mbox.lastResp = some { cmd := a.cmd, tag := a.msg.tag, status := a.err.getD 0 }) ∧
        t.mgt.appRunning = true ∧ t.mgt.restarting = false ∧ t.sup.safeSram = false ∧ t.rood.delaysReset = true) ∧
    (s.mgt.restarting = true → s.sup.safeSupv = false →
      ∃ t, exec .supervisionTimeout s = .next t ∧ t.sup = { s.sup with safeSupv := true } ∧ t.raised 120 ∧
        (nth t.backup.lf 0).cause = 4 ∧ (nth t.backup.lf 0).detail = 1 ∧
        t.test = { s.test with stopped := s.test.stopped || s.test.running } ∧
        Noted { s with sup := t.sup, backup := t.backup, mgt := { s.mgt with restartDue := none }, test := t.test,
                       bus := { s.bus with alarms := t.bus.alarms } } t)

/-- R22, R24, R137, R421, R422, R440, R486: the clock monitor, the clocks' losses, and the counts of the backup domain. The windows are 4 periods of 32,768 Hz, so 2,929.69 reference periods. A self-test run in progress is stopped (R486). That the clock monitor finds the crystal again, and the trim's unit, are the model's choices (notes/assumptions/35.md). -/
def Obligations.ClocksAndCounters : Prop :=
  (∀ (s : State) (count : Nat) (x : Bool), s.outOfReset = true → x = true ∨ s.clk.xtal32Lost = true →
    (x = true ∧ 2901 ≤ count ∧ count ≤ 2958 ∨ x = false ∧ 2637 ≤ count ∧ count ≤ 3222 →
      exec (.clockMonitorWindow count x) s = .next { s with clk := { s.clk with badWin := 0, xtal32Lost := !x } }) ∧
    (x = true ∧ (count < 2901 ∨ 2958 < count) ∨ x = false ∧ (count < 2637 ∨ 3222 < count) →
      (s.clk.badWin = 0 →
        exec (.clockMonitorWindow count x) s = .next { s with clk := { s.clk with badWin := 1, xtal32Lost := !x } }) ∧
      (1 ≤ s.clk.badWin → s.clk.fail = false →
        ∃ t, exec (.clockMonitorWindow count x) s = .next t ∧
          t.clk = { s.clk with badWin := 2, xtal32Lost := !x, fail := true } ∧
          t.sup = { s.sup with safeClock := true } ∧ t.raised 120 ∧
          (nth t.backup.lf 0).cause = 1 ∧ (nth t.backup.lf 0).detail = 1 ∧
          t.test = { s.test with stopped := s.test.stopped || s.test.running } ∧
          Noted { s with clk := t.clk, sup := t.sup, backup := t.backup, test := t.test, bus.alarms := t.bus.alarms } t))) ∧
  (∀ s : State, s.outOfReset = true →
    (s.clk.fail = false → ∃ t, exec .referenceStop s = .next t ∧ t.clk = { s.clk with fail := true } ∧
      t.sup = { s.sup with safeClock := true } ∧ t.raised 120 ∧ (nth t.backup.lf 0).cause = 1 ∧
      t.test = { s.test with stopped := s.test.stopped || s.test.running } ∧
      Noted { s with clk := t.clk, sup := t.sup, backup := t.backup, test := t.test, bus.alarms := t.bus.alarms } t) ∧
    (s.clk.fail = false → s.clk.pllLocked = true → s.released = true →
      ∃ t, exec .pllUnlock s = .next t ∧ t.clk = { s.clk with fail := true, pllLocked := false } ∧
        t.sup = { s.sup with safeClock := true } ∧ t.raised 120 ∧
        (nth t.backup.lf 0).cause = 1 ∧ (nth t.backup.lf 0).detail = 2 ∧
        (∀ n, n < 32 → s.cb .act n 0 5 = false → (t.ach n).ph = .off ∨ (t.ach n).ph = .decay) ∧
        Noted { s with clk := t.clk, sup := t.sup, backup := t.backup, act := t.act, test := t.test, bus.alarms := t.bus.alarms } t) ∧
    exec .calendarCrystalLoss s = .next { s with clk := { s.clk with xtal32Lost := true } } ∧
    (s.sup.restorePend = false →
      exec .optTick s = .next { s with backup := { s.backup with opt := s.backup.opt + 1 } })) ∧
  (∀ s : State, ∃ t, exec .calendarSecond s = .next t ∧ t.backup.calendar = s.backup.calendar + 1 ∧
    t.backup = { s.backup with calendar := t.backup.calendar, trim := t.backup.trim } ∧
    (s.alive = false → t = { s with backup := { s.backup with calendar := s.backup.calendar + 1 } }) ∧
    (s.alive = true → s.clk.pllLocked = false →
      t = { s with backup := { s.backup with calendar := s.backup.calendar + 1, trim := rne s.coefs.x32 10 } }) ∧
    (s.alive = true → s.clk.pllLocked = true → t.backup.trim = rne s.coefs.x32 10 ∧ t.bus.fdRemain = s.bus.fdRemain - 1 ∧
      (s.bus.fdRemain = 1 → t.bus.fdReg = false) ∧ (s.bus.fdRemain ≠ 1 → t.bus.fdReg = s.bus.fdReg) ∧
      Noted { s with backup := t.backup, bus := { s.bus with fdRemain := t.bus.fdRemain, fdReg := t.bus.fdReg } } t))

/-- R19, R20, R207, R338, R366, R439: what a read error of each memory does, and the scrubber's step. That an uncorrectable word of the panel memory is also a parity fault of the panel, and that a loop's is kept until the loop starts again, are the model's choices (notes/assumptions/36.md, 16.md). -/
def Obligations.MemoryErrors : Prop :=
  ∀ (s : State) (u : Nat), s.outOfReset = true →
    (∀ mem, 1 ≤ mem → mem ≤ 8 → ∃ t, exec (.memoryReadError mem u false) s = .next t ∧ t.raised 122 ∧
      t.clk = { s.clk with corrected := upd s.clk.corrected (mem - 1) (incSat 32) } ∧ Noted { s with clk := t.clk } t) ∧
    (∀ mem, 1 ≤ mem → mem ≤ 8 → mem ≠ 2 → ∃ t, exec (.memoryReadError mem u true) s = .next t ∧ t.raised 123 ∧
      t.clk = { s.clk with uncorrectable := upd s.clk.uncorrectable (mem - 1) (incSat 32) } ∧
      (mem = 1 → t.sup = { s.sup with safeSram := true } ∧ (s.sup.safeSupv = false → t.mgt.restartDue = some 3) ∧
        t.test = { s.test with stopped := s.test.stopped || (s.test.running && !s.sup.safeSram) } ∧
        Noted { s with clk := t.clk, sup := t.sup, test := t.test, mgt := { s.mgt with restartDue := t.mgt.restartDue },
                       bus.alarms := t.bus.alarms } t) ∧
      (mem = 3 → u % 64 < s.rood.slots.length → t.raised 110 ∧ (∀ k, k ≠ u % 64 → nth t.rood.slots k = nth s.rood.slots k) ∧
        nth t.rood.slots (u % 64) = {} ∧
        Noted { s with clk := t.clk, rood := { s.rood with slots := t.rood.slots } } t) ∧
      (mem = 4 → (u % 128 < s.rood.loops.length → (nth t.rood.loops (u % 128)).poison = true) ∧
        Noted { s with clk := t.clk, rood := { s.rood with
          loops := upd s.rood.loops (u % 128) (fun c => { c with poison := true }) } } t) ∧
      (mem = 7 → (u / 65536 % 2, u % 65536) ∈ t.mgt.flashBad ∧ (∀ c, c ∈ s.mgt.flashBad → c ∈ t.mgt.flashBad) ∧
        Noted { s with clk := t.clk, mgt := { s.mgt with flashBad := t.mgt.flashBad } } t) ∧
      (mem = 8 → (u / 32768 % 2, u % 32768) ∈ t.nvm.bad ∧ (∀ c, c ∈ s.nvm.bad → c ∈ t.nvm.bad) ∧
        Noted { s with clk := t.clk, nvm := { s.nvm with bad := t.nvm.bad } } t) ∧
      (mem = 5 ∨ mem = 6 → Noted { s with clk := t.clk } t)) ∧
    (s.panel.fault = false → ∃ t, exec (.memoryReadError 2 u true) s = .next t ∧ t.raised 123 ∧
      t.panel.fault = true ∧ t.panel.cause = 3 ∧
      t.clk = { s.clk with uncorrectable := upd s.clk.uncorrectable 1 (incSat 32) }) ∧
    (∀ k, k < 4 → k < s.clk.scrub.length → nth s.clk.scrub k < [131072, 32768, 8192, 32768].getD k 1 →
      ∃ t, exec (.scrubRead k) s = .next t ∧
        nth t.clk.scrub k = (if nth s.clk.scrub k + 1 = [131072, 32768, 8192, 32768].getD k 1 then 0 else nth s.clk.scrub k + 1) ∧
        t = { s with clk := { s.clk with scrub := t.clk.scrub } })

/-- R442-R453: an evaluation, at PT 2 of the MC after slot 8, counts each level against the governing temperature; an entry or an exit takes three. The third at 140 °C begins the Shutdown: no NVM codeword more, every channel off, and 2 ms later, 48,000 reference periods, the main domain in reset; the analog trip, whose comparators work from VMAIN, puts it there at once. That the reset comes at the first PT at or after the 2 ms, that a reading that is reserved does not govern, and what a last-fault entry holds that no rule states, are the model's choices (notes/assumptions/30.md, 32.md, 31.md). -/
def Obligations.ThermalLevels : Prop :=
  (∀ s : State, s.released = true → s.sens.hkFresh = true → s.chain.pt = 2 → s.chain.mc = (nth s.sens.hk 8).mcEnd →
    s.sup.shutAt = none →
    (s.governs = 0x80000001 → ∃ t, exec .thermalEvaluation s = .next t ∧ t.therm.governing = 0x80000001 ∧
      ∀ k : Nat, k < 4 → t.therm.level k = s.therm.level k) ∧
    (s.governs ≠ 0x80000001 → s.therm.shutdown.entered = false → s.governs.toInt < 140 * 65536 ∨ s.therm.shutdown.count < 2 →
      ∃ t, exec .thermalEvaluation s = .next t ∧ t.therm.governing = s.governs ∧ t.therm.lastGov = s.governs ∧ t.sens.hkFresh = false ∧
        t.therm.shutdown.entered = false ∧ t.released = true ∧
        t.sup.safeThermal = (t.therm.critical.entered ||
          decide ((List.range 5).countP (fun i => (nth t.therm.sensors i).valid) < 3)) ∧
        (∀ k : Nat, k < 3 →
          let thr : Int := (110 + 10 * k) * 65536
          let v := s.governs.toInt
          ((s.therm.level k).entered = false →
            (v < thr → t.therm.level k = { (s.therm.level k) with count := 0 }) ∧
            (thr ≤ v → (s.therm.level k).count < 2 →
              t.therm.level k = { (s.therm.level k) with count := (s.therm.level k).count + 1 }) ∧
            (thr ≤ v → 2 ≤ (s.therm.level k).count → (t.therm.level k).entered = true ∧ t.raised (86 + k))) ∧
          ((s.therm.level k).entered = true →
            (thr - 5 * 65536 ≤ v → t.therm.level k = { (s.therm.level k) with count := 0 }) ∧
            (v < thr - 5 * 65536 → (s.therm.level k).count < 2 →
              t.therm.level k = { (s.therm.level k) with count := (s.therm.level k).count + 1 }) ∧
            (v < thr - 5 * 65536 → 2 ≤ (s.therm.level k).count →
              (t.therm.level k).entered = false ∧ t.raised (86 + k))))) ∧
    (s.governs ≠ 0x80000001 → s.therm.shutdown.entered = false → 140 * 65536 ≤ s.governs.toInt → 2 ≤ s.therm.shutdown.count →
      ∃ t, exec .thermalEvaluation s = .next t ∧ t.sup.phase = s.sup.phase ∧ t.sup.shutAt = some s.chain.now ∧
        t.nvm.halted = true ∧ (nth t.backup.lf 0).cause = 6 ∧ (nth t.backup.lf 0).value = s.governs.toNat ∧
        t.nvm.bank0 = s.nvm.bank0 ∧ t.nvm.bank1 = s.nvm.bank1 ∧ t.panel.driving = false ∧
        (∀ n, n < 32 → (t.ach n).ph = .off ∨ (t.ach n).ph = .decay))) ∧
  (∀ (s : State) (t0 : Nat), s.alive = true → s.chain.st ≠ .start → s.chain.pt ≠ 4095 → s.sup.shutAt = some t0 →
    let now := s.chain.mcStart + (s.chain.pt.toNat + 1) * s.chain.curLen / 4096
    (t0 + 48000 ≤ now → ∃ t, exec .ptTick s = .next t ∧ t.sup.phase = .held .thermal ∧ t.sup.thermLow = true ∧
      t.nvm.bank0 = s.nvm.bank0 ∧ t.nvm.bank1 = s.nvm.bank1 ∧ t.backup.lf = s.backup.lf ∧ t.act = {} ∧ t.panel = {}) ∧
    (now < t0 + 48000 → ∃ t, exec .ptTick s = .next t ∧ t.sup.phase = s.sup.phase ∧ t.sup.shutAt = some t0 ∧ t.chain.pt = s.chain.pt + 1)) ∧
  (∀ s : State, s.sup.vmain = false → exec .analogTrip s = .next s) ∧
  (∀ s : State, s.sup.vmain = true → s.outOfReset = true →
    ∃ t, exec .analogTrip s = .next t ∧ t.sup.phase = .held .thermal ∧ t.sup.thermLow = true ∧
      (nth t.backup.lf 0).cause = 7 ∧ (nth t.backup.lf 0).value = s.therm.lastGov.toNat ∧
      t.therm = { lastGov := s.therm.lastGov } ∧
      t.nvm.bank0 = s.nvm.bank0 ∧ t.nvm.bank1 = s.nvm.bank1 ∧ t.act = {} ∧ t.panel = {}) ∧
  (∀ (s : State) (w : Held), s.sup.vmain = true → s.sup.phase = .held w →
    ∃ t, exec .analogTrip s = .next t ∧ (t.sup.phase = .held .thermal ∨ t.sup.phase = .held w) ∧ t.sup.thermLow = true ∧
      (nth t.backup.lf 0).cause = 7 ∧ (nth t.backup.lf 0).value = s.therm.lastGov.toNat ∧
      t = { s with sup := t.sup, backup := t.backup })

/-- R20, R343, R367, R479-R488: a self-test run. That a test whose precondition does not come reads verdict 2, that a logic test's signature and a memory test's outcome come with the row, and that a read check with another signature counts one correction are the model's choices (notes/assumptions/37.md, 92.md). -/
def Obligations.SelfTestRuns : Prop :=
  (∀ (s : State) (m : Msg), s.executes 0x7F01 m → m.plain 4 →
    (getW m.payload 0 = 0 ∨ (getW m.payload 0).testBit 7 = true ∨ 1024 ≤ getW m.payload 0 →
      Answers (.testRun m) s 0x7F01 m 0x0104 [] s) ∧
    (getW m.payload 0 ≠ 0 → (getW m.payload 0).testBit 7 = false → getW m.payload 0 < 1024 →
      (s.test.running = true ∨ s.stone.run.isSome = true → Answers (.testRun m) s 0x7F01 m 0x0203 [] s) ∧
      (s.test.running = false → s.stone.run = none → s.thermalBars = false →
        ∃ t : State, exec (.testRun m) s = .next t ∧
          t.mbox.lastResp = some { cmd := 0x7F01, tag := m.tag, status := 0x0001 } ∧
          t.test.running = true ∧ t.test.mask = getW m.payload 0 ∧ t.test.results = [] ∧
          (∀ k, k ∈ t.test.left ↔ k < 10 ∧ (getW m.payload 0).testBit k = true) ∧
          (getW m.payload 0 % 128 ≠ 0 → t.sup.mode = .hold ∨ s.sup.mode = .startup) ∧
          (getW m.payload 0 % 128 = 0 → t.sup.mode = s.sup.mode) ∧
          t.nvm.bank0 = s.nvm.bank0 ∧ t.nvm.bank1 = s.nvm.bank1))) ∧
  (∀ (s : State) (m : Msg), s.executes 0x7F02 m → m.plain 0 →
    (s.test.running = true → Answers (.testResult m) s 0x7F02 m 0x0203 [] s) ∧
    (s.test.running = false → Answers (.testResult m) s 0x7F02 m 0
      (le8 s.test.results.length ++ zeros 3 ++ s.test.results.flatMap (fun t =>
        le8 t.test ++ le8 t.verdict ++ zeros 2 ++ zeros 4 ++ le 8 t.signature.toNat)) s)) ∧
  (∀ (s : State) (k : Nat) (rest : List Nat) (pass : Bool) (sig : BitVec 64), s.alive = true → s.test.running = true →
    s.test.left = k :: rest →
    (s.testStops = false → s.testReady k = true →
      ∃ (t : State) (v : Nat) (g : BitVec 64), exec (.selfTestComplete pass sig) s = .next t ∧ t.test.left = rest ∧
        t.test.running = true ∧ t.test.results = s.test.results ++ [{ test := k, verdict := v, signature := g }] ∧
        (k = 0 → v = if sig = 0x3A91C4E07D25B816 then 1 else 0) ∧ (k = 1 → v = if sig = 0xE6C20F591A8B4D73 then 1 else 0) ∧
        (k = 2 → v = if sig = 0x5D07A3B6C91E2F48 then 1 else 0) ∧
        (3 ≤ k → k ≠ 8 → k ≠ 9 → v = if pass = true then 1 else 0) ∧ (k < 3 ∨ 8 ≤ k ∨ pass = false → g = sig) ∧
        (pass = true → (k = 3 → g = 0x91F46E2A0B7CD535) ∧ (k = 4 → g = 0x2C8BD170E45A96F1) ∧
          (k = 5 → g = 0xB36E58C927D01A4E) ∧ (k = 6 → g = 0x0F5AE2D48C63B709)) ∧
        (k = 8 → (s.nvm.bad = [] → v = 1 ∧ (sig ≠ 0x64D10C8FA3E72B95 → t.raised 122)) ∧
          (s.nvm.bad ≠ [] → v = 0 ∧ t.raised 123)) ∧
        (k = 9 → (s.mgt.flashBad = [] → v = 1 ∧ (sig ≠ 0xC8E07B15496DF3A2 → t.raised 122)) ∧
          (s.mgt.flashBad ≠ [] → v = 0 ∧ t.raised 123))) ∧
    (s.testReady k = false →
      ∃ t, exec .testPreconditionTimeout s = .next t ∧ t.test.left = rest ∧ t.test.running = true ∧
        t.test.results = s.test.results ++ [{ test := k, verdict := 2, signature := 0 }])) ∧
  (∀ s : State, s.alive = true → s.test.running = true → s.test.left = [] ∨ s.testStops = true →
    ∃ t, exec .testRunEnd s = .next t ∧ t.test.running = false ∧ t.test.left = [] ∧ t.raised 108 ∧
      t.test.results = s.test.results ++ s.test.left.map (fun k => { test := k, verdict := 2, signature := 0 }) ∧
      (s.test.enteredHold = true → s.sup.mode = .hold → t.sup.mode = .run) ∧
      (s.test.enteredHold = false → t.sup.mode = s.sup.mode))

/-- R232, R261, R270, R301, R336, R346, R434, R475, R489, R490, R499, R501-R502: A GPIO edge, and the instructions of the test access port; the debug instructions go nowhere once the lock is set. The pins: how they stand until the control path is released, while `EXTEST`, `HIGHZ` or `CLAMP` is the current instruction, and with the panel disabled; when `HIRQ_N` is low, what a fan's PWM pin shows, and which path a channel's current takes, that from its peak to its hold among them. -/
def Obligations.GpioEdgesAndTestPort : Prop :=
  ((∀ (s : State) (g : Nat) (high : Bool), s.alive = true → g < 16 → s.cf .gpio g 0 7 6 = 0 → s.gpio.level.getD g false = !high →
    (s.cb .gpio g 0 (if high then 3 else 2) = true →
      ∃ t, exec (.gpioEdge g high) s = .next t ∧ t.raised (124 + g / 4) ∧ t.gpio.out = s.gpio.out ∧
        t.gpio.level = s.gpio.level.set g high ∧ t = { s with gpio := t.gpio, evt := t.evt }) ∧
    (s.cb .gpio g 0 (if high then 3 else 2) = false →
      exec (.gpioEdge g high) s = .next { s with gpio := { s.gpio with level := s.gpio.level.set g high } })) ∧
  (∀ (s : State) (op : BitVec 5),
    exec .extest s = .next { s with jtag := { ir := 0, reg := .boundary } } ∧
    exec .idcode s = .next { s with jtag := { ir := 1, reg := .idcode } } ∧
    exec .samplePreload s = .next { s with jtag := { ir := 2, reg := .boundary } } ∧
    exec .highz s = .next { s with jtag := { ir := 4, reg := .bypass } } ∧
    exec .clamp s = .next { s with jtag := { ir := 5, reg := .bypass } } ∧
    (16 ≤ op.toNat → op.toNat ≤ 30 →
      exec (.debugAccess op) s = .next { s with jtag := { ir := op, reg := if s.mgt.otp.debugLock then .bypass else .debug } }) ∧
    (op.toNat < 16 ∨ op.toNat = 31 → op ≠ 0 → op ≠ 1 → op ≠ 2 → op ≠ 4 → op ≠ 5 →
      exec (.bypass op) s = .next { s with jtag := { ir := op, reg := .bypass } }))) ∧
  (∀ s : State,
    (s.hirqLow = true ↔ s.released = true ∧ s.host.irqEn = true ∧ s.evt.summary &&& s.evt.mask ≠ 0) ∧
    (s.released = false →
      (∀ n, s.actPinDriven n = false ∧ s.actFreewheel n = false ∧ s.hswSupply n = false ∧ s.hswPullIn n = false) ∧
      s.bstswOn = false ∧ s.epdswOn = false ∧ s.fledOn = false ∧ (∀ c, s.crka c = false) ∧
      (∀ j p, s.panelPins j p = {}) ∧ (∀ r us, s.krowLow r us = false) ∧ (∀ m, s.excitation m = none) ∧
      s.calHiOn = false ∧ s.calLoOn = false ∧ (∀ f c, s.fanpwm f c = true) ∧
      (∀ g, s.gpioOutput g = false ∧ s.gpioPull g = true) ∧
      (∀ sends level, s.busPins sends level = { tx := [true, true], de := [false, false], t1lOn := false, rmiiOn := false })) ∧
    (∀ i t, i = .extest ∨ i = .highz ∨ i = .clamp → exec i s = .next t →
      (∀ n, t.actPinDriven n = false ∧ t.actFreewheel n = false ∧ t.hswSupply n = false ∧ t.hswPullIn n = false) ∧
      t.bstswOn = false ∧ t.epdswOn = false ∧ (∀ m, t.excitation m = none) ∧ t.calHiOn = false ∧ t.calLoOn = false ∧
      (∀ sends level, (t.busPins sends level).t1lOn = false)) ∧
    (s.pnlEn = false → (∀ j p, s.panelPins j p = {}) ∧ s.fledOn = false ∧ s.epdswOn = false ∧ (∀ c, s.crka c = false)) ∧
    (∀ f c, (s.fan f).div = 0 → s.fanpwm f c = true) ∧
    (s.released = true → s.scanHeld = false → ∀ n, let x := s.ach (s.gangOf n)
      (x.ph = .on → x.toHold = true → s.actPinDriven n = false ∧ s.actFreewheel n = false ∧ s.actRecovery n = true) ∧
      (x.ph = .on → x.toHold = false → s.actPinDriven n = true ∧ s.actFreewheel n = true ∧ s.actRecovery n = false)) ∧
    (s.released = true → ∀ f c, (s.fan f).div ≠ 0 →
      (s.fanpwm f c = true ↔ ((c < (s.fan f).onCyc) ↔ s.cb .fan f 0 22 = false))) ∧
    (∀ r us, s.krowLow r us = true → r < 8 ∧ ∀ q, s.krowLow q us = true → q = r) ∧
    (∀ t, exec .idcode s = .next t → t.idCaptured = some 0x13200965) ∧
    (s.jtag.reg = .debug → s.mgt.otp.debugLock = true → s.testReg = .bypass))

/-! ## Bushel (R396-R417) -/

/-- R397, R402-R404, R416, R494: Bushel takes a happening from its ring: it merges with the last record, or becomes a record with the next serial, or is dropped from a full buffer; in summary mode it is counted. -/
def Obligations.HappeningsServed : Prop :=
  ∀ (s : State) (h : Happening), s.alive = true → s.bushel.closed = false → s.sup.restorePend = false → s.bushel.ring = [h] →
    (∀ l, s.bushel.summaryMode = false → s.bushel.last = some l → l.record.typ = h.typ → l.record.source = h.source →
      l.record.sev = h.sev → h.typ ≠ 9 → l.record.pcc = s.backup.pcc.toNat → h.repWin ≠ 0 →
      (h.mc - l.lastMc).toNat ≤ s.secMc h.repWin → l.record.rep < 0xFFFFFF →
      s.backup.opt.toNat - l.record.opt ≤ 0xFFFF →
      ∃ t r, exec .bushelRingService s = .next t ∧
        r = { l.record with rep := l.record.rep + 1, lastDopt := s.backup.opt.toNat - l.record.opt } ∧
        t.bushel.ring = [] ∧ t.bushel.last = some { l with record := r, lastMc := h.mc } ∧
        t.bushel.nextSerial = s.bushel.nextSerial ∧ t.bushel.dropped = s.bushel.dropped ∧
        (∀ i, i < s.bushel.buf.length → (nth s.bushel.buf i).record.serial = r.serial →
          (∀ k, i < k → k < s.bushel.buf.length → (nth s.bushel.buf k).record.serial ≠ r.serial) → t.nvm = s.nvm ∧
          ((nth s.bushel.buf i).st = .unqueued →
            t.bushel.buf = upd s.bushel.buf i (fun e => { e with record := r, lastMc := h.mc }) ∧ t.bushel.pend = s.bushel.pend) ∧
          ((nth s.bushel.buf i).st = .queued → t.bushel.buf = upd s.bushel.buf i (fun e => { e with lastMc := h.mc }) ∧
            t.bushel.pend = addPend r s.bushel.pend)) ∧
        (∀ k, (∀ e ∈ s.bushel.buf, e.record.serial ≠ r.serial) → l.slot = some k →
          t.bushel.buf = s.bushel.buf ∧
          (s.bushel.rewriting = none → t.bushel.rewriting = some { record := r, applied := 0 } ∧
            t.nvm = { s.nvm with queue := upd s.nvm.queue 1 (fun q => q ++
              [{ job := .rewrite k, cws := [{ bank := 1, cw := 2 * k, data := r.cw0 }] }]) }) ∧
          (s.bushel.rewriting ≠ none → t.bushel.rewriting = s.bushel.rewriting ∧
            t.bushel.pend = addPend r s.bushel.pend ∧ t.nvm = s.nvm)) ∧
        t = { s with bushel := t.bushel, nvm := t.nvm }) ∧
    (s.bushel.summaryMode = false → mergeRec h s = none → s.bushel.logFull = false → s.bushel.scanDone = true →
      (s.bushel.buf.length < 16 → h.sev < 5 → s.bushel.buf.countP (fun e => e.st == .unqueued) < 7 →
        ∃ t r, exec .bushelRingService s = .next t ∧
          r = { serial := s.bushel.nextSerial, typ := h.typ, sev := h.sev, snapSet := h.snapSet, snapOk := h.snapOk,
                source := h.source, pcc := s.backup.pcc.toNat, opt := s.backup.opt.toNat, mc := s.chain.mc,
                pt := some s.chain.pt.toNat, snap := h.snap } ∧
          t = { s with bushel := { s.bushel with
            ring := [], buf := s.bushel.buf ++ [{ record := r, lastMc := h.mc }],
            nextSerial := if s.bushel.nextSerial + 1 = 0 then 1 else s.bushel.nextSerial + 1,
            last := some { record := r, repWin := h.repWin, lastMc := h.mc } } }) ∧
      (16 ≤ s.bushel.buf.length → (∀ e, e ∈ s.bushel.buf → e.st = .queued ∨ h.sev ≤ e.record.sev) →
        ∃ t, exec .bushelRingService s = .next t ∧ t.bushel.buf = s.bushel.buf ∧ t.bushel.nextSerial = s.bushel.nextSerial ∧
          t.bushel.last = none ∧ t.bushel.dropped = upd s.bushel.dropped h.sev (incSat 32) ∧ Noted s t)) ∧
    (s.bushel.summaryMode = true →
      exec .bushelRingService s = .next { s with bushel := { s.bushel with
        ring := [],
        sum := { s.bushel.sum with
          typeCnt := upd s.bushel.sum.typeCnt h.typ (incSat 32), sevCnt := upd s.bushel.sum.sevCnt h.sev (incSat 32),
          srcCnt := if h.typ = 9 then s.bushel.sum.srcCnt else upd s.bushel.sum.srcCnt (h.source % 128) (incSat 32) } } })

/-- R405, R408, R409, R410, R493: A flush, 60 s after the last one with the buffer not empty: every unqueued record takes a pool slot and goes to NVM in serial order, codeword 1 before codeword 0; before the scan's end it waits for it. A pool too small leaves the newest unqueued until it is restored. That the flush then goes on by itself is the model's choice (notes/assumptions/79.md). The pool of 24 empty slots is restored from the free slots; with none left, by clearing the oldest record of the lowest severity. -/
def Obligations.FlushesAndPool : Prop :=
  (∀ s : State, s.alive = true → s.bushel.closed = false → s.bushel.summaryMode = false →
    s.secMc 60 ≤ s.mcSince s.bushel.lastFlushMc → s.bushel.ring = [] →
    (s.bushel.scanDone = false → s.bushel.buf ≠ [] →
      exec .bushelFlushTimer s = .next { s with bushel := { s.bushel with flushDue := true } }) ∧
    (s.bushel.scanDone = true →
    let un := s.bushel.buf.filter (fun e => e.st == .unqueued)
    un ≠ [] → s.nvm.queue.length = 8 →
    (s.bushel.pool.length < un.length → ∃ t, exec .bushelFlushTimer s = .next t ∧ t.bushel.pool = [] ∧
      t.bushel.buf.map (fun e => e.record) = s.bushel.buf.map (fun e => e.record) ∧
      t.bushel.buf.countP (fun e => e.st == .unqueued) = un.length - s.bushel.pool.length ∧
      t.bushel.flushDue = true ∧ t.bushel.poolDue = true ∧ t.bushel.flushes = (s.bushel.flushes + 1) % 2 ^ 32 ∧
      (nth t.nvm.queue 0).length = (nth s.nvm.queue 0).length + s.bushel.pool.length ∧
      t = { s with bushel := t.bushel, nvm := { s.nvm with queue := t.nvm.queue } }) ∧
    (un.length ≤ s.bushel.pool.length → ∃ t, exec .bushelFlushTimer s = .next t ∧
      t.bushel.buf = s.bushel.buf.map (fun e => { e with st := .queued }) ∧
      t.bushel.pool = s.bushel.pool.drop un.length ∧
      t.bushel.flushes = (s.bushel.flushes + 1) % 2 ^ 32 ∧ t.bushel.lastFlushMc = s.chain.mc ∧
      nth t.nvm.queue 0 = nth s.nvm.queue 0 ++ List.zipWith (fun e k =>
        { job := .record e.record.serial k, cws := [{ bank := 1, cw := 2 * k + 1, data := e.record.cw1 },
                                                    { bank := 1, cw := 2 * k, data := e.record.cw0 }] }) un s.bushel.pool ∧
      (∀ j, j ≠ 0 → nth t.nvm.queue j = nth s.nvm.queue j) ∧ t.nvm.bank1 = s.nvm.bank1 ∧
      t = { s with
        bushel := { s.bushel with
          buf := t.bushel.buf, pool := t.bushel.pool, flushes := t.bushel.flushes, lastFlushMc := t.bushel.lastFlushMc,
          flushDue := false },
        nvm := { s.nvm with queue := t.nvm.queue } }))) ∧
  (∀ s : State, s.alive = true → s.bushel.poolDue = true → s.bushel.scanDone = true → s.bushel.closed = false →
    s.bushel.summaryMode = false → s.bushel.flushDue = false →
    (24 ≤ s.bushel.pool.length + s.bushel.clearing.length + s.bushel.freeSlots.length + (12288 - s.bushel.fresh) →
      ∃ t, exec .bushelPoolRestore s = .next t ∧ t.bushel.poolDue = false ∧
        s.bushel.pool <+: t.bushel.pool ∧
        t.bushel.pool.length + t.bushel.clearing.length = max 24 (s.bushel.pool.length + s.bushel.clearing.length) ∧
        (∀ k, k ∈ t.bushel.pool → k ∈ s.bushel.pool ∨ k ∈ s.bushel.freeSlots ∨ (s.bushel.fresh ≤ k ∧ k < 12288)) ∧
        t.bushel.index = s.bushel.index ∧ t.bushel.clearing = s.bushel.clearing ∧ t.bushel.buf = s.bushel.buf ∧
        Noted s t) ∧
    (∀ v, s.bushel.freeSlots = [] → 12288 ≤ s.bushel.fresh → s.bushel.pool.length + s.bushel.clearing.length = 23 →
      v ∈ s.bushel.index → (∀ e, e ∈ s.bushel.index → v.sev ≤ e.sev) → v.sev < 8 →
      (∀ e, e ∈ s.bushel.index → e.sev = v.sev → e ≠ v → laterMC e.serial v.serial = false ∧ laterMC v.serial e.serial = true) →
      s.bushel.index.Nodup →
      ∃ t, exec .bushelPoolRestore s = .next t ∧ t.bushel.poolDue = false ∧ t.bushel.logFull = true ∧
        (s.bushel.logFull = false → t.raised 102) ∧
        t.bushel.index = s.bushel.index.erase v ∧ t.bushel.clearing = s.bushel.clearing ++ [v] ∧
        t.bushel.pool = s.bushel.pool ∧
        t.nvm = { s.nvm with queue := upd s.nvm.queue 1 (fun q => q ++
          [{ job := .clear v.slot, cws := [{ bank := 1, cw := 2 * v.slot, data := zeros 32 }] }]) } ∧
        Noted { s with nvm := t.nvm } t))

/-- R20, R405, R410, R413, R416, R423, R493, R494: the start-up scan, which reports each uncorrectable codeword 0 and after which a flush triggered meanwhile begins, and the timers of summary mode; a summary write waits for the one before it. When a stored record last recurred is a free value (notes/assumptions/88.md). -/
def Obligations.ScanAndSummary : Prop :=
  (∀ s : State, s.alive = true → s.bushel.scanDone = false → s.bushel.summaryMode = false → s.bushel.closed = false →
    (s.nvm.bad.filter (fun c => c.1 == 1 && c.2 % 2 == 0 && decide (c.2 < 2 * 12288))).eraseDups.length ≤ 1024 →
    ∃ t, exec .bushelScan s = .next t ∧ t.bushel.scanDone = true ∧
      t.bushel.scanErr = (s.nvm.bad.filter (fun c => c.1 == 1 && c.2 % 2 == 0 && decide (c.2 < 2 * 12288))).eraseDups.length ∧
      (∀ slot serial sev, (∃ e ∈ t.bushel.index, e.slot = slot ∧ e.serial = serial ∧ e.sev = sev) ↔
        slot < 12288 ∧ s.nvm.bad.contains (1, 2 * slot) = false ∧
        getW (nvRead s.nvm 1 (64 * slot) 32) 0 ≠ 0 ∧ serial = w32 (getW (nvRead s.nvm 1 (64 * slot) 32) 0) ∧
        sev = getB (nvRead s.nvm 1 (64 * slot) 32) 5 % 8) ∧
      t.bushel.pool.length ≤ 24 ∧ (∀ k, k ∈ t.bushel.pool → k < 12288 ∧ ∀ e, e ∈ t.bushel.index → e.slot ≠ k) ∧
      (0 < t.bushel.scanErr → t.raised 102 ∧ t.raised 123) ∧ t.nvm.bank0 = s.nvm.bank0 ∧ t.nvm.bank1 = s.nvm.bank1 ∧
      (s.bushel.flushDue = false → t.nvm = s.nvm ∧ t.bushel.buf.length = s.bushel.buf.length ∧
        (t.bushel.index = [] → s.bushel.buf = [] → t.bushel.nextSerial = 1)) ∧
      (s.bushel.flushDue = true → s.bushel.ring = [] → t.bushel.scanErr = 0 → t.bushel.logFull = false →
        (∃ e ∈ s.bushel.buf, e.st = .unqueued) →
        t.bushel.buf.length = s.bushel.buf.length ∧ t.bushel.flushes = (s.bushel.flushes + 1) % 2 ^ 32 ∧ t.bushel.lastFlushMc = s.chain.mc)) ∧
  (∀ s : State, s.alive = true → s.bushel.summaryMode = true →
    (s.secMc 60 ≤ s.mcSince s.bushel.lastSumMc → s.bushel.closed = false →
      (nvBusy s.nvm 1 = false →
        ∃ t op, exec .summaryWriteTimer s = .next t ∧ op.job = .summary (if s.bushel.sum.copy = some 0 then 1 else 0) ∧
          (let image := nvCws s.nvm 0 (nvSumBase + 2048 * (if s.bushel.sum.copy = some 0 then 1 else 0))
             (sumBytes { s.bushel.sum with seq := s.bushel.sum.seq + 1 } 1)
           op.cws = image.drop 1 ++ image.take 1) ∧
          t = { s with
            bushel := { s.bushel with
              sum := { s.bushel.sum with seq := s.bushel.sum.seq + 1 }, lastSumMc := s.chain.mc, sumDue := false },
            nvm := { s.nvm with queue := upd s.nvm.queue 1 (fun q => q ++ [op]) } }) ∧
      (nvBusy s.nvm 1 = true → exec .summaryWriteTimer s =
        .next { s with bushel := { s.bushel with lastSumMc := s.chain.mc, sumDue := true } })) ∧
    (s.secMc 1 ≤ s.mcSince s.bushel.lastHistMc → s.bushel.sum.hist.length = 16 → s.bushel.sum.ext.length = 16 →
      ∃ t, exec .histogramSample s = .next t ∧ t.bushel.lastHistMc = s.chain.mc ∧
        (∀ k, k < 16 →
          let v := (s.signal (s.snapSig k 0)).toInt
          let bin := (max 0 (min 15 (Int.fdiv (v - sext 16 (s.cf .snap k 7 15 0) * 65536) (2 ^ s.cf .snap k 7 30 26)))).toNat
          if s.cb .snap k 5 31 = true ∧ s.cb .snap k 7 31 = true then
            nth t.bushel.sum.hist k = upd (nth s.bushel.sum.hist k) bin (incSat 32) ∧
            (nth t.bushel.sum.ext k).min = min v (nth s.bushel.sum.ext k).min ∧
            (nth t.bushel.sum.ext k).max = max v (nth s.bushel.sum.ext k).max ∧
            (v < (nth s.bushel.sum.ext k).min → (nth t.bushel.sum.ext k).minOpt = s.backup.opt.toNat)
          else nth t.bushel.sum.hist k = nth s.bushel.sum.hist k ∧ nth t.bushel.sum.ext k = nth s.bushel.sum.ext k) ∧
        t = { s with bushel := { s.bushel with lastHistMc := s.chain.mc, sum := { s.bushel.sum with
          hist := t.bushel.sum.hist, ext := t.bushel.sum.ext } } }))

/-! ## Reset, start-up and Backup (R418-R441, R452, R453, R457) -/

/-- R418, R419, R421, R422, R429, R430, R431, R432, R438, R452, R457: A release starts the device up once nothing holds it any longer; the rail, NRST and the thermal hold each have their own. That each holds the reset with a flag of its own, that start-up's management store is taken to check, that a lost marker is set again, and that the test port keeps its state, are the model's choices (notes/assumptions/30.md, 90.md, 27.md, 38.md). What puts the running device in reset, and the resets that start it up again at once; a reset in the interval of a Shutdown is held as the Shutdown's is (notes/assumptions/30.md). That a loss of VMAIN while reset is held ends in Backup, and which codeword it may tear, and that the test port keeps its state, are the model's choices (notes/assumptions/81.md, 34.md, 38.md). -/
def Obligations.Resets : Prop :=
  (∀ (s : State) (r : Release),
    (∀ held, s.sup.vmain = false → s.sup.phase = .backup ∨ s.sup.phase = .held .power → s.sup.railLow = false →
      s.sup.nrstLow = false → s.sup.thermLow = false →
      ∃ t, exec (.powerUp held r) s = .next t ∧
        StartsUp .por r { s with backup := { s.backup with marker := s.backup.marker && held } } t) ∧
    (∀ held, s.sup.vmain = false → s.sup.phase = .backup ∨ s.sup.phase = .held .power → s.sup.nrstLow = true →
      exec (.powerUp held r) s = .next { s with sup := { s.sup with phase := .held .power, vmain := true },
                                                backup := { s.backup with marker := s.backup.marker && held } }) ∧
    (s.sup.vmain = true →
    (s.sup.railLow = true → s.sup.nrstLow = false → s.sup.thermLow = false → s.sup.phase = .held .railUv →
      ∃ t, exec (.railUvRecovery r) s = .next t ∧ StartsUp .railUv r s t) ∧
    (s.sup.nrstLow = true → s.sup.railLow = false → s.sup.thermLow = false → s.sup.phase = .held .nrst →
      ∃ t, exec (.nrstRelease r) s = .next t ∧ StartsUp .nrst r s t) ∧
    (s.sup.thermLow = true → s.sup.railLow = false → s.sup.nrstLow = false → s.sup.phase = .held .thermal →
      ∃ t, exec (.thermalRestart r) s = .next t ∧ StartsUp .thermal r s t) ∧
    (s.sup.nrstLow = true → s.sup.thermLow = true → s.sup.phase = .held .nrst →
      exec (.nrstRelease r) s = .next { s with sup := { s.sup with nrstLow := false } })) ∧
    (s.sup.vmain = false → s.sup.phase = .backup ∨ s.sup.phase = .held .power → s.sup.nrstLow = true →
      exec (.nrstRelease r) s = .next { s with sup := { s.sup with nrstLow := false } })) ∧
  (∀ (s : State) (r : Release), s.outOfReset = true →
    (∃ t, exec .nrst s = .next t ∧ t.sup.nrstLow = true ∧ InReset (.held .nrst) s t ∧
      t.sup.thermLow = (s.sup.thermLow || s.sup.shutAt.isSome)) ∧
    (∃ t, exec .railUndervoltage s = .next t ∧ t.sup.railLow = true ∧ InReset (.held .railUv) s t ∧
      t.sup.thermLow = (s.sup.thermLow || s.sup.shutAt.isSome)) ∧
    (s.sup.vmain = true → ∃ t, exec (.backupSwitchover false) s = .next t ∧ t.sup.switched = true ∧
      t.sup.vmain = false ∧ t.sup.nrstLow = s.sup.nrstLow ∧ InReset .backup s t) ∧
    (s.sup.vmain = true → s.sup.npfwLow = true → s.sup.pfwAt + 72000 ≤ s.chain.now →
      exec (.backupSwitchover true) s = exec (.backupSwitchover false) s) ∧
    (s.sup.vmain = true → ∃ t, exec (.backupSwitchover true) s = .next t ∧ t.sup.switched = true ∧
      (∃ b, InReset .backup { s with nvm := { s.nvm with bad := b } } t ∧ ∀ c, c ∈ s.nvm.bad → c ∈ b)) ∧
    (s.sup.shutAt = none → s.sup.softPend = true → ∃ t, exec (.softReset r) s = .next t ∧
      StartsUp .soft r (nvDrain (nvLoad (flushPass s)) (flushPass s)) t) ∧
    (s.sup.shutAt ≠ none → exec (.softReset r) s = .next s) ∧
    (s.sup.shutAt = none → ∃ t, exec (.mgtWatchdogExpiry r) s = .next t ∧ StartsUp .mgtWdt r s t ∧ t.sup.wdtPend = true) ∧
    (s.sup.shutAt = none → s.sup.npfwLow = true → s.pfwMv + 1000 < r.vmain →
      ∃ t, exec (.pfwRecover r) s = .next t ∧ StartsUp .pfwRecover r s t) ∧
    (s.sup.shutAt ≠ none → ∃ t, exec (.mgtWatchdogExpiry r) s = .next t ∧ InReset (.held .thermal) (writeFault 5 120 0 0 s) t ∧
      t.sup.thermLow = true ∧ t.sup.wdtPend = true) ∧
    (s.sup.shutAt ≠ none → s.sup.npfwLow = true → s.pfwMv + 1000 < r.vmain →
      ∃ t, exec (.pfwRecover r) s = .next t ∧ InReset (.held .thermal) s t ∧ t.sup.thermLow = true) ∧
    (s.sup.npfwLow = false ∨ r.vmain ≤ s.pfwMv + 1000 → exec (.pfwRecover r) s = .next s))

/-- R406, R425, R426, R428, R486: the power-fail warning, once VMAIN stays below its threshold with the comparator's hysteresis: the safe state, every channel and fan off at once, every other NVM operation abandoned, and the last flush: the outstanding rewrite with its pending occurrences, each buffered record not yet verified in the buffer's order, which is that of the serials, then the power-fail record. That the row stands for 20 µs below the threshold, on which side of it + 0.5 V itself counts, and that a waiting command then fails, are the model's choices (notes/assumptions/80.md, 34.md). -/
def Obligations.PowerFailWarning : Prop :=
  ∀ s : State, s.outOfReset = true → s.sup.npfwLow = false → s.sup.shutAt = none → s.bus.held = [] →
    s.pfwMv = (if 20 ≤ s.sup.pfwTh ∧ s.sup.pfwTh ≤ 120 then 250 * s.sup.pfwTh else 18000) ∧
    (∀ (mv : Nat) (rest : List Nat),
      s.pfwRaised (mv :: rest) = true ↔ mv < s.pfwMv ∧ ∀ v, v ∈ rest → v < s.pfwMv + 500) ∧
    (∃ t, exec .powerFailWarning s = .next t ∧ t.sup.npfwLow = true ∧ t.sup.safePfw = true ∧ t.raised 90 ∧
      t.sup.pfwAt = s.chain.now ∧
      (s.released = true →
        (∀ n, n < 32 → (t.ach n).ph = .off ∨ (t.ach n).ph = .decay) ∧
        (∀ f, f < 16 → (t.fan f).st = .disabled ∨ (t.fan f).onCyc = 0)) ∧
      t.bushel.closed = true ∧ t.panel.driving = false ∧ t.stone.run = none ∧ t.test.running = false ∧
      t.nvm.bank0 = s.nvm.bank0 ∧ t.nvm.bank1 = s.nvm.bank1 ∧
      (∀ e, 1 ≤ e → nth t.nvm.queue e = []) ∧
      (∀ op, op ∈ nth t.nvm.queue 0 → op.job.isFlush = true) ∧
      nth t.nvm.queue 0 = nth (powerFailFlush (powerFailSafe s)).nvm.queue 0) ∧
    (∀ u : State,
      let v := powerFailReady u
      let writes (n : Word) (slot : Nat) (r : Rec) (pf : Bool) : NvOp :=
        { job := if pf = true then .pfRecord n slot else .record n slot,
          cws := [{ bank := 1, cw := 2 * slot + 1, data := r.cw1 }, { bank := 1, cw := 2 * slot, data := r.cw0 }] }
      let unplaced := v.bushel.buf.filter (fun e => (nth v.nvm.queue 0).all (fun o =>
        match o.job with | .record n _ => n != e.record.serial | _ => true))
      v.bushel.summaryMode = false → unplaced.length ≤ v.bushel.pool.length →
      ∃ rw recs pf r, nth (powerFailFlush u).nvm.queue 0 = rw ++ recs ++ pf ∧
        (v.bushel.rewriting = none → rw = []) ∧
        (∀ w k op before after, v.bushel.rewriting = some w → nth v.nvm.queue 1 = before ++ op :: after →
          (∀ o, o ∈ before → ∀ j, o.job ≠ .rewrite j) → op.job = .rewrite k →
          rw = [{ op with cws := [{ bank := 1, cw := 2 * k, data := (v.newestRec w.record).cw0 }] }]) ∧
        recs.length = v.bushel.buf.length ∧
        (∀ (i : Nat) (e : BufEntry), v.bushel.buf[i]? = some e → ∃ k, recs[i]? =
            some (writes (v.newestRec e.record).serial k (v.newestRec e.record) false) ∧
          (k ∈ v.bushel.pool ∨ ∃ o, o ∈ nth v.nvm.queue 0 ∧ o.job = .record e.record.serial k)) ∧
        (∀ slot, slot ∈ v.bushel.pool → (∀ o, o ∈ recs → ∀ n, o.job ≠ .record n slot) →
          ∃ k, k ∈ v.bushel.pool ∧ (∀ o, o ∈ recs → ∀ n, o.job ≠ .record n k) ∧
            pf = [writes v.bushel.nextSerial k r true]) ∧
        r.serial = v.bushel.nextSerial ∧ r.typ = 6 ∧ r.sev = 6 ∧
        r.pcc = v.backup.pcc.toNat ∧ r.opt = v.backup.opt.toNat ∧ r.mc = v.chain.mc ∧ r.pt = some v.chain.pt.toNat)

/-- R26, R175, R252, R346, R423, R433, R435-R437: the end of the scan that start-up waited for, and the release of the control path, at which the commits made since step 5 come into force, but for CHAIN's. That outputs then drive `OUT_INIT`, and the last mode asked for is entered, are the model's choices (notes/assumptions/61.md, 20.md). -/
def Obligations.ControlPathReleased : Prop :=
  (∀ s : State, s.sup.phase = .scanning → s.sup.npfwLow = false → s.sup.restorePend = true → s.nvm.bank1 = [] → s.nvm.bad = [] →
    ∃ t, exec .bushelScan s = .next t ∧ (t.sup.phase = .stopped ∨ t.sup.phase = .starting) ∧ t.bushel.scanDone = true ∧
      t.sup.restorePend = false ∧ t.sup.optRestored = true ∧ t.backup.pcc = 1 ∧ t.backup.opt = 0) ∧
  (∀ s : State, s.sup.phase = .starting → s.chain.st ≠ .start → s.chain.pt = 0 → s.sup.npfwLow = false →
    let c := commitsRelease s
    (∀ sec, sec ≠ .chain → sec ≠ .sol → sec ≠ .loop → c.cfg.inForce.sec sec = s.cfg.committed.sec sec) ∧
    c.cfg.inForce.sec .chain = s.cfg.inForce.sec .chain ∧
    ∃ t, exec .controlPathRelease s = .next t ∧ t.released = true ∧ t.raised 91 ∧ t.sup.modeReq = none ∧
      t.sup.mode = (match s.sup.modeReq with | some .quiet => .quiet | some .hold => .hold | _ => .run) ∧
      (∀ g, g < 16 → t.gpio.out.getD g false = c.cb .gpio g 0 4) ∧
      (∀ l, 1 ≤ l → l ≤ 127 → l < s.rood.loops.length → c.loopEn l = true → (t.loop l).dyn.st = .opened) ∧
      (∀ l, 1 ≤ l → l ≤ 127 → c.loopEn l = false → t.loop l = s.loop l) ∧
      (∀ n, n < 32 → n < s.act.ch.length → (t.ach n).retryLeft = c.af n 0 4 2) ∧
      (c.pnlEn = true → t.panel.clearing = .waitTemp) ∧
      (s.sup.cause = some .thermal → t.raised 89) ∧ (s.sup.wdtPend = true → t.raised 120) ∧
      (s.sup.postRan = true → t.raised 108) ∧
      t.nvm = s.nvm ∧ t.backup = s.backup ∧ t.mgt = s.mgt)

/-! ## The building bus (R351, R369-R391) -/

/-- R34, R369, R371-R373, R389-R391: frames, buffers, links and counters of a port that is enabled; at the end of a frame its live fields come into force. A port that is disabled, or without the PLL's clock, takes nothing. That the end of a frame is the boundary of the live fields, that only a request that awaits an answer holds a receive buffer, and that each loss of the link counts in `TOKEN_LOST`, are the model's choices (notes/assumptions/9.md, 53.md, 55.md). -/
def Obligations.PortsAndFrames : Prop :=
  ∀ (s : State) (p : Nat), p < 4 → p < s.bus.ports.length →
    (s.portRuns p = false → ∀ (k : FrameKind) (up sole : Bool), exec (.busFrameReceive p k) s = .next s ∧
      exec (.busFrameTransmitDone p) s = .next s ∧ exec (.linkUpChange p up sole) s = .next s) ∧
    (s.portRuns p = true → s.bus.held = [] → s.cfg.inForce.length = 20 → (s.cfg.inForce.sec .bus).length = 64 →
      ∀ k w, w < 64 → ∀ c ∈ [Instr.busFrameReceive p k, .busFrameTransmitDone p], ∃ t, exec c s = .next t ∧
        t.cw .bus 0 w = merge (w32 (s.busLive p w)) (s.cw .bus 0 w) (s.cfg.committed.word .bus 0 w) ∧
        (∀ sec, sec ≠ .bus → t.cfg.inForce.sec sec = s.cfg.inForce.sec sec) ∧
        t.cfg.committed = s.cfg.committed ∧ t.nvm = s.nvm ∧ t.rood = s.rood ∧ t.act = s.act) ∧
    (s.portRuns p = true → (∀ w, w < 64 → s.cw .bus 0 w = s.cfg.committed.word .bus 0 w) →
      (∀ k, rxLimit p ≤ (s.port p).rx → ∃ t, exec (.busFrameReceive p k) s = .next t ∧
        t.port p = { (s.port p) with rxDrop := incSat 32 (s.port p).rxDrop, lastDropMc := some s.chain.mc } ∧
        (∀ q, q ≠ p → t.port q = s.port q) ∧
        ((s.port p).lastDropMc = none → t.raised (97 + min p 2)) ∧
        Noted { s with bus := { s.bus with ports := t.bus.ports } } t) ∧
      ((s.port p).rx < rxLimit p →
        exec (.busFrameReceive p .bad) s = .next (updPort p (fun x => { x with rxErr := incSat 32 x.rxErr }) s) ∧
        exec (.busFrameReceive p .other) s = .next (updPort p (fun x => { x with rxFrames := incSat 32 x.rxFrames }) s) ∧
        exec (.busFrameReceive p .notAccepted) s =
          .next (updPort p (fun x => { x with rxFrames := incSat 32 x.rxFrames }) s) ∧
        (s.carriesBac p = true →
          ((s.port p).tx < txLimit p → exec (.busFrameReceive p .confirmed) s =
            .next (updPort p (fun x => { x with rxFrames := incSat 32 x.rxFrames, tx := x.tx + 1, taken := x.taken + 1 }) s)) ∧
          (txLimit p ≤ (s.port p).tx → exec (.busFrameReceive p .confirmed) s =
            .next (updPort p (fun x => { x with rxFrames := incSat 32 x.rxFrames, rx := x.rx + 1 }) s)) ∧
          (∀ i, exec (.busFrameReceive p (.ack i)) s =
            .next (updPort p (fun x => { x with rxFrames := incSat 32 x.rxFrames })
              { s with bus := { s.bus with outstanding := s.bus.outstanding.eraseIdx i } })))) ∧
      ((s.port p).tx ≤ (s.port p).taken → s.bus.held = [] → exec (.busFrameTransmitDone p) s = .next s) ∧
      ((s.port p).taken < (s.port p).tx → s.bus.held = [] → exec (.busFrameTransmitDone p) s = .next (updPort p (fun x =>
        { x with tx := if x.rx = 0 then x.tx - 1 else x.tx, taken := if x.rx = 0 then x.taken else x.taken + 1,
                 rx := x.rx - 1, txFrames := incSat 32 x.txFrames }) s))) ∧
    (s.portRuns p = true →
      (∀ up sole, ∃ t, exec (.linkUpChange p up sole) s = .next t ∧ (t.port p).linkUp = up ∧
        (t.port p).soleMaster = (decide (p < 2) && sole) ∧
        (t.port p).tokenLost = (if p < 2 ∧ (s.port p).linkUp = true ∧ up = false then incSat 32 (s.port p).tokenLost
          else (s.port p).tokenLost) ∧
        (∀ q, q ≠ p → t.port q = s.port q) ∧ ((s.port p).linkUp ≠ up → t.raised (97 + min p 2)) ∧
        Noted { s with bus := { s.bus with ports := t.bus.ports } } t)) ∧
    (∀ m, s.executes 0x5001 m → m.plain 4 → getB m.payload 0 = p → padOk m 1 3 = true →
      Answers (.busStatus m) s 0x5001 m 0 (leW (s.portStatus p) ++
        leW (if p = 2 then s.cw .bus 0 4 else if p = 3 then s.cw .bus 0 7 else 0) ++
        le16 (if s.carriesBac p = true then s.bus.fdRemain else 0) ++ zeros 2) s) ∧
    (∀ m, s.executes 0x5002 m → m.plain 4 → getB m.payload 0 = p → padOk m 2 2 = true →
      (getB m.payload 1 = 0 → Answers (.busCounters m) s 0x5002 m 0 (s.port p).counters s) ∧
      (getB m.payload 1 = 1 → Answers (.busCounters m) s 0x5002 m 0 (s.port p).counters (updPort p (fun x =>
        { x with rxFrames := 0, txFrames := 0, rxDrop := 0, rxErr := 0, tokenLost := 0, covSent := 0, notifFail := 0,
                 acreRx := 0 }) s)))

/-- R370, R371, R375, R376, R379-R381, R384, R387: the requests that read. A confirmed request uses the transmit buffer reserved for it. That requests come decoded, their frames with them or in rows of their own before them, when one is heard, that one waits for a buffer, that I-Am and I-Have take a transmit buffer when one is free, the error of a read of Files 0-2, and the numbers of the bus standard, are the model's choices (notes/assumptions/51.md, 100.md, 52.md, 95.md, 54.md, 94.md, 70.md, 72.md). -/
def Obligations.BusReads : Prop :=
  ∀ s : State,
    let u := s.served
    let dst : Bcast := if 2 ≤ s.bacPort ∧ s.cb .bus 0 0 7 = true
      then .distribute (s.cw .bus 0 11).toNat (s.cf .bus 0 12 15 0) else .localNet
    (s.busUp = true → s.portTakes = true →
      (∀ o p, s.objExists o = false → Replies (.readProperty o p) s (.error .unknownObject) u) ∧
      (∀ o p v, u.readProp o p = .val v → Replies (.readProperty o p) s (.value v) u) ∧
      (∀ o p e, u.readProp o p = .err e → Replies (.readProperty o p) s (.error e) u) ∧
      (∀ n : Nat, n < 96 →
        let w := (nth s.sens.results n).value
        (w ≠ 0x80000001 → w ≠ 0x7FFFFFFF → w ≠ 0x80000000 →
          Replies (.readProperty { typ := .ai, inst := n } .presentValue) s (.value (.real (b32Of (q16 w)))) u ∧
          Replies (.readProperty { typ := .ai, inst := n } .reliability) s (.value (.enumerated 0)) u) ∧
        (w = 0x80000001 → Replies (.readProperty { typ := .ai, inst := n } .reliability) s (.value (.enumerated 1)) u) ∧
        (w = 0x7FFFFFFF → Replies (.readProperty { typ := .ai, inst := n } .reliability) s (.value (.enumerated 2)) u) ∧
        (w = 0x80000000 → Replies (.readProperty { typ := .ai, inst := n } .reliability) s (.value (.enumerated 3)) u)) ∧
      (∀ n, n < 32 → Replies (.readProperty { typ := .bv, inst := n } .presentValue) s
        (.value (.enumerated (if (s.zone n).occ = true then 1 else 0))) u) ∧
      (∀ l, Replies (.readPropertyMultiple l) s (.values (l.map (fun x => (x.1, x.2, u.readProp x.1 x.2)))) u) ∧
      (∀ n, n < 16 → Replies (.readRange { typ := .trendLog, inst := n } .all) s
        (.records ((List.range (s.trend n).recs.length).map (fun k => (k + 1, (nth (s.trend n).recs k).2)))) u) ∧
      (∀ k, k < 36 → ∃ l, Replies .getEventInformation s (.events l) u ∧
        (((nth s.bus.alarms k).active = true ∨ false ∈ (nth s.bus.alarms k).acked) ↔
          ∃ e, e ∈ l ∧ e.1 = { typ := .bv, inst := 32 + k })) ∧
      (∀ f start n, f < 3 → Replies (.atomicReadFile f start true n) s (.error .fileAccessDenied) u) ∧
      (∀ f start n, f < 4 → Replies (.atomicReadFile f start false n) s (.error .invalidFileAccessMethod) u) ∧
      (∀ b start n, cfgExport s = (s, .object b) → start ≤ b.length →
        Replies (.atomicReadFile 3 start true n) s
          (.fileData start (decide (b.length ≤ start + n)) ((b.drop start).take n)) u) ∧
      Replies .unrecognizedService s .rejectUnrecognized u) ∧
    (s.busUp = true → s.txRoom = true →
      Replies (.whoIs none) s (.iAm s.devInst (if s.bacPort < 2 then 480 else 1476) 1187 dst) (busQueue s) ∧
      (∀ a b, a ≤ s.devInst → s.devInst ≤ b →
        Replies (.whoIs (some (a, b))) s (.iAm s.devInst (if s.bacPort < 2 then 480 else 1476) 1187 dst) (busQueue s)) ∧
      (∀ o name, s.objExists o = true → Replies (.whoHas none (some o) name) s (.iHave o dst) (busQueue s))) ∧
    (s.busUp = true → s.txRoom = false → ∀ q, exec (.whoIs q) s = .next s) ∧
    (∀ a b, s.devInst < a ∨ b < s.devInst → exec (.whoIs (some (a, b))) s = .next s) ∧
    (s.released = true → s.clk.pllLocked = true → s.carriesBac s.bacPort = true →
      (2 ≤ s.bacPort → Replies .bdtFdtFunction s .bvlcNak s) ∧
      (s.bacPort < 2 → Replies .mstpReplyPostponed s .replyPostponed s))

/-- R348, R349, R351, R377, R378, R387, R388: the requests that write, one after another where there are several. That the first of several that fails ends them, the answer to a write of File 3 or to one that meets the host's object, and how a file's object begins, are the model's choices (notes/assumptions/59.md, 94.md, 58.md). -/
def Obligations.BusWrites : Prop :=
  ∀ s : State, s.busUp = true → s.portTakes = true → nth s.nvm.orphans 2 = 0 →
    let u := s.served
    (∀ z q x b, z < 32 → b32Val b = some q → x = rneQ (q * 100) → -32768 ≤ x → x ≤ 32767 →
      BusCommitBegins (.writeProperty { typ := .av, inst := 32 + z } .presentValue (.real b)) s
        (.writes { obj := { typ := .av, inst := 32 + z }, prop := .presentValue, val := .real b } [] false)
        (s.cfg.committed.setWords .zone (z * Sec.words .zone + 2)
          [merge 0xFFFF (s.cfg.committed.word .zone z 2) (w32 (wrap 16 x))])
        { version := s.cfg.version, named := [(Sec.zone.id, z)] }) ∧
    (∀ z q x b, z < 32 → b32Val b = some q → x = rneQ (q * 100) → x < -32768 ∨ 32767 < x →
      Replies (.writeProperty { typ := .av, inst := 32 + z } .presentValue (.real b)) s (.error .valueOutOfRange) u) ∧
    (∀ n v, n < 112 → Replies (.writeProperty { typ := .ai, inst := n } .presentValue v) s (.error .writeAccessDenied) u) ∧
    (∀ o p v, s.objExists o = false → Replies (.writeProperty o p v) s (.error .unknownObject) u) ∧
    (∀ z, z < 32 →
      Replies (.writeProperty { typ := .msv, inst := 32 + z } .presentValue (.unsigned 1)) s .simpleAck
        (updZone z (fun x => { x with hostOff := false, manual := none }) u) ∧
      Replies (.writeProperty { typ := .msv, inst := 32 + z } .presentValue (.unsigned 2)) s .simpleAck
        (updZone z (fun x => { x with hostOff := true }) u)) ∧
    (∀ y z n, y < 32 → z < 32 → n < 112 →
      Replies (.writePropertyMultiple
          [{ obj := { typ := .msv, inst := 32 + y }, prop := .presentValue, val := .unsigned 2 },
           { obj := { typ := .ai, inst := n }, prop := .presentValue, val := .real 0 },
           { obj := { typ := .msv, inst := 32 + z }, prop := .presentValue, val := .unsigned 2 }]) s
        (.writeError { typ := .ai, inst := n } .presentValue .writeAccessDenied)
        (updZone y (fun x => { x with hostOff := true }) u)) ∧
    (∀ y z, y < 32 → z < 32 →
      Replies (.writePropertyMultiple
          [{ obj := { typ := .msv, inst := 32 + y }, prop := .presentValue, val := .unsigned 2 },
           { obj := { typ := .msv, inst := 32 + z }, prop := .presentValue, val := .unsigned 1 }]) s .simpleAck
        (updZone z (fun x => { x with hostOff := false, manual := none })
          (updZone y (fun x => { x with hostOff := true }) u))) ∧
    (∀ start data, Replies (.atomicWriteFile 3 start true data) s (.error .fileAccessDenied) u) ∧
    (∀ f start data, f < 4 → Replies (.atomicWriteFile f start false data) s (.error .invalidFileAccessMethod) u) ∧
    (∀ f data, f < 3 → data.length < 12 → s.hostFile f = false →
      Replies (.atomicWriteFile f 0 true data) s (.fileAck 0)
        { u with
          bus := { u.bus with file := some { file := f, next := data.length, held := data, chunk := 0, total := none,
                                             mc := s.chain.mc } },
          mbox := { s.mbox with chunkIn := s.mbox.chunkIn.filter (fun c => !c.bus) } }) ∧
    (∀ f data, f < 3 → s.hostFile f = true → Replies (.atomicWriteFile f 0 true data) s (.error .fileAccessDenied) u) ∧
    (∀ f start data, f < 3 → start ≠ 0 → s.bus.file.map FileObj.next ≠ some start →
      Replies (.atomicWriteFile f start true data) s (.error .invalidFileStartPosition) u)

/-- R372, R373, R382-R384, R390: subscriptions, notifications, acknowledgements and trend samples. That the first notification is due at the next release, that one which finds no buffer stays due, that `Time_Delay` is 0, and that an acknowledgement of Binary Values 0-31 answers NO_ALARM_CONFIGURED, are the model's choices (notes/assumptions/56.md, 57.md). -/
def Obligations.BusNotifications : Prop :=
  ∀ s : State,
    (∀ c pid o life cf, s.busUp = true → s.portTakes = true →
      let u := s.served
      let rest := s.bus.subs.filter (fun x => !(x.client == c && x.procId == pid && x.obj == o))
      Replies (.subscribeCov c pid o none life) s .simpleAck { u with bus := { u.bus with subs := rest } } ∧
      (s.objExists o = true → o.typ = .ai ∨ o.typ = .av ∨ o.typ = .bv ∨ o.typ = .msv → life ≤ 28800 →
        (life = 0 → cf = false) →
        (rest.length < 256 → Replies (.subscribeCov c pid o (some cf) life) s .simpleAck
          { u with bus := { u.bus with subs := rest ++
            [{ obj := o, client := c, procId := pid, confirmed := cf, lifetime := life }] } }) ∧
        (256 ≤ rest.length →
          Replies (.subscribeCov c pid o (some cf) life) s (.error .noSpaceToAddListElement) u))) ∧
    (∀ k c, s.bus.subs[k]? = some c → c.lifetime ≠ 0 → s.clk.pllLocked = true →
      exec (.covLifetimeExpiry k) s = .next { s with bus := { s.bus with subs := s.bus.subs.eraseIdx k } }) ∧
    (∀ n tr, s.busUp = true → s.portTakes = true → 32 ≤ n → n < 68 → tr ≤ 2 →
      Replies (.acknowledgeAlarm { typ := .bv, inst := n } tr) s .simpleAck
        { s.served with bus := { s.served.bus with
          alarms := upd s.bus.alarms (n - 32) (fun a => { a with acked := a.acked.set tr true }) } }) ∧
    (∀ n, n < 32 → s.busUp = true → s.portTakes = true →
      Replies (.acknowledgeAlarm { typ := .bv, inst := n } 0) s (.error .noAlarmConfigured) s.served) ∧
    (∀ i, i < s.bus.outstanding.length → s.clk.pllLocked = true → exec (.apduTimeout i) s =
      .next (updPort s.bacPort (fun x => { x with notifFail := incSat 32 x.notifFail })
        { s with bus := { s.bus with outstanding := s.bus.outstanding.eraseIdx i } })) ∧
    (∀ n, n < 16 → n < s.bus.trends.length → s.released = true → s.appUp = true → s.trendInt n ≠ 0 →
      (s.trend n).recs.length ≤ 1024 →
      ∃ t, exec (.trendLogSample n) s = .next t ∧ (t.trend n).total = (s.trend n).total + 1 ∧
        (t.trend n).recs.getLast? = some (s.calWord, s.signal (s.trendSignal n)) ∧
        (t.trend n).recs.length = min 1024 ((s.trend n).recs.length + 1) ∧
        (∀ j, j ≠ n → t.trend j = s.trend j) ∧ t = { s with bus := { s.bus with trends := t.bus.trends } }) ∧
    (∀ c, s.released = true → s.appUp = true → s.atRelease = true → s.bus.subs = [c] → s.bus.dcc = .enabled →
      s.carriesBac s.bacPort = true →
      (∀ k, k < 36 → (s.alarm (32 + k)).active = s.bvOn (32 + k) ∧ (s.alarm (32 + k)).due = []) →
      (s.covChanged c = false → ∃ t, exec .busRelease s = .next t ∧ t.bus.sent = [] ∧ t.bus.subs = [c] ∧
        t = { s with bus := { s.bus with sent := [], alarms := t.bus.alarms }, chain.stage := 8 }) ∧
      (s.covChanged c = true → s.bacPort < s.bus.ports.length → (s.port s.bacPort).tx < txLimit s.bacPort →
        c.confirmed = false ∨ s.bus.outstanding.length < 8 →
        ∃ t n, exec .busRelease s = .next t ∧
          n = { client := c.client, obj := c.obj, confirmed := c.confirmed, value := s.presentWord c.obj,
                flags := s.statusFlags c.obj } ∧
          t.bus.sent = [n] ∧ t.bus.outstanding = (if c.confirmed = true then s.bus.outstanding ++ [n] else s.bus.outstanding) ∧
          t.bus.subs = [{ c with lastVal := s.presentWord c.obj, lastFlags := s.statusFlags c.obj, due := false }] ∧
          (t.port s.bacPort).tx = (s.port s.bacPort).tx + 1 ∧
          (t.port s.bacPort).covSent = incSat 32 (s.port s.bacPort).covSent)) ∧
    (∀ k, s.released = true → s.appUp = true → s.atRelease = true → s.bus.dcc ≠ .enabled → k < 36 → s.bus.alarms.length = 36 →
      (s.alarm (32 + k)).active ≠ s.bvOn (32 + k) → (s.alarm (32 + k)).stamps.length = 3 →
      ∃ t, exec .busRelease s = .next t ∧ (t.alarm (32 + k)).active = s.bvOn (32 + k) ∧
        (t.alarm (32 + k)).stamps.getD (if s.bvOn (32 + k) = true then 0 else 2) 0 = s.calWord)

/-- R371, R372, R385, R386, R389, R391, R497: communication control, reinitialization, time and the foreign registration, and a request that finds no transmit buffer free: it waits, and has its turn once one is. That it waits so, that both control services act while communication is disabled, which of two equal local times is meant, that a NAK keeps a registration in force, that ACTIVATE_CHANGES without a bank by File 0 answers WRITE_ACCESS_DENIED, and the numbers 0, 1 and 7 of the reinitialized states, are the model's choices (notes/assumptions/95.md, 100.md, 69.md, 64.md, 65.md, 58.md, 70.md). -/
def Obligations.BusControl : Prop :=
  ∀ s : State,
    (∀ o p, s.busHears (.readProp o p) = true → s.bacPort < s.bus.ports.length →
      (s.bus.held = [] → 0 < (s.port s.bacPort).rx + (s.port s.bacPort).taken →
        s.appUp = false ∨ s.mbox.waiting ≠ none ∨ (s.port s.bacPort).taken = 0 →
        exec (.readProperty o p) s = .next { s with bus := { s.bus with held := [.readProp o p] } }) ∧
      (s.bus.held = [] → (s.port s.bacPort).rx = 0 → (s.port s.bacPort).taken = 0 →
        (txLimit s.bacPort ≤ (s.port s.bacPort).tx →
          exec (.readProperty o p) s = .next (let t := updPort s.bacPort (fun x =>
            { x with rxFrames := incSat 32 x.rxFrames, rx := 1 }) s
            { t with bus := { t.bus with held := [.readProp o p] } })) ∧
        ((s.port s.bacPort).tx < txLimit s.bacPort → s.appUp = false ∨ s.mbox.waiting ≠ none →
          exec (.readProperty o p) s = .next (let t := updPort s.bacPort (fun x =>
            { x with rxFrames := incSat 32 x.rxFrames, tx := x.tx + 1, taken := 1 }) s
            { t with bus := { t.bus with held := [.readProp o p] } }))) ∧
      ((s.port s.bacPort).rx + (s.port s.bacPort).taken ≤ s.bus.held.length → rxLimit s.bacPort ≤ (s.port s.bacPort).rx →
        ∃ t, exec (.readProperty o p) s = .next t ∧ (t.port s.bacPort).rxDrop = incSat 32 (s.port s.bacPort).rxDrop ∧
          t.bus.held = s.bus.held ∧ t.bus.lastReply = s.bus.lastReply)) ∧
    (∀ o p, s.bus.held = [.readProp o p] → s.busHears (.readProp o p) = true → s.appUp = true → s.mbox.waiting = none →
      s.bacPort < 4 → s.bacPort < s.bus.ports.length → (s.port s.bacPort).taken < (s.port s.bacPort).tx →
      0 < (s.port s.bacPort).rx + (s.port s.bacPort).taken →
      (∀ w, w < 64 → s.cw .bus 0 w = s.cfg.committed.word .bus 0 w) →
      ∃ t, exec (.busFrameTransmitDone s.bacPort) s = .next t ∧ t.bus.held = [] ∧ t.bus.lastReply.isSome = true ∧
        t = { s with bus := t.bus }) ∧
    (∀ n d pass, s.takes (.commControl n pass) → dccOf n = some d → s.passOk pass = true →
      ∃ t, exec (.deviceCommunicationControl n pass) s = .next t ∧ t.bus.lastReply = some .simpleAck ∧ t.bus.dcc = d ∧
        (s.bus.dcc ≠ d → t.raised (97 + min s.bacPort 2)) ∧
        Noted { s with bus := { s.served.bus with dcc := d, lastReply := some .simpleAck } } t) ∧
    (∀ n pass, s.takes (.commControl n pass) → n ≤ 2 → s.passOk pass = false →
      Replies (.deviceCommunicationControl n pass) s (.error .passwordFailure) s.served) ∧
    (∀ n pass, s.takes (.reinitialize n pass) → s.passOk pass = true →
      (n ≤ 1 → Replies (.reinitializeDevice n pass) s .simpleAck { s.served with sup := { s.sup with softPend := true } }) ∧
      (n = 7 → s.mgt.upd.bankByFile = none →
        Replies (.reinitializeDevice n pass) s (.error .writeAccessDenied) s.served) ∧
      (2 ≤ n → n ≠ 7 →
        Replies (.reinitializeDevice n pass) s (.error .optionalFunctionalityNotSupported) s.served)) ∧
    (∀ n pass, s.takes (.reinitialize n pass) → s.passOk pass = false →
      Replies (.reinitializeDevice n pass) s (.error .passwordFailure) s.served) ∧
    (∀ y mo d h mi sec, s.busUp = true → stampOk y mo d h mi sec = true →
      (∃ t, exec (.utcTimeSynchronization y mo d h mi sec) s = .next t ∧ t.backup.calValid = true ∧
        t.backup.calendar = wInt (dayOf y mo d * 86400 + (3600 * h + 60 * mi + sec : Nat)) ∧
        t = { s with backup := t.backup, rood := t.rood }) ∧
      (s.dstShift = 0 →
        ∃ t, exec (.timeSynchronization y mo d h mi sec) s = .next t ∧ t.backup.calValid = true ∧
          t.backup.calendar = wInt (dayOf y mo d * 86400 + (3600 * h + 60 * mi + sec : Nat) -
            sfld (s.cw .time 0 0) 31 24 * 900) ∧
          t = { s with backup := t.backup, rood := t.rood })) ∧
    (s.fdWanted = true →
      (s.txRoom = false → exec .fdReregister s = .next s) ∧
      (s.txRoom = true → s.bus.fdSent = none ∨ (∃ q, s.bus.fdSent = some q ∧ s.secMc (s.cf .bus 0 12 31 16) ≤ 2 * s.mcSince q.mc) →
        ∃ t, exec .fdReregister s = .next t ∧ t.bus.fdPending = true ∧
        (∀ q, q ≠ s.bacPort → t.port q = s.port q) ∧
        t = { s with bus := { s.bus with
          ports := t.bus.ports, fdPending := true,
          fdSent := some { addr := (s.cw .bus 0 11).toNat, port := s.cf .bus 0 12 15 0, ttl := s.cf .bus 0 12 31 16,
                           mc := s.chain.mc } } }) ∧
      (∀ q, s.bus.fdSent = some q → 2 * s.mcSince q.mc < s.secMc (s.cf .bus 0 12 31 16) →
        exec .fdReregister s = .next s) ∧
      (s.bus.fdPending = true →
        (∃ t, exec (.fdRegistrationResult true) s = .next t ∧ t.bus.fdReg = true ∧ t.bus.fdPending = false ∧
          t.bus.fdRemain = s.cf .bus 0 12 31 16 ∧ (s.bus.fdReg = false → t.raised (97 + min s.bacPort 2)) ∧
          Noted { s with bus := { s.bus with fdReg := true, fdPending := false, fdRemain := s.cf .bus 0 12 31 16 } } t) ∧
        (∃ t, exec (.fdRegistrationResult false) s = .next t ∧ t.raised (97 + min s.bacPort 2) ∧
          Noted { s with bus := { s.bus with fdPending := false } } t)))
end

