-- ==== Sys2Proof/Laws/Cmd.lean ====
section
/-! SUPPORT. What executing a command does, said once: its answer, the mailboxes, and nothing else beside its own effect (R327, R341). -/

namespace Sys2Proof.Machine

theorem respond_frame (r : Resp) (b : Option (Nat × Nat)) (s : State) :
    respond r b s = { s with mbox := (respond r b s).mbox, evt := (respond r b s).evt } := by
  unfold respond
  cases b with
  | none => rfl
  | some p =>
    simp only [raiseWith]
    split <;> split <;> (try split) <;> (try split) <;> rfl

@[simp] theorem respond_lastResp (r : Resp) (b : Option (Nat × Nat)) (s : State) :
    (respond r b s).mbox.lastResp = some r := by
  unfold respond
  cases b with
  | none => rfl
  | some p =>
    simp only [raiseWith]
    split <;> split <;> (try split) <;> (try split) <;> rfl

@[simp] theorem respond_waiting (r : Resp) (b : Option (Nat × Nat)) (s : State) :
    (respond r b s).mbox.waiting = s.mbox.waiting := by
  unfold respond
  cases b with
  | none => rfl
  | some p =>
    simp only [raiseWith]
    split <;> split <;> (try split) <;> (try split) <;> rfl

@[simp] theorem respond_accepted (r : Resp) (b : Option (Nat × Nat)) (s : State) :
    (respond r b s).mbox.accepted = s.mbox.accepted := by
  unfold respond
  cases b with
  | none => rfl
  | some p =>
    simp only [raiseWith]
    split <;> split <;> (try split) <;> (try split) <;> rfl

/-- With nothing accepted, there is nothing to drain. -/
theorem drain_nil (s : State) (h : s.mbox.accepted = []) : drain s = s := by
  unfold drain
  split
  · rfl
  · rw [h]
    show ({ s with mbox.accepted := [] } : State) = s
    rw [← h]

/-- The state a command's body runs on: the command is taken out of the order, and an earlier response object of its code is released. -/
def bodyState (code : Nat) (s : State) : State := dropObject code { s with mbox.accepted := [] }

theorem accepted_nil (s : State) (h : s.mbox.accepted = []) : ({ s with mbox.accepted := [] } : State) = s := by
  rw [← h]

theorem takeAccepted_executes (code : Nat) (m : Msg) (s : State) (h : s.executes code m) :
    ∃ b, takeAccepted code m s = (m, b, { s with mbox.accepted := [] }) := by
  obtain ⟨-, -, -, h4⟩ := h
  rcases h4 with h4 | ⟨a, h4, h5, h6, -⟩
  · exact ⟨none, by rw [accepted_nil s h4]; simp [takeAccepted, h4]⟩
  · exact ⟨some (a.inb, a.outb), by simp [takeAccepted, h4, h5, h6]⟩

/-- R340: without `CHUNK` the length is the layout's, and what the payload's own fields give. -/
theorem lenOk_plain (c : CmdSpec) (m : Msg) (hc : m.chunk = false) :
    c.lenOk m = (c.len m.payload.length && c.fits m.payload) := by
  cases h : c.chunks <;> simp [CmdSpec.lenOk, hc, h]

theorem runCommand_plain (c : CmdSpec) (m : Msg) (b : Option (Nat × Nat)) (body : Msg → State → State × Reply) (s : State)
    (hc : m.chunk = false) (hl : c.lenOk m = true) (hs : (c.signedBars && s.mgt.otp.signedCfg) = false) :
    runCommand c m b body s =
      drain (answer c.code m.tag b (body m (dropObject c.code s)).2 (body m (dropObject c.code s)).1) := by
  have pre : precheck c m (dropObject c.code s) = none := by
    have hs' : (c.signedBars && (dropObject c.code s).mgt.otp.signedCfg) = false := hs
    simp [precheck, hc, hl, hs']
  unfold runCommand
  simp only [hc, Bool.false_eq_true, if_false, pre, Bool.false_and]

/-- Executing a command that passes the general checks: the body on the prepared state, then its answer. -/
theorem command_run (c : CmdSpec) (m : Msg) (body : Msg → State → State × Reply) (s : State)
    (h : s.executes c.code m) (hc : m.chunk = false) (hl : c.lenOk m = true)
    (hs : (c.signedBars && s.mgt.otp.signedCfg) = false) :
    ∃ b, command c m body s = drain (answer c.code m.tag b (body m (bodyState c.code s)).2 (body m (bodyState c.code s)).1) := by
  obtain ⟨b, hb⟩ := takeAccepted_executes c.code m s h
  refine ⟨b, ?_⟩
  obtain ⟨h1, h2, h3, -⟩ := h
  have g : (!s.appUp || s.mbox.waiting.isSome || s.nvBars c.code) = false := by
    rw [h1, h2, h3]; rfl
  unfold command
  rw [g, hb]
  exact runCommand_plain c m b body _ hc hl hs

/-- Executing a command whose body answers at once. -/
theorem command_answers (i : Instr) (c : CmdSpec) (m : Msg) (body : Msg → State → State × Reply) (s s' : State)
    (st : Nat) (pl : List Byte)
    (hi : exec i s = .next (command c m body s))
    (h : s.executes c.code m) (hc : m.chunk = false) (hl : c.lenOk m = true)
    (hs : (c.signedBars && s.mgt.otp.signedCfg) = false)
    (hb : (body m (bodyState c.code s)).2 = .done st pl)
    (hw : (body m (bodyState c.code s)).1.mbox.waiting = none)
    (ha : (body m (bodyState c.code s)).1.mbox.accepted = [])
    (hf : ∃ mb ev, (body m (bodyState c.code s)).1 = { s' with mbox := mb, evt := ev }) :
    Answers i s c.code m st pl s' := by
  obtain ⟨b, hrun⟩ := command_run c m body s h hc hl hs
  rw [hb] at hrun
  simp only [answer] at hrun
  rw [drain_nil _ (by simp [ha])] at hrun
  refine ⟨_, hi.trans (congrArg _ hrun), by simp, by simp [hw], by simp [ha], ?_⟩
  obtain ⟨mb, ev, he⟩ := hf
  conv_lhs => rw [respond_frame]
  rw [he]

end Sys2Proof.Machine
end

