-- ==== Sys2Proof/Laws/Events.lean ====
section
/-! SUPPORT. Raising an event and writing a record change nothing but the events and the recorder (R336-R339, R399-R401, R491). -/

namespace Sys2Proof.Machine

theorem Noted.refl (s : State) : Noted s s := ⟨s.evt, s.bushel, rfl⟩

theorem Noted.trans {s t u : State} (h : Noted s t) (g : Noted t u) : Noted s u := by
  obtain ⟨e, b, rfl⟩ := h
  obtain ⟨e', b', rfl⟩ := g
  exact ⟨e', b', rfl⟩

theorem Noted.of_evt (s : State) (e : Events) : Noted s { s with evt := e } := ⟨e, s.bushel, rfl⟩

theorem Noted.of_both (s : State) (e : Events) (b : Bushel) : Noted s { s with evt := e, bushel := b } := ⟨e, b, rfl⟩

theorem raiseWith_noted (src c d : Nat) (s : State) : Noted s (raiseWith src c d s) := by
  unfold raiseWith
  simp only
  split
  · exact .of_evt s _
  · split <;> exact .of_evt s _

theorem raise_noted (src : Nat) (s : State) : Noted s (raise src s) := raiseWith_noted src 0 0 s

/-- R336: a raise always sets the source's summary bit. -/
theorem raiseWith_summary (src c d : Nat) (s : State) :
    (raiseWith src c d s).evt.summary = s.evt.summary ||| BitVec.ofNat 128 (2 ^ src) := by
  unfold raiseWith
  simp only
  split
  · rfl
  · split <;> rfl

theorem dropCount_noted (sev : Nat) (s : State) : Noted s (dropCount sev s) := ⟨_, _, rfl⟩

theorem dropNote_noted (s : State) : Noted s (dropNote s) := by
  unfold dropNote
  split
  · exact .refl s
  · split
    · exact dropCount_noted 4 s
    · exact ⟨_, _, rfl⟩

theorem countDropped_noted (sev : Nat) (s : State) : Noted s (countDropped sev s) := by
  have h : Noted s (dropCount sev { s with bushel.lastDropMc := some s.chain.mc }) := ⟨_, _, rfl⟩
  unfold countDropped
  dsimp only
  (repeat' split) <;>
    first
    | exact h
    | exact h.trans ((raise_noted 102 _).trans (dropNote_noted _))

theorem deposit_noted (h : Happening) (s : State) : Noted s (deposit h s) := by
  unfold deposit
  split
  · exact countDropped_noted h.sev s
  · exact ⟨_, _, rfl⟩

theorem happen_noted (src typ sev inst : Nat) (s : State) : Noted s (happen src typ sev inst s) :=
  deposit_noted _ s

/-- A report touches the events and the recorder only. -/
theorem report_noted (src typ sev inst : Nat) (s : State) : Noted s (report src typ sev inst s) :=
  (raise_noted src s).trans (happen_noted src typ sev inst _)

end Sys2Proof.Machine
end

