-- ==== Sys2Proof/Laws/State.lean ====
section
/-! SUPPORT. What each named update of the state leaves as it was: one lemma per field and update, and the reads of what it changes. -/

namespace Sys2Proof.Machine

/-! ## Lists as register files -/

@[simp] theorem nth_upd_self {α : Type} [Inhabited α] (l : List α) (i : Nat) (f : α → α) (h : i < l.length) :
    nth (upd l i f) i = f (nth l i) := by
  simp [nth, upd, List.getD_eq_getElem?_getD, h]

theorem nth_upd_ne {α : Type} [Inhabited α] (l : List α) (i j : Nat) (f : α → α) (h : j ≠ i) :
    nth (upd l i f) j = nth l j := by
  simp [nth, upd, List.getD_eq_getElem?_getD, Ne.symm h]

/-- Past the end of a list an update changes nothing. -/
theorem upd_past {α : Type} (l : List α) (i : Nat) (f : α → α) (h : l.length ≤ i) : upd l i f = l := by
  apply List.ext_getElem?
  intro j
  simp only [upd, List.getElem?_modify]
  split
  · subst_vars
    simp [List.getElem?_eq_none h]
  · simp

@[simp] theorem upd_length {α : Type} (l : List α) (i : Nat) (f : α → α) : (upd l i f).length = l.length := by
  simp [upd]

theorem nth_set_self {α : Type} [Inhabited α] (l : List α) (i : Nat) (a : α) (h : i < l.length) : nth (l.set i a) i = a := by
  simp [nth, List.getD_eq_getElem?_getD, h]

theorem nth_set_ne {α : Type} [Inhabited α] (l : List α) (i j : Nat) (a : α) (h : j ≠ i) : nth (l.set i a) j = nth l j := by
  simp [nth, List.getD_eq_getElem?_getD, List.getElem?_set_ne (Ne.symm h)]

/-! ## updMod -/

@[simp] theorem updMod_chain (m : Nat) (f : ModSt → ModSt) (s : State) : (updMod m f s).chain = s.chain := rfl
@[simp] theorem updMod_acre (m : Nat) (f : ModSt → ModSt) (s : State) : (updMod m f s).acre = s.acre := rfl
@[simp] theorem updMod_host (m : Nat) (f : ModSt → ModSt) (s : State) : (updMod m f s).host = s.host := rfl
@[simp] theorem updMod_mbox (m : Nat) (f : ModSt → ModSt) (s : State) : (updMod m f s).mbox = s.mbox := rfl
@[simp] theorem updMod_evt (m : Nat) (f : ModSt → ModSt) (s : State) : (updMod m f s).evt = s.evt := rfl
@[simp] theorem updMod_cfg (m : Nat) (f : ModSt → ModSt) (s : State) : (updMod m f s).cfg = s.cfg := rfl
@[simp] theorem updMod_gpio (m : Nat) (f : ModSt → ModSt) (s : State) : (updMod m f s).gpio = s.gpio := rfl
@[simp] theorem updMod_bushel (m : Nat) (f : ModSt → ModSt) (s : State) : (updMod m f s).bushel = s.bushel := rfl
@[simp] theorem updMod_nvm (m : Nat) (f : ModSt → ModSt) (s : State) : (updMod m f s).nvm = s.nvm := rfl
@[simp] theorem updMod_sup (m : Nat) (f : ModSt → ModSt) (s : State) : (updMod m f s).sup = s.sup := rfl
@[simp] theorem updMod_backup (m : Nat) (f : ModSt → ModSt) (s : State) : (updMod m f s).backup = s.backup := rfl
@[simp] theorem updMod_clk (m : Nat) (f : ModSt → ModSt) (s : State) : (updMod m f s).clk = s.clk := rfl
@[simp] theorem updMod_therm (m : Nat) (f : ModSt → ModSt) (s : State) : (updMod m f s).therm = s.therm := rfl
@[simp] theorem updMod_mgt (m : Nat) (f : ModSt → ModSt) (s : State) : (updMod m f s).mgt = s.mgt := rfl
@[simp] theorem updMod_test (m : Nat) (f : ModSt → ModSt) (s : State) : (updMod m f s).test = s.test := rfl
@[simp] theorem updMod_jtag (m : Nat) (f : ModSt → ModSt) (s : State) : (updMod m f s).jtag = s.jtag := rfl
@[simp] theorem updMod_bus (m : Nat) (f : ModSt → ModSt) (s : State) : (updMod m f s).bus = s.bus := rfl
@[simp] theorem updMod_stone (m : Nat) (f : ModSt → ModSt) (s : State) : (updMod m f s).stone = s.stone := rfl
@[simp] theorem updMod_rood (m : Nat) (f : ModSt → ModSt) (s : State) : (updMod m f s).rood = s.rood := rfl
@[simp] theorem updMod_act (m : Nat) (f : ModSt → ModSt) (s : State) : (updMod m f s).act = s.act := rfl
@[simp] theorem updMod_fans (m : Nat) (f : ModSt → ModSt) (s : State) : (updMod m f s).fans = s.fans := rfl
@[simp] theorem updMod_panel (m : Nat) (f : ModSt → ModSt) (s : State) : (updMod m f s).panel = s.panel := rfl
@[simp] theorem updMod_keys (m : Nat) (f : ModSt → ModSt) (s : State) : (updMod m f s).keys = s.keys := rfl
@[simp] theorem updMod_pending (m : Nat) (f : ModSt → ModSt) (s : State) : (updMod m f s).pending = s.pending := rfl
@[simp] theorem updMod_free (m : Nat) (f : ModSt → ModSt) (s : State) : (updMod m f s).free = s.free := rfl
@[simp] theorem updMod_sens_results (m : Nat) (f : ModSt → ModSt) (s : State) : (updMod m f s).sens.results = s.sens.results := rfl
@[simp] theorem updMod_sens_flagged (m : Nat) (f : ModSt → ModSt) (s : State) : (updMod m f s).sens.flagged = s.sens.flagged := rfl
@[simp] theorem updMod_sens_pres (m : Nat) (f : ModSt → ModSt) (s : State) : (updMod m f s).sens.pres = s.sens.pres := rfl
@[simp] theorem updMod_sens_hk (m : Nat) (f : ModSt → ModSt) (s : State) : (updMod m f s).sens.hk = s.sens.hk := rfl
@[simp] theorem updMod_sens_dieTemp (m : Nat) (f : ModSt → ModSt) (s : State) : (updMod m f s).sens.dieTemp = s.sens.dieTemp := rfl
@[simp] theorem updMod_sens_hkDone (m : Nat) (f : ModSt → ModSt) (s : State) : (updMod m f s).sens.hkDone = s.sens.hkDone := rfl
@[simp] theorem updMod_sens_hkFresh (m : Nat) (f : ModSt → ModSt) (s : State) : (updMod m f s).sens.hkFresh = s.sens.hkFresh := rfl
@[simp] theorem updMod_freeNat (m : Nat) (f : ModSt → ModSt) (s : State) : (updMod m f s).freeNat = s.freeNat := rfl
@[simp] theorem updMod_at_cw (m : Nat) (f : ModSt → ModSt) (s : State) : (updMod m f s).cw = s.cw := rfl
@[simp] theorem updMod_at_cf (m : Nat) (f : ModSt → ModSt) (s : State) : (updMod m f s).cf = s.cf := rfl
@[simp] theorem updMod_at_cb (m : Nat) (f : ModSt → ModSt) (s : State) : (updMod m f s).cb = s.cb := rfl
@[simp] theorem updMod_at_mcSince (m : Nat) (f : ModSt → ModSt) (s : State) : (updMod m f s).mcSince = s.mcSince := rfl
@[simp] theorem updMod_at_secMc (m : Nat) (f : ModSt → ModSt) (s : State) : (updMod m f s).secMc = s.secMc := rfl
@[simp] theorem updMod_at_released (m : Nat) (f : ModSt → ModSt) (s : State) : (updMod m f s).released = s.released := rfl
@[simp] theorem updMod_at_alive (m : Nat) (f : ModSt → ModSt) (s : State) : (updMod m f s).alive = s.alive := rfl
@[simp] theorem updMod_at_appUp (m : Nat) (f : ModSt → ModSt) (s : State) : (updMod m f s).appUp = s.appUp := rfl
@[simp] theorem updMod_at_safe (m : Nat) (f : ModSt → ModSt) (s : State) : (updMod m f s).safe = s.safe := rfl

/-! ## updPres -/

@[simp] theorem updPres_chain (d : Nat) (f : Pres → Pres) (s : State) : (updPres d f s).chain = s.chain := rfl
@[simp] theorem updPres_acre (d : Nat) (f : Pres → Pres) (s : State) : (updPres d f s).acre = s.acre := rfl
@[simp] theorem updPres_host (d : Nat) (f : Pres → Pres) (s : State) : (updPres d f s).host = s.host := rfl
@[simp] theorem updPres_mbox (d : Nat) (f : Pres → Pres) (s : State) : (updPres d f s).mbox = s.mbox := rfl
@[simp] theorem updPres_evt (d : Nat) (f : Pres → Pres) (s : State) : (updPres d f s).evt = s.evt := rfl
@[simp] theorem updPres_cfg (d : Nat) (f : Pres → Pres) (s : State) : (updPres d f s).cfg = s.cfg := rfl
@[simp] theorem updPres_gpio (d : Nat) (f : Pres → Pres) (s : State) : (updPres d f s).gpio = s.gpio := rfl
@[simp] theorem updPres_bushel (d : Nat) (f : Pres → Pres) (s : State) : (updPres d f s).bushel = s.bushel := rfl
@[simp] theorem updPres_nvm (d : Nat) (f : Pres → Pres) (s : State) : (updPres d f s).nvm = s.nvm := rfl
@[simp] theorem updPres_sup (d : Nat) (f : Pres → Pres) (s : State) : (updPres d f s).sup = s.sup := rfl
@[simp] theorem updPres_backup (d : Nat) (f : Pres → Pres) (s : State) : (updPres d f s).backup = s.backup := rfl
@[simp] theorem updPres_clk (d : Nat) (f : Pres → Pres) (s : State) : (updPres d f s).clk = s.clk := rfl
@[simp] theorem updPres_therm (d : Nat) (f : Pres → Pres) (s : State) : (updPres d f s).therm = s.therm := rfl
@[simp] theorem updPres_mgt (d : Nat) (f : Pres → Pres) (s : State) : (updPres d f s).mgt = s.mgt := rfl
@[simp] theorem updPres_test (d : Nat) (f : Pres → Pres) (s : State) : (updPres d f s).test = s.test := rfl
@[simp] theorem updPres_jtag (d : Nat) (f : Pres → Pres) (s : State) : (updPres d f s).jtag = s.jtag := rfl
@[simp] theorem updPres_bus (d : Nat) (f : Pres → Pres) (s : State) : (updPres d f s).bus = s.bus := rfl
@[simp] theorem updPres_stone (d : Nat) (f : Pres → Pres) (s : State) : (updPres d f s).stone = s.stone := rfl
@[simp] theorem updPres_rood (d : Nat) (f : Pres → Pres) (s : State) : (updPres d f s).rood = s.rood := rfl
@[simp] theorem updPres_act (d : Nat) (f : Pres → Pres) (s : State) : (updPres d f s).act = s.act := rfl
@[simp] theorem updPres_fans (d : Nat) (f : Pres → Pres) (s : State) : (updPres d f s).fans = s.fans := rfl
@[simp] theorem updPres_panel (d : Nat) (f : Pres → Pres) (s : State) : (updPres d f s).panel = s.panel := rfl
@[simp] theorem updPres_keys (d : Nat) (f : Pres → Pres) (s : State) : (updPres d f s).keys = s.keys := rfl
@[simp] theorem updPres_pending (d : Nat) (f : Pres → Pres) (s : State) : (updPres d f s).pending = s.pending := rfl
@[simp] theorem updPres_free (d : Nat) (f : Pres → Pres) (s : State) : (updPres d f s).free = s.free := rfl
@[simp] theorem updPres_sens_mods (d : Nat) (f : Pres → Pres) (s : State) : (updPres d f s).sens.mods = s.sens.mods := rfl
@[simp] theorem updPres_sens_results (d : Nat) (f : Pres → Pres) (s : State) : (updPres d f s).sens.results = s.sens.results := rfl
@[simp] theorem updPres_sens_flagged (d : Nat) (f : Pres → Pres) (s : State) : (updPres d f s).sens.flagged = s.sens.flagged := rfl
@[simp] theorem updPres_sens_hk (d : Nat) (f : Pres → Pres) (s : State) : (updPres d f s).sens.hk = s.sens.hk := rfl
@[simp] theorem updPres_sens_dieTemp (d : Nat) (f : Pres → Pres) (s : State) : (updPres d f s).sens.dieTemp = s.sens.dieTemp := rfl
@[simp] theorem updPres_sens_hkDone (d : Nat) (f : Pres → Pres) (s : State) : (updPres d f s).sens.hkDone = s.sens.hkDone := rfl
@[simp] theorem updPres_sens_hkFresh (d : Nat) (f : Pres → Pres) (s : State) : (updPres d f s).sens.hkFresh = s.sens.hkFresh := rfl
@[simp] theorem updPres_freeNat (d : Nat) (f : Pres → Pres) (s : State) : (updPres d f s).freeNat = s.freeNat := rfl
@[simp] theorem updPres_at_cw (d : Nat) (f : Pres → Pres) (s : State) : (updPres d f s).cw = s.cw := rfl
@[simp] theorem updPres_at_cf (d : Nat) (f : Pres → Pres) (s : State) : (updPres d f s).cf = s.cf := rfl
@[simp] theorem updPres_at_cb (d : Nat) (f : Pres → Pres) (s : State) : (updPres d f s).cb = s.cb := rfl
@[simp] theorem updPres_at_mcSince (d : Nat) (f : Pres → Pres) (s : State) : (updPres d f s).mcSince = s.mcSince := rfl
@[simp] theorem updPres_at_secMc (d : Nat) (f : Pres → Pres) (s : State) : (updPres d f s).secMc = s.secMc := rfl
@[simp] theorem updPres_at_released (d : Nat) (f : Pres → Pres) (s : State) : (updPres d f s).released = s.released := rfl
@[simp] theorem updPres_at_alive (d : Nat) (f : Pres → Pres) (s : State) : (updPres d f s).alive = s.alive := rfl
@[simp] theorem updPres_at_appUp (d : Nat) (f : Pres → Pres) (s : State) : (updPres d f s).appUp = s.appUp := rfl
@[simp] theorem updPres_at_safe (d : Nat) (f : Pres → Pres) (s : State) : (updPres d f s).safe = s.safe := rfl

/-! ## updCh -/

@[simp] theorem updCh_chain (n : Nat) (f : ActCh → ActCh) (s : State) : (updCh n f s).chain = s.chain := rfl
@[simp] theorem updCh_acre (n : Nat) (f : ActCh → ActCh) (s : State) : (updCh n f s).acre = s.acre := rfl
@[simp] theorem updCh_host (n : Nat) (f : ActCh → ActCh) (s : State) : (updCh n f s).host = s.host := rfl
@[simp] theorem updCh_mbox (n : Nat) (f : ActCh → ActCh) (s : State) : (updCh n f s).mbox = s.mbox := rfl
@[simp] theorem updCh_evt (n : Nat) (f : ActCh → ActCh) (s : State) : (updCh n f s).evt = s.evt := rfl
@[simp] theorem updCh_cfg (n : Nat) (f : ActCh → ActCh) (s : State) : (updCh n f s).cfg = s.cfg := rfl
@[simp] theorem updCh_gpio (n : Nat) (f : ActCh → ActCh) (s : State) : (updCh n f s).gpio = s.gpio := rfl
@[simp] theorem updCh_bushel (n : Nat) (f : ActCh → ActCh) (s : State) : (updCh n f s).bushel = s.bushel := rfl
@[simp] theorem updCh_nvm (n : Nat) (f : ActCh → ActCh) (s : State) : (updCh n f s).nvm = s.nvm := rfl
@[simp] theorem updCh_sup (n : Nat) (f : ActCh → ActCh) (s : State) : (updCh n f s).sup = s.sup := rfl
@[simp] theorem updCh_backup (n : Nat) (f : ActCh → ActCh) (s : State) : (updCh n f s).backup = s.backup := rfl
@[simp] theorem updCh_clk (n : Nat) (f : ActCh → ActCh) (s : State) : (updCh n f s).clk = s.clk := rfl
@[simp] theorem updCh_therm (n : Nat) (f : ActCh → ActCh) (s : State) : (updCh n f s).therm = s.therm := rfl
@[simp] theorem updCh_mgt (n : Nat) (f : ActCh → ActCh) (s : State) : (updCh n f s).mgt = s.mgt := rfl
@[simp] theorem updCh_test (n : Nat) (f : ActCh → ActCh) (s : State) : (updCh n f s).test = s.test := rfl
@[simp] theorem updCh_jtag (n : Nat) (f : ActCh → ActCh) (s : State) : (updCh n f s).jtag = s.jtag := rfl
@[simp] theorem updCh_bus (n : Nat) (f : ActCh → ActCh) (s : State) : (updCh n f s).bus = s.bus := rfl
@[simp] theorem updCh_sens (n : Nat) (f : ActCh → ActCh) (s : State) : (updCh n f s).sens = s.sens := rfl
@[simp] theorem updCh_stone (n : Nat) (f : ActCh → ActCh) (s : State) : (updCh n f s).stone = s.stone := rfl
@[simp] theorem updCh_rood (n : Nat) (f : ActCh → ActCh) (s : State) : (updCh n f s).rood = s.rood := rfl
@[simp] theorem updCh_fans (n : Nat) (f : ActCh → ActCh) (s : State) : (updCh n f s).fans = s.fans := rfl
@[simp] theorem updCh_panel (n : Nat) (f : ActCh → ActCh) (s : State) : (updCh n f s).panel = s.panel := rfl
@[simp] theorem updCh_keys (n : Nat) (f : ActCh → ActCh) (s : State) : (updCh n f s).keys = s.keys := rfl
@[simp] theorem updCh_pending (n : Nat) (f : ActCh → ActCh) (s : State) : (updCh n f s).pending = s.pending := rfl
@[simp] theorem updCh_free (n : Nat) (f : ActCh → ActCh) (s : State) : (updCh n f s).free = s.free := rfl
@[simp] theorem updCh_act_pairs (n : Nat) (f : ActCh → ActCh) (s : State) : (updCh n f s).act.pairs = s.act.pairs := rfl
@[simp] theorem updCh_act_queue (n : Nat) (f : ActCh → ActCh) (s : State) : (updCh n f s).act.queue = s.act.queue := rfl
@[simp] theorem updCh_act_fault (n : Nat) (f : ActCh → ActCh) (s : State) : (updCh n f s).act.fault = s.act.fault := rfl
@[simp] theorem updCh_act_latched (n : Nat) (f : ActCh → ActCh) (s : State) : (updCh n f s).act.latched = s.act.latched := rfl
@[simp] theorem updCh_act_faultRetry (n : Nat) (f : ActCh → ActCh) (s : State) : (updCh n f s).act.faultRetry = s.act.faultRetry := rfl
@[simp] theorem updCh_act_bstUv (n : Nat) (f : ActCh → ActCh) (s : State) : (updCh n f s).act.bstUv = s.act.bstUv := rfl
@[simp] theorem updCh_act_bstOv (n : Nat) (f : ActCh → ActCh) (s : State) : (updCh n f s).act.bstOv = s.act.bstOv := rfl
@[simp] theorem updCh_act_bstOc (n : Nat) (f : ActCh → ActCh) (s : State) : (updCh n f s).act.bstOc = s.act.bstOc := rfl
@[simp] theorem updCh_act_bypass (n : Nat) (f : ActCh → ActCh) (s : State) : (updCh n f s).act.bypass = s.act.bypass := rfl
@[simp] theorem updCh_act_burst (n : Nat) (f : ActCh → ActCh) (s : State) : (updCh n f s).act.burst = s.act.burst := rfl
@[simp] theorem updCh_act_burstEnd (n : Nat) (f : ActCh → ActCh) (s : State) : (updCh n f s).act.burstEnd = s.act.burstEnd := rfl
@[simp] theorem updCh_act_clamp (n : Nat) (f : ActCh → ActCh) (s : State) : (updCh n f s).act.clamp = s.act.clamp := rfl
@[simp] theorem updCh_freeNat (n : Nat) (f : ActCh → ActCh) (s : State) : (updCh n f s).freeNat = s.freeNat := rfl
@[simp] theorem updCh_at_cw (n : Nat) (f : ActCh → ActCh) (s : State) : (updCh n f s).cw = s.cw := rfl
@[simp] theorem updCh_at_cf (n : Nat) (f : ActCh → ActCh) (s : State) : (updCh n f s).cf = s.cf := rfl
@[simp] theorem updCh_at_cb (n : Nat) (f : ActCh → ActCh) (s : State) : (updCh n f s).cb = s.cb := rfl
@[simp] theorem updCh_at_mcSince (n : Nat) (f : ActCh → ActCh) (s : State) : (updCh n f s).mcSince = s.mcSince := rfl
@[simp] theorem updCh_at_secMc (n : Nat) (f : ActCh → ActCh) (s : State) : (updCh n f s).secMc = s.secMc := rfl
@[simp] theorem updCh_at_released (n : Nat) (f : ActCh → ActCh) (s : State) : (updCh n f s).released = s.released := rfl
@[simp] theorem updCh_at_alive (n : Nat) (f : ActCh → ActCh) (s : State) : (updCh n f s).alive = s.alive := rfl
@[simp] theorem updCh_at_appUp (n : Nat) (f : ActCh → ActCh) (s : State) : (updCh n f s).appUp = s.appUp := rfl
@[simp] theorem updCh_at_safe (n : Nat) (f : ActCh → ActCh) (s : State) : (updCh n f s).safe = s.safe := rfl

theorem updCh_ach_self (n : Nat) (f : ActCh → ActCh) (s : State) (h : n < s.act.ch.length) : (updCh n f s).ach n = f (s.ach n) :=
  nth_upd_self _ _ _ h

theorem updCh_ach_ne (n : Nat) (f : ActCh → ActCh) (s : State) (j : Nat) (h : j ≠ n) : (updCh n f s).ach j = s.ach j :=
  nth_upd_ne _ _ _ _ h

/-! ## updPair -/

@[simp] theorem updPair_chain (k : Nat) (f : ActPair → ActPair) (s : State) : (updPair k f s).chain = s.chain := rfl
@[simp] theorem updPair_acre (k : Nat) (f : ActPair → ActPair) (s : State) : (updPair k f s).acre = s.acre := rfl
@[simp] theorem updPair_host (k : Nat) (f : ActPair → ActPair) (s : State) : (updPair k f s).host = s.host := rfl
@[simp] theorem updPair_mbox (k : Nat) (f : ActPair → ActPair) (s : State) : (updPair k f s).mbox = s.mbox := rfl
@[simp] theorem updPair_evt (k : Nat) (f : ActPair → ActPair) (s : State) : (updPair k f s).evt = s.evt := rfl
@[simp] theorem updPair_cfg (k : Nat) (f : ActPair → ActPair) (s : State) : (updPair k f s).cfg = s.cfg := rfl
@[simp] theorem updPair_gpio (k : Nat) (f : ActPair → ActPair) (s : State) : (updPair k f s).gpio = s.gpio := rfl
@[simp] theorem updPair_bushel (k : Nat) (f : ActPair → ActPair) (s : State) : (updPair k f s).bushel = s.bushel := rfl
@[simp] theorem updPair_nvm (k : Nat) (f : ActPair → ActPair) (s : State) : (updPair k f s).nvm = s.nvm := rfl
@[simp] theorem updPair_sup (k : Nat) (f : ActPair → ActPair) (s : State) : (updPair k f s).sup = s.sup := rfl
@[simp] theorem updPair_backup (k : Nat) (f : ActPair → ActPair) (s : State) : (updPair k f s).backup = s.backup := rfl
@[simp] theorem updPair_clk (k : Nat) (f : ActPair → ActPair) (s : State) : (updPair k f s).clk = s.clk := rfl
@[simp] theorem updPair_therm (k : Nat) (f : ActPair → ActPair) (s : State) : (updPair k f s).therm = s.therm := rfl
@[simp] theorem updPair_mgt (k : Nat) (f : ActPair → ActPair) (s : State) : (updPair k f s).mgt = s.mgt := rfl
@[simp] theorem updPair_test (k : Nat) (f : ActPair → ActPair) (s : State) : (updPair k f s).test = s.test := rfl
@[simp] theorem updPair_jtag (k : Nat) (f : ActPair → ActPair) (s : State) : (updPair k f s).jtag = s.jtag := rfl
@[simp] theorem updPair_bus (k : Nat) (f : ActPair → ActPair) (s : State) : (updPair k f s).bus = s.bus := rfl
@[simp] theorem updPair_sens (k : Nat) (f : ActPair → ActPair) (s : State) : (updPair k f s).sens = s.sens := rfl
@[simp] theorem updPair_stone (k : Nat) (f : ActPair → ActPair) (s : State) : (updPair k f s).stone = s.stone := rfl
@[simp] theorem updPair_rood (k : Nat) (f : ActPair → ActPair) (s : State) : (updPair k f s).rood = s.rood := rfl
@[simp] theorem updPair_fans (k : Nat) (f : ActPair → ActPair) (s : State) : (updPair k f s).fans = s.fans := rfl
@[simp] theorem updPair_panel (k : Nat) (f : ActPair → ActPair) (s : State) : (updPair k f s).panel = s.panel := rfl
@[simp] theorem updPair_keys (k : Nat) (f : ActPair → ActPair) (s : State) : (updPair k f s).keys = s.keys := rfl
@[simp] theorem updPair_pending (k : Nat) (f : ActPair → ActPair) (s : State) : (updPair k f s).pending = s.pending := rfl
@[simp] theorem updPair_free (k : Nat) (f : ActPair → ActPair) (s : State) : (updPair k f s).free = s.free := rfl
@[simp] theorem updPair_act_ch (k : Nat) (f : ActPair → ActPair) (s : State) : (updPair k f s).act.ch = s.act.ch := rfl
@[simp] theorem updPair_act_queue (k : Nat) (f : ActPair → ActPair) (s : State) : (updPair k f s).act.queue = s.act.queue := rfl
@[simp] theorem updPair_act_fault (k : Nat) (f : ActPair → ActPair) (s : State) : (updPair k f s).act.fault = s.act.fault := rfl
@[simp] theorem updPair_act_latched (k : Nat) (f : ActPair → ActPair) (s : State) : (updPair k f s).act.latched = s.act.latched := rfl
@[simp] theorem updPair_act_faultRetry (k : Nat) (f : ActPair → ActPair) (s : State) : (updPair k f s).act.faultRetry = s.act.faultRetry := rfl
@[simp] theorem updPair_act_bstUv (k : Nat) (f : ActPair → ActPair) (s : State) : (updPair k f s).act.bstUv = s.act.bstUv := rfl
@[simp] theorem updPair_act_bstOv (k : Nat) (f : ActPair → ActPair) (s : State) : (updPair k f s).act.bstOv = s.act.bstOv := rfl
@[simp] theorem updPair_act_bstOc (k : Nat) (f : ActPair → ActPair) (s : State) : (updPair k f s).act.bstOc = s.act.bstOc := rfl
@[simp] theorem updPair_act_bypass (k : Nat) (f : ActPair → ActPair) (s : State) : (updPair k f s).act.bypass = s.act.bypass := rfl
@[simp] theorem updPair_act_burst (k : Nat) (f : ActPair → ActPair) (s : State) : (updPair k f s).act.burst = s.act.burst := rfl
@[simp] theorem updPair_act_burstEnd (k : Nat) (f : ActPair → ActPair) (s : State) : (updPair k f s).act.burstEnd = s.act.burstEnd := rfl
@[simp] theorem updPair_act_clamp (k : Nat) (f : ActPair → ActPair) (s : State) : (updPair k f s).act.clamp = s.act.clamp := rfl
@[simp] theorem updPair_freeNat (k : Nat) (f : ActPair → ActPair) (s : State) : (updPair k f s).freeNat = s.freeNat := rfl
@[simp] theorem updPair_at_cw (k : Nat) (f : ActPair → ActPair) (s : State) : (updPair k f s).cw = s.cw := rfl
@[simp] theorem updPair_at_cf (k : Nat) (f : ActPair → ActPair) (s : State) : (updPair k f s).cf = s.cf := rfl
@[simp] theorem updPair_at_cb (k : Nat) (f : ActPair → ActPair) (s : State) : (updPair k f s).cb = s.cb := rfl
@[simp] theorem updPair_at_mcSince (k : Nat) (f : ActPair → ActPair) (s : State) : (updPair k f s).mcSince = s.mcSince := rfl
@[simp] theorem updPair_at_secMc (k : Nat) (f : ActPair → ActPair) (s : State) : (updPair k f s).secMc = s.secMc := rfl
@[simp] theorem updPair_at_released (k : Nat) (f : ActPair → ActPair) (s : State) : (updPair k f s).released = s.released := rfl
@[simp] theorem updPair_at_alive (k : Nat) (f : ActPair → ActPair) (s : State) : (updPair k f s).alive = s.alive := rfl
@[simp] theorem updPair_at_appUp (k : Nat) (f : ActPair → ActPair) (s : State) : (updPair k f s).appUp = s.appUp := rfl
@[simp] theorem updPair_at_safe (k : Nat) (f : ActPair → ActPair) (s : State) : (updPair k f s).safe = s.safe := rfl

/-! ## updFan -/

@[simp] theorem updFan_chain (i : Nat) (f : Fan → Fan) (s : State) : (updFan i f s).chain = s.chain := rfl
@[simp] theorem updFan_acre (i : Nat) (f : Fan → Fan) (s : State) : (updFan i f s).acre = s.acre := rfl
@[simp] theorem updFan_host (i : Nat) (f : Fan → Fan) (s : State) : (updFan i f s).host = s.host := rfl
@[simp] theorem updFan_mbox (i : Nat) (f : Fan → Fan) (s : State) : (updFan i f s).mbox = s.mbox := rfl
@[simp] theorem updFan_evt (i : Nat) (f : Fan → Fan) (s : State) : (updFan i f s).evt = s.evt := rfl
@[simp] theorem updFan_cfg (i : Nat) (f : Fan → Fan) (s : State) : (updFan i f s).cfg = s.cfg := rfl
@[simp] theorem updFan_gpio (i : Nat) (f : Fan → Fan) (s : State) : (updFan i f s).gpio = s.gpio := rfl
@[simp] theorem updFan_bushel (i : Nat) (f : Fan → Fan) (s : State) : (updFan i f s).bushel = s.bushel := rfl
@[simp] theorem updFan_nvm (i : Nat) (f : Fan → Fan) (s : State) : (updFan i f s).nvm = s.nvm := rfl
@[simp] theorem updFan_sup (i : Nat) (f : Fan → Fan) (s : State) : (updFan i f s).sup = s.sup := rfl
@[simp] theorem updFan_backup (i : Nat) (f : Fan → Fan) (s : State) : (updFan i f s).backup = s.backup := rfl
@[simp] theorem updFan_clk (i : Nat) (f : Fan → Fan) (s : State) : (updFan i f s).clk = s.clk := rfl
@[simp] theorem updFan_therm (i : Nat) (f : Fan → Fan) (s : State) : (updFan i f s).therm = s.therm := rfl
@[simp] theorem updFan_mgt (i : Nat) (f : Fan → Fan) (s : State) : (updFan i f s).mgt = s.mgt := rfl
@[simp] theorem updFan_test (i : Nat) (f : Fan → Fan) (s : State) : (updFan i f s).test = s.test := rfl
@[simp] theorem updFan_jtag (i : Nat) (f : Fan → Fan) (s : State) : (updFan i f s).jtag = s.jtag := rfl
@[simp] theorem updFan_bus (i : Nat) (f : Fan → Fan) (s : State) : (updFan i f s).bus = s.bus := rfl
@[simp] theorem updFan_sens (i : Nat) (f : Fan → Fan) (s : State) : (updFan i f s).sens = s.sens := rfl
@[simp] theorem updFan_stone (i : Nat) (f : Fan → Fan) (s : State) : (updFan i f s).stone = s.stone := rfl
@[simp] theorem updFan_rood (i : Nat) (f : Fan → Fan) (s : State) : (updFan i f s).rood = s.rood := rfl
@[simp] theorem updFan_act (i : Nat) (f : Fan → Fan) (s : State) : (updFan i f s).act = s.act := rfl
@[simp] theorem updFan_panel (i : Nat) (f : Fan → Fan) (s : State) : (updFan i f s).panel = s.panel := rfl
@[simp] theorem updFan_keys (i : Nat) (f : Fan → Fan) (s : State) : (updFan i f s).keys = s.keys := rfl
@[simp] theorem updFan_pending (i : Nat) (f : Fan → Fan) (s : State) : (updFan i f s).pending = s.pending := rfl
@[simp] theorem updFan_free (i : Nat) (f : Fan → Fan) (s : State) : (updFan i f s).free = s.free := rfl
@[simp] theorem updFan_fans_queue (i : Nat) (f : Fan → Fan) (s : State) : (updFan i f s).fans.queue = s.fans.queue := rfl
@[simp] theorem updFan_fans_kickMc (i : Nat) (f : Fan → Fan) (s : State) : (updFan i f s).fans.kickMc = s.fans.kickMc := rfl
@[simp] theorem updFan_fans_next (i : Nat) (f : Fan → Fan) (s : State) : (updFan i f s).fans.next = s.fans.next := rfl
@[simp] theorem updFan_freeNat (i : Nat) (f : Fan → Fan) (s : State) : (updFan i f s).freeNat = s.freeNat := rfl
@[simp] theorem updFan_at_cw (i : Nat) (f : Fan → Fan) (s : State) : (updFan i f s).cw = s.cw := rfl
@[simp] theorem updFan_at_cf (i : Nat) (f : Fan → Fan) (s : State) : (updFan i f s).cf = s.cf := rfl
@[simp] theorem updFan_at_cb (i : Nat) (f : Fan → Fan) (s : State) : (updFan i f s).cb = s.cb := rfl
@[simp] theorem updFan_at_mcSince (i : Nat) (f : Fan → Fan) (s : State) : (updFan i f s).mcSince = s.mcSince := rfl
@[simp] theorem updFan_at_secMc (i : Nat) (f : Fan → Fan) (s : State) : (updFan i f s).secMc = s.secMc := rfl
@[simp] theorem updFan_at_released (i : Nat) (f : Fan → Fan) (s : State) : (updFan i f s).released = s.released := rfl
@[simp] theorem updFan_at_alive (i : Nat) (f : Fan → Fan) (s : State) : (updFan i f s).alive = s.alive := rfl
@[simp] theorem updFan_at_appUp (i : Nat) (f : Fan → Fan) (s : State) : (updFan i f s).appUp = s.appUp := rfl
@[simp] theorem updFan_at_safe (i : Nat) (f : Fan → Fan) (s : State) : (updFan i f s).safe = s.safe := rfl

theorem updFan_fan_self (i : Nat) (f : Fan → Fan) (s : State) (h : i < s.fans.ch.length) : (updFan i f s).fan i = f (s.fan i) :=
  nth_upd_self _ _ _ h

theorem updFan_fan_ne (i : Nat) (f : Fan → Fan) (s : State) (j : Nat) (h : j ≠ i) : (updFan i f s).fan j = s.fan j :=
  nth_upd_ne _ _ _ _ h

/-! ## updLoop -/

@[simp] theorem updLoop_chain (l : Nat) (f : Loop → Loop) (s : State) : (updLoop l f s).chain = s.chain := rfl
@[simp] theorem updLoop_acre (l : Nat) (f : Loop → Loop) (s : State) : (updLoop l f s).acre = s.acre := rfl
@[simp] theorem updLoop_host (l : Nat) (f : Loop → Loop) (s : State) : (updLoop l f s).host = s.host := rfl
@[simp] theorem updLoop_mbox (l : Nat) (f : Loop → Loop) (s : State) : (updLoop l f s).mbox = s.mbox := rfl
@[simp] theorem updLoop_evt (l : Nat) (f : Loop → Loop) (s : State) : (updLoop l f s).evt = s.evt := rfl
@[simp] theorem updLoop_cfg (l : Nat) (f : Loop → Loop) (s : State) : (updLoop l f s).cfg = s.cfg := rfl
@[simp] theorem updLoop_gpio (l : Nat) (f : Loop → Loop) (s : State) : (updLoop l f s).gpio = s.gpio := rfl
@[simp] theorem updLoop_bushel (l : Nat) (f : Loop → Loop) (s : State) : (updLoop l f s).bushel = s.bushel := rfl
@[simp] theorem updLoop_nvm (l : Nat) (f : Loop → Loop) (s : State) : (updLoop l f s).nvm = s.nvm := rfl
@[simp] theorem updLoop_sup (l : Nat) (f : Loop → Loop) (s : State) : (updLoop l f s).sup = s.sup := rfl
@[simp] theorem updLoop_backup (l : Nat) (f : Loop → Loop) (s : State) : (updLoop l f s).backup = s.backup := rfl
@[simp] theorem updLoop_clk (l : Nat) (f : Loop → Loop) (s : State) : (updLoop l f s).clk = s.clk := rfl
@[simp] theorem updLoop_therm (l : Nat) (f : Loop → Loop) (s : State) : (updLoop l f s).therm = s.therm := rfl
@[simp] theorem updLoop_mgt (l : Nat) (f : Loop → Loop) (s : State) : (updLoop l f s).mgt = s.mgt := rfl
@[simp] theorem updLoop_test (l : Nat) (f : Loop → Loop) (s : State) : (updLoop l f s).test = s.test := rfl
@[simp] theorem updLoop_jtag (l : Nat) (f : Loop → Loop) (s : State) : (updLoop l f s).jtag = s.jtag := rfl
@[simp] theorem updLoop_bus (l : Nat) (f : Loop → Loop) (s : State) : (updLoop l f s).bus = s.bus := rfl
@[simp] theorem updLoop_sens (l : Nat) (f : Loop → Loop) (s : State) : (updLoop l f s).sens = s.sens := rfl
@[simp] theorem updLoop_stone (l : Nat) (f : Loop → Loop) (s : State) : (updLoop l f s).stone = s.stone := rfl
@[simp] theorem updLoop_act (l : Nat) (f : Loop → Loop) (s : State) : (updLoop l f s).act = s.act := rfl
@[simp] theorem updLoop_fans (l : Nat) (f : Loop → Loop) (s : State) : (updLoop l f s).fans = s.fans := rfl
@[simp] theorem updLoop_panel (l : Nat) (f : Loop → Loop) (s : State) : (updLoop l f s).panel = s.panel := rfl
@[simp] theorem updLoop_keys (l : Nat) (f : Loop → Loop) (s : State) : (updLoop l f s).keys = s.keys := rfl
@[simp] theorem updLoop_pending (l : Nat) (f : Loop → Loop) (s : State) : (updLoop l f s).pending = s.pending := rfl
@[simp] theorem updLoop_free (l : Nat) (f : Loop → Loop) (s : State) : (updLoop l f s).free = s.free := rfl
@[simp] theorem updLoop_rood_zones (l : Nat) (f : Loop → Loop) (s : State) : (updLoop l f s).rood.zones = s.rood.zones := rfl
@[simp] theorem updLoop_rood_slots (l : Nat) (f : Loop → Loop) (s : State) : (updLoop l f s).rood.slots = s.rood.slots := rfl
@[simp] theorem updLoop_rood_rotSlot (l : Nat) (f : Loop → Loop) (s : State) : (updLoop l f s).rood.rotSlot = s.rood.rotSlot := rfl
@[simp] theorem updLoop_rood_rotZone (l : Nat) (f : Loop → Loop) (s : State) : (updLoop l f s).rood.rotZone = s.rood.rotZone := rfl
@[simp] theorem updLoop_rood_zoneDue (l : Nat) (f : Loop → Loop) (s : State) : (updLoop l f s).rood.zoneDue = s.rood.zoneDue := rfl
@[simp] theorem updLoop_rood_ffDue (l : Nat) (f : Loop → Loop) (s : State) : (updLoop l f s).rood.ffDue = s.rood.ffDue := rfl
@[simp] theorem updLoop_rood_passMc (l : Nat) (f : Loop → Loop) (s : State) : (updLoop l f s).rood.passMc = s.rood.passMc := rfl
@[simp] theorem updLoop_rood_delaysReset (l : Nat) (f : Loop → Loop) (s : State) : (updLoop l f s).rood.delaysReset = s.rood.delaysReset := rfl
@[simp] theorem updLoop_freeNat (l : Nat) (f : Loop → Loop) (s : State) : (updLoop l f s).freeNat = s.freeNat := rfl
@[simp] theorem updLoop_at_cw (l : Nat) (f : Loop → Loop) (s : State) : (updLoop l f s).cw = s.cw := rfl
@[simp] theorem updLoop_at_cf (l : Nat) (f : Loop → Loop) (s : State) : (updLoop l f s).cf = s.cf := rfl
@[simp] theorem updLoop_at_cb (l : Nat) (f : Loop → Loop) (s : State) : (updLoop l f s).cb = s.cb := rfl
@[simp] theorem updLoop_at_mcSince (l : Nat) (f : Loop → Loop) (s : State) : (updLoop l f s).mcSince = s.mcSince := rfl
@[simp] theorem updLoop_at_secMc (l : Nat) (f : Loop → Loop) (s : State) : (updLoop l f s).secMc = s.secMc := rfl
@[simp] theorem updLoop_at_released (l : Nat) (f : Loop → Loop) (s : State) : (updLoop l f s).released = s.released := rfl
@[simp] theorem updLoop_at_alive (l : Nat) (f : Loop → Loop) (s : State) : (updLoop l f s).alive = s.alive := rfl
@[simp] theorem updLoop_at_appUp (l : Nat) (f : Loop → Loop) (s : State) : (updLoop l f s).appUp = s.appUp := rfl
@[simp] theorem updLoop_at_safe (l : Nat) (f : Loop → Loop) (s : State) : (updLoop l f s).safe = s.safe := rfl

theorem updLoop_loop_self (l : Nat) (f : Loop → Loop) (s : State) (h : l < s.rood.loops.length) : (updLoop l f s).loop l = f (s.loop l) :=
  nth_upd_self _ _ _ h

theorem updLoop_loop_ne (l : Nat) (f : Loop → Loop) (s : State) (j : Nat) (h : j ≠ l) : (updLoop l f s).loop j = s.loop j :=
  nth_upd_ne _ _ _ _ h

/-! ## updDyn -/

@[simp] theorem updDyn_chain (l : Nat) (f : LoopDyn → LoopDyn) (s : State) : (updDyn l f s).chain = s.chain := rfl
@[simp] theorem updDyn_acre (l : Nat) (f : LoopDyn → LoopDyn) (s : State) : (updDyn l f s).acre = s.acre := rfl
@[simp] theorem updDyn_host (l : Nat) (f : LoopDyn → LoopDyn) (s : State) : (updDyn l f s).host = s.host := rfl
@[simp] theorem updDyn_mbox (l : Nat) (f : LoopDyn → LoopDyn) (s : State) : (updDyn l f s).mbox = s.mbox := rfl
@[simp] theorem updDyn_evt (l : Nat) (f : LoopDyn → LoopDyn) (s : State) : (updDyn l f s).evt = s.evt := rfl
@[simp] theorem updDyn_cfg (l : Nat) (f : LoopDyn → LoopDyn) (s : State) : (updDyn l f s).cfg = s.cfg := rfl
@[simp] theorem updDyn_gpio (l : Nat) (f : LoopDyn → LoopDyn) (s : State) : (updDyn l f s).gpio = s.gpio := rfl
@[simp] theorem updDyn_bushel (l : Nat) (f : LoopDyn → LoopDyn) (s : State) : (updDyn l f s).bushel = s.bushel := rfl
@[simp] theorem updDyn_nvm (l : Nat) (f : LoopDyn → LoopDyn) (s : State) : (updDyn l f s).nvm = s.nvm := rfl
@[simp] theorem updDyn_sup (l : Nat) (f : LoopDyn → LoopDyn) (s : State) : (updDyn l f s).sup = s.sup := rfl
@[simp] theorem updDyn_backup (l : Nat) (f : LoopDyn → LoopDyn) (s : State) : (updDyn l f s).backup = s.backup := rfl
@[simp] theorem updDyn_clk (l : Nat) (f : LoopDyn → LoopDyn) (s : State) : (updDyn l f s).clk = s.clk := rfl
@[simp] theorem updDyn_therm (l : Nat) (f : LoopDyn → LoopDyn) (s : State) : (updDyn l f s).therm = s.therm := rfl
@[simp] theorem updDyn_mgt (l : Nat) (f : LoopDyn → LoopDyn) (s : State) : (updDyn l f s).mgt = s.mgt := rfl
@[simp] theorem updDyn_test (l : Nat) (f : LoopDyn → LoopDyn) (s : State) : (updDyn l f s).test = s.test := rfl
@[simp] theorem updDyn_jtag (l : Nat) (f : LoopDyn → LoopDyn) (s : State) : (updDyn l f s).jtag = s.jtag := rfl
@[simp] theorem updDyn_bus (l : Nat) (f : LoopDyn → LoopDyn) (s : State) : (updDyn l f s).bus = s.bus := rfl
@[simp] theorem updDyn_sens (l : Nat) (f : LoopDyn → LoopDyn) (s : State) : (updDyn l f s).sens = s.sens := rfl
@[simp] theorem updDyn_stone (l : Nat) (f : LoopDyn → LoopDyn) (s : State) : (updDyn l f s).stone = s.stone := rfl
@[simp] theorem updDyn_act (l : Nat) (f : LoopDyn → LoopDyn) (s : State) : (updDyn l f s).act = s.act := rfl
@[simp] theorem updDyn_fans (l : Nat) (f : LoopDyn → LoopDyn) (s : State) : (updDyn l f s).fans = s.fans := rfl
@[simp] theorem updDyn_panel (l : Nat) (f : LoopDyn → LoopDyn) (s : State) : (updDyn l f s).panel = s.panel := rfl
@[simp] theorem updDyn_keys (l : Nat) (f : LoopDyn → LoopDyn) (s : State) : (updDyn l f s).keys = s.keys := rfl
@[simp] theorem updDyn_pending (l : Nat) (f : LoopDyn → LoopDyn) (s : State) : (updDyn l f s).pending = s.pending := rfl
@[simp] theorem updDyn_free (l : Nat) (f : LoopDyn → LoopDyn) (s : State) : (updDyn l f s).free = s.free := rfl
@[simp] theorem updDyn_rood_zones (l : Nat) (f : LoopDyn → LoopDyn) (s : State) : (updDyn l f s).rood.zones = s.rood.zones := rfl
@[simp] theorem updDyn_rood_slots (l : Nat) (f : LoopDyn → LoopDyn) (s : State) : (updDyn l f s).rood.slots = s.rood.slots := rfl
@[simp] theorem updDyn_rood_rotSlot (l : Nat) (f : LoopDyn → LoopDyn) (s : State) : (updDyn l f s).rood.rotSlot = s.rood.rotSlot := rfl
@[simp] theorem updDyn_rood_rotZone (l : Nat) (f : LoopDyn → LoopDyn) (s : State) : (updDyn l f s).rood.rotZone = s.rood.rotZone := rfl
@[simp] theorem updDyn_rood_zoneDue (l : Nat) (f : LoopDyn → LoopDyn) (s : State) : (updDyn l f s).rood.zoneDue = s.rood.zoneDue := rfl
@[simp] theorem updDyn_rood_ffDue (l : Nat) (f : LoopDyn → LoopDyn) (s : State) : (updDyn l f s).rood.ffDue = s.rood.ffDue := rfl
@[simp] theorem updDyn_rood_passMc (l : Nat) (f : LoopDyn → LoopDyn) (s : State) : (updDyn l f s).rood.passMc = s.rood.passMc := rfl
@[simp] theorem updDyn_rood_delaysReset (l : Nat) (f : LoopDyn → LoopDyn) (s : State) : (updDyn l f s).rood.delaysReset = s.rood.delaysReset := rfl
@[simp] theorem updDyn_freeNat (l : Nat) (f : LoopDyn → LoopDyn) (s : State) : (updDyn l f s).freeNat = s.freeNat := rfl
@[simp] theorem updDyn_at_cw (l : Nat) (f : LoopDyn → LoopDyn) (s : State) : (updDyn l f s).cw = s.cw := rfl
@[simp] theorem updDyn_at_cf (l : Nat) (f : LoopDyn → LoopDyn) (s : State) : (updDyn l f s).cf = s.cf := rfl
@[simp] theorem updDyn_at_cb (l : Nat) (f : LoopDyn → LoopDyn) (s : State) : (updDyn l f s).cb = s.cb := rfl
@[simp] theorem updDyn_at_mcSince (l : Nat) (f : LoopDyn → LoopDyn) (s : State) : (updDyn l f s).mcSince = s.mcSince := rfl
@[simp] theorem updDyn_at_secMc (l : Nat) (f : LoopDyn → LoopDyn) (s : State) : (updDyn l f s).secMc = s.secMc := rfl
@[simp] theorem updDyn_at_released (l : Nat) (f : LoopDyn → LoopDyn) (s : State) : (updDyn l f s).released = s.released := rfl
@[simp] theorem updDyn_at_alive (l : Nat) (f : LoopDyn → LoopDyn) (s : State) : (updDyn l f s).alive = s.alive := rfl
@[simp] theorem updDyn_at_appUp (l : Nat) (f : LoopDyn → LoopDyn) (s : State) : (updDyn l f s).appUp = s.appUp := rfl
@[simp] theorem updDyn_at_safe (l : Nat) (f : LoopDyn → LoopDyn) (s : State) : (updDyn l f s).safe = s.safe := rfl

/-! ## updZone -/

@[simp] theorem updZone_chain (z : Nat) (f : Zone → Zone) (s : State) : (updZone z f s).chain = s.chain := rfl
@[simp] theorem updZone_acre (z : Nat) (f : Zone → Zone) (s : State) : (updZone z f s).acre = s.acre := rfl
@[simp] theorem updZone_host (z : Nat) (f : Zone → Zone) (s : State) : (updZone z f s).host = s.host := rfl
@[simp] theorem updZone_mbox (z : Nat) (f : Zone → Zone) (s : State) : (updZone z f s).mbox = s.mbox := rfl
@[simp] theorem updZone_evt (z : Nat) (f : Zone → Zone) (s : State) : (updZone z f s).evt = s.evt := rfl
@[simp] theorem updZone_cfg (z : Nat) (f : Zone → Zone) (s : State) : (updZone z f s).cfg = s.cfg := rfl
@[simp] theorem updZone_gpio (z : Nat) (f : Zone → Zone) (s : State) : (updZone z f s).gpio = s.gpio := rfl
@[simp] theorem updZone_bushel (z : Nat) (f : Zone → Zone) (s : State) : (updZone z f s).bushel = s.bushel := rfl
@[simp] theorem updZone_nvm (z : Nat) (f : Zone → Zone) (s : State) : (updZone z f s).nvm = s.nvm := rfl
@[simp] theorem updZone_sup (z : Nat) (f : Zone → Zone) (s : State) : (updZone z f s).sup = s.sup := rfl
@[simp] theorem updZone_backup (z : Nat) (f : Zone → Zone) (s : State) : (updZone z f s).backup = s.backup := rfl
@[simp] theorem updZone_clk (z : Nat) (f : Zone → Zone) (s : State) : (updZone z f s).clk = s.clk := rfl
@[simp] theorem updZone_therm (z : Nat) (f : Zone → Zone) (s : State) : (updZone z f s).therm = s.therm := rfl
@[simp] theorem updZone_mgt (z : Nat) (f : Zone → Zone) (s : State) : (updZone z f s).mgt = s.mgt := rfl
@[simp] theorem updZone_test (z : Nat) (f : Zone → Zone) (s : State) : (updZone z f s).test = s.test := rfl
@[simp] theorem updZone_jtag (z : Nat) (f : Zone → Zone) (s : State) : (updZone z f s).jtag = s.jtag := rfl
@[simp] theorem updZone_bus (z : Nat) (f : Zone → Zone) (s : State) : (updZone z f s).bus = s.bus := rfl
@[simp] theorem updZone_sens (z : Nat) (f : Zone → Zone) (s : State) : (updZone z f s).sens = s.sens := rfl
@[simp] theorem updZone_stone (z : Nat) (f : Zone → Zone) (s : State) : (updZone z f s).stone = s.stone := rfl
@[simp] theorem updZone_act (z : Nat) (f : Zone → Zone) (s : State) : (updZone z f s).act = s.act := rfl
@[simp] theorem updZone_fans (z : Nat) (f : Zone → Zone) (s : State) : (updZone z f s).fans = s.fans := rfl
@[simp] theorem updZone_panel (z : Nat) (f : Zone → Zone) (s : State) : (updZone z f s).panel = s.panel := rfl
@[simp] theorem updZone_keys (z : Nat) (f : Zone → Zone) (s : State) : (updZone z f s).keys = s.keys := rfl
@[simp] theorem updZone_pending (z : Nat) (f : Zone → Zone) (s : State) : (updZone z f s).pending = s.pending := rfl
@[simp] theorem updZone_free (z : Nat) (f : Zone → Zone) (s : State) : (updZone z f s).free = s.free := rfl
@[simp] theorem updZone_rood_loops (z : Nat) (f : Zone → Zone) (s : State) : (updZone z f s).rood.loops = s.rood.loops := rfl
@[simp] theorem updZone_rood_slots (z : Nat) (f : Zone → Zone) (s : State) : (updZone z f s).rood.slots = s.rood.slots := rfl
@[simp] theorem updZone_rood_rotSlot (z : Nat) (f : Zone → Zone) (s : State) : (updZone z f s).rood.rotSlot = s.rood.rotSlot := rfl
@[simp] theorem updZone_rood_rotZone (z : Nat) (f : Zone → Zone) (s : State) : (updZone z f s).rood.rotZone = s.rood.rotZone := rfl
@[simp] theorem updZone_rood_zoneDue (z : Nat) (f : Zone → Zone) (s : State) : (updZone z f s).rood.zoneDue = s.rood.zoneDue := rfl
@[simp] theorem updZone_rood_ffDue (z : Nat) (f : Zone → Zone) (s : State) : (updZone z f s).rood.ffDue = s.rood.ffDue := rfl
@[simp] theorem updZone_rood_passMc (z : Nat) (f : Zone → Zone) (s : State) : (updZone z f s).rood.passMc = s.rood.passMc := rfl
@[simp] theorem updZone_rood_delaysReset (z : Nat) (f : Zone → Zone) (s : State) : (updZone z f s).rood.delaysReset = s.rood.delaysReset := rfl
@[simp] theorem updZone_freeNat (z : Nat) (f : Zone → Zone) (s : State) : (updZone z f s).freeNat = s.freeNat := rfl
@[simp] theorem updZone_at_cw (z : Nat) (f : Zone → Zone) (s : State) : (updZone z f s).cw = s.cw := rfl
@[simp] theorem updZone_at_cf (z : Nat) (f : Zone → Zone) (s : State) : (updZone z f s).cf = s.cf := rfl
@[simp] theorem updZone_at_cb (z : Nat) (f : Zone → Zone) (s : State) : (updZone z f s).cb = s.cb := rfl
@[simp] theorem updZone_at_mcSince (z : Nat) (f : Zone → Zone) (s : State) : (updZone z f s).mcSince = s.mcSince := rfl
@[simp] theorem updZone_at_secMc (z : Nat) (f : Zone → Zone) (s : State) : (updZone z f s).secMc = s.secMc := rfl
@[simp] theorem updZone_at_released (z : Nat) (f : Zone → Zone) (s : State) : (updZone z f s).released = s.released := rfl
@[simp] theorem updZone_at_alive (z : Nat) (f : Zone → Zone) (s : State) : (updZone z f s).alive = s.alive := rfl
@[simp] theorem updZone_at_appUp (z : Nat) (f : Zone → Zone) (s : State) : (updZone z f s).appUp = s.appUp := rfl
@[simp] theorem updZone_at_safe (z : Nat) (f : Zone → Zone) (s : State) : (updZone z f s).safe = s.safe := rfl

theorem updZone_zone_self (z : Nat) (f : Zone → Zone) (s : State) (h : z < s.rood.zones.length) : (updZone z f s).zone z = f (s.zone z) :=
  nth_upd_self _ _ _ h

theorem updZone_zone_ne (z : Nat) (f : Zone → Zone) (s : State) (j : Nat) (h : j ≠ z) : (updZone z f s).zone j = s.zone j :=
  nth_upd_ne _ _ _ _ h

/-! ## updSlot -/

@[simp] theorem updSlot_chain (k : Nat) (f : SolSlot → SolSlot) (s : State) : (updSlot k f s).chain = s.chain := rfl
@[simp] theorem updSlot_acre (k : Nat) (f : SolSlot → SolSlot) (s : State) : (updSlot k f s).acre = s.acre := rfl
@[simp] theorem updSlot_host (k : Nat) (f : SolSlot → SolSlot) (s : State) : (updSlot k f s).host = s.host := rfl
@[simp] theorem updSlot_mbox (k : Nat) (f : SolSlot → SolSlot) (s : State) : (updSlot k f s).mbox = s.mbox := rfl
@[simp] theorem updSlot_evt (k : Nat) (f : SolSlot → SolSlot) (s : State) : (updSlot k f s).evt = s.evt := rfl
@[simp] theorem updSlot_cfg (k : Nat) (f : SolSlot → SolSlot) (s : State) : (updSlot k f s).cfg = s.cfg := rfl
@[simp] theorem updSlot_gpio (k : Nat) (f : SolSlot → SolSlot) (s : State) : (updSlot k f s).gpio = s.gpio := rfl
@[simp] theorem updSlot_bushel (k : Nat) (f : SolSlot → SolSlot) (s : State) : (updSlot k f s).bushel = s.bushel := rfl
@[simp] theorem updSlot_nvm (k : Nat) (f : SolSlot → SolSlot) (s : State) : (updSlot k f s).nvm = s.nvm := rfl
@[simp] theorem updSlot_sup (k : Nat) (f : SolSlot → SolSlot) (s : State) : (updSlot k f s).sup = s.sup := rfl
@[simp] theorem updSlot_backup (k : Nat) (f : SolSlot → SolSlot) (s : State) : (updSlot k f s).backup = s.backup := rfl
@[simp] theorem updSlot_clk (k : Nat) (f : SolSlot → SolSlot) (s : State) : (updSlot k f s).clk = s.clk := rfl
@[simp] theorem updSlot_therm (k : Nat) (f : SolSlot → SolSlot) (s : State) : (updSlot k f s).therm = s.therm := rfl
@[simp] theorem updSlot_mgt (k : Nat) (f : SolSlot → SolSlot) (s : State) : (updSlot k f s).mgt = s.mgt := rfl
@[simp] theorem updSlot_test (k : Nat) (f : SolSlot → SolSlot) (s : State) : (updSlot k f s).test = s.test := rfl
@[simp] theorem updSlot_jtag (k : Nat) (f : SolSlot → SolSlot) (s : State) : (updSlot k f s).jtag = s.jtag := rfl
@[simp] theorem updSlot_bus (k : Nat) (f : SolSlot → SolSlot) (s : State) : (updSlot k f s).bus = s.bus := rfl
@[simp] theorem updSlot_sens (k : Nat) (f : SolSlot → SolSlot) (s : State) : (updSlot k f s).sens = s.sens := rfl
@[simp] theorem updSlot_stone (k : Nat) (f : SolSlot → SolSlot) (s : State) : (updSlot k f s).stone = s.stone := rfl
@[simp] theorem updSlot_act (k : Nat) (f : SolSlot → SolSlot) (s : State) : (updSlot k f s).act = s.act := rfl
@[simp] theorem updSlot_fans (k : Nat) (f : SolSlot → SolSlot) (s : State) : (updSlot k f s).fans = s.fans := rfl
@[simp] theorem updSlot_panel (k : Nat) (f : SolSlot → SolSlot) (s : State) : (updSlot k f s).panel = s.panel := rfl
@[simp] theorem updSlot_keys (k : Nat) (f : SolSlot → SolSlot) (s : State) : (updSlot k f s).keys = s.keys := rfl
@[simp] theorem updSlot_pending (k : Nat) (f : SolSlot → SolSlot) (s : State) : (updSlot k f s).pending = s.pending := rfl
@[simp] theorem updSlot_free (k : Nat) (f : SolSlot → SolSlot) (s : State) : (updSlot k f s).free = s.free := rfl
@[simp] theorem updSlot_rood_loops (k : Nat) (f : SolSlot → SolSlot) (s : State) : (updSlot k f s).rood.loops = s.rood.loops := rfl
@[simp] theorem updSlot_rood_zones (k : Nat) (f : SolSlot → SolSlot) (s : State) : (updSlot k f s).rood.zones = s.rood.zones := rfl
@[simp] theorem updSlot_rood_rotSlot (k : Nat) (f : SolSlot → SolSlot) (s : State) : (updSlot k f s).rood.rotSlot = s.rood.rotSlot := rfl
@[simp] theorem updSlot_rood_rotZone (k : Nat) (f : SolSlot → SolSlot) (s : State) : (updSlot k f s).rood.rotZone = s.rood.rotZone := rfl
@[simp] theorem updSlot_rood_zoneDue (k : Nat) (f : SolSlot → SolSlot) (s : State) : (updSlot k f s).rood.zoneDue = s.rood.zoneDue := rfl
@[simp] theorem updSlot_rood_ffDue (k : Nat) (f : SolSlot → SolSlot) (s : State) : (updSlot k f s).rood.ffDue = s.rood.ffDue := rfl
@[simp] theorem updSlot_rood_passMc (k : Nat) (f : SolSlot → SolSlot) (s : State) : (updSlot k f s).rood.passMc = s.rood.passMc := rfl
@[simp] theorem updSlot_rood_delaysReset (k : Nat) (f : SolSlot → SolSlot) (s : State) : (updSlot k f s).rood.delaysReset = s.rood.delaysReset := rfl
@[simp] theorem updSlot_freeNat (k : Nat) (f : SolSlot → SolSlot) (s : State) : (updSlot k f s).freeNat = s.freeNat := rfl
@[simp] theorem updSlot_at_cw (k : Nat) (f : SolSlot → SolSlot) (s : State) : (updSlot k f s).cw = s.cw := rfl
@[simp] theorem updSlot_at_cf (k : Nat) (f : SolSlot → SolSlot) (s : State) : (updSlot k f s).cf = s.cf := rfl
@[simp] theorem updSlot_at_cb (k : Nat) (f : SolSlot → SolSlot) (s : State) : (updSlot k f s).cb = s.cb := rfl
@[simp] theorem updSlot_at_mcSince (k : Nat) (f : SolSlot → SolSlot) (s : State) : (updSlot k f s).mcSince = s.mcSince := rfl
@[simp] theorem updSlot_at_secMc (k : Nat) (f : SolSlot → SolSlot) (s : State) : (updSlot k f s).secMc = s.secMc := rfl
@[simp] theorem updSlot_at_released (k : Nat) (f : SolSlot → SolSlot) (s : State) : (updSlot k f s).released = s.released := rfl
@[simp] theorem updSlot_at_alive (k : Nat) (f : SolSlot → SolSlot) (s : State) : (updSlot k f s).alive = s.alive := rfl
@[simp] theorem updSlot_at_appUp (k : Nat) (f : SolSlot → SolSlot) (s : State) : (updSlot k f s).appUp = s.appUp := rfl
@[simp] theorem updSlot_at_safe (k : Nat) (f : SolSlot → SolSlot) (s : State) : (updSlot k f s).safe = s.safe := rfl

theorem updSlot_slot_self (k : Nat) (f : SolSlot → SolSlot) (s : State) (h : k < s.rood.slots.length) : (updSlot k f s).slot k = f (s.slot k) :=
  nth_upd_self _ _ _ h

theorem updSlot_slot_ne (k : Nat) (f : SolSlot → SolSlot) (s : State) (j : Nat) (h : j ≠ k) : (updSlot k f s).slot j = s.slot j :=
  nth_upd_ne _ _ _ _ h

/-! ## updPort -/

@[simp] theorem updPort_chain (p : Nat) (f : Port → Port) (s : State) : (updPort p f s).chain = s.chain := rfl
@[simp] theorem updPort_acre (p : Nat) (f : Port → Port) (s : State) : (updPort p f s).acre = s.acre := rfl
@[simp] theorem updPort_host (p : Nat) (f : Port → Port) (s : State) : (updPort p f s).host = s.host := rfl
@[simp] theorem updPort_mbox (p : Nat) (f : Port → Port) (s : State) : (updPort p f s).mbox = s.mbox := rfl
@[simp] theorem updPort_evt (p : Nat) (f : Port → Port) (s : State) : (updPort p f s).evt = s.evt := rfl
@[simp] theorem updPort_cfg (p : Nat) (f : Port → Port) (s : State) : (updPort p f s).cfg = s.cfg := rfl
@[simp] theorem updPort_gpio (p : Nat) (f : Port → Port) (s : State) : (updPort p f s).gpio = s.gpio := rfl
@[simp] theorem updPort_bushel (p : Nat) (f : Port → Port) (s : State) : (updPort p f s).bushel = s.bushel := rfl
@[simp] theorem updPort_nvm (p : Nat) (f : Port → Port) (s : State) : (updPort p f s).nvm = s.nvm := rfl
@[simp] theorem updPort_sup (p : Nat) (f : Port → Port) (s : State) : (updPort p f s).sup = s.sup := rfl
@[simp] theorem updPort_backup (p : Nat) (f : Port → Port) (s : State) : (updPort p f s).backup = s.backup := rfl
@[simp] theorem updPort_clk (p : Nat) (f : Port → Port) (s : State) : (updPort p f s).clk = s.clk := rfl
@[simp] theorem updPort_therm (p : Nat) (f : Port → Port) (s : State) : (updPort p f s).therm = s.therm := rfl
@[simp] theorem updPort_mgt (p : Nat) (f : Port → Port) (s : State) : (updPort p f s).mgt = s.mgt := rfl
@[simp] theorem updPort_test (p : Nat) (f : Port → Port) (s : State) : (updPort p f s).test = s.test := rfl
@[simp] theorem updPort_jtag (p : Nat) (f : Port → Port) (s : State) : (updPort p f s).jtag = s.jtag := rfl
@[simp] theorem updPort_sens (p : Nat) (f : Port → Port) (s : State) : (updPort p f s).sens = s.sens := rfl
@[simp] theorem updPort_stone (p : Nat) (f : Port → Port) (s : State) : (updPort p f s).stone = s.stone := rfl
@[simp] theorem updPort_rood (p : Nat) (f : Port → Port) (s : State) : (updPort p f s).rood = s.rood := rfl
@[simp] theorem updPort_act (p : Nat) (f : Port → Port) (s : State) : (updPort p f s).act = s.act := rfl
@[simp] theorem updPort_fans (p : Nat) (f : Port → Port) (s : State) : (updPort p f s).fans = s.fans := rfl
@[simp] theorem updPort_panel (p : Nat) (f : Port → Port) (s : State) : (updPort p f s).panel = s.panel := rfl
@[simp] theorem updPort_keys (p : Nat) (f : Port → Port) (s : State) : (updPort p f s).keys = s.keys := rfl
@[simp] theorem updPort_pending (p : Nat) (f : Port → Port) (s : State) : (updPort p f s).pending = s.pending := rfl
@[simp] theorem updPort_free (p : Nat) (f : Port → Port) (s : State) : (updPort p f s).free = s.free := rfl
@[simp] theorem updPort_bus_dcc (p : Nat) (f : Port → Port) (s : State) : (updPort p f s).bus.dcc = s.bus.dcc := rfl
@[simp] theorem updPort_bus_fdReg (p : Nat) (f : Port → Port) (s : State) : (updPort p f s).bus.fdReg = s.bus.fdReg := rfl
@[simp] theorem updPort_bus_fdRemain (p : Nat) (f : Port → Port) (s : State) : (updPort p f s).bus.fdRemain = s.bus.fdRemain := rfl
@[simp] theorem updPort_bus_fdPending (p : Nat) (f : Port → Port) (s : State) : (updPort p f s).bus.fdPending = s.bus.fdPending := rfl
@[simp] theorem updPort_bus_fdSent (p : Nat) (f : Port → Port) (s : State) : (updPort p f s).bus.fdSent = s.bus.fdSent := rfl
@[simp] theorem updPort_bus_subs (p : Nat) (f : Port → Port) (s : State) : (updPort p f s).bus.subs = s.bus.subs := rfl
@[simp] theorem updPort_bus_outstanding (p : Nat) (f : Port → Port) (s : State) : (updPort p f s).bus.outstanding = s.bus.outstanding := rfl
@[simp] theorem updPort_bus_alarms (p : Nat) (f : Port → Port) (s : State) : (updPort p f s).bus.alarms = s.bus.alarms := rfl
@[simp] theorem updPort_bus_trends (p : Nat) (f : Port → Port) (s : State) : (updPort p f s).bus.trends = s.bus.trends := rfl
@[simp] theorem updPort_bus_file (p : Nat) (f : Port → Port) (s : State) : (updPort p f s).bus.file = s.bus.file := rfl
@[simp] theorem updPort_bus_cfgFile (p : Nat) (f : Port → Port) (s : State) : (updPort p f s).bus.cfgFile = s.bus.cfgFile := rfl
@[simp] theorem updPort_bus_aiLast (p : Nat) (f : Port → Port) (s : State) : (updPort p f s).bus.aiLast = s.bus.aiLast := rfl
@[simp] theorem updPort_bus_sent (p : Nat) (f : Port → Port) (s : State) : (updPort p f s).bus.sent = s.bus.sent := rfl
@[simp] theorem updPort_bus_waiting (p : Nat) (f : Port → Port) (s : State) : (updPort p f s).bus.waiting = s.bus.waiting := rfl
@[simp] theorem updPort_bus_result (p : Nat) (f : Port → Port) (s : State) : (updPort p f s).bus.result = s.bus.result := rfl
@[simp] theorem updPort_bus_held (p : Nat) (f : Port → Port) (s : State) : (updPort p f s).bus.held = s.bus.held := rfl
@[simp] theorem updPort_bus_lastReply (p : Nat) (f : Port → Port) (s : State) : (updPort p f s).bus.lastReply = s.bus.lastReply := rfl
@[simp] theorem updPort_freeNat (p : Nat) (f : Port → Port) (s : State) : (updPort p f s).freeNat = s.freeNat := rfl
@[simp] theorem updPort_at_cw (p : Nat) (f : Port → Port) (s : State) : (updPort p f s).cw = s.cw := rfl
@[simp] theorem updPort_at_cf (p : Nat) (f : Port → Port) (s : State) : (updPort p f s).cf = s.cf := rfl
@[simp] theorem updPort_at_cb (p : Nat) (f : Port → Port) (s : State) : (updPort p f s).cb = s.cb := rfl
@[simp] theorem updPort_at_mcSince (p : Nat) (f : Port → Port) (s : State) : (updPort p f s).mcSince = s.mcSince := rfl
@[simp] theorem updPort_at_secMc (p : Nat) (f : Port → Port) (s : State) : (updPort p f s).secMc = s.secMc := rfl
@[simp] theorem updPort_at_released (p : Nat) (f : Port → Port) (s : State) : (updPort p f s).released = s.released := rfl
@[simp] theorem updPort_at_alive (p : Nat) (f : Port → Port) (s : State) : (updPort p f s).alive = s.alive := rfl
@[simp] theorem updPort_at_appUp (p : Nat) (f : Port → Port) (s : State) : (updPort p f s).appUp = s.appUp := rfl
@[simp] theorem updPort_at_safe (p : Nat) (f : Port → Port) (s : State) : (updPort p f s).safe = s.safe := rfl

theorem updPort_port_self (p : Nat) (f : Port → Port) (s : State) (h : p < s.bus.ports.length) : (updPort p f s).port p = f (s.port p) :=
  nth_upd_self _ _ _ h

theorem updPort_port_ne (p : Nat) (f : Port → Port) (s : State) (j : Nat) (h : j ≠ p) : (updPort p f s).port j = s.port j :=
  nth_upd_ne _ _ _ _ h

/-! ## updRun -/

@[simp] theorem updRun_chain (f : CalRun → CalRun) (s : State) : (updRun f s).chain = s.chain := rfl
@[simp] theorem updRun_acre (f : CalRun → CalRun) (s : State) : (updRun f s).acre = s.acre := rfl
@[simp] theorem updRun_host (f : CalRun → CalRun) (s : State) : (updRun f s).host = s.host := rfl
@[simp] theorem updRun_mbox (f : CalRun → CalRun) (s : State) : (updRun f s).mbox = s.mbox := rfl
@[simp] theorem updRun_evt (f : CalRun → CalRun) (s : State) : (updRun f s).evt = s.evt := rfl
@[simp] theorem updRun_cfg (f : CalRun → CalRun) (s : State) : (updRun f s).cfg = s.cfg := rfl
@[simp] theorem updRun_gpio (f : CalRun → CalRun) (s : State) : (updRun f s).gpio = s.gpio := rfl
@[simp] theorem updRun_bushel (f : CalRun → CalRun) (s : State) : (updRun f s).bushel = s.bushel := rfl
@[simp] theorem updRun_nvm (f : CalRun → CalRun) (s : State) : (updRun f s).nvm = s.nvm := rfl
@[simp] theorem updRun_sup (f : CalRun → CalRun) (s : State) : (updRun f s).sup = s.sup := rfl
@[simp] theorem updRun_backup (f : CalRun → CalRun) (s : State) : (updRun f s).backup = s.backup := rfl
@[simp] theorem updRun_clk (f : CalRun → CalRun) (s : State) : (updRun f s).clk = s.clk := rfl
@[simp] theorem updRun_therm (f : CalRun → CalRun) (s : State) : (updRun f s).therm = s.therm := rfl
@[simp] theorem updRun_mgt (f : CalRun → CalRun) (s : State) : (updRun f s).mgt = s.mgt := rfl
@[simp] theorem updRun_test (f : CalRun → CalRun) (s : State) : (updRun f s).test = s.test := rfl
@[simp] theorem updRun_jtag (f : CalRun → CalRun) (s : State) : (updRun f s).jtag = s.jtag := rfl
@[simp] theorem updRun_bus (f : CalRun → CalRun) (s : State) : (updRun f s).bus = s.bus := rfl
@[simp] theorem updRun_sens (f : CalRun → CalRun) (s : State) : (updRun f s).sens = s.sens := rfl
@[simp] theorem updRun_rood (f : CalRun → CalRun) (s : State) : (updRun f s).rood = s.rood := rfl
@[simp] theorem updRun_act (f : CalRun → CalRun) (s : State) : (updRun f s).act = s.act := rfl
@[simp] theorem updRun_fans (f : CalRun → CalRun) (s : State) : (updRun f s).fans = s.fans := rfl
@[simp] theorem updRun_panel (f : CalRun → CalRun) (s : State) : (updRun f s).panel = s.panel := rfl
@[simp] theorem updRun_keys (f : CalRun → CalRun) (s : State) : (updRun f s).keys = s.keys := rfl
@[simp] theorem updRun_pending (f : CalRun → CalRun) (s : State) : (updRun f s).pending = s.pending := rfl
@[simp] theorem updRun_free (f : CalRun → CalRun) (s : State) : (updRun f s).free = s.free := rfl
@[simp] theorem updRun_stone_sets (f : CalRun → CalRun) (s : State) : (updRun f s).stone.sets = s.stone.sets := rfl
@[simp] theorem updRun_stone_hostSet (f : CalRun → CalRun) (s : State) : (updRun f s).stone.hostSet = s.stone.hostSet := rfl
@[simp] theorem updRun_stone_slotSeq (f : CalRun → CalRun) (s : State) : (updRun f s).stone.slotSeq = s.stone.slotSeq := rfl
@[simp] theorem updRun_stone_activeSlot (f : CalRun → CalRun) (s : State) : (updRun f s).stone.activeSlot = s.stone.activeSlot := rfl
@[simp] theorem updRun_stone_slotFallback (f : CalRun → CalRun) (s : State) : (updRun f s).stone.slotFallback = s.stone.slotFallback := rfl
@[simp] theorem updRun_stone_lastSet (f : CalRun → CalRun) (s : State) : (updRun f s).stone.lastSet = s.stone.lastSet := rfl
@[simp] theorem updRun_stone_lastResult (f : CalRun → CalRun) (s : State) : (updRun f s).stone.lastResult = s.stone.lastResult := rfl
@[simp] theorem updRun_stone_failItem (f : CalRun → CalRun) (s : State) : (updRun f s).stone.failItem = s.stone.failItem := rfl
@[simp] theorem updRun_stone_lastStatus (f : CalRun → CalRun) (s : State) : (updRun f s).stone.lastStatus = s.stone.lastStatus := rfl
@[simp] theorem updRun_stone_refAlarm (f : CalRun → CalRun) (s : State) : (updRun f s).stone.refAlarm = s.stone.refAlarm := rfl
@[simp] theorem updRun_stone_refBad (f : CalRun → CalRun) (s : State) : (updRun f s).stone.refBad = s.stone.refBad := rfl
@[simp] theorem updRun_stone_refOk (f : CalRun → CalRun) (s : State) : (updRun f s).stone.refOk = s.stone.refOk := rfl
@[simp] theorem updRun_stone_commit (f : CalRun → CalRun) (s : State) : (updRun f s).stone.commit = s.stone.commit := rfl
@[simp] theorem updRun_stone_commitSet (f : CalRun → CalRun) (s : State) : (updRun f s).stone.commitSet = s.stone.commitSet := rfl
@[simp] theorem updRun_stone_agerr (f : CalRun → CalRun) (s : State) : (updRun f s).stone.agerr = s.stone.agerr := rfl
@[simp] theorem updRun_freeNat (f : CalRun → CalRun) (s : State) : (updRun f s).freeNat = s.freeNat := rfl
@[simp] theorem updRun_at_cw (f : CalRun → CalRun) (s : State) : (updRun f s).cw = s.cw := rfl
@[simp] theorem updRun_at_cf (f : CalRun → CalRun) (s : State) : (updRun f s).cf = s.cf := rfl
@[simp] theorem updRun_at_cb (f : CalRun → CalRun) (s : State) : (updRun f s).cb = s.cb := rfl
@[simp] theorem updRun_at_mcSince (f : CalRun → CalRun) (s : State) : (updRun f s).mcSince = s.mcSince := rfl
@[simp] theorem updRun_at_secMc (f : CalRun → CalRun) (s : State) : (updRun f s).secMc = s.secMc := rfl
@[simp] theorem updRun_at_released (f : CalRun → CalRun) (s : State) : (updRun f s).released = s.released := rfl
@[simp] theorem updRun_at_alive (f : CalRun → CalRun) (s : State) : (updRun f s).alive = s.alive := rfl
@[simp] theorem updRun_at_appUp (f : CalRun → CalRun) (s : State) : (updRun f s).appUp = s.appUp := rfl
@[simp] theorem updRun_at_safe (f : CalRun → CalRun) (s : State) : (updRun f s).safe = s.safe := rfl

/-! ## setRegion -/

@[simp] theorem setRegion_chain (n : Nat) (r : Option Region) (s : State) : (setRegion n r s).chain = s.chain := rfl
@[simp] theorem setRegion_acre (n : Nat) (r : Option Region) (s : State) : (setRegion n r s).acre = s.acre := rfl
@[simp] theorem setRegion_host (n : Nat) (r : Option Region) (s : State) : (setRegion n r s).host = s.host := rfl
@[simp] theorem setRegion_mbox (n : Nat) (r : Option Region) (s : State) : (setRegion n r s).mbox = s.mbox := rfl
@[simp] theorem setRegion_evt (n : Nat) (r : Option Region) (s : State) : (setRegion n r s).evt = s.evt := rfl
@[simp] theorem setRegion_cfg (n : Nat) (r : Option Region) (s : State) : (setRegion n r s).cfg = s.cfg := rfl
@[simp] theorem setRegion_gpio (n : Nat) (r : Option Region) (s : State) : (setRegion n r s).gpio = s.gpio := rfl
@[simp] theorem setRegion_bushel (n : Nat) (r : Option Region) (s : State) : (setRegion n r s).bushel = s.bushel := rfl
@[simp] theorem setRegion_nvm (n : Nat) (r : Option Region) (s : State) : (setRegion n r s).nvm = s.nvm := rfl
@[simp] theorem setRegion_sup (n : Nat) (r : Option Region) (s : State) : (setRegion n r s).sup = s.sup := rfl
@[simp] theorem setRegion_backup (n : Nat) (r : Option Region) (s : State) : (setRegion n r s).backup = s.backup := rfl
@[simp] theorem setRegion_clk (n : Nat) (r : Option Region) (s : State) : (setRegion n r s).clk = s.clk := rfl
@[simp] theorem setRegion_therm (n : Nat) (r : Option Region) (s : State) : (setRegion n r s).therm = s.therm := rfl
@[simp] theorem setRegion_mgt (n : Nat) (r : Option Region) (s : State) : (setRegion n r s).mgt = s.mgt := rfl
@[simp] theorem setRegion_test (n : Nat) (r : Option Region) (s : State) : (setRegion n r s).test = s.test := rfl
@[simp] theorem setRegion_jtag (n : Nat) (r : Option Region) (s : State) : (setRegion n r s).jtag = s.jtag := rfl
@[simp] theorem setRegion_bus (n : Nat) (r : Option Region) (s : State) : (setRegion n r s).bus = s.bus := rfl
@[simp] theorem setRegion_sens (n : Nat) (r : Option Region) (s : State) : (setRegion n r s).sens = s.sens := rfl
@[simp] theorem setRegion_stone (n : Nat) (r : Option Region) (s : State) : (setRegion n r s).stone = s.stone := rfl
@[simp] theorem setRegion_rood (n : Nat) (r : Option Region) (s : State) : (setRegion n r s).rood = s.rood := rfl
@[simp] theorem setRegion_act (n : Nat) (r : Option Region) (s : State) : (setRegion n r s).act = s.act := rfl
@[simp] theorem setRegion_fans (n : Nat) (r : Option Region) (s : State) : (setRegion n r s).fans = s.fans := rfl
@[simp] theorem setRegion_keys (n : Nat) (r : Option Region) (s : State) : (setRegion n r s).keys = s.keys := rfl
@[simp] theorem setRegion_pending (n : Nat) (r : Option Region) (s : State) : (setRegion n r s).pending = s.pending := rfl
@[simp] theorem setRegion_free (n : Nat) (r : Option Region) (s : State) : (setRegion n r s).free = s.free := rfl
@[simp] theorem setRegion_panel_frame (n : Nat) (r : Option Region) (s : State) : (setRegion n r s).panel.frame = s.panel.frame := rfl
@[simp] theorem setRegion_panel_wf (n : Nat) (r : Option Region) (s : State) : (setRegion n r s).panel.wf = s.panel.wf := rfl
@[simp] theorem setRegion_panel_wfPend (n : Nat) (r : Option Region) (s : State) : (setRegion n r s).panel.wfPend = s.panel.wfPend := rfl
@[simp] theorem setRegion_panel_wfSlot (n : Nat) (r : Option Region) (s : State) : (setRegion n r s).panel.wfSlot = s.panel.wfSlot := rfl
@[simp] theorem setRegion_panel_wfPendSlot (n : Nat) (r : Option Region) (s : State) : (setRegion n r s).panel.wfPendSlot = s.panel.wfPendSlot := rfl
@[simp] theorem setRegion_panel_wfVer (n : Nat) (r : Option Region) (s : State) : (setRegion n r s).panel.wfVer = s.panel.wfVer := rfl
@[simp] theorem setRegion_panel_wfPendVer (n : Nat) (r : Option Region) (s : State) : (setRegion n r s).panel.wfPendVer = s.panel.wfPendVer := rfl
@[simp] theorem setRegion_panel_wfBad (n : Nat) (r : Option Region) (s : State) : (setRegion n r s).panel.wfBad = s.panel.wfBad := rfl
@[simp] theorem setRegion_panel_fetchBad (n : Nat) (r : Option Region) (s : State) : (setRegion n r s).panel.fetchBad = s.panel.fetchBad := rfl
@[simp] theorem setRegion_panel_bandRun (n : Nat) (r : Option Region) (s : State) : (setRegion n r s).panel.bandRun = s.panel.bandRun := rfl
@[simp] theorem setRegion_panel_bandMeas (n : Nat) (r : Option Region) (s : State) : (setRegion n r s).panel.bandMeas = s.panel.bandMeas := rfl
@[simp] theorem setRegion_panel_bandPend (n : Nat) (r : Option Region) (s : State) : (setRegion n r s).panel.bandPend = s.panel.bandPend := rfl
@[simp] theorem setRegion_panel_tempInvalid (n : Nat) (r : Option Region) (s : State) : (setRegion n r s).panel.tempInvalid = s.panel.tempInvalid := rfl
@[simp] theorem setRegion_panel_tempSeen (n : Nat) (r : Option Region) (s : State) : (setRegion n r s).panel.tempSeen = s.panel.tempSeen := rfl
@[simp] theorem setRegion_panel_rails (n : Nat) (r : Option Region) (s : State) : (setRegion n r s).panel.rails = s.panel.rails := rfl
@[simp] theorem setRegion_panel_railMv (n : Nat) (r : Option Region) (s : State) : (setRegion n r s).panel.railMv = s.panel.railMv := rfl
@[simp] theorem setRegion_panel_fault (n : Nat) (r : Option Region) (s : State) : (setRegion n r s).panel.fault = s.panel.fault := rfl
@[simp] theorem setRegion_panel_cause (n : Nat) (r : Option Region) (s : State) : (setRegion n r s).panel.cause = s.panel.cause := rfl
@[simp] theorem setRegion_panel_cleared (n : Nat) (r : Option Region) (s : State) : (setRegion n r s).panel.cleared = s.panel.cleared := rfl
@[simp] theorem setRegion_panel_clearing (n : Nat) (r : Option Region) (s : State) : (setRegion n r s).panel.clearing = s.panel.clearing := rfl
@[simp] theorem setRegion_panel_queue (n : Nat) (r : Option Region) (s : State) : (setRegion n r s).panel.queue = s.panel.queue := rfl
@[simp] theorem setRegion_panel_rest (n : Nat) (r : Option Region) (s : State) : (setRegion n r s).panel.rest = s.panel.rest := rfl
@[simp] theorem setRegion_panel_driving (n : Nat) (r : Option Region) (s : State) : (setRegion n r s).panel.driving = s.panel.driving := rfl
@[simp] theorem setRegion_panel_crackFails (n : Nat) (r : Option Region) (s : State) : (setRegion n r s).panel.crackFails = s.panel.crackFails := rfl
@[simp] theorem setRegion_freeNat (n : Nat) (r : Option Region) (s : State) : (setRegion n r s).freeNat = s.freeNat := rfl
@[simp] theorem setRegion_at_cw (n : Nat) (r : Option Region) (s : State) : (setRegion n r s).cw = s.cw := rfl
@[simp] theorem setRegion_at_cf (n : Nat) (r : Option Region) (s : State) : (setRegion n r s).cf = s.cf := rfl
@[simp] theorem setRegion_at_cb (n : Nat) (r : Option Region) (s : State) : (setRegion n r s).cb = s.cb := rfl
@[simp] theorem setRegion_at_mcSince (n : Nat) (r : Option Region) (s : State) : (setRegion n r s).mcSince = s.mcSince := rfl
@[simp] theorem setRegion_at_secMc (n : Nat) (r : Option Region) (s : State) : (setRegion n r s).secMc = s.secMc := rfl
@[simp] theorem setRegion_at_released (n : Nat) (r : Option Region) (s : State) : (setRegion n r s).released = s.released := rfl
@[simp] theorem setRegion_at_alive (n : Nat) (r : Option Region) (s : State) : (setRegion n r s).alive = s.alive := rfl
@[simp] theorem setRegion_at_appUp (n : Nat) (r : Option Region) (s : State) : (setRegion n r s).appUp = s.appUp := rfl
@[simp] theorem setRegion_at_safe (n : Nat) (r : Option Region) (s : State) : (setRegion n r s).safe = s.safe := rfl

/-! ## setIr -/

@[simp] theorem setIr_chain (op : BitVec 5) (r : JtagReg) (s : State) : (setIr op r s).chain = s.chain := rfl
@[simp] theorem setIr_acre (op : BitVec 5) (r : JtagReg) (s : State) : (setIr op r s).acre = s.acre := rfl
@[simp] theorem setIr_host (op : BitVec 5) (r : JtagReg) (s : State) : (setIr op r s).host = s.host := rfl
@[simp] theorem setIr_mbox (op : BitVec 5) (r : JtagReg) (s : State) : (setIr op r s).mbox = s.mbox := rfl
@[simp] theorem setIr_evt (op : BitVec 5) (r : JtagReg) (s : State) : (setIr op r s).evt = s.evt := rfl
@[simp] theorem setIr_cfg (op : BitVec 5) (r : JtagReg) (s : State) : (setIr op r s).cfg = s.cfg := rfl
@[simp] theorem setIr_gpio (op : BitVec 5) (r : JtagReg) (s : State) : (setIr op r s).gpio = s.gpio := rfl
@[simp] theorem setIr_bushel (op : BitVec 5) (r : JtagReg) (s : State) : (setIr op r s).bushel = s.bushel := rfl
@[simp] theorem setIr_nvm (op : BitVec 5) (r : JtagReg) (s : State) : (setIr op r s).nvm = s.nvm := rfl
@[simp] theorem setIr_sup (op : BitVec 5) (r : JtagReg) (s : State) : (setIr op r s).sup = s.sup := rfl
@[simp] theorem setIr_backup (op : BitVec 5) (r : JtagReg) (s : State) : (setIr op r s).backup = s.backup := rfl
@[simp] theorem setIr_clk (op : BitVec 5) (r : JtagReg) (s : State) : (setIr op r s).clk = s.clk := rfl
@[simp] theorem setIr_therm (op : BitVec 5) (r : JtagReg) (s : State) : (setIr op r s).therm = s.therm := rfl
@[simp] theorem setIr_mgt (op : BitVec 5) (r : JtagReg) (s : State) : (setIr op r s).mgt = s.mgt := rfl
@[simp] theorem setIr_test (op : BitVec 5) (r : JtagReg) (s : State) : (setIr op r s).test = s.test := rfl
@[simp] theorem setIr_bus (op : BitVec 5) (r : JtagReg) (s : State) : (setIr op r s).bus = s.bus := rfl
@[simp] theorem setIr_sens (op : BitVec 5) (r : JtagReg) (s : State) : (setIr op r s).sens = s.sens := rfl
@[simp] theorem setIr_stone (op : BitVec 5) (r : JtagReg) (s : State) : (setIr op r s).stone = s.stone := rfl
@[simp] theorem setIr_rood (op : BitVec 5) (r : JtagReg) (s : State) : (setIr op r s).rood = s.rood := rfl
@[simp] theorem setIr_act (op : BitVec 5) (r : JtagReg) (s : State) : (setIr op r s).act = s.act := rfl
@[simp] theorem setIr_fans (op : BitVec 5) (r : JtagReg) (s : State) : (setIr op r s).fans = s.fans := rfl
@[simp] theorem setIr_panel (op : BitVec 5) (r : JtagReg) (s : State) : (setIr op r s).panel = s.panel := rfl
@[simp] theorem setIr_keys (op : BitVec 5) (r : JtagReg) (s : State) : (setIr op r s).keys = s.keys := rfl
@[simp] theorem setIr_pending (op : BitVec 5) (r : JtagReg) (s : State) : (setIr op r s).pending = s.pending := rfl
@[simp] theorem setIr_free (op : BitVec 5) (r : JtagReg) (s : State) : (setIr op r s).free = s.free := rfl
@[simp] theorem setIr_freeNat (op : BitVec 5) (r : JtagReg) (s : State) : (setIr op r s).freeNat = s.freeNat := rfl
@[simp] theorem setIr_at_cw (op : BitVec 5) (r : JtagReg) (s : State) : (setIr op r s).cw = s.cw := rfl
@[simp] theorem setIr_at_cf (op : BitVec 5) (r : JtagReg) (s : State) : (setIr op r s).cf = s.cf := rfl
@[simp] theorem setIr_at_cb (op : BitVec 5) (r : JtagReg) (s : State) : (setIr op r s).cb = s.cb := rfl
@[simp] theorem setIr_at_mcSince (op : BitVec 5) (r : JtagReg) (s : State) : (setIr op r s).mcSince = s.mcSince := rfl
@[simp] theorem setIr_at_secMc (op : BitVec 5) (r : JtagReg) (s : State) : (setIr op r s).secMc = s.secMc := rfl
@[simp] theorem setIr_at_released (op : BitVec 5) (r : JtagReg) (s : State) : (setIr op r s).released = s.released := rfl
@[simp] theorem setIr_at_alive (op : BitVec 5) (r : JtagReg) (s : State) : (setIr op r s).alive = s.alive := rfl
@[simp] theorem setIr_at_appUp (op : BitVec 5) (r : JtagReg) (s : State) : (setIr op r s).appUp = s.appUp := rfl
@[simp] theorem setIr_at_safe (op : BitVec 5) (r : JtagReg) (s : State) : (setIr op r s).safe = s.safe := rfl

/-! ## draw -/

@[simp] theorem draw_chain (s : State) : (s.draw).chain = s.chain := rfl
@[simp] theorem draw_acre (s : State) : (s.draw).acre = s.acre := rfl
@[simp] theorem draw_host (s : State) : (s.draw).host = s.host := rfl
@[simp] theorem draw_mbox (s : State) : (s.draw).mbox = s.mbox := rfl
@[simp] theorem draw_evt (s : State) : (s.draw).evt = s.evt := rfl
@[simp] theorem draw_cfg (s : State) : (s.draw).cfg = s.cfg := rfl
@[simp] theorem draw_gpio (s : State) : (s.draw).gpio = s.gpio := rfl
@[simp] theorem draw_bushel (s : State) : (s.draw).bushel = s.bushel := rfl
@[simp] theorem draw_nvm (s : State) : (s.draw).nvm = s.nvm := rfl
@[simp] theorem draw_sup (s : State) : (s.draw).sup = s.sup := rfl
@[simp] theorem draw_backup (s : State) : (s.draw).backup = s.backup := rfl
@[simp] theorem draw_clk (s : State) : (s.draw).clk = s.clk := rfl
@[simp] theorem draw_therm (s : State) : (s.draw).therm = s.therm := rfl
@[simp] theorem draw_mgt (s : State) : (s.draw).mgt = s.mgt := rfl
@[simp] theorem draw_test (s : State) : (s.draw).test = s.test := rfl
@[simp] theorem draw_jtag (s : State) : (s.draw).jtag = s.jtag := rfl
@[simp] theorem draw_bus (s : State) : (s.draw).bus = s.bus := rfl
@[simp] theorem draw_sens (s : State) : (s.draw).sens = s.sens := rfl
@[simp] theorem draw_stone (s : State) : (s.draw).stone = s.stone := rfl
@[simp] theorem draw_rood (s : State) : (s.draw).rood = s.rood := rfl
@[simp] theorem draw_act (s : State) : (s.draw).act = s.act := rfl
@[simp] theorem draw_fans (s : State) : (s.draw).fans = s.fans := rfl
@[simp] theorem draw_panel (s : State) : (s.draw).panel = s.panel := rfl
@[simp] theorem draw_keys (s : State) : (s.draw).keys = s.keys := rfl
@[simp] theorem draw_pending (s : State) : (s.draw).pending = s.pending := rfl
@[simp] theorem draw_at_cw (s : State) : (s.draw).cw = s.cw := rfl
@[simp] theorem draw_at_cf (s : State) : (s.draw).cf = s.cf := rfl
@[simp] theorem draw_at_cb (s : State) : (s.draw).cb = s.cb := rfl
@[simp] theorem draw_at_mcSince (s : State) : (s.draw).mcSince = s.mcSince := rfl
@[simp] theorem draw_at_secMc (s : State) : (s.draw).secMc = s.secMc := rfl
@[simp] theorem draw_at_released (s : State) : (s.draw).released = s.released := rfl
@[simp] theorem draw_at_alive (s : State) : (s.draw).alive = s.alive := rfl
@[simp] theorem draw_at_appUp (s : State) : (s.draw).appUp = s.appUp := rfl
@[simp] theorem draw_at_safe (s : State) : (s.draw).safe = s.safe := rfl

/-- Two updates of one channel are one. -/
theorem updCh_updCh (n : Nat) (f g : ActCh → ActCh) (s : State) : updCh n g (updCh n f s) = updCh n (g ∘ f) s := by
  simp [updCh, upd, List.modify_modify_eq]

theorem updZone_updZone (z : Nat) (f g : Zone → Zone) (s : State) : updZone z g (updZone z f s) = updZone z (g ∘ f) s := by
  simp [updZone, upd, List.modify_modify_eq]

theorem updLoop_updLoop (l : Nat) (f g : Loop → Loop) (s : State) : updLoop l g (updLoop l f s) = updLoop l (g ∘ f) s := by
  simp [updLoop, upd, List.modify_modify_eq]

end Sys2Proof.Machine
end

