-- ==== Sys2Proof/Laws/Image.lean ====
section
/-! SUPPORT. Laws of the configuration image: what its words are at reset, what writing words changes, and that the default binding passes every commit check (R347, R349, R353). -/

namespace Sys2Proof.Machine

/-! ## Bytes and words -/

theorem le_length (n w : Nat) : (le n w).length = n := by
  induction n generalizing w with
  | zero => rfl
  | succ k ih => simp [le, ih]

theorem unle_le (n w : Nat) : unle (le n w) = w % 256 ^ n := by
  induction n generalizing w with
  | zero => simp [le, unle, Nat.mod_one]
  | succ k ih =>
    simp only [le, unle, ih, BitVec.toNat_ofNat]
    rw [show 256 ^ (k + 1) = 256 * 256 ^ k from by ring, Nat.mod_mul]

/-- A field that lies whole inside a byte string. -/
theorem slice_append (pre mid post : List Byte) : slice (pre ++ mid ++ post) pre.length mid.length = mid := by
  simp [slice, zeros]

/-- R8: the word read where a word was laid out. -/
theorem getW_leW (pre post : List Byte) (w : Word) : getW (pre ++ leW w ++ post) pre.length = w.toNat := by
  have h : (leW w).length = 4 := le_length 4 _
  rw [getW, getLe]
  conv_lhs => rw [← h]
  rw [slice_append, leW, unle_le]
  exact Nat.mod_eq_of_lt w.isLt

/-- R8: words read back from their bytes. -/
theorem getWords_wordsBytes (ws : List Word) (pre post : List Byte) :
    getWords (pre ++ wordsBytes ws ++ post) pre.length ws.length = ws := by
  induction ws generalizing pre with
  | nil => rfl
  | cons w t ih =>
    have e : pre ++ wordsBytes (w :: t) ++ post = pre ++ leW w ++ (wordsBytes t ++ post) := by
      simp [wordsBytes]
    rw [List.length_cons, getWords, e, getW_leW]
    have l : pre.length + 4 = (pre ++ leW w).length := by simp [leW, le_length]
    rw [l, ← List.append_assoc, ih]
    simp [w32]

/-! ## Words of an image -/

theorem reset_sec (sec : Sec) : Image.reset.sec sec = secReset sec := by
  cases sec <;> simp [Image.sec, Image.reset, nth, Sec.all, Sec.index]

theorem secReset_length (sec : Sec) : (secReset sec).length = sec.instances * sec.words := by simp [secReset]

/-- R353: a word of the default binding is its field map's reset value. -/
theorem reset_word (sec : Sec) (i w : Nat) (hi : i < sec.instances) (hw : w < sec.words) :
    Image.reset.word sec i w = w32 (wdef sec i w).reset := by
  have hp : 0 < sec.words := by omega
  have hk : i * sec.words + w < sec.instances * sec.words := by
    calc i * sec.words + w < i * sec.words + sec.words := by omega
      _ = (i + 1) * sec.words := by ring
      _ ≤ sec.instances * sec.words := Nat.mul_le_mul_right _ hi
  have hd : (i * sec.words + w) / sec.words = i := by
    rw [Nat.mul_comm, Nat.mul_add_div hp, Nat.div_eq_of_lt hw, Nat.add_zero]
  have hm : (i * sec.words + w) % sec.words = w := by
    rw [Nat.mul_comm, Nat.mul_add_mod, Nat.mod_eq_of_lt hw]
  rw [Image.word, reset_sec, secReset]
  simp [List.getD_eq_getElem?_getD, hk, hd, hm]

theorem reset_inst (sec : Sec) (i : Nat) (hi : i < sec.instances) :
    Image.reset.inst sec i = (List.range sec.words).map (fun w => w32 (wdef sec i w).reset) := by
  have hb : i * sec.words + sec.words ≤ sec.instances * sec.words := by
    have := Nat.mul_le_mul_right sec.words hi
    rw [Nat.succ_mul] at this
    exact this
  apply List.ext_getElem
  · simp [Image.inst, reset_sec, secReset_length]
    omega
  · intro k h1 h2
    have hk : k < sec.words := by simpa using h2
    have := reset_word sec i k hi hk
    rw [Image.word, reset_sec] at this
    have hl : i * sec.words + k < (secReset sec).length := by rw [secReset_length]; omega
    rw [List.getD_eq_getElem _ _ hl] at this
    simp [Image.inst, reset_sec, this]

/-- Writing back the words that are there changes nothing. -/
theorem setWords_self (img : Image) (sec : Sec) (a k : Nat) :
    img.setWords sec a (((img.sec sec).drop a).take k) = img := by
  have e : ∀ ws : List Word, ws.take a ++ (ws.drop a).take k ++ ws.drop (a + ((ws.drop a).take k).length) = ws := by
    intro ws
    have : (ws.drop a).drop ((ws.drop a).take k).length = (ws.drop a).drop k := by
      rw [List.length_take]
      rcases Nat.le_total k (ws.drop a).length with h | h
      · rw [Nat.min_eq_left h]
      · rw [Nat.min_eq_right h, List.drop_eq_nil_of_le (Nat.le_refl _), List.drop_eq_nil_of_le h]
    rw [← List.drop_drop, this, List.append_assoc, List.take_append_drop, List.take_append_drop]
  unfold Image.setWords upd
  apply List.ext_getElem?
  intro j
  rw [List.getElem?_modify]
  split
  · subst_vars
    simp only [Image.sec, nth]
    cases h : img[sec.index]? with
    | none => simp
    | some ws => simp only [List.getD_eq_getElem?_getD, h, Option.map_eq_map, Option.map_some, Option.getD_some, e]
  · simp

theorem setWords_inst (img : Image) (sec : Sec) (i : Nat) :
    img.setWords sec (i * sec.words) (img.inst sec i) = img := setWords_self img sec _ _

/-! ## The default binding passes the checks (R353) -/

theorem secFind_none (sec : Sec) (p : Nat → Nat → Bool) (hw : 0 < sec.words)
    (h : ∀ i w, i < sec.instances → w < sec.words → p i w = false) : secFind sec p = none := by
  unfold secFind
  rw [Option.map_eq_none_iff, List.find?_eq_none]
  intro k hk
  rw [List.mem_range] at hk
  have := h (k / sec.words) (k % sec.words) ((Nat.div_lt_iff_lt_mul hw).mpr hk) (Nat.mod_lt _ hw)
  simp [this]

theorem imgFind_none (p : Sec → Nat → Nat → Bool)
    (h : ∀ sec i w, i < sec.instances → w < sec.words → p sec i w = false) : imgFind p = none := by
  unfold imgFind
  rw [List.findSome?_eq_none_iff]
  intro sec _
  exact secFind_none sec (p sec) (by cases sec <;> decide) (h sec)

/-- Where a test holds of some word, the first such word is found. -/
theorem imgFind_some (p : Sec → Nat → Nat → Bool) (sec : Sec) (i w : Nat) (hi : i < sec.instances) (hw : w < sec.words)
    (h : p sec i w = true) : ∃ l, imgFind p = some l := by
  by_contra c
  have n : imgFind p = none := by
    cases e : imgFind p with
    | none => rfl
    | some l => exact absurd ⟨l, e⟩ c
  unfold imgFind at n
  rw [List.findSome?_eq_none_iff] at n
  have m := n sec (by cases sec <;> decide)
  unfold secFind at m
  rw [Option.map_eq_none_iff, List.find?_eq_none] at m
  have hp : 0 < sec.words := by omega
  have hk : i * sec.words + w < sec.instances * sec.words := by
    calc i * sec.words + w < i * sec.words + sec.words := by omega
      _ = (i + 1) * sec.words := by ring
      _ ≤ sec.instances * sec.words := Nat.mul_le_mul_right _ hi
  have := m (i * sec.words + w) (List.mem_range.mpr hk)
  rw [show (i * sec.words + w) / sec.words = i by
        rw [Nat.mul_comm, Nat.mul_add_div hp, Nat.div_eq_of_lt hw, Nat.add_zero],
      show (i * sec.words + w) % sec.words = w by
        rw [Nat.mul_comm, Nat.mul_add_mod, Nat.mod_eq_of_lt hw]] at this
  exact this h

theorem some_getD {α : Type} {o : Option α} {d : α} (h : ∃ l, o = some l) : o = some (o.getD d) := by
  obtain ⟨l, rfl⟩ := h
  rfl

/-- R349: an image equal to the committed one changes no locked field. -/
theorem lockBad_same (s : State) : imgFind (s.lockBad s.cfg.committed) = none :=
  imgFind_none _ (fun sec i w _ _ => by simp [State.lockBad])

/-- R353: no reserved bit is set in the default binding. -/
theorem reset_reserved : ∀ sec i w, i < sec.instances → w < sec.words →
    (w32 (wdef sec i w).reset &&& w32 (wdef sec i w).rsv) = 0 := by
  have h : ∀ sec : Sec, (List.range sec.instances).all (fun i => (List.range sec.words).all (fun w =>
      decide (w32 (wdef sec i w).reset &&& w32 (wdef sec i w).rsv = 0))) = true := by
    intro sec
    cases sec <;> decide +kernel
  intro sec i w hi hw
  have := h sec
  rw [List.all_eq_true] at this
  have := this i (List.mem_range.mpr hi)
  rw [List.all_eq_true] at this
  simpa using this w (List.mem_range.mpr hw)

/-- A test that holds for no index below a bound, from one closed evaluation. -/
theorem all_range {n : Nat} {p : Nat → Bool} (h : (List.range n).all p = true) : ∀ i, i < n → p i = true := by
  rw [List.all_eq_true] at h
  exact fun i hi => h i (List.mem_range.mpr hi)

theorem reset_slot (i : Nat) (h : i < 127) : fld (w32 (wdef .loop i 0).reset) 31 20 = 32 * (i + 1) := by
  have := all_range (n := 127) (p := fun i => decide (fld (w32 (wdef .loop i 0).reset) 31 20 = 32 * (i + 1)))
    (by decide +kernel) i h
  simpa using this

/-- R159: no two loops share a slot at reset. -/
theorem reset_slotTwice (i : Nat) (h : i < 127) : slotTwice Image.reset i = false := by
  unfold slotTwice
  rw [Bool.and_eq_false_iff]
  right
  rw [List.any_eq_false]
  intro j hj
  rw [List.mem_range] at hj
  have hi : i < Sec.instances .loop := h
  have hj' : j < Sec.instances .loop := hj
  simp only [Image.fld, reset_word .loop i 0 hi (by decide), reset_word .loop j 0 hj' (by decide), reset_slot i h,
    reset_slot j hj]
  by_cases e : j = i
  · simp [e]
  · have : 32 * (j + 1) ≠ 32 * (i + 1) := by omega
    simp [this]

theorem reset_gpio (i : Nat) (h : i < Sec.instances .gpio) : gpioBad Image.reset i = false := by
  have all : ∀ i, i < Sec.instances .gpio → gpioBad Image.reset i = false := by decide +kernel
  exact all i h

theorem reset_ain (i w : Nat) (h : i < Sec.instances .ain) (hw : w < Sec.words .ain) : ainBad Image.reset i w = false := by
  have all : ∀ i, i < Sec.instances .ain → ∀ w, w < Sec.words .ain → ainBad Image.reset i w = false := by decide +kernel
  exact all i h w hw

theorem reset_mod (i : Nat) (h : i < Sec.instances .mod) : (decide (12 ≤ i) && decide (4 < Image.reset.fld .mod i 0 7 5)) = false := by
  have all : ∀ i, i < Sec.instances .mod → (decide (12 ≤ i) && decide (4 < Image.reset.fld .mod i 0 7 5)) = false := by decide +kernel
  exact all i h

theorem reset_pres (i w : Nat) (h : i < Sec.instances .pres) (hw : w < Sec.words .pres) : presBad Image.reset i w = false := by
  have all : ∀ i, i < Sec.instances .pres → ∀ w, w < Sec.words .pres → presBad Image.reset i w = false := by decide +kernel
  exact all i h w hw

theorem reset_stone (w : Nat) (hw : w < Sec.words .stone) : stoneBad Image.reset w = false := by
  have all : ∀ w, w < Sec.words .stone → stoneBad Image.reset w = false := by decide +kernel
  exact all w hw

theorem reset_time (w : Nat) (hw : w < Sec.words .time) : timeBad Image.reset w = false := by
  have all : ∀ w, w < Sec.words .time → timeBad Image.reset w = false := by decide +kernel
  exact all w hw

theorem reset_prof (i w : Nat) (h : i < Sec.instances .prof) (hw : w < Sec.words .prof) : (Image.reset.fld .prof i w 15 0 == 0) = false := by
  have all : ∀ i, i < Sec.instances .prof → ∀ w, w < Sec.words .prof → (Image.reset.fld .prof i w 15 0 == 0) = false := by decide +kernel
  exact all i h w hw

theorem reset_sched (i w : Nat) (h : i < Sec.instances .sched) (hw : w < Sec.words .sched) : schedBad Image.reset i w = false := by
  have all : ∀ i, i < Sec.instances .sched → ∀ w, w < Sec.words .sched → schedBad Image.reset i w = false := by decide +kernel
  exact all i h w hw

theorem reset_sol (i : Nat) (h : i < Sec.instances .sol) : solBad Image.reset i = false := by
  have all : ∀ i, i < Sec.instances .sol → solBad Image.reset i = false := by decide +kernel
  exact all i h

theorem reset_actDev (w : Nat) (hw : w < Sec.words .actDev) : actDevBad Image.reset w = false := by
  have all : ∀ w, w < Sec.words .actDev → actDevBad Image.reset w = false := by decide +kernel
  exact all w hw

theorem reset_fanDev : outside (Image.reset.fld .fanDev 0 0 12 0) 4465 5952 = false := by decide +kernel

theorem reset_bus (w : Nat) (hw : w < Sec.words .bus) : busBad Image.reset w = false := by
  have all : ∀ w, w < Sec.words .bus → busBad Image.reset w = false := by decide +kernel
  exact all w hw

theorem reset_snap (i w : Nat) (h : i < Sec.instances .snap) (hw : w < Sec.words .snap) : snapBad Image.reset i w = false := by
  have all : ∀ i, i < Sec.instances .snap → ∀ w, w < Sec.words .snap → snapBad Image.reset i w = false := by decide +kernel
  exact all i h w hw

theorem reset_act (i w : Nat) (h : i < Sec.instances .act) (hw : w < Sec.words .act) : actBad Image.reset i w = false := by
  have all : ∀ i, i < Sec.instances .act → ∀ w, w < Sec.words .act → actBad Image.reset i w = false := by decide +kernel
  exact all i h w hw

theorem reset_fan (i w : Nat) (h : i < Sec.instances .fan) (hw : w < Sec.words .fan) : fanBad Image.reset i w = false := by
  have all : ∀ i, i < Sec.instances .fan → ∀ w, w < Sec.words .fan → fanBad Image.reset i w = false := by decide +kernel
  exact all i h w hw

theorem reset_panel (s : State) (h : s.panel.wf = none) (w : Nat) (hw : w < Sec.words .panel) :
    panelBad s Image.reset w = false := by
  have hw' : w < 5 := hw
  simp only [panelBad, h, Image.fld, Image.bit, reset_word .panel 0 0 (by decide) (by decide),
    reset_word .panel 0 1 (by decide) (by decide), reset_word .panel 0 2 (by decide) (by decide),
    reset_word .panel 0 3 (by decide) (by decide), reset_word .panel 0 4 (by decide) (by decide)]
  interval_cases w <;> decide +kernel

theorem reset_loop (i w : Nat) (h : i < Sec.instances .loop) (hw : w < Sec.words .loop) : loopBad Image.reset i w = false := by
  have hw' : w < 12 := hw
  simp only [loopBad, Image.fld, reset_slotTwice i h, reset_word .loop i 0 h (by decide), reset_word .loop i 1 h (by decide),
    reset_word .loop i 2 h (by decide), reset_word .loop i 4 h (by decide), reset_word .loop i 5 h (by decide),
    reset_word .loop i 8 h (by decide), reset_word .loop i w h hw]
  clear hw
  interval_cases w <;> (revert h; revert i; decide +kernel)

theorem reset_zoneLoops (z : Nat) (h : z < 32) : Image.reset.zoneLoops z = [3 * z + 1, 3 * z + 2, 3 * z + 3] := by
  have h' : z < Sec.instances .zone := h
  simp only [Image.zoneLoops, Image.fld, reset_word .zone z 10 h' (by decide)]
  have := all_range (n := 32) (p := fun z => decide ([fld (w32 (wdef .zone z 10).reset) 31 24, fld (w32 (wdef .zone z 10).reset) 23 16,
    fld (w32 (wdef .zone z 10).reset) 15 8] = [3 * z + 1, 3 * z + 2, 3 * z + 3])) (by decide +kernel) z h
  simpa using this

/-- R30: no loop is bound twice at reset. -/
theorem reset_loopTwice (z : Nat) (h : z < 32) : loopTwice Image.reset z = false := by
  have e : ∀ l, (List.range 32).foldl (fun a y => a + (Image.reset.zoneLoops y).count l) 0 =
      (List.range 32).foldl (fun a y => a + [3 * y + 1, 3 * y + 2, 3 * y + 3].count l) 0 := by
    intro l
    apply List.foldl_ext
    intro a y hy
    rw [reset_zoneLoops y (List.mem_range.mp hy)]
  unfold loopTwice
  simp only [e, reset_zoneLoops z h]
  have := all_range (n := 32) (p := fun z => !List.any [3 * z + 1, 3 * z + 2, 3 * z + 3] (fun l => l != 0 &&
    decide (1 < (List.range 32).foldl (fun a y => a + [3 * y + 1, 3 * y + 2, 3 * y + 3].count l) 0))) (by decide +kernel) z h
  simpa using this

theorem reset_zone (i w : Nat) (h : i < Sec.instances .zone) (hw : w < Sec.words .zone) : zoneBad Image.reset i w = false := by
  have hw' : w < 12 := hw
  have h' : i < 32 := h
  simp only [zoneBad, reset_loopTwice i h', reset_zoneLoops i h', Image.fld, Image.bit, reset_word .zone i 0 h (by decide),
    reset_word .zone i 1 h (by decide), reset_word .zone i 7 h (by decide), reset_word .zone i 8 h (by decide),
    reset_word .zone i 9 h (by decide), reset_word .zone i 10 h (by decide), reset_word .zone i 11 h (by decide),
    reset_word .zone i w h hw]
  clear hw h'
  interval_cases w <;> (revert h; revert i; decide +kernel)

/-- R353: the default binding passes every commit check. -/
theorem reset_passes (s : State) (h : s.panel.wf = none) : commitFail s Image.reset = none := by
  apply imgFind_none
  intro sec i w hi hw
  unfold wordBad
  rw [reset_word sec i w hi hw, reset_reserved sec i w hi hw]
  simp only [bne_self_eq_false, Bool.false_or]
  cases sec
  case chain | hkLim => rfl
  case time => exact reset_time w hw
  case gpio => exact reset_gpio i hi
  case ain => exact reset_ain i w hi hw
  case mod => exact reset_mod i hi
  case pres => exact reset_pres i w hi hw
  case stone => exact reset_stone w hw
  case loop => exact reset_loop i w hi hw
  case zone => exact reset_zone i w hi hw
  case prof => exact reset_prof i w hi hw
  case sched => exact reset_sched i w hi hw
  case sol => exact reset_sol i hi
  case act => exact reset_act i w hi hw
  case actDev => exact reset_actDev w hw
  case fan => exact reset_fan i w hi hw
  case fanDev => exact reset_fanDev
  case panel => exact reset_panel s h w hw
  case bus => exact reset_bus w hw
  case snap => exact reset_snap i w hi hw

/-! ## Reading the default binding back and committing it -/


theorem splice_set {α : Type} (ws : List α) (a k w : Nat) (v : α) (hw : w < k) (hk : a + k ≤ ws.length) :
    ws.take a ++ ((ws.drop a).take k).set w v ++ ws.drop (a + (((ws.drop a).take k).set w v).length) = ws.set (a + w) v := by
  have hl : (((ws.drop a).take k).set w v).length = k := by simp; omega
  rw [hl]
  have e : ws = ws.take a ++ (ws.drop a).take k ++ ws.drop (a + k) := by
    rw [← List.drop_drop, List.append_assoc, List.take_append_drop, List.take_append_drop]
  conv_rhs => rw [e]
  have ht : (ws.take a).length = a := by simp; omega
  have hm : ((ws.drop a).take k).length = k := by simp; omega
  rw [List.append_assoc, List.append_assoc, List.set_append_right _ _ (by omega), ht, Nat.add_sub_cancel_left,
    List.set_append_left _ _ (by omega)]

/-- Writing an instance's words back with one of them changed writes that word. -/
theorem setWords_inst_set (img : Image) (sec : Sec) (i w : Nat) (v : Word) (hw : w < sec.words)
    (hk : i * sec.words + sec.words ≤ (img.sec sec).length) :
    img.setWords sec (i * sec.words) ((img.inst sec i).set w v) = img.setWord sec i w v := by
  unfold Image.setWords Image.setWord upd
  apply List.ext_getElem?
  intro j
  rw [List.getElem?_modify, List.getElem?_modify]
  split
  · subst_vars
    cases h : img[sec.index]? with
    | none => simp
    | some ws =>
      have e : img.sec sec = ws := by simp [Image.sec, nth, List.getD_eq_getElem?_getD, h]
      rw [e] at hk
      simp only [Option.map_eq_map, Option.map_some, Image.inst, e, splice_set ws _ _ _ _ hw hk]
  · simp

theorem setWord_sec (img : Image) (sec : Sec) (i w : Nat) (v : Word) :
    (img.setWord sec i w v).sec sec = (img.sec sec).set (i * sec.words + w) v := by
  unfold Image.setWord Image.sec nth upd
  simp only [List.getD_eq_getElem?_getD, List.getElem?_modify]
  cases img[sec.index]? with
  | none => rfl
  | some ws => simp

theorem setWord_past (img : Image) (sec : Sec) (i w : Nat) (v : Word) (j : Nat) (h : sec.index ≠ j) :
    (img.setWord sec i w v)[j]? = img[j]? := by
  unfold Image.setWord upd
  rw [List.getElem?_modify]
  simp [h]

theorem merge_keep (v x : Word) (h : v &&& 0xFFFF0000 = x &&& 0xFFFF0000) : merge 0xFFFF v x = x := by
  unfold merge
  rw [show (~~~(0xFFFF : Word)) = 0xFFFF0000 from rfl, h, ← BitVec.and_or_distrib_left]
  rw [show ((0xFFFF : Word) ||| 0xFFFF0000) = BitVec.allOnes 32 from rfl, BitVec.and_allOnes]

/-- R360: the committed image keeps the hold output that is in force, whatever a `SET_` command names. -/
theorem withOutHold_reset (s : State) (h : s.cfg.inForce.sec .loop = Image.reset.sec .loop) (i : Nat) (v : Word)
    (hv : v &&& 0xFFFF0000 = Image.reset.word .loop i 3 &&& 0xFFFF0000) :
    withOutHold s (Image.reset.setWord .loop i 3 v) = Image.reset := by
  have hs : (Image.reset.setWord .loop i 3 v).sec .loop = (secReset .loop).set (i * 12 + 3) v := by
    rw [← reset_sec]
    exact setWord_sec _ _ _ _ _
  have hr : Image.reset.word .loop i 3 = (secReset .loop).getD (i * 12 + 3) 0 := by
    rw [← reset_sec]
    rfl
  have hcw : ∀ j, s.cfg.inForce.word .loop j 3 = Image.reset.word .loop j 3 := by
    intro j
    unfold Image.word
    rw [h]
  unfold withOutHold State.cw
  simp only [hcw]
  have e : (List.range (127 * 12)).map (fun k =>
      let v' := (Image.reset.setWord .loop i 3 v).word .loop (k / 12) (k % 12)
      if k % 12 = 3 then merge 0xFFFF v' (Image.reset.word .loop (k / 12) 3) else v') = secReset .loop := by
    apply List.ext_getElem
    · simp [secReset_length, Sec.instances, Sec.words]
    · intro k h1 h2
      have hk : k < 127 * 12 := by simpa using h1
      have hd : k / 12 * 12 + k % 12 = k := by omega
      have hw : (Image.reset.setWord .loop i 3 v).word .loop (k / 12) (k % 12) = ((secReset .loop).set (i * 12 + 3) v).getD k 0 := by
        unfold Image.word
        rw [hs, show k / 12 * Sec.words .loop + k % 12 = k from hd]
      have hl : k < ((secReset .loop).set (i * 12 + 3) v).length := by simpa using h2
      simp only [List.getElem_map, List.getElem_range, hw]
      rw [List.getD_eq_getElem _ _ hl]
      by_cases c3 : k % 12 = 3
      · have hx : Image.reset.word .loop (k / 12) 3 = (secReset .loop).getD k 0 := by
          unfold Image.word
          rw [reset_sec, show k / 12 * Sec.words .loop + 3 = k by simp only [Sec.words]; omega]
        rw [List.getD_eq_getElem _ _ h2] at hx
        rw [if_pos c3, hx, List.getElem_set]
        apply merge_keep
        by_cases c : i * 12 + 3 = k
        · subst c
          rw [if_pos rfl, hv, hr, List.getD_eq_getElem _ _ h2]
        · rw [if_neg c]
      · rw [if_neg c3, List.getElem_set_ne]
        intro c
        omega
  rw [e]
  apply List.ext_getElem?
  intro j
  by_cases c : Sec.index .loop = j
  · subst c
    rw [List.getElem?_set_self (by simp [Image.setWord, upd, Image.reset, Sec.all, Sec.index])]
    rfl
  · rw [List.getElem?_set_ne c, setWord_past _ _ _ _ _ _ c]

theorem withOutHold_self (s : State) (h : s.cfg.inForce.sec .loop = Image.reset.sec .loop) : withOutHold s Image.reset = Image.reset := by
  have e : Image.reset.setWord .loop 0 3 (Image.reset.word .loop 0 3) = Image.reset := by decide +kernel
  have := withOutHold_reset s h 0 (Image.reset.word .loop 0 3) rfl
  rwa [e] at this

theorem reset_passes_of (s : State) (hw : s.panel.wf = none) (img : Image) (h : img = Image.reset) :
    commitFail s img = none := h ▸ reset_passes s hw

/-- R349 step 1: the default binding, committed over itself, meets no failing field and changes no locked one. -/
theorem reset_ready (s : State) (hc : s.cfg.committed = Image.reset) (hw : s.panel.wf = none) (img : Image)
    (h : img = Image.reset) : commitFail s img = none ∧ imgFind (s.lockBad img) = none := by
  subst h
  exact ⟨reset_passes s hw, hc ▸ lockBad_same s⟩

/-- R351: consecutive words of the default binding, read back from a payload and set, leave it as it is. -/
theorem setSpan_ready (s : State) (sec : Sec) (a k : Nat) (pre : List Byte) (hc : s.cfg.committed = Image.reset)
    (hf : s.cfg.inForce.sec .loop = Image.reset.sec .loop) (hk : a + k ≤ sec.instances * sec.words) :
    withOutHold s (s.cfg.committed.setWords sec a
      (getWords (pre ++ wordsBytes (((Image.reset.sec sec).drop a).take k)) pre.length k)) = Image.reset := by
  have hl : (((Image.reset.sec sec).drop a).take k).length = k := by
    simp [reset_sec, secReset_length]
    omega
  have := getWords_wordsBytes (((Image.reset.sec sec).drop a).take k) pre []
  rw [List.append_nil, hl] at this
  rw [this, hc, setWords_self, withOutHold_self s hf]

/-- R360: a loop's words of the default binding with another hold output, set, leave the committed image as it is. -/
theorem setLoop_ready (s : State) (i : Nat) (v : Word) (pre : List Byte) (hc : s.cfg.committed = Image.reset)
    (hf : s.cfg.inForce.sec .loop = Image.reset.sec .loop) (hi : i < 127)
    (hv : v &&& 0xFFFF0000 = Image.reset.word .loop i 3 &&& 0xFFFF0000) :
    withOutHold s (s.cfg.committed.setWords .loop (i * 12)
      (getWords (pre ++ wordsBytes ((Image.reset.inst .loop i).set 3 v)) pre.length 12)) = Image.reset := by
  have hl : ((Image.reset.inst .loop i).set 3 v).length = 12 := by
    rw [List.length_set, reset_inst .loop i hi]
    simp [Sec.words]
  have := getWords_wordsBytes ((Image.reset.inst .loop i).set 3 v) pre []
  rw [List.append_nil, hl] at this
  rw [this, hc]
  have e := setWords_inst_set Image.reset .loop i 3 v (by decide) (by
    rw [reset_sec, secReset_length]
    simp only [Sec.words, Sec.instances]
    omega)
  rw [show i * 12 = i * Sec.words .loop from rfl, e, withOutHold_reset s hf i v hv]

/-- Writing an instance's old words back over a changed one restores the image. -/
theorem setWords_back (img : Image) (sec : Sec) (i w : Nat) (v : Word) (hw : w < sec.words)
    (hk : i * sec.words + sec.words ≤ (img.sec sec).length) :
    (img.setWord sec i w v).setWords sec (i * sec.words) (img.inst sec i) = img := by
  have hl : (img.inst sec i).length = sec.words := by simp [Image.inst]; omega
  unfold Image.setWords Image.setWord upd
  apply List.ext_getElem?
  intro j
  rw [List.getElem?_modify, List.getElem?_modify]
  split
  · subst_vars
    cases h : img[sec.index]? with
    | none => simp
    | some ws =>
      have e : img.sec sec = ws := by simp [Image.sec, nth, List.getD_eq_getElem?_getD, h]
      simp only [Option.map_eq_map, Option.map_some, Option.some.injEq]
      rw [hl, List.take_set_of_le (by omega), List.drop_set_of_lt (by omega), Image.inst, e, ← List.drop_drop,
        List.append_assoc, List.take_append_drop, List.take_append_drop]
  · simp

/-- R351: the default words of an instance, set over one changed word of it, make the image the default binding again. -/
theorem setBack_ready (s : State) (sec : Sec) (i w : Nat) (v : Word) (pre : List Byte)
    (hc : s.cfg.committed = Image.reset.setWord sec i w v) (hf : s.cfg.inForce.sec .loop = Image.reset.sec .loop) (hw : w < sec.words)
    (hi : i < sec.instances) :
    withOutHold s (s.cfg.committed.setWords sec (i * sec.words)
      (getWords (pre ++ wordsBytes (Image.reset.inst sec i)) pre.length sec.words)) = Image.reset := by
  have hl : (Image.reset.inst sec i).length = sec.words := by simp [reset_inst sec i hi]
  have hk : i * sec.words + sec.words ≤ (Image.reset.sec sec).length := by
    rw [reset_sec, secReset_length]
    have := Nat.mul_le_mul_right sec.words hi
    rw [Nat.succ_mul] at this
    exact this
  have := getWords_wordsBytes (Image.reset.inst sec i) pre []
  rw [List.append_nil, hl] at this
  rw [this, hc, setWords_back _ _ _ _ _ hw hk, withOutHold_self s hf]

end Sys2Proof.Machine
end

