-- ==== Sys2Proof/Laws/Memory.lean ====
section
/-! SUPPORT. The laws of the NVM's cells: every memory operation keeps the canonical form, and a read gives what was last written. -/

namespace Sys2Proof.Machine

variable {d : Nat → Byte}

theorem Memory.wfFrom_mono {m : Memory} {lo lo' : Nat} (h : lo' ≤ lo) (w : Memory.wfFrom d lo m = true) :
    Memory.wfFrom d lo' m = true := by
  cases m with
  | nil => rfl
  | cons c t =>
    simp only [Memory.wfFrom, Bool.and_eq_true, decide_eq_true_eq] at w ⊢
    exact ⟨⟨Nat.le_trans h w.1.1, w.1.2⟩, w.2⟩

theorem Memory.put_wfFrom (a : Nat) (v : Option Byte) (hv : ∀ b, v = some b → b ≠ d a) :
    ∀ (m : Memory) (lo : Nat), lo ≤ a → Memory.wfFrom d lo m = true → Memory.wfFrom d lo (m.put a v) = true
  | [], lo, hlo, _ => by
    cases v with
    | none => rfl
    | some b => simp [Memory.put, Memory.wfFrom, hlo, hv b rfl]
  | c :: t, lo, hlo, w => by
    have w' := w
    simp only [Memory.wfFrom, Bool.and_eq_true, decide_eq_true_eq] at w'
    obtain ⟨⟨h1, h2⟩, h3⟩ := w'
    by_cases lt : a < c.1
    · cases v with
      | none => simpa [Memory.put, lt] using w
      | some b =>
        simp only [Memory.put, lt, if_true, Memory.wfFrom, Bool.and_eq_true, decide_eq_true_eq]
        exact ⟨⟨hlo, hv b rfl⟩, ⟨⟨lt, h2⟩, h3⟩⟩
    · by_cases eq : a = c.1
      · cases v with
        | none =>
          simp only [Memory.put, eq, if_true, if_false, Nat.lt_irrefl]
          exact Memory.wfFrom_mono (by omega) h3
        | some b =>
          have hb := hv b rfl
          subst eq
          simp only [Memory.put, Nat.lt_irrefl, if_true, if_false, Memory.wfFrom, Bool.and_eq_true, decide_eq_true_eq]
          exact ⟨⟨hlo, hb⟩, h3⟩
      · simp only [Memory.put, lt, eq, if_false, Memory.wfFrom, Bool.and_eq_true, decide_eq_true_eq]
        exact ⟨⟨h1, h2⟩, Memory.put_wfFrom a v hv t (c.1 + 1) (by omega) h3⟩

/-- Writing a byte keeps the canonical form. -/
theorem Memory.write_wf (m : Memory) (a : Nat) (b : Byte) (w : m.wf d = true) : (m.write d a b).wf d = true := by
  refine Memory.put_wfFrom a _ ?_ m 0 (Nat.zero_le a) w
  intro x hx
  by_cases h : b = d a
  · simp [h] at hx
  · simp only [h, if_false, Option.some.injEq] at hx
    exact hx ▸ h

/-- Writing bytes keeps the canonical form. -/
theorem Memory.writes_wf (bs : List Byte) :
    ∀ (m : Memory) (a : Nat), m.wf d = true → (m.writes d a bs).wf d = true := by
  induction bs with
  | nil => exact fun _ _ w => w
  | cons b bs ih => exact fun m a w => ih _ _ (m.write_wf a b w)

theorem Memory.read_cons (c : Host.Cell) (t : Memory) (x : Nat) :
    Memory.read d (c :: t) x = if c.1 = x then c.2 else Memory.read d t x := by
  by_cases h : c.1 = x
  · simp [Memory.read, List.find?, h]
  · have e : (c.1 == x) = false := by simp [h]
    simp [Memory.read, List.find?, h, e]

theorem Memory.read_low {lo : Nat} :
    ∀ {m : Memory} {x : Nat}, Memory.wfFrom d lo m = true → x < lo → Memory.read d m x = d x := by
  intro m
  induction m generalizing lo with
  | nil => intro x _ _; rfl
  | cons c t ih =>
    intro x w h
    simp only [Memory.wfFrom, Bool.and_eq_true, decide_eq_true_eq] at w
    rw [Memory.read_cons, if_neg (by omega)]
    exact ih w.2 (by omega)

theorem Memory.read_put (a : Nat) (v : Option Byte) (x : Nat) :
    ∀ (m : Memory) (lo : Nat), Memory.wfFrom d lo m = true →
      Memory.read d (m.put a v) x = if x = a then v.getD (d a) else Memory.read d m x := by
  intro m
  induction m with
  | nil =>
    intro lo _
    cases v with
    | none => by_cases h : x = a <;> simp [Memory.put, Memory.read, h]
    | some b =>
      rw [Memory.put, Memory.read_cons]
      by_cases h : x = a
      · simp [h]
      · rw [if_neg (by omega), if_neg h]
  | cons c t ih =>
    intro lo w
    simp only [Memory.wfFrom, Bool.and_eq_true, decide_eq_true_eq] at w
    by_cases lt : a < c.1
    · cases v with
      | none =>
        simp only [Memory.put, lt, if_true]
        by_cases h : x = a
        · subst h
          rw [Memory.read_cons, if_neg (by omega), Memory.read_low w.2 (by omega)]
          simp
        · simp [h]
      | some b =>
        simp only [Memory.put, lt, if_true]
        rw [Memory.read_cons]
        by_cases h : x = a
        · simp [h]
        · rw [if_neg (by omega), if_neg h]
    · by_cases eq : a = c.1
      · cases v with
        | none =>
          simp only [Memory.put, eq, if_true, if_false, Nat.lt_irrefl]
          rw [Memory.read_cons]
          by_cases h : x = c.1
          · subst h
            rw [Memory.read_low w.2 (by omega)]
            simp
          · rw [if_neg h, if_neg (by omega)]
        | some b =>
          simp only [Memory.put, eq, if_true, if_false, Nat.lt_irrefl]
          rw [Memory.read_cons, Memory.read_cons]
          by_cases h : x = c.1
          · subst h; simp
          · rw [if_neg (by omega), if_neg h, if_neg (by omega)]
      · simp only [Memory.put, lt, eq, if_false]
        rw [Memory.read_cons, Memory.read_cons, ih _ w.2]
        by_cases h : x = a
        · rw [if_neg (by omega), if_pos h, if_pos h]
        · rw [if_neg h, if_neg h]

/-- A byte reads as it was last written, and every other byte as before. -/
theorem Memory.read_write (m : Memory) (a : Nat) (b : Byte) (x : Nat) (w : m.wf d = true) :
    Memory.read d (m.write d a b) x = if x = a then b else Memory.read d m x := by
  rw [Memory.write, Memory.read_put a _ x m 0 w]
  by_cases h : x = a
  · by_cases e : b = d a <;> simp [e]
  · simp [h]

/-- Writing a codeword keeps both banks canonical. -/
theorem nvWriteCw_wf (n : Nvm) (w : CwWrite) (h0 : Memory.wf (nvDefault 0) n.bank0 = true)
    (h1 : Memory.wf (nvDefault 1) n.bank1 = true) :
    Memory.wf (nvDefault 0) (nvWriteCw n w).bank0 = true ∧ Memory.wf (nvDefault 1) (nvWriteCw n w).bank1 = true := by
  by_cases h : w.bank = 0
  · simp only [nvWriteCw, Nvm.setBank, Nvm.bank, h, if_true]
    exact ⟨Memory.writes_wf _ _ _ h0, h1⟩
  · simp only [nvWriteCw, Nvm.setBank, Nvm.bank, h, if_false]
    have e : nvDefault w.bank = nvDefault 1 := by simp [nvDefault, h]
    rw [e]
    exact ⟨h0, Memory.writes_wf _ _ _ h1⟩

/-- A codeword reaches an NVM bank, or the flash, and the banks stay canonical. -/
theorem writeCw_wf (w : CwWrite) (s : State) (h0 : Memory.wf (nvDefault 0) s.nvm.bank0 = true)
    (h1 : Memory.wf (nvDefault 1) s.nvm.bank1 = true) :
    Memory.wf (nvDefault 0) (writeCw w s).nvm.bank0 = true ∧ Memory.wf (nvDefault 1) (writeCw w s).nvm.bank1 = true := by
  unfold writeCw
  split
  · exact nvWriteCw_wf s.nvm w h0 h1
  · exact ⟨h0, h1⟩

end Sys2Proof.Machine
end

