-- ==== Sys2Proof/Laws/PerInstr.lean ====
section
/-! SUPPORT. One family of statements made per command: no word of the table spells it, since the table gives no row bits. -/

namespace Sys2Proof.Laws.WordFree

open Sys2Proof Sys2Proof.Machine

/-- No word spells the command. -/
def Statement (i : Instr) : Prop := ∀ nbits w : Nat, decodeTableWord nbits w ≠ some i

/-- Nothing is spelled at all. -/
theorem none_spelled (i : Instr) : Statement i := fun _ _ h => nomatch h

theorem zxCrossing (t : Nat) (positive : Bool) : Statement (.zxCrossing t positive) := none_spelled _
theorem startTimeout : Statement (.startTimeout) := none_spelled _
theorem missingCrossing : Statement (.missingCrossing) := none_spelled _
theorem ptTick : Statement (.ptTick) := none_spelled _
theorem acreBeaconSend : Statement (.acreBeaconSend) := none_spelled _
theorem beacon (addr : Nat) (b : List Byte) : Statement (.beacon addr b) := none_spelled _
theorem join (addr : Nat) (b : List Byte) : Statement (.join addr b) := none_spelled _
theorem slot (addr : Nat) (b : List Byte) : Statement (.slot addr b) := none_spelled _
theorem acreMasterLoss : Statement (.acreMasterLoss) := none_spelled _
theorem acreSeekingTimeout : Statement (.acreSeekingTimeout) := none_spelled _
theorem acreCandidateWaitEnd : Statement (.acreCandidateWaitEnd) := none_spelled _
theorem acreMemberForget (id : Nat) : Statement (.acreMemberForget id) := none_spelled _
theorem windowStart (k : Nat) : Statement (.windowStart k) := none_spelled _
theorem roundStart (k : Nat) : Statement (.roundStart k) := none_spelled _
theorem windowEnd (k : Nat) (w : Win) : Statement (.windowEnd k w) := none_spelled _
theorem resultPublish (k : Nat) : Statement (.resultPublish k) := none_spelled _
theorem presenceWarmupEnd (d : Nat) : Statement (.presenceWarmupEnd d) := none_spelled _
theorem presenceHoldExpiry (d : Nat) : Statement (.presenceHoldExpiry d) := none_spelled _
theorem hkRoundEnd : Statement (.hkRoundEnd) := none_spelled _
theorem calStepRelease : Statement (.calStepRelease) := none_spelled _
theorem calVisitStart (k : Nat) : Statement (.calVisitStart k) := none_spelled _
theorem calVisitEnd (k : Nat) : Statement (.calVisitEnd k) := none_spelled _
theorem actSenseMeasure (n : Nat) (reading : Rat) : Statement (.actSenseMeasure n reading) := none_spelled _
theorem actSenseSkip (n : Nat) : Statement (.actSenseSkip n) := none_spelled _
theorem xtalRefPulse (ticks24 ticks32 : Nat) : Statement (.xtalRefPulse ticks24 ticks32) := none_spelled _
theorem xtalRefTimeout : Statement (.xtalRefTimeout) := none_spelled _
theorem calPassEnd : Statement (.calPassEnd) := none_spelled _
theorem calRunComplete : Statement (.calRunComplete) := none_spelled _
theorem loopEvaluation (l : Nat) : Statement (.loopEvaluation l) := none_spelled _
theorem loopCommit (l : Nat) (late : Bool) : Statement (.loopCommit l late) := none_spelled _
theorem zoneLogicPass : Statement (.zoneLogicPass) := none_spelled _
theorem specConfirmExpiry (z : Nat) : Statement (.specConfirmExpiry z) := none_spelled _
theorem changeoverDelayExpiry (z : Nat) : Statement (.changeoverDelayExpiry z) := none_spelled _
theorem windowDelayExpiry (z : Nat) : Statement (.windowDelayExpiry z) := none_spelled _
theorem faultDelayExpiry (z : Nat) : Statement (.faultDelayExpiry z) := none_spelled _
theorem comfortDelayExpiry (z : Nat) : Statement (.comfortDelayExpiry z) := none_spelled _
theorem manualExpiry (z : Nat) : Statement (.manualExpiry z) := none_spelled _
theorem solsticeBinEnd (k : Nat) : Statement (.solsticeBinEnd k) := none_spelled _
theorem occBinEnd (z : Nat) : Statement (.occBinEnd z) := none_spelled _
theorem solsticePersist : Statement (.solsticePersist) := none_spelled _
theorem pwmPeriod (raw : List Nat) : Statement (.pwmPeriod raw) := none_spelled _
theorem minOffExpiry (n : Nat) : Statement (.minOffExpiry n) := none_spelled _
theorem thermalPeriodStart (n : Nat) : Statement (.thermalPeriodStart n) := none_spelled _
theorem thermalOnPhaseEnd (n : Nat) : Statement (.thermalOnPhaseEnd n) := none_spelled _
theorem dutyBucketEnd (n : Nat) : Statement (.dutyBucketEnd n) := none_spelled _
theorem pullinSlotStart : Statement (.pullinSlotStart) := none_spelled _
theorem degradedPeakStart (n : Nat) : Statement (.degradedPeakStart n) := none_spelled _
theorem peakEnd (n : Nat) : Statement (.peakEnd n) := none_spelled _
theorem actDecayEnd (n : Nat) : Statement (.actDecayEnd n) := none_spelled _
theorem floatOverrunEnd (k : Nat) : Statement (.floatOverrunEnd k) := none_spelled _
theorem floatResyncEnd (k : Nat) : Statement (.floatResyncEnd k) := none_spelled _
theorem floatReversalEnd (k : Nat) : Statement (.floatReversalEnd k) := none_spelled _
theorem budgetWaitTimeout (n : Nat) : Statement (.budgetWaitTimeout n) := none_spelled _
theorem openLoadOn (n : Nat) : Statement (.openLoadOn n) := none_spelled _
theorem openLoadOff (n : Nat) : Statement (.openLoadOff n) := none_spelled _
theorem openLoadClear (n : Nat) : Statement (.openLoadClear n) := none_spelled _
theorem shortSup (n : Nat) : Statement (.shortSup n) := none_spelled _
theorem shortGnd (n : Nat) : Statement (.shortGnd n) := none_spelled _
theorem hswOvercurrent (k : Nat) : Statement (.hswOvercurrent k) := none_spelled _
theorem chOt (n : Nat) (hot : Bool) : Statement (.chOt n hot) := none_spelled _
theorem shortSupRetry (n : Nat) : Statement (.shortSupRetry n) := none_spelled _
theorem retryLeftRestore (n : Nat) : Statement (.retryLeftRestore n) := none_spelled _
theorem bstUv : Statement (.bstUv) := none_spelled _
theorem bstOv : Statement (.bstOv) := none_spelled _
theorem bstOvRelease : Statement (.bstOvRelease) := none_spelled _
theorem bstOc : Statement (.bstOc) := none_spelled _
theorem boostRestart : Statement (.boostRestart) := none_spelled _
theorem boostRetryReset : Statement (.boostRetryReset) := none_spelled _
theorem clampActive (on : Bool) : Statement (.clampActive on) := none_spelled _
theorem clampSustained : Statement (.clampSustained) := none_spelled _
theorem fanPwmPeriod (f : Nat) : Statement (.fanPwmPeriod f) := none_spelled _
theorem fanKickStart : Statement (.fanKickStart) := none_spelled _
theorem fanKickEnd (f : Nat) : Statement (.fanKickEnd f) := none_spelled _
theorem fanPauseEnd (f : Nat) : Statement (.fanPauseEnd f) := none_spelled _
theorem fanTachEdge (f t : Nat) : Statement (.fanTachEdge f t) := none_spelled _
theorem fanTachLoss (f : Nat) : Statement (.fanTachLoss f) := none_spelled _
theorem fanSlowTimer (f : Nat) : Statement (.fanSlowTimer f) := none_spelled _
theorem frameSlot (crackOk readOk : Bool) (fetchBad : Nat) : Statement (.frameSlot crackOk readOk fetchBad) := none_spelled _
theorem panelFault (cause : Nat) : Statement (.panelFault cause) := none_spelled _
theorem blinkPhase (n : Nat) : Statement (.blinkPhase n) := none_spelled _
theorem railPowerGood (i : Nat) : Statement (.railPowerGood i) := none_spelled _
theorem railSeqDelayExpiry : Statement (.railSeqDelayExpiry) := none_spelled _
theorem railHoldExpiry : Statement (.railHoldExpiry) := none_spelled _
theorem railFault (outOfRange : Bool) : Statement (.railFault outOfRange) := none_spelled _
theorem clearingTempTimeout : Statement (.clearingTempTimeout) := none_spelled _
theorem keyScan (raw : List Bool) : Statement (.keyScan raw) := none_spelled _
theorem keyStuckExpiry (i : Nat) : Statement (.keyStuckExpiry i) := none_spelled _
theorem spiWriteTransaction (mosi : List Byte) : Statement (.spiWriteTransaction mosi) := none_spelled _
theorem spiReadTransaction (mosi : List Byte) : Statement (.spiReadTransaction mosi) := none_spelled _
theorem i2cWrite (target : Nat) (wire : List Byte) : Statement (.i2cWrite target wire) := none_spelled _
theorem i2cRead (target a ctl : Nat) : Statement (.i2cRead target a ctl) := none_spelled _
theorem mbInDb (v : Word) : Statement (.mbInDb v) := none_spelled _
theorem mbOutDb (v : Word) : Statement (.mbOutDb v) := none_spelled _
theorem mbPtrWrite (outb : Bool) (i : Nat) (v : Word) : Statement (.mbPtrWrite outb i v) := none_spelled _
theorem mbInDataWrite (i : Nat) (v : Word) : Statement (.mbInDataWrite i v) := none_spelled _
theorem mbOutDataRead (j : Nat) : Statement (.mbOutDataRead j) := none_spelled _
theorem evqPop (v : Word) : Statement (.evqPop v) := none_spelled _
theorem evtSummaryClear (k : Nat) (v : Word) : Statement (.evtSummaryClear k v) := none_spelled _
theorem evqLostClear (k : Nat) (v : Word) : Statement (.evqLostClear k v) := none_spelled _
theorem hostErrClear (v : Word) : Statement (.hostErrClear v) := none_spelled _
theorem registerWrite (a : Nat) (v : Word) : Statement (.registerWrite a v) := none_spelled _
theorem mbAccept : Statement (.mbAccept) := none_spelled _
theorem chunkObjectTimeout : Statement (.chunkObjectTimeout) := none_spelled _
theorem responseObjectTimeout (cmd : Nat) : Statement (.responseObjectTimeout cmd) := none_spelled _
theorem sysStatus (m : Msg) : Statement (.sysStatus m) := none_spelled _
theorem sysSetMode (m : Msg) : Statement (.sysSetMode m) := none_spelled _
theorem quietTimeout : Statement (.quietTimeout) := none_spelled _
theorem sysSetTime (m : Msg) : Statement (.sysSetTime m) := none_spelled _
theorem sysGetTime (m : Msg) : Statement (.sysGetTime m) := none_spelled _
theorem sysReset (m : Msg) : Statement (.sysReset m) := none_spelled _
theorem sysNvRead (m : Msg) : Statement (.sysNvRead m) := none_spelled _
theorem sysNvWrite (m : Msg) : Statement (.sysNvWrite m) := none_spelled _
theorem sysGpioGet (m : Msg) : Statement (.sysGpioGet m) := none_spelled _
theorem sysGpioSet (m : Msg) : Statement (.sysGpioSet m) := none_spelled _
theorem sysSetGpio (m : Msg) : Statement (.sysSetGpio m) := none_spelled _
theorem idGet (m : Msg) : Statement (.idGet m) := none_spelled _
theorem cfgBegin (m : Msg) : Statement (.cfgBegin m) := none_spelled _
theorem cfgRead (m : Msg) : Statement (.cfgRead m) := none_spelled _
theorem cfgWrite (m : Msg) : Statement (.cfgWrite m) := none_spelled _
theorem cfgCommit (m : Msg) : Statement (.cfgCommit m) := none_spelled _
theorem cfgDiscard (m : Msg) : Statement (.cfgDiscard m) := none_spelled _
theorem cfgLoad (m : Msg) : Statement (.cfgLoad m) := none_spelled _
theorem cfgStatus (m : Msg) : Statement (.cfgStatus m) := none_spelled _
theorem cfgExport (m : Msg) : Statement (.cfgExport m) := none_spelled _
theorem sensRead (m : Msg) : Statement (.sensRead m) := none_spelled _
theorem sensPres (m : Msg) : Statement (.sensPres m) := none_spelled _
theorem sensHk (m : Msg) : Statement (.sensHk m) := none_spelled _
theorem sensSetAin (m : Msg) : Statement (.sensSetAin m) := none_spelled _
theorem sensSetMod (m : Msg) : Statement (.sensSetMod m) := none_spelled _
theorem sensSetPres (m : Msg) : Statement (.sensSetPres m) := none_spelled _
theorem sensSetHkLim (m : Msg) : Statement (.sensSetHkLim m) := none_spelled _
theorem calRun (m : Msg) : Statement (.calRun m) := none_spelled _
theorem calAbort (m : Msg) : Statement (.calAbort m) := none_spelled _
theorem calDelete (m : Msg) : Statement (.calDelete m) := none_spelled _
theorem calReadCoef (m : Msg) : Statement (.calReadCoef m) := none_spelled _
theorem calWriteCoef (m : Msg) : Statement (.calWriteCoef m) := none_spelled _
theorem calStatus (m : Msg) : Statement (.calStatus m) := none_spelled _
theorem calSetCfg (m : Msg) : Statement (.calSetCfg m) := none_spelled _
theorem loopOpen (m : Msg) : Statement (.loopOpen m) := none_spelled _
theorem loopClose (m : Msg) : Statement (.loopClose m) := none_spelled _
theorem loopSetCfg (m : Msg) : Statement (.loopSetCfg m) := none_spelled _
theorem loopGet (m : Msg) : Statement (.loopGet m) := none_spelled _
theorem loopInput (m : Msg) : Statement (.loopInput m) := none_spelled _
theorem loopSetProf (m : Msg) : Statement (.loopSetProf m) := none_spelled _
theorem zoneStatus (m : Msg) : Statement (.zoneStatus m) := none_spelled _
theorem zoneProvStatus (m : Msg) : Statement (.zoneProvStatus m) := none_spelled _
theorem zoneSetCfg (m : Msg) : Statement (.zoneSetCfg m) := none_spelled _
theorem zoneOff (m : Msg) : Statement (.zoneOff m) := none_spelled _
theorem zoneManual (m : Msg) : Statement (.zoneManual m) := none_spelled _
theorem zoneChangeover (m : Msg) : Statement (.zoneChangeover m) := none_spelled _
theorem zoneSetSched (m : Msg) : Statement (.zoneSetSched m) := none_spelled _
theorem zoneSetTime (m : Msg) : Statement (.zoneSetTime m) := none_spelled _
theorem solStatus (m : Msg) : Statement (.solStatus m) := none_spelled _
theorem solReadBins (m : Msg) : Statement (.solReadBins m) := none_spelled _
theorem solWriteBins (m : Msg) : Statement (.solWriteBins m) := none_spelled _
theorem solDiscard (m : Msg) : Statement (.solDiscard m) := none_spelled _
theorem solReadProb (m : Msg) : Statement (.solReadProb m) := none_spelled _
theorem solSetCfg (m : Msg) : Statement (.solSetCfg m) := none_spelled _
theorem actStatus (m : Msg) : Statement (.actStatus m) := none_spelled _
theorem actSetReq (m : Msg) : Statement (.actSetReq m) := none_spelled _
theorem actClear (m : Msg) : Statement (.actClear m) := none_spelled _
theorem actSetCfg (m : Msg) : Statement (.actSetCfg m) := none_spelled _
theorem actSetDev (m : Msg) : Statement (.actSetDev m) := none_spelled _
theorem fanStatus (m : Msg) : Statement (.fanStatus m) := none_spelled _
theorem fanSetReq (m : Msg) : Statement (.fanSetReq m) := none_spelled _
theorem fanClear (m : Msg) : Statement (.fanClear m) := none_spelled _
theorem fanSetCfg (m : Msg) : Statement (.fanSetCfg m) := none_spelled _
theorem fanSetDev (m : Msg) : Statement (.fanSetDev m) := none_spelled _
theorem panelStatus (m : Msg) : Statement (.panelStatus m) := none_spelled _
theorem panelWrite (m : Msg) : Statement (.panelWrite m) := none_spelled _
theorem panelRead (m : Msg) : Statement (.panelRead m) := none_spelled _
theorem panelUpdate (m : Msg) : Statement (.panelUpdate m) := none_spelled _
theorem panelAbort (m : Msg) : Statement (.panelAbort m) := none_spelled _
theorem panelBlinkStop (m : Msg) : Statement (.panelBlinkStop m) := none_spelled _
theorem panelClearFault (m : Msg) : Statement (.panelClearFault m) := none_spelled _
theorem panelSetCfg (m : Msg) : Statement (.panelSetCfg m) := none_spelled _
theorem keyRead (m : Msg) : Statement (.keyRead m) := none_spelled _
theorem keyStatus (m : Msg) : Statement (.keyStatus m) := none_spelled _
theorem keySetCfg (m : Msg) : Statement (.keySetCfg m) := none_spelled _
theorem busStatus (m : Msg) : Statement (.busStatus m) := none_spelled _
theorem busCounters (m : Msg) : Statement (.busCounters m) := none_spelled _
theorem busSetCfg (m : Msg) : Statement (.busSetCfg m) := none_spelled _
theorem acreStatus (m : Msg) : Statement (.acreStatus m) := none_spelled _
theorem acreSetCfg (m : Msg) : Statement (.acreSetCfg m) := none_spelled _
theorem acreMembers (m : Msg) : Statement (.acreMembers m) := none_spelled _
theorem logRead (m : Msg) : Statement (.logRead m) := none_spelled _
theorem logStatus (m : Msg) : Statement (.logStatus m) := none_spelled _
theorem logSummary (m : Msg) : Statement (.logSummary m) := none_spelled _
theorem logWrite (m : Msg) : Statement (.logWrite m) := none_spelled _
theorem logSetSnap (m : Msg) : Statement (.logSetSnap m) := none_spelled _
theorem healthStatus (m : Msg) : Statement (.healthStatus m) := none_spelled _
theorem healthLastFault (m : Msg) : Statement (.healthLastFault m) := none_spelled _
theorem healthMem (m : Msg) : Statement (.healthMem m) := none_spelled _
theorem updWriteImage (m : Msg) : Statement (.updWriteImage m) := none_spelled _
theorem updStatus (m : Msg) : Statement (.updStatus m) := none_spelled _
theorem updActivate (m : Msg) : Statement (.updActivate m) := none_spelled _
theorem secStatus (m : Msg) : Statement (.secStatus m) := none_spelled _
theorem secAttest (m : Msg) : Statement (.secAttest m) := none_spelled _
theorem secAttestGet (m : Msg) : Statement (.secAttestGet m) := none_spelled _
theorem secProvision (m : Msg) : Statement (.secProvision m) := none_spelled _
theorem secLockDebug (m : Msg) : Statement (.secLockDebug m) := none_spelled _
theorem testRun (m : Msg) : Statement (.testRun m) := none_spelled _
theorem testResult (m : Msg) : Statement (.testResult m) := none_spelled _
theorem selfTestComplete (pass : Bool) (sig : BitVec 64) : Statement (.selfTestComplete pass sig) := none_spelled _
theorem testPreconditionTimeout : Statement (.testPreconditionTimeout) := none_spelled _
theorem testRunEnd : Statement (.testRunEnd) := none_spelled _
theorem imageVerifyDone : Statement (.imageVerifyDone) := none_spelled _
theorem attestDone : Statement (.attestDone) := none_spelled _
theorem trialConfirm : Statement (.trialConfirm) := none_spelled _
theorem busFrameReceive (p : Nat) (k : FrameKind) : Statement (.busFrameReceive p k) := none_spelled _
theorem readProperty (o : ObjId) (p : PropId) : Statement (.readProperty o p) := none_spelled _
theorem readPropertyMultiple (l : List (ObjId × PropId)) : Statement (.readPropertyMultiple l) := none_spelled _
theorem writeProperty (o : ObjId) (p : PropId) (v : BVal) : Statement (.writeProperty o p v) := none_spelled _
theorem writePropertyMultiple (l : List PropWrite) : Statement (.writePropertyMultiple l) := none_spelled _
theorem subscribeCov (client procId : Nat) (o : ObjId) (confirmed : Option Bool) (lifetime : Nat) : Statement (.subscribeCov client procId o confirmed lifetime) := none_spelled _
theorem acknowledgeAlarm (o : ObjId) (tr : Nat) : Statement (.acknowledgeAlarm o tr) := none_spelled _
theorem getEventInformation : Statement (.getEventInformation) := none_spelled _
theorem readRange (o : ObjId) (range : RangeBy) : Statement (.readRange o range) := none_spelled _
theorem atomicReadFile (file start : Nat) (stream : Bool) (count : Nat) : Statement (.atomicReadFile file start stream count) := none_spelled _
theorem atomicWriteFile (file start : Nat) (stream : Bool) (data : List Byte) : Statement (.atomicWriteFile file start stream data) := none_spelled _
theorem deviceCommunicationControl (n : Nat) (pass : List Byte) : Statement (.deviceCommunicationControl n pass) := none_spelled _
theorem reinitializeDevice (n : Nat) (pass : List Byte) : Statement (.reinitializeDevice n pass) := none_spelled _
theorem whoIs (range : Option (Nat × Nat)) : Statement (.whoIs range) := none_spelled _
theorem whoHas (range : Option (Nat × Nat)) (o : Option ObjId) (name : List Byte) : Statement (.whoHas range o name) := none_spelled _
theorem timeSynchronization (y mo d h mi sec : Nat) : Statement (.timeSynchronization y mo d h mi sec) := none_spelled _
theorem utcTimeSynchronization (y mo d h mi sec : Nat) : Statement (.utcTimeSynchronization y mo d h mi sec) := none_spelled _
theorem unrecognizedService : Statement (.unrecognizedService) := none_spelled _
theorem bdtFdtFunction : Statement (.bdtFdtFunction) := none_spelled _
theorem fdRegistrationResult (ok : Bool) : Statement (.fdRegistrationResult ok) := none_spelled _
theorem fdReregister : Statement (.fdReregister) := none_spelled _
theorem mstpReplyPostponed : Statement (.mstpReplyPostponed) := none_spelled _
theorem busRelease : Statement (.busRelease) := none_spelled _
theorem apduTimeout (k : Nat) : Statement (.apduTimeout k) := none_spelled _
theorem covLifetimeExpiry (k : Nat) : Statement (.covLifetimeExpiry k) := none_spelled _
theorem trendLogSample (n : Nat) : Statement (.trendLogSample n) := none_spelled _
theorem bushelRingService : Statement (.bushelRingService) := none_spelled _
theorem bushelFlushTimer : Statement (.bushelFlushTimer) := none_spelled _
theorem bushelPoolRestore : Statement (.bushelPoolRestore) := none_spelled _
theorem bushelScan : Statement (.bushelScan) := none_spelled _
theorem summaryWriteTimer : Statement (.summaryWriteTimer) := none_spelled _
theorem histogramSample : Statement (.histogramSample) := none_spelled _
theorem nvCodewordWrite (verifyOk bank1Lost : Bool) : Statement (.nvCodewordWrite verifyOk bank1Lost) := none_spelled _
theorem powerUp (vbatHeld : Bool) (r : Release) : Statement (.powerUp vbatHeld r) := none_spelled _
theorem backupSwitchover (torn : Bool) : Statement (.backupSwitchover torn) := none_spelled _
theorem powerFailWarning : Statement (.powerFailWarning) := none_spelled _
theorem pfwRecover (r : Release) : Statement (.pfwRecover r) := none_spelled _
theorem railUndervoltage : Statement (.railUndervoltage) := none_spelled _
theorem nrst : Statement (.nrst) := none_spelled _
theorem softReset (r : Release) : Statement (.softReset r) := none_spelled _
theorem controlPathRelease : Statement (.controlPathRelease) := none_spelled _
theorem optTick : Statement (.optTick) := none_spelled _
theorem calendarSecond : Statement (.calendarSecond) := none_spelled _
theorem heartbeatTimeout : Statement (.heartbeatTimeout) := none_spelled _
theorem appCoreRestart : Statement (.appCoreRestart) := none_spelled _
theorem appRestartComplete : Statement (.appRestartComplete) := none_spelled _
theorem supervisionTimeout : Statement (.supervisionTimeout) := none_spelled _
theorem mgtWatchdogExpiry (r : Release) : Statement (.mgtWatchdogExpiry r) := none_spelled _
theorem memoryReadError (mem unit : Nat) (fatal : Bool) : Statement (.memoryReadError mem unit fatal) := none_spelled _
theorem scrubRead (k : Nat) : Statement (.scrubRead k) := none_spelled _
theorem clockMonitorWindow (count : Nat) (byXtal : Bool) : Statement (.clockMonitorWindow count byXtal) := none_spelled _
theorem referenceStop : Statement (.referenceStop) := none_spelled _
theorem pllUnlock : Statement (.pllUnlock) := none_spelled _
theorem thermalEvaluation : Statement (.thermalEvaluation) := none_spelled _
theorem thermalRestart (r : Release) : Statement (.thermalRestart r) := none_spelled _
theorem analogTrip : Statement (.analogTrip) := none_spelled _
theorem gpioEdge (g : Nat) (high : Bool) : Statement (.gpioEdge g high) := none_spelled _
theorem extest : Statement (.extest) := none_spelled _
theorem idcode : Statement (.idcode) := none_spelled _
theorem samplePreload : Statement (.samplePreload) := none_spelled _
theorem highz : Statement (.highz) := none_spelled _
theorem clamp : Statement (.clamp) := none_spelled _
theorem debugAccess (op : BitVec 5) : Statement (.debugAccess op) := none_spelled _
theorem bypass (op : BitVec 5) : Statement (.bypass op) := none_spelled _
theorem nrstRelease (r : Release) : Statement (.nrstRelease r) := none_spelled _
theorem railUvRecovery (r : Release) : Statement (.railUvRecovery r) := none_spelled _
theorem calendarCrystalLoss : Statement (.calendarCrystalLoss) := none_spelled _
theorem linkUpChange (p : Nat) (up sole : Bool) : Statement (.linkUpChange p up sole) := none_spelled _
theorem railFallen (i : Nat) : Statement (.railFallen i) := none_spelled _
theorem busFrameTransmitDone (p : Nat) : Statement (.busFrameTransmitDone p) := none_spelled _

end Sys2Proof.Laws.WordFree
end

