-- ==== Sys2Proof/Tests/Slice0.lean ====
section
/-! SUPPORT. Small tests: operands that are ill-formed, the manual's own numbers, and, for every statement with hypotheses, a state and operands that meet them. -/

namespace Sys2Proof.Tests

set_option Elab.async false

open Sys2Proof Sys2Proof.Machine

/-! ## Well-formedness: a term for each check, which the check refuses; and the largest operands, which it accepts -/

theorem test_ill_formed_operands_1 : ([
    .beacon 0 (List.replicate 1473 0), .join 0 (List.replicate 1473 0), .slot 0 (List.replicate 1473 0),
     .acreMemberForget 1024, .windowStart 21, .roundStart 21, .windowEnd 21 default, .resultPublish 21,
     .presenceWarmupEnd 32, .presenceHoldExpiry 32, .calVisitStart 21, .calVisitEnd 21, .actSenseMeasure 32 0,
     .actSenseSkip 32, .loopEvaluation 0, .loopEvaluation 128, .loopCommit 0 false, .loopCommit 128 false,
     .specConfirmExpiry 32, .changeoverDelayExpiry 32, .windowDelayExpiry 32, .faultDelayExpiry 32,
     .comfortDelayExpiry 32, .manualExpiry 32, .solsticeBinEnd 64, .occBinEnd 32, .pwmPeriod (List.replicate 33 0),
     .minOffExpiry 32, .thermalPeriodStart 32, .thermalOnPhaseEnd 32, .dutyBucketEnd 32, .degradedPeakStart 32,
     .peakEnd 32, .actDecayEnd 32, .floatOverrunEnd 16, .floatResyncEnd 16, .floatReversalEnd 16,
     .budgetWaitTimeout 32, .openLoadOn 32, .openLoadOff 32] : List Instr).all (fun c => !c.wf) = true := by
  decide +kernel

theorem test_ill_formed_operands_2 : ([
    .openLoadClear 32, .shortSup 32, .shortGnd 32, .hswOvercurrent 16, .chOt 32 false, .shortSupRetry 32,
     .retryLeftRestore 32, .fanPwmPeriod 16, .fanKickEnd 16, .fanPauseEnd 16, .fanTachEdge 16 0, .fanTachLoss 16,
     .fanSlowTimer 16, .panelFault 0, .panelFault 6, .blinkPhase 15, .railPowerGood 5,
     .keyScan (List.replicate 65 false), .keyStuckExpiry 64, .i2cWrite 128 [], .i2cRead 127 65536 255,
     .i2cRead 127 65535 256, .i2cRead 128 65535 255, .mbPtrWrite false 4 0, .mbInDataWrite 4 0, .mbOutDataRead 4,
     .evtSummaryClear 4 0, .evqLostClear 4 0, .registerWrite 65536 0, .responseObjectTimeout 65536,
     .busFrameReceive 4 .other, .acknowledgeAlarm {} 3, .deviceCommunicationControl 3 [],
     .timeSynchronization 1999 12 31 23 59 59, .timeSynchronization 2000 0 31 23 59 59,
     .timeSynchronization 2000 13 31 23 59 59, .timeSynchronization 2000 12 0 23 59 59,
     .timeSynchronization 2000 12 32 23 59 59, .timeSynchronization 2000 12 31 24 59 59,
     .timeSynchronization 2000 12 31 23 60 59] : List Instr).all (fun c => !c.wf) = true := by
  decide +kernel

theorem test_ill_formed_operands_3 : ([
    .timeSynchronization 2000 12 31 23 59 60, .utcTimeSynchronization 1999 12 31 23 59 59,
     .utcTimeSynchronization 2000 0 31 23 59 59, .utcTimeSynchronization 2000 13 31 23 59 59,
     .utcTimeSynchronization 2000 12 0 23 59 59, .utcTimeSynchronization 2000 12 32 23 59 59,
     .utcTimeSynchronization 2000 12 31 24 59 59, .utcTimeSynchronization 2000 12 31 23 60 59,
     .utcTimeSynchronization 2000 12 31 23 59 60, .apduTimeout 8, .covLifetimeExpiry 256, .trendLogSample 16,
     .memoryReadError 0 0 false, .memoryReadError 9 0 false, .scrubRead 4, .gpioEdge 16 false,
     .linkUpChange 4 false false, .railFallen 5, .busFrameTransmitDone 4] : List Instr).all (fun c => !c.wf) = true := by
  decide +kernel

theorem test_well_formed_operands_1 : ([
    .beacon 0 (List.replicate 1472 0), .join 0 (List.replicate 1472 0), .slot 0 (List.replicate 1472 0),
     .acreMemberForget 1023, .windowStart 20, .roundStart 20, .windowEnd 20 default, .resultPublish 20,
     .presenceWarmupEnd 31, .presenceHoldExpiry 31, .calVisitStart 20, .calVisitEnd 20, .actSenseMeasure 31 0,
     .actSenseSkip 31, .loopEvaluation 127, .loopCommit 127 false, .specConfirmExpiry 31,
     .changeoverDelayExpiry 31, .windowDelayExpiry 31, .faultDelayExpiry 31, .comfortDelayExpiry 31,
     .manualExpiry 31, .solsticeBinEnd 63, .occBinEnd 31, .pwmPeriod (List.replicate 32 0), .minOffExpiry 31,
     .thermalPeriodStart 31, .thermalOnPhaseEnd 31, .dutyBucketEnd 31, .degradedPeakStart 31, .peakEnd 31,
     .actDecayEnd 31, .floatOverrunEnd 15, .floatResyncEnd 15, .floatReversalEnd 15, .budgetWaitTimeout 31,
     .openLoadOn 31, .openLoadOff 31, .openLoadClear 31, .shortSup 31] : List Instr).all Instr.wf = true := by
  decide +kernel

theorem test_well_formed_operands_2 : ([
    .shortGnd 31, .hswOvercurrent 15, .chOt 31 false, .shortSupRetry 31, .retryLeftRestore 31, .fanPwmPeriod 15,
     .fanKickEnd 15, .fanPauseEnd 15, .fanTachEdge 15 0, .fanTachLoss 15, .fanSlowTimer 15, .panelFault 5,
     .blinkPhase 14, .railPowerGood 4, .keyScan (List.replicate 64 false), .keyStuckExpiry 63, .i2cWrite 127 [],
     .i2cRead 127 65535 255, .mbPtrWrite false 3 0, .mbInDataWrite 3 0, .mbOutDataRead 3, .evtSummaryClear 3 0,
     .evqLostClear 3 0, .registerWrite 65535 0, .responseObjectTimeout 65535, .busFrameReceive 3 .other,
     .acknowledgeAlarm {} 2, .deviceCommunicationControl 2 [], .timeSynchronization 2000 12 31 23 59 59,
     .utcTimeSynchronization 2000 12 31 23 59 59, .apduTimeout 7, .covLifetimeExpiry 255, .trendLogSample 15,
     .memoryReadError 8 0 false, .scrubRead 3, .gpioEdge 15 false, .linkUpChange 3 false false, .railFallen 4,
     .busFrameTransmitDone 3] : List Instr).all Instr.wf = true := by
  decide +kernel

/-- A payload one byte longer than a mailbox holds. -/
def longMsg : Msg := { payload := zeros 4081 }

theorem test_ill_formed_messages_1 : ([
    .sysStatus, .sysSetMode, .sysSetTime, .sysGetTime, .sysReset, .sysNvRead, .sysNvWrite, .sysGpioGet,
     .sysGpioSet, .sysSetGpio, .idGet, .cfgBegin, .cfgRead, .cfgWrite, .cfgCommit, .cfgDiscard, .cfgLoad,
     .cfgStatus, .cfgExport, .sensRead, .sensPres, .sensHk, .sensSetAin, .sensSetMod, .sensSetPres, .sensSetHkLim,
     .calRun, .calAbort, .calDelete, .calReadCoef, .calWriteCoef, .calStatus, .calSetCfg, .loopOpen, .loopClose,
     .loopSetCfg, .loopGet, .loopInput, .loopSetProf, .zoneStatus, .zoneProvStatus, .zoneSetCfg, .zoneOff,
     .zoneManual, .zoneChangeover, .zoneSetSched, .zoneSetTime, .solStatus, .solReadBins, .solWriteBins] : List (Msg → Instr)).all
    (fun c => !(c longMsg).wf && (c {}).wf) = true := by
  decide +kernel

theorem test_ill_formed_messages_2 : ([
    .solDiscard, .solReadProb, .solSetCfg, .actStatus, .actSetReq, .actClear, .actSetCfg, .actSetDev, .fanStatus,
     .fanSetReq, .fanClear, .fanSetCfg, .fanSetDev, .panelStatus, .panelWrite, .panelRead, .panelUpdate,
     .panelAbort, .panelBlinkStop, .panelClearFault, .panelSetCfg, .keyRead, .keyStatus, .keySetCfg, .busStatus,
     .busCounters, .busSetCfg, .acreStatus, .acreSetCfg, .acreMembers, .logRead, .logStatus, .logSummary,
     .logWrite, .logSetSnap, .healthStatus, .healthLastFault, .healthMem, .updWriteImage, .updStatus, .updActivate,
     .secStatus, .secAttest, .secAttestGet, .secProvision, .secLockDebug, .testRun, .testResult] : List (Msg → Instr)).all
    (fun c => !(c longMsg).wf && (c {}).wf) = true := by
  decide +kernel

/-! ## The manual's own numbers -/

/-- R63: the worked example of "Chain": D of the wing's clock against its master resolves to class 2 and 987,650 cycles. -/
theorem test_chain_example_resolves : resolve (-987651 * 4096 + 1529) = some (2, 987650) := by decide +kernel

/-- R6: the example of "Conventions": MC 0x0000_0010 is 32 cycles after MC 0xFFFF_FFF0. -/
theorem test_mc_wraps : mcDiff 0xFFFFFFF0 0x10 = 32 ∧ laterMC 0xFFFFFFF0 0x10 = true := by decide +kernel

/-- R328: the check value of CRC-32C over "123456789". -/
theorem test_crc32c_check_value :
    crc32c [0x31, 0x32, 0x33, 0x34, 0x35, 0x36, 0x37, 0x38, 0x39] = 0xE3069283 := by decide +kernel

/-- R94, R95: the worked example of "Sensing": code 6,055,510 at gain 8 and 249.87 µA is 21.400 °C, as the example rounds it. -/
theorem test_pt1000_example :
    (match pt1000 (codeVolts 6055510 3 / (24987 / 100000000)) 1000 with
     | .val t => decide (213995 / 10000 < t) && decide (t < 214005 / 10000)
     | _ => false) = true := by decide +kernel

/-- R161, R162: the worked example of "The loop engine": the integral outgrows its exponent and is halved. -/
theorem test_integral_example :
    coefOf 0x250174C4 = 95428 * pow2 (-27) ∧
    qAt (-24) (8385000 * pow2 (-24) + 95428 * pow2 (-27) * (39322 / 65536)) = 8392157 ∧
    storeStage (-24) 0 [8392157] = { exp := -23, hr := 0, vals := [4196078] } := by decide +kernel

/-- R262: the example of "Fans": one revolution of 6,250,000 cycles is 1,200 rpm. -/
theorem test_fan_speed : rpmOf 2 [6250000, 3125000, 0] = 1200 := by decide +kernel

/-- R304: the example of the keys: 9, 10, 17 and 18 form a rectangle, three of them do not. -/
theorem test_key_rectangle : hasRectangle [9, 10, 17, 18] = true ∧ hasRectangle [10, 17, 18] = false := by decide +kernel

/-- R465: the example of "Management": version 0x0400_0002 has epoch 4. -/
theorem test_epoch : epochOf 0x04000002 = 4 := by decide +kernel

/-- The queue is served first in, first out. -/
theorem test_step_takes_front :
    (match step { State.reset with pending := [.idcode, .highz] } with
     | .next t => decide (t.pending = [.highz] ∧ t.jtag.ir = 1)
     | _ => false) = true := by decide +kernel

/-- R490: with EXTEST current, every power switch is open, whatever the state. -/
theorem test_extest_opens_switches (s : State) (n k : Nat) :
    (setIr 0 .boundary s).actPinDriven n = false ∧ (setIr 0 .boundary s).hswPullIn k = false ∧
      (setIr 0 .boundary s).bstswOn = false := by
  simp [State.actPinDriven, State.hswPullIn, State.bstswOn, State.scanHeld, setIr]

theorem test_reset_queue : State.reset.pending = [] := rfl

/-! ## States the witnesses start from -/

/-- A machine whose control path is released and whose application core executes commands; every block as reset leaves it. -/
def up : State :=
  { State.reset with sup.phase := .running, sup.mode := .run, mgt.appRunning := true, mbox.ready := true }

/-- `up` with one word of the configuration in force and committed. -/
def upCw (sec : Sec) (i w : Nat) (v : Word) (s : State) : State :=
  { s with cfg.inForce := s.cfg.inForce.setWord sec i w v, cfg.committed := s.cfg.committed.setWord sec i w v }

/-- `up` with Acre ID 1. -/
def acreUp : State := upCw .chain 0 1 (merge 0x3FF (up.cw .chain 0 1) 1) up

/-- `up` with a panel of 400 × 300 pixels enabled, a table of one band and four modes of 2 frames each, and the rails on. -/
def pnlUp : State :=
  let s := upCw .panel 0 0 (w32 (2 ^ 31 + 400 * 2 ^ 17 + 300 * 2 ^ 7)) up
  { s with panel.wf := some (zeros 6 ++ [1, 4] ++ zeros 16 ++ [2, 2, 2, 2] ++ zeros 484), panel.rails := .on, panel.tempSeen := true }

/-- `up` with word 0 of BUS in force: BACnet over port `port`, with the further bits `more`. -/
def busOn (port more : Nat) : State :=
  { up with cfg.inForce := up.cfg.inForce.setWord .bus 0 0 (up.cw .bus 0 0 ||| w32 (1 + 4 * port + more)) }

/-- `busOn` with the words in force committed as well. -/
def busSettled (port more : Nat) : State :=
  { busOn port more with cfg.committed := (busOn port more).cfg.inForce }

theorem zoneWord_ready (s : State) (hc : s.cfg.committed = Image.reset)
    (hf : s.cfg.inForce.sec .loop = Image.reset.sec .loop) (hw : s.panel.wf = none) :
    let img := withOutHold s (s.cfg.committed.setWords .zone (31 * Sec.words .zone + 2)
      [merge 0xFFFF (s.cfg.committed.word .zone 31 2) (w32 (wrap 16 2100))])
    commitFail s img = none ∧ imgFind (s.lockBad img) = none := by
  have e : [merge 0xFFFF (Image.reset.word .zone 31 2) (w32 (wrap 16 2100))] =
      ((Image.reset.sec .zone).drop (31 * Sec.words .zone + 2)).take 1 := by decide +kernel
  refine reset_ready s hc hw _ ?_
  rw [hc, e, setWords_self, withOutHold_self s hf]


/-- A coefficient record at 25 °C with `VREF_DEV` of the part's own factory model. -/
def factRecord : CalSet := { temp := 25 * 65536, vrefDev := ((Config.vrefFact 0).toNat : Int) - 2 ^ 24 }

theorem sext_wrap (x : Int) (h1 : -2147483648 ≤ x) (h2 : x < 2147483648) : sext 32 (wrap 32 x) = x := by
  simp only [sext, wrap, show (2 : Int) ^ 32 = 4294967296 from rfl, show 2 ^ 32 = 4294967296 from rfl, show 2 ^ (32 - 1) = 2147483648 from rfl]
  split <;> omega

theorem unle_le4 (n : Nat) (h : n < 4294967296) : unle (le 4 n) = n := by
  simp only [le, unle, BitVec.toNat_ofNat]
  omega

theorem ofBytes_vref (b : List Byte) : (CalSet.ofBytes b).vrefDev = sext 32 (unle (slice b 0x2A4 4)) := rfl

theorem factRecord_vref : (CalSet.ofBytes factRecord.bytes).vrefDev = factRecord.vrefDev := by
  have hv := (Config.vrefFact 0).isLt
  obtain ⟨a, b, e, h⟩ : ∃ a b : List Byte, factRecord.bytes = a ++ (leI32 factRecord.vrefDev ++ b) ∧ a.length = 0x2A4 := by
    refine ⟨leI32 factRecord.temp ++ le32 factRecord.opt ++ le16 (b2n factRecord.valid + at' (b2n factRecord.kept10) 1 +
      at' (b2n factRecord.kept11) 2) ++ zeros 2 ++ le32 factRecord.actSkip ++ zeros 16 ++
      factRecord.fmod.flatMap (fun r => r.flatMap pairBytes) ++ factRecord.pmod.flatMap (fun r => r.flatMap pairBytes) ++
      pairBytes factRecord.hmod ++ factRecord.exc.flatMap (fun p => leI32 p.1 ++ leI32 p.2), ?_, ?_, ?_⟩
    rotate_left
    · unfold CalSet.bytes; simp only [List.append_assoc]; rfl
    · decide +kernel
  have w : wrap 32 factRecord.vrefDev < 4294967296 := by unfold wrap; omega
  rw [ofBytes_vref, e]
  unfold slice
  dsimp only
  rw [ List.drop_left' h, List.take_left' (show (leI32 factRecord.vrefDev).length = 4 from rfl),
    show 4 - (leI32 factRecord.vrefDev).length = 0 from rfl, show zeros 0 = [] from rfl, List.append_nil, leI32, unle_le4 _ w]
  exact sext_wrap _ (by unfold factRecord; dsimp only; omega) (by unfold factRecord; dsimp only; omega)

theorem factRecord_ok : coefPlausible (CalSet.ofBytes factRecord.bytes) = true := by
  have f : factVrefDev (25 * 65536) = factRecord.vrefDev := by
    have : factLine ((Config.vrefFact 0).toNat : Int) (Config.vrefFact 1).toNat (25 * 65536) = (((Config.vrefFact 0).toNat : Int) : Rat) := by
      unfold factLine; norm_num
    unfold factVrefDev factRecord
    rw [this]
    simp only [rneQ, rne, Rat.num_intCast, Rat.den_intCast]
    simp only [Nat.cast_one, Int.fdiv_one, mul_one, sub_self, mul_zero, zero_lt_one, if_true]
  have g : vrefPlausible (CalSet.ofBytes factRecord.bytes) = true := by
    unfold vrefPlausible
    rw [factRecord_vref, show (CalSet.ofBytes factRecord.bytes).temp = 25 * 65536 by decide +kernel, f]
    simp
  unfold coefPlausible
  simp only [g, Bool.and_true, Bool.and_eq_true]
  refine ⟨⟨⟨⟨⟨⟨⟨?_, ?_⟩, ?_⟩, ?_⟩, ?_⟩, ?_⟩, ?_⟩, ?_⟩ <;> decide +kernel

/-! ## Witnesses

One theorem per statement with hypotheses, one conjunct per clause, at a boundary of its ranges where there is one. The
clauses that need a signed container have their witnesses at the end. -/

theorem witness_StepRunsFront :
    (∃ (s : State), s.pending = .ptTick :: []) ∧
    (∃ (s : State), s.pending = []) := by
  refine ⟨?_, ?_⟩
  · exact ⟨({ up with pending := [.ptTick] }), by decide +kernel⟩
  · exact ⟨(up), by decide +kernel⟩

theorem witness_StepsKeepNvmCanonical :
    ∃ (s : State), s.nvWf ∧ ∃ t, step s = .next t := by
  exact ⟨({ up with pending := [.ptTick] }), ⟨⟨by decide +kernel, by decide +kernel⟩, _, rfl⟩⟩

theorem witness_StepsClearNoOtpBit :
    ∃ (s : State), s.provWf ∧ ∃ t, step s = .next t := by
  exact ⟨({ up with pending := [.ptTick], mgt.prov := some { State.reset.mgt.otp with debugLock := true } }),
      ⟨fun n h => by cases h; decide +kernel, _, rfl⟩⟩

theorem witness_VersionsAndEpochs :
    ∃ (s : State), s.alive = true ∧ s.mgt.upd.state = 2 ∧ s.mgt.upd.kind = 1 ∧ s.mgt.att.running = false ∧
        nvBusy s.nvm 7 = false ∧ s.bankBad s.mgt.upd.bank = false ∧ (s.mgt.upd.bank = 0 → s.mgt.delivered = false) ∧
        64 < epochOf (contVersion (nth s.mgt.flash s.mgt.upd.bank)) := by
  exact ⟨({ up with mgt.upd := { state := 2, kind := 1, bank := 0 }, mgt.delivered := false, mgt.flash := [List.replicate 11 0 ++ [65] ++ List.replicate 300 65, []] }),
      by decide +kernel⟩

theorem witness_InputCommitsRejected :
    (∃ (s : State) (img : Image) (m : Msg), s.executes 0x0204 m ∧ m.plain (0) ∧ s.cfg.edit = some { img := img } ∧
        img.fld .ain 95 0 27 24 = 6) ∧
    (∃ (s : State) (img : Image) (m : Msg), s.executes 0x0204 m ∧ m.plain (0) ∧ s.cfg.edit = some { img := img } ∧
        img.fld .ain 0 0 27 24 = 2 ∧ img.fld .ain 0 0 23 21 ≠ 0) ∧
    (∃ (s : State) (img : Image) (m : Msg), s.executes 0x0204 m ∧ m.plain (0) ∧ s.cfg.edit = some { img := img } ∧
        img.fld .ain 0 0 11 2 = 0 ∧ img.fld .ain 0 0 27 24 = 3) ∧
    (∃ (s : State) (img : Image) (m : Msg), s.executes 0x0204 m ∧ m.plain (0) ∧ s.cfg.edit = some { img := img } ∧
        img.fld .ain 0 0 11 2 = 10 ∧ img.fld .ain 0 0 27 24 = 2) ∧
    (∃ (s : State) (img : Image) (m : Msg), s.executes 0x0204 m ∧ m.plain (0) ∧ s.cfg.edit = some { img := img } ∧
        img.fld .ain 0 0 11 2 = 9) ∧
    (∃ (s : State) (img : Image) (m : Msg), s.executes 0x0204 m ∧ m.plain (0) ∧ s.cfg.edit = some { img := img } ∧
        img.fld .ain 0 0 27 24 = 4 ∧ (img.word .ain 0 1).toInt ≤ 0) := by
  refine ⟨?_, ?_, ?_, ?_, ?_, ?_⟩
  · exact ⟨({ up with cfg.edit := some { img := Image.reset.setWord .ain 95 0 0x06000000 } }),
      (Image.reset.setWord .ain 95 0 0x06000000), ({ tag := 7 }), ⟨by decide +kernel, by decide +kernel,
      by decide +kernel, .inl (by decide +kernel)⟩, ⟨by decide +kernel, by decide +kernel⟩, by decide +kernel⟩
  · exact ⟨({ up with cfg.edit := some { img := Image.reset.setWord .ain 0 0 0x02200000 } }),
      (Image.reset.setWord .ain 0 0 0x02200000), ({}), ⟨by decide +kernel, by decide +kernel, by decide +kernel,
      .inl (by decide +kernel)⟩, ⟨by decide +kernel, by decide +kernel⟩, by decide +kernel⟩
  · exact ⟨({ up with cfg.edit := some { img := Image.reset.setWord .ain 0 0 0x03000000 } }),
      (Image.reset.setWord .ain 0 0 0x03000000), ({}), ⟨by decide +kernel, by decide +kernel, by decide +kernel,
      .inl (by decide +kernel)⟩, ⟨by decide +kernel, by decide +kernel⟩, by decide +kernel⟩
  · exact ⟨({ up with cfg.edit := some { img := Image.reset.setWord .ain 0 0 0x02000028 } }),
      (Image.reset.setWord .ain 0 0 0x02000028), ({}), ⟨by decide +kernel, by decide +kernel, by decide +kernel,
      .inl (by decide +kernel)⟩, ⟨by decide +kernel, by decide +kernel⟩, by decide +kernel⟩
  · exact ⟨({ up with cfg.edit := some { img := Image.reset.setWord .ain 0 0 0x03000024 } }),
      (Image.reset.setWord .ain 0 0 0x03000024), ({}), ⟨by decide +kernel, by decide +kernel, by decide +kernel,
      .inl (by decide +kernel)⟩, ⟨by decide +kernel, by decide +kernel⟩, by decide +kernel⟩
  · exact ⟨({ up with cfg.edit := some { img := (Image.reset.setWord .ain 0 0 0x04000028).setWord .ain 0 1 0 } }),
      ((Image.reset.setWord .ain 0 0 0x04000028).setWord .ain 0 1 0), ({}), ⟨by decide +kernel, by decide +kernel,
      by decide +kernel, .inl (by decide +kernel)⟩, ⟨by decide +kernel, by decide +kernel⟩, by decide +kernel⟩

theorem witness_ChainStartsCounting :
    (∃ (s : State) (pos : Bool), s.alive = true ∧ s.chain.st = .start ∧ s.synthetic = false ∧
        pos ≠ s.cb .chain 0 0 10) ∧
    (∃ (s : State), s.alive = true ∧ s.chain.st = .start ∧ s.synthetic = false) := by
  refine ⟨?_, ?_⟩
  · exact ⟨({ up with chain.st := .start }), (true), by decide +kernel⟩
  · exact ⟨({ up with chain.st := .start, chain.now := 5 }), by decide +kernel⟩

theorem witness_CrossingsMeasured :
    (∃ (s : State) (pos : Bool), s.alive = true ∧ pos ≠ s.cb .chain 0 0 10 ∧
        (s.chain.st = .acquire ∨ s.chain.st = .holdover) ∧ s.chain.lastCross = none) ∧
    (∃ (s : State) (time : Nat) (pos : Bool), s.alive = true ∧ pos ≠ s.cb .chain 0 0 10 ∧
        (s.chain.st = .acquire ∨ s.chain.st = .holdover) ∧ s.chain.lastCross = some 900000 ∧
        (((time : Int) - 24 - 6 * s.cf .chain 0 0 9 2) - 900000) * 65 < 18000000) ∧
    (∃ (s : State) (time : Nat) (pos : Bool), s.alive = true ∧ pos ≠ s.cb .chain 0 0 10 ∧
        (s.chain.st = .acquire ∨ s.chain.st = .holdover) ∧ s.chain.lastCross = some 1000000 ∧
        18000000 ≤ (((time : Int) - 24 - 6 * s.cf .chain 0 0 9 2) - 1000000) * 65 ∧
        max 1 (rne (((time : Int) - 24 - 6 * s.cf .chain 0 0 9 2) - 1000000) s.lenL) = 1 ∧
        ¬ 200 * (((((time : Int) - 24 - 6 * s.cf .chain 0 0 9 2) - 1000000).toNat : Int) - 400000).natAbs ≤ 400000) ∧
    (∃ (s : State) (time : Nat) (pos : Bool), s.alive = true ∧ pos ≠ s.cb .chain 0 0 10 ∧
        (s.chain.st = .acquire ∨ s.chain.st = .holdover) ∧ s.chain.lastCross = some 1000000 ∧
        18000000 ≤ (((time : Int) - 24 - 6 * s.cf .chain 0 0 9 2) - 1000000) * 65 ∧
        max 1 (rne (((time : Int) - 24 - 6 * s.cf .chain 0 0 9 2) - 1000000) s.lenL) = 1 ∧ s.chain.lastPeriod = none ∧
        24000000 ≤ 65 * (((time : Int) - 24 - 6 * s.cf .chain 0 0 9 2) - 1000000).toNat ∧
        45 * (((time : Int) - 24 - 6 * s.cf .chain 0 0 9 2) - 1000000).toNat ≤ 24000000 ∧ s.chain.consec < 19) ∧
    (∃ (s : State) (time : Nat) (pos : Bool), s.alive = true ∧ pos ≠ s.cb .chain 0 0 10 ∧
        (s.chain.st = .acquire ∨ s.chain.st = .holdover) ∧ s.chain.lastCross = some 1000000 ∧
        18000000 ≤ (((time : Int) - 24 - 6 * s.cf .chain 0 0 9 2) - 1000000) * 65 ∧
        max 1 (rne (((time : Int) - 24 - 6 * s.cf .chain 0 0 9 2) - 1000000) s.lenL) = 1 ∧
        200 * (((((time : Int) - 24 - 6 * s.cf .chain 0 0 9 2) - 1000000).toNat : Int) - 479000).natAbs ≤ 479000 ∧
        24000000 ≤ 65 * (((time : Int) - 24 - 6 * s.cf .chain 0 0 9 2) - 1000000).toNat ∧
        45 * (((time : Int) - 24 - 6 * s.cf .chain 0 0 9 2) - 1000000).toNat ≤ 24000000 ∧ 19 ≤ s.chain.consec) ∧
    (∃ (s : State) (time : Nat) (pos : Bool), s.alive = true ∧ pos ≠ s.cb .chain 0 0 10 ∧ s.chain.st = .locked ∧
        ((s.windowOf ((time : Int) - 24 - 6 * s.cf .chain 0 0 9 2)).2 < -512 ∨ 511 < (s.windowOf ((time : Int) - 24 - 6 * s.cf .chain 0 0 9 2)).2)) ∧
    (∃ (s : State) (time : Nat) (pos : Bool), s.alive = true ∧ pos ≠ s.cb .chain 0 0 10 ∧ s.chain.st = .locked ∧
        s.chain.winUsed = some (s.windowOf ((time : Int) - 24 - 6 * s.cf .chain 0 0 9 2)).1) ∧
    (∃ (s : State) (time : Nat) (pos : Bool), s.alive = true ∧ pos ≠ s.cb .chain 0 0 10 ∧ s.chain.st = .locked ∧
        s.chain.lastCross = some 1300000 ∧
        s.chain.winUsed ≠ some (s.windowOf ((time : Int) - 24 - 6 * s.cf .chain 0 0 9 2)).1 ∧
        -512 ≤ (s.windowOf ((time : Int) - 24 - 6 * s.cf .chain 0 0 9 2)).2 ∧
        (s.windowOf ((time : Int) - 24 - 6 * s.cf .chain 0 0 9 2)).2 ≤ 511 ∧
        65 * ((((time : Int) - 24 - 6 * s.cf .chain 0 0 9 2) - 1300000).toNat / (1 + s.chain.missed)) < 24000000) ∧
    (∃ (s : State) (time : Nat) (pos : Bool), s.alive = true ∧ pos ≠ s.cb .chain 0 0 10 ∧ s.chain.st = .locked ∧
        s.chain.lastCross = some 540000 ∧
        s.chain.winUsed ≠ some (s.windowOf ((time : Int) - 24 - 6 * s.cf .chain 0 0 9 2)).1 ∧
        -512 ≤ (s.windowOf ((time : Int) - 24 - 6 * s.cf .chain 0 0 9 2)).2 ∧
        (s.windowOf ((time : Int) - 24 - 6 * s.cf .chain 0 0 9 2)).2 ≤ 511 ∧
        24000000 ≤ 65 * ((((time : Int) - 24 - 6 * s.cf .chain 0 0 9 2) - 540000).toNat / (1 + s.chain.missed)) ∧
        45 * ((((time : Int) - 24 - 6 * s.cf .chain 0 0 9 2) - 540000).toNat / (1 + s.chain.missed)) ≤ 24000000) := by
  and_intros
  · exact ⟨({ up with chain.st := .acquire, chain.lastCross := none }), (true), by decide +kernel⟩
  · exact ⟨({ up with chain.st := .acquire, chain.lastCross := some 900000 }), (1000000), (true), by decide +kernel⟩
  · exact ⟨({ up with chain.st := .holdover, chain.lastCross := some 1000000, chain.lastPeriod := some 400000, chain.consec := 7, chain.pEst := 480000, chain.curLen := 480000 }),
      (1500000), (true), by decide +kernel⟩
  · exact ⟨({ up with chain.st := .acquire, chain.lastCross := some 1000000, chain.lastPeriod := none, chain.consec := 7, chain.pEst := 480000, chain.curLen := 480000 }),
      (1480100), (true), by decide +kernel⟩
  · exact ⟨({ up with chain.st := .acquire, chain.lastCross := some 1000000, chain.lastPeriod := some 479000, chain.consec := 19, chain.periods := [479000], chain.pEst := 480000, chain.curLen := 480000, chain.mcStart := 1200000, chain.mc := 3 }),
      (1480100), (true), by decide +kernel⟩
  · exact ⟨({ up with chain.st := .locked, chain.lastCross := some 1000000, chain.pEst := 480000, chain.curLen := 480000, chain.mcStart := 1200000, chain.mc := 3, chain.expect := 0, chain.winUsed := none }),
      (1400000), (true), by decide +kernel⟩
  · exact ⟨({ up with chain.st := .locked, chain.lastCross := some 1000000, chain.pEst := 480000, chain.curLen := 480000, chain.mcStart := 1500000, chain.mc := 3, chain.expect := 0, chain.winUsed := some 3 }),
      (1500200), (true), by decide +kernel⟩
  · exact ⟨({ up with chain.st := .locked, chain.lastCross := some 1300000, chain.pEst := 480000, chain.curLen := 480000, chain.mcStart := 1500000, chain.mc := 3, chain.expect := 0, chain.winUsed := none, chain.missed := 0 }),
      (1500200), (true), by decide +kernel⟩
  · exact ⟨({ up with chain.st := .locked, chain.lastCross := some 540000, chain.pEst := 480016, chain.curLen := 480000, chain.mcStart := 1500000, chain.mc := 3, chain.expect := 0, chain.winUsed := none, chain.missed := 1, chain.slewing := true }),
      (1504000), (true), by decide +kernel⟩

theorem witness_MissingCrossings :
    (∃ (s : State), s.alive = true ∧ s.chain.st = .locked ∧
        ((s.chain.mc.toNat : Int) * 4096 + s.chain.pt.toNat - s.chain.expect - 512) % 4096 = 0 ∧
        s.chain.winAccepted ≠ some (wInt (((s.chain.mc.toNat : Int) * 4096 + s.chain.pt.toNat - s.chain.expect - 512) / 4096)) ∧
        s.chain.winMissed ≠ some (wInt (((s.chain.mc.toNat : Int) * 4096 + s.chain.pt.toNat - s.chain.expect - 512) / 4096)) ∧
        s.chain.missed < 2) ∧
    (∃ (s : State), s.alive = true ∧ s.chain.st = .locked ∧
        ((s.chain.mc.toNat : Int) * 4096 + s.chain.pt.toNat - s.chain.expect - 512) % 4096 = 0 ∧
        s.chain.winAccepted ≠ some (wInt (((s.chain.mc.toNat : Int) * 4096 + s.chain.pt.toNat - s.chain.expect - 512) / 4096)) ∧
        s.chain.winMissed ≠ some (wInt (((s.chain.mc.toNat : Int) * 4096 + s.chain.pt.toNat - s.chain.expect - 512) / 4096)) ∧
        2 ≤ s.chain.missed) := by
  refine ⟨?_, ?_⟩
  · exact ⟨({ up with chain.st := .locked, chain.mc := 9, chain.pt := 512, chain.missed := 1 }), by decide +kernel⟩
  · exact ⟨({ up with chain.st := .locked, chain.mc := 9, chain.pt := 512, chain.missed := 2, chain.periods := [480000, 480010] }),
      by decide +kernel⟩

theorem witness_PhaseTicks :
    (∃ (s : State), s.alive = true ∧ s.chain.st ≠ .start ∧ s.sup.shutAt = none ∧ s.throttled = false ∧
        s.act.burst = false ∧ s.chain.pt ≠ 4095 ∧ (∀ m : Nat, m < 21 → (nth s.sens.mods m).pend = [])) ∧
    (∃ (s : State), s.alive = true ∧ s.chain.st ≠ .start ∧ s.sup.shutAt = none ∧ s.throttled = false ∧
        s.act.burst = false ∧ s.chain.pt = 4095) ∧
    (∃ (s : State), s.alive = true ∧ s.chain.st ≠ .start ∧ s.sup.shutAt = none ∧ s.throttled = false ∧
        s.act.burst = false ∧ s.chain.pt ≠ 4095 ∧ s.clk.pllLocked = true ∧ 2 < s.sens.mods.length ∧
        (nth s.sens.mods 2).pend.any (fun d => decide ((2 : Int) ≤ { s with chain := { s.chain with pt := s.chain.pt + 1 } }.ptSince d.res.mcEnd d.res.ptEnd)) =
        true) ∧
    (∃ (s : State), s.alive = true ∧ s.chain.st ≠ .start ∧ s.chain.pt ≠ 4095 ∧ s.released = true ∧
        s.clk.pllLocked = true ∧ s.acre.st = .master ∧ { s with chain.pt := s.chain.pt + 1 }.bpt = 0 ∧
        { s with chain.pt := s.chain.pt + 1 }.amc.toNat % s.beaconInterval = 0) := by
  refine ⟨?_, ?_, ?_, ?_⟩
  · exact ⟨({ up with chain.st := .synthetic, chain.pt := 4094 }), by decide +kernel⟩
  · exact ⟨({ up with chain.st := .synthetic, chain.pt := 4095, chain.mc := 0xFFFFFFFF }), by decide +kernel⟩
  · exact ⟨({ up with chain.pt := 5, chain.st := .locked, sens.mods := up.sens.mods.set 2 { nth up.sens.mods 2 with pend := [{ res := { mcEnd := 0, ptEnd := 4 } }] } }),
      by decide +kernel⟩
  · exact ⟨({ acreUp with chain.st := .locked, chain.mc := 399, chain.pt := 2730, acre.st := .master, acre.cls := 1, acre.resolved := true }),
      by decide +kernel⟩

theorem witness_AcreElection :
    (∃ (s : State), s.released = true ∧ s.clk.pllLocked = true ∧ s.acre.st = .member ∧
        3 * s.beaconInterval ≤ s.mcSince s.acre.sinceMc) ∧
    (∃ (s : State), s.released = true ∧ s.clk.pllLocked = true ∧ s.acre.st = .seeking ∧
        3 * s.beaconInterval ≤ s.mcSince s.acre.sinceMc) ∧
    (∃ (s : State), s.released = true ∧ s.clk.pllLocked = true ∧ s.acre.st = .candidate ∧
        2 * s.acreId ≤ s.mcSince s.acre.sinceMc) ∧
    (∃ (s : State), s.released = true ∧ s.clk.pllLocked = true ∧ s.acre.st = .master) := by
  refine ⟨?_, ?_, ?_, ?_⟩
  · exact ⟨({ up with acre.st := .member, chain.mc := 1200 }), by decide +kernel⟩
  · exact ⟨({ up with acre.st := .seeking, chain.mc := 1200 }), by decide +kernel⟩
  · exact ⟨({ acreUp with acre.st := .candidate, chain.mc := 2 }), by decide +kernel⟩
  · exact ⟨({ up with acre.st := .master, chain.mc := 12800, acre.members := [{ id := 1023 }, { id := 2 }] }),
      by decide +kernel⟩

theorem witness_AcreMessages :
    (∃ (s : State) (addr : Nat) (b : List Byte), s.released = true ∧ s.clk.pllLocked = true ∧ s.acre.st ≠ .disabled ∧
        s.acre.st ≠ .duplicate ∧ addr ≠ s.acreAddr ∧
        (s.acre.st = .seeking ∨ s.acre.st = .candidate ∨ s.acre.st = .master) ∧ acreValid 1 b = true ∧
        getH b 6 ≠ s.acreId ∧ (getB b 0x10).testBit 0 = s.nominal60 ∧ getH b 6 < s.acreId) ∧
    (∃ (s : State) (addr : Nat) (b : List Byte), s.released = true ∧ s.clk.pllLocked = true ∧ s.acre.st ≠ .disabled ∧
        s.acre.st ≠ .duplicate ∧ addr ≠ s.acreAddr ∧ acreValid 2 b = true ∧ getH b 6 = s.acreId) ∧
    (∃ (s : State) (addr : Nat) (b : List Byte), s.released = true ∧ s.clk.pllLocked = true ∧ s.acre.st ≠ .disabled ∧
        s.acre.st ≠ .duplicate ∧ addr ≠ s.acreAddr ∧ s.acre.st = .master ∧ getH b 6 ≠ s.acreId ∧
        getH b 0x14 = s.acreId ∧ acreValid 2 b = true) ∧
    (∃ (s : State) (addr : Nat) (b : List Byte), s.released = true ∧ s.clk.pllLocked = true ∧ s.acre.st ≠ .disabled ∧
        s.acre.st ≠ .duplicate ∧ addr ≠ s.acreAddr ∧ s.acre.st = .master ∧ getH b 6 ≠ s.acreId ∧
        getH b 0x14 = s.acreId ∧ acreValid 2 b = true ∧ 64 ≤ getB b 0x13) ∧
    (∃ (s : State) (addr : Nat) (b : List Byte), s.released = true ∧ s.clk.pllLocked = true ∧ s.acre.st ≠ .disabled ∧
        s.acre.st ≠ .duplicate ∧ addr ≠ s.acreAddr ∧ getB b 0x12 < 64 ∧ acreValid 3 b = true ∧ s.acre.st = .member ∧
        s.acre.master = some (getH b 6) ∧ getH b 0x10 = s.acreId) := by
  refine ⟨?_, ?_, ?_, ?_, ?_⟩
  · exact ⟨({ acreUp with acre.st := .seeking }), (9), (acreMsg 1 0 5 (zeros 16) (zeros 16)), by decide +kernel⟩
  · exact ⟨({ acreUp with acre.st := .member }), (9), (acreMsg 2 1 5 (zeros 8) (zeros 8)), by decide +kernel⟩
  · exact ⟨({ acreUp with acre.st := .master }), (9), (acreMsg 2 7 5 (zeros 2 ++ le8 3 ++ le8 63 ++ le16 1 ++
      zeros 2) (zeros 2 ++ le8 3 ++ le8 63 ++ le16 1 ++ zeros 2)), by decide +kernel⟩
  · exact ⟨({ acreUp with acre.st := .master }), (9), (acreMsg 2 7 5 (zeros 2 ++ le8 3 ++ le8 64 ++ le16 1 ++
      zeros 2) (zeros 2 ++ le8 3 ++ le8 64 ++ le16 1 ++ zeros 2)), by decide +kernel⟩
  · exact ⟨({ acreUp with acre.st := .member, acre.master := some 7 }), (9),
      (acreMsg 3 7 5 (le16 1 ++ le8 63 ++ zeros 5) (le16 1 ++ le8 63 ++ zeros 5)), by decide +kernel⟩

theorem witness_AcreMemberBeacons :
    (∃ (s : State) (addr : Nat) (b : List Byte), s.released = true ∧ s.clk.pllLocked = true ∧ addr ≠ s.acreAddr ∧
        acreValid 1 b = true ∧ getH b 6 ≠ s.acreId ∧ (getB b 0x10).testBit 0 ≠ s.nominal60 ∧ s.acre.st ≠ .disabled) ∧
    (∃ (s : State) (addr : Nat) (b : List Byte), s.released = true ∧ s.clk.pllLocked = true ∧ addr ≠ s.acreAddr ∧
        acreValid 1 b = true ∧ getH b 6 ≠ s.acreId ∧ s.acre.st = .member ∧ s.acre.master = some (getH b 6) ∧
        (getB b 0x10).testBit 0 = s.nominal60 ∧
        ((sext 44 (wrap 44 ((s.chain.mc.toNat : Int) * 4096 + s.chain.pt.toNat - ((getW b 0x14 : Int) * 4096 + getH b 0x18)))) :: s.acre.window).length < 3 ∧
        s.acre.joined = false ∧ s.acre.resolved = false ∧ s.unsynced = false) ∧
    (∃ (s : State) (addr : Nat) (b : List Byte), s.released = true ∧ s.clk.pllLocked = true ∧ addr ≠ s.acreAddr ∧
        acreValid 1 b = true ∧ getH b 6 ≠ s.acreId ∧ s.acre.st = .member ∧ s.acre.master = some (getH b 6) ∧
        (getB b 0x10).testBit 0 = s.nominal60 ∧
        ((sext 44 (wrap 44 ((s.chain.mc.toNat : Int) * 4096 + s.chain.pt.toNat - ((getW b 0x14 : Int) * 4096 + getH b 0x18)))) :: s.acre.window).length =
        3 ∧ 2048 < 3 * (-4096 * 200 + 800) - (3 * (-4096 * 200 + 800)).fdiv 4096 * 4096) ∧
    (∃ (s : State) (addr : Nat) (b : List Byte), s.released = true ∧ s.clk.pllLocked = true ∧ addr ≠ s.acreAddr ∧
        acreValid 1 b = true ∧ getH b 6 ≠ s.acreId ∧ s.acre.st = .member ∧ s.acre.master = some (getH b 6) ∧
        (getB b 0x10).testBit 0 = s.nominal60 ∧
        3 ≤ ((sext 44 (wrap 44 ((s.chain.mc.toNat : Int) * 4096 + s.chain.pt.toNat - ((getW b 0x14 : Int) * 4096 + getH b 0x18)))) :: s.acre.window).length ∧
        ((sext 44 (wrap 44 ((s.chain.mc.toNat : Int) * 4096 + s.chain.pt.toNat - ((getW b 0x14 : Int) * 4096 + getH b 0x18)))) :: s.acre.window).foldl min (sext 44 (wrap 44 ((s.chain.mc.toNat : Int) * 4096 + s.chain.pt.toNat - ((getW b 0x14 : Int) * 4096 + getH b 0x18)))) =
        -4096 * 200 + 1400 ∧ (3 * (-4096 * 200 + 1400 : Int)).fdiv 4096 = -599 ∧
        3 * (-4096 * 200 + 1400) - (-599 : Int) * 4096 ≤ 2048 ∧ s.unsynced = false ∧ s.acre.fresh = true) ∧
    (∃ (s : State) (addr : Nat) (b : List Byte), s.released = true ∧ s.clk.pllLocked = true ∧ addr ≠ s.acreAddr ∧
        acreValid 1 b = true ∧ getH b 6 ≠ s.acreId ∧ s.acre.st = .member ∧ s.acre.master = some (getH b 6) ∧
        (getB b 0x10).testBit 0 = s.nominal60 ∧
        3 ≤ ((sext 44 (wrap 44 ((s.chain.mc.toNat : Int) * 4096 + s.chain.pt.toNat - ((getW b 0x14 : Int) * 4096 + getH b 0x18)))) :: s.acre.window).length ∧
        ((sext 44 (wrap 44 ((s.chain.mc.toNat : Int) * 4096 + s.chain.pt.toNat - ((getW b 0x14 : Int) * 4096 + getH b 0x18)))) :: s.acre.window).foldl min (sext 44 (wrap 44 ((s.chain.mc.toNat : Int) * 4096 + s.chain.pt.toNat - ((getW b 0x14 : Int) * 4096 + getH b 0x18)))) =
        -4096 * 200 + 1400 ∧ (3 * (-4096 * 200 + 1400 : Int)).fdiv 4096 = -599 ∧
        3 * (-4096 * 200 + 1400) - (-599 : Int) * 4096 ≤ 2048 ∧ s.unsynced = false ∧ s.acre.fresh = false ∧
        s.acre.pend.getD (s.acre.cls, s.acre.offset) = (2, wInt ((-(-599 : Int) - 2) / 3))) ∧
    (∃ (s : State) (addr : Nat) (b : List Byte), s.released = true ∧ s.clk.pllLocked = true ∧ addr ≠ s.acreAddr ∧
        acreValid 1 b = true ∧ getH b 6 ≠ s.acreId ∧ s.acre.st = .member ∧ s.acre.master = some (getH b 6) ∧
        (getB b 0x10).testBit 0 = s.nominal60 ∧
        3 ≤ ((sext 44 (wrap 44 ((s.chain.mc.toNat : Int) * 4096 + s.chain.pt.toNat - ((getW b 0x14 : Int) * 4096 + getH b 0x18)))) :: s.acre.window).length ∧
        ((sext 44 (wrap 44 ((s.chain.mc.toNat : Int) * 4096 + s.chain.pt.toNat - ((getW b 0x14 : Int) * 4096 + getH b 0x18)))) :: s.acre.window).foldl min (sext 44 (wrap 44 ((s.chain.mc.toNat : Int) * 4096 + s.chain.pt.toNat - ((getW b 0x14 : Int) * 4096 + getH b 0x18)))) =
        -4096 * 200 + 1400 ∧ (3 * (-4096 * 200 + 1400 : Int)).fdiv 4096 = -599 ∧
        3 * (-4096 * 200 + 1400) - (-599 : Int) * 4096 ≤ 2048 ∧ s.unsynced = false ∧ s.acre.fresh = false ∧
        ¬ s.acre.pend.getD (s.acre.cls, s.acre.offset) = (2, wInt ((-(-599 : Int) - 2) / 3)) ∧ s.acre.candCnt + 1 < 8) ∧
    (∃ (s : State) (addr : Nat) (b : List Byte), s.released = true ∧ s.clk.pllLocked = true ∧ addr ≠ s.acreAddr ∧
        acreValid 1 b = true ∧ getH b 6 ≠ s.acreId ∧ s.acre.st = .member ∧ s.acre.master = some (getH b 6) ∧
        (getB b 0x10).testBit 0 = s.nominal60 ∧
        3 ≤ ((sext 44 (wrap 44 ((s.chain.mc.toNat : Int) * 4096 + s.chain.pt.toNat - ((getW b 0x14 : Int) * 4096 + getH b 0x18)))) :: s.acre.window).length ∧
        ((sext 44 (wrap 44 ((s.chain.mc.toNat : Int) * 4096 + s.chain.pt.toNat - ((getW b 0x14 : Int) * 4096 + getH b 0x18)))) :: s.acre.window).foldl min (sext 44 (wrap 44 ((s.chain.mc.toNat : Int) * 4096 + s.chain.pt.toNat - ((getW b 0x14 : Int) * 4096 + getH b 0x18)))) =
        -4096 * 200 + 1400 ∧ (3 * (-4096 * 200 + 1400 : Int)).fdiv 4096 = -599 ∧
        3 * (-4096 * 200 + 1400) - (-599 : Int) * 4096 ≤ 2048 ∧ s.unsynced = false ∧ s.acre.fresh = false ∧
        ¬ s.acre.pend.getD (s.acre.cls, s.acre.offset) = (2, wInt ((-(-599 : Int) - 2) / 3)) ∧ 8 ≤ s.acre.candCnt + 1 ∧
        s.acre.joined = true ∧ 7 ≤ s.acre.sinceJoin) ∧
    (∃ (s : State) (addr : Nat) (b : List Byte), s.released = true ∧ s.clk.pllLocked = true ∧ addr ≠ s.acreAddr ∧
        acreValid 1 b = true ∧ getH b 6 ≠ s.acreId ∧ s.acre.st = .member ∧ s.acre.master = some (getH b 6) ∧
        (getB b 0x10).testBit 0 = s.nominal60 ∧ s.unsynced = true ∧
        3 ≤ ((sext 44 (wrap 44 ((s.chain.mc.toNat : Int) * 4096 + s.chain.pt.toNat - ((getW b 0x14 : Int) * 4096 + getH b 0x18)))) :: s.acre.window).length ∧
        s.acre.joined = false) := by
  and_intros
  · exact ⟨({ acreUp with acre.st := .member, acre.master := some 0 }), (9),
      (acreMsg 1 0 5 (le8 (1 - b2n acreUp.nominal60) ++ zeros 15) (le8 (1 - b2n acreUp.nominal60) ++ zeros 15)),
      by decide +kernel⟩
  · exact ⟨({ acreUp with acre.st := .member, acre.master := some 0, chain.st := .locked, chain.mc := 500, acre.window := [-1000] }),
      (9), (acreMsg 1 0 5 ((le8 (b2n acreUp.nominal60 + 2) ++ zeros 1 ++ le16 400) ++ le32 700 ++ le16 0 ++ (le16 0 ++
      zeros 4)) ((le8 (b2n acreUp.nominal60 + 2) ++ zeros 1 ++ le16 400) ++ zeros 6 ++ (le16 0 ++ zeros 4))),
      by decide +kernel⟩
  · exact ⟨({ acreUp with acre.st := .member, acre.master := some 0, chain.st := .locked, chain.mc := 500, acre.window := [-4096 * 200 + 800, -4096 * 200 + 900], acre.resolved := true, acre.candCnt := 3 }),
      (9), (acreMsg 1 0 5 ((le8 (b2n acreUp.nominal60 + 2) ++ zeros 1 ++ le16 400) ++ le32 499 ++ le16 3200 ++
      (le16 0 ++ zeros 4)) ((le8 (b2n acreUp.nominal60 + 2) ++ zeros 1 ++ le16 400) ++ zeros 6 ++ (le16 0 ++ zeros 4))),
      by decide +kernel⟩
  · exact ⟨({ acreUp with acre.st := .member, acre.master := some 0, chain.st := .locked, chain.mc := 500, acre.window := [-4096 * 200 + 1400, -4096 * 200 + 1500], acre.fresh := true }),
      (9), (acreMsg 1 0 5 ((le8 (b2n acreUp.nominal60 + 2) ++ zeros 1 ++ le16 400) ++ le32 499 ++ le16 3200 ++
      (le16 0 ++ zeros 4)) ((le8 (b2n acreUp.nominal60 + 2) ++ zeros 1 ++ le16 400) ++ zeros 6 ++ (le16 0 ++ zeros 4))),
      by decide +kernel⟩
  · exact ⟨({ acreUp with acre.st := .member, acre.master := some 0, chain.st := .locked, chain.mc := 500, acre.window := [-4096 * 200 + 1400, -4096 * 200 + 1500], acre.fresh := false, acre.cls := 2, acre.offset := 199 }),
      (9), (acreMsg 1 0 5 ((le8 (b2n acreUp.nominal60 + 2) ++ zeros 1 ++ le16 400) ++ le32 499 ++ le16 3200 ++
      (le16 0 ++ zeros 4)) ((le8 (b2n acreUp.nominal60 + 2) ++ zeros 1 ++ le16 400) ++ zeros 6 ++ (le16 0 ++ zeros 4))),
      by decide +kernel⟩
  · exact ⟨({ acreUp with acre.st := .member, acre.master := some 0, chain.st := .locked, chain.mc := 500, acre.window := [-4096 * 200 + 1400, -4096 * 200 + 1500], acre.fresh := false, acre.cls := 1, acre.offset := 199, acre.cand := some (2, wInt ((-(-599 : Int) - 2) / 3)), acre.candCnt := 6 }),
      (9), (acreMsg 1 0 5 ((le8 (b2n acreUp.nominal60 + 2) ++ zeros 1 ++ le16 400) ++ le32 499 ++ le16 3200 ++
      (le16 0 ++ zeros 4)) ((le8 (b2n acreUp.nominal60 + 2) ++ zeros 1 ++ le16 400) ++ zeros 6 ++ (le16 0 ++ zeros 4))),
      by decide +kernel⟩
  · exact ⟨({ acreUp with acre.st := .member, acre.master := some 0, chain.st := .locked, chain.mc := 500, acre.window := [-4096 * 200 + 1400, -4096 * 200 + 1500], acre.fresh := false, acre.cls := 1, acre.offset := 199, acre.cand := some (2, wInt ((-(-599 : Int) - 2) / 3)), acre.candCnt := 7, acre.joined := true, acre.gotSlot := true, acre.sinceJoin := 7 }),
      (9), (acreMsg 1 0 5 ((le8 (b2n acreUp.nominal60 + 2) ++ zeros 1 ++ le16 400) ++ le32 499 ++ le16 3200 ++
      (le16 0 ++ zeros 4)) ((le8 (b2n acreUp.nominal60 + 2) ++ zeros 1 ++ le16 400) ++ zeros 6 ++ (le16 0 ++ zeros 4))),
      by decide +kernel⟩
  · exact ⟨({ acreUp with acre.st := .member, acre.master := some 0, chain.st := .acquire, chain.mc := 500, acre.window := [-4096 * 200 + 1400, -4096 * 200 + 1500] }),
      (9), (acreMsg 1 0 5 ((le8 (b2n acreUp.nominal60 + 2) ++ zeros 1 ++ le16 400) ++ le32 499 ++ le16 3200 ++
      (le16 0 ++ zeros 4)) ((le8 (b2n acreUp.nominal60 + 2) ++ zeros 1 ++ le16 400) ++ zeros 6 ++ (le16 0 ++ zeros 4))),
      by decide +kernel⟩

theorem witness_AcreBeaconSent :
    ∃ (s : State), s.released = true ∧ s.clk.pllLocked = true ∧ s.acre.st = .master ∧
        s.acre.beaconDue = some s.amc := by
  exact ⟨({ acreUp with acre.st := .master, acre.beaconDue := some 400, chain.mc := 400, chain.pt := 100 }),
      by decide +kernel⟩

theorem witness_RoundsAndWindowStarts :
    (∃ (s : State), s.released = true ∧ s.clk.pllLocked = true ∧ s.chain.stage ≤ 2 ∧ 11 < s.sens.mods.length ∧
        (nth s.sens.mods 11).inRound = false ∧ (nth s.sens.mods 11).conv = false ∧
        (nth s.sens.mods 11).stone.cur = none ∧ (nth s.sens.mods 11).stone.todo = [] ∧
        (applyModLive 11 s).modEn 11 = true ∧ (applyModLive 11 s).roundInputs 11 ≠ [] ∧
        s.startsNow ((applyModLive 11 s).visitParams 11 (((applyModLive 11 s).roundInputs 11).headD 0)).1 (nth s.sens.mods 11) =
        true ∧ 2 ≤ ((applyModLive 11 s).roundInputs 11).length) ∧
    (∃ (s : State), s.released = true ∧ s.clk.pllLocked = true ∧ s.chain.stage ≤ 2 ∧ 11 < s.sens.mods.length ∧
        (nth s.sens.mods 11).inRound = false ∧ (nth s.sens.mods 11).conv = false ∧
        (nth s.sens.mods 11).stone.cur = none ∧ (nth s.sens.mods 11).stone.todo = [] ∧
        (applyModLive 11 s).modEn 11 = true ∧ (applyModLive 11 s).roundInputs 11 ≠ [] ∧
        s.startsNow ((applyModLive 11 s).visitParams 11 (((applyModLive 11 s).roundInputs 11).headD 0)).1 (nth s.sens.mods 11) =
        true ∧ (applyModLive 11 s).roundInputs 11 = [7] ∧ (nth s.sens.mods 11).single = some 7 ∧
        ainSetting (s.cw .ain (8 * 11 + ((applyModLive 11 s).roundInputs 11).headD 0) 0) =
        ainSetting ((applyModLive 11 s).cw .ain (8 * 11 + ((applyModLive 11 s).roundInputs 11).headD 0) 0)) ∧
    (∃ (s : State), s.released = true ∧ s.clk.pllLocked = true ∧ s.chain.stage ≤ 2 ∧ 11 < s.sens.mods.length ∧
        (nth s.sens.mods 11).inRound = false ∧ (nth s.sens.mods 11).conv = false ∧
        (nth s.sens.mods 11).stone.cur = none ∧ (nth s.sens.mods 11).stone.todo = [] ∧
        (applyModLive 11 s).modEn 11 = true ∧ (applyModLive 11 s).roundInputs 11 ≠ [] ∧
        s.startsNow ((applyModLive 11 s).visitParams 11 (((applyModLive 11 s).roundInputs 11).headD 0)).1 (nth s.sens.mods 11) =
        true ∧ (applyModLive 11 s).roundInputs 11 = [7] ∧ (nth s.sens.mods 11).single ≠ some 7) ∧
    (∃ (s : State), s.released = true ∧ s.clk.pllLocked = true ∧ s.chain.stage ≤ 2 ∧ 19 < s.sens.mods.length ∧
        (nth s.sens.mods 19).inRound = false ∧ (nth s.sens.mods 19).conv = false ∧
        (nth s.sens.mods 19).stone.cur = none ∧ (nth s.sens.mods 19).stone.todo = [] ∧
        (applyModLive 19 s).modEn 19 = true ∧ (applyModLive 19 s).roundInputs 19 ≠ [] ∧
        s.startsNow ((applyModLive 19 s).visitParams 19 (((applyModLive 19 s).roundInputs 19).headD 0)).1 (nth s.sens.mods 19) =
        true ∧ (applyModLive 19 s).presUse 31 = true ∧ (applyModLive 19 s).presUse 30 = false ∧
        inputIndex 19 2 < s.sens.results.length ∧ 31 < s.sens.pres.length) ∧
    (∃ (s : State), s.released = true ∧ s.clk.pllLocked = true ∧ s.chain.stage ≤ 2 ∧ 20 < s.sens.mods.length ∧
        (nth s.sens.mods 20).inRound = false ∧ (nth s.sens.mods 20).conv = false ∧
        (nth s.sens.mods 20).stone.cur = none ∧ (nth s.sens.mods 20).stone.todo = [] ∧
        s.startsNow 2 (nth s.sens.mods 20) = true) ∧
    (∃ (s : State), s.released = true ∧ s.clk.pllLocked = true ∧ s.chain.stage ≤ 2 ∧ 11 < s.sens.mods.length ∧
        (nth s.sens.mods 11).conv = false ∧
        ((nth s.sens.mods 11).inRound = true ∨ (nth s.sens.mods 11).stone.cur.isSome = true) ∧
        s.startsNow (s.visitParams 11 ((nth s.sens.mods 11).left.headD 0)).1 (nth s.sens.mods 11) = true ∧
        s.ainExc 95 ≠ 0) ∧
    (∃ (s : State), s.released = true ∧ s.clk.pllLocked = true ∧ s.chain.stage ≤ 2 ∧ 20 < s.sens.mods.length ∧
        (nth s.sens.mods 20).conv = false ∧
        ((nth s.sens.mods 20).inRound = true ∨ (nth s.sens.mods 20).stone.cur.isSome = true) ∧
        s.startsNow (s.visitParams 20 ((nth s.sens.mods 20).left.headD 0)).1 (nth s.sens.mods 20) = true ∧
        (nth s.sens.mods 20).stone.cur.isSome = true) ∧
    (∃ (s : State), s.released = true ∧ s.clk.pllLocked = true ∧ s.chain.stage ≤ 2 ∧ 12 < s.sens.mods.length ∧
        (nth s.sens.mods 12).conv = false ∧
        ((nth s.sens.mods 12).inRound = true ∨ (nth s.sens.mods 12).stone.cur.isSome = true) ∧
        s.startsNow (s.visitParams 12 ((nth s.sens.mods 12).left.headD 0)).1 (nth s.sens.mods 12) = true) := by
  and_intros
  · exact ⟨(upCw .ain 95 0 0x020A0000 (upCw .ain 88 0 0x020A0000 up)), by decide +kernel⟩
  · exact ⟨(updMod 11 (fun x => { x with single := some 7, wins := [{ x := [1/2] }] }) (upCw .ain 95 0 0x020A0000 up)),
      by decide +kernel⟩
  · exact ⟨(updMod 11 (fun x => { x with wins := [{ x := [1/2] }] }) (upCw .ain 95 0 0x020A0000 up)), by decide +kernel⟩
  · exact ⟨({ upCw .mod 19 0 0x11 up with sens.pres := List.replicate 32 { st := .hold, inUse := true } }),
      by decide +kernel⟩
  · exact ⟨(up), by decide +kernel⟩
  · exact ⟨(updMod 11 (fun x => { x with inRound := true, left := [7] }) (upCw .ain 95 0 0x022A0004 { up with chain.pt := 0 })),
      by decide +kernel⟩
  · exact ⟨(updMod 20 (fun x => { x with stone.cur := some .bandgap }) up), by decide +kernel⟩
  · exact ⟨(updMod 12 (fun x => { x with inRound := true, left := [3] }) up), by decide +kernel⟩

theorem witness_WindowEnds :
    (∃ (s : State) (w : Win), s.clk.pllLocked = true ∧ 0 < s.sens.mods.length ∧ (nth s.sens.mods 0).conv = true ∧
        ((nth s.sens.mods 0).winLen = 5 → s.chain.now ≤ (nth s.sens.mods 0).winAt + 2400000 ∧
        s.reached ((nth s.sens.mods 0).winAt + 2400000) = true ∧ w.x.length = 150000) ∧
        ((nth s.sens.mods 0).winLen ≠ 5 → s.chain.stage ≤ 2 ∧
        s.ptSince (nth s.sens.mods 0).winMc (nth s.sens.mods 0).winPt = 1024 * 2 ^ (nth s.sens.mods 0).winLen ∧
        samplesFit (nth s.sens.mods 0).winAt s.chain.now w.x.length = true) ∧
        (nth s.sens.mods 0).stone.cur.isSome = true ∧ 3 ≤ (nth s.sens.mods 0).done + 1 ∧
        (nth s.sens.mods 0).stone.codes.length < 8) ∧
    (∃ (s : State) (w : Win), s.clk.pllLocked = true ∧ 0 < s.sens.mods.length ∧ (nth s.sens.mods 0).conv = true ∧
        ((nth s.sens.mods 0).winLen = 5 → s.chain.now ≤ (nth s.sens.mods 0).winAt + 2400000 ∧
        s.reached ((nth s.sens.mods 0).winAt + 2400000) = true ∧ w.x.length = 150000) ∧
        ((nth s.sens.mods 0).winLen ≠ 5 → s.chain.stage ≤ 2 ∧
        s.ptSince (nth s.sens.mods 0).winMc (nth s.sens.mods 0).winPt = 1024 * 2 ^ (nth s.sens.mods 0).winLen ∧
        samplesFit (nth s.sens.mods 0).winAt s.chain.now w.x.length = true) ∧
        (nth s.sens.mods 0).stone.cur.isSome = true ∧ (nth s.sens.mods 0).done + 1 < 3 ∧
        (nth s.sens.mods 0).stone.codes.length < 8) ∧
    (∃ (s : State) (w : Win), s.clk.pllLocked = true ∧ 0 < s.sens.mods.length ∧ (nth s.sens.mods 0).conv = true ∧
        ((nth s.sens.mods 0).winLen = 5 → s.chain.now ≤ (nth s.sens.mods 0).winAt + 2400000 ∧
        s.reached ((nth s.sens.mods 0).winAt + 2400000) = true ∧ w.x.length = 150000) ∧
        ((nth s.sens.mods 0).winLen ≠ 5 → s.chain.stage ≤ 2 ∧
        s.ptSince (nth s.sens.mods 0).winMc (nth s.sens.mods 0).winPt = 1024 * 2 ^ (nth s.sens.mods 0).winLen ∧
        samplesFit (nth s.sens.mods 0).winAt s.chain.now w.x.length = true) ∧ (nth s.sens.mods 0).stone.cur = none ∧
        ¬ ((s.visitParams 0 ((nth s.sens.mods 0).left.headD 0)).2.1 ≤ ((w :: (nth s.sens.mods 0).wins).take 4).length) ∧
        (nth s.sens.mods 0).done + 1 < (if (nth s.sens.mods 0).kept then (s.visitParams 0 ((nth s.sens.mods 0).left.headD 0)).2.2 else (s.visitParams 0 ((nth s.sens.mods 0).left.headD 0)).2.1 + (s.visitParams 0 ((nth s.sens.mods 0).left.headD 0)).2.2 - 1)) ∧
    (∃ (s : State) (w : Win), s.clk.pllLocked = true ∧ 0 < s.sens.mods.length ∧ (nth s.sens.mods 0).conv = true ∧
        ((nth s.sens.mods 0).winLen = 5 → s.chain.now ≤ (nth s.sens.mods 0).winAt + 2400000 ∧
        s.reached ((nth s.sens.mods 0).winAt + 2400000) = true ∧ w.x.length = 150000) ∧
        ((nth s.sens.mods 0).winLen ≠ 5 → s.chain.stage ≤ 2 ∧
        s.ptSince (nth s.sens.mods 0).winMc (nth s.sens.mods 0).winPt = 1024 * 2 ^ (nth s.sens.mods 0).winLen ∧
        samplesFit (nth s.sens.mods 0).winAt s.chain.now w.x.length = true) ∧ (nth s.sens.mods 0).stone.cur = none ∧
        (s.visitParams 0 ((nth s.sens.mods 0).left.headD 0)).2.1 ≤ ((w :: (nth s.sens.mods 0).wins).take 4).length ∧
        ((nth s.sens.mods 0).kept =
        true ∨ (s.visitParams 0 ((nth s.sens.mods 0).left.headD 0)).2.1 ≤ (nth s.sens.mods 0).done + 1) ∧
        (if (nth s.sens.mods 0).kept then (s.visitParams 0 ((nth s.sens.mods 0).left.headD 0)).2.2 else (s.visitParams 0 ((nth s.sens.mods 0).left.headD 0)).2.1 + (s.visitParams 0 ((nth s.sens.mods 0).left.headD 0)).2.2 - 1) ≤ (nth s.sens.mods 0).done + 1 ∧
        (nth s.sens.mods 0).kept = true) ∧
    (∃ (s : State) (w : Win), s.clk.pllLocked = true ∧ 20 < s.sens.mods.length ∧ (nth s.sens.mods 20).conv = true ∧
        ((nth s.sens.mods 20).winLen = 5 → s.chain.now ≤ (nth s.sens.mods 20).winAt + 2400000 ∧
        s.reached ((nth s.sens.mods 20).winAt + 2400000) = true ∧ w.x.length = 150000) ∧
        ((nth s.sens.mods 20).winLen ≠ 5 → s.chain.stage ≤ 2 ∧
        s.ptSince (nth s.sens.mods 20).winMc (nth s.sens.mods 20).winPt = 1024 * 2 ^ (nth s.sens.mods 20).winLen ∧
        samplesFit (nth s.sens.mods 20).winAt s.chain.now w.x.length = true) ∧ (nth s.sens.mods 20).stone.cur = none ∧
        (s.visitParams 20 ((nth s.sens.mods 20).left.headD 0)).2.1 ≤ ((w :: (nth s.sens.mods 20).wins).take 4).length ∧
        ((nth s.sens.mods 20).kept =
        true ∨ (s.visitParams 20 ((nth s.sens.mods 20).left.headD 0)).2.1 ≤ (nth s.sens.mods 20).done + 1) ∧
        (if (nth s.sens.mods 20).kept then (s.visitParams 20 ((nth s.sens.mods 20).left.headD 0)).2.2 else (s.visitParams 20 ((nth s.sens.mods 20).left.headD 0)).2.1 + (s.visitParams 20 ((nth s.sens.mods 20).left.headD 0)).2.2 - 1) ≤ (nth s.sens.mods 20).done + 1) ∧
    (∃ (s : State) (w : Win), s.clk.pllLocked = true ∧ 20 < s.sens.mods.length ∧ (nth s.sens.mods 20).conv = true ∧
        ((nth s.sens.mods 20).winLen = 5 → s.chain.now ≤ (nth s.sens.mods 20).winAt + 2400000 ∧
        s.reached ((nth s.sens.mods 20).winAt + 2400000) = true ∧ w.x.length = 150000) ∧
        ((nth s.sens.mods 20).winLen ≠ 5 → s.chain.stage ≤ 2 ∧
        s.ptSince (nth s.sens.mods 20).winMc (nth s.sens.mods 20).winPt = 1024 * 2 ^ (nth s.sens.mods 20).winLen ∧
        samplesFit (nth s.sens.mods 20).winAt s.chain.now w.x.length = true) ∧ (nth s.sens.mods 20).stone.cur = none ∧
        (s.visitParams 20 ((nth s.sens.mods 20).left.headD 0)).2.1 ≤ ((w :: (nth s.sens.mods 20).wins).take 4).length ∧
        ((nth s.sens.mods 20).kept =
        true ∨ (s.visitParams 20 ((nth s.sens.mods 20).left.headD 0)).2.1 ≤ (nth s.sens.mods 20).done + 1) ∧
        (if (nth s.sens.mods 20).kept then (s.visitParams 20 ((nth s.sens.mods 20).left.headD 0)).2.2 else (s.visitParams 20 ((nth s.sens.mods 20).left.headD 0)).2.1 + (s.visitParams 20 ((nth s.sens.mods 20).left.headD 0)).2.2 - 1) ≤ (nth s.sens.mods 20).done + 1) ∧
    (∃ (s : State) (w : Win), s.clk.pllLocked = true ∧ 19 < s.sens.mods.length ∧ (nth s.sens.mods 19).conv = true ∧
        ((nth s.sens.mods 19).winLen = 5 → s.chain.now ≤ (nth s.sens.mods 19).winAt + 2400000 ∧
        s.reached ((nth s.sens.mods 19).winAt + 2400000) = true ∧ w.x.length = 150000) ∧
        ((nth s.sens.mods 19).winLen ≠ 5 → s.chain.stage ≤ 2 ∧
        s.ptSince (nth s.sens.mods 19).winMc (nth s.sens.mods 19).winPt = 1024 * 2 ^ (nth s.sens.mods 19).winLen ∧
        samplesFit (nth s.sens.mods 19).winAt s.chain.now w.x.length = true) ∧ (nth s.sens.mods 19).stone.cur = none ∧
        (s.visitParams 19 ((nth s.sens.mods 19).left.headD 0)).2.1 ≤ ((w :: (nth s.sens.mods 19).wins).take 4).length ∧
        ((nth s.sens.mods 19).kept =
        true ∨ (s.visitParams 19 ((nth s.sens.mods 19).left.headD 0)).2.1 ≤ (nth s.sens.mods 19).done + 1) ∧
        (if (nth s.sens.mods 19).kept then (s.visitParams 19 ((nth s.sens.mods 19).left.headD 0)).2.2 else (s.visitParams 19 ((nth s.sens.mods 19).left.headD 0)).2.1 + (s.visitParams 19 ((nth s.sens.mods 19).left.headD 0)).2.2 - 1) ≤ (nth s.sens.mods 19).done + 1 ∧
        s.presUse 31 = true ∧ 31 < s.sens.pres.length ∧ (nth s.sens.pres 31).inUse = true ∧
        ((deliver s 19 3 (((w :: (nth s.sens.mods 19).wins).take 4).take (s.visitParams 19 ((nth s.sens.mods 19).left.headD 0)).2.1)).ovr =
        true ∨ (deliver s 19 3 (((w :: (nth s.sens.mods 19).wins).take 4).take (s.visitParams 19 ((nth s.sens.mods 19).left.headD 0)).2.1)).unr =
        true) ∧ (nth s.sens.pres 31).st ≠ .fault ∧ 32 ≤ (nth s.sens.pres 31).bad + 1) ∧
    (∃ (s : State) (w : Win), s.clk.pllLocked = true ∧ 19 < s.sens.mods.length ∧ (nth s.sens.mods 19).conv = true ∧
        ((nth s.sens.mods 19).winLen = 5 → s.chain.now ≤ (nth s.sens.mods 19).winAt + 2400000 ∧
        s.reached ((nth s.sens.mods 19).winAt + 2400000) = true ∧ w.x.length = 150000) ∧
        ((nth s.sens.mods 19).winLen ≠ 5 → s.chain.stage ≤ 2 ∧
        s.ptSince (nth s.sens.mods 19).winMc (nth s.sens.mods 19).winPt = 1024 * 2 ^ (nth s.sens.mods 19).winLen ∧
        samplesFit (nth s.sens.mods 19).winAt s.chain.now w.x.length = true) ∧ (nth s.sens.mods 19).stone.cur = none ∧
        (s.visitParams 19 ((nth s.sens.mods 19).left.headD 0)).2.1 ≤ ((w :: (nth s.sens.mods 19).wins).take 4).length ∧
        ((nth s.sens.mods 19).kept =
        true ∨ (s.visitParams 19 ((nth s.sens.mods 19).left.headD 0)).2.1 ≤ (nth s.sens.mods 19).done + 1) ∧
        (if (nth s.sens.mods 19).kept then (s.visitParams 19 ((nth s.sens.mods 19).left.headD 0)).2.2 else (s.visitParams 19 ((nth s.sens.mods 19).left.headD 0)).2.1 + (s.visitParams 19 ((nth s.sens.mods 19).left.headD 0)).2.2 - 1) ≤ (nth s.sens.mods 19).done + 1 ∧
        s.presUse 31 = true ∧ 31 < s.sens.pres.length ∧ (nth s.sens.pres 31).inUse = true ∧
        ((deliver s 19 3 (((w :: (nth s.sens.mods 19).wins).take 4).take (s.visitParams 19 ((nth s.sens.mods 19).left.headD 0)).2.1)).ovr =
        true ∨ (deliver s 19 3 (((w :: (nth s.sens.mods 19).wins).take 4).take (s.visitParams 19 ((nth s.sens.mods 19).left.headD 0)).2.1)).unr =
        true) ∧ (nth s.sens.pres 31).bad + 1 < 32) ∧
    (∃ (s : State) (w : Win), s.clk.pllLocked = true ∧ 19 < s.sens.mods.length ∧ (nth s.sens.mods 19).conv = true ∧
        ((nth s.sens.mods 19).winLen = 5 → s.chain.now ≤ (nth s.sens.mods 19).winAt + 2400000 ∧
        s.reached ((nth s.sens.mods 19).winAt + 2400000) = true ∧ w.x.length = 150000) ∧
        ((nth s.sens.mods 19).winLen ≠ 5 → s.chain.stage ≤ 2 ∧
        s.ptSince (nth s.sens.mods 19).winMc (nth s.sens.mods 19).winPt = 1024 * 2 ^ (nth s.sens.mods 19).winLen ∧
        samplesFit (nth s.sens.mods 19).winAt s.chain.now w.x.length = true) ∧ (nth s.sens.mods 19).stone.cur = none ∧
        (s.visitParams 19 ((nth s.sens.mods 19).left.headD 0)).2.1 ≤ ((w :: (nth s.sens.mods 19).wins).take 4).length ∧
        ((nth s.sens.mods 19).kept =
        true ∨ (s.visitParams 19 ((nth s.sens.mods 19).left.headD 0)).2.1 ≤ (nth s.sens.mods 19).done + 1) ∧
        (if (nth s.sens.mods 19).kept then (s.visitParams 19 ((nth s.sens.mods 19).left.headD 0)).2.2 else (s.visitParams 19 ((nth s.sens.mods 19).left.headD 0)).2.1 + (s.visitParams 19 ((nth s.sens.mods 19).left.headD 0)).2.2 - 1) ≤ (nth s.sens.mods 19).done + 1 ∧
        s.presUse 31 = true ∧ 31 < s.sens.pres.length ∧ (nth s.sens.pres 31).inUse = true ∧
        (deliver s 19 3 (((w :: (nth s.sens.mods 19).wins).take 4).take (s.visitParams 19 ((nth s.sens.mods 19).left.headD 0)).2.1)).ovr =
        false ∧
        (deliver s 19 3 (((w :: (nth s.sens.mods 19).wins).take 4).take (s.visitParams 19 ((nth s.sens.mods 19).left.headD 0)).2.1)).unr =
        false ∧ ((nth s.sens.pres 31).st ≠ .fault ∨ (nth s.sens.pres 31).good + 1 < 32) ∧
        (nth s.sens.pres 31).warmMc = none) ∧
    (∃ (s : State) (w : Win), s.clk.pllLocked = true ∧ 19 < s.sens.mods.length ∧ (nth s.sens.mods 19).conv = true ∧
        ((nth s.sens.mods 19).winLen = 5 → s.chain.now ≤ (nth s.sens.mods 19).winAt + 2400000 ∧
        s.reached ((nth s.sens.mods 19).winAt + 2400000) = true ∧ w.x.length = 150000) ∧
        ((nth s.sens.mods 19).winLen ≠ 5 → s.chain.stage ≤ 2 ∧
        s.ptSince (nth s.sens.mods 19).winMc (nth s.sens.mods 19).winPt = 1024 * 2 ^ (nth s.sens.mods 19).winLen ∧
        samplesFit (nth s.sens.mods 19).winAt s.chain.now w.x.length = true) ∧ (nth s.sens.mods 19).stone.cur = none ∧
        (s.visitParams 19 ((nth s.sens.mods 19).left.headD 0)).2.1 ≤ ((w :: (nth s.sens.mods 19).wins).take 4).length ∧
        ((nth s.sens.mods 19).kept =
        true ∨ (s.visitParams 19 ((nth s.sens.mods 19).left.headD 0)).2.1 ≤ (nth s.sens.mods 19).done + 1) ∧
        (if (nth s.sens.mods 19).kept then (s.visitParams 19 ((nth s.sens.mods 19).left.headD 0)).2.2 else (s.visitParams 19 ((nth s.sens.mods 19).left.headD 0)).2.1 + (s.visitParams 19 ((nth s.sens.mods 19).left.headD 0)).2.2 - 1) ≤ (nth s.sens.mods 19).done + 1 ∧
        s.presUse 31 = true ∧ 31 < s.sens.pres.length ∧ (nth s.sens.pres 31).inUse = true ∧
        (deliver s 19 3 (((w :: (nth s.sens.mods 19).wins).take 4).take (s.visitParams 19 ((nth s.sens.mods 19).left.headD 0)).2.1)).ovr =
        false ∧
        (deliver s 19 3 (((w :: (nth s.sens.mods 19).wins).take 4).take (s.visitParams 19 ((nth s.sens.mods 19).left.headD 0)).2.1)).unr =
        false ∧ (nth s.sens.pres 31).st = .fault) ∧
    (∃ (s : State) (w : Win), s.clk.pllLocked = true ∧ 19 < s.sens.mods.length ∧ (nth s.sens.mods 19).conv = true ∧
        ((nth s.sens.mods 19).winLen = 5 → s.chain.now ≤ (nth s.sens.mods 19).winAt + 2400000 ∧
        s.reached ((nth s.sens.mods 19).winAt + 2400000) = true ∧ w.x.length = 150000) ∧
        ((nth s.sens.mods 19).winLen ≠ 5 → s.chain.stage ≤ 2 ∧
        s.ptSince (nth s.sens.mods 19).winMc (nth s.sens.mods 19).winPt = 1024 * 2 ^ (nth s.sens.mods 19).winLen ∧
        samplesFit (nth s.sens.mods 19).winAt s.chain.now w.x.length = true) ∧ (nth s.sens.mods 19).stone.cur = none ∧
        (s.visitParams 19 ((nth s.sens.mods 19).left.headD 0)).2.1 ≤ ((w :: (nth s.sens.mods 19).wins).take 4).length ∧
        ((nth s.sens.mods 19).kept =
        true ∨ (s.visitParams 19 ((nth s.sens.mods 19).left.headD 0)).2.1 ≤ (nth s.sens.mods 19).done + 1) ∧
        (if (nth s.sens.mods 19).kept then (s.visitParams 19 ((nth s.sens.mods 19).left.headD 0)).2.2 else (s.visitParams 19 ((nth s.sens.mods 19).left.headD 0)).2.1 + (s.visitParams 19 ((nth s.sens.mods 19).left.headD 0)).2.2 - 1) ≤ (nth s.sens.mods 19).done + 1 ∧
        s.presUse 31 = true ∧ 31 < s.sens.pres.length ∧ (nth s.sens.pres 31).inUse = true ∧
        (deliver s 19 3 (((w :: (nth s.sens.mods 19).wins).take 4).take (s.visitParams 19 ((nth s.sens.mods 19).left.headD 0)).2.1)).ovr =
        false ∧
        (deliver s 19 3 (((w :: (nth s.sens.mods 19).wins).take 4).take (s.visitParams 19 ((nth s.sens.mods 19).left.headD 0)).2.1)).unr =
        false ∧ (nth s.sens.pres 31).st = .fault) ∧
    (∃ (s : State) (w : Win), s.clk.pllLocked = true ∧ 19 < s.sens.mods.length ∧ (nth s.sens.mods 19).conv = true ∧
        ((nth s.sens.mods 19).winLen = 5 → s.chain.now ≤ (nth s.sens.mods 19).winAt + 2400000 ∧
        s.reached ((nth s.sens.mods 19).winAt + 2400000) = true ∧ w.x.length = 150000) ∧
        ((nth s.sens.mods 19).winLen ≠ 5 → s.chain.stage ≤ 2 ∧
        s.ptSince (nth s.sens.mods 19).winMc (nth s.sens.mods 19).winPt = 1024 * 2 ^ (nth s.sens.mods 19).winLen ∧
        samplesFit (nth s.sens.mods 19).winAt s.chain.now w.x.length = true) ∧ (nth s.sens.mods 19).stone.cur = none ∧
        (s.visitParams 19 ((nth s.sens.mods 19).left.headD 0)).2.1 ≤ ((w :: (nth s.sens.mods 19).wins).take 4).length ∧
        ((nth s.sens.mods 19).kept =
        true ∨ (s.visitParams 19 ((nth s.sens.mods 19).left.headD 0)).2.1 ≤ (nth s.sens.mods 19).done + 1) ∧
        (if (nth s.sens.mods 19).kept then (s.visitParams 19 ((nth s.sens.mods 19).left.headD 0)).2.2 else (s.visitParams 19 ((nth s.sens.mods 19).left.headD 0)).2.1 + (s.visitParams 19 ((nth s.sens.mods 19).left.headD 0)).2.2 - 1) ≤ (nth s.sens.mods 19).done + 1 ∧
        s.presUse 31 = true ∧ 31 < s.sens.pres.length ∧ (nth s.sens.pres 31).inUse = true ∧
        (deliver s 19 3 (((w :: (nth s.sens.mods 19).wins).take 4).take (s.visitParams 19 ((nth s.sens.mods 19).left.headD 0)).2.1)).ovr =
        false ∧
        (deliver s 19 3 (((w :: (nth s.sens.mods 19).wins).take 4).take (s.visitParams 19 ((nth s.sens.mods 19).left.headD 0)).2.1)).unr =
        false ∧ (nth s.sens.pres 31).warmMc.isSome = true ∧ (nth s.sens.pres 31).warming = false ∧
        (nth s.sens.pres 31).st = .vacant) ∧
    (∃ (s : State) (w : Win), s.clk.pllLocked = true ∧ 19 < s.sens.mods.length ∧ (nth s.sens.mods 19).conv = true ∧
        ((nth s.sens.mods 19).winLen = 5 → s.chain.now ≤ (nth s.sens.mods 19).winAt + 2400000 ∧
        s.reached ((nth s.sens.mods 19).winAt + 2400000) = true ∧ w.x.length = 150000) ∧
        ((nth s.sens.mods 19).winLen ≠ 5 → s.chain.stage ≤ 2 ∧
        s.ptSince (nth s.sens.mods 19).winMc (nth s.sens.mods 19).winPt = 1024 * 2 ^ (nth s.sens.mods 19).winLen ∧
        samplesFit (nth s.sens.mods 19).winAt s.chain.now w.x.length = true) ∧ (nth s.sens.mods 19).stone.cur = none ∧
        (s.visitParams 19 ((nth s.sens.mods 19).left.headD 0)).2.1 ≤ ((w :: (nth s.sens.mods 19).wins).take 4).length ∧
        ((nth s.sens.mods 19).kept =
        true ∨ (s.visitParams 19 ((nth s.sens.mods 19).left.headD 0)).2.1 ≤ (nth s.sens.mods 19).done + 1) ∧
        (if (nth s.sens.mods 19).kept then (s.visitParams 19 ((nth s.sens.mods 19).left.headD 0)).2.2 else (s.visitParams 19 ((nth s.sens.mods 19).left.headD 0)).2.1 + (s.visitParams 19 ((nth s.sens.mods 19).left.headD 0)).2.2 - 1) ≤ (nth s.sens.mods 19).done + 1 ∧
        s.presUse 31 = false) ∧
    (∃ (s : State) (w : Win), ((nth s.sens.mods 0).winLen = 5 → s.chain.now ≤ (nth s.sens.mods 0).winAt + 2400000 ∧
        s.reached ((nth s.sens.mods 0).winAt + 2400000) = true ∧ w.x.length = 150000) ∧ s.clk.pllLocked = true ∧
        0 < s.sens.mods.length ∧ (nth s.sens.mods 0).conv = true ∧ ((nth s.sens.mods 0).winLen ≠ 5 → s.chain.stage ≤ 2 ∧
        s.ptSince (nth s.sens.mods 0).winMc (nth s.sens.mods 0).winPt = 1024 * 2 ^ (nth s.sens.mods 0).winLen ∧
        samplesFit (nth s.sens.mods 0).winAt s.chain.now w.x.length = true) ∧ (nth s.sens.mods 0).stone.cur = none ∧
        s.chain.now ≠ (nth s.sens.mods 0).winAt + 2400000 ∧
        ¬ ((s.visitParams 0 ((nth s.sens.mods 0).left.headD 0)).2.1 ≤ ((w :: (nth s.sens.mods 0).wins).take 4).length) ∧
        (nth s.sens.mods 0).done + 1 < (if (nth s.sens.mods 0).kept then (s.visitParams 0 ((nth s.sens.mods 0).left.headD 0)).2.2 else (s.visitParams 0 ((nth s.sens.mods 0).left.headD 0)).2.1 + (s.visitParams 0 ((nth s.sens.mods 0).left.headD 0)).2.2 - 1)) := by
  and_intros
  · exact ⟨(updMod 0 (fun x => { x with conv := true, winLen := 2, stone.cur := some (.short 0), stone.codes := [5], done := 2, wins := [{ x := List.replicate 64 (1/2) }, { x := List.replicate 64 (1/2) }] }) ({ up with chain.mc := 1, chain.now := 1023 })),
      ({ x := List.replicate 64 (1/2) }), by decide +kernel⟩
  · exact ⟨(updMod 0 (fun x => { x with conv := true, winLen := 2, stone.cur := some (.short 0), stone.codes := [5], done := 1, wins := [{ x := List.replicate 64 (1/2) }, { x := List.replicate 64 (1/2) }] }) ({ up with chain.mc := 1, chain.now := 1023 })),
      ({ x := List.replicate 64 (1/2) }), by decide +kernel⟩
  · exact ⟨(updMod 0 (fun x => { x with conv := true, winLen := 2, inRound := true, left := [0] }) (upCw .ain 0 0 0x020B0000 { up with chain.mc := 1, chain.now := 1023 })),
      ({ x := List.replicate 64 (1/2) }), by decide +kernel⟩
  · exact ⟨(updMod 0 (fun x => { x with conv := true, winLen := 2, inRound := true, left := [0], kept := true, single := some 0, wins := [{ x := List.replicate 64 (1/2) }] }) (upCw .ain 0 0 0x02090000 { up with chain.mc := 1, chain.now := 1023 })),
      ({ x := List.replicate 64 (1/2) }), by decide +kernel⟩
  · exact ⟨(updMod 20 (fun x => { x with conv := true, winLen := 2, inRound := true, left := [15] }) ({ up with chain.mc := 1, chain.now := 1023 })),
      ({ x := List.replicate 64 (1/2) }), by decide +kernel⟩
  · exact ⟨(updMod 20 (fun x => { x with conv := true, winLen := 2, inRound := true, left := [14, 15] }) ({ up with chain.mc := 1, chain.now := 1023 })),
      ({ x := List.replicate 64 (1/2) }), by decide +kernel⟩
  · exact ⟨(updMod 19 (fun x => { x with conv := true, winLen := 2, inRound := true, left := [3] }) ({ upCw .mod 19 0 0x11 up with chain.mc := 1, chain.now := 1023, sens.pres := List.replicate 32 { inUse := true, bad := 31, qual := 3, rms := 9 } })),
      ({ x := List.replicate 64 0, lim := List.replicate 64 1 }), by decide +kernel⟩
  · exact ⟨(updMod 19 (fun x => { x with conv := true, winLen := 2, inRound := true, left := [3] }) ({ upCw .mod 19 0 0x11 up with chain.mc := 1, chain.now := 1023, sens.pres := List.replicate 32 { inUse := true, bad := 30, qual := 3, rms := 9 } })),
      ({ x := List.replicate 64 0, lim := List.replicate 64 1 }), by decide +kernel⟩
  · exact ⟨(updMod 19 (fun x => { x with conv := true, winLen := 2, inRound := true, left := [3] }) ({ upCw .mod 19 0 0x11 up with chain.mc := 1, chain.now := 1023, sens.pres := List.replicate 32 { inUse := true, bad := 3 } })),
      ({ x := List.replicate 64 (1/2) }), by decide +kernel⟩
  · exact ⟨(updMod 19 (fun x => { x with conv := true, winLen := 2, inRound := true, left := [3] }) ({ upCw .mod 19 0 0x11 up with chain.mc := 1, chain.now := 1023, sens.pres := List.replicate 32 { inUse := true, st := .fault, good := 31 } })),
      ({ x := List.replicate 64 (1/2) }), by decide +kernel⟩
  · exact ⟨(updMod 19 (fun x => { x with conv := true, winLen := 2, inRound := true, left := [3] }) ({ upCw .mod 19 0 0x11 up with chain.mc := 1, chain.now := 1023, sens.pres := List.replicate 32 { inUse := true, st := .fault, good := 30 } })),
      ({ x := List.replicate 64 (1/2) }), by decide +kernel⟩
  · exact ⟨(updMod 19 (fun x => { x with conv := true, winLen := 2, inRound := true, left := [3] }) ({ upCw .mod 19 0 0x11 up with chain.mc := 1, chain.now := 1023, sens.pres := List.replicate 32 { inUse := true, warmMc := some 0, warming := false, qual := 2 } })),
      ({ x := List.replicate 64 (1/2) }), by decide +kernel⟩
  · exact ⟨(updMod 19 (fun x => { x with conv := true, winLen := 2, inRound := true, left := [3] }) ({ upCw .mod 19 0 0x09 up with chain.mc := 1, chain.now := 1023, sens.pres := List.replicate 32 { inUse := true, st := .hold } })),
      ({ x := List.replicate 64 (1/2) }), by decide +kernel⟩
  · exact ⟨(updMod 0 (fun x => { x with conv := true, winLen := 5, winAt := 0, inRound := true, left := [0] }) (upCw .ain 0 0 0x02170000 { up with chain.stage := 9, chain.now := 2399990, chain.mcStart := 2399990, chain.curLen := 480000 })),
      ({ x := List.replicate 150000 (1/2) }), fun _ => ⟨by decide +kernel, by decide +kernel, List.length_replicate⟩,
      by and_intros <;> decide +kernel⟩

theorem witness_PresenceTimers :
    (∃ (s : State), s.clk.pllLocked = true ∧ (nth s.sens.pres 31).warmMc = some 0 ∧
        s.units15 (s.cf .pres 31 0 2 0) ≤ s.mcSince 0) ∧
    (∃ (s : State), s.clk.pllLocked = true ∧ (nth s.sens.pres 31).st = .hold ∧
        s.units15 (nth s.sens.pres 31).holdSet ≤ s.mcSince (nth s.sens.pres 31).holdMc) := by
  refine ⟨?_, ?_⟩
  · exact ⟨({ up with sens.pres := List.replicate 32 { warmMc := some 0 }, chain.mc := 0xFFFF }), by decide +kernel⟩
  · exact ⟨({ up with sens.pres := List.replicate 32 { st := .hold, holdSet := 1 }, chain.mc := 750 }),
      by decide +kernel⟩

theorem witness_ResultsPublished :
    (∃ (s : State) (r : Result), s.clk.pllLocked = true ∧ 11 < s.sens.mods.length ∧
        (inputIndex 11 5) < s.sens.flagged.length ∧
        (nth s.sens.mods 11).pend = [{ pos := 5, res := r, first := true }] ∧
        (inputIndex 11 5) < s.sens.results.length ∧ s.pf 3 14 8 ≠ (inputIndex 11 5) ∧ (r.ovr = true ∨ r.unr = true) ∧
        s.sens.flagged.getD (inputIndex 11 5) false = false) ∧
    (∃ (s : State) (r : Result), s.clk.pllLocked = true ∧ 19 < s.sens.mods.length ∧
        (inputIndex 19 3) < s.sens.flagged.length ∧
        (nth s.sens.mods 19).pend = [{ pos := 3, res := r, first := true }] ∧
        (inputIndex 19 3) < s.sens.results.length ∧ (r.ovr = true ∨ r.unr = true) ∧
        s.sens.flagged.getD (inputIndex 19 3) false = false) ∧
    (∃ (s : State) (r : Result), s.clk.pllLocked = true ∧ 20 < s.sens.mods.length ∧
        (inputIndex 20 8) < s.sens.flagged.length ∧
        (nth s.sens.mods 20).pend = [{ pos := 8, res := r, first := true }] ∧ 8 < s.sens.hk.length ∧
        (r.ovr = true ∨ r.unr = true) ∧ s.sens.flagged.getD (inputIndex 20 8) false = false) ∧
    (∃ (s : State) (r : Result), s.clk.pllLocked = true ∧ 11 < s.sens.mods.length ∧
        (inputIndex 11 6) < s.sens.flagged.length ∧
        (nth s.sens.mods 11).pend = [{ pos := 6, res := r, first := true }] ∧
        (inputIndex 11 6) < s.sens.results.length ∧ s.pf 3 14 8 ≠ (inputIndex 11 6) ∧ r.ovr = false ∧ r.unr = false) ∧
    (∃ (s : State) (r : Result), s.clk.pllLocked = true ∧ 12 < s.sens.mods.length ∧
        (inputIndex 12 0) < s.sens.flagged.length ∧
        (nth s.sens.mods 12).pend = [{ pos := 0, res := r, first := false }] ∧
        (inputIndex 12 0) < s.sens.results.length) := by
  refine ⟨?_, ?_, ?_, ?_, ?_⟩
  · exact ⟨(updMod 11 (fun x => { x with pend := [{ pos := 5, res := { value := 5, ovr := true }, first := true }] }) (up)),
      ({ value := 5, ovr := true }), by decide +kernel⟩
  · exact ⟨(updMod 19 (fun x => { x with pend := [{ pos := 3, res := { value := 5, ovr := true }, first := true }] }) (up)),
      ({ value := 5, ovr := true }), by decide +kernel⟩
  · exact ⟨(updMod 20 (fun x => { x with pend := [{ pos := 8, res := { value := 5, ovr := true }, first := true }] }) (up)),
      ({ value := 5, ovr := true }), by decide +kernel⟩
  · exact ⟨(updMod 11 (fun x => { x with pend := [{ pos := 6, res := { value := 5 }, first := true }] }) (up)),
      ({ value := 5 }), by decide +kernel⟩
  · exact ⟨(updMod 12 (fun x => { x with pend := [{ pos := 0, res := { value := 5, unr := true }, first := false }] }) (up)),
      ({ value := 5, unr := true }), by decide +kernel⟩

theorem witness_HousekeepingAlarms :
    ∃ (s : State), s.clk.pllLocked = true ∧ s.released = true ∧ s.sens.hkDone = true ∧ 12 < s.sens.hk.length ∧
        validQ (nth s.sens.hk 12).value = true := by
  exact ⟨(upCw .hkLim 11 1 0x10000 { up with sens.hkDone := true, sens.hk := List.replicate 16 { value := 0x10001, outCnt := 1 } }),
      by decide +kernel⟩

theorem witness_CalibrationSteps :
    (∃ (s : State) (r : CalRun), s.clk.pllLocked = true ∧ (r.step ≠ 10 ∨ r.actsDone = true) ∧ s.released = true ∧
        s.stone.run = some r ∧ s.sens.mods.length = 21 ∧ r.done = false ∧ s.stepEnded = true ∧ r.step < 22 ∧
        r.step ≠ 10) ∧
    (∃ (s : State) (r : CalRun), s.clk.pllLocked = true ∧ r.step < 22 ∧ (r.step ≠ 10 ∨ r.actsDone = true) ∧
        r.done = false ∧ s.stepEnded = true ∧ s.released = true ∧ s.sens.mods.length = 21 ∧ s.stone.run = some r ∧
        r.step = 1) ∧
    (∃ (s : State) (r : CalRun), s.clk.pllLocked = true ∧ r.step < 22 ∧ (r.step ≠ 10 ∨ r.actsDone = true) ∧
        r.done = false ∧ s.sens.mods.length = 21 ∧ s.released = true ∧ s.stone.run = some r ∧ s.stepEnded = true ∧
        2 ≤ r.step ∧ s.modEn 19 = true) ∧
    (∃ (s : State) (r : CalRun), s.clk.pllLocked = true ∧ r.step < 22 ∧ (r.step ≠ 10 ∨ r.actsDone = true) ∧
        r.done = false ∧ s.stepEnded = true ∧ s.released = true ∧ s.sens.mods.length = 21 ∧ s.stone.run = some r ∧
        r.step < 10 ∧ s.modEn 11 = true) ∧
    (∃ (s : State) (r : CalRun), s.clk.pllLocked = true ∧ (r.step ≠ 10 ∨ r.actsDone = true) ∧ r.done = false ∧
        s.released = true ∧ s.sens.mods.length = 21 ∧ s.stone.run = some r ∧ s.stepEnded = true ∧ r.step < 22 ∧
        s.modEn (r.step - 10) = true) ∧
    (∃ (s : State) (r : CalRun), s.clk.pllLocked = true ∧ r.step < 22 ∧ (r.step ≠ 10 ∨ r.actsDone = true) ∧
        r.done = false ∧ s.released = true ∧ s.sens.mods.length = 21 ∧ s.stone.run = some r ∧ s.stepEnded = true ∧
        r.actsDone = true) ∧
    (∃ (s : State) (r : CalRun), s.clk.pllLocked = true ∧ s.released = true ∧ s.sens.mods.length = 21 ∧
        s.stone.run = some r ∧ r.done = false ∧ s.stepEnded = true ∧ r.step = 10 ∧ r.actsDone = false ∧ r.e0Mc = none) ∧
    (∃ (s : State) (r : CalRun), s.clk.pllLocked = true ∧ s.sens.mods.length = 21 ∧ s.released = true ∧
        s.stone.run = some r ∧ s.modEn 20 = true ∧ (nth s.sens.mods 20).stone.todo = .dvbe 3 :: [.dvbe 4] ∧
        (nth s.sens.mods 20).inRound = false ∧ (nth s.sens.mods 20).conv = false ∧
        (nth s.sens.mods 20).stone.cur = none ∧ s.sup.mode = .run) ∧
    (∃ (s : State) (r : CalRun), s.clk.pllLocked = true ∧ s.modEn 20 = true ∧ (nth s.sens.mods 20).inRound = false ∧
        (nth s.sens.mods 20).conv = false ∧ (nth s.sens.mods 20).stone.cur = none ∧ s.released = true ∧
        s.stone.run = some r ∧ s.sens.mods.length = 21 ∧ (nth s.sens.mods 20).stone.todo = .dvbe 3 :: [.dvbe 4] ∧
        s.sup.mode ≠ .run) ∧
    (∃ (s : State) (r : CalRun), s.clk.pllLocked = true ∧ s.sens.mods.length = 21 ∧ s.released = true ∧
        s.stone.run = some r ∧ (nth s.sens.mods 20).stone.cur = some (.short 7) ∧
        8 ≤ (nth s.sens.mods 20).stone.codes.length ∧ r.pass = 1) ∧
    (∃ (s : State) (r : CalRun), s.clk.pllLocked = true ∧ (nth s.sens.mods 20).stone.cur = some (.short 7) ∧
        8 ≤ (nth s.sens.mods 20).stone.codes.length ∧ s.released = true ∧ s.sens.mods.length = 21 ∧
        s.stone.run = some r ∧ r.pass ≠ 1) ∧
    (∃ (s : State) (r : CalRun), s.clk.pllLocked = true ∧ s.released = true ∧ s.stone.run = some r ∧
        s.sens.mods.length = 21 ∧ (nth s.sens.mods 20).stone.cur = some (.dvbe 4) ∧
        8 ≤ (nth s.sens.mods 20).stone.codes.length ∧ r.pass = 1) ∧
    (∃ (s : State) (r : CalRun), s.clk.pllLocked = true ∧ s.released = true ∧ s.stone.run = some r ∧
        s.sens.mods.length = 21 ∧ (nth s.sens.mods 11).stone.cur = some .calHi ∧
        8 ≤ (nth s.sens.mods 11).stone.codes.length ∧ r.pass = 1 ∧
        (nth s.sens.mods 11).stone.codes.any (fun c => c == 8388607 || c == -8388608) = true) ∧
    (∃ (s : State) (r : CalRun), s.clk.pllLocked = true ∧ s.released = true ∧ s.stone.run = some r ∧
        s.sens.mods.length = 21 ∧ (nth s.sens.mods 0).stone.cur = some .calLo ∧
        8 ≤ (nth s.sens.mods 0).stone.codes.length ∧ r.pass ≠ 1 ∧
        (nth s.sens.mods 0).stone.codes.any (fun c => c == 8388607 || c == -8388608) = false) ∧
    (∃ (s : State) (r : CalRun), s.clk.pllLocked = true ∧ s.released = true ∧ s.stone.run = some r ∧
        s.sens.mods.length = 21 ∧ (nth s.sens.mods 11).stone.cur = some .calLo ∧
        8 ≤ (nth s.sens.mods 11).stone.codes.length ∧ r.pass ≠ 1 ∧
        (nth s.sens.mods 11).stone.codes.any (fun c => c == 8388607 || c == -8388608) = true) := by
  and_intros
  · exact ⟨({ up with stone.run := some { step := 0 } }), ({ step := 0 }), by decide +kernel⟩
  · exact ⟨({ up with stone.run := some { step := 1 } }), ({ step := 1 }), by decide +kernel⟩
  · exact ⟨({ up with stone.run := some { step := 6 } }), ({ step := 6 }), by decide +kernel⟩
  · exact ⟨({ up with stone.run := some { step := 9 } }), ({ step := 9 }), by decide +kernel⟩
  · exact ⟨({ up with stone.run := some { step := 21, skip := List.range 32 } }),
      ({ step := 21, skip := List.range 32 }), by decide +kernel⟩
  · exact ⟨({ up with stone.run := some { step := 10, skip := List.range 32 } }),
      ({ step := 10, skip := List.range 32 }), by decide +kernel⟩
  · exact ⟨({ up with stone.run := some { step := 10, skip := List.range 31 } }),
      ({ step := 10, skip := List.range 31 }), by decide +kernel⟩
  · exact ⟨(updMod 20 (fun x => { x with stone.todo := [.dvbe 3, .dvbe 4] }) { up with stone.run := some { step := 2 } }),
      ({ step := 2 }), by decide +kernel⟩
  · exact ⟨(updMod 20 (fun x => { x with stone.todo := [.dvbe 3, .dvbe 4] }) { up with stone.run := some { step := 2 }, sup.mode := .hold }),
      ({ step := 2 }), by decide +kernel⟩
  · exact ⟨(updMod 20 (fun x => { x with stone.cur := some (.short 7), stone.codes := List.replicate 8 3 }) { up with stone.run := some {} }),
      ({}), by decide +kernel⟩
  · exact ⟨(updMod 20 (fun x => { x with stone.cur := some (.short 7), stone.codes := List.replicate 8 3 }) { up with stone.run := some { pass := 2 } }),
      ({ pass := 2 }), by decide +kernel⟩
  · exact ⟨(updMod 20 (fun x => { x with stone.cur := some (.dvbe 4), stone.codes := List.replicate 8 3 }) { up with stone.run := some { pass := 1 } }),
      ({ pass := 1 }), by decide +kernel⟩
  · exact ⟨(updMod 11 (fun x => { x with stone.cur := some .calHi, stone.codes := 8388607 :: List.replicate 7 3 }) { up with stone.run := some { pass := 1 } }),
      ({ pass := 1 }), by decide +kernel⟩
  · exact ⟨(updMod 0 (fun x => { x with stone.cur := some .calLo, stone.codes := List.replicate 8 3 }) { up with stone.run := some { pass := 2 } }),
      ({ pass := 2 }), by decide +kernel⟩
  · exact ⟨(updMod 11 (fun x => { x with stone.cur := some .calLo, stone.codes := -8388608 :: List.replicate 7 3 }) { up with stone.run := some { pass := 2 } }),
      ({ pass := 2 }), by decide +kernel⟩

theorem witness_CalibrationCounts :
    (∃ (s : State) (r : CalRun), s.clk.pllLocked = true ∧
        (if r.pass = 1 then r.vals1 else r.vals2).any (fun v => v.1 == .act 31) = false ∧ s.stone.run = some r ∧
        r.done = false ∧ r.pass = 1 ∧ r.step ≤ 10 ∧ r.skip.contains 31 = false ∧
        r.vals1.any (fun v => v.1 == .act 31) = false ∧ (s.ach 31).ph = .off ∧ 1 ≤ r.step ∧ s.pullPending 31 = false ∧
        2 ≤ s.mcSince (s.ach 31).offMc ∧ 2 ≤ s.mcSince (s.ach 31).pullMc) ∧
    (∃ (s : State) (r : CalRun), s.clk.pllLocked = true ∧
        (if r.pass = 1 then r.vals1 else r.vals2).any (fun v => v.1 == .act 31) = false ∧ s.stone.run = some r ∧
        r.e0Mc = some 0 ∧ 256 ≤ s.mcSince 0 ∧ r.skip.contains 31 = false ∧
        r.vals1.any (fun v => v.1 == .act 31) = false) ∧
    (∃ (s : State) (r : CalRun), s.clk.pllLocked = true ∧ s.stone.run = some r ∧ r.done = false ∧ r.keepXtal = false ∧
        1 ≤ r.pulses ∧ r.pulses < 16) ∧
    (∃ (s : State) (r : CalRun), s.clk.pllLocked = true ∧ s.stone.run = some r ∧ r.done = false ∧ r.keepXtal = false ∧
        r.pulses = 0 ∧ s.secMc 2 ≤ s.mcSince r.passMc) ∧
    (∃ (s : State) (r : CalRun), s.clk.pllLocked = true ∧ s.stone.run = some r ∧ r.done = false ∧ r.step = 22 ∧
        s.stepEnded = true ∧ r.xtalDone = true ∧ r.pass ≠ 1) ∧
    (∃ (s : State) (r : CalRun), s.clk.pllLocked = true ∧ r.done = false ∧ s.stone.run = some r ∧ r.step = 22 ∧
        s.stepEnded = true ∧ r.xtalDone = true ∧ r.pass = 1) ∧
    (∃ (s : State) (r : CalRun), s.clk.pllLocked = true ∧ s.stone.run = some r ∧ s.sup.mode = .quiet ∧
        256 ≤ s.mcSince s.sup.quietMc) ∧
    (∃ (s : State) (r : CalRun), s.clk.pllLocked = true ∧ s.stone.run = some r ∧ r.done = false ∧ r.keepXtal = false ∧
        r.pulses = 0) ∧
    (∃ (s : State) (r : CalRun), s.clk.pllLocked = true ∧ s.stone.run = some r ∧ r.done = false ∧ r.keepXtal = false ∧
        r.pulses = 16 ∧ r.pass = 1) := by
  and_intros
  · exact ⟨({ up with stone.run := some { step := 10 }, chain.mc := 2 }), ({ step := 10 }), by decide +kernel⟩
  · exact ⟨({ up with stone.run := some { step := 10, e0Mc := some 0 }, chain.mc := 256 }),
      ({ step := 10, e0Mc := some 0 }), by decide +kernel⟩
  · exact ⟨({ up with stone.run := some { keepXtal := false, pulses := 15, cnt24 := 3 } }),
      ({ keepXtal := false, pulses := 15, cnt24 := 3 }), by decide +kernel⟩
  · exact ⟨({ up with stone.run := some { keepXtal := false }, chain.mc := 100 }), ({ keepXtal := false }),
      by decide +kernel⟩
  · exact ⟨({ up with stone.run := some { step := 22, pass := 2 } }), ({ step := 22, pass := 2 }), by decide +kernel⟩
  · exact ⟨({ up with stone.run := some { step := 22, vals1 := [(.x24, 1)] } }), ({ step := 22, vals1 := [(.x24, 1)] }),
      by decide +kernel⟩
  · exact ⟨({ up with sup.mode := .quiet, chain.mc := 256, stone.run := some {} }), ({}), by decide +kernel⟩
  · exact ⟨({ up with stone.run := some { keepXtal := false } }), ({ keepXtal := false }), by decide +kernel⟩
  · exact ⟨({ up with stone.run := some { keepXtal := false, pulses := 16, cnt24 := 7 } }),
      ({ keepXtal := false, pulses := 16, cnt24 := 7 }), by decide +kernel⟩

theorem witness_CalibrationRunEnds :
    (∃ (s : State) (r : CalRun), s.clk.pllLocked = true ∧ s.stone.run = some r ∧ r.done = true ∧ s.stone.commit = none ∧
        disagreement r ≠ 0) ∧
    (∃ (s : State) (r : CalRun), s.clk.pllLocked = true ∧ s.stone.commit = none ∧ s.stone.run = some r ∧ r.done = true ∧
        disagreement r = 0 ∧ (runResult s r).2 ≠ 0) ∧
    (∃ (s : State) (r : CalRun), s.clk.pllLocked = true ∧ r.done = true ∧ s.stone.run = some r ∧ s.stone.commit = none ∧
        disagreement r = 0 ∧ (runResult s r).2 = 0 ∧ s.calHost = true) ∧
    (∃ (s : State) (r : CalRun), s.clk.pllLocked = true ∧ r.done = true ∧ s.stone.run = some r ∧ s.stone.commit = none ∧
        disagreement r = 0 ∧ (runResult s r).2 = 0 ∧ s.calHost = false ∧ 3 < s.nvm.queue.length) := by
  refine ⟨?_, ?_, ?_, ?_⟩
  · exact ⟨({ up with stone.run := some { done := true, vals1 := [(.act 31, 100)], vals2 := [(.act 31, 200)] } }),
      ({ done := true, vals1 := [(.act 31, 100)], vals2 := [(.act 31, 200)] }), by decide +kernel⟩
  · exact ⟨({ up with stone.run := some { done := true, tMax := 131073 } }), ({ done := true, tMax := 131073 }),
      by decide +kernel⟩
  · exact ⟨(upCw .stone 0 0 1 { up with stone.run := some { done := true } }), ({ done := true }), by decide +kernel⟩
  · exact ⟨({ up with stone.run := some { done := true, set := 7 } }), ({ done := true, set := 7 }), by decide +kernel⟩

theorem witness_CalibrationCommands :
    (∃ (s : State) (m : Msg), s.executes 0x1101 m ∧ m.plain (4) ∧ getB m.payload 0 < 8 ∧ padOk m 1 3 = true ∧
        s.stone.run = none ∧ s.test.running = false ∧ s.stone.commit = none ∧ s.throttled = false ∧
        s.bushel.closed = true ∧ s.calHost = false) ∧
    (∃ (s : State) (m : Msg), s.executes 0x1103 m ∧ m.plain (4) ∧ getB m.payload 0 < 8 ∧ padOk m 1 3 = true ∧
        s.calHost = false ∧ s.stone.run = none ∧ s.thermalBars = false ∧ s.bushel.closed = true) ∧
    (∃ (s : State) (m : Msg), s.executes 0x1101 m ∧ m.plain (4) ∧ getB m.payload 0 < 8 ∧ padOk m 1 3 = true ∧
        s.stone.run = none ∧ s.test.running = false ∧ s.stone.commit = none ∧ s.throttled = false ∧
        s.bushel.closed = false) ∧
    (∃ (s : State) (m : Msg), s.executes 0x1101 m ∧ m.plain (4) ∧ getB m.payload 0 < 8 ∧ padOk m 1 3 = true ∧
        s.stone.run ≠ none) ∧
    (∃ (s : State) (m : Msg), s.executes 0x1102 m ∧ m.plain (0) ∧ s.stone.run = none ∧ s.stone.commitSet = none) ∧
    (∃ (s : State) (m : Msg), s.executes 0x1102 m ∧ m.plain (0) ∧ s.stone.run = some {} ∧ s.stone.commitSet = none) ∧
    (∃ (s : State) (m : Msg), s.executes 0x1103 m ∧ m.plain (4) ∧ getB m.payload 0 < 8 ∧ padOk m 1 3 = true ∧
        s.calHost = false ∧ s.stone.run = none ∧ s.thermalBars = false ∧ s.bushel.closed = false) ∧
    (∃ (s : State) (m : Msg), s.executes 0x1104 m ∧ m.plain (0)) ∧
    (∃ (s : State) (m : Msg), s.executes 0x1105 m ∧ m.plain (768) ∧ coefPlausible (CalSet.ofBytes m.payload) = true ∧
        calRecordOk m.payload = true ∧ s.calHost = true ∧ s.stone.run = none) ∧
    (∃ (s : State) (m : Msg), s.executes 0x1106 m ∧ m.plain (0)) := by
  and_intros
  · exact ⟨({ up with bushel.closed := true }), ({ tag := 6, payload := [3, 0, 0, 0] }), ⟨by decide +kernel,
      by decide +kernel, by decide +kernel, .inl (by decide +kernel)⟩, ⟨by decide +kernel, by decide +kernel⟩,
      by decide +kernel⟩
  · exact ⟨({ up with bushel.closed := true }), ({ tag := 6, payload := [3, 0, 0, 0] }), ⟨by decide +kernel,
      by decide +kernel, by decide +kernel, .inl (by decide +kernel)⟩, ⟨by decide +kernel, by decide +kernel⟩,
      by decide +kernel⟩
  · exact ⟨(up), ({ payload := [7, 0, 0, 0] }), ⟨by decide +kernel, by decide +kernel, by decide +kernel,
      .inl (by decide +kernel)⟩, ⟨by decide +kernel, by decide +kernel⟩, by decide +kernel⟩
  · exact ⟨({ up with stone.run := some {} }), ({ payload := [7, 0, 0, 0] }), ⟨by decide +kernel, by decide +kernel,
      by decide +kernel, .inl (by decide +kernel)⟩, ⟨by decide +kernel, by decide +kernel⟩, by decide +kernel⟩
  · exact ⟨(up), ({}), ⟨by decide +kernel, by decide +kernel, by decide +kernel, .inl (by decide +kernel)⟩,
      ⟨by decide +kernel, by decide +kernel⟩, by decide +kernel⟩
  · exact ⟨({ up with stone.run := some {} }), ({}), ⟨by decide +kernel, by decide +kernel, by decide +kernel,
      .inl (by decide +kernel)⟩, ⟨by decide +kernel, by decide +kernel⟩, by decide +kernel⟩
  · exact ⟨(up), ({ payload := [7, 0, 0, 0] }), ⟨by decide +kernel, by decide +kernel, by decide +kernel,
      .inl (by decide +kernel)⟩, ⟨by decide +kernel, by decide +kernel⟩, by decide +kernel⟩
  · exact ⟨(up), ({}), ⟨by decide +kernel, by decide +kernel, by decide +kernel, .inl (by decide +kernel)⟩,
      ⟨by decide +kernel, by decide +kernel⟩⟩
  · exact ⟨(upCw .stone 0 0 1 up), ({ payload := factRecord.bytes }), ⟨by decide +kernel, by decide +kernel,
      by decide +kernel, .inl (by decide +kernel)⟩, ⟨by decide +kernel, by decide +kernel⟩, factRecord_ok,
      by and_intros <;> decide +kernel⟩
  · exact ⟨(up), ({}), ⟨by decide +kernel, by decide +kernel, by decide +kernel, .inl (by decide +kernel)⟩,
      ⟨by decide +kernel, by decide +kernel⟩⟩

theorem witness_LoopEvaluates :
    (∃ (s : State), (updLoop 127 (fun c => { c with startHold := false, startClose := false, closePend := c.closePend || (c.startClose && (loopLive 127 s).cb .loop (127 - 1) 0 4) }) (if (s.loop 127).startHold =
        true then setOutHold 127 ((loopLive 127 s).lf 127 3 31 16) (loopLive 127 s) else (loopLive 127 s))).validMeas 127 ((updLoop 127 (fun c => { c with startHold := false, startClose := false, closePend := c.closePend || (c.startClose && (loopLive 127 s).cb .loop (127 - 1) 0 4) }) (if (s.loop 127).startHold =
        true then setOutHold 127 ((loopLive 127 s).lf 127 3 31 16) (loopLive 127 s) else (loopLive 127 s))).sampleMc 127) =
        none ∧ s.evalDue 127 = true ∧ s.clk.pllLocked = true ∧
        ((s.loop 127).dyn.st = .opened ∨ (s.loop 127).dyn.st = .closed) ∧ (s.loop 127).poison = false ∧
        (s.loop 127).openReq = none ∧ (s.loop 127).eval = none ∧ (s.loop 127).dyn.st = .opened ∧
        (s.loop 127).startHold = true ∧
        (updLoop 127 (fun c => { c with startHold := false, startClose := false, closePend := c.closePend || (c.startClose && (loopLive 127 s).cb .loop (127 - 1) 0 4) }) (if (s.loop 127).startHold =
        true then setOutHold 127 ((loopLive 127 s).lf 127 3 31 16) (loopLive 127 s) else (loopLive 127 s))).loopStaged 127 =
        false) ∧
    (∃ (s : State), s.evalDue 112 = true ∧ s.clk.pllLocked = true ∧
        ((s.loop 112).dyn.st = .opened ∨ (s.loop 112).dyn.st = .closed) ∧ (s.loop 112).poison = false ∧
        (s.loop 112).openReq = none ∧ (s.loop 112).eval = none ∧ (s.loop 112).dyn.st = .opened ∧
        (updLoop 112 (fun c => { c with startHold := false, startClose := false, closePend := c.closePend || (c.startClose && (loopLive 112 s).cb .loop (112 - 1) 0 4) }) (if (s.loop 112).startHold =
        true then setOutHold 112 ((loopLive 112 s).lf 112 3 31 16) (loopLive 112 s) else (loopLive 112 s))).loopStaged 112 =
        false ∧ (s.loop 112).closePend = false ∧
        (updLoop 112 (fun c => { c with startHold := false, startClose := false, closePend := c.closePend || (c.startClose && (loopLive 112 s).cb .loop (112 - 1) 0 4) }) (if (s.loop 112).startHold =
        true then setOutHold 112 ((loopLive 112 s).lf 112 3 31 16) (loopLive 112 s) else (loopLive 112 s))).validMeas 112 ((updLoop 112 (fun c => { c with startHold := false, startClose := false, closePend := c.closePend || (c.startClose && (loopLive 112 s).cb .loop (112 - 1) 0 4) }) (if (s.loop 112).startHold =
        true then setOutHold 112 ((loopLive 112 s).lf 112 3 31 16) (loopLive 112 s) else (loopLive 112 s))).sampleMc 112) ≠ none) ∧
    (∃ (s : State), s.evalDue 127 = true ∧ s.clk.pllLocked = true ∧
        ((s.loop 127).dyn.st = .opened ∨ (s.loop 127).dyn.st = .closed) ∧ (s.loop 127).poison = false ∧
        (s.loop 127).openReq = none ∧ (s.loop 127).eval = none ∧ (s.loop 127).dyn.st = .closed ∧
        (updLoop 127 (fun c => { c with startHold := false, startClose := false, closePend := c.closePend || (c.startClose && (loopLive 127 s).cb .loop (127 - 1) 0 4) }) (if (s.loop 127).startHold =
        true then setOutHold 127 ((loopLive 127 s).lf 127 3 31 16) (loopLive 127 s) else (loopLive 127 s))).validMeas 127 ((updLoop 127 (fun c => { c with startHold := false, startClose := false, closePend := c.closePend || (c.startClose && (loopLive 127 s).cb .loop (127 - 1) 0 4) }) (if (s.loop 127).startHold =
        true then setOutHold 127 ((loopLive 127 s).lf 127 3 31 16) (loopLive 127 s) else (loopLive 127 s))).sampleMc 127) =
        none) ∧
    (∃ (s : State), s.evalDue 112 = true ∧ s.clk.pllLocked = true ∧
        ((s.loop 112).dyn.st = .opened ∨ (s.loop 112).dyn.st = .closed) ∧ (s.loop 112).poison = false ∧
        (s.loop 112).openReq = none ∧ (s.loop 112).eval = none ∧ (s.loop 112).dyn.st = .closed ∧
        (updLoop 112 (fun c => { c with startHold := false, startClose := false, closePend := c.closePend || (c.startClose && (loopLive 112 s).cb .loop (112 - 1) 0 4) }) (if (s.loop 112).startHold =
        true then setOutHold 112 ((loopLive 112 s).lf 112 3 31 16) (loopLive 112 s) else (loopLive 112 s))).validMeas 112 ((updLoop 112 (fun c => { c with startHold := false, startClose := false, closePend := c.closePend || (c.startClose && (loopLive 112 s).cb .loop (112 - 1) 0 4) }) (if (s.loop 112).startHold =
        true then setOutHold 112 ((loopLive 112 s).lf 112 3 31 16) (loopLive 112 s) else (loopLive 112 s))).sampleMc 112) =
        some 0x150000) := by
  refine ⟨?_, ?_, ?_, ?_⟩
  · exact ⟨(updLoop 127 (fun c => { c with startHold := true }) (updDyn 127 (fun d => { d with st := .opened, out := 7, tag := 15 }) (upCw .loop 126 0 (up.cw .loop 126 0 ||| 1) (upCw .loop 126 3 0xBEEF0001 { up with chain.pt := 4063 })))),
      by decide +kernel, by and_intros <;> decide +kernel⟩
  · exact ⟨(updDyn 112 (fun d => { d with st := .opened }) (upCw .loop 111 6 0x02000003 { up with chain.pt := 3583, sens.results := List.replicate 128 { value := 0x150000 } })),
      by decide +kernel⟩
  · exact ⟨(updDyn 127 (fun d => { d with st := .closed, out := 7, tag := 15, invalidRun := 255 }) (upCw .loop 126 0 (up.cw .loop 126 0 ||| 1) { up with chain.pt := 4063 })),
      by decide +kernel⟩
  · exact ⟨(updDyn 112 (fun d => { d with st := .closed, out := 7, tag := 15, invalidRun := 255 }) (upCw .loop 111 6 0x02000003 { up with chain.pt := 3583, sens.results := List.replicate 128 { value := 0x150000 } })),
      by decide +kernel⟩

theorem witness_LoopStages :
    (∃ (s : State), s.evalDue 127 = true ∧ s.clk.pllLocked = true ∧
        ((s.loop 127).dyn.st = .opened ∨ (s.loop 127).dyn.st = .closed) ∧ (s.loop 127).eval = none ∧
        (s.loop 127).poison = true) ∧
    (∃ (s : State), s.evalDue 127 = true ∧ s.clk.pllLocked = true ∧
        ((s.loop 127).dyn.st = .opened ∨ (s.loop 127).dyn.st = .closed) ∧ (s.loop 127).eval = none ∧
        (s.loop 127).poison = false ∧ (s.loop 127).openReq = some (none) ∧ (s.loop 127).dyn.st = .closed ∧
        s.cfg.inForce.length = 20 ∧ (s.cfg.inForce.sec .loop).length = 1524) ∧
    (∃ (s : State), s.evalDue 127 = true ∧ s.clk.pllLocked = true ∧
        ((s.loop 127).dyn.st = .opened ∨ (s.loop 127).dyn.st = .closed) ∧ (s.loop 127).eval = none ∧
        (s.loop 127).poison = false ∧ (s.loop 127).openReq = some (some 0x1234) ∧ (s.loop 127).dyn.st = .closed ∧
        s.cfg.inForce.length = 20 ∧ (s.cfg.inForce.sec .loop).length = 1524) ∧
    (∃ (s : State), s.evalDue 112 = true ∧ s.clk.pllLocked = true ∧
        ((s.loop 112).dyn.st = .opened ∨ (s.loop 112).dyn.st = .closed) ∧ (s.loop 112).eval = none ∧
        (s.loop 112).poison = false ∧ (s.loop 112).openReq = none ∧
        (updLoop 112 (fun c => { c with startHold := false, startClose := false, closePend := c.closePend || (c.startClose && (loopLive 112 s).cb .loop (112 - 1) 0 4) }) (if (s.loop 112).startHold =
        true then setOutHold 112 ((loopLive 112 s).lf 112 3 31 16) (loopLive 112 s) else (loopLive 112 s))).validMeas 112 ((updLoop 112 (fun c => { c with startHold := false, startClose := false, closePend := c.closePend || (c.startClose && (loopLive 112 s).cb .loop (112 - 1) 0 4) }) (if (s.loop 112).startHold =
        true then setOutHold 112 ((loopLive 112 s).lf 112 3 31 16) (loopLive 112 s) else (loopLive 112 s))).sampleMc 112) =
        some 0x150000 ∧ (s.loop 112).dyn.exps.length = 6 ∧ (s.loop 112).dyn.hr.length = 6 ∧
        (s.loop 112).dyn.st = .closed ∧
        (updLoop 112 (fun c => { c with startHold := false, startClose := false, closePend := c.closePend || (c.startClose && (loopLive 112 s).cb .loop (112 - 1) 0 4) }) (if (s.loop 112).startHold =
        true then setOutHold 112 ((loopLive 112 s).lf 112 3 31 16) (loopLive 112 s) else (loopLive 112 s))).lf 112 0 3 2 ≠ 0 ∧
        (updLoop 112 (fun c => { c with startHold := false, startClose := false, closePend := c.closePend || (c.startClose && (loopLive 112 s).cb .loop (112 - 1) 0 4) }) (if (s.loop 112).startHold =
        true then setOutHold 112 ((loopLive 112 s).lf 112 3 31 16) (loopLive 112 s) else (loopLive 112 s))).loopOverride 112 =
        false) ∧
    (∃ (s : State), s.evalDue 112 = true ∧ s.clk.pllLocked = true ∧
        ((s.loop 112).dyn.st = .opened ∨ (s.loop 112).dyn.st = .closed) ∧ (s.loop 112).eval = none ∧
        (s.loop 112).poison = false ∧ (s.loop 112).openReq = none ∧
        (updLoop 112 (fun c => { c with startHold := false, startClose := false, closePend := c.closePend || (c.startClose && (loopLive 112 s).cb .loop (112 - 1) 0 4) }) (if (s.loop 112).startHold =
        true then setOutHold 112 ((loopLive 112 s).lf 112 3 31 16) (loopLive 112 s) else (loopLive 112 s))).validMeas 112 ((updLoop 112 (fun c => { c with startHold := false, startClose := false, closePend := c.closePend || (c.startClose && (loopLive 112 s).cb .loop (112 - 1) 0 4) }) (if (s.loop 112).startHold =
        true then setOutHold 112 ((loopLive 112 s).lf 112 3 31 16) (loopLive 112 s) else (loopLive 112 s))).sampleMc 112) =
        some 0x150000 ∧ (s.loop 112).dyn.exps.length = 6 ∧ (s.loop 112).dyn.hr.length = 6 ∧
        (s.loop 112).dyn.st = .closed ∧
        ((updLoop 112 (fun c => { c with startHold := false, startClose := false, closePend := c.closePend || (c.startClose && (loopLive 112 s).cb .loop (112 - 1) 0 4) }) (if (s.loop 112).startHold =
        true then setOutHold 112 ((loopLive 112 s).lf 112 3 31 16) (loopLive 112 s) else (loopLive 112 s))).lf 112 0 3 2 =
        0 ∨ (updLoop 112 (fun c => { c with startHold := false, startClose := false, closePend := c.closePend || (c.startClose && (loopLive 112 s).cb .loop (112 - 1) 0 4) }) (if (s.loop 112).startHold =
        true then setOutHold 112 ((loopLive 112 s).lf 112 3 31 16) (loopLive 112 s) else (loopLive 112 s))).loopOverride 112 =
        true)) ∧
    (∃ (s : State), s.evalDue 112 = true ∧ s.clk.pllLocked = true ∧
        ((s.loop 112).dyn.st = .opened ∨ (s.loop 112).dyn.st = .closed) ∧ (s.loop 112).eval = none ∧
        (s.loop 112).poison = false ∧ (s.loop 112).openReq = none ∧
        (updLoop 112 (fun c => { c with startHold := false, startClose := false, closePend := c.closePend || (c.startClose && (loopLive 112 s).cb .loop (112 - 1) 0 4) }) (if (s.loop 112).startHold =
        true then setOutHold 112 ((loopLive 112 s).lf 112 3 31 16) (loopLive 112 s) else (loopLive 112 s))).validMeas 112 ((updLoop 112 (fun c => { c with startHold := false, startClose := false, closePend := c.closePend || (c.startClose && (loopLive 112 s).cb .loop (112 - 1) 0 4) }) (if (s.loop 112).startHold =
        true then setOutHold 112 ((loopLive 112 s).lf 112 3 31 16) (loopLive 112 s) else (loopLive 112 s))).sampleMc 112) =
        some 0x150000 ∧ (s.loop 112).dyn.exps.length = 6 ∧ (s.loop 112).dyn.hr.length = 6 ∧
        (s.loop 112).dyn.st = .opened ∧
        (updLoop 112 (fun c => { c with startHold := false, startClose := false, closePend := c.closePend || (c.startClose && (loopLive 112 s).cb .loop (112 - 1) 0 4) }) (if (s.loop 112).startHold =
        true then setOutHold 112 ((loopLive 112 s).lf 112 3 31 16) (loopLive 112 s) else (loopLive 112 s))).loopStaged 112 =
        false ∧
        ((updLoop 112 (fun c => { c with startHold := false, startClose := false, closePend := c.closePend || (c.startClose && (loopLive 112 s).cb .loop (112 - 1) 0 4) }) (if (s.loop 112).startHold =
        true then setOutHold 112 ((loopLive 112 s).lf 112 3 31 16) (loopLive 112 s) else (loopLive 112 s))).loop 112).closePend =
        true) ∧
    (∃ (s : State), s.evalDue 112 = true ∧ s.clk.pllLocked = true ∧
        ((s.loop 112).dyn.st = .opened ∨ (s.loop 112).dyn.st = .closed) ∧ (s.loop 112).eval = none ∧
        (s.loop 112).poison = false ∧ (s.loop 112).openReq = none ∧
        (updLoop 112 (fun c => { c with startHold := false, startClose := false, closePend := c.closePend || (c.startClose && (loopLive 112 s).cb .loop (112 - 1) 0 4) }) (if (s.loop 112).startHold =
        true then setOutHold 112 ((loopLive 112 s).lf 112 3 31 16) (loopLive 112 s) else (loopLive 112 s))).validMeas 112 ((updLoop 112 (fun c => { c with startHold := false, startClose := false, closePend := c.closePend || (c.startClose && (loopLive 112 s).cb .loop (112 - 1) 0 4) }) (if (s.loop 112).startHold =
        true then setOutHold 112 ((loopLive 112 s).lf 112 3 31 16) (loopLive 112 s) else (loopLive 112 s))).sampleMc 112) =
        some 0x150000 ∧ (s.loop 112).dyn.exps.length = 6 ∧ (s.loop 112).dyn.hr.length = 6 ∧
        (s.loop 112).dyn.st = .opened ∧
        (updLoop 112 (fun c => { c with startHold := false, startClose := false, closePend := c.closePend || (c.startClose && (loopLive 112 s).cb .loop (112 - 1) 0 4) }) (if (s.loop 112).startHold =
        true then setOutHold 112 ((loopLive 112 s).lf 112 3 31 16) (loopLive 112 s) else (loopLive 112 s))).loopStaged 112 =
        false ∧
        ((updLoop 112 (fun c => { c with startHold := false, startClose := false, closePend := c.closePend || (c.startClose && (loopLive 112 s).cb .loop (112 - 1) 0 4) }) (if (s.loop 112).startHold =
        true then setOutHold 112 ((loopLive 112 s).lf 112 3 31 16) (loopLive 112 s) else (loopLive 112 s))).loop 112).closePend =
        true) := by
  and_intros
  · exact ⟨(updLoop 127 (fun c => { c with poison := true }) (updDyn 127 (fun d => { d with st := .closed, out := 7, tag := 15 }) (upCw .loop 126 0 (up.cw .loop 126 0 ||| 1) (upCw .loop 126 3 0xBEEF0001 { up with chain.pt := 4063 })))),
      by decide +kernel⟩
  · exact ⟨(updLoop 127 (fun c => { c with openReq := some (none) }) (updDyn 127 (fun d => { d with st := .closed, out := 7, tag := 15 }) (upCw .loop 126 0 (up.cw .loop 126 0 ||| 1) { up with chain.pt := 4063 }))),
      by decide +kernel⟩
  · exact ⟨(updLoop 127 (fun c => { c with openReq := some (some 0x1234) }) (updDyn 127 (fun d => { d with st := .closed, out := 7, tag := 15 }) (upCw .loop 126 0 (up.cw .loop 126 0 ||| 1) { up with chain.pt := 4063 }))),
      by decide +kernel⟩
  · exact ⟨(updDyn 112 (fun d => { d with st := .closed, out := 7, tag := 15, int := 8385000, exps := [-18, -18, -22, -24, -24, -24], hr := [15, 3, 2, 15, 0, 0], fresh := [false, false, false, false, true, false] }) (upCw .loop 111 7 0x250174C4 (upCw .loop 111 0 (up.cw .loop 111 0) { up with chain.pt := 3583, sens.results := List.replicate 128 { value := 0x150000 } }))),
      by decide +kernel⟩
  · exact ⟨(updDyn 112 (fun d => { d with st := .closed, out := 7, tag := 15, int := 8385000, exps := [-18, -18, -22, -24, -24, -24], hr := [15, 3, 2, 15, 0, 0], fresh := [false, false, false, false, true, false] }) (upCw .loop 111 7 0x250174C4 (upCw .loop 111 0 (up.cw .loop 111 0 &&& 0xFFFFFFF3) { up with chain.pt := 3583, sens.results := List.replicate 128 { value := 0x150000 } }))),
      by decide +kernel⟩
  · exact ⟨(updLoop 112 (fun c => { c with closePend := true }) (updDyn 112 (fun d => { d with st := .opened, out := 7, tag := 15, int := 8385000, exps := [-18, -18, -22, -24, -24, -24], hr := [15, 3, 2, 15, 0, 0], fresh := [false, false, false, false, true, false] }) (upCw .loop 111 3 0x8000 (upCw .loop 111 0 (up.cw .loop 111 0) { up with chain.pt := 3583, sens.results := List.replicate 128 { value := 0x150000 } })))),
      by decide +kernel⟩
  · exact ⟨(updLoop 112 (fun c => { c with closePend := true }) (updDyn 112 (fun d => { d with st := .opened, out := 7, tag := 15, int := 8385000, exps := [-18, -18, -22, -24, -24, -24], hr := [15, 3, 2, 15, 0, 0], fresh := [false, false, false, false, true, false] }) (upCw .loop 111 3 0x8000 (upCw .loop 111 0 (up.cw .loop 111 0 &&& 0xFFFFFFF3) { up with chain.pt := 3583, sens.results := List.replicate 128 { value := 0x150000 } })))),
      by decide +kernel⟩

theorem witness_LoopCommits :
    (∃ (s : State) (e : LoopEval), (s.loop 127).eval = some e ∧ s.clk.pllLocked = true ∧ s.chain.stage ≤ 1 ∧
        s.chain.pt.toNat = e.slot ∧ s.chain.mc = e.dyn.sampleMc ∧ e.dyn.st ≠ .fault ∧ e.source = none ∧
        63 < s.rood.slots.length ∧ s.slEn 63 = true ∧ s.slLoop 63 = 127) ∧
    (∃ (s : State) (e : LoopEval), (s.loop 127).eval = some e ∧ s.clk.pllLocked = true ∧ s.chain.stage ≤ 1 ∧
        s.chain.pt.toNat = e.slot ∧ s.chain.mc = e.dyn.sampleMc ∧ (s.loop 127).openReq = none) ∧
    (∃ (s : State) (e : LoopEval), (s.loop 112).eval = some e ∧ s.clk.pllLocked = true ∧ s.chain.stage ≤ 1 ∧
        s.chain.pt.toNat = e.slot ∧ s.chain.mc = e.dyn.sampleMc ∧ e.dyn.st = .fault) := by
  refine ⟨?_, ?_, ?_⟩
  · exact ⟨(updLoop 127 (fun c => { c with closePend := true, eval := some { dyn := { st := .closed, out := 9 }, slot := 0xFE0, hold := some 5 } }) (upCw .sol 63 0 0x80FE0000 { up with chain.pt := 0xFE0 })),
      ({ dyn := { st := .closed, out := 9 }, slot := 0xFE0, hold := some 5 }), by decide +kernel⟩
  · exact ⟨(updLoop 127 (fun c => { c with eval := some { dyn := { st := .closed, out := 9 }, slot := 0xFE0, opened := some none }, overrun := 65535 }) { up with chain.pt := 0xFE0 }),
      ({ dyn := { st := .closed, out := 9 }, slot := 0xFE0, opened := some none }), by decide +kernel⟩
  · exact ⟨(updLoop 112 (fun c => { c with closePend := true, eval := some { dyn := { st := .fault, out := 9 }, slot := 0xE00 } }) (upCw .zone 3 10 0x00700000 { up with chain.pt := 0xE00 })),
      ({ dyn := { st := .fault, out := 9 }, slot := 0xE00 }), by decide +kernel⟩

theorem witness_LoopCommands :
    (∃ (s : State) (m : Msg), s.executes 0x2001 m ∧ m.plain (4) ∧ loopOk (getB m.payload 0) = true ∧
        getB m.payload 1 < 2 ∧ ((getB m.payload 1 = 0 → getH m.payload 2 = 0)) ∧
        ((s.loop 127).dyn.st = .closed ∨ ((s.loop 127).dyn.st = .opened ∧
        (getB m.payload 1 = 0 ∨ (s.loop 127).closing = true)))) ∧
    (∃ (s : State) (m : Msg), s.executes 0x2001 m ∧ m.plain (4) ∧ loopOk (getB m.payload 0) = true ∧
        getB m.payload 1 < 2 ∧ ((getB m.payload 1 = 0 → getH m.payload 2 = 0)) ∧
        ((s.loop 127).dyn.st = .closed ∨ ((s.loop 127).dyn.st = .opened ∧
        (getB m.payload 1 = 0 ∨ (s.loop 127).closing = true))) ∧ getB m.payload 1 = 0) ∧
    (∃ (s : State) (m : Msg), s.executes 0x2001 m ∧ m.plain (4) ∧ loopOk (getB m.payload 0) = true ∧
        getB m.payload 1 = 1 ∧ (s.loop 127).dyn.st = .opened ∧ (s.loop 127).closing = false) ∧
    (∃ (s : State) (m : Msg), s.executes 0x2001 m ∧ m.plain (4) ∧ loopOk (getB m.payload 0) = true ∧
        getB m.payload 1 = 1 ∧ ((s.loop 127).dyn.st = .disabled ∨ (s.loop 127).dyn.st = .fault)) ∧
    (∃ (s : State) (m : Msg), s.executes 0x2001 m ∧ m.plain (4) ∧ loopOk (getB m.payload 0) = true ∧
        ((s.loop 127).dyn.st = .disabled ∨ (s.loop 127).dyn.st = .fault) ∧ getB m.payload 1 = 0 ∧
        getH m.payload 2 = 0) ∧
    (∃ (s : State) (m : Msg), s.executes 0x2002 m ∧ m.plain (4) ∧ loopOk (getB m.payload 0) = true ∧
        padOk m 1 3 = true ∧ (s.loop 1).dyn.st = .opened) ∧
    (∃ (s : State) (m : Msg), s.executes 0x2002 m ∧ m.plain (4) ∧ loopOk (getB m.payload 0) = true ∧
        padOk m 1 3 = true ∧ (s.loop 1).dyn.st = .closed) ∧
    (∃ (s : State) (m : Msg), s.executes 0x2002 m ∧ m.plain (4) ∧ loopOk (getB m.payload 0) = true ∧
        padOk m 1 3 = true ∧ (s.loop 1).dyn.st = .disabled) ∧
    (∃ (s : State) (m : Msg), s.executes 0x2002 m ∧ m.plain (4) ∧ loopOk (getB m.payload 0) = true ∧
        padOk m 1 3 = true ∧ (s.loop 1).dyn.st = .fault) ∧
    (∃ (s : State) (m : Msg), s.executes 0x2004 m ∧ m.plain (4) ∧ loopOk (getB m.payload 0) = true ∧
        padOk m 1 3 = true) ∧
    (∃ (s : State) (m : Msg), s.executes 0x2005 m ∧ m.plain (20) ∧ loopOk (getB m.payload 0) = true ∧
        padOk m 2 2 = true ∧ 1 ≤ getB m.payload 1 ∧ getB m.payload 1 ≤ 15 ∧ getW m.payload 16 ≤ 1 ∧
        ((getB m.payload 1).testBit 3 = true → s.zoneOfLoop 127 = none) ∧
        ((getB m.payload 1).testBit 0 = true → s.zoneOfLoop 127 = none) ∧
        ((getB m.payload 1).testBit 1 = true → s.solNames 127 = false) ∧ getB m.payload 1 = 15) ∧
    (∃ (s : State) (m : Msg), s.executes 0x2005 m ∧ m.plain (20) ∧ loopOk (getB m.payload 0) = true ∧
        (getB m.payload 1).testBit 0 = true ∧ s.zoneOfLoop (getB m.payload 0) ≠ none) := by
  and_intros
  · exact ⟨(updDyn 127 (fun d => { d with st := .closed }) up), ({ payload := [127, 1, 0xFF, 0xFF] }),
      ⟨by decide +kernel, by decide +kernel, by decide +kernel, .inl (by decide +kernel)⟩, ⟨by decide +kernel,
      by decide +kernel⟩, by decide +kernel⟩
  · exact ⟨(updDyn 127 (fun d => { d with st := .opened }) up), ({ payload := [127, 0, 0, 0] }), ⟨by decide +kernel,
      by decide +kernel, by decide +kernel, .inl (by decide +kernel)⟩, ⟨by decide +kernel, by decide +kernel⟩,
      by decide +kernel⟩
  · exact ⟨(updDyn 127 (fun d => { d with st := .opened }) up), ({ payload := [127, 1, 0xFF, 0xFF] }),
      ⟨by decide +kernel, by decide +kernel, by decide +kernel, .inl (by decide +kernel)⟩, ⟨by decide +kernel,
      by decide +kernel⟩, by decide +kernel⟩
  · exact ⟨(updDyn 127 (fun d => { d with st := .fault }) up), ({ payload := [127, 1, 0xFF, 0xFF] }),
      ⟨by decide +kernel, by decide +kernel, by decide +kernel, .inl (by decide +kernel)⟩, ⟨by decide +kernel,
      by decide +kernel⟩, by decide +kernel⟩
  · exact ⟨(up), ({ payload := [127, 0, 0, 0] }), ⟨by decide +kernel, by decide +kernel, by decide +kernel,
      .inl (by decide +kernel)⟩, ⟨by decide +kernel, by decide +kernel⟩, by decide +kernel⟩
  · exact ⟨(updDyn 1 (fun d => { d with st := .opened }) up), ({ payload := [1, 0, 0, 0] }), ⟨by decide +kernel,
      by decide +kernel, by decide +kernel, .inl (by decide +kernel)⟩, ⟨by decide +kernel, by decide +kernel⟩,
      by decide +kernel⟩
  · exact ⟨(updDyn 1 (fun d => { d with st := .closed }) up), ({ payload := [1, 0, 0, 0] }), ⟨by decide +kernel,
      by decide +kernel, by decide +kernel, .inl (by decide +kernel)⟩, ⟨by decide +kernel, by decide +kernel⟩,
      by decide +kernel⟩
  · exact ⟨(up), ({ payload := [1, 0, 0, 0] }), ⟨by decide +kernel, by decide +kernel, by decide +kernel,
      .inl (by decide +kernel)⟩, ⟨by decide +kernel, by decide +kernel⟩, by decide +kernel⟩
  · exact ⟨(updDyn 1 (fun d => { d with st := .fault }) up), ({ payload := [1, 0, 0, 0] }), ⟨by decide +kernel,
      by decide +kernel, by decide +kernel, .inl (by decide +kernel)⟩, ⟨by decide +kernel, by decide +kernel⟩,
      by decide +kernel⟩
  · exact ⟨(up), ({ payload := [127, 0, 0, 0] }), ⟨by decide +kernel, by decide +kernel, by decide +kernel,
      .inl (by decide +kernel)⟩, ⟨by decide +kernel, by decide +kernel⟩, by decide +kernel⟩
  · exact ⟨(up), ({ payload := [127, 15, 0, 0] ++ le32 5 ++ le32 6 ++ le32 7 ++ le32 1 }), ⟨by decide +kernel,
      by decide +kernel, by decide +kernel, .inl (by decide +kernel)⟩, ⟨by decide +kernel, by decide +kernel⟩,
      by decide +kernel⟩
  · exact ⟨(up), ({ payload := [1, 1, 0, 0] ++ zeros 16 }), ⟨by decide +kernel, by decide +kernel, by decide +kernel,
      .inl (by decide +kernel)⟩, ⟨by decide +kernel, by decide +kernel⟩, by decide +kernel⟩

theorem witness_SolsticeLearns :
    (∃ (s : State), s.alive = true ∧ 63 < s.rood.slots.length ∧ s.backup.calValid = true ∧ s.clk.pllLocked = true ∧
        s.slEn 63 = true ∧ 1 ≤ (s.slot 63).cnt ∧ (s.slot 63).expCnt ≤ 2 * (s.slot 63).cnt) ∧
    (∃ (s : State), s.alive = true ∧ 63 < s.rood.slots.length ∧ s.backup.calValid = true ∧ s.clk.pllLocked = true ∧
        s.slEn 63 = true ∧ 1 ≤ (s.slot 63).cnt ∧ (s.slot 63).expCnt ≤ 2 * (s.slot 63).cnt ∧
        ((correctBins (s.slBins 63) (s.slBin 63 (s.slTime 63 (s.calNow - 1))) ((s.slot 63).acc / ((s.slot 63).cnt : Rat) * (1 / (2 ^ s.cf .sol 63 0 11 8 : Nat))) (s.slot 63)).take (s.slBins 63)).all fits12 =
        true ∧
        ((correctBins (s.slBins 63) (s.slBin 63 (s.slTime 63 (s.calNow - 1))) ((s.slot 63).acc / ((s.slot 63).cnt : Rat) * (1 / (2 ^ s.cf .sol 63 0 11 8 : Nat))) (s.slot 63)).take (s.slBins 63)).all (fun v => decide (-256 ≤ v) && decide (v ≤ 255)) =
        false) ∧
    (∃ (s : State), s.alive = true ∧ 63 < s.rood.slots.length ∧ s.backup.calValid = true ∧ s.clk.pllLocked = true ∧
        s.slEn 63 = true ∧ ((s.slot 63).cnt = 0 ∨ 2 * (s.slot 63).cnt < (s.slot 63).expCnt)) ∧
    (∃ (s : State), s.alive = true ∧ s.backup.calValid = true ∧ s.clk.pllLocked = true ∧ s.slEn 63 = false) ∧
    (∃ (s : State), s.alive = true ∧ nvBusy s.nvm 4 = false ∧ s.nvm.halted = false ∧ s.bushel.closed = false ∧
        4 < s.nvm.queue.length ∧
        ((List.range 64).map (fun i => (s.rood.rotSlot + i) % 64)).find? (fun j => s.slEn j) = some 63) ∧
    (∃ (s : State), s.alive = true ∧ nvBusy s.nvm 4 = false ∧ s.nvm.halted = false ∧ s.bushel.closed = false ∧
        4 < s.nvm.queue.length ∧
        ((List.range 64).map (fun i => (s.rood.rotSlot + i) % 64)).find? (fun j => s.slEn j) = some 63) ∧
    (∃ (s : State), s.alive = true ∧ 4 < s.nvm.queue.length ∧ s.bushel.closed = false ∧ s.nvm.halted = false ∧
        (∀ k : Nat, k < 64 → s.slEn k = false) ∧ nvBusy s.nvm 4 = false) ∧
    (∃ (s : State), s.alive = true ∧ 4 < s.nvm.queue.length ∧ s.bushel.closed = false ∧ s.nvm.halted = false ∧
        s.nvServed = some 4 ∧
        nth s.nvm.queue 4 = [{ job := .solSlot 5, cws := [{ cw := 3000, data := List.replicate 32 9 }] }] ∧
        s.rood.zoneDue = true ∧ s.bus.held = [] ∧ s.bus.waiting = none) := by
  and_intros
  · exact ⟨(updSlot 63 (fun x => { x with cnt := 1, expCnt := 2, acc := 1/16, exp := -10 }) (upCw .sol 63 0 0x80000300 { up with backup.calValid := true, backup.calendar := 300 })),
      by decide +kernel⟩
  · exact ⟨(updSlot 63 (fun x => { x with cnt := 1, expCnt := 2, acc := 16384, exp := 0 }) (upCw .sol 63 0 0x80000300 { up with backup.calValid := true, backup.calendar := 300 })),
      by decide +kernel⟩
  · exact ⟨(updSlot 63 (fun x => { x with cnt := 1, expCnt := 3 }) (upCw .sol 63 0 0x80000300 { up with backup.calValid := true, backup.calendar := 300 })),
      by decide +kernel⟩
  · exact ⟨({ upCw .sol 63 0 0x00000300 { up with backup.calValid := true, backup.calendar := 300 } with cfg.committed := up.cfg.committed.setWord .sol 63 0 0x00000400 }),
      by decide +kernel⟩
  · exact ⟨(updSlot 63 (fun x => { x with updates := 3, bins := List.replicate 2016 1 }) (upCw .sol 63 0 0x80000300 { up with rood.rotZone := 31, rood.rotSlot := 5 })),
      by decide +kernel⟩
  · exact ⟨(updSlot 63 (fun x => { x with updates := 3, bins := List.replicate 2016 1 }) (upCw .sol 63 0 0x80000300 { up with rood.rotZone := 31, rood.rotSlot := 0 })),
      by decide +kernel⟩
  · exact ⟨({ up with rood.rotZone := 31 }), by decide +kernel⟩
  · exact ⟨({ up with rood.rotZone := 3, rood.zoneDue := true, nvm.queue := [[], [], [], [], [{ job := .solSlot 5, cws := [{ cw := 3000, data := List.replicate 32 9 }] }], [], [], []] }),
      by decide +kernel⟩

theorem witness_SolsticeCommands :
    (∃ (s : State) (m : Msg), s.executes 0x2201 m ∧ m.plain (4) ∧ slotArg m = true) ∧
    (∃ (s : State) (m : Msg), s.executes 0x2202 m ∧ m.plain (4) ∧ slotArg m = true) ∧
    (∃ (s : State) (m : Msg), s.executes 0x2203 m ∧ m.plain (8 + 2 * s.slBins 63) ∧ slotArg m = true ∧
        padOk m 5 1 = true ∧ getH m.payload 6 = s.slBins 63 ∧ -32 ≤ sext 8 (getB m.payload 4) ∧
        sext 8 (getB m.payload 4) ≤ 31 ∧
        ((List.range (s.slBins 63)).all (fun i => fits12 (sext 16 (getH m.payload (8 + 2 * i))))) = true ∧
        s.slPaused 63 = true) ∧
    (∃ (s : State) (m : Msg), s.executes 0x2203 m ∧ m.plain (8 + 2 * s.slBins 63) ∧ slotArg m = true ∧
        padOk m 5 1 = true ∧ getH m.payload 6 = s.slBins 63 ∧ -32 ≤ sext 8 (getB m.payload 4) ∧
        sext 8 (getB m.payload 4) ≤ 31 ∧
        ((List.range (s.slBins 63)).all (fun i => fits12 (sext 16 (getH m.payload (8 + 2 * i))))) = true ∧
        s.slPaused 63 = false) ∧
    (∃ (s : State) (m : Msg), s.executes 0x2204 m ∧ m.plain (4) ∧ slotArg m = true) ∧
    (∃ (s : State) (m : Msg), s.executes 0x2205 m ∧ m.plain (4) ∧ getB m.payload 0 < 32 ∧ padOk m 1 3 = true) := by
  refine ⟨?_, ?_, ?_, ?_, ?_, ?_⟩
  · exact ⟨(up), ({ payload := [63, 0, 0, 0] }), ⟨by decide +kernel, by decide +kernel, by decide +kernel,
      .inl (by decide +kernel)⟩, ⟨by decide +kernel, by decide +kernel⟩, by decide +kernel⟩
  · exact ⟨(up), ({ payload := [63, 0, 0, 0] }), ⟨by decide +kernel, by decide +kernel, by decide +kernel,
      .inl (by decide +kernel)⟩, ⟨by decide +kernel, by decide +kernel⟩, by decide +kernel⟩
  · exact ⟨(up), ({ payload := [63, 0, 0, 0, 0xE0, 0] ++ le16 288 ++ (List.replicate 288 [0x00, 0xF8]).flatten }),
      ⟨by decide +kernel, by decide +kernel, by decide +kernel, .inl (by decide +kernel)⟩, ⟨by decide +kernel,
      by decide +kernel⟩, by decide +kernel⟩
  · exact ⟨(updDyn 96 (fun d => { d with st := .closed }) (upCw .sol 63 0 0x80C00300 { up with backup.calValid := true })),
      ({ payload := [63, 0, 0, 0, 31, 0] ++ le16 288 ++ (List.replicate 288 [0xFF, 0x07]).flatten }),
      ⟨by decide +kernel, by decide +kernel, by decide +kernel, .inl (by decide +kernel)⟩, ⟨by decide +kernel,
      by decide +kernel⟩, by decide +kernel⟩
  · exact ⟨(updSlot 63 (fun x => { x with updates := 3 }) up), ({ payload := [63, 0, 0, 0] }), ⟨by decide +kernel,
      by decide +kernel, by decide +kernel, .inl (by decide +kernel)⟩, ⟨by decide +kernel, by decide +kernel⟩,
      by decide +kernel⟩
  · exact ⟨(up), ({ payload := [31, 0, 0, 0] }), ⟨by decide +kernel, by decide +kernel, by decide +kernel,
      .inl (by decide +kernel)⟩, ⟨by decide +kernel, by decide +kernel⟩, by decide +kernel⟩

theorem witness_ZonePass :
    (∃ (s : State), s.rood.loops.length = 128 ∧ s.released = true ∧ s.mgt.appRunning = true ∧ s.clk.pllLocked = true ∧
        s.chain.pt = 0 ∧ s.rood.passMc ≠ some s.chain.mc ∧ s.chain.stage ≤ 7 ∧ s.rood.zones.length = 32 ∧
        (restartDelays (zoneLive s)).zoneLoopFault 31 = false) ∧
    (∃ (s : State), s.rood.loops.length = 128 ∧ s.released = true ∧ s.mgt.appRunning = true ∧ s.clk.pllLocked = true ∧
        s.chain.pt = 0 ∧ s.rood.passMc ≠ some s.chain.mc ∧ s.chain.stage ≤ 7 ∧ s.rood.zones.length = 32 ∧
        (restartDelays (zoneLive s)).zoneLoopFault 31 = true) ∧
    (∃ (s : State), s.released = true ∧ s.mgt.appRunning = true ∧ s.clk.pllLocked = true ∧ s.chain.pt = 0 ∧
        s.rood.passMc ≠ some s.chain.mc ∧ s.chain.stage ≤ 7 ∧ s.rood.zones.length = 32 ∧ s.rood.loops.length = 128 ∧
        (restartDelays (zoneLive s)).slEn 63 = true ∧ (restartDelays (zoneLive s)).slLoop 63 = 127 ∧
        5 ∈ s.rood.ffDue) := by
  refine ⟨?_, ?_, ?_⟩
  · exact ⟨({ up with rood.passMc := some 0xFFFFFFFF }), by decide +kernel⟩
  · exact ⟨(updDyn 94 (fun d => { d with st := .fault }) { up with backup.calValid := true, backup.calendar := 1000000 }),
      by decide +kernel⟩
  · exact ⟨(upCw .sol 63 0 0x80FF0000 { up with rood.ffDue := [5], rood.loops := List.replicate 128 { ffIn := 7 } }),
      by decide +kernel⟩

theorem witness_ZoneControl :
    (∃ (s : State), s.released = true ∧ s.mgt.appRunning = true ∧ s.clk.pllLocked = true ∧ s.chain.pt = 0 ∧
        s.rood.passMc ≠ some s.chain.mc ∧ s.chain.stage ≤ 7 ∧ s.rood.zones.length = 32 ∧ s.rood.loops.length = 128 ∧
        (restartDelays (zoneLive s)).zoneLoopFault 3 = false ∧
        nth (s.zone 3).committed 0 = some { x := 18, v := 1 / 2, a := 0 } ∧ (s.zone 3).spec = .idle ∧
        s.sup.mode ≠ .hold ∧
        nth (s.zone 3).prob (weekBin ((restartDelays (zoneLive s)).localAt (s.calNow + 300 * ((restartDelays (zoneLive s)).zf 3 8 23 16 : Int)))) < (restartDelays (zoneLive s)).zf 3 8 31 24 ∧
        (restartDelays (zoneLive s)).zb 3 0 1 = false ∧ (restartDelays (zoneLive s)).zf 3 10 23 16 = 11 ∧
        (∀ y : Nat, y < 32 → (y ≠ 3 → 11 ∉ (restartDelays (zoneLive s)).zoneLoops y)) ∧
        ((restartDelays (zoneLive s)).zoneLoops 3).count 11 = 1) ∧
    (∃ (s : State), s.released = true ∧ s.mgt.appRunning = true ∧ s.clk.pllLocked = true ∧ s.chain.pt = 0 ∧
        s.rood.passMc ≠ some s.chain.mc ∧ s.chain.stage ≤ 7 ∧ s.rood.zones.length = 32 ∧ s.rood.loops.length = 128 ∧
        (restartDelays (zoneLive s)).zoneLoopFault 3 = false ∧ (restartDelays (zoneLive s)).zf 3 0 9 8 = 2) ∧
    (∃ (s : State), s.released = true ∧ s.mgt.appRunning = true ∧ s.clk.pllLocked = true ∧ s.chain.pt = 0 ∧
        s.rood.passMc ≠ some s.chain.mc ∧ s.chain.stage ≤ 7 ∧ s.rood.zones.length = 32 ∧ s.rood.loops.length = 128 ∧
        (restartDelays (zoneLive s)).zoneLoopFault 3 = false ∧ (s.zone 3).spec = .idle ∧
        (restartDelays (zoneLive s)).zb 3 0 2 = true ∧ s.backup.calValid = true ∧ s.sup.mode ≠ .hold ∧
        (restartDelays (zoneLive s)).zf 3 8 31 24 ≤ nth (s.zone 3).prob (weekBin ((restartDelays (zoneLive s)).localAt (s.calNow + 300 * ((restartDelays (zoneLive s)).zf 3 8 23 16 : Int)))) ∧
        nth (s.zone 3).actual 0 = some { x := 20 } ∧ nth ((restartDelays (zoneLive s)).zoneLoops 3) 0 = 10 ∧
        (∀ y : Nat, y < 32 → (y ≠ 3 → 10 ∉ (restartDelays (zoneLive s)).zoneLoops y)) ∧
        ((restartDelays (zoneLive s)).zoneLoops 3).count 10 = 1) ∧
    (∃ (s : State), s.released = true ∧ s.mgt.appRunning = true ∧ s.clk.pllLocked = true ∧ s.chain.pt = 0 ∧
        s.rood.passMc ≠ some s.chain.mc ∧ s.chain.stage ≤ 7 ∧ s.rood.zones.length = 32 ∧ s.rood.loops.length = 128 ∧
        (restartDelays (zoneLive s)).zoneLoopFault 3 = false ∧
        nth (s.zone 3).committed 0 = some { x := 18, v := 1 / 2, a := 0 } ∧ (s.zone 3).spec = .idle ∧
        s.sup.mode = .hold) ∧
    (∃ (s : State), s.released = true ∧ s.mgt.appRunning = true ∧ s.clk.pllLocked = true ∧ s.chain.pt = 0 ∧
        s.rood.passMc ≠ some s.chain.mc ∧ s.chain.stage ≤ 7 ∧ s.rood.zones.length = 32 ∧ s.rood.loops.length = 128 ∧
        (restartDelays (zoneLive s)).zoneLoopFault 3 = false ∧
        nth (s.zone 3).committed 0 = some { x := 18, v := 1 / 2, a := 0 } ∧ (s.zone 3).spec = .idle ∧
        (s.loop 10).dyn.st = .closed ∧ (s.loop 10).opening = false ∧
        nth ((restartDelays (zoneLive s)).zoneLoops 3) 0 = 10 ∧
        (∀ y : Nat, y < 32 → (y ≠ 3 → 10 ∉ (restartDelays (zoneLive s)).zoneLoops y)) ∧
        ((restartDelays (zoneLive s)).zoneLoops 3).count 10 = 1) ∧
    (∃ (s : State), s.released = true ∧ s.mgt.appRunning = true ∧ s.clk.pllLocked = true ∧ s.chain.pt = 0 ∧
        s.rood.passMc ≠ some s.chain.mc ∧ s.chain.stage ≤ 7 ∧ s.rood.zones.length = 32 ∧ s.rood.loops.length = 128 ∧
        (restartDelays (zoneLive s)).zoneLoopFault 3 = false ∧ (s.loop 10).dyn.st = .opened ∧
        (s.loop 10).hostOpen = false ∧ (s.loop 10).opening = false ∧ (s.loop 10).holdForced = false ∧
        (s.loop 11).dyn.st = .closed ∧ (s.loop 11).opening = false ∧
        nth ((restartDelays (zoneLive s)).zoneLoops 3) 0 = 10 ∧
        (∀ y : Nat, y < 32 → (y ≠ 3 → 10 ∉ (restartDelays (zoneLive s)).zoneLoops y)) ∧
        ((restartDelays (zoneLive s)).zoneLoops 3).count 10 = 1 ∧
        nth ((restartDelays (zoneLive s)).zoneLoops 3) 1 = 11 ∧
        (∀ y : Nat, y < 32 → (y ≠ 3 → 11 ∉ (restartDelays (zoneLive s)).zoneLoops y)) ∧
        ((restartDelays (zoneLive s)).zoneLoops 3).count 11 = 1) ∧
    (∃ (s : State), s.released = true ∧ s.mgt.appRunning = true ∧ s.clk.pllLocked = true ∧ s.chain.pt = 0 ∧
        s.rood.passMc ≠ some s.chain.mc ∧ s.chain.stage ≤ 7 ∧ s.rood.zones.length = 32 ∧ s.rood.loops.length = 128 ∧
        (restartDelays (zoneLive s)).zoneLoopFault 3 = false ∧ (restartDelays (zoneLive s)).zb 3 0 1 = true ∧
        ((restartDelays (zoneLive s)).zoneT 3 = none ∨ (restartDelays (zoneLive s)).zoneH 3 =
        none ∨ (restartDelays (zoneLive s)).inputVal ((restartDelays (zoneLive s)).zf 3 7 6 0) = none) ∧
        (restartDelays (zoneLive s)).lf 11 2 15 0 ≤ (restartDelays (zoneLive s)).lf 11 2 31 16 ∧
        (restartDelays (zoneLive s)).zf 3 10 23 16 = 11 ∧
        (∀ y : Nat, y < 32 → (y ≠ 3 → 11 ∉ (restartDelays (zoneLive s)).zoneLoops y)) ∧
        ((restartDelays (zoneLive s)).zoneLoops 3).count 11 = 1) ∧
    (∃ (s : State), s.released = true ∧ s.mgt.appRunning = true ∧ s.clk.pllLocked = true ∧ s.chain.pt = 0 ∧
        s.rood.passMc ≠ some s.chain.mc ∧ s.chain.stage ≤ 7 ∧ s.rood.zones.length = 32 ∧ s.rood.loops.length = 128 ∧
        (restartDelays (zoneLive s)).zoneLoopFault 3 = false ∧ (restartDelays (zoneLive s)).zb 3 0 1 = true ∧
        (restartDelays (zoneLive s)).zoneT 3 = some 24 ∧ (restartDelays (zoneLive s)).zoneH 3 = some 50 ∧
        (restartDelays (zoneLive s)).inputVal ((restartDelays (zoneLive s)).zf 3 7 6 0) = some (12) ∧
        (restartDelays (zoneLive s)).lf 11 2 15 0 ≤ (restartDelays (zoneLive s)).lf 11 2 31 16 ∧
        (roundB64 (roundB64 (12 - dewPoint 24 50) - roundB64 (((restartDelays (zoneLive s)).zf 3 7 23 16 : Rat) / 10))) < (roundB64 (((restartDelays (zoneLive s)).zf 3 7 15 8 : Rat) / 10)) ∧
        (roundB64 (roundB64 (12 - dewPoint 24 50) - roundB64 (((restartDelays (zoneLive s)).zf 3 7 23 16 : Rat) / 10))) ≤ 0 ∧
        (restartDelays (zoneLive s)).zf 3 10 23 16 = 11 ∧
        (∀ y : Nat, y < 32 → (y ≠ 3 → 11 ∉ (restartDelays (zoneLive s)).zoneLoops y)) ∧
        ((restartDelays (zoneLive s)).zoneLoops 3).count 11 = 1) ∧
    (∃ (s : State), s.released = true ∧ s.mgt.appRunning = true ∧ s.clk.pllLocked = true ∧ s.chain.pt = 0 ∧
        s.rood.passMc ≠ some s.chain.mc ∧ s.chain.stage ≤ 7 ∧ s.rood.zones.length = 32 ∧ s.rood.loops.length = 128 ∧
        (restartDelays (zoneLive s)).zoneLoopFault 3 = false ∧ (restartDelays (zoneLive s)).zb 3 0 1 = true ∧
        (restartDelays (zoneLive s)).zoneT 3 = some 24 ∧ (restartDelays (zoneLive s)).zoneH 3 = some 50 ∧
        (restartDelays (zoneLive s)).inputVal ((restartDelays (zoneLive s)).zf 3 7 6 0) = some (29 / 2) ∧
        (restartDelays (zoneLive s)).lf 11 2 15 0 ≤ (restartDelays (zoneLive s)).lf 11 2 31 16 ∧
        (roundB64 (roundB64 (29 / 2 - dewPoint 24 50) - roundB64 (((restartDelays (zoneLive s)).zf 3 7 23 16 : Rat) / 10))) < (roundB64 (((restartDelays (zoneLive s)).zf 3 7 15 8 : Rat) / 10)) ∧
        0 < (roundB64 (roundB64 (29 / 2 - dewPoint 24 50) - roundB64 (((restartDelays (zoneLive s)).zf 3 7 23 16 : Rat) / 10))) ∧
        roundB64 ((roundB64 (roundB64 (29 / 2 - dewPoint 24 50) - roundB64 (((restartDelays (zoneLive s)).zf 3 7 23 16 : Rat) / 10))) / (roundB64 (((restartDelays (zoneLive s)).zf 3 7 15 8 : Rat) / 10))) < 1 ∧
        (restartDelays (zoneLive s)).zf 3 10 23 16 = 11 ∧
        (∀ y : Nat, y < 32 → (y ≠ 3 → 11 ∉ (restartDelays (zoneLive s)).zoneLoops y)) ∧
        ((restartDelays (zoneLive s)).zoneLoops 3).count 11 = 1) ∧
    (∃ (s : State), s.released = true ∧ s.mgt.appRunning = true ∧ s.clk.pllLocked = true ∧ s.chain.pt = 0 ∧
        s.rood.passMc ≠ some s.chain.mc ∧ s.chain.stage ≤ 7 ∧ s.rood.zones.length = 32 ∧ s.rood.loops.length = 128 ∧
        (restartDelays (zoneLive s)).zoneLoopFault 3 = false ∧ (restartDelays (zoneLive s)).zb 3 0 1 = true ∧
        (restartDelays (zoneLive s)).zoneT 3 = some 24 ∧ (restartDelays (zoneLive s)).zoneH 3 = some 50 ∧
        (restartDelays (zoneLive s)).inputVal ((restartDelays (zoneLive s)).zf 3 7 6 0) = some (40) ∧
        (restartDelays (zoneLive s)).lf 11 2 15 0 ≤ (restartDelays (zoneLive s)).lf 11 2 31 16 ∧
        (roundB64 (((restartDelays (zoneLive s)).zf 3 7 15 8 : Rat) / 10)) ≤ (roundB64 (roundB64 (40 - dewPoint 24 50) - roundB64 (((restartDelays (zoneLive s)).zf 3 7 23 16 : Rat) / 10))) ∧
        (restartDelays (zoneLive s)).zf 3 10 23 16 = 11 ∧
        (∀ y : Nat, y < 32 → (y ≠ 3 → 11 ∉ (restartDelays (zoneLive s)).zoneLoops y)) ∧
        ((restartDelays (zoneLive s)).zoneLoops 3).count 11 = 1) ∧
    (∃ (s : State), s.released = true ∧ s.mgt.appRunning = true ∧ s.clk.pllLocked = true ∧ s.chain.pt = 0 ∧
        s.rood.passMc ≠ some s.chain.mc ∧ s.chain.stage ≤ 7 ∧ s.rood.zones.length = 32 ∧ s.rood.loops.length = 128 ∧
        (restartDelays (zoneLive s)).zoneLoopFault 3 = false ∧ (s.zone 3).spec = .provisional) ∧
    (∃ (s : State), s.released = true ∧ s.mgt.appRunning = true ∧ s.clk.pllLocked = true ∧ s.chain.pt = 0 ∧
        s.rood.passMc ≠ some s.chain.mc ∧ s.chain.stage ≤ 7 ∧ s.rood.zones.length = 32 ∧ s.rood.loops.length = 128 ∧
        (restartDelays (zoneLive s)).zoneLoopFault 3 = false ∧ (s.zone 3).spec = .provisional) ∧
    (∃ (s : State), s.released = true ∧ s.mgt.appRunning = true ∧ s.clk.pllLocked = true ∧ s.chain.pt = 0 ∧
        s.rood.passMc ≠ some s.chain.mc ∧ s.chain.stage ≤ 7 ∧ s.rood.zones.length = 32 ∧ s.rood.loops.length = 128 ∧
        (restartDelays (zoneLive s)).zoneLoopFault 3 = false ∧ (s.zone 3).spec = .rollback) ∧
    (∃ (s : State), s.released = true ∧ s.mgt.appRunning = true ∧ s.clk.pllLocked = true ∧ s.chain.pt = 0 ∧
        s.rood.passMc ≠ some s.chain.mc ∧ s.chain.stage ≤ 7 ∧ s.rood.zones.length = 32 ∧ s.rood.loops.length = 128 ∧
        (restartDelays (zoneLive s)).zoneLoopFault 3 = false ∧ (s.zone 3).spec = .suppressed) := by
  and_intros
  · exact ⟨(updZone 3 (fun x => { x with committed := [some { x := 18, v := 1 / 2, a := 0 }, some { x := 27 }, some { x := 50 }], actual := [some { x := 18, v := 1 / 2, a := 0 }, some { x := 27 }, some { x := 50 }], cm := .off, cool := true, first := false }) { upCw .zone 3 0 0x0003800D up with backup.calValid := true, backup.calendar := 1000000 }),
      by decide +kernel⟩
  · exact ⟨(updZone 3 (fun x => { x with cm := .off, coHost := true, first := false }) { upCw .zone 3 0 0x00038209 up with backup.calValid := true, backup.calendar := 1000000 }),
      by decide +kernel⟩
  · exact ⟨(updZone 3 (fun x => { x with committed := [some { x := 20 }, some { x := 27 }, some { x := 50 }], actual := [some { x := 20 }, some { x := 27 }, some { x := 50 }], prob := List.replicate 2016 255, cm := .standby, cool := true, first := false }) { upCw .zone 3 0 0x0003800D up with backup.calValid := true, backup.calendar := 1000000 }),
      by decide +kernel⟩
  · exact ⟨(updZone 3 (fun x => { x with committed := [some { x := 18, v := 1 / 2, a := 0 }, some { x := 27 }, some { x := 50 }], actual := [some { x := 18, v := 1 / 2, a := 0 }, some { x := 27 }, some { x := 50 }] }) { upCw .zone 3 0 0x00038009 up with backup.calValid := true, backup.calendar := 1000000, sup.mode := .hold }),
      by decide +kernel⟩
  · exact ⟨(updDyn 10 (fun d => { d with st := .closed }) (updZone 3 (fun x => { x with committed := [some { x := 18, v := 1 / 2, a := 0 }, some { x := 27 }, some { x := 50 }], actual := [some { x := 18, v := 1 / 2, a := 0 }, some { x := 27 }, some { x := 50 }], hostOff := true, cm := .off, first := false, cool := true }) (upCw .loop 9 3 0x12340001 { up with rood.passMc := some 7 }))),
      by decide +kernel⟩
  · exact ⟨(updDyn 11 (fun d => { d with st := .closed }) (updDyn 10 (fun d => { d with st := .opened }) (updZone 3 (fun x => { x with cm := .standby, first := false }) (upCw .loop 10 2 0xFFFF0022 { up with rood.passMc := some 7 })))),
      by decide +kernel⟩
  · exact ⟨(upCw .loop 10 2 0x80000022 (upCw .zone 3 0 0x0003800B up)), by decide +kernel⟩
  · exact ⟨({ upCw .loop 10 2 0x80000022 (upCw .zone 3 0 0x0003800B up) with sens.results := (((List.replicate 128 { value := 0x7FFFFFFF }).set (up.zf 3 10 6 0) { value := w32 (24 * 65536) }).set (up.zf 3 11 14 8) { value := w32 (50 * 65536) }).set (up.zf 3 7 6 0) { value := w32 (12 * 65536) } }),
      by decide +kernel⟩
  · exact ⟨({ upCw .loop 10 2 0x80000022 (upCw .zone 3 0 0x0003800B up) with sens.results := (((List.replicate 128 { value := 0x7FFFFFFF }).set (up.zf 3 10 6 0) { value := w32 (24 * 65536) }).set (up.zf 3 11 14 8) { value := w32 (50 * 65536) }).set (up.zf 3 7 6 0) { value := w32 (29 * 32768) } }),
      by decide +kernel⟩
  · exact ⟨({ upCw .loop 10 2 0x80000022 (upCw .zone 3 0 0x0003800B up) with sens.results := (((List.replicate 128 { value := 0x7FFFFFFF }).set (up.zf 3 10 6 0) { value := w32 (24 * 65536) }).set (up.zf 3 11 14 8) { value := w32 (50 * 65536) }).set (up.zf 3 7 6 0) { value := w32 (40 * 65536) } }),
      by decide +kernel⟩
  · exact ⟨(updZone 3 (fun x => { x with committed := [some { x := 18, v := 1 / 2, a := 0 }, some { x := 27 }, some { x := 50 }], actual := [some { x := 18, v := 1 / 2, a := 0 }, some { x := 27 }, some { x := 50 }], spec := .provisional, cm := .standby }) { upCw .zone 3 0 0x00048001 up with backup.calValid := true, backup.calendar := 1000000 }),
      by decide +kernel⟩
  · exact ⟨(updZone 3 (fun x => { x with committed := [some { x := 18, v := 1 / 2, a := 0 }, some { x := 27 }, some { x := 50 }], actual := [some { x := 18, v := 1 / 2, a := 0 }, some { x := 27 }, some { x := 50 }], spec := .provisional, cm := .standby }) { upCw .zone 3 0 0x00018001 up with backup.calValid := true, backup.calendar := 1000000 }),
      by decide +kernel⟩
  · exact ⟨(updZone 3 (fun x => { x with committed := [some { x := 18, v := 1 / 2, a := 0 }, some { x := 27 }, some { x := 50 }], actual := [some { x := 18, v := 1 / 2, a := 0 }, some { x := 27 }, some { x := 50 }], spec := .rollback, cm := .standby }) { upCw .zone 3 0 0x00048001 up with backup.calValid := true, backup.calendar := 1000000 }),
      by decide +kernel⟩
  · exact ⟨(updZone 3 (fun x => { x with spec := .suppressed }) { upCw .zone 3 0 0x00038009 up with backup.calValid := true, backup.calendar := 1000000 }),
      by decide +kernel⟩

theorem witness_ZoneExpiries :
    (∃ (s : State), s.zoneLogic = true ∧ (s.zone 31).spec = .provisional ∧
        ((s.zone 31).cm = .unocc ∨ (s.zone 31).cm = .standby) ∧ s.backup.calValid = true ∧
        ((s.zone 31).tPred : Int) + 300 * (s.zf 31 8 15 8 : Int) ≤ s.calNow) ∧
    (∃ (s : State), s.zoneLogic = true ∧ (s.zone 31).cm.controlled = true ∧ s.zf 31 0 9 8 ≠ 2 ∧
        s.held (s.zone 31).coSince (if s.zf 31 0 9 8 = 0 then s.secMc (10 * s.zf 31 1 31 24) else s.secMc 10) = true) ∧
    (∃ (s : State), s.zoneLogic = true ∧ s.zb 31 0 14 = true ∧
        s.held (s.zone 31).winSince (if (s.zone 31).windowOpen then s.secMc 10 else s.secMc (s.zf 31 1 23 16)) = true) ∧
    (∃ (s : State), s.zoneLogic = true ∧ (s.zone 31).faultCond = false ∧
        s.held (s.zone 31).fltSince (s.secMc (s.zf 31 1 15 8)) = true) ∧
    (∃ (s : State), s.zoneLogic = true ∧ (s.zone 31).faultCond = true ∧ s.zoneLoopFault 31 = false ∧
        s.held (s.zone 31).okSince (s.secMc 10) = true) ∧
    (∃ (s : State), ((s.zone 31).comfort = true ∨ (s.zone 31).cm = .occ) ∧ s.zoneLogic = true ∧
        s.held (s.zone 31).comfSince (if (s.zone 31).comfort then s.secMc 300 else s.secMc (60 * s.zf 31 9 7 0)) =
        true) ∧
    (∃ (s : State), s.zoneLogic = true ∧ (s.zone 31).manual = some { left := some 0 }) ∧
    (∃ (s : State), s.sup.mode ≠ .hold ∧ s.zoneLogic = true ∧ s.backup.calValid = true ∧ (s.zone 31).binSkip = false ∧
        1 ≤ (s.zone 31).binPasses ∧ s.repeatAt (s.stdAt (s.calNow - 1)) = false) ∧
    (∃ (s : State), s.zoneLogic = true ∧ s.sup.mode = .hold) := by
  and_intros
  · exact ⟨(updZone 31 (fun x => { x with spec := .provisional, cm := .standby, prob := List.replicate 2016 255, specRollback := 65535 }) { up with backup.calValid := true, backup.calendar := 1800 }),
      by decide +kernel⟩
  · exact ⟨(updZone 31 (fun x => { x with cm := .occ, coSince := some 0 }) { up with chain.mc := 15000 }),
      by decide +kernel⟩
  · exact ⟨(updZone 31 (fun x => { x with winSince := some 0 }) (upCw .zone 31 0 (up.cw .zone 31 0 ||| 0x4000) { up with chain.mc := 3000 })),
      by decide +kernel⟩
  · exact ⟨(updZone 31 (fun x => { x with fltSince := some 0 }) { up with chain.mc := 3000 }), by decide +kernel⟩
  · exact ⟨(updZone 31 (fun x => { x with okSince := some 0, faultCond := true }) { up with chain.mc := 500 }),
      by decide +kernel⟩
  · exact ⟨(updZone 31 (fun x => { x with comfSince := some 0, cm := .occ }) { up with chain.mc := 90000 }),
      by decide +kernel⟩
  · exact ⟨(updZone 31 (fun x => { x with manual := some { left := some 0 } }) up), by decide +kernel⟩
  · exact ⟨(updZone 31 (fun x => { x with binPasses := 2, binOcc := 1 }) { up with backup.calValid := true, backup.calendar := 604800 }),
      by decide +kernel⟩
  · exact ⟨(updZone 31 (fun x => { x with binPasses := 2, binOcc := 1 }) { up with backup.calValid := true, backup.calendar := 604800, sup.mode := .hold }),
      by decide +kernel⟩

theorem witness_ZoneCommands :
    (∃ (s : State) (m : Msg), s.executes 0x2101 m ∧ m.plain (4) ∧ getB m.payload 0 < 32 ∧ padOk m 1 3 = true) ∧
    (∃ (s : State) (m : Msg), s.executes 0x2102 m ∧ m.plain (4) ∧ getB m.payload 0 < 32 ∧ padOk m 1 3 = true) ∧
    (∃ (s : State) (m : Msg), s.executes 0x2104 m ∧ m.plain (4) ∧ getB m.payload 0 < 32 ∧ getB m.payload 1 < 2 ∧
        padOk m 2 2 = true) ∧
    (∃ (s : State) (m : Msg), s.executes 0x2105 m ∧ m.plain (8) ∧ getB m.payload 0 < 32 ∧ getB m.payload 1 = 0) ∧
    (∃ (s : State) (m : Msg), s.executes 0x2105 m ∧ m.plain (8) ∧ getB m.payload 0 < 32 ∧ getB m.payload 1 = 1 ∧
        10 * (s.zf 31 1 7 0 : Int) ≤ getS m.payload 6 2 - getS m.payload 4 2) ∧
    (∃ (s : State) (m : Msg), s.executes 0x2105 m ∧ m.plain (8) ∧ getB m.payload 0 < 32 ∧ getB m.payload 1 = 1 ∧
        getS m.payload 6 2 - getS m.payload 4 2 < 10 * (s.zf 31 1 7 0 : Int)) ∧
    (∃ (s : State) (m : Msg), s.executes 0x2106 m ∧ m.plain (4) ∧ getB m.payload 0 < 32 ∧ getB m.payload 1 < 2 ∧
        padOk m 2 2 = true ∧ s.zf 31 0 9 8 = 2) ∧
    (∃ (s : State) (m : Msg), s.executes 0x2106 m ∧ m.plain (4) ∧ getB m.payload 1 < 2 ∧ padOk m 2 2 = true ∧
        getB m.payload 0 < 32 ∧ s.zf 31 0 9 8 ≠ 2) := by
  and_intros
  · exact ⟨(up), ({ payload := [31, 0, 0, 0] }), ⟨by decide +kernel, by decide +kernel, by decide +kernel,
      .inl (by decide +kernel)⟩, ⟨by decide +kernel, by decide +kernel⟩, by decide +kernel⟩
  · exact ⟨(up), ({ payload := [31, 0, 0, 0] }), ⟨by decide +kernel, by decide +kernel, by decide +kernel,
      .inl (by decide +kernel)⟩, ⟨by decide +kernel, by decide +kernel⟩, by decide +kernel⟩
  · exact ⟨(up), ({ payload := [31, 1, 0, 0] }), ⟨by decide +kernel, by decide +kernel, by decide +kernel,
      .inl (by decide +kernel)⟩, ⟨by decide +kernel, by decide +kernel⟩, by decide +kernel⟩
  · exact ⟨(updZone 31 (fun x => { x with manual := some {} }) up), ({ payload := [31, 0, 0, 0, 0, 0, 0, 0] }),
      ⟨by decide +kernel, by decide +kernel, by decide +kernel, .inl (by decide +kernel)⟩, ⟨by decide +kernel,
      by decide +kernel⟩, by decide +kernel⟩
  · exact ⟨(up), ({ payload := [31, 1, 0xFF, 0xFF, 0xD0, 0x07, 0x34, 0x08] }), ⟨by decide +kernel, by decide +kernel,
      by decide +kernel, .inl (by decide +kernel)⟩, ⟨by decide +kernel, by decide +kernel⟩, by decide +kernel⟩
  · exact ⟨(up), ({ payload := [31, 1, 0, 0, 0xD0, 0x07, 0x33, 0x08] }), ⟨by decide +kernel, by decide +kernel,
      by decide +kernel, .inl (by decide +kernel)⟩, ⟨by decide +kernel, by decide +kernel⟩, by decide +kernel⟩
  · exact ⟨(upCw .zone 31 0 (merge 0x300 (up.cw .zone 31 0) 0x200) up), ({ payload := [31, 1, 0, 0] }),
      ⟨by decide +kernel, by decide +kernel, by decide +kernel, .inl (by decide +kernel)⟩, ⟨by decide +kernel,
      by decide +kernel⟩, by decide +kernel⟩
  · exact ⟨(up), ({ payload := [31, 1, 0, 0] }), ⟨by decide +kernel, by decide +kernel, by decide +kernel,
      .inl (by decide +kernel)⟩, ⟨by decide +kernel, by decide +kernel⟩, by decide +kernel⟩

theorem witness_PwmPeriods :
    ∃ (s : State), s.released = true ∧ s.clk.pllLocked = true ∧ s.act.ch.length = 32 := by
  exact ⟨(up), by decide +kernel⟩

theorem witness_PwmAllocation :
    (∃ (s : State), s.released = true ∧ s.clk.pllLocked = true ∧ s.act.ch.length = 32 ∧ s.floatPair 15 = false ∧
        (s.ach 31).ph = .on) ∧
    (∃ (s : State), s.released = true ∧ s.clk.pllLocked = true ∧ s.act.ch.length = 32 ∧ s.floatPair 15 = false ∧
        (s.ach 31).ph = .on) ∧
    (∃ (s : State), s.released = true ∧ s.clk.pllLocked = true ∧ s.act.ch.length = 32 ∧ s.floatPair 15 = false ∧
        (s.ach 31).ph = .decay) ∧
    (∃ (s : State), s.released = true ∧ s.clk.pllLocked = true ∧ s.act.ch.length = 32 ∧ s.floatPair 15 = false ∧
        (s.ach 31).ph = .peak true) ∧
    (∃ (s : State), s.released = true ∧ s.clk.pllLocked = true ∧ s.act.ch.length = 32 ∧ s.floatPair 15 = false ∧
        (s.ach 31).ph = .peak true) ∧
    (∃ (s : State), s.released = true ∧ s.clk.pllLocked = true ∧ s.act.ch.length = 32 ∧ s.floatPair 15 = false ∧
        (s.ach 31).ph = .peak true) ∧
    (∃ (s : State), s.released = true ∧ s.clk.pllLocked = true ∧ s.act.ch.length = 32 ∧ s.floatPair 15 = false ∧
        (s.ach 31).ph = .off) ∧
    (∃ (s : State), s.released = true ∧ s.clk.pllLocked = true ∧ s.act.ch.length = 32 ∧ s.floatPair 15 = false ∧
        (s.ach 31).ph = .off ∧ (s.ach 31).offReady = false) ∧
    (∃ (s : State), s.released = true ∧ s.clk.pllLocked = true ∧ s.act.ch.length = 32 ∧ s.floatPair 15 = false ∧
        (s.ach 31).ph = .off ∧ (s.ach 31).offReady = true) ∧
    (∃ (s : State), s.released = true ∧ s.clk.pllLocked = true ∧ s.act.ch.length = 32 ∧ s.floatPair 15 = false ∧
        (s.ach 31).ph = .off ∧ (s.ach 31).offReady = true ∧ s.sup.mode = .quiet) ∧
    (∃ (s : State), s.released = true ∧ s.clk.pllLocked = true ∧ s.act.ch.length = 32 ∧ s.floatPair 15 = false ∧
        (s.ach 31).ph = .off ∧ (s.ach 31).offReady = true ∧ s.sup.mode ≠ .quiet) ∧
    (∃ (s : State), s.released = true ∧ s.clk.pllLocked = true ∧ s.act.ch.length = 32 ∧ s.floatPair 15 = false ∧
        (s.ach 31).ph = .off ∧ (s.ach 31).offReady = true ∧ s.sup.mode ≠ .quiet ∧
        ((∀ j : Nat, j < 32 → (j ≠ 31 → s.actMode j ≠ 2 ∧ s.floatPair (j / 2) = false)))) ∧
    (∃ (s : State), s.released = true ∧ s.clk.pllLocked = true ∧ s.act.ch.length = 32 ∧ s.floatPair 15 = false ∧
        (s.ach 31).ph = .off ∧ (s.ach 31).offReady = true ∧ s.sup.mode ≠ .quiet ∧
        ((∀ j : Nat, j < 32 → (j ≠ 31 → s.actMode j ≠ 2 ∧ s.floatPair (j / 2) = false)))) ∧
    (∃ (s : State), s.released = true ∧ s.clk.pllLocked = true ∧ s.act.ch.length = 32 ∧ s.floatPair 15 = false ∧
        (s.ach 31).ph = .on) ∧
    (∃ (s : State), s.released = true ∧ s.clk.pllLocked = true ∧ s.act.ch.length = 32 ∧ s.floatPair 15 = false ∧
        (s.ach 31).ph = .on) := by
  and_intros
  · exact ⟨(updCh 31 (fun x => { x with req := 32768, ph := .on }) (upCw .act 31 1 (w32 (200 * 4194304 + 40 * 4096 + 400)) (upCw .act 31 0 (w32 536870912) up))),
      by decide +kernel⟩
  · exact ⟨(updCh 31 (fun x => { x with req := 0, ph := .on }) (upCw .act 31 1 (w32 (200 * 4194304 + 40 * 4096 + 400)) (upCw .act 31 0 (w32 536870912) up))),
      by decide +kernel⟩
  · exact ⟨(updCh 31 (fun x => { x with req := 7, ph := .decay }) (upCw .act 31 1 (w32 (200 * 4194304 + 40 * 4096 + 400)) (upCw .act 31 0 (w32 536870912) up))),
      by decide +kernel⟩
  · exact ⟨(updCh 31 (fun x => { x with req := 32768, ph := .peak true, iPull := 900, dutyHold := true }) (upCw .act 31 1 (w32 (200 * 4194304 + 40 * 4096 + 400)) (upCw .act 31 0 (w32 1073741824) up))),
      by decide +kernel⟩
  · exact ⟨(updCh 31 (fun x => { x with req := 32768, ph := .peak true, chOt := true }) (upCw .act 31 1 (w32 (200 * 4194304 + 40 * 4096 + 400)) (upCw .act 31 0 (w32 1073741824) up))),
      by decide +kernel⟩
  · exact ⟨(upCw .act 31 5 40000 (upCw .act 31 0 0x40000020 (updCh 31 (fun x => { x with req := 0, ph := .peak true }) (upCw .act 31 1 (w32 (200 * 4194304 + 40 * 4096 + 400)) (upCw .act 31 0 (w32 1073741824) { up with sup.mode := .hold }))))),
      by decide +kernel⟩
  · exact ⟨(updCh 31 (fun x => { x with req := 0, wait := .minOff }) (upCw .act 31 1 (w32 (200 * 4194304 + 40 * 4096 + 400)) (upCw .act 31 0 (w32 536870912) up))),
      by decide +kernel⟩
  · exact ⟨(updCh 31 (fun x => { x with req := 1, offReady := false }) (upCw .act 31 1 (w32 (200 * 4194304 + 40 * 4096 + 400)) (upCw .act 31 0 (w32 536870912) up))),
      by decide +kernel⟩
  · exact ⟨(updCh 31 (fun x => { x with thOn := true }) (upCw .act 31 1 (w32 (200 * 4194304 + 40 * 4096 + 400)) (upCw .act 31 0 (w32 1610612736) up))),
      by decide +kernel⟩
  · exact ⟨(updCh 31 (fun x => { x with req := 32768 }) (upCw .act 31 1 (w32 (200 * 4194304 + 40 * 4096 + 400)) (upCw .act 31 0 (w32 1073741952) { up with sup.mode := .quiet }))),
      by decide +kernel⟩
  · exact ⟨(updCh 31 (fun x => { x with req := 32768 }) (upCw .act 31 1 (w32 (200 * 4194304 + 40 * 4096 + 400)) (upCw .act 31 0 (w32 1073741952) up))),
      by decide +kernel⟩
  · exact ⟨(upCw .actDev 0 0 (w32 (4 * 16777216 + 8 * 65536)) (updCh 31 (fun x => { x with req := 32768 }) (upCw .act 31 1 (w32 (200 * 4194304 + 40 * 4096 + 400)) (upCw .act 31 0 (w32 1073741824) up)))),
      by decide +kernel⟩
  · exact ⟨(upCw .actDev 0 0 (w32 (3 * 16777216 + 8 * 65536)) (updCh 31 (fun x => { x with req := 32768 }) (upCw .act 31 1 (w32 (200 * 4194304 + 40 * 4096 + 400)) (upCw .act 31 0 (w32 1073741824) up)))),
      by decide +kernel⟩
  · exact ⟨(upCw .actDev 0 0 (w32 (250 * 16777216 + 4 * 65536)) (updCh 31 (fun x => { x with req := 32768, ph := .on }) (upCw .act 31 1 (w32 (200 * 4194304 + 40 * 4096 + 400)) (upCw .act 31 0 (w32 536870912) up)))),
      by decide +kernel⟩
  · exact ⟨(upCw .actDev 0 0 (w32 (250 * 16777216 + 200 * 65536)) (upCw .act 31 4 0xC1900064 (updCh 31 (fun x => { x with req := 32768, ph := .on }) (upCw .act 31 1 (w32 (200 * 4194304 + 40 * 4096 + 400)) (upCw .act 31 0 (w32 536870912) up))))),
      by decide +kernel⟩

theorem witness_FloatDrive :
    (∃ (s : State), s.released = true ∧ s.clk.pllLocked = true ∧ s.act.ch.length = 32 ∧ s.floatPair 15 = true ∧
        (s.ach 30).dutyHold = false ∧ (s.ach 30).flDir = some true) ∧
    (∃ (s : State), s.released = true ∧ s.clk.pllLocked = true ∧ s.act.ch.length = 32 ∧ s.floatPair 15 = true ∧
        (s.ach 30).dutyHold = false ∧ (s.ach 30).flDir = some true) ∧
    (∃ (s : State), s.released = true ∧ s.clk.pllLocked = true ∧ s.act.ch.length = 32 ∧ s.floatPair 15 = true ∧
        (s.ach 30).dutyHold = false ∧ (s.ach 30).flDir = some true) ∧
    (∃ (s : State), s.released = true ∧ s.clk.pllLocked = true ∧ s.act.ch.length = 32 ∧ s.floatPair 15 = true ∧
        (s.ach 30).dutyHold = false ∧ (s.ach 30).flDir = some true) ∧
    (∃ (s : State), s.released = true ∧ s.clk.pllLocked = true ∧ s.act.ch.length = 32 ∧ s.floatPair 15 = true ∧
        (s.ach 30).dutyHold = false ∧ (s.ach 30).flDir = some false) ∧
    (∃ (s : State), s.released = true ∧ s.clk.pllLocked = true ∧ s.act.ch.length = 32 ∧ s.floatPair 15 = true ∧
        (s.ach 30).dutyHold = false ∧ (s.ach 30).flDir = some false) ∧
    (∃ (s : State), s.released = true ∧ s.clk.pllLocked = true ∧ s.act.ch.length = 32 ∧ s.floatPair 15 = true ∧
        (s.ach 30).dutyHold = false ∧ (s.ach 30).flDir = none ∧ ((∀ j : Nat, j < 32 → (j / 2 ≠ 15 → s.actMode j ≠ 2 ∧
        s.floatPair (j / 2) = false))) ∧ (s.ach 30).ph = .off ∧ (s.ach 30).chOt = false ∧ (s.ach 31).ph = .off ∧
        (s.ach 31).flRevOk = true ∧ (s.ach 30).offReady = true) ∧
    (∃ (s : State), s.released = true ∧ s.clk.pllLocked = true ∧ s.act.ch.length = 32 ∧ s.floatPair 15 = true ∧
        (s.ach 30).dutyHold = false ∧ (s.ach 30).flDir = none ∧ ((∀ j : Nat, j < 32 → (j / 2 ≠ 15 → s.actMode j ≠ 2 ∧
        s.floatPair (j / 2) = false))) ∧ (s.ach 31).ph = .off ∧ (s.ach 31).chOt = false ∧ (s.ach 30).ph = .off ∧
        (s.ach 30).flRevOk = true ∧ (s.ach 31).offReady = true) ∧
    (∃ (s : State), s.released = true ∧ s.clk.pllLocked = true ∧ s.act.ch.length = 32 ∧ s.floatPair 15 = true ∧
        (s.ach 30).dutyHold = false ∧ (s.ach 30).flDir = none ∧ (s.ach 30).flRevOk = false) ∧
    (∃ (s : State), s.released = true ∧ s.clk.pllLocked = true ∧ s.act.ch.length = 32 ∧ s.floatPair 15 = true ∧
        (s.ach 30).dutyHold = false ∧ (s.ach 30).flDir = none) ∧
    (∃ (s : State), s.released = true ∧ s.clk.pllLocked = true ∧ s.act.ch.length = 32 ∧ s.floatPair 15 = true ∧
        (s.ach 30).dutyHold = true) ∧
    (∃ (s : State), s.released = true ∧ s.clk.pllLocked = true ∧ s.act.ch.length = 32 ∧ s.floatPair 15 = true ∧
        (s.ach 30).dutyHold = false ∧ (s.ach 30).flSync = true ∧ (s.ach 30).flDir = none ∧
        ((∀ j : Nat, j < 32 → (j / 2 ≠ 15 → s.actMode j ≠ 2 ∧ s.floatPair (j / 2) = false))) ∧ (s.ach 31).ph = .off ∧
        (s.ach 31).chOt = false ∧ (s.ach 30).ph = .off ∧ (s.ach 30).flRevOk = true ∧ (s.ach 31).offReady = true) ∧
    (∃ (s : State), s.released = true ∧ s.clk.pllLocked = true ∧ s.act.ch.length = 32 ∧ s.floatPair 15 = true ∧
        (s.ach 30).dutyHold = false ∧ (s.ach 30).flSync = true ∧ (s.ach 30).flDir = some true) ∧
    (∃ (s : State), s.released = true ∧ s.clk.pllLocked = true ∧ s.act.ch.length = 32 ∧ s.floatPair 15 = true ∧
        (s.ach 30).dutyHold = false ∧ (s.ach 30).flSync = true ∧ (s.ach 30).flDir = some false) ∧
    (∃ (s : State), s.released = true ∧ s.clk.pllLocked = true ∧ s.act.ch.length = 32 ∧ s.floatPair 15 = true) := by
  and_intros
  · exact ⟨(updCh 30 (fun x => { x with flSync := false, req := 32768, flDir := some true, ph := .on, flX := 1 / 4 }) (updCh 31 (fun x => { x with req := 0 }) (upCw .act 30 3 (w32 (60 * 1024 + 5)) (upCw .act 30 1 400 (upCw .act 30 0 (w32 2147483648) up))))),
      by decide +kernel⟩
  · exact ⟨(updCh 30 (fun x => { x with flSync := false, req := 32768, flDir := some true, ph := .on, flX := 1 / 2 }) (updCh 31 (fun x => { x with req := 0 }) (upCw .act 30 3 (w32 (60 * 1024 + 5)) (upCw .act 30 1 400 (upCw .act 30 0 (w32 2147483648) up))))),
      by decide +kernel⟩
  · exact ⟨(updCh 30 (fun x => { x with flSync := false, req := 65535, flDir := some true, ph := .on, flX := 1, flOver := true }) (updCh 31 (fun x => { x with req := 0 }) (upCw .act 30 3 (w32 (60 * 1024 + 5)) (upCw .act 30 1 400 (upCw .act 30 0 (w32 2147483648) up))))),
      by decide +kernel⟩
  · exact ⟨(updCh 30 (fun x => { x with flSync := false, req := 65535, flDir := some true, ph := .on, flX := 1 }) (updCh 31 (fun x => { x with req := 0 }) (upCw .act 30 3 (w32 (60 * 1024 + 5)) (upCw .act 30 1 400 (upCw .act 30 0 (w32 2147483648) up))))),
      by decide +kernel⟩
  · exact ⟨(updCh 30 (fun x => { x with flSync := false, req := 3, flDir := some false, flX := 0 }) (updCh 31 (fun x => { x with ph := .on }) (upCw .act 30 3 (w32 (60 * 1024 + 5)) (upCw .act 30 1 400 (upCw .act 30 0 (w32 2147483648) up))))),
      by decide +kernel⟩
  · exact ⟨(updCh 30 (fun x => { x with flSync := false, req := 32768, flDir := some false, flX := 1 / 2 }) (updCh 31 (fun x => { x with ph := .on }) (upCw .act 30 3 (w32 (60 * 1024 + 5)) (upCw .act 30 1 400 (upCw .act 30 0 (w32 2147483648) up))))),
      by decide +kernel⟩
  · exact ⟨(updCh 30 (fun x => { x with flSync := false, req := 32768, flX := 0 }) (updCh 31 (fun x => { x with req := 0 }) (upCw .act 30 3 (w32 (60 * 1024 + 5)) (upCw .act 30 1 400 (upCw .act 30 0 (w32 2147483648) up))))),
      by decide +kernel⟩
  · exact ⟨(updCh 30 (fun x => { x with flSync := false, req := 32768, flX := 1 }) (updCh 31 (fun x => { x with req := 0 }) (upCw .actDev 0 0 (w32 (9 * 16777216 + 100 * 65536)) (upCw .act 30 3 (w32 (60 * 1024 + 5)) (upCw .act 30 1 400 (upCw .act 30 0 (w32 2147483648) up)))))),
      by decide +kernel⟩
  · exact ⟨(updCh 30 (fun x => { x with flSync := false, req := 32768, flX := 1, flRevOk := false }) (updCh 31 (fun x => { x with req := 0 }) (upCw .act 30 3 (w32 (60 * 1024 + 5)) (upCw .act 30 1 400 (upCw .act 30 0 (w32 2147483648) up))))),
      by decide +kernel⟩
  · exact ⟨(updCh 30 (fun x => { x with flSync := false, req := 32768, flX := 1 / 2 }) (updCh 31 (fun x => { x with req := 0 }) (upCw .act 30 3 (w32 (60 * 1024 + 5)) (upCw .act 30 1 400 (upCw .act 30 0 (w32 2147483648) up))))),
      by decide +kernel⟩
  · exact ⟨(updCh 30 (fun x => { x with flSync := false, req := 65535, dutyHold := true, flDir := some true, ph := .on }) (updCh 31 (fun x => { x with req := 0 }) (upCw .act 30 3 (w32 (60 * 1024 + 5)) (upCw .act 30 1 400 (upCw .act 30 0 (w32 2147483648) up))))),
      by decide +kernel⟩
  · exact ⟨(updCh 30 (fun x => { x with flSync := true, req := 65535 }) (updCh 31 (fun x => { x with req := 0 }) (upCw .act 30 3 (w32 (60 * 1024 + 5)) (upCw .act 30 1 400 (upCw .act 30 0 (w32 2147483648) up))))),
      by decide +kernel⟩
  · exact ⟨(updCh 30 (fun x => { x with flSync := true, req := 65535, flDir := some true, ph := .on }) (updCh 31 (fun x => { x with req := 0 }) (upCw .act 30 3 (w32 (60 * 1024 + 5)) (upCw .act 30 1 400 (upCw .act 30 0 (w32 2147483648) up))))),
      by decide +kernel⟩
  · exact ⟨(updCh 30 (fun x => { x with flSync := true, req := 65535, flDir := some false }) (updCh 31 (fun x => { x with ph := .on }) (upCw .act 30 3 (w32 (60 * 1024 + 5)) (upCw .act 30 1 400 (upCw .act 30 0 (w32 2147483648) up))))),
      by decide +kernel⟩
  · exact ⟨(updCh 30 (fun x => { x with flSync := false, req := 65535, flDir := some true, ph := .on }) (updCh 31 (fun x => { x with req := 0 }) (upCw .act 30 3 (w32 (60 * 1024 + 5)) (upCw .act 30 1 400 (upCw .act 30 0 (w32 2147483648) { up with sup.safePfw := true }))))),
      by decide +kernel⟩

theorem witness_ChannelTimes :
    (∃ (s : State), s.clk.pllLocked = true ∧ (s.ach 31).ph = .off) ∧
    (∃ (s : State), s.clk.pllLocked = true ∧ (s.ach 31).ph = .decay) ∧
    (∃ (s : State), s.clk.pllLocked = true ∧ s.released = true ∧ s.actMode 31 = 3 ∧ s.chain.pt = 0 ∧
        (s.ach 31).thMc = none) ∧
    (∃ (s : State), s.clk.pllLocked = true ∧ s.actMode 31 = 3 ∧ (s.ach 31).ph = .on ∧ ((s.ach 31).thOn =
        false ∨ ¬rne (((s.ach 31).thR * (s.ach 31).thPeriod * 20000 : Nat) : Int) 65536 ≥ (((s.ach 31).thPeriod * 20000 : Nat) : Int))) ∧
    (∃ (s : State), s.clk.pllLocked = true ∧ s.actMode 31 = 3 ∧ (s.ach 31).ph = .on ∧ (s.ach 31).thOn = true ∧
        rne (((s.ach 31).thR * (s.ach 31).thPeriod * 20000 : Nat) : Int) 65536 ≥ (((s.ach 31).thPeriod * 20000 : Nat) : Int)) ∧
    (∃ (s : State), s.clk.pllLocked = true ∧ s.released = true) ∧
    (∃ (s : State), s.clk.pllLocked = true ∧ s.released = true ∧ s.af 31 2 7 0 = 100) ∧
    (∃ (s : State), s.clk.pllLocked = true) := by
  and_intros
  · exact ⟨(updCh 31 (fun x => { x with offReady := false }) up), by decide +kernel⟩
  · exact ⟨(updCh 31 (fun x => { x with ph := .decay }) up), by decide +kernel⟩
  · exact ⟨(up), by decide +kernel⟩
  · exact ⟨(updCh 31 (fun x => { x with ph := .on }) up), by decide +kernel⟩
  · exact ⟨(updCh 31 (fun x => { x with ph := .on, thOn := true, thR := 65536, thPeriod := 60 }) up), by decide +kernel⟩
  · exact ⟨(updCh 31 (fun x => { x with curOn := 10, curAll := 10 }) (upCw .act 31 2 50 up)), by decide +kernel⟩
  · exact ⟨(updCh 31 (fun x => { x with buckets := [(1, 1)], dutyHold := true }) (upCw .act 31 2 100 up)),
      by decide +kernel⟩
  · exact ⟨(up), by decide +kernel⟩

theorem witness_PeaksAndFloatPairs :
    (∃ (s : State), s.clk.pllLocked = true ∧ (s.ach 31).ph = .peak true ∧ 15 < s.act.pairs.length ∧
        (nth s.act.pairs 15).boost = some 31) ∧
    (∃ (s : State), s.clk.pllLocked = true ∧ (s.ach 31).wait = .budget) ∧
    (∃ (s : State), s.clk.pllLocked = true ∧ s.floatPair 15 = true ∧ ((s.ach 30).flDir = some true ∧
        (s.ach 30).flX = 1)) ∧
    (∃ (s : State), s.clk.pllLocked = true ∧ s.floatPair 15 = true ∧ (s.ach 30).flDir = some false ∧
        (s.ach 30).flX = 0) ∧
    (∃ (s : State), s.clk.pllLocked = true ∧ s.floatPair 15 = true ∧ (s.ach 30).flSync = true ∧
        (s.ach 30).flDir = some false) ∧
    (∃ (s : State), s.clk.pllLocked = true ∧ s.floatPair 15 = true ∧ (s.ach 30).ph = .off ∧ (s.ach 31).ph = .off) := by
  refine ⟨?_, ?_, ?_, ?_, ?_, ?_⟩
  · exact ⟨(updCh 31 (fun x => { x with ph := .peak true, peakEnd := 99 }) (updPair 15 (fun p => { p with boost := some 31 }) up)),
      by decide +kernel⟩
  · exact ⟨(updCh 31 (fun x => { x with wait := .budget }) up), by decide +kernel⟩
  · exact ⟨(updCh 30 (fun x => { x with flDir := some true, flX := 1 }) (upCw .act 30 0 (merge 0xE0000000 (up.cw .act 30 0) 0x80000000) up)),
      by decide +kernel⟩
  · exact ⟨(updCh 30 (fun x => { x with flDir := some false, flX := 0 }) (upCw .act 30 0 (merge 0xE0000000 (up.cw .act 30 0) 0x80000000) up)),
      by decide +kernel⟩
  · exact ⟨(updCh 30 (fun x => { x with flDir := some false, flX := 1/2, flSync := true }) (upCw .act 30 0 (merge 0xE0000000 (up.cw .act 30 0) 0x80000000) up)),
      by decide +kernel⟩
  · exact ⟨(updCh 30 (fun x => { x with flRevOk := false }) (upCw .act 30 0 (merge 0xE0000000 (up.cw .act 30 0) 0x80000000) up)),
      by decide +kernel⟩

theorem witness_PullIns :
    (∃ (s : State), 31 < s.act.ch.length ∧ s.released = true ∧ s.sup.mode ≠ .quiet ∧ 15 < s.act.pairs.length ∧
        s.clk.pllLocked = true ∧ s.actCond 31 = 0 ∧ s.sup.safePfw = false ∧ s.chain.stage ≤ 3 ∧
        s.chain.pt.toNat = s.slotPt ∧ s.act.queue = [{ ch := 31, t0 := none }] ∧ s.loadFits 31 (s.iHoldMa 31) = true ∧
        s.bypassed = false ∧ s.act.fault = false ∧ s.switchFree 15 = true ∧ s.boostedCount < s.piConc) ∧
    (∃ (s : State), s.sup.safePfw = false ∧ 31 < s.act.ch.length ∧ s.released = true ∧ s.sup.mode ≠ .quiet ∧
        15 < s.act.pairs.length ∧ s.clk.pllLocked = true ∧ s.actCond 31 = 0 ∧ s.chain.stage ≤ 3 ∧
        s.chain.pt.toNat = s.slotPt ∧ s.act.queue = [{ ch := 31, t0 := none }] ∧ s.loadFits 31 (s.iHoldMa 31) = true ∧
        s.bypassed = false ∧ s.act.fault = false ∧ s.switchFree 15 = false ∧
        s.nextChance 31 - s.chain.now ≤ 24000 * s.af 31 2 15 8) ∧
    (∃ (s : State), s.bypassed = false ∧ 31 < s.act.ch.length ∧ s.released = true ∧ s.sup.mode ≠ .quiet ∧
        15 < s.act.pairs.length ∧ s.clk.pllLocked = true ∧ s.actCond 31 = 0 ∧ (s.ach 31).degWait = true ∧
        (nth s.act.pairs 15).boost = none ∧ s.throttled = false ∧ s.loadFits 31 (s.iHoldMa 31) = true) ∧
    (∃ (s : State), 31 < s.act.ch.length ∧ 15 < s.act.pairs.length ∧ s.released = true ∧ s.clk.pllLocked = true ∧
        s.sup.mode ≠ .quiet ∧ s.actCond 31 = 0 ∧ s.chain.stage ≤ 3 ∧ s.sup.safePfw = false ∧
        s.chain.pt.toNat = s.slotPt ∧ s.act.queue = [{ ch := 31, t0 := none }] ∧ s.loadFits 31 (s.iHoldMa 31) = true ∧
        s.bypassed = false ∧ s.act.fault = false ∧ s.switchFree 15 = true ∧ s.piConc ≤ s.boostedCount ∧
        (s.throttled = true ∨ s.nextChance 31 - s.chain.now ≤ 24000 * s.af 31 2 15 8)) ∧
    (∃ (s : State), 31 < s.act.ch.length ∧ 15 < s.act.pairs.length ∧ s.released = true ∧ s.clk.pllLocked = true ∧
        s.sup.mode ≠ .quiet ∧ s.actCond 31 = 0 ∧ s.chain.stage ≤ 3 ∧ s.sup.safePfw = false ∧
        s.chain.pt.toNat = s.slotPt ∧ s.act.queue = [{ ch := 31, t0 := some 100 }] ∧
        s.loadFits 31 (s.iHoldMa 31) = true ∧ s.bypassed = false ∧ s.act.fault = false ∧
        (s.switchFree 15 = false ∨ s.piConc ≤ s.boostedCount) ∧ s.throttled = false ∧
        24000 * s.af 31 2 15 8 < s.nextChance 31 - 100) ∧
    (∃ (s : State), 31 < s.act.ch.length ∧ 15 < s.act.pairs.length ∧ s.released = true ∧ s.clk.pllLocked = true ∧
        s.sup.mode ≠ .quiet ∧ s.actCond 31 = 0 ∧ s.chain.stage ≤ 3 ∧ s.chain.pt.toNat = s.slotPt ∧
        s.act.queue = [{ ch := 31, t0 := none }, { ch := 0, t0 := none }] ∧ s.actCond 0 = 0 ∧ (s.ach 31).ph = .off ∧
        (s.ach 0).ph = .off ∧ s.bypassed = false ∧ s.act.fault = false ∧ s.switchFree 15 = true ∧
        s.switchFree 0 = true ∧ s.loadFits 31 (s.iHoldMa 31) = true ∧
        (startPeak 31 true false s).loadFits 0 (s.iHoldMa 0) = true ∧ s.boostedCount + 2 ≤ s.piConc) ∧
    (∃ (s : State), 31 < s.act.ch.length ∧ 15 < s.act.pairs.length ∧ s.released = true ∧ s.clk.pllLocked = true ∧
        s.sup.mode ≠ .quiet ∧ s.actCond 31 = 0 ∧ s.chain.stage ≤ 3 ∧ s.chain.pt.toNat = s.slotPt ∧
        s.act.queue = [{ ch := 31, t0 := none }, { ch := 0, t0 := none }] ∧ s.actCond 0 = 0 ∧ (s.ach 31).ph = .off ∧
        (s.ach 0).ph = .off ∧ s.bypassed = false ∧ s.act.fault = false ∧ s.switchFree 15 = true ∧
        s.switchFree 0 = true ∧ s.loadFits 31 (s.iHoldMa 31) = true ∧
        (startPeak 31 true false s).loadFits 0 (s.iHoldMa 0) = true ∧ s.boostedCount + 1 = s.piConc ∧
        s.nextChance 0 - s.chain.now ≤ 24000 * s.af 0 2 15 8) := by
  and_intros
  · exact ⟨({ up with act.queue := [{ ch := 31, t0 := none }], chain.now := 100 }), by decide +kernel⟩
  · exact ⟨(updPair 15 (fun p => { p with boost := some 30 }) { up with act.queue := [{ ch := 31, t0 := none }], chain.now := 100 }),
      by decide +kernel⟩
  · exact ⟨(updCh 31 (fun x => { x with degWait := true }) { up with chain.now := 100 }), by decide +kernel⟩
  · exact ⟨(updCh 20 (fun x => { x with ph := .peak true }) (updPair 10 (fun p => { p with boost := some 20 }) (upCw .actDev 0 0 (merge 0xF00 (up.cw .actDev 0 0) 0x100) { up with act.queue := [{ ch := 31, t0 := none }], chain.now := 100 }))),
      by decide +kernel⟩
  · exact ⟨(updPair 15 (fun p => { p with boost := some 30 }) { up with act.queue := [{ ch := 31, t0 := some 100 }], chain.now := 2400000 }),
      by decide +kernel⟩
  · exact ⟨({ up with act.queue := [{ ch := 31, t0 := none }, { ch := 0, t0 := none }], chain.now := 100 }),
      by decide +kernel⟩
  · exact ⟨(updPair 5 (fun p => { p with boost := some 10 }) (updCh 10 (fun x => { x with ph := .peak true }) { up with act.queue := [{ ch := 31, t0 := none }, { ch := 0, t0 := none }], chain.now := 100 })),
      by decide +kernel⟩

theorem witness_OpenLoads :
    (∃ (s : State), ((s.ach 31).ph = .on ∨ (s.ach 31).inPeak = true) ∧ 50 ≤ (s.ach 31).iSet ∧
        (s.ach 31).openLoad = false) ∧
    (∃ (s : State), s.cb .act 31 0 6 = true ∧ (s.ach 31).ph = .off ∧ (s.ach 31).openLoad = false) ∧
    (∃ (s : State), (s.ach 31).openLoad = true) ∧
    (∃ (s : State), (s.ach 31).openLoad = true ∧ s.floatPair 15 = true) := by
  refine ⟨?_, ?_, ?_, ?_⟩
  · exact ⟨(updCh 31 (fun x => { x with ph := .on, iSet := 50 }) up), by decide +kernel⟩
  · exact ⟨(up), by decide +kernel⟩
  · exact ⟨(updCh 31 (fun x => { x with openLoad := true }) up), by decide +kernel⟩
  · exact ⟨(updCh 31 (fun x => { x with openLoad := true }) (upCw .act 30 0 (merge 0xE0000000 (up.cw .act 30 0) 0x80000000) up)),
      by decide +kernel⟩

theorem witness_ChannelFaults :
    (∃ (s : State), 31 < s.act.ch.length ∧ 15 < s.act.pairs.length ∧ (s.ach 31).conducting = true ∧
        (s.ach 31).shortSup = false) ∧
    (∃ (s : State), 31 < s.act.ch.length ∧ 15 < s.act.pairs.length ∧ (s.ach 31).conducting = false ∧
        (s.ach (31 ^^^ 1)).conducting = false ∧ (s.ach 31).shortGnd = false) ∧
    (∃ (s : State), 31 < s.act.ch.length ∧ 15 < s.act.pairs.length ∧ (nth s.act.pairs 15).off = false) ∧
    (∃ (s : State), 31 < s.act.ch.length ∧ 15 < s.act.pairs.length ∧ (s.ach 31).chOt = false) ∧
    (∃ (s : State), 31 < s.act.ch.length ∧ 15 < s.act.pairs.length ∧ (s.ach 31).chOt = true) ∧
    (∃ (s : State), 31 < s.act.ch.length ∧ 15 < s.act.pairs.length ∧ (s.ach 31).chOt = true ∧ s.floatPair 15 = true) ∧
    (∃ (s : State), s.clk.pllLocked = true ∧ 31 < s.act.ch.length ∧ 15 < s.act.pairs.length ∧
        (s.ach 31).shortSup = true ∧ 1 ≤ (s.ach 31).retryLeft) := by
  and_intros
  · exact ⟨(updCh 31 (fun x => { x with ph := .peak true }) up), by decide +kernel⟩
  · exact ⟨(up), by decide +kernel⟩
  · exact ⟨(updCh 31 (fun x => { x with ph := .on }) up), by decide +kernel⟩
  · exact ⟨(updCh 31 (fun x => { x with ph := .on }) up), by decide +kernel⟩
  · exact ⟨(updCh 31 (fun x => { x with chOt := true }) up), by decide +kernel⟩
  · exact ⟨(updCh 31 (fun x => { x with chOt := true }) (upCw .act 30 0 (merge 0xE0000000 (up.cw .act 30 0) 0x80000000) up)),
      by decide +kernel⟩
  · exact ⟨(updCh 31 (fun x => { x with shortSup := true, retryLeft := 1 }) up), by decide +kernel⟩

theorem witness_Boost :
    (∃ (s : State), s.boostMay = true ∧ s.act.fault = false) ∧
    (∃ (s : State), s.boostRunning = true ∧ s.act.fault = false) ∧
    (∃ (s : State), s.alive = true ∧ s.act.fault = false) ∧
    (∃ (s : State), s.act.bstOv = true) ∧
    (∃ (s : State), s.act.fault = true ∧ s.act.latched = false) ∧
    (∃ (s : State), s.act.fault = false) ∧
    (∃ (s : State), s.act.clamp = true) ∧
    (∃ (s : State), s.alive = true ∧ s.act.fault = false ∧ s.act.bstOv = true) ∧
    (∃ (s : State), s.throttled = true ∧ s.boostMay = true ∧ s.alive = true ∧ s.chain.st ≠ .start ∧ s.chain.pt ≠ 4095 ∧
        s.sup.shutAt = none ∧ (∀ m : Nat, m < 21 → (nth s.sens.mods m).pend = []) ∧ s.act.burst = true) ∧
    (∃ (s : State), s.throttled = true ∧ s.boostMay = true ∧ s.alive = true ∧ s.chain.st ≠ .start ∧ s.chain.pt ≠ 4095 ∧
        s.sup.shutAt = none ∧ (∀ m : Nat, m < 21 → (nth s.sens.mods m).pend = []) ∧ s.act.burst = false ∧
        s.act.burstEnd = none) := by
  and_intros
  · exact ⟨(updCh 31 (fun x => { x with ph := .peak true }) { up with act.faultRetry := 3 }), by decide +kernel⟩
  · exact ⟨(updCh 31 (fun x => { x with ph := .peak true }) { up with act.faultRetry := 2 }), by decide +kernel⟩
  · exact ⟨(up), by decide +kernel⟩
  · exact ⟨({ up with act.bstOv := true }), by decide +kernel⟩
  · exact ⟨({ up with act.fault := true, act.faultRetry := 2, act.bstUv := true }), by decide +kernel⟩
  · exact ⟨({ up with act.faultRetry := 2 }), by decide +kernel⟩
  · exact ⟨({ up with act.clamp := true }), by decide +kernel⟩
  · exact ⟨({ up with act.bstOv := true, act.faultRetry := 3 }), by decide +kernel⟩
  · exact ⟨(updCh 31 (fun x => { x with ph := .peak true }) { up with therm.throttle.entered := true, act.burst := true, chain.st := .locked }),
      by decide +kernel⟩
  · exact ⟨(updCh 31 (fun x => { x with ph := .peak true }) { up with therm.throttle.entered := true, chain.st := .locked }),
      by decide +kernel⟩

theorem witness_FanPeriods :
    (∃ (s : State), s.fans.next = 15 ∧ 15 < s.fans.ch.length ∧ s.released = true ∧ s.clk.pllLocked = true ∧
        (fanLive 15 s).fanEn 15 = false) ∧
    (∃ (s : State), s.fans.next = 15 ∧ 15 < s.fans.ch.length ∧ s.released = true ∧ s.clk.pllLocked = true ∧
        (fanLive 15 s).fanEn 15 = true ∧ (s.fan 15).st = .stopped ∧ (fanLive 15 s).fanCond 15 = 0 ∧
        0 < (fanLive 15 s).fanWant 15) ∧
    (∃ (s : State), 15 < s.fans.ch.length ∧ s.released = true ∧ s.clk.pllLocked = true ∧ s.fans.next = 15 ∧
        (fanLive 15 s).fanEn 15 = true ∧ (s.fan 15).st = .stopped ∧ (fanLive 15 s).fanCond 15 ≠ 0) ∧
    (∃ (s : State), 15 < s.fans.ch.length ∧ s.released = true ∧ s.clk.pllLocked = true ∧ s.fans.next = 15 ∧
        (fanLive 15 s).fanEn 15 = true ∧ (s.fan 15).st = .stopped ∧ (fanLive 15 s).fanCond 15 = 0 ∧
        ¬ 0 < (fanLive 15 s).fanWant 15) ∧
    (∃ (s : State), 15 < s.fans.ch.length ∧ s.released = true ∧ s.clk.pllLocked = true ∧ s.fans.next = 15 ∧
        (fanLive 15 s).fanEn 15 = true ∧ (s.fan 15).st = .run ∧ (fanLive 15 s).fanCond 15 = 0 ∧
        (fanLive 15 s).fanWant 15 ≠ 0) ∧
    (∃ (s : State), 15 < s.fans.ch.length ∧ s.released = true ∧ s.clk.pllLocked = true ∧ s.fans.next = 15 ∧
        (fanLive 15 s).fanEn 15 = true ∧ (s.fan 15).st = .disabled) ∧
    (∃ (s : State), 15 < s.fans.ch.length ∧ s.released = true ∧ s.clk.pllLocked = true ∧ s.fans.next = 15 ∧
        (fanLive 15 s).fanEn 15 = true ∧ (s.fan 15).st = .policy ∧ (fanLive 15 s).fanCond 15 ≠ 0) ∧
    (∃ (s : State), 15 < s.fans.ch.length ∧ s.released = true ∧ s.clk.pllLocked = true ∧ s.fans.next = 15 ∧
        (fanLive 15 s).fanEn 15 = true ∧ (s.fan 15).st = .policy ∧ (fanLive 15 s).fanCond 15 = 0 ∧
        (s.fan 15).polOne = true ∧ 0 < (fanLive 15 s).fanWant 15) ∧
    (∃ (s : State), 15 < s.fans.ch.length ∧ s.released = true ∧ s.clk.pllLocked = true ∧ s.fans.next = 15 ∧
        (fanLive 15 s).fanEn 15 = true ∧ (s.fan 15).st = .policy ∧ (fanLive 15 s).fanCond 15 = 0 ∧
        ((s.fan 15).polOne = false ∨ ¬ 0 < (fanLive 15 s).fanWant 15)) ∧
    (∃ (s : State), 15 < s.fans.ch.length ∧ s.released = true ∧ s.clk.pllLocked = true ∧ s.fans.next = 15 ∧
        (fanLive 15 s).fanEn 15 = true ∧
        ((s.fan 15).st = .pending ∨ (s.fan 15).st = .kick ∨ (s.fan 15).st = .run ∨ (s.fan 15).st = .pause) ∧
        (fanLive 15 s).fanCond 15 ≠ 0) ∧
    (∃ (s : State), 15 < s.fans.ch.length ∧ s.released = true ∧ s.clk.pllLocked = true ∧ s.fans.next = 15 ∧
        (fanLive 15 s).fanEn 15 = true ∧
        ((s.fan 15).st = .pending ∨ (s.fan 15).st = .kick ∨ (s.fan 15).st = .run ∨ (s.fan 15).st = .pause) ∧
        (fanLive 15 s).fanCond 15 = 0 ∧ (fanLive 15 s).fanWant 15 = 0) ∧
    (∃ (s : State), 15 < s.fans.ch.length ∧ s.released = true ∧ s.clk.pllLocked = true ∧ s.fans.next = 15 ∧
        (fanLive 15 s).fanEn 15 = true ∧
        ((s.fan 15).st = .pending ∨ (s.fan 15).st = .kick ∨ (s.fan 15).st = .run ∨ (s.fan 15).st = .pause) ∧
        (fanLive 15 s).fanCond 15 = 0 ∧ (fanLive 15 s).fanWant 15 ≠ 0) := by
  and_intros
  · exact ⟨(upCw .fan 15 0 0 { up with fans.next := 15 }), by decide +kernel⟩
  · exact ⟨(upCw .fan 15 0 0x40001 { up with fans.next := 15, fans.ch := List.replicate 16 { req := 65535 }, fans.queue := [3, 15, 4] }),
      by decide +kernel⟩
  · exact ⟨(upCw .fan 15 0 0x40001 { up with fans.next := 15, sup.mode := .hold }), by decide +kernel⟩
  · exact ⟨(upCw .fan 15 0 0x40001 { up with fans.next := 15 }), by decide +kernel⟩
  · exact ⟨(upCw .fan 15 0 0x40001 { up with fans.next := 15, fans.ch := List.replicate 16 { req := 1, st := .run } }),
      by decide +kernel⟩
  · exact ⟨(upCw .fan 15 0 0x40001 { up with fans.next := 15, fans.queue := [3, 15, 4], fans.ch := List.replicate 16 { st := .disabled } }),
      by decide +kernel⟩
  · exact ⟨(upCw .fan 15 0 0x40001 { up with fans.next := 15, fans.queue := [3, 15, 4], fans.ch := List.replicate 16 { st := .policy }, sup.mode := .hold }),
      by decide +kernel⟩
  · exact ⟨(upCw .fan 15 0 0x40001 { up with fans.next := 15, fans.queue := [3, 15, 4], fans.ch := List.replicate 16 { st := .policy, polOne := true, req := 65535, fails := 4 } }),
      by decide +kernel⟩
  · exact ⟨(upCw .fan 15 0 0x40001 { up with fans.next := 15, fans.queue := [3, 15, 4], fans.ch := List.replicate 16 { st := .policy, polOne := false, req := 65535, fails := 4 } }),
      by decide +kernel⟩
  · exact ⟨(upCw .fan 15 0 0x40001 { up with fans.next := 15, fans.queue := [3, 15, 4], fans.ch := List.replicate 16 { st := .kick, req := 1 }, sup.mode := .hold }),
      by decide +kernel⟩
  · exact ⟨(upCw .fan 15 0 0x40001 { up with fans.next := 15, fans.queue := [3, 15, 4], fans.ch := List.replicate 16 { st := .pause, req := 0 } }),
      by decide +kernel⟩
  · exact ⟨(upCw .fan 15 0 0x40001 { up with fans.next := 15, fans.queue := [3, 15, 4], fans.ch := List.replicate 16 { st := .pending, req := 65535 } }),
      by decide +kernel⟩

theorem witness_FanStarts :
    (∃ (s : State), 15 < s.fans.ch.length ∧ s.clk.pllLocked = true ∧ s.fanCond 15 = 0 ∧ s.fans.queue = 15 :: [2, 15] ∧
        s.released = true ∧ s.chain.pt = 0 ∧ s.fans.kickMc ≠ some s.chain.mc) ∧
    (∃ (s : State), 15 < s.fans.ch.length ∧ s.clk.pllLocked = true ∧ (s.fan 15).st = .kick ∧ s.fanCond 15 = 0 ∧
        s.reached ((s.fan 15).kickAt + 6000000 * (s.fan 15).kickT) = true ∧
        (s.tachEn 15 = false ∨ s.rpmMin 15 ≤ (s.fan 15).rpm)) ∧
    (∃ (s : State), 15 < s.fans.ch.length ∧ s.clk.pllLocked = true ∧ (s.fan 15).st = .kick ∧ s.fanCond 15 = 0 ∧
        s.reached ((s.fan 15).kickAt + 6000000 * (s.fan 15).kickT) = true ∧ s.tachEn 15 = true ∧
        (s.fan 15).rpm < s.rpmMin 15 ∧ (s.fan 15).fails < 3) ∧
    (∃ (s : State), (s.fan 15).st = .kick ∧ s.fanCond 15 = 0 ∧
        s.reached ((s.fan 15).kickAt + 6000000 * (s.fan 15).kickT) = true ∧ 15 < s.fans.ch.length ∧
        s.clk.pllLocked = true ∧ s.tachEn 15 = true ∧ (s.fan 15).rpm < s.rpmMin 15 ∧ (s.fan 15).fails = 3) ∧
    (∃ (s : State), 15 < s.fans.ch.length ∧ s.clk.pllLocked = true ∧ (s.fan 15).st = .pause ∧ s.fanCond 15 = 0) ∧
    (∃ (s : State), 15 < s.fans.ch.length ∧ s.clk.pllLocked = true ∧ (s.fan 15).st = .kick ∧ s.fanCond 15 ≠ 0 ∧
        s.reached ((s.fan 15).kickAt + 6000000 * (s.fan 15).kickT) = true) ∧
    (∃ (s : State), 15 < s.fans.ch.length ∧ s.clk.pllLocked = true ∧ (s.fan 15).st = .pause ∧ s.fanCond 15 ≠ 0) := by
  and_intros
  · exact ⟨(upCw .fan 15 0 0x40001 { up with fans.queue := 15 :: [2, 15], fans.ch := List.replicate 16 { st := .pending, startCnt := 65535, req := 65535 }, fans.kickMc := some 0xFFFFFFFF }),
      by decide +kernel⟩
  · exact ⟨({ up with fans.ch := List.replicate 16 { st := .kick, fails := 2, rpm := 300 } }), by decide +kernel⟩
  · exact ⟨(upCw .fan 15 0 0x240001 { up with fans.ch := List.replicate 16 { st := .kick, fails := 2, rpm := 299 } }),
      by decide +kernel⟩
  · exact ⟨(upCw .fan 15 0 0x240001 { up with fans.ch := List.replicate 16 { st := .kick, fails := 3 } }),
      by decide +kernel⟩
  · exact ⟨({ up with fans.ch := List.replicate 16 { st := .pause, fails := 2 } }), by decide +kernel⟩
  · exact ⟨(upCw .fan 15 0 0x40001 { up with sup.mode := .hold, fans.ch := List.replicate 16 { st := .kick } }),
      by decide +kernel⟩
  · exact ⟨(upCw .fan 15 0 0x40001 { up with sup.mode := .hold, fans.ch := List.replicate 16 { st := .pause } }),
      by decide +kernel⟩

theorem witness_FanTachometers :
    (∃ (s : State), 15 < s.fans.ch.length ∧ s.clk.pllLocked = true ∧ s.alive = true ∧ s.tachEn 15 = true) ∧
    (∃ (s : State), 15 < s.fans.ch.length ∧ s.clk.pllLocked = true ∧ s.tachWatched 15 = true) ∧
    (∃ (s : State), 15 < s.fans.ch.length ∧ s.clk.pllLocked = true ∧ s.tachWatched 15 = false) ∧
    (∃ (s : State), 15 < s.fans.ch.length ∧ s.clk.pllLocked = true ∧ s.tachWatched 15 = true ∧
        decide ((s.fan 15).rpm < s.rpmMin 15) ≠ (s.fan 15).slow) := by
  refine ⟨?_, ?_, ?_, ?_⟩
  · exact ⟨(upCw .fan 15 0 0x280001 { up with fans.ch := List.replicate 16 { edges := [24000000, 12000000], edgeCnt := 2 } }),
      by decide +kernel⟩
  · exact ⟨(upCw .fan 15 0 0x240001 { up with fans.ch := List.replicate 16 { st := .run, rpm := 9 } }),
      by decide +kernel⟩
  · exact ⟨({ up with fans.ch := List.replicate 16 { st := .pause, rpm := 9 } }), by decide +kernel⟩
  · exact ⟨(upCw .fan 15 0 0x240001 { up with fans.ch := List.replicate 16 { st := .run, rpm := 299 } }),
      by decide +kernel⟩

theorem witness_FrameSlots :
    (∃ (s : State) (p : List Byte) (r : Region), s.sup.shutAt = none ∧ s.released = true ∧ s.pnlEn = true ∧
        s.clk.pllLocked = true ∧ s.isFrameSlot = true ∧ s.chain.stage < 5 ∧ s.sup.safePfw = false ∧
        s.panel.fault = false ∧ s.panel.wfBad = false ∧ s.panel.wf = some p ∧ s.panel.wfPend = none ∧
        s.panel.rails = .on ∧ s.panel.clearing = .none ∧ s.panel.rest = false ∧ s.panel.bandMeas = s.panel.bandRun ∧
        s.panel.bandPend = false ∧ s.panel.tempSeen = true ∧ s.pnlW * s.pnlH ≤ 120000 ∧
        (panelLive s).cb .panel 0 3 15 = true ∧ (panelLive s).pnlW = s.pnlW ∧ (panelLive s).pnlH = s.pnlH ∧
        s.panel.regions = some r :: List.replicate 14 none ∧ r.balance = none ∧ r.driving = true ∧ r.aborting = false ∧
        (if r.playing then r.f + 1 else r.f) < r.n ∧ s.panel.queue = []) ∧
    (∃ (s : State) (p : List Byte) (r : Region), s.panel.queue = [] ∧ s.released = true ∧ s.pnlEn = true ∧
        s.clk.pllLocked = true ∧ s.isFrameSlot = true ∧ s.chain.stage < 5 ∧ s.sup.safePfw = false ∧
        s.sup.shutAt = none ∧ s.panel.fault = false ∧ s.panel.wfBad = false ∧ s.panel.wf = some p ∧
        s.panel.wfPend = none ∧ s.panel.rails = .on ∧ s.panel.clearing = .none ∧ s.panel.rest = false ∧
        s.panel.bandMeas = s.panel.bandRun ∧ s.panel.bandPend = false ∧ s.panel.tempSeen = true ∧
        (panelLive s).cb .panel 0 3 15 = true ∧ (panelLive s).pnlW = s.pnlW ∧ (panelLive s).pnlH = s.pnlH ∧
        s.panel.regions = some r :: List.replicate 14 none ∧ r.balance = none ∧ r.driving = true ∧ r.aborting = false ∧
        r.n ≤ (if r.playing then r.f + 1 else r.f) ∧ r.req.blink = none) ∧
    (∃ (s : State) (p : List Byte) (q : PnlReq), (s.pnlW * s.pnlH ≤ 120000 ∨ (true = true ∧
        (startRegion q 1 p (panelLive s)).linesOk = true)) ∧ s.released = true ∧ s.pnlEn = true ∧
        s.clk.pllLocked = true ∧ s.isFrameSlot = true ∧ s.chain.stage < 5 ∧ s.sup.safePfw = false ∧
        s.sup.shutAt = none ∧ s.panel.fault = false ∧ s.panel.wfBad = false ∧ s.panel.wf = some p ∧
        s.panel.wfPend = none ∧ s.panel.rails = .on ∧ s.panel.clearing = .none ∧ s.panel.rest = false ∧
        s.panel.bandMeas = s.panel.bandRun ∧ s.panel.bandPend = false ∧ s.panel.tempSeen = true ∧
        (panelLive s).cb .panel 0 3 15 = true ∧ (panelLive s).pnlW = s.pnlW ∧ (panelLive s).pnlH = s.pnlH ∧
        s.panel.regions = List.replicate 15 none ∧ s.panel.queue = [q] ∧ s.sup.mode = .run ∧ s.safe = false) ∧
    (∃ (s : State) (p : List Byte) (r : Region), r.balance = none ∧ r.driving = true ∧ r.aborting = false ∧
        s.released = true ∧ s.pnlEn = true ∧ s.clk.pllLocked = true ∧ s.chain.stage < 5 ∧ s.sup.safePfw = false ∧
        s.sup.shutAt = none ∧ s.panel.fault = false ∧ s.panel.wfBad = false ∧ s.panel.wf = some p ∧
        s.panel.wfPend = none ∧ s.panel.rails = .on ∧ s.panel.clearing = .none ∧ s.panel.rest = false ∧
        s.panel.bandMeas = s.panel.bandRun ∧ s.panel.bandPend = false ∧ s.panel.tempSeen = true ∧ s.isFrameSlot = true ∧
        (panelLive s).cb .panel 0 3 15 = true ∧ (panelLive s).pnlW = s.pnlW ∧ (panelLive s).pnlH = s.pnlH ∧
        s.panel.regions = some r :: List.replicate 14 none ∧ (if r.playing then r.f + 1 else r.f) < r.n ∧
        s.panel.queue = [] ∧ ¬s.pnlW * s.pnlH ≤ 120000) ∧
    (∃ (s : State) (p : List Byte) (rs : List (Option Region)), (∃ r, some r ∈ rs ∧
        (r.driving = true ∨ r.balance ≠ none ∨ r.aborting = true)) ∧ (∀ r, some r ∈ rs → r.after.balance ≠ some 0 ∧
        (r.after.balance = none → r.driving = true → r.after.f < r.n) ∧
        (r.req.blink ≠ none → r.after.driving = true ∨ r.after.balance ≠ none)) ∧ s.released = true ∧ s.pnlEn = true ∧
        s.clk.pllLocked = true ∧ s.isFrameSlot = true ∧ s.chain.stage < 5 ∧ s.sup.safePfw = false ∧
        s.sup.shutAt = none ∧ s.panel.fault = false ∧ s.panel.wfBad = false ∧ s.panel.wf = some p ∧
        s.panel.wfPend = none ∧ s.panel.rails = .on ∧ s.panel.clearing = .none ∧ s.panel.rest = false ∧
        s.panel.bandMeas = s.panel.bandRun ∧ s.panel.bandPend = false ∧ s.panel.tempSeen = true ∧
        (panelLive s).cb .panel 0 3 15 = true ∧ (panelLive s).pnlW = s.pnlW ∧ (panelLive s).pnlH = s.pnlH ∧
        s.panel.regions = rs ∧ rs.length = 15 ∧ s.panel.queue = [] ∧ (s.pnlW * s.pnlH ≤ 120000 ∨ (false = true ∧
        (panelLive s).linesOk = true))) ∧
    (∃ (s : State) (p : List Byte) (r : Region), s.released = true ∧ s.pnlEn = true ∧ s.clk.pllLocked = true ∧
        s.isFrameSlot = true ∧ s.chain.stage < 5 ∧ s.sup.safePfw = false ∧ s.sup.shutAt = none ∧ s.panel.fault = false ∧
        s.panel.wfBad = false ∧ s.panel.wf = some p ∧ s.panel.wfPend = none ∧ s.panel.rails = .on ∧
        s.panel.clearing = .none ∧ s.panel.rest = false ∧ s.panel.bandMeas = s.panel.bandRun ∧
        s.panel.bandPend = false ∧ s.panel.tempSeen = true ∧ (panelLive s).cb .panel 0 3 15 = true ∧
        (panelLive s).pnlW = s.pnlW ∧ (panelLive s).pnlH = s.pnlH ∧
        s.panel.regions = (List.replicate 15 none).set (15 - 1) (some r) ∧ s.panel.queue = [] ∧ r.balance = some 1 ∧
        r.playing = true ∧ r.aborting = false) ∧
    (∃ (s : State) (p : List Byte) (r : Region) (period : Nat), s.released = true ∧ s.pnlEn = true ∧
        s.clk.pllLocked = true ∧ s.isFrameSlot = true ∧ s.chain.stage < 5 ∧ s.sup.safePfw = false ∧
        s.sup.shutAt = none ∧ s.panel.fault = false ∧ s.panel.wfBad = false ∧ s.panel.wf = some p ∧
        s.panel.wfPend = none ∧ s.panel.rails = .on ∧ s.panel.clearing = .none ∧ s.panel.rest = false ∧
        s.panel.bandMeas = s.panel.bandRun ∧ s.panel.bandPend = false ∧ s.panel.tempSeen = true ∧
        (panelLive s).cb .panel 0 3 15 = true ∧ (panelLive s).pnlW = s.pnlW ∧ (panelLive s).pnlH = s.pnlH ∧
        s.panel.regions = some r :: List.replicate 14 none ∧ r.balance = none ∧ r.driving = true ∧ r.aborting = false ∧
        r.stopping = false ∧ r.req.blink = some period ∧ s.panel.queue = [] ∧ s.sup.mode = .run ∧ s.safe = false ∧
        r.n ≤ (if r.playing then r.f + 1 else r.f) ∧
        ((4096 * (r.phase * s.secMc period) : Nat) : Int) ≤ s.ptSince r.startMc r.startPt ∧ s.pnlW * s.pnlH ≤ 120000) ∧
    (∃ (s : State) (p : List Byte) (r : Region) (period : Nat), s.released = true ∧ s.pnlEn = true ∧
        s.clk.pllLocked = true ∧ s.isFrameSlot = true ∧ s.chain.stage < 5 ∧ s.sup.safePfw = false ∧
        s.sup.shutAt = none ∧ s.panel.fault = false ∧ s.panel.wfBad = false ∧ s.panel.wf = some p ∧
        s.panel.wfPend = none ∧ s.panel.rails = .on ∧ s.panel.clearing = .none ∧ s.panel.rest = false ∧
        s.panel.bandMeas = s.panel.bandRun ∧ s.panel.bandPend = false ∧ s.panel.tempSeen = true ∧
        (panelLive s).cb .panel 0 3 15 = true ∧ (panelLive s).pnlW = s.pnlW ∧ (panelLive s).pnlH = s.pnlH ∧
        s.panel.regions = some r :: List.replicate 14 none ∧ r.balance = none ∧ r.driving = true ∧ r.aborting = false ∧
        r.stopping = false ∧ r.req.blink = some period ∧ s.panel.queue = [] ∧ s.sup.mode = .run ∧ s.safe = false ∧
        r.n ≤ (if r.playing then r.f + 1 else r.f) ∧
        ¬((4096 * (r.phase * s.secMc period) : Nat) : Int) ≤ s.ptSince r.startMc r.startPt) := by
  and_intros
  · exact ⟨({ pnlUp with panel.regions := some { req := { rect := { x1 := 3, y1 := 3 } }, n := 2, f := 0, playing := true } :: List.replicate 14 none }),
      (zeros 6 ++ [1, 4] ++ zeros 16 ++ [2, 2, 2, 2] ++ zeros 484),
      ({ req := { rect := { x1 := 3, y1 := 3 } }, n := 2, f := 0, playing := true }), by decide +kernel⟩
  · exact ⟨({ pnlUp with panel.regions := some { req := { rect := { x1 := 3, y1 := 3 } }, n := 2, f := 1, playing := true } :: List.replicate 14 none }),
      (zeros 6 ++ [1, 4] ++ zeros 16 ++ [2, 2, 2, 2] ++ zeros 484),
      ({ req := { rect := { x1 := 3, y1 := 3 } }, n := 2, f := 1, playing := true }), by decide +kernel⟩
  · exact ⟨({ pnlUp with panel.queue := [{ rect := { x0 := 399, y0 := 299, x1 := 399, y1 := 299 }, mode := 3 }] }),
      (zeros 6 ++ [1, 4] ++ zeros 16 ++ [2, 2, 2, 2] ++ zeros 484),
      ({ rect := { x0 := 399, y0 := 299, x1 := 399, y1 := 299 }, mode := 3 }), by decide +kernel⟩
  · exact ⟨(upCw .panel 0 0 (w32 (2 ^ 31 + 401 * 2 ^ 17 + 300 * 2 ^ 7)) { pnlUp with panel.regions := some { req := { rect := { x1 := 3, y1 := 3 } }, n := 2, f := 0, playing := true } :: List.replicate 14 none }),
      (zeros 6 ++ [1, 4] ++ zeros 16 ++ [2, 2, 2, 2] ++ zeros 484),
      ({ req := { rect := { x1 := 3, y1 := 3 } }, n := 2, f := 0, playing := true }), by decide +kernel⟩
  · exact ⟨({ pnlUp with panel.regions := ([some { req := { rect := { x1 := 3, y1 := 3 } }, n := 3, f := 0, playing := true }, none, some { req := { rect := { x0 := 8, x1 := 9, y1 := 3 } }, n := 3, f := 2, playing := true, aborting := true }, some { req := { rect := { x0 := 12, x1 := 13, y1 := 3 } }, n := 3, f := 2, playing := true, balance := some 2 }] ++ List.replicate 11 none), panel.driving := true }),
      (zeros 6 ++ [1, 4] ++ zeros 16 ++ [2, 2, 2, 2] ++ zeros 484),
      (([some { req := { rect := { x1 := 3, y1 := 3 } }, n := 3, f := 0, playing := true }, none, some { req := { rect := { x0 := 8, x1 := 9, y1 := 3 } }, n := 3, f := 2, playing := true, aborting := true }, some { req := { rect := { x0 := 12, x1 := 13, y1 := 3 } }, n := 3, f := 2, playing := true, balance := some 2 }] ++
      List.replicate 11 none)), ⟨{ req := { rect := { x1 := 3, y1 := 3 } }, n := 3, f := 0, playing := true },
      by decide +kernel, by decide +kernel⟩,
      fun r h => by simp only [List.mem_append, List.mem_cons, Option.some.injEq, List.mem_replicate, List.not_mem_nil, or_false, reduceCtorEq, and_false, false_or] at h; rcases h with h | h | h <;> subst h <;> decide +kernel,
      by and_intros <;> decide +kernel⟩
  · exact ⟨({ pnlUp with panel.regions := (List.replicate 14 none ++ [some { req := { rect := { x1 := 3, y1 := 3 } }, n := 2, f := 2, playing := true, balance := some 1 }]), panel.driving := true }),
      (zeros 6 ++ [1, 4] ++ zeros 16 ++ [2, 2, 2, 2] ++ zeros 484),
      ({ req := { rect := { x1 := 3, y1 := 3 } }, n := 2, f := 2, playing := true, balance := some 1 }),
      by decide +kernel⟩
  · exact ⟨({ pnlUp with chain.mc := 50, panel.regions := some { req := { rect := { x1 := 3, y1 := 3 }, mode := 2, blink := some 1 }, n := 2, f := 1, playing := true, phase := 1 } :: List.replicate 14 none }),
      (zeros 6 ++ [1, 4] ++ zeros 16 ++ [2, 2, 2, 2] ++ zeros 484),
      ({ req := { rect := { x1 := 3, y1 := 3 }, mode := 2, blink := some 1 }, n := 2, f := 1, playing := true, phase := 1 }),
      (1), by decide +kernel⟩
  · exact ⟨({ pnlUp with chain.mc := 49, panel.regions := some { req := { rect := { x1 := 3, y1 := 3 }, mode := 2, blink := some 1 }, n := 2, f := 1, playing := true, phase := 1 } :: List.replicate 14 none }),
      (zeros 6 ++ [1, 4] ++ zeros 16 ++ [2, 2, 2, 2] ++ zeros 484),
      ({ req := { rect := { x1 := 3, y1 := 3 }, mode := 2, blink := some 1 }, n := 2, f := 1, playing := true, phase := 1 }),
      (1), by decide +kernel⟩

theorem witness_RailSequence :
    (∃ (s : State), s.clk.pllLocked = true ∧ s.panel.rails = .rising 4) ∧
    (∃ (s : State), s.clk.pllLocked = true ∧ s.panel.rails = .moving 11 [0, 1, 2] ∧
        ([0, 1, 2] : List Nat).contains 4 = false ∧
        (List.range 5).all (fun k => ([0, 1, 2, 4] : List Nat).contains k) = false) ∧
    (∃ (s : State), ([0, 1, 2, 3] : List Nat).contains 4 = false ∧ s.clk.pllLocked = true ∧
        s.panel.rails = .moving 11 [0, 1, 2, 3] ∧
        (List.range 5).all (fun k => ([0, 1, 2, 3, 4] : List Nat).contains k) = true) ∧
    (∃ (s : State), s.clk.pllLocked = true ∧ s.panel.rails = .riseDelay 4) ∧
    (∃ (s : State), s.clk.pllLocked = true ∧ s.panel.rails = .riseDelay 3) ∧
    (∃ (s : State), s.clk.pllLocked = true ∧ s.panel.rails = .fallDelay 3) ∧
    (∃ (s : State), s.clk.pllLocked = true ∧ s.panel.rails = .moveDelay 11 ∧ s.panel.bandMeas = 11) ∧
    (∃ (s : State), s.clk.pllLocked = true ∧ s.panel.rails = .falling 4) ∧
    (∃ (s : State), s.clk.pllLocked = true ∧ s.panel.rails = .falling 3) ∧
    (∃ (s : State), s.clk.pllLocked = true ∧ s.panel.rails = .on ∧ s.quireDrives = false) ∧
    (∃ (s : State), s.clk.pllLocked = true ∧ s.panel.clearing = .waitTemp) := by
  and_intros
  · exact ⟨({ pnlUp with panel.rails := .rising 4 }), by decide +kernel⟩
  · exact ⟨({ pnlUp with panel.rails := .moving 11 [0, 1, 2] }), by decide +kernel⟩
  · exact ⟨({ pnlUp with panel.rails := .moving 11 [0, 1, 2, 3] }), by decide +kernel⟩
  · exact ⟨({ pnlUp with panel.rails := .riseDelay 4 }), by decide +kernel⟩
  · exact ⟨({ pnlUp with panel.rails := .riseDelay 3 }), by decide +kernel⟩
  · exact ⟨({ pnlUp with panel.rails := .fallDelay 3 }), by decide +kernel⟩
  · exact ⟨({ pnlUp with panel.rails := .moveDelay 11, panel.bandMeas := 11, panel.bandPend := true }),
      by decide +kernel⟩
  · exact ⟨({ pnlUp with panel.rails := .falling 4 }), by decide +kernel⟩
  · exact ⟨({ pnlUp with panel.rails := .falling 3 }), by decide +kernel⟩
  · exact ⟨(pnlUp), by decide +kernel⟩
  · exact ⟨({ pnlUp with panel.clearing := .waitTemp }), by decide +kernel⟩

theorem witness_PanelFaultsAndBlink :
    (∃ (s : State) (c : Nat), s.clk.pllLocked = true ∧ s.panel.regions.length = 15 ∧ s.panel.fault = false ∧
        s.panel.wfPend = none ∧ s.released = true ∧ s.pnlEn = true ∧ s.panel.rails = .on ∧ 3 ≤ c ∧ c ≤ 5) ∧
    (∃ (s : State), s.panel.fault = false ∧ s.panel.wfPend = none ∧ s.clk.pllLocked = true ∧
        s.panel.regions.length = 15 ∧ s.panel.rails = .rising 2) ∧
    (∃ (s : State), s.panel.fault = false ∧ s.panel.wfPend = none ∧ s.clk.pllLocked = true ∧
        s.panel.regions.length = 15 ∧ s.panel.rails = .on) ∧
    (∃ (s : State) (r : Region), s.clk.pllLocked = true ∧ s.panel.regions.length = 15 ∧ s.region 15 = some r ∧
        r.req.blink = some 1 ∧ s.panel.wf.isSome = true ∧ r.driving = false ∧ r.balance = none ∧ s.isFrameSlot = true ∧
        s.panel.bandPend = false ∧ s.quireStarts = true ∧ s.panel.fault = false ∧ s.panel.rails = .on ∧
        ((4096 * (r.phase * s.secMc 1) : Nat) : Int) ≤ s.ptSince r.startMc r.startPt ∧
        s.panel.wf = some (zeros 6 ++ [1, 4] ++ zeros 16 ++ [2, 2, 2, 2] ++ zeros 484)) ∧
    (∃ (s : State), s.panel.regions.length = 15 ∧ s.clk.pllLocked = true ∧ s.slotDue = true ∧ s.panel.fault = true ∧
        (panelLive s).crackWatched = true) := by
  refine ⟨?_, ?_, ?_, ?_, ?_⟩
  · exact ⟨({ pnlUp with panel.queue := [{}], panel.driving := true }), (5), by decide +kernel⟩
  · exact ⟨({ pnlUp with panel.rails := .rising 2 }), by decide +kernel⟩
  · exact ⟨(pnlUp), by decide +kernel⟩
  · exact ⟨({ pnlUp with panel.regions := List.replicate 14 none ++ [some { req := { blink := some 1, rect := { x1 := 1, y1 := 1 } }, driving := false }], chain.mc := 50 }),
      ({ req := { blink := some 1, rect := { x1 := 1, y1 := 1 } }, driving := false }), by decide +kernel⟩
  · exact ⟨(upCw .panel 0 0 (w32 (2 ^ 31 + 2 ^ 27 + 400 * 2 ^ 17 + 300 * 2 ^ 7)) { pnlUp with panel.fault := true, panel.crackFails := 1, panel.rails := .off }),
      by decide +kernel⟩

theorem witness_PanelCommands :
    (∃ (s : State) (m : Msg), s.executes 0x4001 m ∧ m.plain (0) ∧ s.panel.wfPend = none) ∧
    (∃ (s : State) (m : Msg), s.executes 0x4002 m ∧ m.plain (8 + 2) ∧ s.panel.wfPend = none ∧
        s.rectOk (rectAt m.payload 0) = true ∧ 2 =
        (((rectAt m.payload 0).x1 + 1 - (rectAt m.payload 0).x0) * ((rectAt m.payload 0).y1 + 1 - (rectAt m.payload 0).y0) + 1) / 2 ∧
        getB (m.payload.drop 8) 1 < 16 ∧ s.stagingLocked (rectAt m.payload 0) = false) ∧
    (∃ (s : State) (m : Msg), s.executes 0x4002 m ∧ m.plain (8 + 2) ∧ 2 =
        (((rectAt m.payload 0).x1 + 1 - (rectAt m.payload 0).x0) * ((rectAt m.payload 0).y1 + 1 - (rectAt m.payload 0).y0) + 1) / 2 ∧
        s.panel.wfPend = none ∧ s.rectOk (rectAt m.payload 0) = true ∧ getB (m.payload.drop 8) 1 < 16 ∧
        s.stagingLocked (rectAt m.payload 0) = true) ∧
    (∃ (s : State) (m : Msg), s.executes 0x4003 m ∧ m.plain (12) ∧ s.panel.wfPend = none ∧ getB m.payload 0 < 4 ∧
        padOk m 1 3 = true ∧ s.rectOk (rectAt m.payload 4) = true) ∧
    (∃ (s : State) (m : Msg), s.executes 0x4004 m ∧ m.plain (16) ∧
        ((getB m.payload 9).testBit 1 = true → 1 ≤ getB m.payload 10 ∧ getB m.payload 10 ≤ 60) ∧
        ((getB m.payload 9).testBit 1 = false → getB m.payload 10 = 0) ∧ s.panel.wf.isSome = true ∧
        s.panel.wfPend = none ∧ s.pnlEn = true ∧ getB m.payload 9 < 4 ∧ padOk m 11 1 = true ∧ padOk m 14 2 = true ∧
        s.rectOk (rectAt m.payload 0) = true ∧ 1 ≤ getB m.payload 10 ∧ getB m.payload 10 ≤ 60 ∧
        getB m.payload 8 < wfModes (s.panel.wf.getD []) ∧ s.panel.fault = false ∧ s.noTable = false ∧
        s.panel.queue.length < 16) ∧
    (∃ (s : State) (m : Msg), s.executes 0x4004 m ∧ m.plain (16) ∧ s.pnlEn = true ∧ getB m.payload 9 < 4 ∧
        padOk m 11 1 = true ∧ padOk m 14 2 = true ∧ s.rectOk (rectAt m.payload 0) = true ∧
        ((getB m.payload 9).testBit 1 = true → 1 ≤ getB m.payload 10 ∧ getB m.payload 10 ≤ 60) ∧
        ((getB m.payload 9).testBit 1 = false → getB m.payload 10 = 0) ∧ s.panel.wf.isSome = true ∧
        getB m.payload 8 < wfModes (s.panel.wf.getD []) ∧ s.panel.fault = false ∧ s.noTable = false ∧
        s.panel.wfPend = none ∧ (getB m.payload 9).testBit 1 = false ∧ getB m.payload 10 = 0 ∧
        16 ≤ s.panel.queue.length) ∧
    (∃ (s : State) (m : Msg), s.executes 0x4005 m ∧ m.plain (4) ∧ s.panel.wfPend = none ∧ getB m.payload 0 = 0 ∧
        s.panel.queue.find? (fun q => q.tag == getH m.payload 2) = some { tag := 65535 }) ∧
    (∃ (s : State) (m : Msg) (r : Region), s.executes 0x4005 m ∧ m.plain (4) ∧ 1 ≤ getB m.payload 1 ∧
        getB m.payload 1 ≤ 15 ∧ s.panel.wfPend = none ∧ getB m.payload 0 = 1 ∧ s.region (getB m.payload 1) = some r ∧
        r.aborting = false ∧ r.balance = none ∧ r.f = 0) ∧
    (∃ (s : State) (m : Msg) (r : Region), s.executes 0x4005 m ∧ m.plain (4) ∧ getB m.payload 0 = 1 ∧
        1 ≤ getB m.payload 1 ∧ getB m.payload 1 ≤ 15 ∧ s.panel.wfPend = none ∧ s.region (getB m.payload 1) = some r ∧
        r.aborting = false ∧ r.balance = none ∧ r.f ≠ 0) ∧
    (∃ (s : State) (m : Msg) (r : Region), s.executes 0x4005 m ∧ m.plain (4) ∧ getB m.payload 0 = 1 ∧
        1 ≤ getB m.payload 1 ∧ getB m.payload 1 ≤ 15 ∧ s.panel.wfPend = none ∧ s.region (getB m.payload 1) = some r ∧
        (r.aborting = true ∨ r.balance ≠ none)) ∧
    (∃ (s : State) (m : Msg) (r : Region), s.executes 0x4006 m ∧ m.plain (4) ∧ 1 ≤ getB m.payload 0 ∧
        getB m.payload 0 ≤ 15 ∧ s.panel.wfPend = none ∧ padOk m 1 3 = true ∧ s.region (getB m.payload 0) = some r ∧
        r.req.blink ≠ none ∧ r.driving = true) ∧
    (∃ (s : State) (m : Msg), s.executes 0x4007 m ∧ m.plain (0) ∧ s.panel.wfPend = none ∧ s.panel.fault = true) ∧
    (∃ (s : State) (m : Msg), s.executes 0x4002 m ∧ m.plain (8 + 1) ∧ s.panel.wfPend = none ∧
        (rectAt m.payload 0).x0 ≤ (rectAt m.payload 0).x1 ∧ (rectAt m.payload 0).y0 ≤ (rectAt m.payload 0).y1 ∧
        1 ≠ (((rectAt m.payload 0).x1 + 1 - (rectAt m.payload 0).x0) * ((rectAt m.payload 0).y1 + 1 - (rectAt m.payload 0).y0) + 1) / 2) := by
  and_intros
  · exact ⟨(pnlUp), ({}), ⟨by decide +kernel, by decide +kernel, by decide +kernel, .inl (by decide +kernel)⟩,
      ⟨by decide +kernel, by decide +kernel⟩, by decide +kernel⟩
  · exact ⟨(pnlUp), ({ payload := le16 397 ++ le16 299 ++ le16 399 ++ le16 299 ++ [0x21, 0x0F] }), ⟨by decide +kernel,
      by decide +kernel, by decide +kernel, .inl (by decide +kernel)⟩, ⟨by decide +kernel, by decide +kernel⟩,
      by decide +kernel⟩
  · exact ⟨({ pnlUp with panel.queue := [{ rect := { x1 := 399, y1 := 299 } }] }),
      ({ payload := le16 397 ++ le16 299 ++ le16 399 ++ le16 299 ++ [0x21, 0x0F] }), ⟨by decide +kernel,
      by decide +kernel, by decide +kernel, .inl (by decide +kernel)⟩, ⟨by decide +kernel, by decide +kernel⟩,
      by decide +kernel⟩
  · exact ⟨(pnlUp), ({ payload := [3, 0, 0, 0] ++ le16 398 ++ le16 298 ++ le16 399 ++ le16 299 }), ⟨by decide +kernel,
      by decide +kernel, by decide +kernel, .inl (by decide +kernel)⟩, ⟨by decide +kernel, by decide +kernel⟩,
      by decide +kernel⟩
  · exact ⟨({ pnlUp with panel.queue := List.replicate 15 {} }),
      ({ payload := le16 0 ++ le16 0 ++ le16 399 ++ le16 299 ++ [3, 3, 60, 0] ++ le16 0xFFFF ++ zeros 2 }),
      ⟨by decide +kernel, by decide +kernel, by decide +kernel, .inl (by decide +kernel)⟩, ⟨by decide +kernel,
      by decide +kernel⟩, by decide +kernel⟩
  · exact ⟨({ pnlUp with panel.queue := List.replicate 16 {} }),
      ({ payload := le16 0 ++ le16 0 ++ le16 399 ++ le16 299 ++ [3, 1, 0, 0] ++ le16 0xFFFF ++ zeros 2 }),
      ⟨by decide +kernel, by decide +kernel, by decide +kernel, .inl (by decide +kernel)⟩, ⟨by decide +kernel,
      by decide +kernel⟩, by decide +kernel⟩
  · exact ⟨({ pnlUp with panel.queue := [{ tag := 65535 }, { tag := 1 }] }), ({ payload := [0, 0, 255, 255] }),
      ⟨by decide +kernel, by decide +kernel, by decide +kernel, .inl (by decide +kernel)⟩, ⟨by decide +kernel,
      by decide +kernel⟩, by decide +kernel⟩
  · exact ⟨({ pnlUp with panel.regions := List.replicate 14 none ++ [some { f := 0, n := 2 }] }),
      ({ payload := [1, 15, 0, 0] }), ({ f := 0, n := 2 }), ⟨by decide +kernel, by decide +kernel, by decide +kernel,
      .inl (by decide +kernel)⟩, ⟨by decide +kernel, by decide +kernel⟩, by decide +kernel⟩
  · exact ⟨({ pnlUp with panel.regions := List.replicate 14 none ++ [some { f := 1, n := 2 }] }),
      ({ payload := [1, 15, 0, 0] }), ({ f := 1, n := 2 }), ⟨by decide +kernel, by decide +kernel, by decide +kernel,
      .inl (by decide +kernel)⟩, ⟨by decide +kernel, by decide +kernel⟩, by decide +kernel⟩
  · exact ⟨({ pnlUp with panel.regions := List.replicate 14 none ++ [some { f := 1, n := 2, aborting := true }] }),
      ({ payload := [1, 15, 0, 0] }), ({ f := 1, n := 2, aborting := true }), ⟨by decide +kernel, by decide +kernel,
      by decide +kernel, .inl (by decide +kernel)⟩, ⟨by decide +kernel, by decide +kernel⟩, by decide +kernel⟩
  · exact ⟨({ pnlUp with panel.regions := List.replicate 14 none ++ [some { req := { blink := some 1 } }] }),
      ({ payload := [15, 0, 0, 0] }), ({ req := { blink := some 1 } }), ⟨by decide +kernel, by decide +kernel,
      by decide +kernel, .inl (by decide +kernel)⟩, ⟨by decide +kernel, by decide +kernel⟩, by decide +kernel⟩
  · exact ⟨({ pnlUp with panel.fault := true, panel.cause := 4 }), ({}), ⟨by decide +kernel, by decide +kernel,
      by decide +kernel, .inl (by decide +kernel)⟩, ⟨by decide +kernel, by decide +kernel⟩, by decide +kernel⟩
  · exact ⟨(pnlUp), ({ payload := le16 397 ++ le16 299 ++ le16 399 ++ le16 299 ++ [0x21] }), ⟨by decide +kernel,
      by decide +kernel, by decide +kernel, .inl (by decide +kernel)⟩, ⟨by decide +kernel, by decide +kernel⟩,
      by decide +kernel⟩

theorem witness_KeyMatrix :
    (∃ (s : State), s.keys.down.length = 64 ∧ s.keys.opp.length = 64 ∧ s.keys.stuck.length = 64 ∧ s.released = true ∧
        s.clk.pllLocked = true ∧ s.chain.stage < 6 ∧ (s.chain.pt = 1024 ∨ s.chain.pt = 3072) ∧ s.keys.prev = [] ∧
        s.keys.acc = none ∧ s.keys.fifo.length < 16) ∧
    (∃ (s : State), s.clk.pllLocked = true ∧ s.keys.down.length = 64 ∧ s.keys.opp.length = 64 ∧
        s.keys.stuck.length = 64 ∧ s.released = true ∧ (s.chain.pt = 1024 ∨ s.chain.pt = 3072) ∧ s.chain.stage < 6) ∧
    (∃ (s : State), s.clk.pllLocked = true ∧ s.keys.down.length = 64 ∧ s.keys.opp.length = 64 ∧
        s.keys.stuck.length = 64 ∧ s.kb 8 = true ∧ s.keys.down.getD 63 false = true ∧
        s.keys.stuck.getD 63 false = false ∧ s.secMc (s.cf .panel 0 4 7 0) ≤ s.mcSince (nth s.keys.since 63) ∧
        s.keys.acc = some 63 ∧ s.keys.fifo.length < 16) ∧
    (∃ (s : State) (m : Msg), s.executes 0x4101 m ∧ m.plain (4) ∧ s.keys.down.length = 64 ∧ s.keys.opp.length = 64 ∧
        s.keys.stuck.length = 64 ∧ 1 ≤ getB m.payload 0 ∧ getB m.payload 0 ≤ 16 ∧ padOk m 1 3 = true) ∧
    (∃ (s : State) (m : Msg), s.executes 0x4102 m ∧ m.plain (0) ∧ s.keys.down.length = 64 ∧ s.keys.opp.length = 64 ∧
        s.keys.stuck.length = 64) := by
  refine ⟨?_, ?_, ?_, ?_, ?_⟩
  · exact ⟨(upCw .panel 0 4 0x11E { up with chain.pt := 3072, keys.opp := List.replicate 64 2 }), by decide +kernel⟩
  · exact ⟨({ up with chain.pt := 1024, keys.down := List.replicate 64 true }), by decide +kernel⟩
  · exact ⟨(upCw .panel 0 4 0x11E { up with chain.mc := 1500, keys.down := List.replicate 64 true, keys.acc := some 63 }),
      by decide +kernel⟩
  · exact ⟨({ up with keys.fifo := [{ key := 1 }, { key := 2 }] }), ({ payload := [16, 0, 0, 0] }), ⟨by decide +kernel,
      by decide +kernel, by decide +kernel, .inl (by decide +kernel)⟩, ⟨by decide +kernel, by decide +kernel⟩,
      by decide +kernel⟩
  · exact ⟨({ up with keys.drop := 3, keys.ovf := true }), ({}), ⟨by decide +kernel, by decide +kernel,
      by decide +kernel, .inl (by decide +kernel)⟩, ⟨by decide +kernel, by decide +kernel⟩, by decide +kernel⟩

theorem witness_ClearingUpdate :
    (∃ (s : State) (p : List Byte), s.slotDue = true ∧ s.panel.fault = false ∧ s.panel.wfBad = false ∧
        s.panel.wf = some p ∧ s.panel.wfPend = none ∧ s.panel.rest = false ∧ s.panel.bandMeas = s.panel.bandRun ∧
        s.panel.bandPend = false ∧ s.panel.tempSeen = true ∧ s.panel.queue = [] ∧
        s.panel.regions = List.replicate 15 none ∧ (panelLive s).cb .panel 0 3 15 = true ∧ s.panel.clearing = .due ∧
        s.quireStarts = true ∧ s.panel.rails = .on) ∧
    (∃ (s : State) (p : List Byte), s.slotDue = true ∧ s.panel.fault = false ∧ s.panel.wfBad = false ∧
        s.panel.wf = some p ∧ s.panel.wfPend = none ∧ s.panel.rest = false ∧ s.panel.bandMeas = s.panel.bandRun ∧
        s.panel.bandPend = false ∧ s.panel.tempSeen = true ∧ s.panel.queue = [] ∧
        s.panel.regions = List.replicate 15 none ∧ (panelLive s).cb .panel 0 3 15 = true ∧ s.panel.clearing = .due ∧
        s.quireStarts = true ∧ s.panel.rails = .off) ∧
    (∃ (s : State) (p : List Byte), s.slotDue = true ∧ s.panel.fault = false ∧ s.panel.wfBad = false ∧
        s.panel.wf = some p ∧ s.panel.wfPend = none ∧ s.panel.rest = false ∧ s.panel.bandMeas = s.panel.bandRun ∧
        s.panel.bandPend = false ∧ s.panel.tempSeen = true ∧ s.panel.queue = [] ∧
        s.panel.regions = List.replicate 15 none ∧ (panelLive s).cb .panel 0 3 15 = true ∧
        s.panel.clearing = .running 0 5 0 0 2 ∧ s.panel.driving = true ∧ s.panel.rails = .on) ∧
    (∃ (s : State) (p : List Byte), s.slotDue = true ∧ s.panel.fault = false ∧ s.panel.wfBad = false ∧
        s.panel.wf = some p ∧ s.panel.wfPend = none ∧ s.panel.rest = false ∧ s.panel.bandMeas = s.panel.bandRun ∧
        s.panel.bandPend = false ∧ s.panel.tempSeen = true ∧ s.panel.queue = [] ∧
        s.panel.regions = List.replicate 15 none ∧ (panelLive s).cb .panel 0 3 15 = true ∧
        s.panel.clearing = .running 0 5 0 1 2 ∧ s.panel.driving = true ∧ s.panel.rails = .on) := by
  refine ⟨?_, ?_, ?_, ?_⟩
  · exact ⟨({ pnlUp with panel.clearing := .due }), (zeros 6 ++ [1, 4] ++ zeros 16 ++ [2, 2, 2, 2] ++ zeros 484),
      by decide +kernel⟩
  · exact ⟨({ pnlUp with panel.clearing := .due, panel.rails := .off }),
      (zeros 6 ++ [1, 4] ++ zeros 16 ++ [2, 2, 2, 2] ++ zeros 484), by decide +kernel⟩
  · exact ⟨({ pnlUp with panel.clearing := .running 0 5 0 0 2, panel.driving := true }),
      (zeros 6 ++ [1, 4] ++ zeros 16 ++ [2, 2, 2, 2] ++ zeros 484), by decide +kernel⟩
  · exact ⟨({ upCw .panel 0 0 (w32 (2 ^ 31 + 8 * 2 ^ 17 + 4 * 2 ^ 7)) pnlUp with panel.clearing := .running 0 5 0 1 2, panel.driving := true }),
      (zeros 6 ++ [1, 4] ++ zeros 16 ++ [2, 2, 2, 2] ++ zeros 484), by decide +kernel⟩

theorem witness_SpiTransactions :
    (∃ (s : State) (mosi : List Byte), s.spiOn = true ∧ mosi.length < 3 ∧ (getB mosi 0).testBit 7 = false) ∧
    (∃ (s : State) (mosi : List Byte), s.spiOn = true ∧ mosi.length < 3 ∧ (getB mosi 0).testBit 7 = true) ∧
    (∃ (s : State) (mosi : List Byte), s.spiOn = true ∧ beVal (slice mosi 1 2) % 4 = 0 ∧
        (getB mosi 0).testBit 7 = false ∧ s.host.crcEn = false ∧ mosi.length = 3 + 4 * (getB mosi 0 % 64 + 1)) ∧
    (∃ (s : State) (mosi : List Byte), (getB mosi 0).testBit 7 = false ∧ s.spiOn = true ∧
        beVal (slice mosi 1 2) % 4 = 0 ∧ s.host.crcEn = true ∧ mosi.length = 5 + 4 * (getB mosi 0 % 64 + 1) ∧
        crc16 (mosi.take (3 + 4 * (getB mosi 0 % 64 + 1))) =
        beVal (slice (mosi.drop 3) (4 * (getB mosi 0 % 64 + 1)) 2)) ∧
    (∃ (s : State) (mosi : List Byte), (getB mosi 0).testBit 7 = false ∧ beVal (slice mosi 1 2) % 4 = 0 ∧
        s.spiOn = true ∧ s.host.crcEn = true ∧ mosi.length = 5 + 4 * (getB mosi 0 % 64 + 1) ∧
        crc16 (mosi.take (3 + 4 * (getB mosi 0 % 64 + 1))) ≠ beVal (slice (mosi.drop 3) (4 * (getB mosi 0 % 64 + 1)) 2)) ∧
    (∃ (s : State) (mosi : List Byte), beVal (slice mosi 1 2) % 4 = 0 ∧ s.spiOn = true ∧
        (getB mosi 0).testBit 7 = true ∧ s.host.crcEn = false ∧ mosi.length = 4 + 4 * (getB mosi 0 % 64 + 1)) ∧
    (∃ (s : State) (mosi : List Byte), (getB mosi 0).testBit 7 = true ∧ beVal (slice mosi 1 2) % 4 = 0 ∧
        s.spiOn = true ∧ s.host.crcEn = true ∧ mosi.length = 6 + 4 * (getB mosi 0 % 64 + 1)) ∧
    (∃ (s : State) (mosi : List Byte), s.spiOn = true ∧ beVal (slice mosi 1 2) % 4 = 0 ∧
        (getB mosi 0).testBit 7 = true ∧ s.host.crcEn = false ∧ mosi.length = 4 + 4 * (getB mosi 0 % 64 + 1)) := by
  and_intros
  · exact ⟨(up), ([]), by decide +kernel⟩
  · exact ⟨(up), ([0x80, 0]), by decide +kernel⟩
  · exact ⟨(up), ([0x40 + 1, 0x02, 0x20] ++ [1, 2, 3, 4, 5, 6, 7, 8]), by decide +kernel⟩
  · exact ⟨({ up with host.crcEn := true }),
      ([0, 0x00, 0x08, 0, 0, 0, 1] ++ (le16 (crc16 [0, 0x00, 0x08, 0, 0, 0, 1])).reverse), by decide +kernel⟩
  · exact ⟨({ up with host.crcEn := true, host.crcCnt := 65535 }), ([0, 0x00, 0x08, 0, 0, 0, 1, 0, 0]),
      by decide +kernel⟩
  · exact ⟨(up), (0xC0 :: [0x00, 0x00, 0] ++ zeros 4), by decide +kernel⟩
  · exact ⟨({ up with host.crcEn := true }), (0xBF :: [0x00, 0x00, 0] ++ zeros 258), by decide +kernel⟩
  · exact ⟨(up), (0xC0 :: [0x00, 0x00, 0] ++ zeros 4), by decide +kernel⟩

theorem witness_I2cTransactions :
    (∃ (s : State) (a : Nat), s.windowOn = true ∧ s.host.hsel = true ∧ a % 4 = 0 ∧ a < 65536 ∧ s.host.crcEn = false) ∧
    (∃ (s : State) (a : Nat), a % 4 = 0 ∧ a < 65536 ∧ s.windowOn = true ∧ s.host.hsel = true ∧ isPort a = false ∧
        s.host.crcEn = false) ∧
    (∃ (s : State) (target : Nat), s.windowOn = true ∧ target ≠ s.i2cAddr ∧ s.host.hsel = true) ∧
    (∃ (s : State) (wire : List Byte), s.windowOn = true ∧ s.host.hsel = true ∧ s.host.crcEn = false ∧
        wire.length < 5) := by
  refine ⟨?_, ?_, ?_, ?_⟩
  · exact ⟨({ up with host.hsel := true }), (0x220), by decide +kernel⟩
  · exact ⟨({ up with host.hsel := true }), (0), by decide +kernel⟩
  · exact ⟨({ up with host.hsel := true }), (127), by decide +kernel⟩
  · exact ⟨({ up with host.hsel := true }), ([0, 0, 0, 1]), by decide +kernel⟩

theorem witness_MailboxPorts :
    (∃ (s : State), s.windowOn = true ∧ s.mbox.inSt.length = 4 ∧ s.mbox.inPtr.length = 4 ∧ s.mbox.outSt.length = 4 ∧
        s.mbox.outPtr.length = 4 ∧ nth s.mbox.inSt 3 = .free) ∧
    (∃ (s : State), s.windowOn = true ∧ s.mbox.inSt.length = 4 ∧ s.mbox.inPtr.length = 4 ∧ s.mbox.outSt.length = 4 ∧
        s.mbox.outPtr.length = 4 ∧ nth s.mbox.inSt 1 ≠ .free) ∧
    (∃ (s : State), s.windowOn = true ∧ s.mbox.inSt.length = 4 ∧ s.mbox.inPtr.length = 4 ∧ s.mbox.outSt.length = 4 ∧
        s.mbox.outPtr.length = 4 ∧ nth s.mbox.outSt 3 = .full ∧ nth s.mbox.outSt 1 ≠ .full) ∧
    (∃ (s : State) (v : Word), s.windowOn = true ∧ s.mbox.inSt.length = 4 ∧ s.mbox.inPtr.length = 4 ∧
        s.mbox.outSt.length = 4 ∧ s.mbox.outPtr.length = 4 ∧ v.toNat % 8192 % 4 = 0 ∧ v.toNat % 8192 ≤ 4096 ∧
        nth s.mbox.inSt 3 = .free) ∧
    (∃ (s : State) (v : Word), s.windowOn = true ∧ s.mbox.inSt.length = 4 ∧ s.mbox.inPtr.length = 4 ∧
        s.mbox.outSt.length = 4 ∧ s.mbox.outPtr.length = 4 ∧ v.toNat % 8192 % 4 = 0 ∧ v.toNat % 8192 ≤ 4096 ∧
        nth s.mbox.outSt 3 = .full) ∧
    (∃ (s : State) (v : Word), s.windowOn = true ∧ s.mbox.inSt.length = 4 ∧ s.mbox.inPtr.length = 4 ∧
        s.mbox.outSt.length = 4 ∧ s.mbox.outPtr.length = 4 ∧ ¬(v.toNat % 8192 % 4 = 0 ∧ v.toNat % 8192 ≤ 4096) ∧
        nth s.mbox.inSt 3 = .free) ∧
    (∃ (s : State), s.windowOn = true ∧ s.mbox.inSt.length = 4 ∧ s.mbox.inPtr.length = 4 ∧ s.mbox.outSt.length = 4 ∧
        s.mbox.outPtr.length = 4 ∧ nth s.mbox.inSt 3 ≠ .free) ∧
    (∃ (s : State), s.windowOn = true ∧ s.mbox.inSt.length = 4 ∧ s.mbox.inPtr.length = 4 ∧ s.mbox.outSt.length = 4 ∧
        s.mbox.outPtr.length = 4 ∧ nth s.mbox.inSt 3 = .free ∧ nth s.mbox.inPtr 3 < 4096) ∧
    (∃ (s : State), s.windowOn = true ∧ s.mbox.inSt.length = 4 ∧ s.mbox.inPtr.length = 4 ∧ s.mbox.outSt.length = 4 ∧
        s.mbox.outPtr.length = 4 ∧ nth s.mbox.inSt 3 = .free ∧ 4096 ≤ nth s.mbox.inPtr 3) ∧
    (∃ (s : State), s.windowOn = true ∧ s.mbox.inSt.length = 4 ∧ s.mbox.inPtr.length = 4 ∧ s.mbox.outSt.length = 4 ∧
        s.mbox.outPtr.length = 4 ∧ nth s.mbox.inSt 3 ≠ .free) ∧
    (∃ (s : State), s.windowOn = true ∧ s.mbox.inSt.length = 4 ∧ s.mbox.inPtr.length = 4 ∧ s.mbox.outSt.length = 4 ∧
        s.mbox.outPtr.length = 4 ∧ nth s.mbox.outPtr 3 < 4096) ∧
    (∃ (s : State), s.windowOn = true ∧ s.mbox.inSt.length = 4 ∧ s.mbox.inPtr.length = 4 ∧ s.mbox.outSt.length = 4 ∧
        s.mbox.outPtr.length = 4 ∧ 4096 ≤ nth s.mbox.outPtr 3) ∧
    (∃ (s : State) (v : Word), s.windowOn = true ∧ s.mbox.inSt.length = 4 ∧ s.mbox.inPtr.length = 4 ∧
        s.mbox.outSt.length = 4 ∧ s.mbox.outPtr.length = 4 ∧ nth s.mbox.inSt 3 ≠ .free ∧ ¬(v.toNat % 8192 % 4 = 0 ∧
        v.toNat % 8192 ≤ 4096)) ∧
    (∃ (s : State), s.windowOn = true ∧ s.mbox.inSt.length = 4 ∧ s.mbox.inPtr.length = 4 ∧ s.mbox.outSt.length = 4 ∧
        s.mbox.outPtr.length = 4 ∧ nth s.mbox.inSt 3 ≠ .free ∧ 4096 ≤ nth s.mbox.inPtr 3) := by
  and_intros
  · exact ⟨(up), by decide +kernel⟩
  · exact ⟨({ up with mbox.inSt := [.free, .posted, .accepted, .free], mbox.inPtr := [4, 4, 4, 4] }), by decide +kernel⟩
  · exact ⟨({ up with mbox.outSt := [.full, .free, .reserved, .full], mbox.outPtr := [4, 4, 4, 4] }), by decide +kernel⟩
  · exact ⟨(up), (4096), by decide +kernel⟩
  · exact ⟨({ up with mbox.outSt := List.replicate 4 .full }), (4096), by decide +kernel⟩
  · exact ⟨(up), (4097), by decide +kernel⟩
  · exact ⟨({ up with mbox.inSt := List.replicate 4 .accepted }), by decide +kernel⟩
  · exact ⟨({ up with mbox.inPtr := List.replicate 4 4092 }), by decide +kernel⟩
  · exact ⟨({ up with mbox.inPtr := List.replicate 4 4096 }), by decide +kernel⟩
  · exact ⟨({ up with mbox.inSt := List.replicate 4 .accepted }), by decide +kernel⟩
  · exact ⟨({ up with mbox.outPtr := List.replicate 4 4092 }), by decide +kernel⟩
  · exact ⟨({ up with mbox.outPtr := List.replicate 4 4096 }), by decide +kernel⟩
  · exact ⟨({ up with mbox.inSt := List.replicate 4 .accepted }), (8190), by decide +kernel⟩
  · exact ⟨({ up with mbox.inSt := List.replicate 4 .accepted, mbox.inPtr := List.replicate 4 4096 }),
      by decide +kernel⟩

theorem witness_WindowRegisters :
    (∃ (s : State), s.windowOn = false) ∧
    (∃ (s : State), s.windowOn = true) ∧
    (∃ (s : State), s.windowOn = true) ∧
    (∃ (s : State), s.windowOn = true) ∧
    (∃ (s : State), s.windowOn = true) ∧
    (∃ (s : State), s.windowOn = true) ∧
    (∃ (s : State), s.windowOn = true) ∧
    (∃ (s : State), s.windowOn = true) ∧
    (∃ (s : State) (a : Nat), s.windowOn = true ∧ a % 4 ≠ 0) ∧
    (∃ (s : State) (a : Nat), s.windowOn = true ∧ a < 65536 ∧ a % 4 = 0 ∧
        (a ∈ [0x20, 0x24, 0x28, 0x2C, 0x34, 0x38, 0x3C] ∨ (0x50 ≤ a ∧ a < 0x100) ∨ (0x100 ≤ a ∧ a < 0x200 ∧
        8 ≤ a % 0x20) ∨ (0x200 ≤ a ∧ a < 0x400 ∧ (0x10 ≤ a % 0x20 ∨ 0x260 ≤ a)) ∨ 0x7FC ≤ a)) ∧
    (∃ (s : State) (a : Nat), s.windowOn = true ∧ a < 65536 ∧ a % 4 = 0 ∧
        (a ∈ [0x20, 0x24, 0x28, 0x2C, 0x34, 0x38, 0x3C] ∨ (0x50 ≤ a ∧ a < 0x100) ∨ (0x100 ≤ a ∧ a < 0x200 ∧
        8 ≤ a % 0x20) ∨ (0x200 ≤ a ∧ a < 0x400 ∧ (0x10 ≤ a % 0x20 ∨ 0x260 ≤ a)) ∨ 0x7FC ≤ a)) ∧
    (∃ (s : State) (a : Nat), s.windowOn = true ∧ a < 65536 ∧ a % 4 = 0 ∧
        (a ∈ [0x20, 0x24, 0x28, 0x2C, 0x34, 0x38, 0x3C] ∨ (0x50 ≤ a ∧ a < 0x100) ∨ (0x100 ≤ a ∧ a < 0x200 ∧
        8 ≤ a % 0x20) ∨ (0x200 ≤ a ∧ a < 0x400 ∧ (0x10 ≤ a % 0x20 ∨ 0x260 ≤ a)) ∨ 0x7FC ≤ a)) ∧
    (∃ (s : State) (a : Nat), s.windowOn = true ∧ a < 65536 ∧ a % 4 = 0 ∧
        (a ∈ [0x20, 0x24, 0x28, 0x2C, 0x34, 0x38, 0x3C] ∨ (0x50 ≤ a ∧ a < 0x100) ∨ (0x100 ≤ a ∧ a < 0x200 ∧
        8 ≤ a % 0x20) ∨ (0x200 ≤ a ∧ a < 0x400 ∧ (0x10 ≤ a % 0x20 ∨ 0x260 ≤ a)) ∨ 0x7FC ≤ a)) ∧
    (∃ (s : State) (a : Nat), s.windowOn = true ∧ a < 65536 ∧ a % 4 = 0 ∧
        (a ∈ [0x20, 0x24, 0x28, 0x2C, 0x34, 0x38, 0x3C] ∨ (0x50 ≤ a ∧ a < 0x100) ∨ (0x100 ≤ a ∧ a < 0x200 ∧
        8 ≤ a % 0x20) ∨ (0x200 ≤ a ∧ a < 0x400 ∧ (0x10 ≤ a % 0x20 ∨ 0x260 ≤ a)) ∨ 0x7FC ≤ a)) ∧
    (∃ (s : State) (a : Nat), s.windowOn = true ∧ a < 65536 ∧ a % 4 = 0 ∧
        (a ∈ [0x20, 0x24, 0x28, 0x2C, 0x34, 0x38, 0x3C] ∨ (0x50 ≤ a ∧ a < 0x100) ∨ (0x100 ≤ a ∧ a < 0x200 ∧
        8 ≤ a % 0x20) ∨ (0x200 ≤ a ∧ a < 0x400 ∧ (0x10 ≤ a % 0x20 ∨ 0x260 ≤ a)) ∨ 0x7FC ≤ a)) ∧
    (∃ (s : State) (a : Nat), s.windowOn = true ∧ a < 65536 ∧ a % 4 = 0 ∧
        (a ∈ [0x20, 0x24, 0x28, 0x2C, 0x34, 0x38, 0x3C] ∨ (0x50 ≤ a ∧ a < 0x100) ∨ (0x100 ≤ a ∧ a < 0x200 ∧
        8 ≤ a % 0x20) ∨ (0x200 ≤ a ∧ a < 0x400 ∧ (0x10 ≤ a % 0x20 ∨ 0x260 ≤ a)) ∨ 0x7FC ≤ a)) ∧
    (∃ (s : State) (a : Nat), s.windowOn = true ∧ a < 65536 ∧ a % 4 = 0 ∧
        (a ∈ [0x20, 0x24, 0x28, 0x2C, 0x34, 0x38, 0x3C] ∨ (0x50 ≤ a ∧ a < 0x100) ∨ (0x100 ≤ a ∧ a < 0x200 ∧
        8 ≤ a % 0x20) ∨ (0x200 ≤ a ∧ a < 0x400 ∧ (0x10 ≤ a % 0x20 ∨ 0x260 ≤ a)) ∨ 0x7FC ≤ a)) ∧
    (∃ (s : State) (a : Nat), s.windowOn = true ∧ a < 65536 ∧ a % 4 = 0 ∧
        (a ∈ [0x20, 0x24, 0x28, 0x2C, 0x34, 0x38, 0x3C] ∨ (0x50 ≤ a ∧ a < 0x100) ∨ (0x100 ≤ a ∧ a < 0x200 ∧
        8 ≤ a % 0x20) ∨ (0x200 ≤ a ∧ a < 0x400 ∧ (0x10 ≤ a % 0x20 ∨ 0x260 ≤ a)) ∨ 0x7FC ≤ a)) ∧
    (∃ (s : State) (a : Nat), s.windowOn = true ∧ a < 65536 ∧ a % 4 = 0 ∧
        (a ∈ [0x20, 0x24, 0x28, 0x2C, 0x34, 0x38, 0x3C] ∨ (0x50 ≤ a ∧ a < 0x100) ∨ (0x100 ≤ a ∧ a < 0x200 ∧
        8 ≤ a % 0x20) ∨ (0x200 ≤ a ∧ a < 0x400 ∧ (0x10 ≤ a % 0x20 ∨ 0x260 ≤ a)) ∨ 0x7FC ≤ a)) ∧
    (∃ (s : State) (a : Nat), s.windowOn = true ∧ a % 4 = 0 ∧
        (a ∈ [0x00, 0x04, 0x14, 0x1C, 0x30, 0x40, 0x44, 0x4C] ∨ (0x400 ≤ a ∧ a ≤ 0x7F8))) ∧
    (∃ (s : State) (a : Nat), s.windowOn = true ∧ a % 4 = 0 ∧
        (a ∈ [0x00, 0x04, 0x14, 0x1C, 0x30, 0x40, 0x44, 0x4C] ∨ (0x400 ≤ a ∧ a ≤ 0x7F8))) ∧
    (∃ (s : State) (a : Nat), s.windowOn = true ∧ a % 4 = 0 ∧
        (a ∈ [0x00, 0x04, 0x14, 0x1C, 0x30, 0x40, 0x44, 0x4C] ∨ (0x400 ≤ a ∧ a ≤ 0x7F8))) := by
  and_intros
  · exact ⟨({ up with sup.phase := .held .power }), by decide +kernel⟩
  · exact ⟨({ up with evt.queue := [{ source := 1 }, { source := 2 }] }), by decide +kernel⟩
  · exact ⟨({ up with evt.summary := BitVec.allOnes 128, evt.lost := BitVec.allOnes 128 }), by decide +kernel⟩
  · exact ⟨({ up with evt.summary := BitVec.allOnes 128, evt.lost := BitVec.allOnes 128 }), by decide +kernel⟩
  · exact ⟨({ up with host.err := { mbOvr := true, mbSeq := true, proto := true, unmapped := true, abort := true, align := true, crc := true }, host.crcCnt := 5 }),
      by decide +kernel⟩
  · exact ⟨(up), by decide +kernel⟩
  · exact ⟨(up), by decide +kernel⟩
  · exact ⟨(up), by decide +kernel⟩
  · exact ⟨(up), (1), by decide +kernel⟩
  · exact ⟨(up), (0x20), by decide +kernel⟩
  · exact ⟨(up), (0x3C), by decide +kernel⟩
  · exact ⟨(up), (0x50), by decide +kernel⟩
  · exact ⟨(up), (0xFC), by decide +kernel⟩
  · exact ⟨(up), (0x108), by decide +kernel⟩
  · exact ⟨(up), (0x1FC), by decide +kernel⟩
  · exact ⟨(up), (0x210), by decide +kernel⟩
  · exact ⟨(up), (0x3FC), by decide +kernel⟩
  · exact ⟨(up), (0x7FC), by decide +kernel⟩
  · exact ⟨(up), (65532), by decide +kernel⟩
  · exact ⟨(up), (0x00), by decide +kernel⟩
  · exact ⟨(up), (0x400), by decide +kernel⟩
  · exact ⟨(up), (0x7F8), by decide +kernel⟩

theorem witness_MailboxAcceptance :
    (∃ (s : State), s.appUp = true ∧ s.mbox.posted = 3 :: [1] ∧
        (List.range 4).find? (fun k => nth s.mbox.outSt k == .free) = some 3 ∧ s.mbox.accepted = [] ∧
        s.mbox.waiting = none ∧ s.mbox.inSt.length = 4 ∧ s.mbox.outSt.length = 4 ∧
        acceptCheck (inBytes s 3) cmdDefined = none) ∧
    (∃ (s : State), s.mbox.accepted = [] ∧ s.mbox.waiting = none ∧ s.mbox.inSt.length = 4 ∧ s.mbox.outSt.length = 4 ∧
        s.appUp = true ∧ s.mbox.posted = 3 :: [] ∧
        (List.range 4).find? (fun k => nth s.mbox.outSt k == .free) = some 0 ∧
        (acceptCheck (inBytes s 3) cmdDefined).isSome = true) := by
  refine ⟨?_, ?_⟩
  · exact ⟨({ up with mbox.posted := [3, 1], mbox.inBuf := List.replicate 4 [0x00070001, 0, 0, w32 (crc32c ([1, 0, 7, 0] ++ zeros 8))], mbox.inSt := List.replicate 4 .posted, mbox.outSt := [.full, .full, .full, .free] }),
      by decide +kernel⟩
  · exact ⟨({ up with mbox.posted := [3], mbox.inBuf := List.replicate 4 [0x0007FFFF, 0, 0, 0], mbox.inSt := List.replicate 4 .posted }),
      by decide +kernel⟩

theorem witness_AbandonedObjects :
    (∃ (s : State) (c : ChunkIn), s.clk.pllLocked = true ∧ s.mbox.chunkIn = some c ∧ c.bus = false ∧
        60 * s.mcPerSec ≤ s.mcSince c.mc ∧ s.bus.file = none) ∧
    (∃ (s : State) (c : ChunkIn) (f : FileObj), s.clk.pllLocked = true ∧ s.mbox.chunkIn = some c ∧ c.bus = false ∧
        60 * s.mcPerSec ≤ s.mcSince c.mc ∧ s.bus.file = some f ∧ ¬60 * s.mcPerSec ≤ s.mcSince f.mc) ∧
    (∃ (s : State) (c : ChunkIn) (f : FileObj), s.clk.pllLocked = true ∧ s.mbox.chunkIn = some c ∧ c.bus = false ∧
        60 * s.mcPerSec ≤ s.mcSince c.mc ∧ s.bus.file = some f ∧ 60 * s.mcPerSec ≤ s.mcSince f.mc) ∧
    (∃ (s : State) (c : ChunkIn), s.clk.pllLocked = true ∧ s.mbox.chunkIn = some c ∧ c.bus = false ∧
        ¬60 * s.mcPerSec ≤ s.mcSince c.mc ∧ s.bus.file = none) ∧
    (∃ (s : State) (c : ChunkIn) (f : FileObj), s.clk.pllLocked = true ∧ s.mbox.chunkIn = some c ∧ c.bus = true ∧
        s.bus.file = some f ∧ 60 * s.mcPerSec ≤ s.mcSince f.mc) ∧
    (∃ (s : State) (c : ChunkIn) (f : FileObj), s.clk.pllLocked = true ∧ s.mbox.chunkIn = some c ∧ c.bus = true ∧
        s.bus.file = some f ∧ ¬60 * s.mcPerSec ≤ s.mcSince f.mc) ∧
    (∃ (s : State), s.clk.pllLocked = true ∧ s.mbox.chunkIn = none ∧ s.bus.file = none) ∧
    (∃ (s : State), s.clk.pllLocked = true ∧ 60 * s.mcPerSec ≤ s.mcSince 0) ∧
    (∃ (s : State), s.clk.pllLocked = false) := by
  and_intros
  · exact ⟨({ up with chain.mc := 3000, mbox.chunkIn := some { cmd := 0x0206 } }), ({ cmd := 0x0206 }),
      by decide +kernel⟩
  · exact ⟨({ up with chain.mc := 3000, mbox.chunkIn := some { cmd := 0x0206 }, bus.file := some { mc := 2000 } }),
      ({ cmd := 0x0206 }), ({ mc := 2000 }), by decide +kernel⟩
  · exact ⟨({ up with chain.mc := 3000, mbox.chunkIn := some { cmd := 0x0206 }, bus.file := some {} }),
      ({ cmd := 0x0206 }), ({}), by decide +kernel⟩
  · exact ⟨({ up with chain.mc := 2999, mbox.chunkIn := some { cmd := 0x7101 } }), ({ cmd := 0x7101 }),
      by decide +kernel⟩
  · exact ⟨({ up with chain.mc := 3000, mbox.chunkIn := some { cmd := 0x0206, bus := true }, bus.file := some {} }),
      ({ cmd := 0x0206, bus := true }), ({}), by decide +kernel⟩
  · exact ⟨({ up with mbox.chunkIn := some { cmd := 0x0206, bus := true }, bus.file := some {} }),
      ({ cmd := 0x0206, bus := true }), ({}), by decide +kernel⟩
  · exact ⟨(up), by decide +kernel⟩
  · exact ⟨({ up with chain.mc := 3000, mbox.respObj := [{ cmd := 5, data := [], mc := 0 }] }), by decide +kernel⟩
  · exact ⟨({ up with clk.pllLocked := false, chain.mc := 3000, mbox.chunkIn := some { cmd := 0x0206 } }),
      by decide +kernel⟩

theorem witness_ModeCommands :
    (∃ (s : State) (m : Msg), s.executes 0x0002 m ∧ m.plain (4) ∧ padOk m 1 3 = true ∧ s.test.running = false ∧
        s.released = true ∧ getB m.payload 0 = 2 ∧ s.sup.mode = .run) ∧
    (∃ (s : State) (m : Msg), s.executes 0x0002 m ∧ m.plain (4) ∧ padOk m 1 3 = true ∧ s.test.running = false ∧
        s.released = true ∧ getB m.payload 0 = 1 ∧ s.sup.mode = .quiet) ∧
    (∃ (s : State) (m : Msg), s.executes 0x0002 m ∧ m.plain (4) ∧ padOk m 1 3 = true ∧ s.test.running = false ∧
        s.released = true ∧ getB m.payload 0 = 2 ∧ s.sup.mode = .hold) ∧
    (∃ (s : State) (m : Msg), s.executes 0x0002 m ∧ m.plain (4) ∧ padOk m 1 3 = true ∧ s.test.running = false ∧
        s.released = true ∧ getB m.payload 0 = 3 ∧ s.sup.mode = .run ∧ s.rood.loops.length = 128 ∧
        (s.loop 127).dyn.st = .closed ∧ (s.loop 1).dyn.st ≠ .closed) ∧
    (∃ (s : State) (m : Msg), s.executes 0x0002 m ∧ m.plain (4) ∧ padOk m 1 3 = true ∧ s.test.running = false ∧
        s.released = true ∧ getB m.payload 0 = 1 ∧ s.sup.mode = .hold) := by
  refine ⟨?_, ?_, ?_, ?_, ?_⟩
  · exact ⟨(up), ({ payload := [2, 0, 0, 0] }), ⟨by decide +kernel, by decide +kernel, by decide +kernel,
      .inl (by decide +kernel)⟩, ⟨by decide +kernel, by decide +kernel⟩, by decide +kernel⟩
  · exact ⟨({ up with sup.mode := .quiet }), ({ payload := [1, 0, 0, 0] }), ⟨by decide +kernel, by decide +kernel,
      by decide +kernel, .inl (by decide +kernel)⟩, ⟨by decide +kernel, by decide +kernel⟩, by decide +kernel⟩
  · exact ⟨({ up with sup.mode := .hold }), ({ payload := [2, 0, 0, 0] }), ⟨by decide +kernel, by decide +kernel,
      by decide +kernel, .inl (by decide +kernel)⟩, ⟨by decide +kernel, by decide +kernel⟩, by decide +kernel⟩
  · exact ⟨(updDyn 127 (fun d => { d with st := .closed }) (updDyn 1 (fun d => { d with st := .opened }) up)),
      ({ payload := [3, 0, 0, 0] }), ⟨by decide +kernel, by decide +kernel, by decide +kernel,
      .inl (by decide +kernel)⟩, ⟨by decide +kernel, by decide +kernel⟩, by decide +kernel⟩
  · exact ⟨(updLoop 127 (fun c => { c with holdForced := true }) { up with sup.mode := .hold }),
      ({ payload := [1, 0, 0, 0] }), ⟨by decide +kernel, by decide +kernel, by decide +kernel,
      .inl (by decide +kernel)⟩, ⟨by decide +kernel, by decide +kernel⟩, by decide +kernel⟩

theorem witness_SystemCommands :
    (∃ (s : State) (m : Msg), s.executes 0x0001 m ∧ m.plain (0)) ∧
    (∃ (s : State) (m : Msg), s.executes 0x0003 m ∧ m.plain (4)) ∧
    (∃ (s : State) (m : Msg), s.executes 0x0004 m ∧ m.plain (0) ∧ s.backup.calValid = true) ∧
    (∃ (s : State) (m : Msg), s.executes 0x0004 m ∧ m.plain (0) ∧ s.backup.calValid = false) ∧
    (∃ (s : State) (m : Msg), s.executes 0x0005 m ∧ m.plain (4) ∧ getW m.payload 0 = 0xA5C3) ∧
    (∃ (s : State) (m : Msg), s.executes 0x0005 m ∧ m.plain (4) ∧ getW m.payload 0 ≠ 0xA5C3) ∧
    (∃ (s : State) (m : Msg), s.executes 0x0006 m ∧ m.plain (8) ∧ 1 ≤ getH m.payload 4 ∧ getH m.payload 4 ≤ 4072 ∧
        getW m.payload 0 + getH m.payload 4 ≤ 262144 ∧ padOk m 6 2 = true ∧
        nvBad s.nvm 0 (nvHostBase + getW m.payload 0) (getH m.payload 4) = false) ∧
    (∃ (s : State) (m : Msg), s.executes 0x0007 m ∧ m.plain (4 + 1) ∧
        nvEdgeBad s.nvm 0 (nvHostBase + getW m.payload 0) 1 = false ∧ getW m.payload 0 + 1 ≤ 262144 ∧
        s.thermalBars = false ∧ s.bushel.closed = false) ∧
    (∃ (s : State) (m : Msg), s.executes 0x0008 m ∧ m.plain (0)) ∧
    (∃ (s : State) (m : Msg), s.executes 0x0009 m ∧ m.plain (4) ∧
        (∀ g : Nat, g < 16 → (getH m.payload 0).testBit g = true → s.cf .gpio g 0 7 6 ≠ 0)) := by
  and_intros
  · exact ⟨(up), ({}), ⟨by decide +kernel, by decide +kernel, by decide +kernel, .inl (by decide +kernel)⟩,
      ⟨by decide +kernel, by decide +kernel⟩⟩
  · exact ⟨(up), ({ payload := [255, 255, 255, 255] }), ⟨by decide +kernel, by decide +kernel, by decide +kernel,
      .inl (by decide +kernel)⟩, ⟨by decide +kernel, by decide +kernel⟩⟩
  · exact ⟨({ up with backup.calValid := true, backup.calendar := 1000000000 }), ({}), ⟨by decide +kernel,
      by decide +kernel, by decide +kernel, .inl (by decide +kernel)⟩, ⟨by decide +kernel, by decide +kernel⟩,
      by decide +kernel⟩
  · exact ⟨(up), ({}), ⟨by decide +kernel, by decide +kernel, by decide +kernel, .inl (by decide +kernel)⟩,
      ⟨by decide +kernel, by decide +kernel⟩, by decide +kernel⟩
  · exact ⟨(up), ({ payload := [0xC3, 0xA5, 0, 0] }), ⟨by decide +kernel, by decide +kernel, by decide +kernel,
      .inl (by decide +kernel)⟩, ⟨by decide +kernel, by decide +kernel⟩, by decide +kernel⟩
  · exact ⟨(up), ({ payload := [0xC3, 0xA5, 1, 0] }), ⟨by decide +kernel, by decide +kernel, by decide +kernel,
      .inl (by decide +kernel)⟩, ⟨by decide +kernel, by decide +kernel⟩, by decide +kernel⟩
  · exact ⟨(up), ({ payload := le32 262143 ++ [1, 0, 0, 0] }), ⟨by decide +kernel, by decide +kernel, by decide +kernel,
      .inl (by decide +kernel)⟩, ⟨by decide +kernel, by decide +kernel⟩, by decide +kernel⟩
  · exact ⟨(up), ({ payload := le32 262143 ++ [0xAB] }), ⟨by decide +kernel, by decide +kernel, by decide +kernel,
      .inl (by decide +kernel)⟩, ⟨by decide +kernel, by decide +kernel⟩, by decide +kernel⟩
  · exact ⟨(up), ({}), ⟨by decide +kernel, by decide +kernel, by decide +kernel, .inl (by decide +kernel)⟩,
      ⟨by decide +kernel, by decide +kernel⟩⟩
  · exact ⟨(upCw .gpio 15 0 0x40 up), ({ payload := [0, 0x80, 0, 0x80] }), ⟨by decide +kernel, by decide +kernel,
      by decide +kernel, .inl (by decide +kernel)⟩, ⟨by decide +kernel, by decide +kernel⟩, by decide +kernel⟩

theorem witness_ReadingCommands :
    (∃ (s : State) (m : Msg), s.executes 0x0101 m ∧ m.plain (0)) ∧
    (∃ (s : State) (m : Msg), s.executes 0x1001 m ∧ m.plain (4) ∧ rangeArg 128 m = some (127, 1)) ∧
    (∃ (s : State) (m : Msg), s.executes 0x1001 m ∧ m.plain (4) ∧ rangeArg 128 m = none) ∧
    (∃ (s : State) (m : Msg), s.executes 0x1002 m ∧ m.plain (4) ∧ rangeArg 32 m = some (31, 1)) ∧
    (∃ (s : State) (m : Msg), s.executes 0x1003 m ∧ m.plain (0)) ∧
    (∃ (s : State) (m : Msg), s.executes 0x5101 m ∧ m.plain (0)) ∧
    (∃ (s : State) (m : Msg), s.executes 0x5103 m ∧ m.plain (0)) := by
  and_intros
  · exact ⟨(up), ({}), ⟨by decide +kernel, by decide +kernel, by decide +kernel, .inl (by decide +kernel)⟩,
      ⟨by decide +kernel, by decide +kernel⟩⟩
  · exact ⟨(up), ({ payload := [127, 1, 0, 0] }), ⟨by decide +kernel, by decide +kernel, by decide +kernel,
      .inl (by decide +kernel)⟩, ⟨by decide +kernel, by decide +kernel⟩, by decide +kernel⟩
  · exact ⟨(up), ({ payload := [127, 2, 0, 0] }), ⟨by decide +kernel, by decide +kernel, by decide +kernel,
      .inl (by decide +kernel)⟩, ⟨by decide +kernel, by decide +kernel⟩, by decide +kernel⟩
  · exact ⟨(up), ({ payload := [31, 1, 0, 0] }), ⟨by decide +kernel, by decide +kernel, by decide +kernel,
      .inl (by decide +kernel)⟩, ⟨by decide +kernel, by decide +kernel⟩, by decide +kernel⟩
  · exact ⟨(up), ({}), ⟨by decide +kernel, by decide +kernel, by decide +kernel, .inl (by decide +kernel)⟩,
      ⟨by decide +kernel, by decide +kernel⟩⟩
  · exact ⟨(up), ({}), ⟨by decide +kernel, by decide +kernel, by decide +kernel, .inl (by decide +kernel)⟩,
      ⟨by decide +kernel, by decide +kernel⟩⟩
  · exact ⟨({ up with acre.st := .master, acre.members := [{ id := 3 }] }), ({}), ⟨by decide +kernel, by decide +kernel,
      by decide +kernel, .inl (by decide +kernel)⟩, ⟨by decide +kernel, by decide +kernel⟩⟩

theorem witness_DriveCommands :
    (∃ (s : State) (m : Msg), s.executes 0x3001 m ∧ m.plain (4) ∧ rangeArg 32 m = some (31, 1)) ∧
    (∃ (s : State) (m : Msg), s.executes 0x3002 m ∧ m.plain (4) ∧ getB m.payload 0 < 32 ∧ padOk m 1 1 = true) ∧
    (∃ (s : State) (m : Msg), s.executes 0x3003 m ∧ m.plain (8) ∧ getB m.payload 4 < 2 ∧ padOk m 5 3 = true ∧
        (getW m.payload 0).testBit 31 = true ∧ s.act.latched = true) ∧
    (∃ (s : State) (m : Msg), s.executes 0x3003 m ∧ m.plain (8) ∧ getB m.payload 4 < 2 ∧ padOk m 5 3 = true ∧
        getB m.payload 4 = 0) ∧
    (∃ (s : State) (m : Msg), s.executes 0x3101 m ∧ m.plain (4) ∧ rangeArg 16 m = some (15, 1)) ∧
    (∃ (s : State) (m : Msg), s.executes 0x3102 m ∧ m.plain (4) ∧ getB m.payload 0 < 16 ∧ padOk m 1 1 = true) ∧
    (∃ (s : State) (m : Msg), s.executes 0x3103 m ∧ m.plain (4) ∧ padOk m 2 2 = true ∧
        (getH m.payload 0).testBit 15 = true) := by
  and_intros
  · exact ⟨(up), ({ payload := [31, 1, 0, 0] }), ⟨by decide +kernel, by decide +kernel, by decide +kernel,
      .inl (by decide +kernel)⟩, ⟨by decide +kernel, by decide +kernel⟩, by decide +kernel⟩
  · exact ⟨(up), ({ payload := [31, 0, 0xFF, 0xFF] }), ⟨by decide +kernel, by decide +kernel, by decide +kernel,
      .inl (by decide +kernel)⟩, ⟨by decide +kernel, by decide +kernel⟩, by decide +kernel⟩
  · exact ⟨(updPair 15 (fun p => { p with off := true }) (updCh 31 (fun c => { c with shortSup := true, shortGnd := true }) (updCh 0 (fun c => { c with shortSup := true }) { up with act.latched := true, act.fault := true, act.faultRetry := 3 }))),
      ({ payload := le32 0x80000000 ++ [1, 0, 0, 0] }), ⟨by decide +kernel, by decide +kernel, by decide +kernel,
      .inl (by decide +kernel)⟩, ⟨by decide +kernel, by decide +kernel⟩, by decide +kernel⟩
  · exact ⟨({ up with act.latched := true, act.fault := true }), ({ payload := le32 0 ++ [0, 0, 0, 0] }),
      ⟨by decide +kernel, by decide +kernel, by decide +kernel, .inl (by decide +kernel)⟩, ⟨by decide +kernel,
      by decide +kernel⟩, by decide +kernel⟩
  · exact ⟨(up), ({ payload := [15, 1, 0, 0] }), ⟨by decide +kernel, by decide +kernel, by decide +kernel,
      .inl (by decide +kernel)⟩, ⟨by decide +kernel, by decide +kernel⟩, by decide +kernel⟩
  · exact ⟨(up), ({ payload := [15, 0, 0xFF, 0xFF] }), ⟨by decide +kernel, by decide +kernel, by decide +kernel,
      .inl (by decide +kernel)⟩, ⟨by decide +kernel, by decide +kernel⟩, by decide +kernel⟩
  · exact ⟨({ up with fans.ch := List.replicate 16 { blocked := true, tachLost := true } }),
      ({ payload := [0, 0x80, 0, 0] }), ⟨by decide +kernel, by decide +kernel, by decide +kernel,
      .inl (by decide +kernel)⟩, ⟨by decide +kernel, by decide +kernel⟩, by decide +kernel⟩

theorem witness_RecorderAndHealthCommands :
    (∃ (s : State) (m : Msg), s.executes 0x6001 m ∧ m.plain (8) ∧ 1 ≤ getB m.payload 4 ∧ getB m.payload 4 ≤ 63 ∧
        padOk m 5 3 = true ∧ s.nvm.bad = []) ∧
    (∃ (s : State) (m : Msg), s.executes 0x6002 m ∧ m.plain (0)) ∧
    (∃ (s : State) (m : Msg), s.executes 0x6003 m ∧ m.plain (0)) ∧
    (∃ (s : State) (m : Msg), s.executes 0x6004 m ∧ m.plain (44) ∧ getB m.payload 2 < 8 ∧ padOk m 3 1 = true ∧
        s.bushel.closed = false ∧ s.sup.restorePend = false) ∧
    (∃ (s : State) (m : Msg), s.executes 0x7001 m ∧ m.plain (0)) ∧
    (∃ (s : State) (m : Msg), s.executes 0x7002 m ∧ m.plain (0)) ∧
    (∃ (s : State) (m : Msg), s.executes 0x7003 m ∧ m.plain (0)) := by
  and_intros
  · exact ⟨(up), ({ payload := le32 1 ++ [63, 0, 0, 0] }), ⟨by decide +kernel, by decide +kernel, by decide +kernel,
      .inl (by decide +kernel)⟩, ⟨by decide +kernel, by decide +kernel⟩, by decide +kernel⟩
  · exact ⟨(up), ({}), ⟨by decide +kernel, by decide +kernel, by decide +kernel, .inl (by decide +kernel)⟩,
      ⟨by decide +kernel, by decide +kernel⟩⟩
  · exact ⟨(up), ({}), ⟨by decide +kernel, by decide +kernel, by decide +kernel, .inl (by decide +kernel)⟩,
      ⟨by decide +kernel, by decide +kernel⟩⟩
  · exact ⟨({ up with bushel.scanDone := true }), ({ payload := [1, 0, 7, 0] ++ zeros 40 }), ⟨by decide +kernel,
      by decide +kernel, by decide +kernel, .inl (by decide +kernel)⟩, ⟨by decide +kernel, by decide +kernel⟩,
      by decide +kernel⟩
  · exact ⟨(up), ({}), ⟨by decide +kernel, by decide +kernel, by decide +kernel, .inl (by decide +kernel)⟩,
      ⟨by decide +kernel, by decide +kernel⟩⟩
  · exact ⟨(up), ({}), ⟨by decide +kernel, by decide +kernel, by decide +kernel, .inl (by decide +kernel)⟩,
      ⟨by decide +kernel, by decide +kernel⟩⟩
  · exact ⟨(up), ({}), ⟨by decide +kernel, by decide +kernel, by decide +kernel, .inl (by decide +kernel)⟩,
      ⟨by decide +kernel, by decide +kernel⟩⟩

theorem witness_EventQueue :
    (∃ (s : State) (src : Nat), src < 128 ∧ s.evt.mask.getLsbD src = false) ∧
    (∃ (s : State) (src : Nat), src < 128 ∧ s.evt.mask.getLsbD src = true ∧ s.evt.queue.length < 256) ∧
    (∃ (s : State) (src : Nat), src < 128 ∧ s.evt.mask.getLsbD src = true ∧ 256 ≤ s.evt.queue.length) ∧
    (∃ (s : State), s.act.bstOv = true ∧ s.bushel.closed = false ∧ s.bushel.ring.length < 64) ∧
    (∃ (s : State) (e : EvEntry), s.evt.queue = e :: [] ∧ e.source < 128 ∧ e.code < 256 ∧ e.detail < 65536) ∧
    (∃ (s : State), s.evt.queue = []) := by
  refine ⟨?_, ?_, ?_, ?_, ?_, ?_⟩
  · exact ⟨(up), (127), by decide +kernel⟩
  · exact ⟨({ up with evt.mask := BitVec.allOnes 128, evt.queue := List.replicate 255 { source := 1, code := 2, detail := 3, mc := 4 } }),
      (0), by decide +kernel⟩
  · exact ⟨({ up with evt.mask := BitVec.allOnes 128, evt.queue := (List.replicate 256 { source := 1, code := 2, detail := 3, mc := 4 }) }),
      (127), by decide +kernel⟩
  · exact ⟨({ up with act.bstOv := true, evt.mask := BitVec.allOnes 128 }), by decide +kernel⟩
  · exact ⟨({ up with evt.queue := [{ source := 127, code := 255, detail := 65535, mc := 8 }] }),
      ({ source := 127, code := 255, detail := 65535, mc := 8 }), by decide +kernel⟩
  · exact ⟨(up), by decide +kernel⟩

theorem witness_InboundChunks :
    (∃ (s : State) (m : Msg), 8 ≤ m.payload.length ∧ getH m.payload 2 = 0 ∧
        (if m.last = true then 1 ≤ (m.payload.drop 8).length ∧ (m.payload.drop 8).length ≤ 4072 ∧
        4072 * getH m.payload 0 + (m.payload.drop 8).length = getW m.payload 4 else (m.payload.drop 8).length = 4072 ∧
        4072 * getH m.payload 0 + 4072 < getW m.payload 4) ∧ getH m.payload 0 = 0 ∧
        s.mbox.chunkIn.all (fun c => c.cmd == 0x0206) = true ∧ m.last = true) ∧
    (∃ (s : State) (m : Msg), 8 ≤ m.payload.length ∧ getH m.payload 2 = 0 ∧
        (if m.last = true then 1 ≤ (m.payload.drop 8).length ∧ (m.payload.drop 8).length ≤ 4072 ∧
        4072 * getH m.payload 0 + (m.payload.drop 8).length = getW m.payload 4 else (m.payload.drop 8).length = 4072 ∧
        4072 * getH m.payload 0 + 4072 < getW m.payload 4) ∧ getH m.payload 0 = 0 ∧
        s.mbox.chunkIn.all (fun c => c.cmd == 0x0206) = true ∧ m.last = false) ∧
    (∃ (s : State) (m : Msg), 8 ≤ m.payload.length ∧ getH m.payload 2 = 0 ∧
        (if m.last = true then 1 ≤ (m.payload.drop 8).length ∧ (m.payload.drop 8).length ≤ 4072 ∧
        4072 * getH m.payload 0 + (m.payload.drop 8).length = getW m.payload 4 else (m.payload.drop 8).length = 4072 ∧
        4072 * getH m.payload 0 + 4072 < getW m.payload 4) ∧ getH m.payload 0 = 0 ∧
        s.mbox.chunkIn.any (fun c => c.cmd != 0x0206) = true) ∧
    (∃ (s : State) (m : Msg) (c : ChunkIn), 8 ≤ m.payload.length ∧ getH m.payload 2 = 0 ∧
        (if m.last = true then 1 ≤ (m.payload.drop 8).length ∧ (m.payload.drop 8).length ≤ 4072 ∧
        4072 * getH m.payload 0 + (m.payload.drop 8).length = getW m.payload 4 else (m.payload.drop 8).length = 4072 ∧
        4072 * getH m.payload 0 + 4072 < getW m.payload 4) ∧ getH m.payload 0 ≠ 0 ∧ s.mbox.chunkIn = some c ∧
        c.cmd = 0x0206 ∧ getH m.payload 0 = c.next ∧ getW m.payload 4 = c.total ∧ m.last = true) ∧
    (∃ (s : State) (m : Msg) (c : ChunkIn), 8 ≤ m.payload.length ∧ getH m.payload 2 = 0 ∧
        (if m.last = true then 1 ≤ (m.payload.drop 8).length ∧ (m.payload.drop 8).length ≤ 4072 ∧
        4072 * getH m.payload 0 + (m.payload.drop 8).length = getW m.payload 4 else (m.payload.drop 8).length = 4072 ∧
        4072 * getH m.payload 0 + 4072 < getW m.payload 4) ∧ getH m.payload 0 ≠ 0 ∧ s.mbox.chunkIn = some c ∧
        c.cmd = 0x0206 ∧ getH m.payload 0 = c.next ∧ getW m.payload 4 = c.total ∧ m.last = false) ∧
    (∃ (s : State) (m : Msg), ¬ (if m.last = true then 1 ≤ (m.payload.drop 8).length ∧
        (m.payload.drop 8).length ≤ 4072 ∧
        4072 * getH m.payload 0 + (m.payload.drop 8).length = getW m.payload 4 else (m.payload.drop 8).length = 4072 ∧
        4072 * getH m.payload 0 + 4072 < getW m.payload 4) ∧ s.mbox.chunkIn.all (fun c => c.cmd == 0x0206) = true) ∧
    (∃ (s : State) (m : Msg), ¬ (if m.last = true then 1 ≤ (m.payload.drop 8).length ∧
        (m.payload.drop 8).length ≤ 4072 ∧
        4072 * getH m.payload 0 + (m.payload.drop 8).length = getW m.payload 4 else (m.payload.drop 8).length = 4072 ∧
        4072 * getH m.payload 0 + 4072 < getW m.payload 4) ∧ s.mbox.chunkIn.any (fun c => c.cmd != 0x0206) = true) ∧
    (∃ (s : State) (m : Msg), 8 ≤ m.payload.length ∧ getH m.payload 2 = 0 ∧
        (if m.last = true then 1 ≤ (m.payload.drop 8).length ∧ (m.payload.drop 8).length ≤ 4072 ∧
        4072 * getH m.payload 0 + (m.payload.drop 8).length = getW m.payload 4 else (m.payload.drop 8).length = 4072 ∧
        4072 * getH m.payload 0 + 4072 < getW m.payload 4) ∧ getH m.payload 0 ≠ 0 ∧ s.mbox.chunkIn = none ∧
        s.mbox.chunkIn.all (fun c => c.cmd == 0x0206) = true) ∧
    (∃ (s : State) (m : Msg), s.executes 0x4002 m ∧ m.chunk = true ∧ (∃ d, (takeChunk 0x4002 false m s).2 = .whole d ∧
        8 ≤ d.length ∧ s.rectOk (rectAt d 0) = true ∧ (d.drop 8).length = ((rectAt d 0).count + 1) / 2 ∧
        ((rectAt d 0).count % 2 = 1 → getB (d.drop 8) ((rectAt d 0).count / 2) < 16) ∧
        s.stagingLocked (rectAt d 0) = false)) ∧
    (∃ (s : State) (m : Msg), s.executes 0x4002 m ∧ m.chunk = true ∧ (takeChunk 0x4002 false m s).2 = .more) ∧
    (∃ (s : State) (m : Msg), s.executes 0x4002 m ∧ m.chunk = true ∧ (takeChunk 0x4002 false m s).2 = .err 0x0104) := by
  and_intros
  · exact ⟨({ up with mbox.chunkIn := some { cmd := 0x0206 } }),
      ({ chunk := true, last := true, payload := le16 0 ++ zeros 2 ++ le32 3 ++ List.replicate 3 7 }),
      by decide +kernel⟩
  · exact ⟨(up), ({ chunk := true, last := false, payload := le16 0 ++ zeros 2 ++ le32 4073 ++ List.replicate 4072 7 }),
      by decide +kernel⟩
  · exact ⟨({ up with mbox.chunkIn := some { cmd := 0x7101 } }),
      ({ chunk := true, last := true, payload := le16 0 ++ zeros 2 ++ le32 3 ++ List.replicate 3 7 }),
      by decide +kernel⟩
  · exact ⟨({ up with mbox.chunkIn := some { cmd := 0x0206, total := 4073, next := 1, data := List.replicate 4072 1 } }),
      ({ chunk := true, last := true, payload := le16 1 ++ zeros 2 ++ le32 4073 ++ List.replicate 1 7 }),
      ({ cmd := 0x0206, total := 4073, next := 1, data := List.replicate 4072 1 }), by decide +kernel⟩
  · exact ⟨({ up with mbox.chunkIn := some { cmd := 0x0206, total := 8145, next := 1, data := List.replicate 4072 1 } }),
      ({ chunk := true, last := false, payload := le16 1 ++ zeros 2 ++ le32 8145 ++ List.replicate 4072 7 }),
      ({ cmd := 0x0206, total := 8145, next := 1, data := List.replicate 4072 1 }), by decide +kernel⟩
  · exact ⟨({ up with mbox.chunkIn := some { cmd := 0x0206, total := 4073, next := 1, data := List.replicate 4072 1 } }),
      ({ chunk := true, last := true, payload := le16 2 ++ zeros 2 ++ le32 4073 ++ List.replicate 1 7 }),
      by decide +kernel⟩
  · exact ⟨({ up with mbox.chunkIn := some { cmd := 0x7101 } }),
      ({ chunk := true, last := true, payload := le16 0 ++ zeros 2 ++ le32 4074 ++ List.replicate 1 7 }),
      by decide +kernel⟩
  · exact ⟨(up), ({ chunk := true, last := true, payload := le16 1 ++ zeros 2 ++ le32 4073 ++ List.replicate 1 7 }),
      by decide +kernel⟩
  · exact ⟨(pnlUp),
      ({ tag := 9, chunk := true, last := true, payload := le16 0 ++ zeros 2 ++ le32 10 ++ (le16 397 ++ le16 299 ++ le16 399 ++ le16 299 ++ [0x21, 0x0F]) }),
      ⟨by decide +kernel, by decide +kernel, by decide +kernel, .inl (by decide +kernel)⟩, by decide +kernel,
      ⟨({ tag := 9, chunk := true, last := true, payload := le16 0 ++ zeros 2 ++ le32 10 ++ (le16 397 ++ le16 299 ++ le16 399 ++ le16 299 ++ [0x21, 0x0F]) } : Msg).payload.drop 8,
      by decide +kernel⟩⟩
  · exact ⟨(pnlUp), ({ tag := 9, chunk := true, payload := le16 0 ++ zeros 2 ++ le32 4073 ++ List.replicate 4072 0 }),
      ⟨by decide +kernel, by decide +kernel, by decide +kernel, .inl (by decide +kernel)⟩, by decide +kernel,
      by decide +kernel⟩
  · exact ⟨(pnlUp),
      ({ tag := 9, chunk := true, last := true, payload := le16 0 ++ zeros 2 ++ le32 11 ++ (le16 397 ++ le16 299 ++ le16 399 ++ le16 299 ++ [0x21, 0x0F]) }),
      ⟨by decide +kernel, by decide +kernel, by decide +kernel, .inl (by decide +kernel)⟩, by decide +kernel,
      by decide +kernel⟩

theorem witness_SensingAndLoopSets :
    (∃ (s : State) (m : Msg), s.executes 0x1004 m ∧ m.plain (4 + 4 * Sec.words .ain) ∧
        commitFail s (withOutHold s (s.cfg.committed.setWords .ain (95 * Sec.words .ain) (getWords m.payload 4 (Sec.words .ain)))) =
        none ∧
        imgFind (s.lockBad (withOutHold s (s.cfg.committed.setWords .ain (95 * Sec.words .ain) (getWords m.payload 4 (Sec.words .ain))))) =
        none ∧ padOk m 1 3 = true ∧ getB m.payload 0 = 0 + 95 ∧ 95 < Sec.instances .ain ∧ s.cfg.edit = none ∧
        s.mgt.otp.signedCfg = false ∧ s.thermalBars = false ∧ s.bushel.closed = false) ∧
    (∃ (s : State) (m : Msg), s.executes 0x1005 m ∧ m.plain (4 + 4 * Sec.words .mod) ∧
        commitFail s (withOutHold s (s.cfg.committed.setWords .mod (19 * Sec.words .mod) (getWords m.payload 4 (Sec.words .mod)))) =
        none ∧
        imgFind (s.lockBad (withOutHold s (s.cfg.committed.setWords .mod (19 * Sec.words .mod) (getWords m.payload 4 (Sec.words .mod))))) =
        none ∧ padOk m 1 3 = true ∧ getB m.payload 0 = 0 + 19 ∧ 19 < Sec.instances .mod ∧ s.cfg.edit = none ∧
        s.mgt.otp.signedCfg = false ∧ s.thermalBars = false ∧ s.bushel.closed = false) ∧
    (∃ (s : State) (m : Msg), s.executes 0x1006 m ∧ m.plain (4 + 4 * Sec.words .pres) ∧
        commitFail s (withOutHold s (s.cfg.committed.setWords .pres (31 * Sec.words .pres) (getWords m.payload 4 (Sec.words .pres)))) =
        none ∧
        imgFind (s.lockBad (withOutHold s (s.cfg.committed.setWords .pres (31 * Sec.words .pres) (getWords m.payload 4 (Sec.words .pres))))) =
        none ∧ padOk m 1 3 = true ∧ getB m.payload 0 = 0 + 31 ∧ 31 < Sec.instances .pres ∧ s.cfg.edit = none ∧
        s.mgt.otp.signedCfg = false ∧ s.thermalBars = false ∧ s.bushel.closed = false) ∧
    (∃ (s : State) (m : Msg), s.executes 0x1007 m ∧ m.plain (4 + 4 * Sec.words .hkLim) ∧
        commitFail s (withOutHold s (s.cfg.committed.setWords .hkLim (11 * Sec.words .hkLim) (getWords m.payload 4 (Sec.words .hkLim)))) =
        none ∧
        imgFind (s.lockBad (withOutHold s (s.cfg.committed.setWords .hkLim (11 * Sec.words .hkLim) (getWords m.payload 4 (Sec.words .hkLim))))) =
        none ∧ padOk m 1 3 = true ∧ getB m.payload 0 = 1 + 11 ∧ 11 < Sec.instances .hkLim ∧ s.cfg.edit = none ∧
        s.mgt.otp.signedCfg = false ∧ s.thermalBars = false ∧ s.bushel.closed = false) ∧
    (∃ (s : State) (m : Msg), s.executes 0x2006 m ∧ m.plain (4 + 4 * Sec.words .prof) ∧
        commitFail s (withOutHold s (s.cfg.committed.setWords .prof (126 * Sec.words .prof) (getWords m.payload 4 (Sec.words .prof)))) =
        none ∧
        imgFind (s.lockBad (withOutHold s (s.cfg.committed.setWords .prof (126 * Sec.words .prof) (getWords m.payload 4 (Sec.words .prof))))) =
        none ∧ padOk m 1 3 = true ∧ getB m.payload 0 = 1 + 126 ∧ 126 < Sec.instances .prof ∧ s.cfg.edit = none ∧
        s.mgt.otp.signedCfg = false ∧ s.thermalBars = false ∧ s.bushel.closed = false) ∧
    (∃ (s : State) (m : Msg), s.executes 0x000A m ∧ m.plain (4 * (Sec.instances .gpio * Sec.words .gpio)) ∧
        commitFail s (withOutHold s (s.cfg.committed.setWords .gpio 0 (getWords m.payload 0 (Sec.instances .gpio * Sec.words .gpio)))) =
        none ∧
        imgFind (s.lockBad (withOutHold s (s.cfg.committed.setWords .gpio 0 (getWords m.payload 0 (Sec.instances .gpio * Sec.words .gpio))))) =
        none ∧ s.cfg.edit = none ∧ s.mgt.otp.signedCfg = false ∧ s.thermalBars = false ∧ s.bushel.closed = false) ∧
    (∃ (s : State) (m : Msg), s.executes 0x1107 m ∧ m.plain (4 * (Sec.instances .stone * Sec.words .stone)) ∧
        commitFail s (withOutHold s (s.cfg.committed.setWords .stone 0 (getWords m.payload 0 (Sec.instances .stone * Sec.words .stone)))) =
        none ∧
        imgFind (s.lockBad (withOutHold s (s.cfg.committed.setWords .stone 0 (getWords m.payload 0 (Sec.instances .stone * Sec.words .stone))))) =
        none ∧ s.cfg.edit = none ∧ s.mgt.otp.signedCfg = false ∧ s.thermalBars = false ∧ s.bushel.closed = false) ∧
    (∃ (s : State) (m : Msg), s.executes 0x2003 m ∧ m.plain (52) ∧
        commitFail s (withOutHold s (s.cfg.committed.setWords .loop ((127 - 1) * 12) (getWords m.payload 4 12))) =
        none ∧
        imgFind (s.lockBad (withOutHold s (s.cfg.committed.setWords .loop ((127 - 1) * 12) (getWords m.payload 4 12)))) =
        none ∧ padOk m 1 3 = true ∧ loopOk (getB m.payload 0) = true ∧ (s.loop 127).dyn.st ≠ .closed ∧
        fld (nth (getWords m.payload 4 12) 3) 15 0 ≠ s.outHold 127 ∧ s.cfg.edit = none ∧ s.mgt.otp.signedCfg = false ∧
        s.thermalBars = false ∧ s.bushel.closed = false) ∧
    (∃ (s : State) (m : Msg), s.executes 0x2003 m ∧ m.plain (52) ∧
        commitFail s (withOutHold s (s.cfg.committed.setWords .loop ((127 - 1) * 12) (getWords m.payload 4 12))) =
        none ∧
        imgFind (s.lockBad (withOutHold s (s.cfg.committed.setWords .loop ((127 - 1) * 12) (getWords m.payload 4 12)))) =
        none ∧ padOk m 1 3 = true ∧ fld (nth (getWords m.payload 4 12) 3) 15 0 = s.outHold 127 ∧ s.cfg.edit = none ∧
        s.mgt.otp.signedCfg = false ∧ s.thermalBars = false ∧ s.bushel.closed = false) ∧
    (∃ (s : State) (m : Msg), s.executes 0x2003 m ∧ m.plain (52) ∧
        commitFail s (withOutHold s (s.cfg.committed.setWords .loop ((127 - 1) * 12) (getWords m.payload 4 12))) =
        none ∧
        imgFind (s.lockBad (withOutHold s (s.cfg.committed.setWords .loop ((127 - 1) * 12) (getWords m.payload 4 12)))) =
        none ∧ padOk m 1 3 = true ∧ loopOk (getB m.payload 0) = true ∧
        fld (nth (getWords m.payload 4 12) 3) 15 0 ≠ s.outHold 127 ∧ (s.loop 127).dyn.st = .closed) := by
  and_intros
  · exact ⟨(up), ({ payload := [95, 0, 0, 0] ++ wordsBytes (Image.reset.inst .ain 95) }), ⟨by decide +kernel,
      by decide +kernel, by decide +kernel, .inl (by decide +kernel)⟩, ⟨by decide +kernel, by decide +kernel⟩,
      (reset_ready up rfl rfl _ (setSpan_ready up .ain (95 * Sec.words .ain) (Sec.words .ain) [95, 0, 0, 0] rfl rfl (by decide))).1,
      (reset_ready up rfl rfl _ (setSpan_ready up .ain (95 * Sec.words .ain) (Sec.words .ain) [95, 0, 0, 0] rfl rfl (by decide))).2,
      by and_intros <;> decide +kernel⟩
  · exact ⟨(up), ({ payload := [19, 0, 0, 0] ++ wordsBytes (Image.reset.inst .mod 19) }), ⟨by decide +kernel,
      by decide +kernel, by decide +kernel, .inl (by decide +kernel)⟩, ⟨by decide +kernel, by decide +kernel⟩,
      (reset_ready up rfl rfl _ (setSpan_ready up .mod (19 * Sec.words .mod) (Sec.words .mod) [19, 0, 0, 0] rfl rfl (by decide))).1,
      (reset_ready up rfl rfl _ (setSpan_ready up .mod (19 * Sec.words .mod) (Sec.words .mod) [19, 0, 0, 0] rfl rfl (by decide))).2,
      by and_intros <;> decide +kernel⟩
  · exact ⟨(up), ({ payload := [31, 0, 0, 0] ++ wordsBytes (Image.reset.inst .pres 31) }), ⟨by decide +kernel,
      by decide +kernel, by decide +kernel, .inl (by decide +kernel)⟩, ⟨by decide +kernel, by decide +kernel⟩,
      (reset_ready up rfl rfl _ (setSpan_ready up .pres (31 * Sec.words .pres) (Sec.words .pres) [31, 0, 0, 0] rfl rfl (by decide))).1,
      (reset_ready up rfl rfl _ (setSpan_ready up .pres (31 * Sec.words .pres) (Sec.words .pres) [31, 0, 0, 0] rfl rfl (by decide))).2,
      by and_intros <;> decide +kernel⟩
  · exact ⟨(up), ({ payload := [12, 0, 0, 0] ++ wordsBytes (Image.reset.inst .hkLim 11) }), ⟨by decide +kernel,
      by decide +kernel, by decide +kernel, .inl (by decide +kernel)⟩, ⟨by decide +kernel, by decide +kernel⟩,
      (reset_ready up rfl rfl _ (setSpan_ready up .hkLim (11 * Sec.words .hkLim) (Sec.words .hkLim) [12, 0, 0, 0] rfl rfl (by decide))).1,
      (reset_ready up rfl rfl _ (setSpan_ready up .hkLim (11 * Sec.words .hkLim) (Sec.words .hkLim) [12, 0, 0, 0] rfl rfl (by decide))).2,
      by and_intros <;> decide +kernel⟩
  · exact ⟨(up), ({ payload := [127, 0, 0, 0] ++ wordsBytes (Image.reset.inst .prof 126) }), ⟨by decide +kernel,
      by decide +kernel, by decide +kernel, .inl (by decide +kernel)⟩, ⟨by decide +kernel, by decide +kernel⟩,
      (reset_ready up rfl rfl _ (setSpan_ready up .prof (126 * Sec.words .prof) (Sec.words .prof) [127, 0, 0, 0] rfl rfl (by decide))).1,
      (reset_ready up rfl rfl _ (setSpan_ready up .prof (126 * Sec.words .prof) (Sec.words .prof) [127, 0, 0, 0] rfl rfl (by decide))).2,
      by and_intros <;> decide +kernel⟩
  · exact ⟨(up),
      ({ payload := wordsBytes (((Image.reset.sec .gpio).drop 0).take (Sec.instances .gpio * Sec.words .gpio)) }),
      ⟨by decide +kernel, by decide +kernel, by decide +kernel, .inl (by decide +kernel)⟩, ⟨by decide +kernel,
      by decide +kernel⟩,
      (reset_ready up rfl rfl _ (setSpan_ready up .gpio 0 (Sec.instances .gpio * Sec.words .gpio) [] rfl rfl (by decide))).1,
      (reset_ready up rfl rfl _ (setSpan_ready up .gpio 0 (Sec.instances .gpio * Sec.words .gpio) [] rfl rfl (by decide))).2,
      by and_intros <;> decide +kernel⟩
  · exact ⟨(up),
      ({ payload := wordsBytes (((Image.reset.sec .stone).drop 0).take (Sec.instances .stone * Sec.words .stone)) }),
      ⟨by decide +kernel, by decide +kernel, by decide +kernel, .inl (by decide +kernel)⟩, ⟨by decide +kernel,
      by decide +kernel⟩,
      (reset_ready up rfl rfl _ (setSpan_ready up .stone 0 (Sec.instances .stone * Sec.words .stone) [] rfl rfl (by decide))).1,
      (reset_ready up rfl rfl _ (setSpan_ready up .stone 0 (Sec.instances .stone * Sec.words .stone) [] rfl rfl (by decide))).2,
      by and_intros <;> decide +kernel⟩
  · exact ⟨(up), ({ payload := [127, 0, 0, 0] ++ wordsBytes ((Image.reset.inst .loop 126).set 3 5) }),
      ⟨by decide +kernel, by decide +kernel, by decide +kernel, .inl (by decide +kernel)⟩, ⟨by decide +kernel,
      by decide +kernel⟩,
      (reset_ready up rfl rfl _ (setLoop_ready up 126 5 [127, 0, 0, 0] rfl rfl (by decide) (by decide +kernel))).1,
      (reset_ready up rfl rfl _ (setLoop_ready up 126 5 [127, 0, 0, 0] rfl rfl (by decide) (by decide +kernel))).2,
      by and_intros <;> decide +kernel⟩
  · exact ⟨(updDyn 127 (fun d => { d with st := .closed }) up),
      ({ payload := [127, 0, 0, 0] ++ wordsBytes ((Image.reset.inst .loop 126).set 3 0) }), ⟨by decide +kernel,
      by decide +kernel, by decide +kernel, .inl (by decide +kernel)⟩, ⟨by decide +kernel, by decide +kernel⟩,
      (reset_ready (updDyn 127 (fun d => { d with st := .closed }) up) rfl rfl _ (setLoop_ready (updDyn 127 (fun d => { d with st := .closed }) up) 126 0 [127, 0, 0, 0] rfl rfl (by decide) (by decide +kernel))).1,
      (reset_ready (updDyn 127 (fun d => { d with st := .closed }) up) rfl rfl _ (setLoop_ready (updDyn 127 (fun d => { d with st := .closed }) up) 126 0 [127, 0, 0, 0] rfl rfl (by decide) (by decide +kernel))).2,
      by and_intros <;> decide +kernel⟩
  · exact ⟨(updDyn 127 (fun d => { d with st := .closed }) up),
      ({ payload := [127, 0, 0, 0] ++ wordsBytes ((Image.reset.inst .loop 126).set 3 5) }), ⟨by decide +kernel,
      by decide +kernel, by decide +kernel, .inl (by decide +kernel)⟩, ⟨by decide +kernel, by decide +kernel⟩,
      (reset_ready (updDyn 127 (fun d => { d with st := .closed }) up) rfl rfl _ (setLoop_ready (updDyn 127 (fun d => { d with st := .closed }) up) 126 5 [127, 0, 0, 0] rfl rfl (by decide) (by decide +kernel))).1,
      (reset_ready (updDyn 127 (fun d => { d with st := .closed }) up) rfl rfl _ (setLoop_ready (updDyn 127 (fun d => { d with st := .closed }) up) 126 5 [127, 0, 0, 0] rfl rfl (by decide) (by decide +kernel))).2,
      by and_intros <;> decide +kernel⟩

theorem witness_OtherSets :
    (∃ (s : State) (m : Msg), s.executes 0x2103 m ∧ m.plain (4 + 4 * Sec.words .zone) ∧
        commitFail s (withOutHold s (s.cfg.committed.setWords .zone (31 * Sec.words .zone) (getWords m.payload 4 (Sec.words .zone)))) =
        none ∧
        imgFind (s.lockBad (withOutHold s (s.cfg.committed.setWords .zone (31 * Sec.words .zone) (getWords m.payload 4 (Sec.words .zone))))) =
        none ∧ padOk m 1 3 = true ∧ getB m.payload 0 = 0 + 31 ∧ 31 < Sec.instances .zone ∧ s.cfg.edit = none ∧
        s.mgt.otp.signedCfg = false ∧ s.thermalBars = false ∧ s.bushel.closed = false) ∧
    (∃ (s : State) (m : Msg), s.executes 0x2107 m ∧ m.plain (4 + 4 * Sec.words .sched) ∧
        commitFail s (withOutHold s (s.cfg.committed.setWords .sched (15 * Sec.words .sched) (getWords m.payload 4 (Sec.words .sched)))) =
        none ∧
        imgFind (s.lockBad (withOutHold s (s.cfg.committed.setWords .sched (15 * Sec.words .sched) (getWords m.payload 4 (Sec.words .sched))))) =
        none ∧ padOk m 1 3 = true ∧ getB m.payload 0 = 0 + 15 ∧ 15 < Sec.instances .sched ∧ s.cfg.edit = none ∧
        s.mgt.otp.signedCfg = false ∧ s.thermalBars = false ∧ s.bushel.closed = false) ∧
    (∃ (s : State) (m : Msg), s.executes 0x2206 m ∧ m.plain (4 + 4 * Sec.words .sol) ∧
        commitFail s (withOutHold s (s.cfg.committed.setWords .sol (63 * Sec.words .sol) (getWords m.payload 4 (Sec.words .sol)))) =
        none ∧
        imgFind (s.lockBad (withOutHold s (s.cfg.committed.setWords .sol (63 * Sec.words .sol) (getWords m.payload 4 (Sec.words .sol))))) =
        none ∧ padOk m 1 3 = true ∧ getB m.payload 0 = 0 + 63 ∧ 63 < Sec.instances .sol ∧ s.cfg.edit = none ∧
        s.mgt.otp.signedCfg = false ∧ s.thermalBars = false ∧ s.bushel.closed = false) ∧
    (∃ (s : State) (m : Msg), s.executes 0x3004 m ∧ m.plain (4 + 4 * Sec.words .act) ∧
        commitFail s (withOutHold s (s.cfg.committed.setWords .act (31 * Sec.words .act) (getWords m.payload 4 (Sec.words .act)))) =
        none ∧
        imgFind (s.lockBad (withOutHold s (s.cfg.committed.setWords .act (31 * Sec.words .act) (getWords m.payload 4 (Sec.words .act))))) =
        none ∧ padOk m 1 3 = true ∧ getB m.payload 0 = 0 + 31 ∧ 31 < Sec.instances .act ∧ s.cfg.edit = none ∧
        s.mgt.otp.signedCfg = false ∧ s.thermalBars = false ∧ s.bushel.closed = false) ∧
    (∃ (s : State) (m : Msg), s.executes 0x3104 m ∧ m.plain (4 + 4 * Sec.words .fan) ∧
        commitFail s (withOutHold s (s.cfg.committed.setWords .fan (15 * Sec.words .fan) (getWords m.payload 4 (Sec.words .fan)))) =
        none ∧
        imgFind (s.lockBad (withOutHold s (s.cfg.committed.setWords .fan (15 * Sec.words .fan) (getWords m.payload 4 (Sec.words .fan))))) =
        none ∧ padOk m 1 3 = true ∧ getB m.payload 0 = 0 + 15 ∧ 15 < Sec.instances .fan ∧ s.cfg.edit = none ∧
        s.mgt.otp.signedCfg = false ∧ s.thermalBars = false ∧ s.bushel.closed = false) ∧
    (∃ (s : State) (m : Msg), s.executes 0x6005 m ∧ m.plain (4 + 4 * Sec.words .snap) ∧
        commitFail s (withOutHold s (s.cfg.committed.setWords .snap (15 * Sec.words .snap) (getWords m.payload 4 (Sec.words .snap)))) =
        none ∧
        imgFind (s.lockBad (withOutHold s (s.cfg.committed.setWords .snap (15 * Sec.words .snap) (getWords m.payload 4 (Sec.words .snap))))) =
        none ∧ padOk m 1 3 = true ∧ getB m.payload 0 = 0 + 15 ∧ 15 < Sec.instances .snap ∧ s.cfg.edit = none ∧
        s.mgt.otp.signedCfg = false ∧ s.thermalBars = false ∧ s.bushel.closed = false) ∧
    (∃ (s : State) (m : Msg), s.executes 0x2108 m ∧ m.plain (4 * (Sec.instances .time * Sec.words .time)) ∧
        commitFail s (withOutHold s (s.cfg.committed.setWords .time 0 (getWords m.payload 0 (Sec.instances .time * Sec.words .time)))) =
        none ∧
        imgFind (s.lockBad (withOutHold s (s.cfg.committed.setWords .time 0 (getWords m.payload 0 (Sec.instances .time * Sec.words .time))))) =
        none ∧ s.cfg.edit = none ∧ s.mgt.otp.signedCfg = false ∧ s.thermalBars = false ∧ s.bushel.closed = false) ∧
    (∃ (s : State) (m : Msg), s.executes 0x3005 m ∧ m.plain (4 * (Sec.instances .actDev * Sec.words .actDev)) ∧
        commitFail s (withOutHold s (s.cfg.committed.setWords .actDev 0 (getWords m.payload 0 (Sec.instances .actDev * Sec.words .actDev)))) =
        none ∧
        imgFind (s.lockBad (withOutHold s (s.cfg.committed.setWords .actDev 0 (getWords m.payload 0 (Sec.instances .actDev * Sec.words .actDev))))) =
        none ∧ s.cfg.edit = none ∧ s.mgt.otp.signedCfg = false ∧ s.thermalBars = false ∧ s.bushel.closed = false) ∧
    (∃ (s : State) (m : Msg), s.executes 0x3105 m ∧ m.plain (4 * (Sec.instances .fanDev * Sec.words .fanDev)) ∧
        commitFail s (withOutHold s (s.cfg.committed.setWords .fanDev 0 (getWords m.payload 0 (Sec.instances .fanDev * Sec.words .fanDev)))) =
        none ∧
        imgFind (s.lockBad (withOutHold s (s.cfg.committed.setWords .fanDev 0 (getWords m.payload 0 (Sec.instances .fanDev * Sec.words .fanDev))))) =
        none ∧ s.cfg.edit = none ∧ s.mgt.otp.signedCfg = false ∧ s.thermalBars = false ∧ s.bushel.closed = false) ∧
    (∃ (s : State) (m : Msg), s.executes 0x5003 m ∧ m.plain (4 * (Sec.instances .bus * Sec.words .bus)) ∧
        commitFail s (withOutHold s (s.cfg.committed.setWords .bus 0 (getWords m.payload 0 (Sec.instances .bus * Sec.words .bus)))) =
        none ∧
        imgFind (s.lockBad (withOutHold s (s.cfg.committed.setWords .bus 0 (getWords m.payload 0 (Sec.instances .bus * Sec.words .bus))))) =
        none ∧ s.cfg.edit = none ∧ s.mgt.otp.signedCfg = false ∧ s.thermalBars = false ∧ s.bushel.closed = false) ∧
    (∃ (s : State) (m : Msg), s.executes 0x5102 m ∧ m.plain (4 * (Sec.instances .chain * Sec.words .chain)) ∧
        commitFail s (withOutHold s (s.cfg.committed.setWords .chain 0 (getWords m.payload 0 (Sec.instances .chain * Sec.words .chain)))) =
        none ∧
        imgFind (s.lockBad (withOutHold s (s.cfg.committed.setWords .chain 0 (getWords m.payload 0 (Sec.instances .chain * Sec.words .chain))))) =
        none ∧ s.cfg.edit = none ∧ s.mgt.otp.signedCfg = false ∧ s.thermalBars = false ∧ s.bushel.closed = false) ∧
    (∃ (s : State) (m : Msg), s.executes 0x4008 m ∧ m.plain (4 * 4) ∧
        commitFail s (withOutHold s (s.cfg.committed.setWords .panel 0 (getWords m.payload 0 4))) = none ∧
        imgFind (s.lockBad (withOutHold s (s.cfg.committed.setWords .panel 0 (getWords m.payload 0 4)))) = none ∧
        s.cfg.edit = none ∧ s.mgt.otp.signedCfg = false ∧ s.thermalBars = false ∧ s.bushel.closed = false) ∧
    (∃ (s : State) (m : Msg), s.executes 0x4103 m ∧ m.plain (4 * 1) ∧
        commitFail s (withOutHold s (s.cfg.committed.setWords .panel 4 (getWords m.payload 0 1))) = none ∧
        imgFind (s.lockBad (withOutHold s (s.cfg.committed.setWords .panel 4 (getWords m.payload 0 1)))) = none ∧
        s.cfg.edit = none ∧ s.mgt.otp.signedCfg = false ∧ s.thermalBars = false ∧ s.bushel.closed = false) := by
  and_intros
  · exact ⟨(up), ({ payload := [31, 0, 0, 0] ++ wordsBytes (Image.reset.inst .zone 31) }), ⟨by decide +kernel,
      by decide +kernel, by decide +kernel, .inl (by decide +kernel)⟩, ⟨by decide +kernel, by decide +kernel⟩,
      (reset_ready up rfl rfl _ (setSpan_ready up .zone (31 * Sec.words .zone) (Sec.words .zone) [31, 0, 0, 0] rfl rfl (by decide))).1,
      (reset_ready up rfl rfl _ (setSpan_ready up .zone (31 * Sec.words .zone) (Sec.words .zone) [31, 0, 0, 0] rfl rfl (by decide))).2,
      by and_intros <;> decide +kernel⟩
  · exact ⟨(up), ({ payload := [15, 0, 0, 0] ++ wordsBytes (Image.reset.inst .sched 15) }), ⟨by decide +kernel,
      by decide +kernel, by decide +kernel, .inl (by decide +kernel)⟩, ⟨by decide +kernel, by decide +kernel⟩,
      (reset_ready up rfl rfl _ (setSpan_ready up .sched (15 * Sec.words .sched) (Sec.words .sched) [15, 0, 0, 0] rfl rfl (by decide))).1,
      (reset_ready up rfl rfl _ (setSpan_ready up .sched (15 * Sec.words .sched) (Sec.words .sched) [15, 0, 0, 0] rfl rfl (by decide))).2,
      by and_intros <;> decide +kernel⟩
  · exact ⟨(up), ({ payload := [63, 0, 0, 0] ++ wordsBytes (Image.reset.inst .sol 63) }), ⟨by decide +kernel,
      by decide +kernel, by decide +kernel, .inl (by decide +kernel)⟩, ⟨by decide +kernel, by decide +kernel⟩,
      (reset_ready up rfl rfl _ (setSpan_ready up .sol (63 * Sec.words .sol) (Sec.words .sol) [63, 0, 0, 0] rfl rfl (by decide))).1,
      (reset_ready up rfl rfl _ (setSpan_ready up .sol (63 * Sec.words .sol) (Sec.words .sol) [63, 0, 0, 0] rfl rfl (by decide))).2,
      by and_intros <;> decide +kernel⟩
  · exact ⟨(up), ({ payload := [31, 0, 0, 0] ++ wordsBytes (Image.reset.inst .act 31) }), ⟨by decide +kernel,
      by decide +kernel, by decide +kernel, .inl (by decide +kernel)⟩, ⟨by decide +kernel, by decide +kernel⟩,
      (reset_ready up rfl rfl _ (setSpan_ready up .act (31 * Sec.words .act) (Sec.words .act) [31, 0, 0, 0] rfl rfl (by decide))).1,
      (reset_ready up rfl rfl _ (setSpan_ready up .act (31 * Sec.words .act) (Sec.words .act) [31, 0, 0, 0] rfl rfl (by decide))).2,
      by and_intros <;> decide +kernel⟩
  · exact ⟨(up), ({ payload := [15, 0, 0, 0] ++ wordsBytes (Image.reset.inst .fan 15) }), ⟨by decide +kernel,
      by decide +kernel, by decide +kernel, .inl (by decide +kernel)⟩, ⟨by decide +kernel, by decide +kernel⟩,
      (reset_ready up rfl rfl _ (setSpan_ready up .fan (15 * Sec.words .fan) (Sec.words .fan) [15, 0, 0, 0] rfl rfl (by decide))).1,
      (reset_ready up rfl rfl _ (setSpan_ready up .fan (15 * Sec.words .fan) (Sec.words .fan) [15, 0, 0, 0] rfl rfl (by decide))).2,
      by and_intros <;> decide +kernel⟩
  · exact ⟨(up), ({ payload := [15, 0, 0, 0] ++ wordsBytes (Image.reset.inst .snap 15) }), ⟨by decide +kernel,
      by decide +kernel, by decide +kernel, .inl (by decide +kernel)⟩, ⟨by decide +kernel, by decide +kernel⟩,
      (reset_ready up rfl rfl _ (setSpan_ready up .snap (15 * Sec.words .snap) (Sec.words .snap) [15, 0, 0, 0] rfl rfl (by decide))).1,
      (reset_ready up rfl rfl _ (setSpan_ready up .snap (15 * Sec.words .snap) (Sec.words .snap) [15, 0, 0, 0] rfl rfl (by decide))).2,
      by and_intros <;> decide +kernel⟩
  · exact ⟨(up),
      ({ payload := wordsBytes (((Image.reset.sec .time).drop 0).take (Sec.instances .time * Sec.words .time)) }),
      ⟨by decide +kernel, by decide +kernel, by decide +kernel, .inl (by decide +kernel)⟩, ⟨by decide +kernel,
      by decide +kernel⟩,
      (reset_ready up rfl rfl _ (setSpan_ready up .time 0 (Sec.instances .time * Sec.words .time) [] rfl rfl (by decide))).1,
      (reset_ready up rfl rfl _ (setSpan_ready up .time 0 (Sec.instances .time * Sec.words .time) [] rfl rfl (by decide))).2,
      by and_intros <;> decide +kernel⟩
  · exact ⟨(up),
      ({ payload := wordsBytes (((Image.reset.sec .actDev).drop 0).take (Sec.instances .actDev * Sec.words .actDev)) }),
      ⟨by decide +kernel, by decide +kernel, by decide +kernel, .inl (by decide +kernel)⟩, ⟨by decide +kernel,
      by decide +kernel⟩,
      (reset_ready up rfl rfl _ (setSpan_ready up .actDev 0 (Sec.instances .actDev * Sec.words .actDev) [] rfl rfl (by decide))).1,
      (reset_ready up rfl rfl _ (setSpan_ready up .actDev 0 (Sec.instances .actDev * Sec.words .actDev) [] rfl rfl (by decide))).2,
      by and_intros <;> decide +kernel⟩
  · exact ⟨(up),
      ({ payload := wordsBytes (((Image.reset.sec .fanDev).drop 0).take (Sec.instances .fanDev * Sec.words .fanDev)) }),
      ⟨by decide +kernel, by decide +kernel, by decide +kernel, .inl (by decide +kernel)⟩, ⟨by decide +kernel,
      by decide +kernel⟩,
      (reset_ready up rfl rfl _ (setSpan_ready up .fanDev 0 (Sec.instances .fanDev * Sec.words .fanDev) [] rfl rfl (by decide))).1,
      (reset_ready up rfl rfl _ (setSpan_ready up .fanDev 0 (Sec.instances .fanDev * Sec.words .fanDev) [] rfl rfl (by decide))).2,
      by and_intros <;> decide +kernel⟩
  · exact ⟨(up),
      ({ payload := wordsBytes (((Image.reset.sec .bus).drop 0).take (Sec.instances .bus * Sec.words .bus)) }),
      ⟨by decide +kernel, by decide +kernel, by decide +kernel, .inl (by decide +kernel)⟩, ⟨by decide +kernel,
      by decide +kernel⟩,
      (reset_ready up rfl rfl _ (setSpan_ready up .bus 0 (Sec.instances .bus * Sec.words .bus) [] rfl rfl (by decide))).1,
      (reset_ready up rfl rfl _ (setSpan_ready up .bus 0 (Sec.instances .bus * Sec.words .bus) [] rfl rfl (by decide))).2,
      by and_intros <;> decide +kernel⟩
  · exact ⟨(up),
      ({ payload := wordsBytes (((Image.reset.sec .chain).drop 0).take (Sec.instances .chain * Sec.words .chain)) }),
      ⟨by decide +kernel, by decide +kernel, by decide +kernel, .inl (by decide +kernel)⟩, ⟨by decide +kernel,
      by decide +kernel⟩,
      (reset_ready up rfl rfl _ (setSpan_ready up .chain 0 (Sec.instances .chain * Sec.words .chain) [] rfl rfl (by decide))).1,
      (reset_ready up rfl rfl _ (setSpan_ready up .chain 0 (Sec.instances .chain * Sec.words .chain) [] rfl rfl (by decide))).2,
      by and_intros <;> decide +kernel⟩
  · exact ⟨(up), ({ payload := wordsBytes (((Image.reset.sec .panel).drop 0).take 4) }), ⟨by decide +kernel,
      by decide +kernel, by decide +kernel, .inl (by decide +kernel)⟩, ⟨by decide +kernel, by decide +kernel⟩,
      (reset_ready up rfl rfl _ (setSpan_ready up .panel 0 4 [] rfl rfl (by decide))).1,
      (reset_ready up rfl rfl _ (setSpan_ready up .panel 0 4 [] rfl rfl (by decide))).2,
      by and_intros <;> decide +kernel⟩
  · exact ⟨(up), ({ payload := wordsBytes (((Image.reset.sec .panel).drop 4).take 1) }), ⟨by decide +kernel,
      by decide +kernel, by decide +kernel, .inl (by decide +kernel)⟩, ⟨by decide +kernel, by decide +kernel⟩,
      (reset_ready up rfl rfl _ (setSpan_ready up .panel 4 1 [] rfl rfl (by decide))).1,
      (reset_ready up rfl rfl _ (setSpan_ready up .panel 4 1 [] rfl rfl (by decide))).2,
      by and_intros <;> decide +kernel⟩

theorem witness_CommitRefused :
    (∃ (s : State) (m : Msg), s.executes 0x3004 m ∧ m.plain (28) ∧ padOk m 1 3 = true ∧ getB m.payload 0 = 31 ∧
        s.mgt.otp.signedCfg = true) ∧
    (∃ (s : State) (m : Msg) (l : Locator), s.executes 0x3004 m ∧ m.plain (28) ∧
        commitFail s (withOutHold s (s.cfg.committed.setWords .act (31 * 6) (getWords m.payload 4 6))) = some l ∧
        padOk m 1 3 = true ∧ getB m.payload 0 = 31 ∧ s.mgt.otp.signedCfg = false) ∧
    (∃ (s : State) (m : Msg), s.executes 0x3004 m ∧ m.plain (28) ∧
        commitFail s (withOutHold s (s.cfg.committed.setWords .act (31 * 6) (getWords m.payload 4 6))) = none ∧
        padOk m 1 3 = true ∧ getB m.payload 0 = 31 ∧ s.mgt.otp.signedCfg = false ∧ s.cfg.edit ≠ none) ∧
    (∃ (s : State) (m : Msg), s.executes 0x3004 m ∧ m.plain (28) ∧
        commitFail s (withOutHold s (s.cfg.committed.setWords .act (31 * 6) (getWords m.payload 4 6))) = none ∧
        imgFind (s.lockBad (withOutHold s (s.cfg.committed.setWords .act (31 * 6) (getWords m.payload 4 6)))) = none ∧
        padOk m 1 3 = true ∧ getB m.payload 0 = 31 ∧ s.mgt.otp.signedCfg = false ∧ s.cfg.edit = none ∧
        s.thermalBars = true) ∧
    (∃ (s : State) (m : Msg), s.executes 0x3004 m ∧ m.plain (28) ∧
        commitFail s (withOutHold s (s.cfg.committed.setWords .act (31 * 6) (getWords m.payload 4 6))) = none ∧
        imgFind (s.lockBad (withOutHold s (s.cfg.committed.setWords .act (31 * 6) (getWords m.payload 4 6)))) = none ∧
        padOk m 1 3 = true ∧ getB m.payload 0 = 31 ∧ s.mgt.otp.signedCfg = false ∧ s.cfg.edit = none ∧
        s.thermalBars = false ∧ s.bushel.closed = true) ∧
    (∃ (s : State) (m : Msg) (l : Locator), s.executes 0x3004 m ∧ m.plain (28) ∧
        commitFail s (withOutHold s (s.cfg.committed.setWords .act (31 * 6) (getWords m.payload 4 6))) = none ∧
        imgFind (s.lockBad (withOutHold s (s.cfg.committed.setWords .act (31 * 6) (getWords m.payload 4 6)))) = some l ∧
        getB m.payload 0 = 31 ∧ padOk m 1 3 = true ∧ s.mgt.otp.signedCfg = false ∧ s.cfg.edit = none) := by
  refine ⟨?_, ?_, ?_, ?_, ?_, ?_⟩
  · exact ⟨({ up with mgt.otp.signedCfg := true }), ({ payload := [31, 0, 0, 0] ++ zeros 24 }), ⟨by decide +kernel,
      by decide +kernel, by decide +kernel, .inl (by decide +kernel)⟩, ⟨by decide +kernel, by decide +kernel⟩,
      by decide +kernel⟩
  · exact ⟨(up), ({ payload := [31, 0, 0, 0] ++ zeros 24 }),
      ((commitFail up (withOutHold up (up.cfg.committed.setWords .act (31 * 6) (getWords ([31, 0, 0, 0] ++
      zeros 24) 4 6)))).getD {}), ⟨by decide +kernel, by decide +kernel, by decide +kernel, .inl (by decide +kernel)⟩,
      ⟨by decide +kernel, by decide +kernel⟩,
      some_getD (imgFind_some _ .act 31 2 (by decide) (by decide) (by decide +kernel)),
      by and_intros <;> decide +kernel⟩
  · exact ⟨({ up with cfg.edit := some {} }), ({ payload := [31, 0, 0, 0] ++ wordsBytes (Image.reset.inst .act 31) }),
      ⟨by decide +kernel, by decide +kernel, by decide +kernel, .inl (by decide +kernel)⟩, ⟨by decide +kernel,
      by decide +kernel⟩,
      (reset_ready { up with cfg.edit := some {} } rfl rfl _ (setSpan_ready { up with cfg.edit := some {} } .act (31 * 6) 6 [31, 0, 0, 0] rfl rfl (by decide))).1,
      by and_intros <;> decide +kernel⟩
  · exact ⟨({ up with sup.mode := .run, therm.critical.entered := true }),
      ({ payload := [31, 0, 0, 0] ++ wordsBytes (Image.reset.inst .act 31) }), ⟨by decide +kernel, by decide +kernel,
      by decide +kernel, .inl (by decide +kernel)⟩, ⟨by decide +kernel, by decide +kernel⟩,
      (reset_ready { up with sup.mode := .run, therm.critical.entered := true } rfl rfl _ (setSpan_ready { up with sup.mode := .run, therm.critical.entered := true } .act (31 * 6) 6 [31, 0, 0, 0] rfl rfl (by decide))).1,
      (reset_ready { up with sup.mode := .run, therm.critical.entered := true } rfl rfl _ (setSpan_ready { up with sup.mode := .run, therm.critical.entered := true } .act (31 * 6) 6 [31, 0, 0, 0] rfl rfl (by decide))).2,
      by and_intros <;> decide +kernel⟩
  · exact ⟨({ up with bushel.closed := true }), ({ payload := [31, 0, 0, 0] ++ wordsBytes (Image.reset.inst .act 31) }),
      ⟨by decide +kernel, by decide +kernel, by decide +kernel, .inl (by decide +kernel)⟩, ⟨by decide +kernel,
      by decide +kernel⟩,
      (reset_ready { up with bushel.closed := true } rfl rfl _ (setSpan_ready { up with bushel.closed := true } .act (31 * 6) 6 [31, 0, 0, 0] rfl rfl (by decide))).1,
      (reset_ready { up with bushel.closed := true } rfl rfl _ (setSpan_ready { up with bushel.closed := true } .act (31 * 6) 6 [31, 0, 0, 0] rfl rfl (by decide))).2,
      by and_intros <;> decide +kernel⟩
  · exact ⟨({ up with act.ch := upd up.act.ch 31 (fun c => { c with ph := .on }), cfg.committed := Image.reset.setWord .act 31 0 0xFFFFFFFF }),
      ({ payload := [31, 0, 0, 0] ++ wordsBytes (Image.reset.inst .act 31) }),
      ((imgFind (State.lockBad { up with act.ch := upd up.act.ch 31 (fun c => { c with ph := .on }), cfg.committed := Image.reset.setWord .act 31 0 0xFFFFFFFF } (withOutHold { up with act.ch := upd up.act.ch 31 (fun c => { c with ph := .on }), cfg.committed := Image.reset.setWord .act 31 0 0xFFFFFFFF } (Image.reset.setWords .act (31 * 6) (getWords ([31, 0, 0, 0] ++
      wordsBytes (Image.reset.inst .act 31)) 4 6))))).getD {}), ⟨by decide +kernel, by decide +kernel,
      by decide +kernel, .inl (by decide +kernel)⟩, ⟨by decide +kernel, by decide +kernel⟩,
      reset_passes_of { up with act.ch := upd up.act.ch 31 (fun c => { c with ph := .on }), cfg.committed := Image.reset.setWord .act 31 0 0xFFFFFFFF } rfl _ (setBack_ready { up with act.ch := upd up.act.ch 31 (fun c => { c with ph := .on }), cfg.committed := Image.reset.setWord .act 31 0 0xFFFFFFFF } .act 31 0 0xFFFFFFFF [31, 0, 0, 0] rfl rfl (by decide) (by decide)),
      some_getD (imgFind_some _ .act 31 0 (by decide) (by decide) (by decide +kernel)),
      by and_intros <;> decide +kernel⟩

theorem witness_CommitsComplete :
    (∃ (s : State) (w : CwWrite) (w2 : CwWrite) (op : NvOp) (rest : List NvOp), s.outOfReset = true ∧
        s.nvm.halted = false ∧ s.nvServed = some 2 ∧ w.bank = 0 ∧
        nth s.nvm.queue 2 = { op with cws := w :: w2 :: [] } :: rest) ∧
    (∃ (s : State) (w : CwWrite) (p : PendingCommit) (wt : Waiting) (op : NvOp), s.bus.held = [] ∧ s.outOfReset = true ∧
        s.nvm.halted = false ∧ s.nvServed = some 2 ∧ w.bank = 0 ∧ nth s.nvm.queue 2 = [op] ∧ op.job = .commit ∧
        op.cws = [w] ∧ nth s.nvm.orphans 2 = 0 ∧ s.cfg.pendingCommit = some p ∧ s.mbox.waiting = some wt ∧
        wt.boxes ≠ none ∧ s.bus.waiting = none ∧ s.mbox.accepted = [] ∧ s.mbox.appRestart = false) ∧
    (∃ (s : State) (w : CwWrite) (p : PendingCommit) (op : NvOp) (wt : Waiting), nth s.nvm.queue 5 = [] ∧
        nth s.nvm.queue 2 = [op] ∧ op.job = .commit ∧ op.cws = [w] ∧ nth s.nvm.orphans 2 = 0 ∧
        s.cfg.pendingCommit = some p ∧ s.mbox.waiting = some wt ∧ wt.boxes ≠ none ∧ s.bus.waiting = none ∧
        s.bus.held = [] ∧ s.mbox.accepted = [] ∧ s.mbox.appRestart = false ∧ s.outOfReset = true ∧
        s.nvm.halted = false ∧ s.nvServed = some 2 ∧ w.bank = 0) := by
  refine ⟨?_, ?_, ?_⟩
  · exact ⟨({ up with nvm.queue := [[], [], [{ job := .commit, cws := [{ cw := 3, data := List.replicate 32 9 }, { cw := 2, data := zeros 32 }] }, { job := .stone }], [], [], [], [], []], nvm.bad := [(0, 3), (1, 3)] }),
      ({ cw := 3, data := List.replicate 32 9 }), ({ cw := 2, data := zeros 32 }), ({ job := .commit }),
      ([{ job := .stone }]), by decide +kernel⟩
  · exact ⟨({ up with nvm.queue := [[], [], [{ job := .commit, cws := [{ cw := 3, data := List.replicate 32 9 }] }], [], [], [], [], []], cfg.pendingCommit := some { img := Image.reset, slot := 1, seq := 5 }, mbox.waiting := some { cmd := 0x3004, tag := 7, boxes := some (1, 2) } }),
      ({ cw := 3, data := List.replicate 32 9 }), ({ img := Image.reset, slot := 1, seq := 5 }),
      ({ cmd := 0x3004, tag := 7, boxes := some (1, 2) }),
      ({ job := .commit, cws := [{ cw := 3, data := List.replicate 32 9 }] }), by decide +kernel⟩
  · exact ⟨({ up with nvm.queue := [[], [], [{ job := .commit, cws := [{ cw := 3, data := List.replicate 32 9 }] }], [], [], [], [], []], cfg.pendingCommit := some { img := Image.reset, slot := 1, seq := 5 }, mbox.waiting := some { cmd := 0x3004, tag := 7, boxes := some (1, 2) } }),
      ({ cw := 3, data := List.replicate 32 9 }), ({ img := Image.reset, slot := 1, seq := 5 }),
      ({ job := .commit, cws := [{ cw := 3, data := List.replicate 32 9 }] }),
      ({ cmd := 0x3004, tag := 7, boxes := some (1, 2) }), by decide +kernel⟩

theorem witness_ConfigurationGroup :
    (∃ (s : State) (m : Msg) (sec : Sec) (start : Nat) (img : Image), s.executes 0x0202 m ∧ m.plain (8) ∧
        cfgSpan (getB m.payload 0) (getH m.payload 2) (getH m.payload 4) (getH m.payload 6) 1018 = some (sec, start) ∧
        (getB m.payload 1 = 1 ∧ s.cfg.edit.map Edit.img = some img)) ∧
    (∃ (s : State) (m : Msg) (c : ChunkIn), s.executes 0x0206 m ∧ m.chunk = true ∧ m.last = true ∧
        s.mbox.chunkIn = some c ∧ c.cmd = 0x0206 ∧ c.next ≠ 0 ∧ 8 ≤ m.payload.length ∧ getH m.payload 0 = c.next ∧
        getH m.payload 2 = 0 ∧ getW m.payload 4 = c.total ∧
        chunkLenOk c.next c.total (m.payload.length - 8) true = true ∧
        cfgContainer s (c.data ++ m.payload.drop 8) = .inl 1) ∧
    (∃ (s : State) (m : Msg), s.executes 0x0201 m ∧ m.plain (0) ∧ s.mgt.otp.signedCfg = false) ∧
    (∃ (s : State) (m : Msg) (sec : Sec) (start : Nat) (img : Image), s.executes 0x0202 m ∧ m.plain (8) ∧
        cfgSpan (getB m.payload 0) (getH m.payload 2) (getH m.payload 4) (getH m.payload 6) 1018 = some (sec, start) ∧
        ((getB m.payload 1 = 0 ∧ img = s.cfg.inForce) ∨ (getB m.payload 1 = 1 ∧
        s.cfg.edit.map Edit.img = some img) ∨ (getB m.payload 1 = 2 ∧ img = s.cfg.stored))) ∧
    (∃ (s : State) (m : Msg) (sec : Sec) (start : Nat) (img : Image), s.executes 0x0202 m ∧ m.plain (8) ∧
        cfgSpan (getB m.payload 0) (getH m.payload 2) (getH m.payload 4) (getH m.payload 6) 1018 = some (sec, start) ∧
        (getB m.payload 1 = 2 ∧ img = s.cfg.stored)) ∧
    (∃ (s : State) (m : Msg) (e : Edit) (sec : Sec) (start : Nat), s.executes 0x0203 m ∧
        m.plain (8 + 4 * getH m.payload 6) ∧ s.mgt.otp.signedCfg = false ∧ s.cfg.edit = some e ∧ getB m.payload 1 = 0 ∧
        cfgSpan (getB m.payload 0) (getH m.payload 2) (getH m.payload 4) (getH m.payload 6) 1016 = some (sec, start) ∧
        (List.range (getH m.payload 6)).any (fun k => (nth (getWords m.payload 8 (getH m.payload 6)) k &&& w32 (wdef sec ((start + k) / sec.words) ((start + k) % sec.words)).rsv) != 0) =
        false) ∧
    (∃ (s : State) (m : Msg) (e : Edit), s.executes 0x0204 m ∧ m.plain (0) ∧ commitFail s (withOutHold s e.img) = none ∧
        s.cfg.edit = some e ∧ e.stale = true) ∧
    (∃ (s : State) (m : Msg), s.executes 0x0204 m ∧ m.plain (0) ∧ s.cfg.edit = none) ∧
    (∃ (s : State) (m : Msg) (e : Edit) (l : Locator), s.executes 0x0204 m ∧ m.plain (0) ∧
        commitFail s (withOutHold s e.img) = some l ∧ s.cfg.edit = some e) ∧
    (∃ (s : State) (m : Msg) (e : Edit), s.executes 0x0204 m ∧ m.plain (0) ∧ commitFail s (withOutHold s e.img) = none ∧
        imgFind (s.lockBad (withOutHold s e.img)) = none ∧ s.cfg.edit = some e ∧ e.stale = false ∧
        s.thermalBars = false ∧ s.bushel.closed = false) ∧
    (∃ (s : State) (m : Msg), s.executes 0x0205 m ∧ m.plain (0)) ∧
    (∃ (s : State) (m : Msg), s.executes 0x0206 m ∧ m.chunk = false ∧ cfgContainer s m.payload = .inl 1) ∧
    (∃ (s : State) (m : Msg), s.executes 0x0207 m ∧ m.plain (0)) ∧
    (∃ (s : State) (m : Msg), s.executes 0x0208 m ∧ m.plain (0) ∧ s.nvm.bad = []) := by
  and_intros
  · exact ⟨({ up with cfg.edit := some { img := Image.reset } }),
      ({ payload := [BitVec.ofNat 8 (Sec.id .chain), 1, 0, 0] ++ le16 0 ++ le16 3 }), (.chain), (0), (Image.reset),
      ⟨by decide +kernel, by decide +kernel, by decide +kernel, .inl (by decide +kernel)⟩, ⟨by decide +kernel,
      by decide +kernel⟩, by decide +kernel⟩
  · exact ⟨({ up with mbox.chunkIn := some { cmd := 0x0206, total := 4084, next := 1, data := zeros 4072 } }),
      ({ tag := 3, chunk := true, last := true, payload := le16 1 ++ zeros 2 ++ le32 4084 ++ zeros 12 }),
      ({ cmd := 0x0206, total := 4084, next := 1, data := zeros 4072 }), ⟨by decide +kernel, by decide +kernel,
      by decide +kernel, .inl (by decide +kernel)⟩, by and_intros <;> decide +kernel⟩
  · exact ⟨(up), ({}), ⟨by decide +kernel, by decide +kernel, by decide +kernel, .inl (by decide +kernel)⟩,
      ⟨by decide +kernel, by decide +kernel⟩, by decide +kernel⟩
  · exact ⟨(up), ({ payload := [BitVec.ofNat 8 (Sec.id .bus), 0, 0, 0] ++ le16 16 ++ le16 5 }), (.bus), (16),
      (up.cfg.inForce), ⟨by decide +kernel, by decide +kernel, by decide +kernel, .inl (by decide +kernel)⟩,
      ⟨by decide +kernel, by decide +kernel⟩, by decide +kernel⟩
  · exact ⟨({ up with cfg.stored := [[1, 2, 3]] }),
      ({ payload := [BitVec.ofNat 8 (Sec.id .chain), 2, 0, 0] ++ le16 0 ++ le16 3 }), (.chain), (0), ([[1, 2, 3]]),
      ⟨by decide +kernel, by decide +kernel, by decide +kernel, .inl (by decide +kernel)⟩, ⟨by decide +kernel,
      by decide +kernel⟩, by decide +kernel⟩
  · exact ⟨({ up with cfg.edit := some { img := Image.reset, container := some ([], []) } }),
      ({ payload := [BitVec.ofNat 8 (Sec.id .loop), 0] ++ le16 126 ++ le16 4 ++ le16 1 ++ [4, 3, 2, 1] }),
      ({ img := Image.reset, container := some ([], []) }), (.loop), (1516), ⟨by decide +kernel, by decide +kernel,
      by decide +kernel, .inl (by decide +kernel)⟩, ⟨by decide +kernel, by decide +kernel⟩, by decide +kernel⟩
  · exact ⟨({ up with cfg.edit := some { img := Image.reset, stale := true } }), ({}),
      ({ img := Image.reset, stale := true }), ⟨by decide +kernel, by decide +kernel, by decide +kernel,
      .inl (by decide +kernel)⟩, ⟨by decide +kernel, by decide +kernel⟩,
      (reset_ready { up with cfg.edit := some { img := Image.reset, stale := true } } rfl rfl _ (withOutHold_self { up with cfg.edit := some { img := Image.reset, stale := true } } rfl)).1,
      by and_intros <;> decide +kernel⟩
  · exact ⟨(up), ({}), ⟨by decide +kernel, by decide +kernel, by decide +kernel, .inl (by decide +kernel)⟩,
      ⟨by decide +kernel, by decide +kernel⟩, by decide +kernel⟩
  · exact ⟨({ up with cfg.edit := some { img := Image.reset.setWord .ain 0 0 0x03000000 } }), ({}),
      ({ img := Image.reset.setWord .ain 0 0 0x03000000 }),
      ((commitFail up (withOutHold up (Image.reset.setWord .ain 0 0 0x03000000))).getD {}), ⟨by decide +kernel,
      by decide +kernel, by decide +kernel, .inl (by decide +kernel)⟩, ⟨by decide +kernel, by decide +kernel⟩,
      some_getD (imgFind_some _ .ain 0 0 (by decide) (by decide) (by decide +kernel)), by decide +kernel⟩
  · exact ⟨({ up with cfg.edit := some { img := Image.reset, container := some ([1], [2]), version := 9 } }), ({}),
      ({ img := Image.reset, container := some ([1], [2]), version := 9 }), ⟨by decide +kernel, by decide +kernel,
      by decide +kernel, .inl (by decide +kernel)⟩, ⟨by decide +kernel, by decide +kernel⟩,
      (reset_ready { up with cfg.edit := some { img := Image.reset, container := some ([1], [2]), version := 9 } } rfl rfl _ (withOutHold_self { up with cfg.edit := some { img := Image.reset, container := some ([1], [2]), version := 9 } } rfl)).1,
      (reset_ready { up with cfg.edit := some { img := Image.reset, container := some ([1], [2]), version := 9 } } rfl rfl _ (withOutHold_self { up with cfg.edit := some { img := Image.reset, container := some ([1], [2]), version := 9 } } rfl)).2,
      by and_intros <;> decide +kernel⟩
  · exact ⟨({ up with cfg.edit := some { img := Image.reset } }), ({}), ⟨by decide +kernel, by decide +kernel,
      by decide +kernel, .inl (by decide +kernel)⟩, ⟨by decide +kernel, by decide +kernel⟩⟩
  · exact ⟨(up), ({ payload := zeros 12 }), ⟨by decide +kernel, by decide +kernel, by decide +kernel,
      .inl (by decide +kernel)⟩, by and_intros <;> decide +kernel⟩
  · exact ⟨(up), ({}), ⟨by decide +kernel, by decide +kernel, by decide +kernel, .inl (by decide +kernel)⟩,
      ⟨by decide +kernel, by decide +kernel⟩⟩
  · exact ⟨(up), ({}), ⟨by decide +kernel, by decide +kernel, by decide +kernel, .inl (by decide +kernel)⟩,
      ⟨by decide +kernel, by decide +kernel⟩, by decide +kernel⟩

theorem witness_ImageWrites :
    (∃ (s : State) (m : Msg), s.executes 0x7101 m ∧ m.chunk = false ∧ getB m.payload 6 = 2 ∧ imageMayBegin 2 s = stOk) ∧
    (∃ (s : State) (m : Msg), s.executes 0x7101 m ∧ m.chunk = false ∧ imageMayBegin (getB m.payload 6) s ≠ stOk) ∧
    (∃ (s : State) (m : Msg), s.executes 0x7101 m ∧ m.chunk = true ∧ m.last = false ∧ 8 ≤ m.payload.length ∧
        getH m.payload 0 = 0 ∧ getH m.payload 2 = 0 ∧
        chunkLenOk 0 (getW m.payload 4) (m.payload.drop 8).length false = true ∧ s.chunkBars 0x7101 = false ∧
        imageMayBegin (getB (m.payload.drop 8) 6) s ≠ stOk) ∧
    (∃ (s : State) (m : Msg), s.executes 0x7101 m ∧ m.chunk = true ∧ m.last = false ∧ 8 ≤ m.payload.length ∧
        getH m.payload 0 = 0 ∧ getH m.payload 2 = 0 ∧
        chunkLenOk 0 (getW m.payload 4) (m.payload.drop 8).length false = true ∧ s.chunkBars 0x7101 = false ∧
        getB (m.payload.drop 8) 6 = 2 ∧ imageMayBegin 2 s = stOk) ∧
    (∃ (s : State) (m : Msg) (b : Nat), s.executes 0x7101 m ∧ m.chunk = true ∧ m.last = false ∧ 8 ≤ m.payload.length ∧
        getH m.payload 0 = 0 ∧ getH m.payload 2 = 0 ∧
        chunkLenOk 0 (getW m.payload 4) (m.payload.drop 8).length false = true ∧ s.chunkBars 0x7101 = false ∧
        getB (m.payload.drop 8) 6 = 1 ∧ imageMayBegin 1 s = stOk ∧ s.mgt.mr.active = 1 - b ∧ b < 2 ∧
        7 < s.nvm.queue.length ∧ s.readsFlash = false ∧ nvBusy s.nvm 7 = false ∧ nth s.nvm.queue 5 = []) ∧
    (∃ (s : State) (m : Msg) (b : Nat), s.executes 0x7101 m ∧ m.chunk = true ∧ m.last = false ∧ 8 ≤ m.payload.length ∧
        getH m.payload 0 = 0 ∧ getH m.payload 2 = 0 ∧
        chunkLenOk 0 (getW m.payload 4) (m.payload.drop 8).length false = true ∧ s.chunkBars 0x7101 = false ∧
        getB (m.payload.drop 8) 6 = 1 ∧ imageMayBegin 1 s = stOk ∧ s.mgt.mr.active = 1 - b ∧ b < 2 ∧
        7 < s.nvm.queue.length ∧ (s.readsFlash = true ∨ nvBusy s.nvm 7 = true)) ∧
    (∃ (s : State) (m : Msg) (b : Nat), s.executes 0x7101 m ∧ m.chunk = true ∧ m.last = false ∧ 8 ≤ m.payload.length ∧
        getH m.payload 0 = 0 ∧ getH m.payload 2 = 0 ∧
        chunkLenOk 0 (getW m.payload 4) (m.payload.drop 8).length false = true ∧ s.chunkBars 0x7101 = false ∧
        getB (m.payload.drop 8) 6 = 1 ∧ imageMayBegin 1 s = stOk ∧ s.mgt.mr.active = 1 - b ∧ b < 2 ∧
        7 < s.nvm.queue.length ∧ (s.readsFlash = true ∨ nvBusy s.nvm 7 = true)) ∧
    (∃ (s : State) (m : Msg) (c : ChunkIn), s.executes 0x7101 m ∧ m.chunk = true ∧ m.last = true ∧
        s.mbox.chunkIn = some c ∧ c.cmd = 0x7101 ∧ c.next ≠ 0 ∧ 8 ≤ m.payload.length ∧ getH m.payload 0 = c.next ∧
        getH m.payload 2 = 0 ∧ getW m.payload 4 = c.total ∧
        chunkLenOk c.next c.total (m.payload.drop 8).length true = true ∧ s.thermalBars = false ∧
        s.bushel.closed = false ∧ s.mgt.upd.kind = 2) ∧
    (∃ (s : State) (m : Msg) (c : ChunkIn), s.executes 0x7101 m ∧ m.chunk = true ∧ m.last = true ∧
        s.mbox.chunkIn = some c ∧ c.cmd = 0x7101 ∧ c.next ≠ 0 ∧ 8 ≤ m.payload.length ∧ getH m.payload 0 = c.next ∧
        getH m.payload 2 = 0 ∧ getW m.payload 4 = c.total ∧
        chunkLenOk c.next c.total (m.payload.drop 8).length true = true ∧ s.thermalBars = false ∧
        s.bushel.closed = false ∧ s.mgt.upd.kind = 1) := by
  and_intros
  · exact ⟨(up), ({ payload := [0, 0, 0, 0, 0, 0, 2] ++ zeros 9 ++ [1, 2, 3, 4] }), ⟨by decide +kernel,
      by decide +kernel, by decide +kernel, .inl (by decide +kernel)⟩, by and_intros <;> decide +kernel⟩
  · exact ⟨(up), ({ payload := [0, 0, 0, 0, 0, 0, 3] }), ⟨by decide +kernel, by decide +kernel, by decide +kernel,
      .inl (by decide +kernel)⟩, by and_intros <;> decide +kernel⟩
  · exact ⟨(up),
      ({ tag := 3, chunk := true, payload := [0, 0, 0, 0, 0, 0x20, 0, 0] ++ ([0, 0, 0, 0, 0, 0, 3] ++ zeros 9 ++ [1, 2, 3, 4] ++ zeros 4052) }),
      ⟨by decide +kernel, by decide +kernel, by decide +kernel, .inl (by decide +kernel)⟩,
      by and_intros <;> decide +kernel⟩
  · exact ⟨(up),
      ({ tag := 3, chunk := true, payload := [0, 0, 0, 0, 0, 0x20, 0, 0] ++ ([0, 0, 0, 0, 0, 0, 2] ++ zeros 9 ++ [1, 2, 3, 4] ++ zeros 4052) }),
      ⟨by decide +kernel, by decide +kernel, by decide +kernel, .inl (by decide +kernel)⟩,
      by and_intros <;> decide +kernel⟩
  · exact ⟨({ up with mgt.mr.stateB := .written, mgt.mr.verB := 5, mgt.flash := [[9], [8]], mgt.flashBad := [(1, 2), (0, 3)] }),
      ({ tag := 3, chunk := true, payload := [0, 0, 0, 0, 0, 0x20, 0, 0] ++ ([0, 0, 0, 0, 0, 0, 1] ++ zeros 9 ++ [1, 2, 3, 4] ++ zeros 4052) }),
      (1), ⟨by decide +kernel, by decide +kernel, by decide +kernel, .inl (by decide +kernel)⟩,
      by and_intros <;> decide +kernel⟩
  · exact ⟨({ up with test.running := true, test.left := [9] }),
      ({ tag := 3, chunk := true, payload := [0, 0, 0, 0, 0, 0x20, 0, 0] ++ ([0, 0, 0, 0, 0, 0, 1] ++ zeros 9 ++ [1, 2, 3, 4] ++ zeros 4052) }),
      (1), ⟨by decide +kernel, by decide +kernel, by decide +kernel, .inl (by decide +kernel)⟩,
      by and_intros <;> decide +kernel⟩
  · exact ⟨({ up with nvm.queue := [[], [], [], [], [], [], [], [{ job := .flash }]] }),
      ({ tag := 3, chunk := true, payload := [0, 0, 0, 0, 0, 0x20, 0, 0] ++ ([0, 0, 0, 0, 0, 0, 1] ++ zeros 9 ++ [1, 2, 3, 4] ++ zeros 4052) }),
      (1), ⟨by decide +kernel, by decide +kernel, by decide +kernel, .inl (by decide +kernel)⟩,
      by and_intros <;> decide +kernel⟩
  · exact ⟨({ up with mbox.chunkIn := some { cmd := 0x7101, total := 4084, next := 1, data := zeros 4072 }, mgt.upd := { state := 1, kind := 2, bank := 1 } }),
      ({ tag := 3, chunk := true, last := true, payload := [1, 0, 0, 0, 0xF4, 0x0F, 0, 0] ++ List.replicate 12 7 }),
      ({ cmd := 0x7101, total := 4084, next := 1, data := zeros 4072 }), ⟨by decide +kernel, by decide +kernel,
      by decide +kernel, .inl (by decide +kernel)⟩, by and_intros <;> decide +kernel⟩
  · exact ⟨({ up with mbox.chunkIn := some { cmd := 0x7101, total := 4084, next := 1, data := zeros 4072 }, mgt.upd := { state := 1, kind := 1, bank := 1 } }),
      ({ tag := 3, chunk := true, last := true, payload := [1, 0, 0, 0, 0xF4, 0x0F, 0, 0] ++ List.replicate 12 7 }),
      ({ cmd := 0x7101, total := 4084, next := 1, data := zeros 4072 }), ⟨by decide +kernel, by decide +kernel,
      by decide +kernel, .inl (by decide +kernel)⟩, by and_intros <;> decide +kernel⟩

theorem witness_ImageVerification :
    (∃ (s : State) (k : Nat), s.alive = true ∧ s.mgt.upd.state = 2 ∧ s.mgt.att.running = false ∧
        nvBusy s.nvm 7 = false ∧ ((s.mgt.upd.kind = 1 ∧ bankStep s s.mgt.upd.bank = some k) ∨ (s.mgt.upd.kind = 2 ∧
        wfContStep s s.mgt.upd.image = some k))) ∧
    (∃ (s : State) (k : Nat), s.alive = true ∧ s.mgt.upd.state = 2 ∧ s.mgt.att.running = false ∧
        nvBusy s.nvm 7 = false ∧ ((s.mgt.upd.kind = 1 ∧ bankStep s s.mgt.upd.bank = some k) ∨ (s.mgt.upd.kind = 2 ∧
        wfContStep s s.mgt.upd.image = some k))) ∧
    (∃ (s : State) (k : Nat), s.alive = true ∧ s.mgt.upd.state = 2 ∧ s.mgt.att.running = false ∧
        nvBusy s.nvm 7 = false ∧ ((s.mgt.upd.kind = 1 ∧ bankStep s s.mgt.upd.bank = some k) ∨ (s.mgt.upd.kind = 2 ∧
        wfContStep s s.mgt.upd.image = some k)) ∧ s.mgt.upd.kind = 1 ∧ s.bankBad s.mgt.upd.bank = true) ∧
    (∃ (s : State), s.alive = true ∧ s.mgt.upd.state = 2 ∧ s.mgt.att.running = false ∧ nvBusy s.nvm 7 = false ∧
        s.bushel.closed = false ∧ s.nvm.halted = false ∧ s.mgt.upd.kind = 1 ∧ bankStep s s.mgt.upd.bank = none ∧
        nth s.nvm.queue 5 = [] ∧ 5 < s.nvm.queue.length) := by
  refine ⟨?_, ?_, ?_, ?_⟩
  · exact ⟨({ up with mgt.upd := { state := 2, kind := 1, bank := 1, image := [5] } }), (1), by decide +kernel⟩
  · exact ⟨({ up with mgt.upd := { state := 2, kind := 2, bank := 1, image := [5] } }), (1), by decide +kernel⟩
  · exact ⟨({ up with mgt.upd := { state := 2, kind := 1, bank := 1, image := [5] }, mgt.flashBad := [(1, 7)] }), (4),
      by decide +kernel⟩
  · exact ⟨({ up with mgt.mr.active := 1, mgt.mr.verA := 0x01000000, mgt.mr.floorFw := 0x01000000, mgt.upd := { state := 2, kind := 1, bank := 0 } }),
      by decide +kernel⟩

theorem witness_ActivationAndTrial :
    (∃ (s : State) (m : Msg), s.executes 0x7102 m ∧ m.plain (0)) ∧
    (∃ (s : State) (m : Msg) (b : Nat), s.executes 0x7103 m ∧ m.plain (4) ∧ padOk m 1 3 = true ∧ getB m.payload 0 = b ∧
        b < 2 ∧ s.mgt.mr.inTrial = true) ∧
    (∃ (s : State) (m : Msg) (b : Nat), s.executes 0x7103 m ∧ m.plain (4) ∧ b < 2 ∧ padOk m 1 3 = true ∧
        getB m.payload 0 = b ∧ s.mgt.mr.inTrial = false ∧ b = s.mgt.mr.active) ∧
    (∃ (s : State) (m : Msg) (b : Nat), s.executes 0x7103 m ∧ m.plain (4) ∧ (s.mgt.mr.bankSt b = .empty ∨ (∃ k, k ≠ 7 ∧
        bankStep s b = some k)) ∧ s.bankBad b = false ∧ padOk m 1 3 = true ∧ getB m.payload 0 = b ∧ b < 2 ∧
        s.mgt.mr.inTrial = false ∧ b ≠ s.mgt.mr.active ∧ s.thermalBars = false) ∧
    (∃ (s : State) (m : Msg) (b : Nat), s.executes 0x7103 m ∧ m.plain (4) ∧ padOk m 1 3 = true ∧ getB m.payload 0 = b ∧
        b < 2 ∧ s.mgt.mr.inTrial = false ∧ b ≠ s.mgt.mr.active ∧ s.thermalBars = true) ∧
    (∃ (s : State) (m : Msg) (b : Nat), s.executes 0x7103 m ∧ m.plain (4) ∧ b < 2 ∧ padOk m 1 3 = true ∧
        getB m.payload 0 = b ∧ s.mgt.mr.inTrial = false ∧ b ≠ s.mgt.mr.active ∧ s.mgt.mr.bankSt b ≠ .empty ∧
        s.thermalBars = false ∧ bankStep s b = some 7) ∧
    (∃ (s : State) (m : Msg) (b : Nat), s.executes 0x7103 m ∧ m.plain (4) ∧ b < 2 ∧ padOk m 1 3 = true ∧
        getB m.payload 0 = b ∧ s.mgt.mr.inTrial = false ∧ b ≠ s.mgt.mr.active ∧ s.mgt.mr.active = 1 - b ∧
        nth s.nvm.queue 5 = [] ∧ 5 < s.nvm.queue.length ∧ s.mgt.mr.bankSt b ≠ .empty ∧ bankStep s b = none ∧
        s.thermalBars = false ∧ s.bushel.closed = false ∧ s.nvm.halted = false) ∧
    (∃ (s : State) (m : Msg) (b : Nat), s.executes 0x7103 m ∧ m.plain (4) ∧ (s.mgt.mr.bankSt b = .empty ∨ (∃ k, k ≠ 7 ∧
        bankStep s b = some k)) ∧ padOk m 1 3 = true ∧ getB m.payload 0 = b ∧ b < 2 ∧ s.mgt.mr.inTrial = false ∧
        b ≠ s.mgt.mr.active ∧ s.thermalBars = false ∧ s.bankBad b = false) ∧
    (∃ (s : State) (m : Msg) (b : Nat), s.executes 0x7103 m ∧ m.plain (4) ∧ (s.mgt.mr.bankSt b = .empty ∨ (∃ k, k ≠ 7 ∧
        bankStep s b = some k)) ∧ padOk m 1 3 = true ∧ getB m.payload 0 = b ∧ b < 2 ∧ s.mgt.mr.inTrial = false ∧
        b ≠ s.mgt.mr.active ∧ s.thermalBars = false ∧ s.bankBad b = true) ∧
    (∃ (s : State) (b : Nat), s.released = true ∧ s.mgt.trial = true ∧ s.mgt.mr.active = b ∧ b < 2 ∧
        s.bushel.closed = false ∧ nth s.nvm.queue 5 = [] ∧ 5 < s.nvm.queue.length) ∧
    (∃ (s : State) (b : Nat), s.released = true ∧ s.mgt.trial = true ∧ s.mgt.mr.active = b ∧ b < 2 ∧
        s.bushel.closed = false ∧ nth s.nvm.queue 5 = [] ∧ 5 < s.nvm.queue.length) ∧
    (∃ (s : State) (thermo : Nat) (revoke : Bool) (op : NvOp), s.outOfReset = true ∧ s.nvm.halted = false ∧
        s.nvServed = some 5 ∧ nth s.nvm.queue 5 = [op] ∧ op.job = .otpConfirm thermo revoke ∧ op.cws = [] ∧
        nth s.nvm.orphans 5 = 0 ∧ s.bus.held = [] ∧ s.bus.waiting = none) := by
  and_intros
  · exact ⟨(up), ({}), ⟨by decide +kernel, by decide +kernel, by decide +kernel, .inl (by decide +kernel)⟩,
      ⟨by decide +kernel, by decide +kernel⟩⟩
  · exact ⟨({ up with mgt.mr.stateB := .trial, mgt.mr.active := 1 }), ({ payload := [0, 0, 0, 0] }), (0),
      ⟨by decide +kernel, by decide +kernel, by decide +kernel, .inl (by decide +kernel)⟩, ⟨by decide +kernel,
      by decide +kernel⟩, by decide +kernel⟩
  · exact ⟨(up), ({ payload := [0, 0, 0, 0] }), (0), ⟨by decide +kernel, by decide +kernel, by decide +kernel,
      .inl (by decide +kernel)⟩, ⟨by decide +kernel, by decide +kernel⟩, by decide +kernel⟩
  · exact ⟨(up), ({ payload := [1, 0, 0, 0] }), (1), ⟨by decide +kernel, by decide +kernel, by decide +kernel,
      .inl (by decide +kernel)⟩, ⟨by decide +kernel, by decide +kernel⟩, (Or.inl (by decide +kernel)),
      by and_intros <;> decide +kernel⟩
  · exact ⟨({ up with therm.critical.entered := true }), ({ payload := [1, 0, 0, 0] }), (1), ⟨by decide +kernel,
      by decide +kernel, by decide +kernel, .inl (by decide +kernel)⟩, ⟨by decide +kernel, by decide +kernel⟩,
      by decide +kernel⟩
  · exact ⟨({ up with mgt.mr.active := 1, mgt.mr.stateA := .old, mgt.mr.stateB := .good, mgt.mr.verA := 0x01000000, mgt.mr.floorFw := 0x01000001 }),
      ({ payload := [0, 0, 0, 0] }), (0), ⟨by decide +kernel, by decide +kernel, by decide +kernel,
      .inl (by decide +kernel)⟩, ⟨by decide +kernel, by decide +kernel⟩, by decide +kernel⟩
  · exact ⟨({ { up with mgt.mr.active := 1, mgt.mr.stateA := .old, mgt.mr.stateB := .good, mgt.mr.verA := 0x01000000, mgt.mr.floorFw := 0x01000001 } with mgt.mr.floorFw := 0x01000000 }),
      ({ payload := [0, 0, 0, 0] }), (0), ⟨by decide +kernel, by decide +kernel, by decide +kernel,
      .inl (by decide +kernel)⟩, ⟨by decide +kernel, by decide +kernel⟩, by decide +kernel⟩
  · exact ⟨({ up with mgt.mr.stateB := .written, mgt.mr.verB := 9 }), ({ payload := [1, 0, 0, 0] }), (1),
      ⟨by decide +kernel, by decide +kernel, by decide +kernel, .inl (by decide +kernel)⟩, ⟨by decide +kernel,
      by decide +kernel⟩, (Or.inr ⟨1, by decide +kernel, by decide +kernel⟩), by and_intros <;> decide +kernel⟩
  · exact ⟨({ up with mgt.mr.stateB := .written, mgt.mr.verB := 9, mgt.flashBad := [(1, 0)] }),
      ({ payload := [1, 0, 0, 0] }), (1), ⟨by decide +kernel, by decide +kernel, by decide +kernel,
      .inl (by decide +kernel)⟩, ⟨by decide +kernel, by decide +kernel⟩,
      (Or.inr ⟨4, by decide +kernel, by decide +kernel⟩), by and_intros <;> decide +kernel⟩
  · exact ⟨({ up with mgt.trial := true, mgt.mr.active := 1, mgt.mr.stateB := .trial, mgt.mr.verB := 0x02000000, mgt.mr.verA := 0x01000000, mgt.mr.floorFw := 0x01000000, mgt.flash := [[], [0, 0, 0, 0, 0, 0, 1, 1] ++ zeros 12 ++ [1]], mgt.otp.revokeOnConfirm := true }),
      (1), by decide +kernel⟩
  · exact ⟨({ up with mgt.trial := true, mgt.mr.active := 0, mgt.mr.stateA := .trial, mgt.mr.verA := 0x01000000, mgt.mr.floorFw := 0x02000000 }),
      (0), by decide +kernel⟩
  · exact ⟨({ up with nvm.queue := [[], [], [], [], [], [{ job := .otpConfirm 2 true }], [], []], mgt.otp.thermo := 1 }),
      (2), (true), ({ job := .otpConfirm 2 true }), by decide +kernel⟩

theorem witness_Attestation :
    (∃ (s : State) (m : Msg), s.executes 0x7201 m ∧ m.plain (0)) ∧
    (∃ (s : State) (m : Msg), s.executes 0x7202 m ∧ m.plain (32) ∧ s.mgt.att.running = true) ∧
    (∃ (s : State) (m : Msg), s.executes 0x7202 m ∧ m.plain (32) ∧ nth s.nvm.queue 5 = [] ∧ 5 < s.nvm.queue.length ∧
        s.mgt.att.running = false ∧ s.thermalBars = false ∧ s.bushel.closed = false ∧ s.nvm.halted = false) ∧
    (∃ (s : State) (e : List Byte), s.alive = true ∧ s.mgt.att.running = true ∧ s.mgt.att.evidence = some e) ∧
    (∃ (s : State) (m : Msg), s.executes 0x7203 m ∧ m.plain (0) ∧ s.mgt.att.failed = true) ∧
    (∃ (s : State) (m : Msg), s.executes 0x7203 m ∧ m.plain (0) ∧ s.mgt.att.failed = false ∧
        s.mgt.att.response = none) ∧
    (∃ (s : State) (m : Msg) (r : List Byte), s.executes 0x7203 m ∧ m.plain (0) ∧ s.mgt.att.failed = false ∧
        s.mgt.att.response = some r) ∧
    (∃ (s : State) (m : Msg) (r : List Byte), s.executes 0x7203 m ∧ m.plain (0) ∧ s.mgt.att.failed = false ∧
        s.mgt.att.response = some r) := by
  and_intros
  · exact ⟨(up), ({}), ⟨by decide +kernel, by decide +kernel, by decide +kernel, .inl (by decide +kernel)⟩,
      ⟨by decide +kernel, by decide +kernel⟩⟩
  · exact ⟨({ up with mgt.att := { running := true } }), ({ payload := zeros 32 }), ⟨by decide +kernel,
      by decide +kernel, by decide +kernel, .inl (by decide +kernel)⟩, ⟨by decide +kernel, by decide +kernel⟩,
      by decide +kernel⟩
  · exact ⟨(up), ({ payload := zeros 31 ++ [7] }), ⟨by decide +kernel, by decide +kernel, by decide +kernel,
      .inl (by decide +kernel)⟩, ⟨by decide +kernel, by decide +kernel⟩, by decide +kernel⟩
  · exact ⟨({ up with mgt.att := { running := true, evidence := some [1, 2] } }), ([1, 2]), by decide +kernel⟩
  · exact ⟨({ up with mgt.att := { failed := true } }), ({}), ⟨by decide +kernel, by decide +kernel, by decide +kernel,
      .inl (by decide +kernel)⟩, ⟨by decide +kernel, by decide +kernel⟩, by decide +kernel⟩
  · exact ⟨(up), ({}), ⟨by decide +kernel, by decide +kernel, by decide +kernel, .inl (by decide +kernel)⟩,
      ⟨by decide +kernel, by decide +kernel⟩, by decide +kernel⟩
  · exact ⟨({ up with mgt.att := { response := some (zeros 4080) } }), ({}), (zeros 4080), ⟨by decide +kernel,
      by decide +kernel, by decide +kernel, .inl (by decide +kernel)⟩, ⟨by decide +kernel, by decide +kernel⟩,
      by decide +kernel⟩
  · exact ⟨({ up with mgt.att := { response := some (zeros 4081) } }), ({}), (zeros 4081), ⟨by decide +kernel,
      by decide +kernel, by decide +kernel, .inl (by decide +kernel)⟩, ⟨by decide +kernel, by decide +kernel⟩,
      by decide +kernel⟩

theorem witness_OtpCommands :
    (∃ (s : State) (m : Msg), s.executes 0x7204 m ∧ m.plain (208) ∧ pvOk m.payload = false) ∧
    (∃ (s : State) (m : Msg), s.executes 0x7204 m ∧ m.plain (208) ∧
        (pvOk m.payload = false ∨ pvAdds s.mgt.otp (pvOtp m.payload s.mgt.otp) = false)) ∧
    (∃ (s : State) (m : Msg), s.executes 0x7204 m ∧ m.plain (208) ∧
        pvAdds s.mgt.otp (pvOtp m.payload s.mgt.otp) = true ∧ pvOk m.payload = true ∧ s.mgt.otp.provisioned = true) ∧
    (∃ (s : State) (m : Msg), s.executes 0x7204 m ∧ m.plain (208) ∧ pvOk m.payload = true ∧
        s.mgt.otp.provisioned = false ∧ pvAdds s.mgt.otp (pvOtp m.payload s.mgt.otp) = true ∧ s.thermalBars = false ∧
        s.bushel.closed = false) ∧
    (∃ (s : State) (m : Msg), s.executes 0x7205 m ∧ m.plain (4) ∧ getW m.payload 0 ≠ 0xD3B6) ∧
    (∃ (s : State) (m : Msg), s.executes 0x7205 m ∧ m.plain (4) ∧ getW m.payload 0 = 0xD3B6 ∧
        s.mgt.otp.debugLock = true) ∧
    (∃ (s : State) (m : Msg), s.executes 0x7205 m ∧ m.plain (4) ∧ getW m.payload 0 = 0xD3B6 ∧
        s.mgt.otp.debugLock = false ∧ s.thermalBars = false ∧ s.bushel.closed = false) ∧
    (∃ (s : State) (n : Otp) (op : NvOp), s.mbox.waiting.elim True (fun w => w.boxes ≠ none) ∧ s.bus.held = [] ∧
        s.outOfReset = true ∧ s.nvm.halted = false ∧ s.nvServed = some 5 ∧ nth s.nvm.queue 5 = [op] ∧ op.job = .otp ∧
        op.cws = [] ∧ nth s.nvm.orphans 5 = 0 ∧ s.mgt.prov = some n ∧ s.bus.waiting = none) := by
  and_intros
  · exact ⟨(up), ({ payload := List.replicate 208 255 }), ⟨by decide +kernel, by decide +kernel, by decide +kernel,
      .inl (by decide +kernel)⟩, ⟨by decide +kernel, by decide +kernel⟩, by decide +kernel⟩
  · exact ⟨({ up with mgt.otp.pfwTh := 255 }),
      ({ payload := ([0x56, 0x50, 0x33, 0x5A, 1, 0, 0, 0, 2, 1, 0, 0, 0, 0, 0, 0] ++ List.replicate 64 7 ++ zeros 128) }),
      ⟨by decide +kernel, by decide +kernel, by decide +kernel, .inl (by decide +kernel)⟩, ⟨by decide +kernel,
      by decide +kernel⟩, by decide +kernel⟩
  · exact ⟨({ up with mgt.otp.provisioned := true }),
      ({ payload := ([0x56, 0x50, 0x33, 0x5A, 1, 0, 0, 0, 2, 1, 0, 0, 0, 0, 0, 0] ++ List.replicate 64 7 ++ zeros 128) }),
      ⟨by decide +kernel, by decide +kernel, by decide +kernel, .inl (by decide +kernel)⟩, ⟨by decide +kernel,
      by decide +kernel⟩, by decide +kernel⟩
  · exact ⟨(up),
      ({ payload := ([0x56, 0x50, 0x33, 0x5A, 1, 0, 0, 0, 2, 1, 0, 0, 0, 0, 0, 0] ++ List.replicate 64 7 ++ zeros 128) }),
      ⟨by decide +kernel, by decide +kernel, by decide +kernel, .inl (by decide +kernel)⟩, ⟨by decide +kernel,
      by decide +kernel⟩, by decide +kernel⟩
  · exact ⟨(up), ({ payload := [0xB6, 0xD3, 1, 0] }), ⟨by decide +kernel, by decide +kernel, by decide +kernel,
      .inl (by decide +kernel)⟩, ⟨by decide +kernel, by decide +kernel⟩, by decide +kernel⟩
  · exact ⟨({ up with mgt.otp.debugLock := true }), ({ payload := [0xB6, 0xD3, 0, 0] }), ⟨by decide +kernel,
      by decide +kernel, by decide +kernel, .inl (by decide +kernel)⟩, ⟨by decide +kernel, by decide +kernel⟩,
      by decide +kernel⟩
  · exact ⟨(up), ({ payload := [0xB6, 0xD3, 0, 0] }), ⟨by decide +kernel, by decide +kernel, by decide +kernel,
      .inl (by decide +kernel)⟩, ⟨by decide +kernel, by decide +kernel⟩, by decide +kernel⟩
  · exact ⟨({ up with nvm.queue := [[], [], [], [], [], [{ job := .otp }], [], []], mgt.prov := some { debugLock := true, thermo := 9 }, mgt.provCmd := true, mgt.otp.thermo := 3, mbox.waiting := some { boxes := some (0, 0) } }),
      ({ debugLock := true, thermo := 9 }), ({ job := .otp }),
      (show (some (0, 0) : Option (Nat × Nat)) ≠ none by decide), by and_intros <;> decide +kernel⟩

theorem witness_ApplicationCoreRestarts :
    (∃ (s : State), s.alive = true ∧ s.mgt.appRunning = true ∧ s.mgt.restartDue = none ∧ s.sup.safeSupv = false) ∧
    (∃ (s : State), s.alive = true ∧ s.mgt.appRunning = true ∧ s.mgt.restartDue = none ∧ s.sup.safeSupv = true) ∧
    (∃ (s : State) (cause : Nat), s.alive = true ∧ s.mgt.restartDue = some cause ∧ s.mgt.trial = false ∧
        (s.sup.safeSupv = true ∨ s.recentRestarts.length < 2)) ∧
    (∃ (s : State) (cause : Nat), s.alive = true ∧ s.mgt.restartDue = some cause ∧ s.mgt.trial = false ∧
        s.sup.safeSupv = false ∧ 2 ≤ s.recentRestarts.length) ∧
    (∃ (s : State) (cause : Nat), nth s.nvm.queue 5 = [] ∧ s.alive = true ∧ s.mgt.restartDue = some cause ∧
        s.mgt.trial = true ∧ s.mgt.mr.active < 2) ∧
    (∃ (s : State), s.clk.pllLocked = true ∧ s.bus.held = [] ∧ s.alive = true ∧ s.mbox.appRestart = true ∧
        s.mgt.appHeld = false ∧ s.test.appStopped = false ∧ s.mbox.waiting = none ∧
        s.mbox.accepted.all (fun a => a.err.isSome) = true) ∧
    (∃ (s : State), s.alive = true ∧ s.mgt.restarting = true ∧ s.sup.safeSupv = false) := by
  and_intros
  · exact ⟨(up), by decide +kernel⟩
  · exact ⟨({ up with sup.safeSupv := true, mbox.respObj := [{}], cfg.edit := some {} }), by decide +kernel⟩
  · exact ⟨({ up with mgt.restartDue := some 2, mbox.accepted := [{}] }), (2), by decide +kernel⟩
  · exact ⟨({ up with mgt.restartDue := some 2, mgt.restarts := [0, 0] }), (2), by decide +kernel⟩
  · exact ⟨({ up with mgt.restartDue := some 3, mgt.trial := true, mgt.mr.active := 1, mgt.mr.stateB := .trial }), (3),
      by decide +kernel⟩
  · exact ⟨({ up with mbox.appRestart := true, mgt.restarting := true, mgt.appRunning := false, mbox.ready := false, sup.safeSram := true, mbox.accepted := [{ cmd := 7, msg := { tag := 3 }, err := some 0x0302 }] }),
      by decide +kernel⟩
  · exact ⟨({ up with mgt.restarting := true, mgt.restartDue := some 3, test.running := true }), by decide +kernel⟩

theorem witness_ClocksAndCounters :
    (∃ (s : State) (count : Nat) (x : Bool), s.outOfReset = true ∧ (x = true ∨ s.clk.xtal32Lost = true) ∧ (x = true ∧
        2901 ≤ count ∧ count ≤ 2958 ∨ x = false ∧ 2637 ≤ count ∧ count ≤ 3222)) ∧
    (∃ (s : State) (count : Nat) (x : Bool), s.outOfReset = true ∧ (x = true ∨ s.clk.xtal32Lost = true) ∧ (x = true ∧
        2901 ≤ count ∧ count ≤ 2958 ∨ x = false ∧ 2637 ≤ count ∧ count ≤ 3222)) ∧
    (∃ (s : State) (count : Nat) (x : Bool), s.outOfReset = true ∧ (x = true ∨ s.clk.xtal32Lost = true) ∧ (x = true ∧
        (count < 2901 ∨ 2958 < count) ∨ x = false ∧ (count < 2637 ∨ 3222 < count)) ∧ s.clk.badWin = 0) ∧
    (∃ (s : State) (count : Nat) (x : Bool), s.outOfReset = true ∧ (x = true ∨ s.clk.xtal32Lost = true) ∧ (x = true ∧
        (count < 2901 ∨ 2958 < count) ∨ x = false ∧ (count < 2637 ∨ 3222 < count)) ∧ 1 ≤ s.clk.badWin ∧
        s.clk.fail = false) ∧
    (∃ (s : State), s.outOfReset = true ∧ s.clk.fail = false) ∧
    (∃ (s : State) (n : Nat), s.outOfReset = true ∧ s.clk.fail = false ∧ s.clk.pllLocked = true ∧ s.released = true ∧
        s.cb .act n 0 5 = false) ∧
    (∃ (s : State), s.outOfReset = true) ∧
    (∃ (s : State), s.outOfReset = true ∧ s.sup.restorePend = false) ∧
    (∃ (s : State), s.alive = false) ∧
    (∃ (s : State), s.outOfReset = true ∧ s.alive = true ∧ s.clk.pllLocked = true ∧ s.bus.fdRemain = 1) ∧
    (∃ (s : State), s.alive = true ∧ s.clk.pllLocked = true ∧ s.bus.fdRemain ≠ 1) ∧
    (∃ (s : State), s.alive = true ∧ s.clk.pllLocked = false) := by
  and_intros
  · exact ⟨({ up with clk.badWin := 1 }), (2958), (true), by decide +kernel⟩
  · exact ⟨({ up with clk.xtal32Lost := true }), (2637), (false), by decide +kernel⟩
  · exact ⟨(up), (2900), (true), by decide +kernel⟩
  · exact ⟨({ up with clk.badWin := 1, clk.xtal32Lost := true }), (3223), (false), by decide +kernel⟩
  · exact ⟨(up), by decide +kernel⟩
  · exact ⟨({ up with act.ch := upd up.act.ch 31 (fun c => { c with ph := .on }) }), (31), by decide +kernel⟩
  · exact ⟨(up), by decide +kernel⟩
  · exact ⟨(up), by decide +kernel⟩
  · exact ⟨(State.reset), by decide +kernel⟩
  · exact ⟨({ up with bus.fdRemain := 1, bus.fdReg := true }), by decide +kernel⟩
  · exact ⟨({ up with bus.fdRemain := 0, bus.fdReg := true }), by decide +kernel⟩
  · exact ⟨({ up with clk.pllLocked := false, bus.fdRemain := 7 }), by decide +kernel⟩

theorem witness_MemoryErrors :
    (∃ (s : State) (mem : Nat), s.outOfReset = true ∧ 1 ≤ mem ∧ mem ≤ 8) ∧
    (∃ (s : State) (mem : Nat), 1 ≤ mem ∧ mem ≤ 8 ∧ s.outOfReset = true ∧ mem ≠ 2 ∧ mem = 1 ∧ s.sup.safeSupv = false) ∧
    (∃ (s : State) (mem : Nat) (w : Nat), 1 ≤ mem ∧ mem ≤ 8 ∧ mem ≠ 2 ∧ s.outOfReset = true ∧ mem = 3 ∧
        w % 64 < s.rood.slots.length) ∧
    (∃ (s : State) (mem : Nat) (w : Nat), 1 ≤ mem ∧ mem ≤ 8 ∧ mem ≠ 2 ∧ s.outOfReset = true ∧ mem = 4 ∧
        w % 128 < s.rood.loops.length) ∧
    (∃ (s : State) (mem : Nat), 1 ≤ mem ∧ mem ≤ 8 ∧ mem ≠ 2 ∧ s.outOfReset = true ∧ mem = 7) ∧
    (∃ (s : State) (mem : Nat), 1 ≤ mem ∧ mem ≤ 8 ∧ mem ≠ 2 ∧ s.outOfReset = true ∧ mem = 8) ∧
    (∃ (s : State) (mem : Nat), 1 ≤ mem ∧ mem ≤ 8 ∧ mem ≠ 2 ∧ s.outOfReset = true ∧ (mem = 5 ∨ mem = 6)) ∧
    (∃ (s : State), s.outOfReset = true ∧ s.panel.fault = false) ∧
    (∃ (s : State) (k : Nat), s.outOfReset = true ∧ k < 4 ∧ k < s.clk.scrub.length ∧
        nth s.clk.scrub k < [131072, 32768, 8192, 32768].getD k 1) := by
  and_intros
  · exact ⟨(up), (8), by decide +kernel⟩
  · exact ⟨({ up with test.running := true }), (1), by decide +kernel⟩
  · exact ⟨(up), (3), (64 + 63), by decide +kernel⟩
  · exact ⟨(up), (4), (126), by decide +kernel⟩
  · exact ⟨({ up with mgt.flashBad := [(0, 4)] }), (7), by decide +kernel⟩
  · exact ⟨({ up with nvm.bad := [(0, 4)] }), (8), by decide +kernel⟩
  · exact ⟨(up), (6), by decide +kernel⟩
  · exact ⟨(pnlUp), by decide +kernel⟩
  · exact ⟨({ up with clk.scrub := [0, 0, 0, 32767] }), (3), by decide +kernel⟩

theorem witness_ThermalLevels :
    (∃ (s : State) (k : Nat), s.chain.pt = 2 ∧ s.chain.mc = (nth s.sens.hk 8).mcEnd ∧ s.sup.shutAt = none ∧
        s.released = true ∧ s.sens.hkFresh = true ∧ s.governs ≠ 0x80000001 ∧ s.therm.shutdown.entered = false ∧
        (s.governs.toInt < 140 * 65536 ∨ s.therm.shutdown.count < 2) ∧ k < 3 ∧ (s.therm.level k).entered = false ∧
        s.governs.toInt < (110 + 10 * k) * 65536) ∧
    (∃ (s : State) (k : Nat), s.chain.pt = 2 ∧ s.chain.mc = (nth s.sens.hk 8).mcEnd ∧ s.sup.shutAt = none ∧
        s.released = true ∧ s.sens.hkFresh = true ∧ s.governs ≠ 0x80000001 ∧ s.therm.shutdown.entered = false ∧
        (s.governs.toInt < 140 * 65536 ∨ s.therm.shutdown.count < 2) ∧ k < 3 ∧ (s.therm.level k).entered = false ∧
        (110 + 10 * k) * 65536 ≤ s.governs.toInt ∧ (s.therm.level k).count < 2) ∧
    (∃ (s : State) (k : Nat), s.chain.pt = 2 ∧ s.chain.mc = (nth s.sens.hk 8).mcEnd ∧ s.sup.shutAt = none ∧
        s.released = true ∧ s.sens.hkFresh = true ∧ s.governs ≠ 0x80000001 ∧ s.therm.shutdown.entered = false ∧
        (s.governs.toInt < 140 * 65536 ∨ s.therm.shutdown.count < 2) ∧ k < 3 ∧ (s.therm.level k).entered = false ∧
        (110 + 10 * k) * 65536 ≤ s.governs.toInt ∧ 2 ≤ (s.therm.level k).count) ∧
    (∃ (s : State) (k : Nat), k < 3 ∧ s.chain.pt = 2 ∧ s.chain.mc = (nth s.sens.hk 8).mcEnd ∧ s.sup.shutAt = none ∧
        s.released = true ∧ s.sens.hkFresh = true ∧ s.governs ≠ 0x80000001 ∧ s.therm.shutdown.entered = false ∧
        (s.governs.toInt < 140 * 65536 ∨ s.therm.shutdown.count < 2) ∧ (s.therm.level k).entered = true ∧
        (110 + 10 * k) * 65536 - 5 * 65536 ≤ s.governs.toInt) ∧
    (∃ (s : State) (k : Nat), (s.governs.toInt < 140 * 65536 ∨ s.therm.shutdown.count < 2) ∧ k < 3 ∧ s.chain.pt = 2 ∧
        s.chain.mc = (nth s.sens.hk 8).mcEnd ∧ s.sup.shutAt = none ∧ s.released = true ∧ s.sens.hkFresh = true ∧
        s.governs ≠ 0x80000001 ∧ s.therm.shutdown.entered = false ∧ (s.therm.level k).entered = true ∧
        s.governs.toInt < (110 + 10 * k) * 65536 - 5 * 65536 ∧ (s.therm.level k).count < 2) ∧
    (∃ (s : State) (k : Nat), (s.governs.toInt < 140 * 65536 ∨ s.therm.shutdown.count < 2) ∧ k < 3 ∧ s.chain.pt = 2 ∧
        s.chain.mc = (nth s.sens.hk 8).mcEnd ∧ s.sup.shutAt = none ∧ s.released = true ∧ s.sens.hkFresh = true ∧
        s.governs ≠ 0x80000001 ∧ s.therm.shutdown.entered = false ∧ (s.therm.level k).entered = true ∧
        s.governs.toInt < (110 + 10 * k) * 65536 - 5 * 65536 ∧ 2 ≤ (s.therm.level k).count) ∧
    (∃ (s : State), s.chain.pt = 2 ∧ s.chain.mc = (nth s.sens.hk 8).mcEnd ∧ s.sup.shutAt = none ∧ s.released = true ∧
        s.sens.hkFresh = true ∧ s.governs ≠ 0x80000001 ∧ s.therm.shutdown.entered = false ∧
        140 * 65536 ≤ s.governs.toInt ∧ 2 ≤ s.therm.shutdown.count) ∧
    (∃ (s : State), s.sup.vmain = true ∧ s.outOfReset = true) ∧
    (∃ (s : State) (t0 : Nat), s.alive = true ∧ s.chain.st ≠ .start ∧ s.chain.pt ≠ 4095 ∧ s.sup.shutAt = some t0 ∧
        s.chain.mcStart + (s.chain.pt.toNat + 1) * s.chain.curLen / 4096 < t0 + 48000) ∧
    (∃ (s : State) (t0 : Nat), s.alive = true ∧ s.chain.st ≠ .start ∧ s.chain.pt ≠ 4095 ∧ s.sup.shutAt = some t0 ∧
        t0 + 48000 ≤ s.chain.mcStart + (s.chain.pt.toNat + 1) * s.chain.curLen / 4096) ∧
    (∃ (s : State) (w : Held), s.sup.vmain = true ∧ s.sup.phase = .held w) ∧
    (∃ (s : State), s.sup.vmain = false) ∧
    (∃ (s : State), s.released = true ∧ s.sens.hkFresh = true ∧ s.chain.pt = 2 ∧ s.chain.mc = (nth s.sens.hk 8).mcEnd ∧
        s.sup.shutAt = none ∧ s.governs = 0x80000001) := by
  and_intros
  · exact ⟨({ up with sens.hkFresh := true, chain.pt := 2, therm.governing := w32 (110 * 65536 - 1), therm.warning := { count := 2 } }),
      (0), by decide +kernel⟩
  · exact ⟨({ up with sens.hkFresh := true, chain.pt := 2, therm.governing := w32 (120 * 65536), therm.throttle := { count := 1 }, therm.warning := { entered := true } }),
      (1), by decide +kernel⟩
  · exact ⟨({ up with sens.hkFresh := true, chain.pt := 2, therm.governing := w32 (140 * 65536), therm.throttle := { entered := true }, therm.warning := { entered := true }, therm.critical := { count := 2 }, therm.shutdown := { count := 1 } }),
      (2), by decide +kernel⟩
  · exact ⟨({ up with sens.hkFresh := true, chain.pt := 2, therm.governing := w32 (105 * 65536), therm.warning := { entered := true, count := 2 } }),
      (0), by decide +kernel⟩
  · exact ⟨({ up with sens.hkFresh := true, chain.pt := 2, therm.governing := w32 (105 * 65536 - 1), therm.warning := { entered := true, count := 1 } }),
      (0), by decide +kernel⟩
  · exact ⟨({ up with sens.hkFresh := true, chain.pt := 2, therm.governing := wInt (-40 * 65536), therm.warning := { entered := true, count := 2 } }),
      (0), by decide +kernel⟩
  · exact ⟨({ up with sens.hkFresh := true, chain.pt := 2, therm.governing := w32 (140 * 65536), therm.shutdown := { count := 2 } }),
      by decide +kernel⟩
  · exact ⟨({ pnlUp with sup.vmain := true, therm.lastGov := 77 }), by decide +kernel⟩
  · exact ⟨({ up with chain.st := .locked, chain.mcStart := 10, chain.pt := 100, chain.curLen := 480000, sup.shutAt := some 0 }),
      (0), by decide +kernel⟩
  · exact ⟨({ up with chain.st := .locked, chain.mcStart := 48000, chain.pt := 0, chain.curLen := 4096, sup.shutAt := some 1 }),
      (1), by decide +kernel⟩
  · exact ⟨({ up with sup.phase := .held .thermal, sup.vmain := true, therm.lastGov := 5 }), (.thermal),
      by decide +kernel⟩
  · exact ⟨({ up with sup.phase := .held .power }), by decide +kernel⟩
  · exact ⟨({ up with sens.hkFresh := true, chain.pt := 2, therm.governing := 5, therm.sensors := List.replicate 5 { valid := false }, therm.warning := { entered := true, count := 2 } }),
      by decide +kernel⟩

theorem witness_SelfTestRuns :
    (∃ (s : State) (m : Msg), s.executes 0x7F01 m ∧ m.plain (4) ∧
        (getW m.payload 0 = 0 ∨ (getW m.payload 0).testBit 7 = true ∨ 1024 ≤ getW m.payload 0)) ∧
    (∃ (s : State) (m : Msg), s.executes 0x7F01 m ∧ m.plain (4) ∧ getW m.payload 0 ≠ 0 ∧
        (getW m.payload 0).testBit 7 = false ∧ getW m.payload 0 < 1024 ∧
        (s.test.running = true ∨ s.stone.run.isSome = true)) ∧
    (∃ (s : State) (m : Msg), s.executes 0x7F01 m ∧ m.plain (4) ∧ getW m.payload 0 ≠ 0 ∧
        (getW m.payload 0).testBit 7 = false ∧ getW m.payload 0 < 1024 ∧ s.test.running = false ∧ s.stone.run = none ∧
        s.thermalBars = false ∧ getW m.payload 0 % 128 ≠ 0) ∧
    (∃ (s : State) (m : Msg), s.executes 0x7F01 m ∧ m.plain (4) ∧ getW m.payload 0 ≠ 0 ∧
        (getW m.payload 0).testBit 7 = false ∧ getW m.payload 0 < 1024 ∧ s.test.running = false ∧ s.stone.run = none ∧
        s.thermalBars = false ∧ getW m.payload 0 % 128 = 0) ∧
    (∃ (s : State) (m : Msg), s.executes 0x7F02 m ∧ m.plain (0) ∧ s.test.running = true) ∧
    (∃ (s : State) (m : Msg), s.executes 0x7F02 m ∧ m.plain (0) ∧ s.test.running = false) ∧
    (∃ (s : State) (k : Nat) (rest : List Nat), s.alive = true ∧ s.test.running = true ∧ s.test.left = k :: rest ∧
        s.testStops = false ∧ s.testReady k = true) ∧
    (∃ (s : State) (k : Nat) (rest : List Nat), s.alive = true ∧ s.test.running = true ∧ s.test.left = k :: rest ∧
        s.testStops = false ∧ s.testReady k = true) ∧
    (∃ (s : State) (k : Nat) (rest : List Nat), s.alive = true ∧ s.test.running = true ∧ s.test.left = k :: rest ∧
        s.testReady k = false) ∧
    (∃ (s : State), s.alive = true ∧ s.test.running = true ∧ (s.test.left = [] ∨ s.testStops = true) ∧
        s.test.enteredHold = true ∧ s.sup.mode = .hold) ∧
    (∃ (s : State), s.alive = true ∧ s.test.running = true ∧ (s.test.left = [] ∨ s.testStops = true) ∧
        s.test.enteredHold = false) ∧
    (∃ (s : State) (k : Nat) (rest : List Nat), s.alive = true ∧ s.test.running = true ∧ s.test.left = k :: rest ∧
        s.testStops = false ∧ s.testReady k = true) ∧
    (∃ (s : State) (k : Nat) (rest : List Nat), s.alive = true ∧ s.test.running = true ∧ s.test.left = k :: rest ∧
        s.testStops = false ∧ s.testReady k = true) ∧
    (∃ (s : State) (k : Nat) (rest : List Nat), s.alive = true ∧ s.test.running = true ∧ s.test.left = k :: rest ∧
        s.testStops = false ∧ s.testReady k = true) ∧
    (∃ (s : State) (k : Nat) (rest : List Nat), s.alive = true ∧ s.test.running = true ∧ s.test.left = k :: rest ∧
        s.testStops = false ∧ s.testReady k = true) ∧
    (∃ (s : State) (k : Nat) (rest : List Nat), s.alive = true ∧ s.test.running = true ∧ s.test.left = k :: rest ∧
        s.testStops = false ∧ s.testReady k = true) ∧
    (∃ (s : State) (k : Nat) (rest : List Nat), s.alive = true ∧ s.test.running = true ∧ s.test.left = k :: rest ∧
        s.testStops = false ∧ s.testReady k = true) ∧
    (∃ (s : State) (k : Nat) (rest : List Nat), s.alive = true ∧ s.test.running = true ∧ s.test.left = k :: rest ∧
        s.testStops = false ∧ s.testReady k = true ∧ s.nvm.bad = []) ∧
    (∃ (s : State) (k : Nat) (rest : List Nat), s.alive = true ∧ s.test.running = true ∧ s.test.left = k :: rest ∧
        s.testStops = false ∧ s.testReady k = true ∧ s.nvm.bad ≠ []) ∧
    (∃ (s : State) (k : Nat) (rest : List Nat), s.alive = true ∧ s.test.running = true ∧ s.test.left = k :: rest ∧
        s.testStops = false ∧ s.testReady k = true ∧ s.mgt.flashBad = []) ∧
    (∃ (s : State) (k : Nat) (rest : List Nat), s.alive = true ∧ s.test.running = true ∧ s.test.left = k :: rest ∧
        s.testStops = false ∧ s.testReady k = true ∧ s.mgt.flashBad ≠ []) := by
  and_intros
  · exact ⟨(up), ({ payload := [0x80, 0, 0, 0] }), ⟨by decide +kernel, by decide +kernel, by decide +kernel,
      .inl (by decide +kernel)⟩, ⟨by decide +kernel, by decide +kernel⟩, by decide +kernel⟩
  · exact ⟨({ up with test.running := true }), ({ payload := [0xFF - 0x80, 3, 0, 0] }), ⟨by decide +kernel,
      by decide +kernel, by decide +kernel, .inl (by decide +kernel)⟩, ⟨by decide +kernel, by decide +kernel⟩,
      by decide +kernel⟩
  · exact ⟨(up), ({ payload := [1, 2, 0, 0] }), ⟨by decide +kernel, by decide +kernel, by decide +kernel,
      .inl (by decide +kernel)⟩, ⟨by decide +kernel, by decide +kernel⟩, by decide +kernel⟩
  · exact ⟨(up), ({ payload := [0, 3, 0, 0] }), ⟨by decide +kernel, by decide +kernel, by decide +kernel,
      .inl (by decide +kernel)⟩, ⟨by decide +kernel, by decide +kernel⟩, by decide +kernel⟩
  · exact ⟨({ up with test.running := true }), ({}), ⟨by decide +kernel, by decide +kernel, by decide +kernel,
      .inl (by decide +kernel)⟩, ⟨by decide +kernel, by decide +kernel⟩, by decide +kernel⟩
  · exact ⟨({ up with test.results := [{ test := 3, verdict := 1, signature := 0x1122334455667788 }] }), ({}),
      ⟨by decide +kernel, by decide +kernel, by decide +kernel, .inl (by decide +kernel)⟩, ⟨by decide +kernel,
      by decide +kernel⟩, by decide +kernel⟩
  · exact ⟨({ up with test.running := true, test.left := [1, 5], sup.mode := .hold }), (1), ([5]), by decide +kernel⟩
  · exact ⟨({ up with test.running := true, test.left := [5], sup.mode := .hold }), (5), ([]), by decide +kernel⟩
  · exact ⟨({ up with test.running := true, test.left := [4, 5] }), (4), ([5]), by decide +kernel⟩
  · exact ⟨({ up with test.running := true, test.left := [4, 5], test.enteredHold := true, sup.mode := .hold, test.stopped := true }),
      by decide +kernel⟩
  · exact ⟨({ up with test.running := true, sup.mode := .hold }), by decide +kernel⟩
  · exact ⟨({ up with test.running := true, test.left := [0, 6], sup.mode := .hold }), (0), ([6]), by decide +kernel⟩
  · exact ⟨({ up with test.running := true, test.left := [2, 6], sup.mode := .hold, panel.rails := .off }), (2), ([6]),
      by decide +kernel⟩
  · exact ⟨({ up with test.running := true, test.left := [3, 6], sup.mode := .hold }), (3), ([6]), by decide +kernel⟩
  · exact ⟨({ up with test.running := true, test.left := [4, 6], sup.mode := .hold }), (4), ([6]), by decide +kernel⟩
  · exact ⟨({ up with test.running := true, test.left := [5, 6], sup.mode := .hold }), (5), ([6]), by decide +kernel⟩
  · exact ⟨({ up with test.running := true, test.left := [6, 6], sup.mode := .hold }), (6), ([6]), by decide +kernel⟩
  · exact ⟨({ up with test.running := true, test.left := [8, 6], sup.mode := .hold }), (8), ([6]), by decide +kernel⟩
  · exact ⟨({ up with test.running := true, test.left := [8, 6], sup.mode := .hold, nvm.bad := [(1, 3)] }), (8), ([6]),
      by decide +kernel⟩
  · exact ⟨({ up with test.running := true, test.left := [9, 6], sup.mode := .hold }), (9), ([6]), by decide +kernel⟩
  · exact ⟨({ up with test.running := true, test.left := [9, 6], sup.mode := .hold, mgt.flashBad := [(1, 3)] }), (9),
      ([6]), by decide +kernel⟩

theorem witness_GpioEdgesAndTestPort :
    (∃ (s : State) (g : Nat) (high : Bool), s.alive = true ∧ g < 16 ∧ s.cf .gpio g 0 7 6 = 0 ∧
        s.gpio.level.getD g false = !high ∧ s.cb .gpio g 0 (if high then 3 else 2) = true) ∧
    (∃ (s : State) (g : Nat) (high : Bool), s.alive = true ∧ g < 16 ∧ s.cf .gpio g 0 7 6 = 0 ∧
        s.gpio.level.getD g false = !high ∧ s.cb .gpio g 0 (if high then 3 else 2) = false) ∧
    (∃ (op : BitVec 5), 16 ≤ op.toNat ∧ op.toNat ≤ 30) ∧
    (∃ (op : BitVec 5), op.toNat ≤ 30 ∧ 16 ≤ op.toNat) ∧
    (∃ (op : BitVec 5), (op.toNat < 16 ∨ op.toNat = 31) ∧ op ≠ 0 ∧ op ≠ 1 ∧ op ≠ 2 ∧ op ≠ 4 ∧ op ≠ 5) := by
  refine ⟨?_, ?_, ?_, ?_, ?_⟩
  · exact ⟨({ upCw .gpio 15 0 8 up with gpio.level := List.replicate 16 false }), (15), (true), by decide +kernel⟩
  · exact ⟨({ upCw .gpio 0 0 8 up with gpio.level := List.replicate 16 true }), (0), (false), by decide +kernel⟩
  · exact ⟨(30), by decide +kernel⟩
  · exact ⟨(16), by decide +kernel⟩
  · exact ⟨(31), by decide +kernel⟩

theorem witness_PinStates :
    (∃ (s : State), s.released = false) ∧
    (∃ (s : State) (i : Instr) (t : State), (i = .extest ∨ i = .highz ∨ i = .clamp) ∧ exec i s = .next t) ∧
    (∃ (s : State), s.pnlEn = false) ∧
    (∃ (s : State) (f : Nat), (s.fan f).div = 0) ∧
    (∃ (s : State) (f : Nat), s.released = true ∧ (s.fan f).div ≠ 0) ∧
    (∃ (s : State) (n : Nat), s.released = true ∧ s.scanHeld = false ∧ (s.ach (s.gangOf n)).ph = .on ∧
        (s.ach (s.gangOf n)).toHold = true) ∧
    (∃ (s : State) (n : Nat), s.released = true ∧ s.scanHeld = false ∧ (s.ach (s.gangOf n)).ph = .on ∧
        (s.ach (s.gangOf n)).toHold = false) ∧
    (∃ (s : State) (t : State), exec .idcode s = .next t) ∧
    (∃ (s : State), s.jtag.reg = .debug ∧ s.mgt.otp.debugLock = true) ∧
    (∃ (s : State) (r : Nat) (us : Nat), s.krowLow r us = true) := by
  and_intros
  · exact ⟨(State.reset), by decide +kernel⟩
  · exact ⟨(up), (.extest), ({ up with jtag := { ir := 0, reg := .boundary } }), .inl rfl, rfl⟩
  · exact ⟨(up), by decide +kernel⟩
  · exact ⟨({ up with fans.ch := List.replicate 16 { div := 0 } }), (15), by decide +kernel⟩
  · exact ⟨(up), (15), by decide +kernel⟩
  · exact ⟨(updCh 31 (fun x => { x with ph := .on, toHold := true }) up), (31), by decide +kernel⟩
  · exact ⟨(updCh 31 (fun x => { x with ph := .on }) up), (31), by decide +kernel⟩
  · exact ⟨(up), ({ up with jtag := { ir := 1, reg := .idcode } }), rfl⟩
  · exact ⟨({ up with jtag := { ir := 16, reg := .debug }, mgt.otp.debugLock := true }), by decide +kernel⟩
  · exact ⟨(upCw .panel 0 4 0x100 up), (7), (75), by decide +kernel⟩

theorem witness_HappeningsServed :
    (∃ (s : State) (h : Happening) (l : LastRec) (i : Nat), s.alive = true ∧ s.bushel.closed = false ∧
        s.sup.restorePend = false ∧ s.bushel.ring = [h] ∧ s.bushel.summaryMode = false ∧ s.bushel.last = some l ∧
        l.record.typ = h.typ ∧ l.record.source = h.source ∧ l.record.sev = h.sev ∧ h.typ ≠ 9 ∧
        l.record.pcc = s.backup.pcc.toNat ∧ h.repWin ≠ 0 ∧ (h.mc - l.lastMc).toNat ≤ s.secMc h.repWin ∧
        l.record.rep < 0xFFFFFF ∧ s.backup.opt.toNat - l.record.opt ≤ 0xFFFF ∧ i < s.bushel.buf.length ∧
        (nth s.bushel.buf i).record.serial = l.record.serial ∧
        (∀ k : Nat, k < s.bushel.buf.length → (i < k → (nth s.bushel.buf k).record.serial ≠ l.record.serial)) ∧
        (nth s.bushel.buf i).st = .unqueued) ∧
    (∃ (s : State) (h : Happening) (l : LastRec) (i : Nat), s.alive = true ∧ s.bushel.closed = false ∧
        s.sup.restorePend = false ∧ s.bushel.ring = [h] ∧ s.bushel.summaryMode = false ∧ s.bushel.last = some l ∧
        l.record.typ = h.typ ∧ l.record.source = h.source ∧ l.record.sev = h.sev ∧ h.typ ≠ 9 ∧
        l.record.pcc = s.backup.pcc.toNat ∧ h.repWin ≠ 0 ∧ (h.mc - l.lastMc).toNat ≤ s.secMc h.repWin ∧
        l.record.rep < 0xFFFFFF ∧ s.backup.opt.toNat - l.record.opt ≤ 0xFFFF ∧ i < s.bushel.buf.length ∧
        (nth s.bushel.buf i).record.serial = l.record.serial ∧
        (∀ k : Nat, k < s.bushel.buf.length → (i < k → (nth s.bushel.buf k).record.serial ≠ l.record.serial)) ∧
        (nth s.bushel.buf i).st = .queued) ∧
    (∃ (s : State) (h : Happening) (l : LastRec) (k : Nat), s.alive = true ∧ s.bushel.closed = false ∧
        s.sup.restorePend = false ∧ s.bushel.ring = [h] ∧ s.bushel.summaryMode = false ∧ s.bushel.last = some l ∧
        l.record.typ = h.typ ∧ l.record.source = h.source ∧ l.record.sev = h.sev ∧ h.typ ≠ 9 ∧
        l.record.pcc = s.backup.pcc.toNat ∧ h.repWin ≠ 0 ∧ (h.mc - l.lastMc).toNat ≤ s.secMc h.repWin ∧
        l.record.rep < 0xFFFFFF ∧ s.backup.opt.toNat - l.record.opt ≤ 0xFFFF ∧
        ∀ e ∈ s.bushel.buf, e.record.serial ≠ l.record.serial ∧ l.slot = some k ∧ s.bushel.rewriting = none) ∧
    (∃ (s : State) (h : Happening) (l : LastRec) (k : Nat), s.alive = true ∧ s.bushel.closed = false ∧
        s.sup.restorePend = false ∧ s.bushel.ring = [h] ∧ s.bushel.summaryMode = false ∧ s.bushel.last = some l ∧
        l.record.typ = h.typ ∧ l.record.source = h.source ∧ l.record.sev = h.sev ∧ h.typ ≠ 9 ∧
        l.record.pcc = s.backup.pcc.toNat ∧ h.repWin ≠ 0 ∧ (h.mc - l.lastMc).toNat ≤ s.secMc h.repWin ∧
        l.record.rep < 0xFFFFFF ∧ s.backup.opt.toNat - l.record.opt ≤ 0xFFFF ∧
        ∀ e ∈ s.bushel.buf, e.record.serial ≠ l.record.serial ∧ l.slot = some k ∧ s.bushel.rewriting ≠ none) ∧
    (∃ (s : State) (h : Happening), s.alive = true ∧ s.bushel.closed = false ∧ s.sup.restorePend = false ∧
        s.bushel.ring = [h] ∧ s.bushel.summaryMode = false ∧ mergeRec h s = none ∧ s.bushel.logFull = false ∧
        s.bushel.scanDone = true ∧ s.bushel.buf.length < 16 ∧ h.sev < 5 ∧
        s.bushel.buf.countP (fun e => e.st == .unqueued) < 7) ∧
    (∃ (s : State) (h : Happening), s.alive = true ∧ s.bushel.closed = false ∧ s.sup.restorePend = false ∧
        s.bushel.ring = [h] ∧ s.bushel.summaryMode = false ∧ mergeRec h s = none ∧ s.bushel.logFull = false ∧
        s.bushel.scanDone = true ∧ 16 ≤ s.bushel.buf.length ∧
        (∀ e, e ∈ s.bushel.buf → e.st = .queued ∨ h.sev ≤ e.record.sev)) ∧
    (∃ (s : State) (h : Happening), s.alive = true ∧ s.bushel.closed = false ∧ s.sup.restorePend = false ∧
        s.bushel.ring = [h] ∧ s.bushel.summaryMode = true) := by
  and_intros
  · exact ⟨({ up with bushel.ring := [{ typ := 3, sev := 4, source := 20, mc := 9 }], bushel.last := some { record := { serial := 5, typ := 3, sev := 4, source := 20 } }, bushel.buf := [{ record := {} }, { record := { serial := 5, typ := 3, sev := 4, source := 20 } }] }),
      ({ typ := 3, sev := 4, source := 20, mc := 9 }),
      ({ record := { serial := 5, typ := 3, sev := 4, source := 20 } }), (1), by decide +kernel⟩
  · exact ⟨({ up with bushel.ring := [{ typ := 3, sev := 4, source := 20, mc := 9 }], bushel.last := some { record := { serial := 5, typ := 3, sev := 4, source := 20 } }, bushel.buf := [{ record := {} }, { record := { serial := 5, typ := 3, sev := 4, source := 20 }, st := .queued }] }),
      ({ typ := 3, sev := 4, source := 20, mc := 9 }),
      ({ record := { serial := 5, typ := 3, sev := 4, source := 20 } }), (1), by decide +kernel⟩
  · exact ⟨({ up with bushel.ring := [{ typ := 3, sev := 4, source := 20, mc := 9 }], bushel.last := some { record := { serial := 5, typ := 3, sev := 4, source := 20 }, slot := some 7 } }),
      ({ typ := 3, sev := 4, source := 20, mc := 9 }),
      ({ record := { serial := 5, typ := 3, sev := 4, source := 20 }, slot := some 7 }), (7), by decide +kernel⟩
  · exact ⟨({ up with bushel.ring := [{ typ := 3, sev := 4, source := 20, mc := 9 }], bushel.last := some { record := { serial := 5, typ := 3, sev := 4, source := 20 }, slot := some 7 }, bushel.rewriting := some { record := { serial := 5, typ := 3, sev := 4, source := 20 }, applied := 0 } }),
      ({ typ := 3, sev := 4, source := 20, mc := 9 }),
      ({ record := { serial := 5, typ := 3, sev := 4, source := 20 }, slot := some 7 }), (7), by decide +kernel⟩
  · exact ⟨({ up with bushel.ring := [{ typ := 3, sev := 4, source := 20, mc := 9 }], bushel.scanDone := true, bushel.nextSerial := 0xFFFFFFFF }),
      ({ typ := 3, sev := 4, source := 20, mc := 9 }), by decide +kernel⟩
  · exact ⟨({ up with bushel.ring := [{ typ := 3, sev := 4, source := 20, mc := 9 }], bushel.scanDone := true, bushel.last := some { record := { typ := 9 } }, bushel.buf := { record := { serial := 5, typ := 3, sev := 4, source := 20 } } :: List.replicate 15 { record := { sev := 1 }, st := .queued } }),
      ({ typ := 3, sev := 4, source := 20, mc := 9 }), by decide +kernel⟩
  · exact ⟨({ up with bushel.ring := [{ typ := 3, sev := 4, source := 20, mc := 9 }], bushel.summaryMode := true }),
      ({ typ := 3, sev := 4, source := 20, mc := 9 }), by decide +kernel⟩

theorem witness_FlushesQueueRecords :
    (∃ (s : State), s.bushel.ring = [] ∧ s.alive = true ∧ s.bushel.closed = false ∧ s.bushel.summaryMode = false ∧
        s.secMc 60 ≤ s.mcSince s.bushel.lastFlushMc ∧ s.bushel.scanDone = false ∧ s.bushel.buf ≠ []) ∧
    (∃ (s : State), s.bushel.ring = [] ∧ s.alive = true ∧ s.bushel.closed = false ∧ s.bushel.summaryMode = false ∧
        s.bushel.scanDone = true ∧ s.secMc 60 ≤ s.mcSince s.bushel.lastFlushMc ∧
        s.bushel.buf.filter (fun e => e.st == .unqueued) ≠ [] ∧
        (s.bushel.buf.filter (fun e => e.st == .unqueued)).length ≤ s.bushel.pool.length ∧ s.nvm.queue.length = 8) ∧
    (∃ (s : State), s.alive = true ∧ s.bushel.closed = false ∧ s.bushel.summaryMode = false ∧
        s.secMc 60 ≤ s.mcSince s.bushel.lastFlushMc ∧ s.bushel.ring = [] ∧ s.bushel.scanDone = true ∧
        s.bushel.buf.filter (fun e => e.st == .unqueued) ≠ [] ∧ s.nvm.queue.length = 8 ∧
        s.bushel.pool.length < (s.bushel.buf.filter (fun e => e.st == .unqueued)).length) := by
  refine ⟨?_, ?_, ?_⟩
  · exact ⟨({ up with chain.mc := 6000, bushel.buf := [{}] }), by decide +kernel⟩
  · exact ⟨({ up with chain.mc := 6000, bushel.scanDone := true, bushel.flushDue := true, bushel.buf := [{ record := { serial := 1 }, st := .queued }, { record := { serial := 2 } }, { record := { serial := 3 } }], bushel.pool := [5, 9, 11] }),
      by decide +kernel⟩
  · exact ⟨({ up with chain.mc := 6000, bushel.scanDone := true, bushel.flushes := 0xFFFFFFFF, bushel.buf := [{ record := { serial := 1 }, st := .queued }, { record := { serial := 2 } }, { record := { serial := 3 } }], bushel.pool := [5] }),
      by decide +kernel⟩

theorem witness_PoolRestored :
    (∃ (s : State), s.bushel.flushDue = false ∧ s.alive = true ∧ s.bushel.poolDue = true ∧ s.bushel.scanDone = true ∧
        s.bushel.closed = false ∧ s.bushel.summaryMode = false ∧
        24 ≤ s.bushel.pool.length + s.bushel.clearing.length + s.bushel.freeSlots.length + (12288 - s.bushel.fresh)) ∧
    (∃ (s : State) (v : IndexEntry), s.bushel.flushDue = false ∧ s.alive = true ∧ s.bushel.poolDue = true ∧
        s.bushel.scanDone = true ∧ s.bushel.closed = false ∧ s.bushel.summaryMode = false ∧ s.bushel.freeSlots = [] ∧
        12288 ≤ s.bushel.fresh ∧ s.bushel.pool.length + s.bushel.clearing.length = 23 ∧ v ∈ s.bushel.index ∧
        (∀ e, e ∈ s.bushel.index → v.sev ≤ e.sev) ∧ v.sev < 8 ∧
        (∀ e, e ∈ s.bushel.index → e.sev = v.sev → e ≠ v → laterMC e.serial v.serial = false ∧
        laterMC v.serial e.serial = true) ∧ s.bushel.index.Nodup) := by
  refine ⟨?_, ?_⟩
  · exact ⟨({ up with bushel.poolDue := true, bushel.scanDone := true, bushel.pool := [1, 2], bushel.freeSlots := [3, 4, 5], bushel.fresh := 12269 }),
      by decide +kernel⟩
  · exact ⟨({ up with bushel.poolDue := true, bushel.scanDone := true, bushel.pool := List.replicate 23 1, bushel.fresh := 12288, bushel.index := [{ slot := 3, serial := 9, sev := 2 }, { slot := 4, serial := 0xFFFFFFF0, sev := 2 }, { slot := 5, serial := 1, sev := 3 }] }),
      ({ slot := 4, serial := 0xFFFFFFF0, sev := 2 }), by decide +kernel⟩

theorem witness_ScanAndSummary :
    (∃ (s : State), s.alive = true ∧ s.bushel.scanDone = false ∧ s.bushel.summaryMode = false ∧
        s.bushel.closed = false ∧
        (s.nvm.bad.filter (fun c => c.1 == 1 && c.2 % 2 == 0 && decide (c.2 < 2 * 12288))).eraseDups.length ≤ 1024 ∧
        s.bushel.flushDue = false) ∧
    (∃ (s : State), s.alive = true ∧ s.bushel.scanDone = false ∧ s.bushel.summaryMode = false ∧
        s.bushel.closed = false ∧
        (s.nvm.bad.filter (fun c => c.1 == 1 && c.2 % 2 == 0 && decide (c.2 < 2 * 12288))).eraseDups.length ≤ 1024 ∧
        s.bushel.flushDue = true ∧ s.bushel.ring = [] ∧ ∃ e ∈ s.bushel.buf, e.st = .unqueued) ∧
    (∃ (s : State), s.alive = true ∧ s.bushel.scanDone = false ∧ s.bushel.summaryMode = false ∧
        s.bushel.closed = false ∧
        (s.nvm.bad.filter (fun c => c.1 == 1 && c.2 % 2 == 0 && decide (c.2 < 2 * 12288))).eraseDups.length ≤ 1024 ∧
        s.bushel.flushDue = false) ∧
    (∃ (s : State), s.alive = true ∧ s.bushel.summaryMode = true ∧ s.secMc 60 ≤ s.mcSince s.bushel.lastSumMc ∧
        s.bushel.closed = false ∧ nvBusy s.nvm 1 = false) ∧
    (∃ (s : State), s.alive = true ∧ s.bushel.summaryMode = true ∧ s.secMc 60 ≤ s.mcSince s.bushel.lastSumMc ∧
        s.bushel.closed = false ∧ nvBusy s.nvm 1 = true) ∧
    (∃ (s : State), s.alive = true ∧ s.bushel.summaryMode = true ∧ s.secMc 1 ≤ s.mcSince s.bushel.lastHistMc ∧
        s.bushel.sum.hist.length = 16 ∧ s.bushel.sum.ext.length = 16) := by
  refine ⟨?_, ?_, ?_, ?_, ?_, ?_⟩
  · exact ⟨({ up with nvm.bad := [(0, 4), (1, 6), (1, 7), (1, 6)] }), by decide +kernel⟩
  · exact ⟨({ up with bushel.flushDue := true, bushel.buf := [{}], chain.mc := 7 }), by decide +kernel⟩
  · exact ⟨({ up with nvm.bank1 := [(0, 7), (5, 4)] }), by decide +kernel⟩
  · exact ⟨({ up with bushel.summaryMode := true, chain.mc := 6000, bushel.sum.copy := some 0 }), by decide +kernel⟩
  · exact ⟨({ up with bushel.summaryMode := true, chain.mc := 6000, nvm.queue := [[], [{ job := .summary 0 }], [], [], [], [], [], []] }),
      by decide +kernel⟩
  · exact ⟨(upCw .snap 15 7 (w32 (2 ^ 31 + 3 * 2 ^ 26)) (upCw .snap 15 5 0x80000000 { up with bushel.summaryMode := true, chain.mc := 100 })),
      by decide +kernel⟩

theorem witness_ResetReleases :
    (∃ (s : State), s.sup.vmain = false ∧ (s.sup.phase = .backup ∨ s.sup.phase = .held .power) ∧ s.sup.railLow = false ∧
        s.sup.nrstLow = false ∧ s.sup.thermLow = false) ∧
    (∃ (s : State), s.sup.vmain = false ∧ (s.sup.phase = .backup ∨ s.sup.phase = .held .power) ∧ s.sup.railLow = false ∧
        s.sup.nrstLow = false ∧ s.sup.thermLow = false) ∧
    (∃ (s : State), s.sup.vmain = false ∧ (s.sup.phase = .backup ∨ s.sup.phase = .held .power) ∧ s.sup.nrstLow = true) ∧
    (∃ (s : State), s.sup.vmain = false ∧ (s.sup.phase = .backup ∨ s.sup.phase = .held .power) ∧ s.sup.nrstLow = true) ∧
    (∃ (s : State), s.sup.vmain = true ∧ s.sup.railLow = true ∧ s.sup.nrstLow = false ∧ s.sup.thermLow = false ∧
        s.sup.phase = .held .railUv) ∧
    (∃ (s : State), s.sup.vmain = true ∧ s.sup.nrstLow = true ∧ s.sup.railLow = false ∧ s.sup.thermLow = false ∧
        s.sup.phase = .held .nrst) ∧
    (∃ (s : State), s.sup.vmain = true ∧ s.sup.thermLow = true ∧ s.sup.railLow = false ∧ s.sup.nrstLow = false ∧
        s.sup.phase = .held .thermal) ∧
    (∃ (s : State), s.sup.vmain = true ∧ s.sup.nrstLow = true ∧ s.sup.thermLow = true ∧ s.sup.phase = .held .nrst) := by
  and_intros
  · exact ⟨({ State.reset with sup.phase := .backup, backup.marker := true }), by decide +kernel⟩
  · exact ⟨({ State.reset with sup.phase := .held .power, backup.marker := true }), by decide +kernel⟩
  · exact ⟨({ State.reset with sup.phase := .backup, sup.nrstLow := true, backup.marker := true }), by decide +kernel⟩
  · exact ⟨({ State.reset with sup.phase := .backup, sup.nrstLow := true }), by decide +kernel⟩
  · exact ⟨({ State.reset with sup.phase := .held .railUv, sup.vmain := true, sup.railLow := true, backup.marker := true }),
      by decide +kernel⟩
  · exact ⟨({ State.reset with sup.phase := .held .nrst, sup.vmain := true, sup.nrstLow := true, backup.marker := true }),
      by decide +kernel⟩
  · exact ⟨({ State.reset with sup.phase := .held .thermal, sup.vmain := true, sup.thermLow := true, backup.marker := true }),
      by decide +kernel⟩
  · exact ⟨({ State.reset with sup.phase := .held .nrst, sup.vmain := true, sup.nrstLow := true, sup.thermLow := true }),
      by decide +kernel⟩

theorem witness_ResetSources :
    (∃ (s : State), s.outOfReset = true) ∧
    (∃ (s : State), s.outOfReset = true) ∧
    (∃ (s : State), s.outOfReset = true ∧ s.sup.vmain = true) ∧
    (∃ (s : State), s.outOfReset = true ∧ s.sup.vmain = true) ∧
    (∃ (s : State), s.outOfReset = true ∧ s.sup.vmain = true ∧ s.sup.npfwLow = true ∧
        s.sup.pfwAt + 72000 ≤ s.chain.now) ∧
    (∃ (s : State), s.outOfReset = true ∧ s.sup.shutAt = none ∧ s.sup.softPend = true) ∧
    (∃ (s : State), s.outOfReset = true ∧ s.sup.shutAt = none) ∧
    (∃ (s : State), s.outOfReset = true ∧ s.sup.shutAt ≠ none) ∧
    (∃ (s : State) (r : Release), s.outOfReset = true ∧ s.sup.shutAt ≠ none ∧ s.sup.npfwLow = true ∧
        s.pfwMv + 1000 < r.vmain) ∧
    (∃ (s : State), s.outOfReset = true ∧ s.sup.shutAt ≠ none) ∧
    (∃ (s : State), s.outOfReset = true ∧ s.sup.shutAt ≠ none) ∧
    (∃ (s : State) (r : Release), s.outOfReset = true ∧ s.sup.shutAt = none ∧ s.sup.npfwLow = true ∧
        s.pfwMv + 1000 < r.vmain) ∧
    (∃ (s : State) (r : Release), s.outOfReset = true ∧ (s.sup.npfwLow = false ∨ r.vmain ≤ s.pfwMv + 1000)) := by
  and_intros
  · exact ⟨(pnlUp), by decide +kernel⟩
  · exact ⟨(pnlUp), by decide +kernel⟩
  · exact ⟨({ pnlUp with sup.vmain := true, sup.nrstLow := true }), by decide +kernel⟩
  · exact ⟨({ pnlUp with sup.vmain := true, nvm.bad := [(0, 1)] }), by decide +kernel⟩
  · exact ⟨({ pnlUp with sup.vmain := true, sup.npfwLow := true, sup.pfwAt := 5, chain.now := 72005 }),
      by decide +kernel⟩
  · exact ⟨({ pnlUp with sup.softPend := true }), by decide +kernel⟩
  · exact ⟨({ pnlUp with backup.marker := true }), by decide +kernel⟩
  · exact ⟨({ pnlUp with sup.shutAt := some 10, sup.npfwLow := true }), by decide +kernel⟩
  · exact ⟨({ pnlUp with sup.shutAt := some 10, sup.npfwLow := true }), ({ hsel := true, a0 := true, vmain := 19001 }),
      by decide +kernel⟩
  · exact ⟨({ pnlUp with sup.shutAt := some 10 }), by decide +kernel⟩
  · exact ⟨({ pnlUp with sup.shutAt := some 10 }), by decide +kernel⟩
  · exact ⟨({ pnlUp with sup.npfwLow := true }), ({ hsel := true, a0 := true, vmain := 19001 }), by decide +kernel⟩
  · exact ⟨({ pnlUp with sup.npfwLow := true }), ({ hsel := true, a0 := true, vmain := 19000 }), by decide +kernel⟩

theorem witness_PowerFailWarning :
    (∃ (s : State), s.sup.shutAt = none ∧ s.bus.held = [] ∧ s.outOfReset = true ∧ s.sup.npfwLow = false ∧
        s.released = true) ∧
    (∃ (s : State), s.outOfReset = true ∧ s.sup.npfwLow = false ∧ s.sup.shutAt = none ∧ s.bus.held = [] ∧
        (powerFailReady s).bushel.summaryMode = false ∧
        ((powerFailReady s).bushel.buf.filter (fun e => (nth (powerFailReady s).nvm.queue 0).all (fun o => match o.job with | .record n _ => n != e.record.serial | _ => true))).length ≤ (powerFailReady s).bushel.pool.length ∧
        (powerFailReady s).bushel.rewriting.isSome = true ∧
        nth (powerFailReady s).nvm.queue 1 = [{ job := .clear 8 }] ++ { job := .rewrite 3 } :: [] ∧
        5 ∈ (powerFailReady s).bushel.pool) ∧
    (∃ (s : State), s.sup.shutAt = none ∧ s.bus.held = [] ∧ s.outOfReset = true ∧ s.sup.npfwLow = false) := by
  refine ⟨?_, ?_, ?_⟩
  · exact ⟨({ pnlUp with nvm.queue := [[], [{ job := .rewrite 3 }], [{ job := .commit }], [], [], [], [], [{ job := .flash }]] }),
      by decide +kernel⟩
  · exact ⟨({ pnlUp with bushel.scanDone := true, bushel.pool := [4, 5, 6], bushel.nextSerial := 13, bushel.ring := [], bushel.rewriting := some { record := { serial := 3 }, applied := 0 }, bushel.pend := [{ record := { serial := 11, rep := 7 }, count := 1 }], bushel.buf := [{ record := { serial := 11 }, st := .queued }, { record := { serial := 12 } }], nvm.queue := [[{ job := .record 11 9 }], [{ job := .clear 8 }, { job := .rewrite 3 }], [], [], [], [], [], []] }),
      by decide +kernel⟩
  · exact ⟨({ pnlUp with sup.pfwTh := 20 }), by decide +kernel⟩

theorem witness_ControlPathReleased :
    (∃ (s : State), s.sup.npfwLow = false ∧ s.sup.phase = .scanning ∧ s.sup.restorePend = true ∧ s.nvm.bank1 = [] ∧
        s.nvm.bad = []) ∧
    (∃ (s : State) (l : Nat) (sec : Sec) (n : Nat) (g : Nat), s.sup.phase = .starting ∧ s.chain.st ≠ .start ∧
        s.chain.pt = 0 ∧ s.sup.npfwLow = false ∧ sec ≠ .chain ∧ sec ≠ .sol ∧ sec ≠ .loop ∧ n < 32 ∧
        n < s.act.ch.length ∧ g < 16 ∧ 1 ≤ l ∧ l ≤ 127 ∧ l < s.rood.loops.length ∧ (commitsRelease s).loopEn l = false ∧
        (commitsRelease s).pnlEn = true ∧ s.sup.cause = some .thermal ∧ s.sup.wdtPend = true ∧ s.sup.postRan = true) ∧
    (∃ (s : State) (l : Nat), s.sup.phase = .starting ∧ s.chain.st ≠ .start ∧ s.chain.pt = 0 ∧ s.sup.npfwLow = false ∧
        l ≤ 127 ∧ l < s.rood.loops.length ∧ 1 ≤ l ∧ (commitsRelease s).loopEn l = true) ∧
    (∃ (s : State) (l : Nat), s.sup.phase = .starting ∧ s.chain.st ≠ .start ∧ s.chain.pt = 0 ∧ s.sup.npfwLow = false ∧
        1 ≤ l ∧ l ≤ 127 ∧ l < s.rood.loops.length ∧ (commitsRelease s).loopEn l = true) := by
  refine ⟨?_, ?_, ?_, ?_⟩
  · exact ⟨({ State.reset with sup.phase := .scanning, sup.restorePend := true }), by decide +kernel⟩
  · exact ⟨({ upCw .loop 0 0 0 pnlUp with sup.phase := .starting, sup.mode := .startup, sup.modeReq := some .quiet, chain.st := .acquire, sup.cause := some .thermal, sup.wdtPend := true, sup.postRan := true }),
      (1), (.act), (31), (15), by decide +kernel⟩
  · exact ⟨(upCw .loop 126 0 (up.cw .loop 126 0 ||| 1) { up with sup.phase := .starting, sup.mode := .startup, chain.st := .acquire }),
      (127), by decide +kernel⟩
  · exact ⟨({ up with sup.phase := .starting, sup.mode := .startup, chain.st := .acquire, cfg.committed := up.cfg.committed.setWord .loop 126 0 (up.cw .loop 126 0 ||| 1), sup.modeReq := some .hold }),
      (127), by decide +kernel⟩

theorem witness_PortsAndFrames :
    (∃ (s : State) (p : Nat), p < 4 ∧ p < s.bus.ports.length ∧ s.portRuns p = false) ∧
    (∃ (s : State) (p : Nat) (w : Nat), p < 4 ∧ p < s.bus.ports.length ∧ s.portRuns p = true ∧ w < 64 ∧
        s.bus.held = [] ∧ s.cfg.inForce.length = 20 ∧ (s.cfg.inForce.sec .bus).length = 64) ∧
    (∃ (s : State) (p : Nat), p < 4 ∧ p < s.bus.ports.length ∧ s.portRuns p = true ∧
        (∀ w : Nat, w < 64 → s.cw .bus 0 w = s.cfg.committed.word .bus 0 w) ∧ rxLimit p ≤ (s.port p).rx ∧
        (s.port p).lastDropMc = none) ∧
    (∃ (s : State) (p : Nat), p < 4 ∧ p < s.bus.ports.length ∧ s.portRuns p = true ∧
        (∀ w : Nat, w < 64 → s.cw .bus 0 w = s.cfg.committed.word .bus 0 w) ∧ (s.port p).rx < rxLimit p) ∧
    (∃ (s : State) (p : Nat), p < 4 ∧ p < s.bus.ports.length ∧ s.portRuns p = true ∧
        (∀ w : Nat, w < 64 → s.cw .bus 0 w = s.cfg.committed.word .bus 0 w) ∧ (s.port p).rx < rxLimit p) ∧
    (∃ (s : State) (p : Nat), p < 4 ∧ p < s.bus.ports.length ∧ s.portRuns p = true ∧
        (∀ w : Nat, w < 64 → s.cw .bus 0 w = s.cfg.committed.word .bus 0 w) ∧ (s.port p).rx < rxLimit p) ∧
    (∃ (s : State) (p : Nat), p < 4 ∧ p < s.bus.ports.length ∧ s.portRuns p = true ∧
        (∀ w : Nat, w < 64 → s.cw .bus 0 w = s.cfg.committed.word .bus 0 w) ∧ (s.port p).rx < rxLimit p ∧
        s.carriesBac p = true ∧ (s.port p).tx < txLimit p) ∧
    (∃ (s : State) (p : Nat), p < 4 ∧ p < s.bus.ports.length ∧ s.portRuns p = true ∧
        (∀ w : Nat, w < 64 → s.cw .bus 0 w = s.cfg.committed.word .bus 0 w) ∧ (s.port p).rx < rxLimit p ∧
        s.carriesBac p = true ∧ txLimit p ≤ (s.port p).tx) ∧
    (∃ (s : State) (p : Nat), p < 4 ∧ p < s.bus.ports.length ∧ s.portRuns p = true ∧
        (∀ w : Nat, w < 64 → s.cw .bus 0 w = s.cfg.committed.word .bus 0 w) ∧ (s.port p).rx < rxLimit p ∧
        s.carriesBac p = true) ∧
    (∃ (s : State) (p : Nat), p < 4 ∧ p < s.bus.ports.length ∧ s.portRuns p = true ∧ s.bus.held = [] ∧
        (∀ w : Nat, w < 64 → s.cw .bus 0 w = s.cfg.committed.word .bus 0 w) ∧ (s.port p).taken < (s.port p).tx) ∧
    (∃ (s : State) (p : Nat), p < 4 ∧ p < s.bus.ports.length ∧ s.portRuns p = true ∧ p < 2 ∧ (s.port p).linkUp = true ∧
        (s.port p).linkUp ≠ false) ∧
    (∃ (s : State) (m : Msg) (p : Nat), s.executes 0x5001 m ∧ m.plain (4) ∧ p < 4 ∧ p < s.bus.ports.length ∧
        getB m.payload 0 = p ∧ padOk m 1 3 = true) ∧
    (∃ (s : State) (m : Msg) (p : Nat), s.executes 0x5002 m ∧ m.plain (4) ∧ p < 4 ∧ p < s.bus.ports.length ∧
        getB m.payload 0 = p ∧ padOk m 2 2 = true ∧ getB m.payload 1 = 0) ∧
    (∃ (s : State) (m : Msg) (p : Nat), s.executes 0x5002 m ∧ m.plain (4) ∧ p < 4 ∧ p < s.bus.ports.length ∧
        getB m.payload 0 = p ∧ padOk m 2 2 = true ∧ getB m.payload 1 = 1) ∧
    (∃ (s : State) (p : Nat), p < 4 ∧ p < s.bus.ports.length ∧ s.portRuns p = true ∧
        (∀ w : Nat, w < 64 → s.cw .bus 0 w = s.cfg.committed.word .bus 0 w) ∧ rxLimit p ≤ (s.port p).rx) ∧
    (∃ (s : State) (p : Nat), p < 4 ∧ p < s.bus.ports.length ∧ s.portRuns p = true ∧ s.bus.held = [] ∧
        (∀ w : Nat, w < 64 → s.cw .bus 0 w = s.cfg.committed.word .bus 0 w) ∧ (s.port p).tx ≤ (s.port p).taken) ∧
    (∃ (s : State) (p : Nat), p < 4 ∧ p < s.bus.ports.length ∧ s.portRuns p = true ∧ s.bus.held = [] ∧
        (∀ w : Nat, w < 64 → s.cw .bus 0 w = s.cfg.committed.word .bus 0 w) ∧ (s.port p).taken < (s.port p).tx) := by
  and_intros
  · exact ⟨(up), (3), by decide +kernel⟩
  · exact ⟨({ busSettled 0 0 with cfg.committed := (busSettled 0 0).cfg.committed.setWord .bus 0 1 0 }), (0), (1),
      by decide +kernel⟩
  · exact ⟨({ busSettled 0 0 with bus.ports := List.replicate 4 { rx := 4 } }), (0), by decide +kernel⟩
  · exact ⟨(busSettled 0 0), (0), by decide +kernel⟩
  · exact ⟨(busSettled 2 16), (2), by decide +kernel⟩
  · exact ⟨(busSettled 2 16), (2), by decide +kernel⟩
  · exact ⟨(busSettled 2 16), (2), by decide +kernel⟩
  · exact ⟨({ busSettled 2 16 with bus.ports := List.replicate 4 { tx := 8 } }), (2), by decide +kernel⟩
  · exact ⟨({ busSettled 2 16 with bus.outstanding := [{ client := 1 }, { client := 2 }] }), (2), by decide +kernel⟩
  · exact ⟨({ busSettled 2 16 with bus.ports := List.replicate 4 { tx := 8, rx := 2 } }), (2), by decide +kernel⟩
  · exact ⟨({ busSettled 0 0 with bus.ports := List.replicate 4 { linkUp := true } }), (0), by decide +kernel⟩
  · exact ⟨(busOn 3 32), ({ payload := [3, 0, 0, 0] }), (3), ⟨by decide +kernel, by decide +kernel, by decide +kernel,
      .inl (by decide +kernel)⟩, ⟨by decide +kernel, by decide +kernel⟩, by decide +kernel⟩
  · exact ⟨({ up with bus.ports := List.replicate 4 { rxErr := 5, covSent := 3 } }), ({ payload := [3, 0, 0, 0] }), (3),
      ⟨by decide +kernel, by decide +kernel, by decide +kernel, .inl (by decide +kernel)⟩, ⟨by decide +kernel,
      by decide +kernel⟩, by decide +kernel⟩
  · exact ⟨({ up with bus.ports := List.replicate 4 { rxErr := 5, covSent := 3 } }), ({ payload := [3, 1, 0, 0] }), (3),
      ⟨by decide +kernel, by decide +kernel, by decide +kernel, .inl (by decide +kernel)⟩, ⟨by decide +kernel,
      by decide +kernel⟩, by decide +kernel⟩
  · exact ⟨({ busSettled 2 16 with bus.ports := List.replicate 4 { rx := 16, lastDropMc := some 7 } }), (2),
      by decide +kernel⟩
  · exact ⟨({ busSettled 0 0 with bus.ports := List.replicate 4 { tx := 2, taken := 2 } }), (0), by decide +kernel⟩
  · exact ⟨({ busSettled 0 0 with bus.ports := List.replicate 4 { tx := 1 } }), (0), by decide +kernel⟩

theorem witness_BusReads :
    (∃ (s : State) (o : ObjId), s.busUp = true ∧ s.portTakes = true ∧ s.objExists o = false) ∧
    (∃ (s : State), s.busUp = true ∧ s.portTakes = true ∧
        s.served.readProp { typ := .bv, inst := 3 } .presentValue = .val (.enumerated 0)) ∧
    (∃ (s : State), s.busUp = true ∧ s.portTakes = true ∧
        s.served.readProp { typ := .ai, inst := 3 } .recordCount = .err .unknownProperty) ∧
    (∃ (s : State) (n : Nat), s.busUp = true ∧ s.portTakes = true ∧ n < 96 ∧ (nth s.sens.results n).value ≠ 0x80000001 ∧
        (nth s.sens.results n).value ≠ 0x7FFFFFFF ∧ (nth s.sens.results n).value ≠ 0x80000000) ∧
    (∃ (s : State) (n : Nat), s.busUp = true ∧ s.portTakes = true ∧ n < 96 ∧
        (nth s.sens.results n).value = 0x80000001) ∧
    (∃ (s : State) (n : Nat), s.busUp = true ∧ s.portTakes = true ∧ n < 96 ∧
        (nth s.sens.results n).value = 0x7FFFFFFF) ∧
    (∃ (s : State) (n : Nat), s.busUp = true ∧ s.portTakes = true ∧ n < 96 ∧
        (nth s.sens.results n).value = 0x80000000) ∧
    (∃ (s : State) (n : Nat), s.busUp = true ∧ s.portTakes = true ∧ n < 32) ∧
    (∃ (s : State) (n : Nat), s.busUp = true ∧ s.portTakes = true ∧ n < 16) ∧
    (∃ (s : State) (f : Nat), f < 3 ∧ s.busUp = true ∧ s.portTakes = true) ∧
    (∃ (s : State) (f : Nat), f < 4 ∧ s.busUp = true ∧ s.portTakes = true) ∧
    (∃ (s : State) (b : List Byte) (start : Nat), s.busUp = true ∧ s.portTakes = true ∧ cfgExport s = (s, .object b) ∧
        start ≤ b.length) ∧
    (∃ (s : State), s.busUp = true ∧ s.txRoom = true) ∧
    (∃ (s : State) (a : Nat) (b : Nat), s.busUp = true ∧ s.txRoom = true ∧ a ≤ s.devInst ∧ s.devInst ≤ b) ∧
    (∃ (s : State) (a : Nat), (s.devInst < a ∨ a < s.devInst)) ∧
    (∃ (s : State) (o : ObjId), s.busUp = true ∧ s.txRoom = true ∧ s.objExists o = true) ∧
    (∃ (s : State), s.released = true ∧ s.clk.pllLocked = true ∧ s.carriesBac s.bacPort = true ∧ 2 ≤ s.bacPort) ∧
    (∃ (s : State), s.released = true ∧ s.clk.pllLocked = true ∧ s.carriesBac s.bacPort = true ∧ s.bacPort < 2) ∧
    (∃ (s : State) (k : Nat), s.busUp = true ∧ s.portTakes = true ∧ k < 36 ∧
        (((nth s.bus.alarms k).active = true ∨ false ∈ (nth s.bus.alarms k).acked))) ∧
    (∃ (s : State), s.busUp = true ∧ s.portTakes = true) ∧
    (∃ (s : State), s.busUp = true ∧ s.portTakes = true) ∧
    (∃ (s : State), s.busUp = true ∧ s.txRoom = false) := by
  and_intros
  · exact ⟨(busOn 0 0), ({ typ := .av, inst := 4000 }), by decide +kernel⟩
  · exact ⟨(busOn 0 0), by decide +kernel⟩
  · exact ⟨(busOn 0 0), by decide +kernel⟩
  · exact ⟨({ busOn 0 0 with sens.results := List.replicate 96 { value := 0xFFE88000 } }), (95), by decide +kernel⟩
  · exact ⟨({ busOn 0 0 with sens.results := List.replicate 96 { value := 0x80000001 } }), (95), by decide +kernel⟩
  · exact ⟨({ busOn 0 0 with sens.results := List.replicate 96 { value := 0x7FFFFFFF } }), (95), by decide +kernel⟩
  · exact ⟨({ busOn 0 0 with sens.results := List.replicate 96 { value := 0x80000000 } }), (95), by decide +kernel⟩
  · exact ⟨(updZone 31 (fun z => { z with occ := true }) (busOn 0 0)), (31), by decide +kernel⟩
  · exact ⟨({ busOn 0 0 with bus.trends := List.replicate 16 { recs := [(7, 8), (9, 10)] } }), (15), by decide +kernel⟩
  · exact ⟨(busOn 0 0), (2), by decide +kernel⟩
  · exact ⟨(busOn 0 0), (3), by decide +kernel⟩
  · exact ⟨(busOn 0 0), (match (cfgExport (busOn 0 0)).2 with | .object b => b | _ => []), (0), (by decide +kernel),
      (by decide +kernel), rfl, Nat.zero_le _⟩
  · exact ⟨(busOn 0 0), by decide +kernel⟩
  · exact ⟨(busOn 3 32), (0), (4194303), by decide +kernel⟩
  · exact ⟨(busOn 3 32), (4194303), by decide +kernel⟩
  · exact ⟨(busOn 0 0), ({ typ := .ai, inst := 111 }), by decide +kernel⟩
  · exact ⟨({ busOn 2 16 with bus.dcc := .disabled, mbox.waiting := some { cmd := 0x0204 } }), by decide +kernel⟩
  · exact ⟨(busOn 1 0), by decide +kernel⟩
  · exact ⟨({ busOn 0 0 with bus.alarms := (List.replicate 36 {}).set 35 { acked := [true, false, true] } }), (35),
      by decide +kernel⟩
  · exact ⟨({ busOn 2 16 with bus.ports := List.replicate 4 { taken := 1, tx := 8 } }), by decide +kernel⟩
  · exact ⟨(busOn 2 16), by decide +kernel⟩
  · exact ⟨({ busOn 2 16 with bus.ports := List.replicate 4 { tx := 8 } }), by decide +kernel⟩

theorem witness_BusWrites :
    (∃ (s : State) (z : Nat) (q : Rat) (x : Int) (b : Word), commitFail s (withOutHold s (s.cfg.committed.setWords .zone (z * Sec.words .zone + 2) [merge 0xFFFF (s.cfg.committed.word .zone z 2) (w32 (wrap 16 x))])) =
        none ∧
        imgFind (s.lockBad (withOutHold s (s.cfg.committed.setWords .zone (z * Sec.words .zone + 2) [merge 0xFFFF (s.cfg.committed.word .zone z 2) (w32 (wrap 16 x))]))) =
        none ∧ s.busUp = true ∧ nth s.nvm.orphans 2 = 0 ∧ s.portTakes = true ∧ z < 32 ∧ b32Val b = some q ∧
        x = rneQ (q * 100) ∧ -32768 ≤ x ∧ x ≤ 32767 ∧ s.thermalBars = false ∧ s.bushel.closed = false ∧
        s.mgt.otp.signedCfg = false ∧ s.cfg.edit = none) ∧
    (∃ (s : State) (z : Nat) (q : Rat) (x : Int) (b : Word), s.busUp = true ∧ nth s.nvm.orphans 2 = 0 ∧
        s.portTakes = true ∧ z < 32 ∧ b32Val b = some q ∧ x = rneQ (q * 100) ∧ (x < -32768 ∨ 32767 < x)) ∧
    (∃ (s : State) (n : Nat), s.busUp = true ∧ nth s.nvm.orphans 2 = 0 ∧ s.portTakes = true ∧ n < 112) ∧
    (∃ (s : State) (o : ObjId), s.busUp = true ∧ nth s.nvm.orphans 2 = 0 ∧ s.portTakes = true ∧ s.objExists o = false) ∧
    (∃ (s : State) (z : Nat), s.busUp = true ∧ nth s.nvm.orphans 2 = 0 ∧ s.portTakes = true ∧ z < 32) ∧
    (∃ (s : State) (y : Nat) (z : Nat) (n : Nat), s.busUp = true ∧ nth s.nvm.orphans 2 = 0 ∧ s.portTakes = true ∧
        y < 32 ∧ z < 32 ∧ n < 112) ∧
    (∃ (s : State) (f : Nat) (data : List Byte), s.busUp = true ∧ nth s.nvm.orphans 2 = 0 ∧ s.portTakes = true ∧ f < 3 ∧
        data.length < 12 ∧ s.hostFile f = false) ∧
    (∃ (s : State) (f : Nat), s.busUp = true ∧ nth s.nvm.orphans 2 = 0 ∧ s.portTakes = true ∧ f < 3 ∧
        s.hostFile f = true) ∧
    (∃ (s : State) (f : Nat) (start : Nat), s.busUp = true ∧ nth s.nvm.orphans 2 = 0 ∧ s.portTakes = true ∧ f < 3 ∧
        start ≠ 0 ∧ s.bus.file.map FileObj.next ≠ some start) ∧
    (∃ (s : State) (f : Nat), s.busUp = true ∧ nth s.nvm.orphans 2 = 0 ∧ s.portTakes = true ∧ f < 4) ∧
    (∃ (s : State) (z : Nat), s.busUp = true ∧ nth s.nvm.orphans 2 = 0 ∧ s.portTakes = true ∧ z < 32) ∧
    (∃ (s : State) (y : Nat) (z : Nat), s.busUp = true ∧ nth s.nvm.orphans 2 = 0 ∧ s.portTakes = true ∧ y < 32 ∧
        z < 32) ∧
    (∃ (s : State), s.busUp = true ∧ nth s.nvm.orphans 2 = 0 ∧ s.portTakes = true) := by
  and_intros
  · exact ⟨(busOn 0 0), (31), (21), (2100), (0x41A80000), (zoneWord_ready (busOn 0 0) rfl rfl rfl).1,
      (zoneWord_ready (busOn 0 0) rfl rfl rfl).2, by and_intros <;> decide +kernel⟩
  · exact ⟨(busOn 0 0), (31), (400), (40000), (0x43C80000), by decide +kernel⟩
  · exact ⟨(busOn 0 0), (111), by decide +kernel⟩
  · exact ⟨(busOn 0 0), ({ typ := .ai, inst := 112 }), by decide +kernel⟩
  · exact ⟨(updZone 31 (fun x => { x with hostOff := true }) (busOn 0 0)), (31), by decide +kernel⟩
  · exact ⟨(busOn 0 0), (0), (31), (111), by decide +kernel⟩
  · exact ⟨(busOn 0 0), (2), (zeros 11), by decide +kernel⟩
  · exact ⟨({ busOn 0 0 with mbox.chunkIn := some { cmd := 0x0206 } }), (2), by decide +kernel⟩
  · exact ⟨(busOn 0 0), (0), (5), by decide +kernel⟩
  · exact ⟨(busOn 0 0), (3), by decide +kernel⟩
  · exact ⟨(busOn 0 0), (31), by decide +kernel⟩
  · exact ⟨(updZone 31 (fun x => { x with hostOff := true }) (busOn 0 0)), (0), (31), by decide +kernel⟩
  · exact ⟨({ busOn 0 0 with bus.ports := List.replicate 4 { taken := 1, tx := 4 } }), by decide +kernel⟩

theorem witness_BusNotifications :
    (∃ (s : State) (o : ObjId) (life : Nat) (cf : Bool), s.busUp = true ∧ s.portTakes = true ∧ s.objExists o = true ∧
        (o.typ = .ai ∨ o.typ = .av ∨ o.typ = .bv ∨ o.typ = .msv) ∧ life ≤ 28800 ∧ (life = 0 → cf = false) ∧
        (s.bus.subs.filter (fun x => !(x.client == 1 && x.procId == 2 && x.obj == o))).length < 256) ∧
    (∃ (s : State) (o : ObjId) (life : Nat) (cf : Bool), s.busUp = true ∧ s.portTakes = true ∧ s.objExists o = true ∧
        (o.typ = .ai ∨ o.typ = .av ∨ o.typ = .bv ∨ o.typ = .msv) ∧ life ≤ 28800 ∧ (life = 0 → cf = false) ∧
        256 ≤ (s.bus.subs.filter (fun x => !(x.client == 1 && x.procId == 2 && x.obj == o))).length) ∧
    (∃ (s : State), s.busUp = true ∧ s.portTakes = true) ∧
    (∃ (s : State) (c : CovSub), s.bus.subs[1]? = some c ∧ s.clk.pllLocked = true ∧ c.lifetime ≠ 0) ∧
    (∃ (s : State) (n : Nat) (tr : Nat), s.busUp = true ∧ s.portTakes = true ∧ 32 ≤ n ∧ n < 68 ∧ tr ≤ 2) ∧
    (∃ (s : State) (n : Nat), n < 32 ∧ s.busUp = true ∧ s.portTakes = true) ∧
    (∃ (s : State) (i : Nat), i < s.bus.outstanding.length ∧ s.clk.pllLocked = true) ∧
    (∃ (s : State) (n : Nat), n < 16 ∧ n < s.bus.trends.length ∧ s.released = true ∧ s.appUp = true ∧ s.trendInt n ≠ 0 ∧
        (s.trend n).recs.length ≤ 1024) ∧
    (∃ (s : State) (c : CovSub), s.released = true ∧ s.appUp = true ∧ s.atRelease = true ∧ s.bus.subs = [c] ∧
        s.bus.dcc = .enabled ∧ s.carriesBac s.bacPort = true ∧
        (∀ k : Nat, k < 36 → (s.alarm (32 + k)).active = s.bvOn (32 + k) ∧ (s.alarm (32 + k)).due = []) ∧
        s.covChanged c = false) ∧
    (∃ (s : State) (c : CovSub), s.released = true ∧ s.appUp = true ∧ s.atRelease = true ∧ s.bus.subs = [c] ∧
        s.bus.dcc = .enabled ∧ s.carriesBac s.bacPort = true ∧
        (∀ k : Nat, k < 36 → (s.alarm (32 + k)).active = s.bvOn (32 + k) ∧ (s.alarm (32 + k)).due = []) ∧
        s.covChanged c = true ∧ s.bacPort < s.bus.ports.length ∧ (s.port s.bacPort).tx < txLimit s.bacPort ∧
        (c.confirmed = false ∨ s.bus.outstanding.length < 8)) ∧
    (∃ (s : State) (k : Nat), s.released = true ∧ s.appUp = true ∧ s.atRelease = true ∧ s.bus.dcc ≠ .enabled ∧ k < 36 ∧
        s.bus.alarms.length = 36 ∧ (s.alarm (32 + k)).active ≠ s.bvOn (32 + k) ∧
        (s.alarm (32 + k)).stamps.length = 3) := by
  and_intros
  · exact ⟨({ busOn 0 0 with bus.subs := [{ obj := { typ := .ai, inst := 4 }, client := 1, procId := 2 }, { obj := { typ := .ai, inst := 4 }, client := 1, procId := 3 }] }),
      ({ typ := .ai, inst := 4 }), (28800), (true), by decide +kernel⟩
  · exact ⟨({ busOn 0 0 with bus.subs := List.replicate 256 {} }), ({ typ := .bv, inst := 67 }), (0), (false),
      by decide +kernel⟩
  · exact ⟨({ busOn 0 0 with bus.subs := [{ obj := { typ := .ai, inst := 4 }, client := 1, procId := 2 }] }),
      by decide +kernel⟩
  · exact ⟨({ busOn 0 0 with bus.subs := [{ lifetime := 9 }, { client := 3, lifetime := 4 }] }),
      ({ client := 3, lifetime := 4 }), by decide +kernel⟩
  · exact ⟨({ busOn 0 0 with bus.alarms := List.replicate 36 { acked := [false, false, false] } }), (67), (2),
      by decide +kernel⟩
  · exact ⟨(busOn 0 0), (31), by decide +kernel⟩
  · exact ⟨({ busOn 0 0 with bus.outstanding := [{ client := 1 }, { client := 2 }] }), (1), by decide +kernel⟩
  · exact ⟨({ upCw .bus 0 46 (up.cw .bus 0 46 ||| 60) up with bus.trends := List.replicate 16 { recs := List.replicate 1024 (1, 2), total := 9 } }),
      (15), by decide +kernel⟩
  · exact ⟨({ busOn 0 0 with bus.alarms := (List.range 36).map (fun k => { active := (busOn 0 0).bvOn (32 + k) }), bus.subs := [{ obj := { typ := .bv, inst := 3 }, lastVal := (busOn 0 0).presentWord { typ := .bv, inst := 3 }, lastFlags := (busOn 0 0).statusFlags { typ := .bv, inst := 3 }, due := false }] }),
      ({ obj := { typ := .bv, inst := 3 }, lastVal := (busOn 0 0).presentWord { typ := .bv, inst := 3 }, lastFlags := (busOn 0 0).statusFlags { typ := .bv, inst := 3 }, due := false }),
      by decide +kernel⟩
  · exact ⟨({ busOn 0 0 with bus.alarms := (List.range 36).map (fun k => { active := (busOn 0 0).bvOn (32 + k) }), bus.subs := [{ obj := { typ := .bv, inst := 3 }, lastVal := 1, confirmed := true, due := false }] }),
      ({ obj := { typ := .bv, inst := 3 }, lastVal := 1, confirmed := true, due := false }), by decide +kernel⟩
  · exact ⟨({ busOn 0 0 with bus.dcc := .disabled, bus.alarms := List.replicate 36 { active := false }, stone.refAlarm := true }),
      (35), by decide +kernel⟩

theorem witness_BusControl :
    (∃ (s : State) (d : Dcc), s.takes (.commControl 0 []) ∧ dccOf 0 = some d ∧ s.passOk [] = true ∧ s.bus.dcc ≠ d) ∧
    (∃ (s : State) (n : Nat) (pass : List Byte), s.takes (.commControl n pass) ∧ n ≤ 2 ∧ s.passOk pass = false) ∧
    (∃ (s : State) (n : Nat) (pass : List Byte), s.takes (.reinitialize n pass) ∧ s.passOk pass = true ∧ n ≤ 1) ∧
    (∃ (s : State), s.takes (.reinitialize 7 []) ∧ s.passOk [] = true ∧ s.mgt.upd.bankByFile = none) ∧
    (∃ (s : State), s.takes (.reinitialize 2 []) ∧ s.passOk [] = true) ∧
    (∃ (s : State), s.takes (.reinitialize 7 []) ∧ s.passOk [] = false) ∧
    (∃ (s : State), s.busUp = true ∧ stampOk 2024 2 29 23 59 59 = true) ∧
    (∃ (s : State), s.busUp = true ∧ stampOk 2024 2 29 23 59 59 = true ∧ s.dstShift = 0) ∧
    (∃ (s : State), (s.bus.fdSent = none ∨ (∃ q, s.bus.fdSent = some q ∧
        s.secMc (s.cf .bus 0 12 31 16) ≤ 2 * s.mcSince q.mc)) ∧ s.fdWanted = true ∧ s.txRoom = true) ∧
    (∃ (s : State), s.fdWanted = true ∧ s.bus.fdSent = some { mc := 1 } ∧
        2 * s.mcSince 1 < s.secMc (s.cf .bus 0 12 31 16)) ∧
    (∃ (s : State), s.fdWanted = true ∧ s.bus.fdPending = true ∧ s.bus.fdReg = false) ∧
    (∃ (s : State), s.fdWanted = true ∧ s.bus.fdPending = true) ∧
    (∃ (s : State) (o : ObjId) (p : PropId), s.busHears (.readProp o p) = true ∧ s.bacPort < s.bus.ports.length ∧
        s.bus.held = [] ∧ 0 < (s.port s.bacPort).rx + (s.port s.bacPort).taken ∧
        (s.appUp = false ∨ s.mbox.waiting ≠ none ∨ (s.port s.bacPort).taken = 0)) ∧
    (∃ (s : State) (o : ObjId) (p : PropId), s.busHears (.readProp o p) = true ∧ s.bacPort < s.bus.ports.length ∧
        s.bus.held = [] ∧ (s.port s.bacPort).rx = 0 ∧ (s.port s.bacPort).taken = 0 ∧
        txLimit s.bacPort ≤ (s.port s.bacPort).tx) ∧
    (∃ (s : State) (o : ObjId) (p : PropId), s.busHears (.readProp o p) = true ∧ s.bacPort < s.bus.ports.length ∧
        s.bus.held = [] ∧ (s.port s.bacPort).rx = 0 ∧ (s.port s.bacPort).taken = 0 ∧
        (s.port s.bacPort).tx < txLimit s.bacPort ∧ (s.appUp = false ∨ s.mbox.waiting ≠ none)) ∧
    (∃ (s : State) (o : ObjId) (p : PropId), s.busHears (.readProp o p) = true ∧ s.bacPort < s.bus.ports.length ∧
        (s.port s.bacPort).rx + (s.port s.bacPort).taken ≤ s.bus.held.length ∧
        rxLimit s.bacPort ≤ (s.port s.bacPort).rx) ∧
    (∃ (s : State) (o : ObjId) (p : PropId), s.bus.held = [.readProp o p] ∧ s.busHears (.readProp o p) = true ∧
        s.appUp = true ∧ s.mbox.waiting = none ∧ s.bacPort < 4 ∧ s.bacPort < s.bus.ports.length ∧
        (s.port s.bacPort).taken < (s.port s.bacPort).tx ∧ 0 < (s.port s.bacPort).rx + (s.port s.bacPort).taken ∧
        (∀ w : Nat, w < 64 → s.cw .bus 0 w = s.cfg.committed.word .bus 0 w)) ∧
    (∃ (s : State), (s.bus.fdSent = none ∨ (∃ q, s.bus.fdSent = some q ∧
        s.secMc (s.cf .bus 0 12 31 16) ≤ 2 * s.mcSince q.mc)) ∧ s.fdWanted = true ∧ s.txRoom = true) ∧
    (∃ (s : State), s.fdWanted = true ∧ s.txRoom = false) := by
  and_intros
  · exact ⟨({ busOn 0 0 with bus.dcc := .disabled }), (.enabled), ⟨by decide +kernel, by decide +kernel,
      by decide +kernel⟩, by and_intros <;> decide +kernel⟩
  · exact ⟨({ busOn 0 0 with cfg.inForce := (busOn 0 0).cfg.inForce.setWord .bus 0 17 7 }), (2), ([8]),
      ⟨by decide +kernel, by decide +kernel, by decide +kernel⟩, by and_intros <;> decide +kernel⟩
  · exact ⟨({ busOn 0 0 with cfg.inForce := (busOn 0 0).cfg.inForce.setWord .bus 0 17 7 }), (1), ([7]),
      ⟨by decide +kernel, by decide +kernel, by decide +kernel⟩, by and_intros <;> decide +kernel⟩
  · exact ⟨(busOn 0 0), ⟨by decide +kernel, by decide +kernel, by decide +kernel⟩, by and_intros <;> decide +kernel⟩
  · exact ⟨(busOn 0 0), ⟨by decide +kernel, by decide +kernel, by decide +kernel⟩, by decide +kernel⟩
  · exact ⟨({ busOn 0 0 with cfg.inForce := (busOn 0 0).cfg.inForce.setWord .bus 0 17 7 }), ⟨by decide +kernel,
      by decide +kernel, by decide +kernel⟩, by decide +kernel⟩
  · exact ⟨(busOn 0 0), by decide +kernel⟩
  · exact ⟨({ busOn 0 0 with cfg.inForce := (busOn 0 0).cfg.inForce.setWord .time 0 0 0x04000000 }), by decide +kernel⟩
  · exact ⟨(busOn 3 (32 + 128)), (Or.inl (by decide +kernel)), by and_intros <;> decide +kernel⟩
  · exact ⟨({ upCw .bus 0 12 (w32 (60 * 65536 + 47808)) (busOn 3 (32 + 128)) with chain.mc := 100, bus.fdSent := some { mc := 1 } }),
      by decide +kernel⟩
  · exact ⟨({ busOn 3 (32 + 128) with bus.fdPending := true }), by decide +kernel⟩
  · exact ⟨({ busOn 3 (32 + 128) with bus.fdPending := true }), by decide +kernel⟩
  · exact ⟨({ busOn 0 0 with bus.ports := List.replicate 4 { tx := 4, rx := 1 } }), ({ typ := .ai, inst := 3 }),
      (.presentValue), by decide +kernel⟩
  · exact ⟨({ busOn 0 0 with bus.ports := List.replicate 4 { tx := 4 } }), ({ typ := .ai, inst := 3 }), (.presentValue),
      by decide +kernel⟩
  · exact ⟨({ busOn 0 0 with mbox.waiting := some { cmd := 0x0204 } }), ({ typ := .ai, inst := 3 }), (.presentValue),
      by decide +kernel⟩
  · exact ⟨({ busOn 0 0 with bus.ports := List.replicate 4 { rx := 4, tx := 4, rxDrop := 8 }, bus.held := List.replicate 4 .eventInfo }),
      ({ typ := .ai, inst := 3 }), (.presentValue), by decide +kernel⟩
  · exact ⟨({ busSettled 0 0 with bus.ports := List.replicate 4 { rx := 1, tx := 4 }, bus.held := [.readProp { typ := .ai, inst := 3 } .presentValue] }),
      ({ typ := .ai, inst := 3 }), (.presentValue), by decide +kernel⟩
  · exact ⟨({ upCw .bus 0 12 (w32 (60 * 65536 + 47808)) (busOn 3 (32 + 128)) with chain.mc := 3000, bus.fdSent := some { mc := 0 } }),
      (Or.inr ⟨_, rfl, by decide +kernel⟩), by and_intros <;> decide +kernel⟩
  · exact ⟨({ busOn 3 (32 + 128) with bus.ports := List.replicate 4 { tx := 8 } }), by decide +kernel⟩

/-! ## Signed images

Whether a signature verifies is a free value (`Config`, notes/assumptions/2.md), so a witness for a container that passes
every step assumes that signatures verify. -/

/-- The SHA-256 digest of the empty message. -/
def emptyDigest : List Byte :=
  [0xE3, 0xB0, 0xC4, 0x42, 0x98, 0xFC, 0x1C, 0x14, 0x9A, 0xFB, 0xF4, 0xC8, 0x99, 0x6F, 0xB9, 0x24,
     0x27, 0xAE, 0x41, 0xE4, 0x64, 0x9B, 0x93, 0x4C, 0xA4, 0x95, 0x99, 0x1B, 0x78, 0x52, 0xB8, 0x55]

/-- A firmware container with an empty payload, `KEY_SLOT` 1 and version 0x0100_0005. -/
def emptyCont : List Byte :=
  [0x43, 0x55, 0x33, 0x5A, 1, 0, 1, 0, 0x5C, 0x22, 0, 0, 0, 0, 0, 0, 5, 0, 0, 1, 1] ++ zeros 19 ++ emptyDigest ++ zeros 56 ++
  ([0x42, 0x53, 0x33, 0x5A, 0, 0, 0, 0] ++ zeros 384 ++ [1, 0, 1, 0] ++ zeros 384 ++ List.replicate 32 9 ++ zeros 7856)

/-- Key slot 1 filled with the keys of `emptyCont`: the digest of its RSA key, and its SLH-DSA key. -/
def slotOne : Otp :=
  { kind := [7, 7, 0, 0], keys := [[
      0xC0, 0x1C, 0xF9, 0x8A, 0x7A, 0x32, 0xAB, 0x65, 0x6C, 0xB8, 0x04, 0xDF, 0x83, 0x08, 0xF8, 0x1E,
      0x93, 0x84, 0x46, 0xD7, 0x3D, 0x91, 0xA4, 0x30, 0x77, 0x2A, 0xFB, 0xA2, 0xF3, 0x9C, 0x9B, 0x44] ++
      List.replicate 32 9, [], []] }

/-- `up` with `emptyCont` in bank B, being verified. -/
def verifying : State :=
  { up with
    mgt.otp := slotOne, mgt.mr.floorFw := 0, mgt.flash := [[], emptyCont],
    mgt.upd := { state := 2, kind := 1, bank := 1 } }

theorem bankStep_one (s : State) (h : s.bankBad 1 = false) :
    bankStep s 1 = contStep s [1] fwLimit (nth s.mgt.flash 1) := by
  unfold bankStep
  rw [if_neg (by simp [h]), if_neg (by simp)]

theorem witness_ImageVerification_signed
    (hr : ∀ n e msg sig, Config.rsaPssVerify n e msg sig = true) (hs : ∀ k msg sig, Config.slhDsaVerify k msg sig = true) :
    ∃ s : State, bankStep s s.mgt.upd.bank = none ∧ s.alive = true ∧ s.mgt.upd.state = 2 ∧ s.mgt.att.running = false ∧
      nvBusy s.nvm 7 = false ∧ s.bushel.closed = false ∧ s.nvm.halted = false ∧ s.mgt.upd.kind = 1 ∧
      nth s.nvm.queue 5 = [] ∧ 5 < s.nvm.queue.length := by
  refine ⟨verifying, ?_, by and_intros <;> decide +kernel⟩
  have f : contFormatOk [1] 2097152 emptyCont = true := by decide +kernel
  have b : contBindOk emptyCont = true := by decide +kernel
  have k : contKeyOk verifying.mgt.otp emptyCont = true := by decide +kernel
  have d : (sha256 (digestInput (contKind emptyCont) (contPayload emptyCont)) != slice emptyCont 0x28 32) = false := by
    decide +kernel
  have v : floorOk verifying (contKind emptyCont) (contVersion emptyCont) = true := by decide +kernel
  refine (bankStep_one verifying (by decide +kernel)).trans ?_
  show contStep verifying [1] 2097152 emptyCont = none
  unfold contStep
  rw [f, b, k, d, v]
  simp only [hr, hs]
  rfl

theorem contStep_mgt (s t : State) (kinds : List Nat) (limit : Nat) (c : List Byte) (ho : s.mgt.otp = t.mgt.otp)
    (hr : s.mgt.mr = t.mgt.mr) : contStep s kinds limit c = contStep t kinds limit c := by
  unfold contStep floorOk
  rw [ho, hr]

theorem wfContStep_mgt (s t : State) (c : List Byte) (ho : s.mgt.otp = t.mgt.otp) (hr : s.mgt.mr = t.mgt.mr) :
    wfContStep s c = wfContStep t c := by
  unfold wfContStep
  rw [contStep_mgt s t [2] 131072 c ho hr]

/-- For every waveform image that `up` accepts, the premises of its successful verification in `ImageVerification`. -/
theorem witness_ImageVerification_waveform (c : List Byte) (h : wfContStep up c = none) :
    ∃ s : State, s.alive = true ∧ s.mgt.upd.state = 2 ∧ s.mgt.att.running = false ∧ nvBusy s.nvm 7 = false ∧
      s.bushel.closed = false ∧ s.nvm.halted = false ∧ s.mgt.upd.kind = 2 ∧ wfContStep s s.mgt.upd.image = none := by
  refine ⟨{ up with mgt.upd := { state := 2, kind := 2, image := c } }, ?_, ?_, ?_, ?_, ?_, ?_, ?_, ?_⟩
  · exact (show up.alive = true by decide +kernel)
  · rfl
  · exact (show up.mgt.att.running = false by decide +kernel)
  · exact (show nvBusy up.nvm 7 = false by decide +kernel)
  · exact (show up.bushel.closed = false by decide +kernel)
  · exact (show up.nvm.halted = false by decide +kernel)
  · rfl
  · exact (wfContStep_mgt _ up c rfl rfl).trans h

theorem cfgContainer_mgt (s t : State) (d : List Byte) (h : s.mgt = t.mgt) : cfgContainer s d = cfgContainer t d := by
  unfold cfgContainer contStep floorOk
  rw [h]

/-- For every container that `up` accepts, a state that holds all of it but the last chunk, and the message that brings that
chunk: the premises of `CFG.LOAD`'s success in `ConfigurationGroup`. -/
theorem witness_ConfigurationGroup_signed (d : List Byte) (img : Image) (hd : cfgContainer up d = .inr img)
    (hl : d.length = 23992) :
    ∃ (s : State) (m : Msg) (c : ChunkIn), s.executes 0x0206 m ∧ m.chunk = true ∧ m.last = true ∧ s.mbox.chunkIn = some c ∧
      c.cmd = 0x0206 ∧ c.next ≠ 0 ∧ 8 ≤ m.payload.length ∧ getH m.payload 0 = c.next ∧ getH m.payload 2 = 0 ∧
      getW m.payload 4 = c.total ∧ chunkLenOk c.next c.total (m.payload.length - 8) true = true ∧
      cfgContainer s (c.data ++ m.payload.drop 8) = .inr img := by
  have hm : ([5, 0, 0, 0, 0xB8, 0x5D, 0, 0] ++ d.drop 20360 : List Byte).length = 3640 := by simp [hl]
  refine ⟨{ up with mbox.chunkIn := some { cmd := 0x0206, total := 23992, next := 5, data := d.take 20360 } },
    { chunk := true, last := true, payload := [5, 0, 0, 0, 0xB8, 0x5D, 0, 0] ++ d.drop 20360 },
    { cmd := 0x0206, total := 23992, next := 5, data := d.take 20360 }, ⟨rfl, rfl, ?_, .inl rfl⟩, rfl, rfl, rfl, rfl,
    Nat.succ_ne_zero 4, ?_, ?_, ?_, ?_, ?_, ?_⟩
  · exact (show up.nvBars 0x0206 = false by decide +kernel)
  · exact hm ▸ (by decide : 8 ≤ 3640)
  · rfl
  · rfl
  · exact (by decide +kernel : unle [0xB8#8, 0x5D#8, 0#8, 0#8] = 23992)
  · dsimp only; rw [hm]; decide +kernel
  · refine ((cfgContainer_mgt _ up _ rfl).trans (congrArg (cfgContainer up) ?_)).trans hd
    exact List.take_append_drop 20360 d

end Sys2Proof.Tests
end

namespace Sys2Proof.Machine

/-! PROOFS. The scope's statements: what reset leaves, what the reading commands return, and what an access of the host window does. -/

/-! ## Raising a source (R336-R339) -/

/-- The bit of a source in the event registers. -/
theorem sourceBit_getLsbD (src b : Nat) (hb : b < 128) : (BitVec.ofNat 128 (2 ^ src)).getLsbD b = decide (b = src) := by
  rw [BitVec.getLsbD_ofNat, Nat.testBit_two_pow, decide_eq_true hb, Bool.true_and]
  exact decide_eq_decide.mpr eq_comm

theorem and_sourceBit_eq_zero_iff (x : BitVec 128) (src : Nat) (h : src < 128) :
    x &&& BitVec.ofNat 128 (2 ^ src) = 0 ↔ x.getLsbD src = false := by
  constructor
  · intro hz
    have hb : (x &&& BitVec.ofNat 128 (2 ^ src)).getLsbD src = false := by rw [hz]; exact BitVec.getLsbD_zero
    rwa [BitVec.getLsbD_and, sourceBit_getLsbD src src h, decide_eq_true rfl, Bool.and_true] at hb
  · intro hx
    refine BitVec.eq_of_getLsbD_eq fun b hb => ?_
    rw [BitVec.getLsbD_and, sourceBit_getLsbD src b hb]
    by_cases e : b = src
    · rw [e, hx]; simp
    · simp [e]

/-- R337: a source that the mask leaves out gives no entry. -/
theorem raiseWith_of_masked {src code detail : Nat} {s : State} (h : src < 128) (hm : s.evt.mask.getLsbD src = false) :
    raiseWith src code detail s = { s with evt.summary := s.evt.summary ||| BitVec.ofNat 128 (2 ^ src) } := by
  rw [raiseWith]
  exact if_pos ((and_sourceBit_eq_zero_iff _ _ h).mpr hm)

/-- R337: an unmasked source appends an entry while fewer than 256 wait. -/
theorem raiseWith_of_room {src code detail : Nat} {s : State} (h : src < 128) (hm : s.evt.mask.getLsbD src = true)
    (hq : s.evt.queue.length < 256) :
    raiseWith src code detail s = { s with
      evt.summary := s.evt.summary ||| BitVec.ofNat 128 (2 ^ src),
      evt.queue := s.evt.queue ++ [{ source := src, code := code, detail := detail, mc := s.chain.mc }] } := by
  have hz : ¬s.evt.mask &&& BitVec.ofNat 128 (2 ^ src) = 0 := 
    mt (and_sourceBit_eq_zero_iff _ _ h).mp (by simp [hm])
  rw [raiseWith]
  exact (if_neg hz).trans (if_pos hq)

/-- R339: with 256 entries waiting the event is lost, and noted. -/
theorem raiseWith_of_full {src code detail : Nat} {s : State} (h : src < 128) (hm : s.evt.mask.getLsbD src = true)
    (hq : 256 ≤ s.evt.queue.length) :
    raiseWith src code detail s = { s with
      evt.summary := s.evt.summary ||| BitVec.ofNat 128 (2 ^ src),
      evt.lost := s.evt.lost ||| BitVec.ofNat 128 (2 ^ src) } := by
  have hz : ¬s.evt.mask &&& BitVec.ofNat 128 (2 ^ src) = 0 := 
    mt (and_sourceBit_eq_zero_iff _ _ h).mp (by simp [hm])
  rw [raiseWith]
  exact (if_neg hz).trans (if_neg (Nat.not_lt.mpr hq))

theorem raiseWith_frame (src code detail : Nat) (s : State) :
    raiseWith src code detail s = { s with evt := (raiseWith src code detail s).evt } := by
  unfold raiseWith
  dsimp only
  split
  · rfl
  · split <;> rfl

theorem raiseWith_mask (src code detail : Nat) (s : State) : (raiseWith src code detail s).evt.mask = s.evt.mask := by
  unfold raiseWith
  dsimp only
  split
  · rfl
  · split <;> rfl

/-- What a raise leaves in the event registers depends on those and on the MC alone. -/
theorem raiseWith_evt_congr {src code detail : Nat} {s t : State} (he : s.evt = t.evt) (hc : s.chain.mc = t.chain.mc) :
    (raiseWith src code detail s).evt = (raiseWith src code detail t).evt := by
  unfold raiseWith
  dsimp only
  rw [he, hc]
  split
  · rfl
  · split <;> rfl

/-- R491: a happening that the ring takes raises nothing. -/
theorem deposit_evt_of_room {h : Happening} {s : State} (hc : s.bushel.closed = false) (hr : s.bushel.ring.length < 64) :
    (deposit h s).evt = s.evt := by
  unfold deposit
  rw [if_neg]
  simp [hc, hr]

/-- While the ring takes records a report's events are those of its raise. -/
theorem report_evt_of_room {src typ sev inst : Nat} {s : State} (hc : s.bushel.closed = false)
    (hr : s.bushel.ring.length < 64) : (report src typ sev inst s).evt = (raiseWith src 0 0 s).evt := by
  have frame := congrArg State.bushel (raiseWith_frame src 0 0 s)
  exact deposit_evt_of_room (s := raise src s) (by rw [raise, frame]; exact hc) (by rw [raise, frame]; exact hr)

/-! ## Commands that only report -/

@[simp] theorem bodyState_waiting (code : Nat) (s : State) : (bodyState code s).mbox.waiting = s.mbox.waiting := rfl
@[simp] theorem bodyState_accepted (code : Nat) (s : State) : (bodyState code s).mbox.accepted = [] := rfl

/-- Before a command's body runs, only the mailboxes have changed. -/
theorem bodyState_frame (code : Nat) (s : State) : ∃ mb, bodyState code s = { s with mbox := mb } := ⟨_, rfl⟩

theorem State.executes.waiting_none {s : State} {code : Nat} {m : Msg} (h : s.executes code m) : s.mbox.waiting = none := by
  obtain ⟨-, hw, -, -⟩ := h
  exact hw

/-- R340: a message without `CHUNK` of an allowed length passes the length check of a command whose payload fits. -/
theorem lenOk_of_plain {c : CmdSpec} {m : Msg} {n : Nat} (hp : m.plain n) (hn : c.len n = true)
    (hf : c.fits m.payload = true) : c.lenOk m = true := by
  obtain ⟨hc, hl⟩ := hp
  rw [lenOk_plain c m hc, hl, hn, hf, Bool.and_true]

/-- R327: a command whose body leaves the state as it is and answers at once. -/
theorem answers_of_body {i : Instr} {c : CmdSpec} {m : Msg} {n : Nat} {body : Msg → State → State × Reply} {s : State}
    {st : Nat} {pl : List Byte} (hi : exec i s = .next (command c m body s)) (h : s.executes c.code m) (hp : m.plain n)
    (hn : c.len n = true) (hf : c.fits m.payload = true) (hs : c.signedBars = false)
    (hb : body m (bodyState c.code s) = (bodyState c.code s, .done st pl)) : Answers i s c.code m st pl s := by
  refine command_answers i c m body s s st pl hi h hp.1 (lenOk_of_plain hp hn hf) (by rw [hs]; rfl) (by rw [hb]) ?_
    (by rw [hb]; rfl) ?_
  · rw [hb]; exact h.waiting_none
  · obtain ⟨mb, he⟩ := bodyState_frame c.code s
    exact ⟨mb, s.evt, by rw [hb]; exact he⟩

/-- R327: a command whose payload is a function of the state. -/
theorem answers_of_report {i : Instr} {c : CmdSpec} {m : Msg} {n : Nat} {f : State → List Byte} {s : State}
    {pl : List Byte} (hi : exec i s = .next (command c m (report' f) s)) (h : s.executes c.code m) (hp : m.plain n)
    (hn : c.len n = true) (hf : c.fits m.payload = true) (hs : c.signedBars = false)
    (hb : f (bodyState c.code s) = pl) : Answers i s c.code m 0 pl s :=
  answers_of_body hi h hp hn hf hs (by rw [report', hb]; rfl)

/-- R340: a command over a range answers the bytes of each of the range, then its tail. -/
theorem rangeCmd_some {n f k : Nat} {g : State → Nat → List Byte} {tail : State → List Byte} {m : Msg} (s : State)
    (h : rangeArg n m = some (f, k)) :
    rangeCmd n g tail m s = (s, .done 0 ((List.range k).flatMap (fun i => g s (f + i)) ++ tail s)) := by
  rw [rangeCmd, h]; rfl

/-- R340, R344: a wrong range is `ST_BAD_ARG`. -/
theorem rangeCmd_none {n : Nat} {g : State → Nat → List Byte} {tail : State → List Byte} {m : Msg} (s : State)
    (h : rangeArg n m = none) : rangeCmd n g tail m s = (s, .done 0x0104 []) := by
  rw [rangeCmd, h]; rfl

@[simp] theorem raiseWith_mbox (src code detail : Nat) (s : State) : (raiseWith src code detail s).mbox = s.mbox := by
  rw [raiseWith_frame]

/-- R327: the answer leaves the held response objects alone. -/
@[simp] theorem respond_respObj (r : Resp) (b : Option (Nat × Nat)) (s : State) :
    (respond r b s).mbox.respObj = s.mbox.respObj := by
  cases b with
  | none => rfl
  | some p => simp [respond]

/-- R330, R332: a command whose body leaves the state as it is and answers an object. -/
theorem answersObject_of_body {i : Instr} {c : CmdSpec} {m : Msg} {n : Nat} {body : Msg → State → State × Reply}
    {s : State} {data : List Byte} (hi : exec i s = .next (command c m body s)) (h : s.executes c.code m)
    (hp : m.plain n) (hn : c.len n = true) (hf : c.fits m.payload = true) (hs : c.signedBars = false)
    (hb : body m (bodyState c.code s) = (bodyState c.code s, .object data)) : AnswersObject i s c.code m data := by
  obtain ⟨b, hrun⟩ := command_run c m body s h hp.1 (lenOk_of_plain hp hn hf) (by rw [hs]; rfl)
  have hw := h.waiting_none
  rw [hb] at hrun
  simp only [answer] at hrun
  constructor
  · intro hlen
    rw [if_pos hlen, drain_nil _ (by simp)] at hrun
    refine ⟨_, hi.trans (congrArg _ hrun), by simp, by simp [hw], by simp, ?_⟩
    conv_lhs => rw [respond_frame]
    rfl
  · intro hlen
    rw [if_neg (by omega), drain_nil _ (by simp)] at hrun
    refine ⟨_, hi.trans (congrArg _ hrun), by simp, by rw [respond_respObj]; rfl, by simp [hw], by simp, ?_⟩
    conv_lhs => rw [respond_frame]
    rfl

/-- Settles O34: each command is a report, a range or an object over a state that it leaves as it is. -/
theorem readingCommands : Obligations.ReadingCommands := by
  intro s m
  refine ⟨fun h hp => ?idGet, fun f k hr h hp => ?sensRead, fun hr h hp => ?badRange, fun f k hr h hp => ?sensPres,
    fun h hp => ?sensHk, fun h hp => ?acreStatus, fun h hp => ?acreMembers⟩
  case idGet => exact answers_of_report (c := { code := 0x0101 }) rfl h hp rfl rfl rfl rfl
  case sensRead =>
    refine answers_of_body (c := { code := 0x1001, len := fun n => n == 4 }) rfl h hp rfl rfl rfl ?_
    rw [rangeCmd_some _ hr, List.append_nil]
    rfl
  case badRange =>
    exact answers_of_body (c := { code := 0x1001, len := fun n => n == 4 }) rfl h hp rfl rfl rfl (rangeCmd_none _ hr)
  case sensPres =>
    refine answers_of_body (c := { code := 0x1002, len := fun n => n == 4 }) rfl h hp rfl rfl rfl ?_
    rw [rangeCmd_some _ hr, List.append_nil]
    rfl
  case sensHk => exact answers_of_report (c := { code := 0x1003 }) rfl h hp rfl rfl rfl rfl
  case acreStatus => exact answers_of_report (c := { code := 0x5101 }) rfl h hp rfl rfl rfl rfl
  case acreMembers =>
    exact answersObject_of_body (c := { code := 0x5103, chunks := .fetch }) rfl h hp rfl rfl rfl rfl

/-! ## The state that reset leaves -/

/-- R353, R434: every GPIO pin is an input at reset. -/
theorem reset_gpio_input : ∀ g, g < 16 → State.reset.cf .gpio g 0 7 6 = 0 := by decide +kernel

/-- R465, R536: the delivered version has epoch 0. -/
theorem mgtDelivered_verA_lt : mgtDelivered.verA.toNat < 2 ^ 24 :=
  Nat.lt_of_le_of_lt (Nat.mod_le _ _) Config.verARelease.isLt

theorem reset_nvWf : State.reset.nvWf := ⟨rfl, rfl⟩

theorem reset_provWf : State.reset.provWf := fun _ h => nomatch h

/-- Settles O2: the fields are those that `State.reset` and the types' defaults write; the delivered version and the two
invariants are lemmas of their own. -/
theorem resetLeaves : Obligations.ResetLeaves := by
  unfold Obligations.ResetLeaves
  refine ⟨rfl, rfl, rfl, by decide, rfl, rfl, rfl, rfl, rfl, by decide, rfl, rfl, by decide, reset_gpio_input, rfl,
    mgtDelivered_verA_lt, rfl, rfl, rfl, rfl, rfl, rfl, rfl, rfl, rfl, rfl, rfl, reset_nvWf, reset_provWf⟩

/-! ## Bits and fields of a register -/

theorem bit_eq_getLsbD (w : Word) (n : Nat) : bit w n = w.getLsbD n := rfl

/-- R336: word k of an event register holds the sources 32 k to 32 k + 31. -/
theorem evPlace_getLsbD (v : Word) (k b : Nat) (hb : b < 128) :
    (evPlace v k).getLsbD b = (decide (b / 32 = k) && v.getLsbD (b % 32)) := by
  simp only [evPlace, BitVec.getLsbD_shiftLeft, BitVec.getLsbD_setWidth]
  rcases Nat.lt_trichotomy (b / 32) k with h | h | h
  · simp [show b < 32 * k by omega, show b / 32 ≠ k by omega]
  · simp [show ¬b < 32 * k by omega, hb, h, show b - 32 * k = b % 32 by omega, show b % 32 < 128 by omega]
  · simp [show b / 32 ≠ k by omega, BitVec.getLsbD_of_ge v (b - 32 * k) (by omega)]

/-- The word of all ones covers its word whole. -/
theorem evPlace_ones_getLsbD (k b : Nat) (hb : b < 128) : (evPlace 0xFFFFFFFF k).getLsbD b = decide (b / 32 = k) := by
  have ones : (0xFFFFFFFF : Word) = BitVec.allOnes 32 := rfl
  rw [evPlace_getLsbD _ _ _ hb, ones, BitVec.getLsbD_allOnes, decide_eq_true (Nat.mod_lt b (by decide)), Bool.and_true]

/-! ## Doorbells (R325) -/

/-- What a doorbell works on: the states and pointers of its mailboxes, those it has moved, and whether it refused one. -/
structure Bell (α : Type) where
  st : List α
  ptr : List Nat
  moved : List Nat
  bad : Bool

namespace Bell

variable {α : Type} [Inhabited α] [DecidableEq α] (v : Word) (old new : α)

/-- The doorbell names the mailbox, and the mailbox is in the state that the doorbell takes it from. -/
def goes (b : Bell α) (i : Nat) : Bool := v.getLsbD i && decide (nth b.st i = old)

/-- The doorbell names the mailbox, and the mailbox is in another state. -/
def refuses (b : Bell α) (i : Nat) : Bool := v.getLsbD i && decide (nth b.st i ≠ old)

/-- One bit of a doorbell. -/
def ring (b : Bell α) (i : Nat) : Bell α :=
  if b.goes v old i then { b with st := b.st.set i new, ptr := b.ptr.set i 0, moved := b.moved ++ [i] }
  else { b with bad := b.bad || b.refuses v old i }

variable {v old new}

theorem refuses_of_goes {b : Bell α} {i : Nat} (h : b.goes v old i = true) : b.refuses v old i = false := by
  simp_all [goes, refuses]

@[simp] theorem ring_st_length (b : Bell α) (i : Nat) : (b.ring v old new i).st.length = b.st.length := by
  unfold ring; split <;> simp

@[simp] theorem ring_ptr_length (b : Bell α) (i : Nat) : (b.ring v old new i).ptr.length = b.ptr.length := by
  unfold ring; split <;> simp

theorem ring_st_ne (b : Bell α) {i j : Nat} (h : j ≠ i) : nth (b.ring v old new i).st j = nth b.st j := by
  unfold ring; split
  · exact nth_set_ne _ _ _ _ h
  · rfl

theorem ring_ptr_ne (b : Bell α) {i j : Nat} (h : j ≠ i) : nth (b.ring v old new i).ptr j = nth b.ptr j := by
  unfold ring; split
  · exact nth_set_ne _ _ _ _ h
  · rfl

theorem ring_st_self (b : Bell α) {i : Nat} (h : i < b.st.length) :
    nth (b.ring v old new i).st i = if b.goes v old i then new else nth b.st i := by
  unfold ring; split
  · exact nth_set_self _ _ _ h
  · rfl

theorem ring_ptr_self (b : Bell α) {i : Nat} (h : i < b.ptr.length) :
    nth (b.ring v old new i).ptr i = if b.goes v old i then 0 else nth b.ptr i := by
  unfold ring; split
  · exact nth_set_self _ _ _ h
  · rfl

theorem ring_moved (b : Bell α) (i : Nat) :
    (b.ring v old new i).moved = b.moved ++ [i].filter (b.goes v old) := by
  unfold ring; split <;> simp_all

theorem ring_bad (b : Bell α) (i : Nat) : (b.ring v old new i).bad = (b.bad || b.refuses v old i) := by
  unfold ring; split
  · rw [refuses_of_goes ‹_›, Bool.or_false]
  · rfl

theorem ring_goes_ne (b : Bell α) {i j : Nat} (h : j ≠ i) : (b.ring v old new i).goes v old j = b.goes v old j := by
  rw [goes, goes, ring_st_ne b h]

theorem ring_refuses_ne (b : Bell α) {i j : Nat} (h : j ≠ i) :
    (b.ring v old new i).refuses v old j = b.refuses v old j := by
  rw [refuses, refuses, ring_st_ne b h]

variable (v old new) in
/-- A doorbell write: its bits in order. -/
def rings (b : Bell α) (l : List Nat) : Bell α := l.foldl (ring v old new) b

@[simp] theorem rings_cons (b : Bell α) (i : Nat) (l : List Nat) :
    b.rings v old new (i :: l) = (b.ring v old new i).rings v old new l := rfl

theorem rings_st_of_notMem {l : List Nat} {j : Nat} : ∀ b : Bell α, j ∉ l → nth (b.rings v old new l).st j = nth b.st j := by
  induction l with
  | nil => exact fun _ _ => rfl
  | cons i l ih =>
    intro b h
    rw [List.mem_cons, not_or] at h
    rw [rings_cons, ih _ h.2, ring_st_ne b h.1]

theorem rings_ptr_of_notMem {l : List Nat} {j : Nat} :
    ∀ b : Bell α, j ∉ l → nth (b.rings v old new l).ptr j = nth b.ptr j := by
  induction l with
  | nil => exact fun _ _ => rfl
  | cons i l ih =>
    intro b h
    rw [List.mem_cons, not_or] at h
    rw [rings_cons, ih _ h.2, ring_ptr_ne b h.1]

/-- A mailbox that the write names changes by its own state alone. -/
theorem rings_st {l : List Nat} {j : Nat} : ∀ b : Bell α, l.Nodup → j ∈ l → j < b.st.length →
    nth (b.rings v old new l).st j = if b.goes v old j then new else nth b.st j := by
  induction l with
  | nil => exact fun _ _ h => nomatch h
  | cons i l ih =>
    intro b hd hj hs
    obtain ⟨hi, hd⟩ := List.nodup_cons.mp hd
    rw [rings_cons]
    by_cases e : j = i
    · subst e
      rw [rings_st_of_notMem _ hi, ring_st_self b hs]
    · rw [ih _ hd ((List.mem_cons.mp hj).resolve_left e) (by simpa using hs), ring_goes_ne b e, ring_st_ne b e]

theorem rings_ptr {l : List Nat} {j : Nat} : ∀ b : Bell α, l.Nodup → j ∈ l → j < b.ptr.length →
    nth (b.rings v old new l).ptr j = if b.goes v old j then 0 else nth b.ptr j := by
  induction l with
  | nil => exact fun _ _ h => nomatch h
  | cons i l ih =>
    intro b hd hj hs
    obtain ⟨hi, hd⟩ := List.nodup_cons.mp hd
    rw [rings_cons]
    by_cases e : j = i
    · subst e
      rw [rings_ptr_of_notMem _ hi, ring_ptr_self b hs]
    · rw [ih _ hd ((List.mem_cons.mp hj).resolve_left e) (by simpa using hs), ring_goes_ne b e, ring_ptr_ne b e]

/-- The mailboxes that a write moves, in ascending order. -/
theorem rings_moved {l : List Nat} : ∀ b : Bell α, l.Nodup →
    (b.rings v old new l).moved = b.moved ++ l.filter (b.goes v old) := by
  induction l with
  | nil => exact fun b _ => (List.append_nil b.moved).symm
  | cons i l ih =>
    intro b hd
    obtain ⟨hi, hd⟩ := List.nodup_cons.mp hd
    have hl : l.filter ((b.ring v old new i).goes v old) = l.filter (b.goes v old) :=
      List.filter_congr fun j hj => ring_goes_ne b (ne_of_mem_of_not_mem hj hi)
    rw [rings_cons, ih _ hd, ring_moved, hl, List.append_assoc, ← List.filter_append, List.singleton_append]

/-- A write is flagged as soon as it names a mailbox that it refuses. -/
theorem rings_bad {l : List Nat} : ∀ b : Bell α, l.Nodup →
    (b.rings v old new l).bad = (b.bad || l.any (b.refuses v old)) := by
  induction l with
  | nil => exact fun b _ => (Bool.or_false b.bad).symm
  | cons i l ih =>
    intro b hd
    obtain ⟨hi, hd⟩ := List.nodup_cons.mp hd
    have hl : l.any ((b.ring v old new i).refuses v old) = l.any (b.refuses v old) := by
      rw [Bool.eq_iff_iff, List.any_eq_true, List.any_eq_true]
      exact exists_congr fun j => and_congr_right fun hj => by rw [ring_refuses_ne b (ne_of_mem_of_not_mem hj hi)]
    rw [rings_cons, ih _ hd, ring_bad, hl, List.any_cons, Bool.or_assoc]

end Bell

/-- The inbound mailboxes as `MB_IN_DB` sees them, and the state with them replaced. -/
def State.inBell (s : State) : Bell InSt := ⟨s.mbox.inSt, s.mbox.inPtr, s.mbox.posted, s.host.err.mbSeq⟩

def State.withInBell (s : State) (b : Bell InSt) : State :=
  { s with mbox := { s.mbox with inSt := b.st, inPtr := b.ptr, posted := b.moved }, host.err.mbSeq := b.bad }

/-- The outbound mailboxes as `MB_OUT_DB` sees them; no order of release is kept. -/
def State.outBell (s : State) : Bell OutSt := ⟨s.mbox.outSt, s.mbox.outPtr, [], s.host.err.mbSeq⟩

def State.withOutBell (s : State) (b : Bell OutSt) : State :=
  { s with mbox := { s.mbox with outSt := b.st, outPtr := b.ptr }, host.err.mbSeq := b.bad }

theorem postOne_withInBell (v : Word) (s : State) (b : Bell InSt) (i : Nat) :
    postOne v (s.withInBell b) i = s.withInBell (b.ring v .free .posted i) := by
  unfold postOne Bell.ring Bell.goes Bell.refuses
  rw [bit_eq_getLsbD]
  cases hv : v.getLsbD i
  · simp
  · by_cases hf : nth b.st i = .free
    · simp [hf, State.withInBell]
    · simp [hf, State.withInBell, errMbSeq]

theorem releaseOne_withOutBell (v : Word) (s : State) (b : Bell OutSt) (i : Nat) :
    releaseOne v (s.withOutBell b) i = s.withOutBell (b.ring v .full .free i) := by
  unfold releaseOne Bell.ring Bell.goes Bell.refuses
  rw [bit_eq_getLsbD]
  cases hv : v.getLsbD i
  · simp
  · by_cases hf : nth b.st i = .full
    · simp [hf, State.withOutBell]
    · simp [hf, State.withOutBell, errMbSeq]

theorem inDoorbell_eq (v : Word) (s : State) :
    inDoorbell v s = s.withInBell (s.inBell.rings v .free .posted (List.range 4)) :=
  List.foldl_hom (init := s.inBell) s.withInBell (postOne_withInBell v s)

theorem outRelease_eq (v : Word) (s : State) :
    outRelease v s = s.withOutBell (s.outBell.rings v .full .free (List.range 4)) :=
  List.foldl_hom (init := s.outBell) s.withOutBell (releaseOne_withOutBell v s)

/-! ## The register that stands at an address (R320) -/

/-- R320: what is flagged at the reserved addresses. -/
theorem winReg_reserved {a : Nat} (h4 : a % 4 = 0)
    (h : a ∈ [0x20, 0x24, 0x28, 0x2C, 0x34, 0x38, 0x3C] ∨ (0x50 ≤ a ∧ a < 0x100) ∨ (0x100 ≤ a ∧ a < 0x200 ∧ 8 ≤ a % 0x20) ∨
      (0x200 ≤ a ∧ a < 0x400 ∧ (0x10 ≤ a % 0x20 ∨ 0x260 ≤ a)) ∨ 0x7FC ≤ a) : winReg a = .reserved := by
  rcases h with h | ⟨h1, h2⟩ | ⟨h1, h2, h3⟩ | ⟨h1, h2, h3⟩ | h
  · have all : ∀ a ∈ [0x20, 0x24, 0x28, 0x2C, 0x34, 0x38, 0x3C], winReg a = .reserved := by decide
    exact all a h
  · have all : ∀ k < 44, winReg (0x50 + 4 * k) = .reserved := by decide
    have e : a = 0x50 + 4 * ((a - 0x50) / 4) := by omega
    rw [e]
    exact all _ (by omega)
  · have all : ∀ k < 64, 8 ≤ (0x100 + 4 * k) % 0x20 → winReg (0x100 + 4 * k) = .reserved := by decide
    have e : a = 0x100 + 4 * ((a - 0x100) / 4) := by omega
    rw [e] at h3 ⊢
    exact all _ (by omega) h3
  · have all : ∀ k < 128, 0x10 ≤ (0x200 + 4 * k) % 0x20 ∨ 0x260 ≤ 0x200 + 4 * k → winReg (0x200 + 4 * k) = .reserved := by
      decide
    have e : a = 0x200 + 4 * ((a - 0x200) / 4) := by omega
    rw [e] at h3 ⊢
    exact all _ (by omega) h3
  · simp [winReg, show ¬a < 0x100 by omega, show ¬a < 0x200 by omega, show ¬a < 0x400 by omega, show ¬a < 0x600 by omega,
      show ¬a ≤ 0x7F8 by omega]

/-- R320: the live values of the inputs and loops stand at 0x400 to 0x7F8. -/
theorem winReg_live {a : Nat} (h1 : 0x400 ≤ a) (h2 : a ≤ 0x7F8) :
    winReg a = .liveIn ((a - 0x400) / 4) ∨ winReg a = .liveLoop ((a - 0x600) / 4 + 1) := by
  by_cases h : a < 0x600
  · left; simp [winReg, show ¬a < 0x100 by omega, show ¬a < 0x200 by omega, show ¬a < 0x400 by omega, h]
  · right; simp [winReg, show ¬a < 0x100 by omega, show ¬a < 0x200 by omega, show ¬a < 0x400 by omega, h, h2]

/-- R11, R320: a read-only word ignores a write. -/
theorem regWrite_readOnly {a : Nat} (v : Word) (s : State)
    (h : a ∈ [0x00, 0x04, 0x14, 0x1C, 0x30, 0x40, 0x44, 0x4C] ∨ (0x400 ≤ a ∧ a ≤ 0x7F8)) : regWrite a v s = s := by
  rcases h with h | ⟨h1, h2⟩
  · fin_cases h <;> rfl
  · rcases winReg_live h1 h2 with h | h <;> rw [regWrite, h]

/-! ## The window's commands while it responds (R310) -/

section
variable {s : State} (hw : s.windowOn = true) (v : Word)
include hw

theorem exec_mbInDb : exec (.mbInDb v) s = .next (inDoorbell v s) := congrArg _ (if_pos hw)

theorem exec_mbOutDb : exec (.mbOutDb v) s = .next (outRelease v s) := congrArg _ (if_pos hw)

theorem exec_evqPop : exec (.evqPop v) s = .next (evqPop s) := congrArg _ (if_pos hw)

theorem exec_hostErrClear : exec (.hostErrClear v) s = .next (hostErrClear v s) := congrArg _ (if_pos hw)

theorem windowOn_and {k : Nat} (hk : k < 4) : (s.windowOn && decide (k < 4)) = true := by simp [hw, hk]

theorem exec_mbPtrWrite {k : Nat} (hk : k < 4) (outb : Bool) :
    exec (.mbPtrWrite outb k v) s = .next (if outb then outPtrWrite k v s else inPtrWrite k v s) :=
  congrArg _ (if_pos (windowOn_and hw hk))

theorem exec_mbInDataWrite {k : Nat} (hk : k < 4) : exec (.mbInDataWrite k v) s = .next (inDataWrite k v s) :=
  congrArg _ (if_pos (windowOn_and hw hk))

theorem exec_mbOutDataRead {k : Nat} (hk : k < 4) : exec (.mbOutDataRead k) s =
    .next { (outDataRead k s).2 with host.readBytes := leW (outDataRead k s).1 } :=
  congrArg _ (if_pos (windowOn_and hw hk))

theorem exec_evtSummaryClear {k : Nat} (hk : k < 4) : exec (.evtSummaryClear k v) s = .next (summaryClear k v s) :=
  congrArg _ (if_pos (windowOn_and hw hk))

theorem exec_evqLostClear {k : Nat} (hk : k < 4) : exec (.evqLostClear k v) s = .next (lostClear k v s) :=
  congrArg _ (if_pos (windowOn_and hw hk))

theorem exec_registerWrite_eq (a : Nat) :
    exec (.registerWrite a v) s = .next (if a % 4 ≠ 0 then errAlign s else regWrite (a % 65536) v s) :=
  congrArg _ (if_neg (by rw [hw]; exact Bool.false_ne_true))

theorem exec_registerWrite {a : Nat} (h4 : a % 4 = 0) (ha : a < 65536) :
    exec (.registerWrite a v) s = .next (regWrite a v s) := by
  rw [exec_registerWrite_eq hw, if_neg (not_not.mpr h4), Nat.mod_eq_of_lt ha]

/-- R312: a misaligned write is ignored and flagged. -/
theorem exec_registerWrite_misaligned {a : Nat} (h4 : a % 4 ≠ 0) : exec (.registerWrite a v) s = .next (errAlign s) := by
  rw [exec_registerWrite_eq hw, if_pos h4]

end

/-- R310: while the window does not respond nothing happens. -/
theorem exec_window_closed {s : State} (hw : s.windowOn = false) (v : Word) (a k : Nat) (outb : Bool) :
    ∀ c ∈ [Instr.mbInDb v, .mbOutDb v, .mbPtrWrite outb k v, .mbInDataWrite k v, .mbOutDataRead k, .evqPop v,
      .evtSummaryClear k v, .evqLostClear k v, .hostErrClear v, .registerWrite a v], exec c s = .next s := by
  have off : ¬s.windowOn = true := Bool.eq_false_iff.mp hw
  have offNumbered (n : Nat) : ¬(s.windowOn && decide (n < 4)) = true := by rw [hw, Bool.false_and]; exact Bool.false_ne_true
  have offWrite : (!s.windowOn) = true := by rw [hw, Bool.not_false]
  simp only [List.forall_mem_cons]
  exact ⟨congrArg _ (if_neg off), congrArg _ (if_neg off), congrArg _ (if_neg (offNumbered k)),
    congrArg _ (if_neg (offNumbered k)), congrArg _ (if_neg (offNumbered k)), congrArg _ (if_neg off),
    congrArg _ (if_neg (offNumbered k)), congrArg _ (if_neg (offNumbered k)), congrArg _ (if_neg off),
    congrArg _ (if_pos offWrite), fun _ h => nomatch h⟩

/-! ## Pointers and data ports (R323) -/

/-- R322: `MB_OVR` is set and never cleared here. -/
theorem errMbOvr_eq (s : State) : errMbOvr s = { s with host.err.mbOvr := s.host.err.mbOvr || true } := by
  rw [Bool.or_true]; rfl

/-- R322, R323: the flags of a refused pointer write. -/
theorem ptrErrs_eq (allowed : Bool) (p : Nat) (s : State) :
    ptrErrs allowed p s = { s with host.err := { s.host.err with
      mbSeq := s.host.err.mbSeq || !allowed, align := s.host.err.align || decide (p % 4 ≠ 0),
      mbOvr := s.host.err.mbOvr || decide (4096 < p) } } := by
  unfold ptrErrs
  cases allowed <;> by_cases h1 : 4096 < p <;> by_cases h2 : p % 4 = 0 <;> simp [h1, h2, errMbSeq, errMbOvr, errAlign]

/-- R323: a pointer write, of the 13 bits of its field, is taken where the mailbox admits it and its field fits, and is flagged elsewhere. -/
theorem ptrWrite_spec (v : Word) (set : Nat → State → State) (s : State) {allowed : Bool} {may : Prop}
    (ha : allowed = true ↔ may) :
    let p := v.toNat % 8192
    let fits := p % 4 = 0 ∧ p ≤ 4096
    (may → fits → ptrWrite allowed v set s = set p s) ∧
    (may → ¬fits → ptrWrite allowed v set s = { s with host := { s.host with err := { s.host.err with
      align := s.host.err.align || decide (p % 4 ≠ 0), mbOvr := s.host.err.mbOvr || decide (4096 < p) } } }) ∧
    (¬may → ptrWrite allowed v set s = { s with host := { s.host with err := { s.host.err with
      mbSeq := s.host.err.mbSeq || true, align := s.host.err.align || decide (p % 4 ≠ 0),
      mbOvr := s.host.err.mbOvr || decide (4096 < p) } } }) := by
  intro p fits
  have refused (h : ¬(allowed = true ∧ fits)) : ptrWrite allowed v set s = ptrErrs allowed p s := if_neg h
  refine ⟨fun hm hf => if_pos ⟨ha.mpr hm, hf⟩, fun hm hf => ?_, fun hm => ?_⟩
  · rw [refused fun h => hf h.2, ptrErrs_eq, ha.mpr hm, Bool.not_true, Bool.or_false]
  · rw [refused fun h => hm (ha.mp h.1), ptrErrs_eq, Bool.eq_false_iff.mpr fun h => hm (ha.mp h), Bool.not_false]

theorem inDataWrite_of_room {i : Nat} (v : Word) {s : State} (hf : nth s.mbox.inSt i = .free)
    (hp : nth s.mbox.inPtr i < 4096) : inDataWrite i v s = { s with mbox := { s.mbox with
      inBuf := s.mbox.inBuf.set i (bufSet (nth s.mbox.inBuf i) (nth s.mbox.inPtr i / 4) v),
      inPtr := s.mbox.inPtr.set i (nth s.mbox.inPtr i + 4) } } := by
  simp [inDataWrite, hf, Nat.not_le.mpr hp]

theorem inDataWrite_of_end {i : Nat} (v : Word) {s : State} (hf : nth s.mbox.inSt i = .free)
    (hp : 4096 ≤ nth s.mbox.inPtr i) : inDataWrite i v s = errMbOvr s := by
  simp [inDataWrite, hf, hp]

theorem inDataWrite_of_busy {i : Nat} (v : Word) {s : State} (hf : nth s.mbox.inSt i ≠ .free) :
    inDataWrite i v s = { s with host := { s.host with err := { s.host.err with
      mbSeq := s.host.err.mbSeq || true, mbOvr := s.host.err.mbOvr || decide (4096 ≤ nth s.mbox.inPtr i) } } } := by
  by_cases hp : 4096 ≤ nth s.mbox.inPtr i <;> simp [inDataWrite, hf, hp, errMbSeq, errMbOvr]

theorem outDataRead_of_room {j : Nat} {s : State} (hp : nth s.mbox.outPtr j < 4096) :
    outDataRead j s = (bufWord (nth s.mbox.outBuf j) (nth s.mbox.outPtr j / 4),
      { s with mbox.outPtr := s.mbox.outPtr.set j (nth s.mbox.outPtr j + 4) }) :=
  if_neg (Nat.not_le.mpr hp)

theorem outDataRead_of_end {j : Nat} {s : State} (hp : 4096 ≤ nth s.mbox.outPtr j) : outDataRead j s = (0, errMbOvr s) :=
  if_pos hp

/-! ## Event registers (R320, R336, R337, R339) -/

/-- R336, R339: writing 1 to a bit of word k clears the source's bit. -/
theorem clearPlaced_getLsbD (x : BitVec 128) (v : Word) (k b : Nat) (hb : b < 128) :
    (x &&& ~~~evPlace v k).getLsbD b = (x.getLsbD b && !(decide (b / 32 = k) && v.getLsbD (b % 32))) := by
  rw [BitVec.getLsbD_and, BitVec.getLsbD_not, evPlace_getLsbD v k b hb, decide_eq_true hb, Bool.true_and]

/-- R320: a write of `EVT_MASK` replaces word k. -/
theorem maskWrite_getLsbD (v : Word) (k b : Nat) (s : State) (hb : b < 128) :
    (maskWrite k v s).evt.mask.getLsbD b = if b / 32 = k then v.getLsbD (b % 32) else s.evt.mask.getLsbD b := by
  simp only [maskWrite, BitVec.getLsbD_or, BitVec.getLsbD_and, BitVec.getLsbD_not, evPlace_getLsbD v k b hb,
    evPlace_ones_getLsbD k b hb]
  by_cases h : b / 32 = k <;> simp [h, hb]

/-- R337: the layout of `EVQ_HEAD0`. -/
theorem evqHead0_of_cons {s : State} {e : EvEntry} {rest : List EvEntry} (h : s.evt.queue = e :: rest)
    (hs : e.source < 128) (hc : e.code < 256) (hd : e.detail < 65536) :
    s.evqHead0 = w32 (2 ^ 31 + e.source * 2 ^ 24 + e.code * 65536 + e.detail) := by
  simp only [State.evqHead0, h, at', Nat.shiftLeft_eq, Nat.mod_eq_of_lt hs, Nat.mod_eq_of_lt hc, Nat.mod_eq_of_lt hd,
    Nat.one_mul]

theorem evqHead1_of_cons {s : State} {e : EvEntry} {rest : List EvEntry} (h : s.evt.queue = e :: rest) :
    s.evqHead1 = e.mc := by
  rw [State.evqHead1, h]

theorem evqHead0_of_nil {s : State} (h : s.evt.queue = []) : s.evqHead0 = 0 := by rw [State.evqHead0, h]

theorem evqHead1_of_nil {s : State} (h : s.evt.queue = []) : s.evqHead1 = 0 := by rw [State.evqHead1, h]

/-! ## The window's obligation -/

/-- R320: the mailbox and event registers of number k. -/
theorem winReg_numbered : ∀ k, k < 4 →
    winReg (0x100 + 0x20 * k) = .inPtr k ∧ winReg (0x104 + 0x20 * k) = .inData k ∧
    winReg (0x180 + 0x20 * k) = .outPtr k ∧ winReg (0x184 + 0x20 * k) = .outData k ∧
    winReg (0x200 + 4 * k) = .summary k ∧ winReg (0x220 + 4 * k) = .mask k ∧ winReg (0x240 + 4 * k) = .lost k := by
  decide

/-- R336-R339: what a raise does to the event registers, by its mask and its queue. -/
theorem raiseWith_spec (s : State) (src code detail : Nat) (h : src < 128) :
    let t := raiseWith src code detail s
    (∀ b, b < 128 → t.evt.summary.getLsbD b = (s.evt.summary.getLsbD b || decide (b = src))) ∧
    t.evt.mask = s.evt.mask ∧
    (s.evt.mask.getLsbD src = false → t.evt.queue = s.evt.queue ∧ t.evt.lost = s.evt.lost) ∧
    (s.evt.mask.getLsbD src = true → s.evt.queue.length < 256 → t.evt.lost = s.evt.lost ∧
      t.evt.queue = s.evt.queue ++ [{ source := src, code := code, detail := detail, mc := s.chain.mc }]) ∧
    (s.evt.mask.getLsbD src = true → 256 ≤ s.evt.queue.length → t.evt.queue = s.evt.queue ∧
      ∀ b, b < 128 → t.evt.lost.getLsbD b = (s.evt.lost.getLsbD b || decide (b = src))) ∧
    t = { s with evt := t.evt } := by
  have setBit (x : BitVec 128) (b : Nat) (hb : b < 128) :
      (x ||| BitVec.ofNat 128 (2 ^ src)).getLsbD b = (x.getLsbD b || decide (b = src)) := by
    rw [BitVec.getLsbD_or, sourceBit_getLsbD src b hb]
  refine ⟨fun b hb => ?_, raiseWith_mask src code detail s, fun hm => ?_, fun hm hq => ?_, fun hm hq => ?_,
    raiseWith_frame src code detail s⟩
  · rw [raiseWith_summary, setBit _ b hb]
  · rw [raiseWith_of_masked h hm]; exact ⟨rfl, rfl⟩
  · rw [raiseWith_of_room h hm hq]; exact ⟨rfl, rfl⟩
  · rw [raiseWith_of_full h hm hq]; exact ⟨rfl, fun b hb => setBit _ b hb⟩

/-- Settles O31: the doorbells by the fold over their bits, the pointers and ports by their three cases, every register by what
stands at its address, and a raise by its mask and the room in the queue. -/
theorem windowAccesses : Obligations.WindowAccesses := by
  refine ⟨fun s hw hIn hInP hOut hOutP => ⟨fun v => ?mbInDb, fun v => ?mbOutDb, fun i hi v outb => ?mbPtr,
      fun i hi v => ?mbInData, fun j hj => ?mbOutData⟩,
    fun s v => ⟨fun a k outb hw => exec_window_closed hw v a k outb, fun hw => ⟨exec_evqPop hw v, fun k hk => ?summary,
      fun k hk => ?lost, ?hostErr, exec_registerWrite hw v rfl (by decide), fun a ha h4 => ?readOnly, ?low,
      fun k hk => ?numbered, fun a ha h4 h => ?reserved, fun a h4 => exec_registerWrite_misaligned hw v h4⟩⟩,
    fun s src code detail h => ⟨raiseWith_spec s src code detail h, fun hov hc hr => ?boost, fun e rest hq hs hc hd => ?head,
      fun hq => ?empty⟩⟩
  case mbInDb =>
    have hd : (List.range 4).Nodup := List.nodup_range
    refine ⟨_, (exec_mbInDb hw v).trans (congrArg _ (inDoorbell_eq v s)), fun i hi => ⟨?_, ?_⟩, ?_, ?_⟩
    · exact Bell.rings_st s.inBell hd (List.mem_range.mpr hi) (hi.trans_eq hIn.symm)
    · exact Bell.rings_ptr s.inBell hd (List.mem_range.mpr hi) (hi.trans_eq hInP.symm)
    · exact Bell.rings_moved s.inBell hd
    · rw [State.withInBell, Bell.rings_bad s.inBell hd]
      rfl
  case mbOutDb =>
    have hd : (List.range 4).Nodup := List.nodup_range
    refine ⟨_, (exec_mbOutDb hw v).trans (congrArg _ (outRelease_eq v s)), fun j hj => ⟨?_, ?_⟩, ?_⟩
    · exact Bell.rings_st s.outBell hd (List.mem_range.mpr hj) (hj.trans_eq hOut.symm)
    · exact Bell.rings_ptr s.outBell hd (List.mem_range.mpr hj) (hj.trans_eq hOutP.symm)
    · rw [State.withOutBell, Bell.rings_bad s.outBell hd]
      rfl
  case mbPtr =>
    refine ⟨_, exec_mbPtrWrite hw v hi outb, ?_⟩
    cases outb
    · exact ptrWrite_spec v (fun p t => { t with mbox.inPtr := t.mbox.inPtr.set i p }) s beq_iff_eq
    · exact ptrWrite_spec v (fun p t => { t with mbox.outPtr := t.mbox.outPtr.set i p }) s beq_iff_eq
  case mbInData =>
    refine ⟨_, exec_mbInDataWrite hw v hi, inDataWrite_of_room v, fun hf hp => ?_,
      inDataWrite_of_busy v⟩
    exact (inDataWrite_of_end v hf hp).trans (errMbOvr_eq s)
  case mbOutData =>
    refine ⟨_, exec_mbOutDataRead hw hj, fun hp => ?_, fun hp => ?_⟩
    · rw [outDataRead_of_room hp]
    · rw [outDataRead_of_end hp, errMbOvr_eq]
  case summary => exact ⟨_, exec_evtSummaryClear hw v hk, fun b hb => clearPlaced_getLsbD _ v k b hb, rfl⟩
  case lost => exact ⟨_, exec_evqLostClear hw v hk, fun b hb => clearPlaced_getLsbD _ v k b hb, rfl⟩
  case hostErr => exact ⟨_, exec_hostErrClear hw v, rfl, rfl, rfl, rfl, rfl, rfl, rfl, rfl⟩
  case readOnly =>
    have ha' : a < 65536 := by
      rcases ha with ha | ha
      · exact (by decide : ∀ a ∈ [0x00, 0x04, 0x14, 0x1C, 0x30, 0x40, 0x44, 0x4C], a < 65536) a ha
      · omega
    rw [exec_registerWrite hw v h4 ha', regWrite_readOnly v s ha]
  case low =>
    rw [exec_hostErrClear hw, exec_mbInDb hw, exec_mbOutDb hw, exec_evqPop hw]
    exact ⟨exec_registerWrite hw v rfl (by decide), exec_registerWrite hw v rfl (by decide),
      exec_registerWrite hw v rfl (by decide), exec_registerWrite hw v rfl (by decide)⟩
  case numbered =>
    obtain ⟨hip, hid, hop, hod, hsum, hmask, hlost⟩ := winReg_numbered k hk
    refine ⟨?_, ?_, ?_, ?_, ?_, ?_, maskWrite k v s, ?_, fun b hb => maskWrite_getLsbD v k b s hb, rfl⟩
    · rw [exec_registerWrite hw v (by omega) (by omega), regWrite, hip, exec_mbPtrWrite hw v hk]; rfl
    · rw [exec_registerWrite hw v (by omega) (by omega), regWrite, hid, exec_mbInDataWrite hw v hk]
    · rw [exec_registerWrite hw v (by omega) (by omega), regWrite, hop, exec_mbPtrWrite hw v hk]; rfl
    · rw [exec_registerWrite hw v (by omega) (by omega), regWrite, hod]
    · rw [exec_registerWrite hw v (by omega) (by omega), regWrite, hsum, exec_evtSummaryClear hw v hk]
    · rw [exec_registerWrite hw v (by omega) (by omega), regWrite, hlost, exec_evqLostClear hw v hk]
    · rw [exec_registerWrite hw v (by omega) (by omega), regWrite, hmask]
  case reserved =>
    have hr := winReg_reserved h4 h
    rw [exec_registerWrite hw v h4 ha, regRead, regWrite, hr]
    exact ⟨rfl, rfl⟩
  case boost =>
    refine ⟨_, congrArg Host.Outcome.next (if_pos hov), ?_⟩
    exact (report_evt_of_room (s := { s with act.bstOv := false }) hc hr).trans (raiseWith_evt_congr rfl rfl)
  case head => exact ⟨evqHead0_of_cons hq hs hc hd, evqHead1_of_cons hq⟩
  case empty => exact ⟨evqHead0_of_nil hq, evqHead1_of_nil hq⟩

end Sys2Proof.Machine

namespace Sys2Proof.Machine

/-! PROOFS. The stores: which operations leave the NVM's banks, the OTP and the management core as they were, and that every step
keeps both banks canonical (R18, R21).

Only four operations write a bank: `nvWriteCw`, and with it `writeCw`, `nvServe` and `mgtStoreNow`. Every other operation of the model
leaves the banks as they were, most of them the whole NVM and the management core with it. One lemma per operation says so, in the order
of the model's files, and `simp` composes them. -/

/-! ## What an operation leaves as it was -/

/-- The NVM and the management core are as they were. -/
@[simp] abbrev KeepsStore (s t : State) : Prop := t.nvm = s.nvm ∧ t.mgt = s.mgt

/-- The cells that outlive a reset are as they were: both banks and OTP, with the OTP operation that waits. -/
@[simp] abbrev KeepsCells (s t : State) : Prop :=
  t.nvm.bank0 = s.nvm.bank0 ∧ t.nvm.bank1 = s.nvm.bank1 ∧ t.mgt.otp = s.mgt.otp ∧ t.mgt.prov = s.mgt.prov

/-- Both banks are as they were. -/
@[simp] abbrev KeepsBanks (s t : State) : Prop := t.nvm.bank0 = s.nvm.bank0 ∧ t.nvm.bank1 = s.nvm.bank1

/-- `State.nvWf`, in the form that `simp` rewrites the banks of. -/
@[simp] abbrev NvWf (s : State) : Prop :=
  Memory.wf (nvDefault 0) s.nvm.bank0 = true ∧ Memory.wf (nvDefault 1) s.nvm.bank1 = true

theorem KeepsStore.trans {s t u : State} (h : KeepsStore s t) (g : KeepsStore t u) : KeepsStore s u :=
  ⟨g.1.trans h.1, g.2.trans h.2⟩

theorem KeepsCells.trans {s t u : State} (h : KeepsCells s t) (g : KeepsCells t u) : KeepsCells s u := by
  obtain ⟨h0, h1, ho, hp⟩ := h
  obtain ⟨g0, g1, go, gp⟩ := g
  exact ⟨g0.trans h0, g1.trans h1, go.trans ho, gp.trans hp⟩

theorem KeepsBanks.trans {s t u : State} (h : KeepsBanks s t) (g : KeepsBanks t u) : KeepsBanks s u :=
  ⟨g.1.trans h.1, g.2.trans h.2⟩

section
variable {α : Type} {f : State → α → State} (l : List α) (s : State)

@[simp] theorem KeepsStore.foldl (hf : ∀ s a, KeepsStore s (f s a)) : KeepsStore s (l.foldl f s) :=
  List.foldlRecOn (motive := fun t => KeepsStore s t) l f ⟨rfl, rfl⟩ fun _ h a _ => h.trans (hf _ a)

@[simp] theorem KeepsCells.foldl (hf : ∀ s a, KeepsCells s (f s a)) : KeepsCells s (l.foldl f s) :=
  List.foldlRecOn (motive := fun t => KeepsCells s t) l f ⟨rfl, rfl, rfl, rfl⟩ fun _ h a _ => h.trans (hf _ a)

@[simp] theorem KeepsBanks.foldl (hf : ∀ s a, KeepsBanks s (f s a)) : KeepsBanks s (l.foldl f s) :=
  List.foldlRecOn (motive := fun t => KeepsBanks s t) l f ⟨rfl, rfl⟩ fun _ h a _ => h.trans (hf _ a)

end

section
variable {α : Type} (c : Prop) [Decidable c]

@[simp] theorem ite_nvm (s t : State) : (if c then s else t).nvm = if c then s.nvm else t.nvm := apply_ite ..
@[simp] theorem ite_mgt (s t : State) : (if c then s else t).mgt = if c then s.mgt else t.mgt := apply_ite ..
@[simp] theorem ite_bank0 (m n : Nvm) : (if c then m else n).bank0 = if c then m.bank0 else n.bank0 := apply_ite ..
@[simp] theorem ite_bank1 (m n : Nvm) : (if c then m else n).bank1 = if c then m.bank1 else n.bank1 := apply_ite ..
@[simp] theorem ite_otp (m n : Mgt) : (if c then m else n).otp = if c then m.otp else n.otp := apply_ite ..
@[simp] theorem ite_prov (m n : Mgt) : (if c then m else n).prov = if c then m.prov else n.prov := apply_ite ..
@[simp] theorem ite_fst_nvm (s t : State × α) : (if c then s else t).1.nvm = if c then s.1.nvm else t.1.nvm :=
  apply_ite (fun x : State × α => x.1.nvm) ..
@[simp] theorem ite_fst_mgt (s t : State × α) : (if c then s else t).1.mgt = if c then s.1.mgt else t.1.mgt :=
  apply_ite (fun x : State × α => x.1.mgt) ..

end

@[simp] theorem nvSubmit_bank0 (n : Nvm) (e : Nat) (op : NvOp) : (nvSubmit n e op).bank0 = n.bank0 := rfl
@[simp] theorem nvSubmit_bank1 (n : Nvm) (e : Nat) (op : NvOp) : (nvSubmit n e op).bank1 = n.bank1 := rfl

/-! ### Shared operations -/

@[simp] theorem State.draw_store (s : State) : KeepsStore s (State.draw s) := ⟨rfl, rfl⟩

@[simp] theorem onPll_store (s t : State) (h : KeepsStore s t) : KeepsStore s (onPll s t) := by
  unfold onPll
  split <;> simp [h]

@[simp] theorem onPll_cells (s t : State) (h : KeepsCells s t) : KeepsCells s (onPll s t) := by
  unfold onPll
  split <;> simp [h]

@[simp] theorem onPll_banks (s t : State) (h : KeepsBanks s t) : KeepsBanks s (onPll s t) := by
  unfold onPll
  split <;> simp [h]

@[simp] theorem writeFault_store (cause source detail value) (s : State) :
    KeepsStore s (writeFault cause source detail value s) :=
  ⟨rfl, rfl⟩

/-! ### Stone's coefficient sets -/

@[simp] theorem stoneCommit_cells (sets set) (s : State) : KeepsCells s (stoneCommit sets set s) := ⟨rfl, rfl, rfl, rfl⟩

/-! ### Events -/

@[simp] theorem raiseWith_store (src code detail) (s : State) : KeepsStore s (raiseWith src code detail s) := by
  simp [raiseWith]

@[simp] theorem raise_store (src) (s : State) : KeepsStore s (raise src s) := by simp [raise]

@[simp] theorem dropCount_store (sev) (s : State) : KeepsStore s (dropCount sev s) := ⟨rfl, rfl⟩

@[simp] theorem dropNote_store (s : State) : KeepsStore s (dropNote s) := by simp [dropNote]

@[simp] theorem countDropped_store (sev) (s : State) : KeepsStore s (countDropped sev s) := by simp [countDropped]

@[simp] theorem deposit_store (h) (s : State) : KeepsStore s (deposit h s) := by simp [deposit]

@[simp] theorem happen_store (src typ sev inst) (s : State) : KeepsStore s (happen src typ sev inst s) := by simp [happen]

@[simp] theorem report_store (src typ sev inst) (s : State) : KeepsStore s (report src typ sev inst s) := by simp [report]

@[simp] theorem memCorrected_store (mem) (s : State) : KeepsStore s (memCorrected mem s) := by simp [memCorrected]

@[simp] theorem memUncorrectable_store (mem) (s : State) : KeepsStore s (memUncorrectable mem s) := by
  simp [memUncorrectable]

@[simp] theorem testStop_store (already) (s : State) : KeepsStore s (testStop already s) := by simp [testStop]

@[simp] theorem nvReport_store (bank a len) (s : State) : KeepsStore s (nvReport bank a len s) := by simp [nvReport]

/-! ### Alarms -/

@[simp] theorem alarmEval_store (n) (s : State) : KeepsStore s (alarmEval s n) := by simp [alarmEval]

@[simp] theorem alarmsEval_store (s : State) : KeepsStore s (alarmsEval s) := by simp [alarmsEval]

/-! ### The recorder -/

@[simp] theorem sumCount_store (h isHost) (s : State) : KeepsStore s (sumCount h isHost s) := ⟨rfl, rfl⟩

@[simp] theorem sumSubmit_cells (s : State) : KeepsCells s (sumSubmit s) := ⟨rfl, rfl, rfl, rfl⟩

@[simp] theorem sumWrite_cells (s0 : State) : KeepsCells s0 (sumWrite s0) := by simp [sumWrite]

@[simp] theorem logFail_cells (cause) (s : State) : KeepsCells s (logFail cause s) := by simp [logFail]

@[simp] theorem flushLoop_cells (l : List BufEntry) (s : State) : KeepsCells s (flushLoop l s).2 := by
  induction l generalizing s with
  | nil => exact ⟨rfl, rfl, rfl, rfl⟩
  | cons e t ih =>
    unfold flushLoop
    split <;> simp [ih]

@[simp] theorem flushQueue_cells (s : State) : KeepsCells s (flushQueue s) := by simp [flushQueue]

@[simp] theorem flush_cells (s : State) : KeepsCells s (flush s) := by simp [flush]

@[simp] theorem flushMore_cells (s : State) : KeepsCells s (flushMore s) := by simp [flushMore]

@[simp] theorem startRewrite_cells (slot r applied) (s : State) : KeepsCells s (startRewrite slot r applied s) :=
  ⟨rfl, rfl, rfl, rfl⟩

@[simp] theorem applyMerge_cells (h l r) (s : State) : KeepsCells s (applyMerge h l r s) := by
  unfold applyMerge
  (repeat' split) <;> simp

@[simp] theorem enter_cells (h snap buf) (s : State) : KeepsCells s (enter h snap buf s) := by simp [enter]

@[simp] theorem createRec_cells (h) (s : State) : KeepsCells s (createRec h s) := by
  unfold createRec
  (repeat' split) <;> simp

@[simp] theorem serveOne_cells (h) (s : State) : KeepsCells s (serveOne h s) := by
  unfold serveOne
  (repeat' split) <;> simp

@[simp] theorem serveRing_cells (s : State) : KeepsCells s (serveRing s) := by simp [serveRing]

@[simp] theorem flushPass_cells (s : State) : KeepsCells s (flushPass s) := by simp [flushPass]

@[simp] theorem takeFree_store (n : Nat) (s : State) : KeepsStore s (takeFree n s) := by
  induction n generalizing s with
  | zero => exact ⟨rfl, rfl⟩
  | succ n ih =>
    unfold takeFree
    split <;> simp [ih]

@[simp] theorem takeVictims_cells (n : Nat) (s : State) : KeepsCells s (takeVictims n s) := by
  induction n generalizing s with
  | zero => exact ⟨rfl, rfl, rfl, rfl⟩
  | succ n ih =>
    unfold takeVictims
    (repeat' split) <;> simp [ih]

@[simp] theorem checkFull_store (s : State) : KeepsStore s (checkFull s) := by simp [checkFull]

@[simp] theorem poolRestore_cells (s : State) : KeepsCells s (poolRestore s) := by simp [poolRestore]

@[simp] theorem restoreCounters_store (pcc opt) (s : State) : KeepsStore s (restoreCounters pcc opt s) := ⟨rfl, rfl⟩

@[simp] theorem tornReport_store (s : State) : KeepsStore s (tornReport s) := by simp [tornReport]

@[simp] theorem bushelScan_cells (s : State) : KeepsCells s (bushelScan s) := by simp [bushelScan]

@[simp] theorem histSample_store (k) (s : State) : KeepsStore s (histSample k s) := by simp [histSample]

@[simp] theorem rewritePending_cells (s : State) : KeepsCells s (rewritePending s) := by
  unfold rewritePending
  (repeat' split) <;> simp

@[simp] theorem slotWriteFailed_cells (s : State) : KeepsCells s (slotWriteFailed s) := by simp [slotWriteFailed]

@[simp] theorem requeue_cells (e) (s : State) : KeepsCells s (requeue e s) := by simp [requeue]

@[simp] theorem recordDone_cells (serial slot ok) (s : State) : KeepsCells s (recordDone serial slot ok s) := by
  simp only [recordDone]
  (repeat' split) <;> simp

@[simp] theorem pfRecordDone_cells (serial slot ok) (s : State) : KeepsCells s (pfRecordDone serial slot ok s) := by
  simp [pfRecordDone]

@[simp] theorem rewriteDone_cells (ok) (s : State) : KeepsCells s (rewriteDone ok s) := by
  unfold rewriteDone
  split <;> simp

@[simp] theorem clearDone_cells (slot ok) (s : State) : KeepsCells s (clearDone slot ok s) := by simp [clearDone]

@[simp] theorem summaryDone_cells (copy ok) (s : State) : KeepsCells s (summaryDone copy ok s) := by simp [summaryDone]

@[simp] theorem powerFailReady_cells (s : State) : KeepsCells s (powerFailReady s) := by simp [powerFailReady]

@[simp] theorem powerFailFlush_cells (s0 : State) : KeepsCells s0 (powerFailFlush s0) := by simp [powerFailFlush]

/-! ### Commands and messages -/

@[simp] theorem respond_store (r boxes) (s : State) : KeepsStore s (respond r boxes s) := by
  unfold respond
  split <;> simp

@[simp] theorem answer_store (cmd tag boxes p) (s : State) : KeepsStore s (answer cmd tag boxes p s) := by
  unfold answer
  split <;> simp

@[simp] theorem dropObject_store (code) (s : State) : KeepsStore s (dropObject code s) := ⟨rfl, rfl⟩

@[simp] theorem drainErrs_store (l : List Accepted) (s : State) : KeepsStore s (drainErrs l s) := by
  induction l generalizing s with
  | nil => exact ⟨rfl, rfl⟩
  | cons a t ih =>
    unfold drainErrs
    split <;> simp [ih]

@[simp] theorem drain_store (s : State) : KeepsStore s (drain s) := by simp [drain]

@[simp] theorem finish_store (status payload) (s : State) : KeepsStore s (finish status payload s) := by
  unfold finish
  split <;> simp

@[simp] theorem fetchObject_store (cmd m) (s : State) : KeepsStore s (fetchObject cmd m s).1 := by
  simp only [fetchObject]
  (repeat' split) <;> simp

@[simp] theorem dropChunkIn_store (s : State) : KeepsStore s (dropChunkIn s) := ⟨rfl, rfl⟩

@[simp] theorem chunkFault_store (cmd) (s : State) : KeepsStore s (chunkFault cmd s).1 := by simp [chunkFault]

@[simp] theorem takeChunk_store (cmd bus m) (s : State) : KeepsStore s (takeChunk cmd bus m s).1 := by
  simp only [takeChunk]
  (repeat' split) <;> simp

@[simp] theorem takeAccepted_store (code m) (s : State) : KeepsStore s (takeAccepted code m s).2.2 := by
  unfold takeAccepted
  (repeat' split) <;> simp

@[simp] theorem runCommand_store (c : CmdSpec) (m : Msg) (b : Option (Nat × Nat)) (body : Msg → State → State × Reply)
    (s : State) (h : ∀ m s, KeepsStore s (body m s).1) : KeepsStore s (runCommand c m b body s) := by
  simp only [runCommand]
  generalize hs : (if m.chunk then s else dropObject c.code s) = s1
  have h1 : KeepsStore s s1 := by simp [← hs]
  (repeat' split) <;> simp [h, h1]

@[simp] theorem runCommand_cells (c : CmdSpec) (m : Msg) (b : Option (Nat × Nat)) (body : Msg → State → State × Reply)
    (s : State) (h : ∀ m s, KeepsCells s (body m s).1) : KeepsCells s (runCommand c m b body s) := by
  simp only [runCommand]
  generalize hs : (if m.chunk then s else dropObject c.code s) = s1
  have h1 : KeepsStore s s1 := by simp [← hs]
  (repeat' split) <;> simp [h, h1]

@[simp] theorem runCommand_banks (c : CmdSpec) (m : Msg) (b : Option (Nat × Nat)) (body : Msg → State → State × Reply)
    (s : State) (h : ∀ m s, KeepsBanks s (body m s).1) : KeepsBanks s (runCommand c m b body s) := by
  simp only [runCommand]
  generalize hs : (if m.chunk then s else dropObject c.code s) = s1
  have h1 : KeepsStore s s1 := by simp [← hs]
  (repeat' split) <;> simp [h, h1]

@[simp] theorem command_store (c : CmdSpec) (m : Msg) (body : Msg → State → State × Reply)
    (s : State) (h : ∀ m s, KeepsStore s (body m s).1) : KeepsStore s (command c m body s) := by
  unfold command
  split <;> simp [h]

@[simp] theorem command_cells (c : CmdSpec) (m : Msg) (body : Msg → State → State × Reply)
    (s : State) (h : ∀ m s, KeepsCells s (body m s).1) : KeepsCells s (command c m body s) := by
  unfold command
  split <;> simp [h]

@[simp] theorem command_banks (c : CmdSpec) (m : Msg) (body : Msg → State → State × Reply)
    (s : State) (h : ∀ m s, KeepsBanks s (body m s).1) : KeepsBanks s (command c m body s) := by
  unfold command
  split <;> simp [h]

@[simp] theorem report'_store (f x) (s : State) : KeepsStore s (report' f x s).1 := ⟨rfl, rfl⟩

@[simp] theorem acceptMailbox_store (s : State) : KeepsStore s (acceptMailbox s) := by
  unfold acceptMailbox
  split <;> simp

/-! ### The timebase -/

@[simp] theorem setChain_store (st) (s : State) : KeepsStore s (setChain st s) := by simp [setChain]

@[simp] theorem setSlewing_store (v) (s : State) : KeepsStore s (setSlewing v s) := by simp [setSlewing]

@[simp] theorem atStage_store (k) (s : State) : KeepsStore s (atStage k s) := ⟨rfl, rfl⟩

@[simp] theorem inStage_store (k due act) (s : State) (h0 : ∀ a0, KeepsStore a0 (act a0)) :
    KeepsStore s (inStage k due act s) := by
  simp [inStage, h0]

@[simp] theorem acceptCrossing_store (obs n p) (s : State) : KeepsStore s (acceptCrossing obs n p s) := ⟨rfl, rfl⟩

@[simp] theorem phaseCorrect_store (obs) (s : State) : KeepsStore s (phaseCorrect obs s) := by simp [phaseCorrect]

@[simp] theorem windowAccepted_store (obs) (s : State) : KeepsStore s (windowAccepted obs s) := ⟨rfl, rfl⟩

@[simp] theorem lockChain_store (obs) (s : State) : KeepsStore s (lockChain obs s) := by simp [lockChain]

@[simp] theorem crossFree_store (obs) (s : State) : KeepsStore s (crossFree obs s) := by
  unfold crossFree
  split <;> simp

@[simp] theorem crossLocked_store (obs) (s : State) : KeepsStore s (crossLocked obs s) := by simp [crossLocked]

@[simp] theorem beginCounting_store (t st) (s : State) : KeepsStore s (beginCounting t st s) := by simp [beginCounting]

@[simp] theorem zxCrossing_store (t positive) (s : State) : KeepsStore s (zxCrossing t positive s) := by
  unfold zxCrossing
  (repeat' split) <;> simp

@[simp] theorem enterHoldover_store (s : State) : KeepsStore s (enterHoldover s) := by simp [enterHoldover]

@[simp] theorem missingCrossing_store (s : State) : KeepsStore s (missingCrossing s) := by simp [missingCrossing]

@[simp] theorem chainLive_store (s : State) : KeepsStore s (chainLive s) := ⟨rfl, rfl⟩

@[simp] theorem slotBoundary_store (s : State) : KeepsStore s (slotBoundary s) := by simp [slotBoundary]

@[simp] theorem classBoundary_store (s : State) : KeepsStore s (classBoundary s) := by
  unfold classBoundary
  split <;> simp

@[simp] theorem mcBoundary_store (s0 : State) : KeepsStore s0 (mcBoundary s0) := by simp [mcBoundary]

@[simp] theorem ptTick_store (s : State) : KeepsStore s (ptTick s) := by simp [ptTick]

@[simp] theorem chainSynthetic_store (s : State) : KeepsStore s (chainSynthetic s) := by simp [chainSynthetic]

/-! ### Acre -/

@[simp] theorem acreNotes_store (old) (s : State) : KeepsStore s (acreNotes old s) := by simp [acreNotes]

@[simp] theorem acreEval_store (s : State) : KeepsStore s (acreEval s) := by simp [acreEval]

@[simp] theorem acreSend_store (typ dst body plain) (s : State) : KeepsStore s (acreSend typ dst body plain s) := ⟨rfl, rfl⟩

@[simp] theorem acreReceive_store (typ addr b act) (s0 : State) (h0 : ∀ a0, KeepsStore a0 (act a0)) :
    KeepsStore s0 (acreReceive typ addr b act s0) := by
  simp [acreReceive, h0]

@[simp] theorem duplicate_store (was) (s : State) : KeepsStore s (duplicate was s) := by simp [duplicate]

@[simp] theorem classResolution_store (d) (s : State) : KeepsStore s (classResolution d s) := by
  simp only [classResolution]
  (repeat' split) <;> simp

@[simp] theorem sendJoin_store (s : State) : KeepsStore s (sendJoin s) := ⟨rfl, rfl⟩

@[simp] theorem joinAtBeacon_store (was) (s : State) : KeepsStore s (joinAtBeacon was s) := by simp [joinAtBeacon]

@[simp] theorem followBeacon_store (was id addr b) (s : State) : KeepsStore s (followBeacon was id addr b s) := by
  simp [followBeacon]

@[simp] theorem beaconAct_store (addr b) (s0 : State) : KeepsStore s0 (beaconAct addr b s0) := by
  simp only [beaconAct]
  (repeat' split) <;> simp

@[simp] theorem beaconRelease_store (s : State) : KeepsStore s (beaconRelease s) := by simp [beaconRelease]

@[simp] theorem beaconSend_store (s0 : State) : KeepsStore s0 (beaconSend s0) := by simp [beaconSend]

@[simp] theorem joinAct_store (addr b) (s : State) : KeepsStore s (joinAct addr b s) := by simp [joinAct]

@[simp] theorem slotAct_store (b) (s : State) : KeepsStore s (slotAct b s) := by simp [slotAct]

/-! ### Sensing -/

@[simp] theorem noData_store (m k) (s : State) : KeepsStore s (noData m k s) := ⟨rfl, rfl⟩

@[simp] theorem applyModLive_store (m) (s : State) : KeepsStore s (applyModLive m s) := by simp [applyModLive]

@[simp] theorem presUseUpdate_store (m) (s : State) : KeepsStore s (presUseUpdate m s) := by simp [presUseUpdate]

@[simp] theorem blankInputs_store (m ins) (s : State) : KeepsStore s (blankInputs m ins s) := by simp [blankInputs]

@[simp] theorem modsArm_store (s : State) : KeepsStore s (modsArm s) := ⟨rfl, rfl⟩

@[simp] theorem roundNone_store (m) (s : State) : KeepsStore s (roundNone m s) := ⟨rfl, rfl⟩

@[simp] theorem roundStart_store (m) (s : State) : KeepsStore s (roundStart m s) := by simp [roundStart]

@[simp] theorem windowStart_store (m) (s : State) : KeepsStore s (windowStart m s) := by simp [windowStart]

@[simp] theorem applyPresLive_store (d) (s : State) : KeepsStore s (applyPresLive d s) := ⟨rfl, rfl⟩

@[simp] theorem presEnterFault_store (d) (s : State) : KeepsStore s (presEnterFault d s) := by simp [presEnterFault]

@[simp] theorem presSample_store (d x) (s0 : State) : KeepsStore s0 (presSample d x s0) := by
  unfold presSample
  split <;> simp

@[simp] theorem stoneWindow_store (m) (s : State) : KeepsStore s (stoneWindow m s) := ⟨rfl, rfl⟩

@[simp] theorem deliverTo_store (m k r) (s : State) : KeepsStore s (deliverTo m k r s) := ⟨rfl, rfl⟩

@[simp] theorem windowEnd_store (m w) (s : State) : KeepsStore s (windowEnd m w s) := by
  unfold windowEnd
  lift_lets
  intro md s' k prm order done wins s1 full r used d s2 total
  have h1 : KeepsStore s s1 := by simp [s1, s']
  have h2 : KeepsStore s s2 := by
    unfold s2
    (repeat' split) <;> simp [d, h1]
  (repeat' split) <;> simp [h1, h2]

@[simp] theorem rangeEvent_store (m k bad first) (s : State) : KeepsStore s (rangeEvent m k bad first s) := by
  simp [rangeEvent]

@[simp] theorem busLast_store (n w) (s : State) : KeepsStore s (busLast n w s) := by simp [busLast]

@[simp] theorem publishOne_store (m d) (s : State) : KeepsStore s (publishOne m d s) := by simp [publishOne]

@[simp] theorem publishAll_store (m) (s : State) : KeepsStore s (publishAll m s) := by simp [publishAll]

/-! ### Stone -/

@[simp] theorem calAlarm_store (on) (s : State) : KeepsStore s (calAlarm on s) := by simp [calAlarm]

@[simp] theorem stoneBoot_store (s0 : State) : KeepsStore s0 (stoneBoot s0) := by
  simp only [stoneBoot]
  (repeat' split) <;> simp

@[simp] theorem enterQuiet_store (byStone) (s : State) : KeepsStore s (enterQuiet byStone s) := ⟨rfl, rfl⟩

@[simp] theorem leaveQuiet_store (s : State) : KeepsStore s (leaveQuiet s) := by simp [leaveQuiet]

@[simp] theorem stepRelease_store (s : State) : KeepsStore s (stepRelease s) := by
  unfold stepRelease
  split <;> simp

@[simp] theorem visitStart_store (m) (s : State) : KeepsStore s (visitStart m s) := by
  simp only [visitStart]
  (repeat' split) <;> simp

@[simp] theorem addVal_store (k v) (s : State) : KeepsStore s (addVal k v s) := ⟨rfl, rfl⟩

@[simp] theorem recordVisit_store (m i codes) (s : State) : KeepsStore s (recordVisit m i codes s) := by
  unfold recordVisit
  split <;> simp

@[simp] theorem visitsOver_store (s : State) : KeepsStore s (visitsOver s) := by simp [visitsOver]

@[simp] theorem visitEnd_store (m) (s : State) : KeepsStore s (visitEnd m s) := by
  simp only [visitEnd]
  (repeat' split) <;> simp

@[simp] theorem clearVisits_store (s : State) : KeepsStore s (clearVisits s) := by simp [clearVisits]

@[simp] theorem endRun_store (result status item) (s : State) : KeepsStore s (endRun result status item s) := by
  unfold endRun
  split <;> simp

@[simp] theorem abortRun_store (result status) (s : State) : KeepsStore s (abortRun result status s) := by simp [abortRun]

@[simp] theorem startRun_store (set) (s : State) : KeepsStore s (startRun set s) := ⟨rfl, rfl⟩

@[simp] theorem passEnd_store (s : State) : KeepsStore s (passEnd s) := by
  unfold passEnd
  split <;> simp

@[simp] theorem runComplete_cells (s : State) : KeepsCells s (runComplete s) := by
  unfold runComplete
  split <;> simp

@[simp] theorem stoneDone_store (ok) (s : State) : KeepsStore s (stoneDone ok s) := by
  unfold stoneDone
  (repeat' split) <;> simp

/-! ### Loops -/

@[simp] theorem setOutHold_store (l v) (s : State) : KeepsStore s (setOutHold l v s) := ⟨rfl, rfl⟩

@[simp] theorem writeOutHold_store (l v) (s : State) : KeepsStore s (writeOutHold l v s) := ⟨rfl, rfl⟩

@[simp] theorem raiseLoopZone_store (l) (s : State) : KeepsStore s (raiseLoopZone l s) := by
  unfold raiseLoopZone
  split <;> simp

@[simp] theorem loopRecord_store (typ sev l) (s : State) : KeepsStore s (loopRecord typ sev l s) := by simp [loopRecord]

@[simp] theorem startLoop_store (l) (s : State) : KeepsStore s (startLoop l s) := ⟨rfl, rfl⟩

@[simp] theorem loopStart_store (l) (s : State) : KeepsStore s (loopStart l s) := by simp [loopStart]

@[simp] theorem stopLoop_store (l) (s : State) : KeepsStore s (stopLoop l s) := ⟨rfl, rfl⟩

@[simp] theorem loopsHold_store (s : State) : KeepsStore s (loopsHold s) := by simp [loopsHold]

@[simp] theorem loopsUnhold_store (s : State) : KeepsStore s (loopsUnhold s) := ⟨rfl, rfl⟩

@[simp] theorem loopLive_store (l) (s : State) : KeepsStore s (loopLive l s) := ⟨rfl, rfl⟩

@[simp] theorem loopApplyStaged_store (l) (s : State) : KeepsStore s (loopApplyStaged l s) := by simp [loopApplyStaged]

@[simp] theorem loopApplyOpen_store (l) (s : State) : KeepsStore s (loopApplyOpen l s) := by
  simp only [loopApplyOpen]
  (repeat' split) <;> simp

@[simp] theorem loopEval_store (l) (s : State) : KeepsStore s (loopEval l s) := by simp [loopEval]

@[simp] theorem loopNotes_store (l old new) (s : State) : KeepsStore s (loopNotes l old new s) := by simp [loopNotes]

@[simp] theorem loopOverrun_store (l) (s : State) : KeepsStore s (loopOverrun l s) := by simp [loopOverrun]

@[simp] theorem loopFault_store (l d) (s : State) : KeepsStore s (loopFault l d s) := by simp [loopFault]

@[simp] theorem loopCommitCfg_store (l e) (s : State) : KeepsStore s (loopCommitCfg l e s) := by
  unfold loopCommitCfg
  (repeat' split) <;> simp

@[simp] theorem loopCommitted_store (l e) (s0 : State) : KeepsStore s0 (loopCommitted l e s0) := by simp [loopCommitted]

@[simp] theorem postOpen_store (l v) (s : State) : KeepsStore s (postOpen l v s) := by
  unfold postOpen
  split <;> simp

@[simp] theorem postClose_store (l) (s : State) : KeepsStore s (postClose l s) := ⟨rfl, rfl⟩

@[simp] theorem loopInput_store (l mask b) (s : State) : KeepsStore s (loopInput l mask b s) := ⟨rfl, rfl⟩

/-! ### Solstice -/

@[simp] theorem solDiscard_store (k) (s : State) : KeepsStore s (solDiscard k s) := ⟨rfl, rfl⟩

@[simp] theorem solReport_store (k) (s : State) : KeepsStore s (solReport k s) := by simp [solReport]

@[simp] theorem solAccumulate_store (l) (s : State) : KeepsStore s (solAccumulate l s) := by simp [solAccumulate]

@[simp] theorem solLive_store (k) (s : State) : KeepsStore s (solLive k s) := ⟨rfl, rfl⟩

@[simp] theorem solBinEnd_store (k) (s : State) : KeepsStore s (solBinEnd k s) := by simp [solBinEnd]

@[simp] theorem closeBins_store (s : State) : KeepsStore s (closeBins s) := ⟨rfl, rfl⟩

@[simp] theorem solFeedForward_store (s : State) : KeepsStore s (solFeedForward s) := by simp [solFeedForward]

@[simp] theorem nvEdges_store (bank a n) (s : State) : KeepsStore s (nvEdges bank a n s) := by simp [nvEdges]

@[simp] theorem persistSlot_cells (k) (s0 : State) : KeepsCells s0 (persistSlot k s0) := by simp [persistSlot]

@[simp] theorem persistZone_cells (z) (s : State) : KeepsCells s (persistZone z s) := ⟨rfl, rfl, rfl, rfl⟩

@[simp] theorem persistNextSlot_cells (s : State) : KeepsCells s (persistNextSlot s) := by
  unfold persistNextSlot
  split <;> simp

@[simp] theorem persistNextZone_cells (s : State) : KeepsCells s (persistNextZone s) := ⟨rfl, rfl, rfl, rfl⟩

@[simp] theorem solPersist_cells (s : State) : KeepsCells s (solPersist s) := by simp [solPersist]

@[simp] theorem solSlotDone_cells (k ok) (s : State) : KeepsCells s (solSlotDone k ok s) := by simp [solSlotDone]

@[simp] theorem solBoot_store (s : State) : KeepsStore s (solBoot s) := by simp [solBoot]

@[simp] theorem loopCommit_store (l late) (s : State) : KeepsStore s (loopCommit l late s) := by
  unfold loopCommit
  split <;> simp

/-! ### Zones -/

@[simp] theorem zoneClose_store (l) (s : State) : KeepsStore s (zoneClose l s) := by simp [zoneClose]

@[simp] theorem zoneOpen_store (l v) (s : State) : KeepsStore s (zoneOpen l v s) := by simp [zoneOpen]

@[simp] theorem openSafe_store (l) (s : State) : KeepsStore s (openSafe l s) := by simp [openSafe]

@[simp] theorem openMin_store (l) (s : State) : KeepsStore s (openMin l s) := by simp [openMin]

@[simp] theorem zoneLoopOps_store (z old new) (s : State) : KeepsStore s (zoneLoopOps z old new s) := by simp [zoneLoopOps]

@[simp] theorem changeoverOps_store (z cool) (s : State) : KeepsStore s (changeoverOps z cool s) := by simp [changeoverOps]

@[simp] theorem dewWrite_store (z) (s : State) : KeepsStore s (dewWrite z s) := by
  unfold dewWrite
  split <;> simp

@[simp] theorem zoneWrites_store (z) (s : State) : KeepsStore s (zoneWrites z s) := by
  unfold zoneWrites
  refine .foldl _ _ (fun _ _ => ?_)
  (repeat' split) <;> simp

@[simp] theorem zoneNotes_store (z old new) (s : State) : KeepsStore s (zoneNotes z old new s) := by simp [zoneNotes]

@[simp] theorem setZoneFault_store (z v) (s : State) : KeepsStore s (setZoneFault z v s) := by
  unfold setZoneFault
  (repeat' split) <;> simp

@[simp] theorem zonePass_store (z) (s0 : State) : KeepsStore s0 (zonePass z s0) := by simp [zonePass]

@[simp] theorem zoneLive_store (s : State) : KeepsStore s (zoneLive s) := ⟨rfl, rfl⟩

@[simp] theorem restartDelays_store (s : State) : KeepsStore s (restartDelays s) := by simp [restartDelays]

@[simp] theorem zoneLogicPass_store (s0 : State) : KeepsStore s0 (zoneLogicPass s0) := by simp [zoneLogicPass]

@[simp] theorem specConfirm_store (z) (s : State) : KeepsStore s (specConfirm z s) := by simp [specConfirm]

@[simp] theorem changeoverExpiry_store (z) (s : State) : KeepsStore s (changeoverExpiry z s) := by simp [changeoverExpiry]

@[simp] theorem windowExpiry_store (z) (s : State) : KeepsStore s (windowExpiry z s) := by simp [windowExpiry]

@[simp] theorem faultExpiry_store (z) (s : State) : KeepsStore s (faultExpiry z s) := by simp [faultExpiry]

@[simp] theorem comfortExpiry_store (z) (s : State) : KeepsStore s (comfortExpiry z s) := by
  simp only [comfortExpiry]
  (repeat' split) <;> simp

@[simp] theorem occBinEnd_store (z) (s : State) : KeepsStore s (occBinEnd z s) := ⟨rfl, rfl⟩

@[simp] theorem zoneRestart_store (z) (s : State) : KeepsStore s (zoneRestart z s) := by simp [zoneRestart]

@[simp] theorem zonesRestart_store (s : State) : KeepsStore s (zonesRestart s) := by simp [zonesRestart]

@[simp] theorem startManual_store (z minutes heat cool) (s : State) : KeepsStore s (startManual z minutes heat cool s) :=
  ⟨rfl, rfl⟩

/-! ### The actuator drive -/

@[simp] theorem actReport_store (typ sev n) (s : State) : KeepsStore s (actReport typ sev n s) := by simp [actReport]

@[simp] theorem releasePullIn_store (n at_) (s : State) : KeepsStore s (releasePullIn n at_ s) := ⟨rfl, rfl⟩

@[simp] theorem turnOff_store (n) (s : State) : KeepsStore s (turnOff n s) := by
  simp only [turnOff]
  (repeat' split) <;> simp

@[simp] theorem peakToHold_store (n at_) (s : State) : KeepsStore s (peakToHold n at_ s) := ⟨rfl, rfl⟩

@[simp] theorem heldCurrent_store (n) (s : State) : KeepsStore s (heldCurrent n s) := ⟨rfl, rfl⟩

@[simp] theorem peakStops_store (n was) (s : State) : KeepsStore s (peakStops n was s) := by simp [peakStops]

@[simp] theorem setWait_store (n w) (s : State) : KeepsStore s (setWait n w s) := ⟨rfl, rfl⟩

@[simp] theorem dequeue_store (n) (s : State) : KeepsStore s (dequeue n s) := ⟨rfl, rfl⟩

@[simp] theorem noTurnOn_store (n) (s : State) : KeepsStore s (noTurnOn n s) := ⟨rfl, rfl⟩

@[simp] theorem startPeak_store (n boosted degraded) (s : State) : KeepsStore s (startPeak n boosted degraded s) := by
  simp [startPeak]

@[simp] theorem enqueue_store (n) (s : State) : KeepsStore s (enqueue n s) := by simp [enqueue]

@[simp] theorem gates_store (n) (s : State) : KeepsStore s (gates n s) := by simp [gates]

@[simp] theorem flStop_store (k) (s : State) : KeepsStore s (flStop k s) := by simp [flStop]

@[simp] theorem flStart_store (k dir) (s : State) : KeepsStore s (flStart k dir s) := by simp [flStart]

@[simp] theorem floatControl_store (k) (s : State) : KeepsStore s (floatControl k s) := by
  simp only [floatControl]
  (repeat' split) <;> simp

@[simp] theorem actLive_store (n) (s : State) : KeepsStore s (actLive n s) := by simp [actLive]

@[simp] theorem actDevLive_store (s : State) : KeepsStore s (actDevLive s) := ⟨rfl, rfl⟩

@[simp] theorem chanStep_store (n) (s : State) : KeepsStore s (chanStep n s) := by
  simp only [chanStep]
  (repeat' split) <;> simp

@[simp] theorem actOverride_store (n) (s : State) : KeepsStore s (actOverride n s) := ⟨rfl, rfl⟩

@[simp] theorem switchesSafe_store (s : State) : KeepsStore s (switchesSafe s) := by simp [switchesSafe]

@[simp] theorem switchesHold_store (alloc) (s : State) (h0 : ∀ a0, KeepsStore a0 (alloc a0)) :
    KeepsStore s (switchesHold alloc s) := by
  simp [switchesHold, h0]

@[simp] theorem dutyCount_store (n) (s : State) : KeepsStore s (dutyCount n s) := ⟨rfl, rfl⟩

@[simp] theorem allocate_store (s : State) : KeepsStore s (allocate s) := by simp [allocate]

@[simp] theorem notePull_store (n) (s : State) : KeepsStore s (notePull n s) := by simp [notePull]

@[simp] theorem pwmPeriod_store (raw) (s : State) : KeepsStore s (pwmPeriod raw s) := by simp [pwmPeriod]

@[simp] theorem dutyBucketEnd_store (n) (s : State) : KeepsStore s (dutyBucketEnd n s) := by simp [dutyBucketEnd]

@[simp] theorem serveQueued_store (q) (s : State) : KeepsStore s (serveQueued q s) := by simp [serveQueued]

@[simp] theorem slotStart_store (s : State) : KeepsStore s (slotStart s) := by simp [slotStart]

@[simp] theorem floatResync_store (n) (s : State) : KeepsStore s (floatResync n s) := by simp [floatResync]

@[simp] theorem faultOff_store (n) (s : State) : KeepsStore s (faultOff n s) := by simp [faultOff]

@[simp] theorem pairOff_store (k) (s : State) : KeepsStore s (pairOff k s) := by simp [pairOff]

@[simp] theorem flHalt_store (n) (s : State) : KeepsStore s (flHalt n s) := by simp [flHalt]

@[simp] theorem clearChannel_store (n) (s : State) : KeepsStore s (clearChannel n s) := by simp [clearChannel]

@[simp] theorem boostReport_store (on) (s : State) : KeepsStore s (boostReport on s) := by simp [boostReport]

@[simp] theorem boostFault_store (s : State) : KeepsStore s (boostFault s) := by simp [boostFault]

@[simp] theorem boostUnfault_store (s : State) : KeepsStore s (boostUnfault s) := by simp [boostUnfault]

@[simp] theorem clearBoost_store (s : State) : KeepsStore s (clearBoost s) := by simp [clearBoost]

@[simp] theorem burstStep_store (s : State) : KeepsStore s (burstStep s) := by simp [burstStep]

@[simp] theorem bypassEval_store (vact) (s : State) : KeepsStore s (bypassEval vact s) := by simp [bypassEval]

/-! ### Containers and the management store -/

@[simp] theorem mgtChange_cells (why) (s : State) : KeepsCells s (mgtChange why s) := by
  unfold mgtChange
  split <;> simp

@[simp] theorem mgtTurn_cells (s : State) : KeepsCells s (mgtTurn s) := by
  unfold mgtTurn
  split <;> simp

@[simp] theorem mgtStore_cells (why) (s : State) : KeepsCells s (mgtStore why s) := by simp [mgtStore]

theorem foldl_nvWriteCw_wf (l : List CwWrite) (s : State) (h : NvWf s) : NvWf { s with nvm := l.foldl nvWriteCw s.nvm } :=
  List.foldlRecOn (motive := fun n => NvWf { s with nvm := n }) l nvWriteCw h fun _ h w _ => nvWriteCw_wf _ w h.1 h.2

@[simp] theorem mgtStoreNow_wf (s : State) (h : NvWf s) : NvWf (mgtStoreNow s) := foldl_nvWriteCw_wf _ s h

@[simp] theorem mgtStored_cells (ok) (s : State) : KeepsCells s (mgtStored ok s) := by simp [mgtStored]

@[simp] theorem raiseFloor_cells (kind v) (s : State) : KeepsCells s (raiseFloor kind v s) := by simp [raiseFloor]

/-! ### Fans -/

@[simp] theorem fanReport_store (typ sev f) (s : State) : KeepsStore s (fanReport typ sev f s) := by simp [fanReport]

@[simp] theorem fanTo_store (f st) (s : State) : KeepsStore s (fanTo f st s) := ⟨rfl, rfl⟩

@[simp] theorem fanPolicy_store (f) (s : State) : KeepsStore s (fanPolicy f s) := ⟨rfl, rfl⟩

@[simp] theorem fanLive_store (f) (s : State) : KeepsStore s (fanLive f s) := by simp [fanLive]

@[simp] theorem fanMove_store (f) (s : State) : KeepsStore s (fanMove f s) := by
  simp only [fanMove]
  (repeat' split) <;> simp

@[simp] theorem fanPeriod_store (f) (s : State) : KeepsStore s (fanPeriod f s) := by simp [fanPeriod]

@[simp] theorem kick_store (f) (s : State) : KeepsStore s (kick f s) := ⟨rfl, rfl⟩

@[simp] theorem fanUnless_store (f act) (s : State) (h0 : ∀ a0, KeepsStore a0 (act a0)) :
    KeepsStore s (fanUnless f act s) := by
  simp [fanUnless, h0]

@[simp] theorem kickFailed_store (f) (s : State) : KeepsStore s (kickFailed f s) := by simp [kickFailed]

@[simp] theorem tachEdge_store (f t) (s : State) : KeepsStore s (tachEdge f t s) := by simp [tachEdge]

@[simp] theorem tachLoss_store (f) (s : State) : KeepsStore s (tachLoss f s) := by simp [tachLoss]

@[simp] theorem clearFan_store (f) (s : State) : KeepsStore s (clearFan f s) := by simp [clearFan]

@[simp] theorem fansOff_store (s : State) : KeepsStore s (fansOff s) := by simp [fansOff]

@[simp] theorem fanRelease_store (s : State) : KeepsStore s (fanRelease s) := by simp [fanRelease]

/-! ### The panel -/

@[simp] theorem mapRect_store (r f) (s : State) : KeepsStore s (mapRect r f s) := ⟨rfl, rfl⟩

@[simp] theorem lineCrcs_store (r) (s : State) : KeepsStore s (lineCrcs r s) := ⟨rfl, rfl⟩

@[simp] theorem quireRaise_store (s : State) : KeepsStore s (quireRaise s) := by simp [quireRaise]

@[simp] theorem quireReport_store (s : State) : KeepsStore s (quireReport s) := by simp [quireReport]

@[simp] theorem setBandRun_store (b) (s : State) : KeepsStore s (setBandRun b s) := by simp [setBandRun]

@[simp] theorem railsMove_store (b same) (s : State) : KeepsStore s (railsMove b same s) := by simp [railsMove]

@[simp] theorem railsFollow_store (s : State) : KeepsStore s (railsFollow s) := by
  unfold railsFollow
  split <;> simp

@[simp] theorem tableTake_cells (s : State) : KeepsCells s (tableTake s) := by
  unfold tableTake
  split <;> simp

@[simp] theorem tableStage_cells (p slot ver) (s : State) : KeepsCells s (tableStage p slot ver s) := by simp [tableStage]

@[simp] theorem bandDefault_store (s : State) : KeepsStore s (bandDefault s) := by simp [bandDefault]

@[simp] theorem bandCheck_store (s : State) : KeepsStore s (bandCheck s) := by simp [bandCheck]

@[simp] theorem setTempInvalid_store (v) (s : State) : KeepsStore s (setTempInvalid v s) := by simp [setTempInvalid]

@[simp] theorem bandEval_store (s : State) : KeepsStore s (bandEval s) := by simp [bandEval]

@[simp] theorem railsOn_store (s : State) : KeepsStore s (railsOn s) := by simp [railsOn]

@[simp] theorem railsOff_store (s : State) : KeepsStore s (railsOff s) := by
  unfold railsOff
  split <;> simp

@[simp] theorem regionDone_store (n r) (s : State) : KeepsStore s (regionDone n r s) := by simp [regionDone]

@[simp] theorem phaseDone_store (n r) (s : State) : KeepsStore s (phaseDone n r s) := by simp [phaseDone]

@[simp] theorem regionFree_store (n r) (s : State) : KeepsStore s (regionFree n r s) := ⟨rfl, rfl⟩

@[simp] theorem regionsEnd_store (s : State) : KeepsStore s (regionsEnd s) := by
  unfold regionsEnd
  refine .foldl _ _ (fun _ _ => ?_)
  (repeat' split) <;> simp

@[simp] theorem tableReload_cells (s0 : State) : KeepsCells s0 (tableReload s0) := by simp [tableReload]

@[simp] theorem regionLast_store (n) (s : State) : KeepsStore s (regionLast n s) := by
  unfold regionLast
  split <;> simp

@[simp] theorem regionBalanced_store (n) (s : State) : KeepsStore s (regionBalanced n s) := by
  unfold regionBalanced
  split <;> simp

@[simp] theorem regionsSlot_store (s : State) : KeepsStore s (regionsSlot s) := by simp [regionsSlot]

@[simp] theorem startRegion_store (q n p) (s : State) : KeepsStore s (startRegion q n p s) := ⟨rfl, rfl⟩

@[simp] theorem scanQueue_store (p : List Byte) (kept l : List PnlReq) (s : State) : KeepsStore s (scanQueue p kept l s) := by
  induction l generalizing kept s with
  | nil => exact ⟨rfl, rfl⟩
  | cons q rest ih =>
    simp only [scanQueue]
    (repeat' split) <;> simp [ih]

@[simp] theorem clearStart_store (p) (s : State) : KeepsStore s (clearStart p s) := by simp [clearStart]

@[simp] theorem clearEnd_store (s : State) : KeepsStore s (clearEnd s) := by
  unfold clearEnd
  split <;> simp

@[simp] theorem frameAfter_store (s : State) : KeepsStore s (frameAfter s) := ⟨rfl, rfl⟩

@[simp] theorem driveFrame_store (s : State) : KeepsStore s (driveFrame s) := by simp [driveFrame]

@[simp] theorem panelFault_cells (cause) (s : State) : KeepsCells s (panelFault cause s) := by simp [panelFault]

@[simp] theorem crackCheck_cells (ok) (s : State) : KeepsCells s (crackCheck ok s) := by simp [crackCheck]

@[simp] theorem lineCheck_cells (readOk) (s : State) : KeepsCells s (lineCheck readOk s) := by simp [lineCheck]

@[simp] theorem panelLive_store (s : State) : KeepsStore s (panelLive s) := by simp [panelLive]

@[simp] theorem sramFault_cells (s : State) : KeepsCells s (sramFault s) := by simp [sramFault]

@[simp] theorem blinkPhase_store (n) (s : State) : KeepsStore s (blinkPhase n s) := by
  unfold blinkPhase
  (repeat' split) <;> simp

@[simp] theorem blinkPhases_store (s : State) : KeepsStore s (blinkPhases s) := by simp [blinkPhases]

@[simp] theorem slotTurn_banks (s : State) : KeepsBanks s (slotTurn s) := by
  unfold slotTurn
  extract_lets s0 s1 s2
  have h0 : KeepsBanks s s0 := by simp [s0]
  have h1 : KeepsBanks s0 s1 := by simp [s1]
  have h2 : KeepsBanks s1 s2 := by simp [s2]
  have h := (h0.trans h1).trans h2
  split
  · exact h
  · exact h.trans (by simp)

@[simp] theorem slotFetch_cells (fetchBad) (s : State) : KeepsCells s (slotFetch fetchBad s) := by simp [slotFetch]

@[simp] theorem frameSlot_banks (crackOk readOk fetchBad) (s : State) :
    KeepsBanks s (frameSlot crackOk readOk fetchBad s) := by
  simp [frameSlot]

@[simp] theorem panelStop_store (s : State) : KeepsStore s (panelStop s) := by simp [panelStop]

@[simp] theorem writeStaging_store (r data) (s : State) : KeepsStore s (writeStaging r data s) := ⟨rfl, rfl⟩

@[simp] theorem panelWrite_store (d) (s : State) : KeepsStore s (panelWrite d s).1 := by
  simp only [panelWrite]
  (repeat' split) <;> simp

/-! ### Bus ports -/

@[simp] theorem portReport_store (p) (s : State) : KeepsStore s (portReport p s) := by simp [portReport]

@[simp] theorem setFdReg_store (v) (s : State) : KeepsStore s (setFdReg v s) := by simp [setFdReg]

@[simp] theorem fdEnd_store (s : State) : KeepsStore s (fdEnd s) := by simp [fdEnd]

@[simp] theorem dropFrame_store (p) (s : State) : KeepsStore s (dropFrame p s) := by simp [dropFrame]

@[simp] theorem takeFrame_store (p k) (s : State) : KeepsStore s (takeFrame p k s) := by
  unfold takeFrame
  split <;> simp

@[simp] theorem portStop_store (p) (s : State) : KeepsStore s (portStop s p) := by simp [portStop]

@[simp] theorem busInForce_store (old) (s : State) : KeepsStore s (busInForce old s) := by simp [busInForce]

@[simp] theorem frameBoundary_store (p) (s : State) : KeepsStore s (frameBoundary p s) := by simp [frameBoundary]

@[simp] theorem busFrameReceive_store (p k) (s : State) : KeepsStore s (busFrameReceive p k s) := by simp [busFrameReceive]

@[simp] theorem frameSent_store (p) (s : State) : KeepsStore s (frameSent p s) := ⟨rfl, rfl⟩

@[simp] theorem busQueue_store (s : State) : KeepsStore s (busQueue s) := ⟨rfl, rfl⟩

@[simp] theorem linkChange_store (p up sole) (s : State) : KeepsStore s (linkChange p up sole s) := by simp [linkChange]

/-! ### Commits -/

@[simp] theorem handOver_store (s : State) : KeepsStore s (handOver s) := ⟨rfl, rfl⟩

@[simp] theorem loopCommitEffect_store (old rewritten i) (s : State) : KeepsStore s (loopCommitEffect old rewritten s i) := by
  simp [loopCommitEffect]

@[simp] theorem solCommitEffect_store (old k) (s : State) : KeepsStore s (solCommitEffect old s k) := by
  simp [solCommitEffect]

@[simp] theorem fanCommitEffect_store (old f) (s : State) : KeepsStore s (fanCommitEffect old s f) := by
  simp [fanCommitEffect]

@[simp] theorem actCommitEffect_store (old n) (s : State) : KeepsStore s (actCommitEffect old s n) := by
  simp [actCommitEffect]

@[simp] theorem stoneCommitEffect_store (old before) (s : State) : KeepsStore s (stoneCommitEffect old before s) := by
  simp [stoneCommitEffect]

@[simp] theorem panelCommitEffect_store (old) (s : State) : KeepsStore s (panelCommitEffect old s) := by
  simp [panelCommitEffect]

@[simp] theorem gpioCommitEffect_store (old g) (s : State) : KeepsStore s (gpioCommitEffect old s g) := by
  simp [gpioCommitEffect]

@[simp] theorem forceEffects_store (was before) (s : State) : KeepsStore s (forceEffects was before s) := by
  simp [forceEffects]

@[simp] theorem blockEffects_store (old before rw boost) (s : State) : KeepsStore s (blockEffects old before rw boost s) := by
  simp [blockEffects]

@[simp] theorem commitsRelease_store (s : State) : KeepsStore s (commitsRelease s) := by simp [commitsRelease]

@[simp] theorem commitFailed_store (st l) (s : State) : KeepsStore s (commitFailed st l s) := by simp [commitFailed]

@[simp] theorem commitStart_cells (img0 busy closed p) (s : State) : KeepsCells s (commitStart img0 busy closed p s).1 := by
  simp only [commitStart]
  (repeat' split) <;> simp

@[simp] theorem commitApply_cells (p) (s : State) : KeepsCells s (commitApply p s) := by
  unfold commitApply
  (repeat' split) <;> simp

@[simp] theorem commitDone_cells (ok) (s : State) : KeepsCells s (commitDone ok s) := by
  unfold commitDone
  split <;> simp

@[simp] theorem setWords_cells (sec i w ws) (s : State) : KeepsCells s (setWords sec i w ws s).1 := by simp [setWords]

@[simp] theorem setInst_cells (sec base m) (s : State) : KeepsCells s (setInst sec base m s).1 := by
  simp only [setInst]
  (repeat' split) <;> simp

@[simp] theorem setAll_cells (sec m) (s : State) : KeepsCells s (setAll sec m s).1 := by simp [setAll]

@[simp] theorem setLoop_cells (m) (s : State) : KeepsCells s (setLoop m s).1 := by
  simp only [setLoop]
  (repeat' split) <;> simp

/-! ### Configuration commands -/

@[simp] theorem cfgBegin_store (s : State) : KeepsStore s (cfgBegin s) := ⟨rfl, rfl⟩

@[simp] theorem cfgRead_store (m) (s : State) : KeepsStore s (cfgRead m s).1 := by
  simp only [cfgRead]
  (repeat' split) <;> simp

@[simp] theorem cfgWrite_store (m) (s : State) : KeepsStore s (cfgWrite m s).1 := by
  simp only [cfgWrite]
  (repeat' split) <;> simp

@[simp] theorem cfgCommit_cells (s : State) : KeepsCells s (cfgCommit s).1 := by
  unfold cfgCommit
  (repeat' split) <;> simp

@[simp] theorem cfgLoad_store (c) (s : State) : KeepsStore s (cfgLoad c s).1 := by
  unfold cfgLoad
  split <;> simp

@[simp] theorem cfgExport_store (s : State) : KeepsStore s (cfgExport s).1 := by
  simp only [cfgExport]
  (repeat' split) <;> simp

/-! ### Keys -/

@[simp] theorem keyReport_store (on) (s : State) : KeepsStore s (keyReport on s) := by simp [keyReport]

@[simp] theorem keyPush_store (press stuck k) (s : State) : KeepsStore s (keyPush press stuck k s) := by simp [keyPush]

@[simp] theorem phantomEval_store (s : State) : KeepsStore s (phantomEval s) := by simp [phantomEval]

@[simp] theorem lockOut_store (s : State) : KeepsStore s (lockOut s) := by
  simp only [lockOut]
  (repeat' split) <;> simp

@[simp] theorem stuckNote_store (was) (s : State) : KeepsStore s (stuckNote was s) := by simp [stuckNote]

@[simp] theorem keysIdle_store (s : State) : KeepsStore s (keysIdle s) := by simp [keysIdle]

@[simp] theorem keyScan_store (raw) (s1 : State) : KeepsStore s1 (keyScan raw s1) := by simp [keyScan]

@[simp] theorem keyStuck_store (i) (s : State) : KeepsStore s (keyStuck i s) := by simp [keyStuck]

/-! ### Housekeeping -/

@[simp] theorem resultPublish_store (m) (s : State) : KeepsStore s (resultPublish m s) := by simp [resultPublish]

@[simp] theorem publishLate_store (s : State) : KeepsStore s (publishLate s) := by simp [publishLate]

@[simp] theorem hkAlarm_store (k) (s : State) : KeepsStore s (hkAlarm k s) := by simp [hkAlarm]

@[simp] theorem refCheck_store (s : State) : KeepsStore s (refCheck s) := by simp [refCheck]

@[simp] theorem vbatCheck_store (s : State) : KeepsStore s (vbatCheck s) := by simp [vbatCheck]

@[simp] theorem vactCheck_store (s : State) : KeepsStore s (vactCheck s) := by simp [vactCheck]

@[simp] theorem dieTempEval_store (s : State) : KeepsStore s (dieTempEval s) := by simp [dieTempEval]

@[simp] theorem runTemp_store (s : State) : KeepsStore s (runTemp s) := by simp [runTemp]

@[simp] theorem hkRoundEnd_store (s : State) : KeepsStore s (hkRoundEnd s) := by simp [hkRoundEnd]

@[simp] theorem actSense_store (n reading) (s : State) : KeepsStore s (actSense n reading s) := by
  unfold actSense
  split <;> simp

/-! ### The host window -/

@[simp] theorem errMbOvr_store (s : State) : KeepsStore s (errMbOvr s) := ⟨rfl, rfl⟩

@[simp] theorem errMbSeq_store (s : State) : KeepsStore s (errMbSeq s) := ⟨rfl, rfl⟩

@[simp] theorem errProto_store (s : State) : KeepsStore s (errProto s) := ⟨rfl, rfl⟩

@[simp] theorem errUnmapped_store (s : State) : KeepsStore s (errUnmapped s) := ⟨rfl, rfl⟩

@[simp] theorem errAbort_store (s : State) : KeepsStore s (errAbort s) := ⟨rfl, rfl⟩

@[simp] theorem errAlign_store (s : State) : KeepsStore s (errAlign s) := ⟨rfl, rfl⟩

@[simp] theorem errCrc_store (s : State) : KeepsStore s (errCrc s) := ⟨rfl, rfl⟩

@[simp] theorem ptrErrs_store (allowed p) (s : State) : KeepsStore s (ptrErrs allowed p s) := by simp [ptrErrs]

@[simp] theorem ptrWrite_store (allowed v set) (s : State) (h0 : ∀ a0 a1, KeepsStore a1 (set a0 a1)) :
    KeepsStore s (ptrWrite allowed v set s) := by
  simp [ptrWrite, h0]

@[simp] theorem inPtrWrite_store (i v) (s : State) : KeepsStore s (inPtrWrite i v s) := by simp [inPtrWrite]

@[simp] theorem outPtrWrite_store (j v) (s : State) : KeepsStore s (outPtrWrite j v s) := by simp [outPtrWrite]

@[simp] theorem inDataWrite_store (i v) (s : State) : KeepsStore s (inDataWrite i v s) := by simp [inDataWrite]

@[simp] theorem inDataRead_store (i) (s : State) : KeepsStore s (inDataRead i s).2 := by
  simp only [inDataRead]
  (repeat' split) <;> simp

@[simp] theorem outDataRead_store (j) (s : State) : KeepsStore s (outDataRead j s).2 := by
  simp only [outDataRead]
  (repeat' split) <;> simp

@[simp] theorem postOne_store (v i) (s : State) : KeepsStore s (postOne v s i) := by simp [postOne]

@[simp] theorem inDoorbell_store (v) (s : State) : KeepsStore s (inDoorbell v s) := by simp [inDoorbell]

@[simp] theorem releaseOne_store (v j) (s : State) : KeepsStore s (releaseOne v s j) := by simp [releaseOne]

@[simp] theorem outRelease_store (v) (s : State) : KeepsStore s (outRelease v s) := by simp [outRelease]

@[simp] theorem summaryClear_store (k v) (s : State) : KeepsStore s (summaryClear k v s) := ⟨rfl, rfl⟩

@[simp] theorem lostClear_store (k v) (s : State) : KeepsStore s (lostClear k v s) := ⟨rfl, rfl⟩

@[simp] theorem maskWrite_store (k v) (s : State) : KeepsStore s (maskWrite k v s) := ⟨rfl, rfl⟩

@[simp] theorem evqPop_store (s : State) : KeepsStore s (evqPop s) := ⟨rfl, rfl⟩

@[simp] theorem hostErrClear_store (v) (s : State) : KeepsStore s (hostErrClear v s) := ⟨rfl, rfl⟩

@[simp] theorem regRead_store (a) (s : State) : KeepsStore s (regRead a s).2 := by
  unfold regRead
  split <;> simp

@[simp] theorem regWrite_store (a v) (s : State) : KeepsStore s (regWrite a v s) := by
  unfold regWrite
  split <;> simp

@[simp] theorem liveTagRead_store (a v) (s : State) : KeepsStore s (liveTagRead a v s) := by
  unfold liveTagRead
  split <;> simp

@[simp] theorem clearMismatch_store (a) (s : State) : KeepsStore s (clearMismatch a s) := by simp [clearMismatch]

@[simp] theorem spiReadWord_store (a) (s : State) : KeepsStore s (spiReadWord a s).2 := by simp [spiReadWord]

@[simp] theorem spiReadWords_store (fix : Bool) (a n k : Nat) (s : State) : KeepsStore s (spiReadWords fix a n k s).2 := by
  induction n generalizing k s with
  | zero => exact ⟨rfl, rfl⟩
  | succ n ih => simp [spiReadWords, ih]

@[simp] theorem burstWrite_store (fix : Bool) (a : Nat) (ws : List Word) (k : Nat) (s : State) :
    KeepsStore s (burstWrite fix a ws k s) := by
  induction ws generalizing k s with
  | nil => exact ⟨rfl, rfl⟩
  | cons w ws ih => simp [burstWrite, ih]

@[simp] theorem spiStatus_store (bytes) (s : State) : KeepsStore s (spiStatus bytes s) := ⟨rfl, rfl⟩

@[simp] theorem spiWrite_store (mosi) (s0 : State) : KeepsStore s0 (spiWrite mosi s0) := by simp [spiWrite]

@[simp] theorem spiRead_store (mosi) (s0 : State) : KeepsStore s0 (spiRead mosi s0) := by simp [spiRead]

@[simp] theorem halfTouch_store (a) (s : State) : KeepsStore s (halfTouch a s) := by simp [halfTouch]

@[simp] theorem i2cWriteHalf_store (a h) (s0 : State) : KeepsStore s0 (i2cWriteHalf a h s0) := by
  simp only [i2cWriteHalf]
  (repeat' split) <;> simp

@[simp] theorem i2cWriteHalves_store (fix : Bool) (a : Nat) (data : List Byte) (k n : Nat) (s : State) :
    KeepsStore s (i2cWriteHalves fix a data k n s) := by
  induction n generalizing data k s with
  | zero => exact ⟨rfl, rfl⟩
  | succ n ih => simp [i2cWriteHalves, ih]

@[simp] theorem i2cWrite_store (wire) (s : State) : KeepsStore s (i2cWrite wire s) := by simp [i2cWrite]

@[simp] theorem i2cPeek_store (a) (s : State) : KeepsStore s (i2cPeek a s).2 := by
  unfold i2cPeek
  split <;> simp

@[simp] theorem i2cReadHalf_store (a) (s0 : State) : KeepsStore s0 (i2cReadHalf a s0).2 := by
  simp only [i2cReadHalf]
  (repeat' split) <;> simp

@[simp] theorem i2cReadHalves_store (fix : Bool) (a k n : Nat) (s : State) : KeepsStore s (i2cReadHalves fix a k n s).2 := by
  induction n generalizing k s with
  | zero => exact ⟨rfl, rfl⟩
  | succ n ih => simp [i2cReadHalves, ih]

@[simp] theorem i2cRead_store (a ctl) (s : State) : KeepsStore s (i2cRead a ctl s) := by simp [i2cRead]

@[simp] theorem chunkTimeout_store (s : State) : KeepsStore s (chunkTimeout s) := by simp [chunkTimeout]

/-! ### Command groups -/

@[simp] theorem enterHold_store (s : State) : KeepsStore s (enterHold s) := by simp [enterHold]

@[simp] theorem leaveHold_store (s : State) : KeepsStore s (leaveHold s) := ⟨rfl, rfl⟩

@[simp] theorem setMode_store (n) (s : State) : KeepsStore s (setMode n s).1 := by
  unfold setMode
  (repeat' split) <;> simp

@[simp] theorem setCalendar_store (t) (s : State) : KeepsStore s (setCalendar t s) := ⟨rfl, rfl⟩

@[simp] theorem nvWriteCmd_cells (m) (s : State) : KeepsCells s (nvWriteCmd m s).1 := by
  simp only [nvWriteCmd]
  (repeat' split) <;> simp

@[simp] theorem gpioSet_store (mask levels) (s : State) : KeepsStore s (gpioSet mask levels s) := ⟨rfl, rfl⟩

@[simp] theorem rangeCmd_store (n f tail m) (s : State) : KeepsStore s (rangeCmd n f tail m s).1 := by
  unfold rangeCmd
  split <;> simp

@[simp] theorem logTake_store (l : List (Nat × (List Byte ⊕ Nat))) (n : Nat) (s : State) :
    KeepsStore s (logTake l n s).1 := by
  induction l generalizing n s with
  | nil => exact ⟨rfl, rfl⟩
  | cons p t ih =>
    obtain ⟨k, b | slot⟩ := p <;> cases n <;> simp only [logTake]
    · simp
    · simp [ih]
    · simp
    · split <;> simp [ih]

@[simp] theorem logRead_store (first count) (s : State) : KeepsStore s (logRead first count s).1 := by simp [logRead]

@[simp] theorem logWrite_cells (m) (s : State) : KeepsCells s (logWrite m s).1 := by
  simp only [logWrite]
  (repeat' split) <;> simp

/-! ### Management, security and update -/

@[simp] theorem secReport_store (src ok) (s : State) : KeepsStore s (secReport src ok s) := by simp [secReport]

@[simp] theorem bankReport_store (b) (s : State) : KeepsStore s (bankReport b s) := by simp [bankReport]

@[simp] theorem bootFault_store (b reason) (s : State) : KeepsStore s (bootFault b reason s) := ⟨rfl, rfl⟩

@[simp] theorem trialFail_cells (store) (s : State) (h0 : ∀ a0, KeepsCells a0 (store a0)) :
    KeepsCells s (trialFail store s) := by
  simp [trialFail, h0]

@[simp] theorem confirmOtp_cells (s : State) : KeepsCells s (confirmOtp s) := by simp [confirmOtp]

@[simp] theorem confirmDone_banks (thermo revoke ok) (s : State) : KeepsBanks s (confirmDone thermo revoke ok s) := by
  simp [confirmDone]

@[simp] theorem trialConfirm_cells (s : State) : KeepsCells s (trialConfirm s) := by simp [trialConfirm]

@[simp] theorem imageEnd_cells (status) (s : State) : KeepsCells s (imageEnd status s) := by simp [imageEnd]

@[simp] theorem imageStored_cells (ok) (s : State) : KeepsCells s (imageStored ok s) := by simp [imageStored]

@[simp] theorem waveformDone_cells (slot ok) (s : State) : KeepsCells s (waveformDone slot ok s) := by simp [waveformDone]

@[simp] theorem flashWrite_cells (b bs) (s : State) : KeepsCells s (flashWrite b bs s) := ⟨rfl, rfl, rfl, rfl⟩

@[simp] theorem flashErase_cells (b) (s : State) : KeepsCells s (flashErase b s) := ⟨rfl, rfl, rfl, rfl⟩

@[simp] theorem flashEmpty_cells (b) (s : State) : KeepsCells s (flashEmpty b s) := by simp [flashEmpty]

@[simp] theorem flashEraseDue_cells (b) (s : State) : KeepsCells s (flashEraseDue b s) := by simp [flashEraseDue]

@[simp] theorem imageBegin_cells (kind version bus) (s : State) : KeepsCells s (imageBegin kind version bus s) := by
  simp [imageBegin]

@[simp] theorem imageData_cells (bs) (s : State) : KeepsCells s (imageData bs s) := by simp [imageData]

@[simp] theorem imageWhole_cells (data) (s : State) : KeepsCells s (imageWhole data s) := ⟨rfl, rfl, rfl, rfl⟩

@[simp] theorem imageVerify_cells (s : State) : KeepsCells s (imageVerify s) := by
  simp only [imageVerify]
  (repeat' split) <;> simp

@[simp] theorem imageChunk_cells (bus m) (s : State) : KeepsCells s (imageChunk bus m s).1 := by
  simp only [imageChunk]
  (repeat' split) <;> simp

@[simp] theorem activateStored_cells (ok) (s : State) : KeepsCells s (activateStored ok s) := by
  unfold activateStored
  split <;> simp

@[simp] theorem activate_cells (b) (s : State) : KeepsCells s (activate b s).1 := by
  unfold activate
  (repeat' split) <;> simp

@[simp] theorem attestStored_cells (ok) (s : State) : KeepsCells s (attestStored ok s) := by simp [attestStored]

@[simp] theorem attest_cells (m) (s : State) : KeepsCells s (attest m s).1 := by
  unfold attest
  (repeat' split) <;> simp

@[simp] theorem attestDone_cells (s : State) : KeepsCells s (attestDone s) := by
  unfold attestDone
  split <;> simp

@[simp] theorem otpDone_banks (ok) (s : State) : KeepsBanks s (otpDone ok s) := by
  unfold otpDone
  split <;> simp

@[simp] theorem otpStart_banks (n prov) (s : State) : KeepsBanks s (otpStart n prov s).1 := by
  unfold otpStart
  (repeat' split) <;> simp

@[simp] theorem provision_banks (m) (s : State) : KeepsBanks s (provision m s).1 := by
  simp only [provision]
  (repeat' split) <;> simp

/-! ### Bus requests -/

@[simp] theorem busReply_store (r) (s : State) : KeepsStore s (busReply r s) := ⟨rfl, rfl⟩

@[simp] theorem busWait_store (j) (s : State) : KeepsStore s (busWait j s) := ⟨rfl, rfl⟩

@[simp] theorem readMulti_store (l) (s : State) : KeepsStore s (readMulti l s) := ⟨rfl, rfl⟩

@[simp] theorem readRange_store (o by_) (s : State) : KeepsStore s (readRange o by_ s) := by simp [readRange]

@[simp] theorem busCommit_cells (sec i w ws) (s : State) : KeepsCells s (busCommit sec i w ws s).1 := by
  unfold busCommit
  split <;> simp

@[simp] theorem busSet_cells (w hi lo v) (s : State) : KeepsCells s (busSet w hi lo v s).1 := by
  unfold busSet
  split <;> simp

@[simp] theorem writeSp_cells (z cool v) (s : State) : KeepsCells s (writeSp z cool v s).1 := by
  simp only [writeSp]
  (repeat' split) <;> simp

@[simp] theorem writeZoneCmd_store (z v) (s : State) : KeepsStore s (writeZoneCmd z v s).1 := by
  unfold writeZoneCmd
  split <;> simp

@[simp] theorem writeWeekly_cells (i v) (s : State) : KeepsCells s (writeWeekly i v s).1 := by
  simp only [writeWeekly]
  (repeat' split) <;> simp

@[simp] theorem writeCovInc_cells (o v) (s : State) : KeepsCells s (writeCovInc o v s).1 := by
  simp only [writeCovInc]
  (repeat' split) <;> simp

@[simp] theorem writeUnsigned_cells (w hi lo unit v) (s : State) : KeepsCells s (writeUnsigned w hi lo unit v s).1 := by
  unfold writeUnsigned
  (repeat' split) <;> simp

@[simp] theorem writeNotif_cells (c p v) (s : State) : KeepsCells s (writeNotif c p v s).1 := by
  unfold writeNotif
  (repeat' split) <;> simp

@[simp] theorem writeDevice_cells (o p v) (s : State) : KeepsCells s (writeDevice o p v s).1 := by
  simp only [writeDevice]
  (repeat' split) <;> simp

@[simp] theorem writeProp_cells (o p v) (s : State) : KeepsCells s (writeProp o p v s).1 := by
  unfold writeProp
  (repeat' split) <;> simp

@[simp] theorem busWrites_cells (multi : Bool) (l : List PropWrite) (s : State) : KeepsCells s (busWrites multi l s) := by
  induction l generalizing s with
  | nil => simp [busWrites]
  | cons w t ih =>
    have h := writeProp_cells w.obj w.prop w.val s
    unfold busWrites
    split <;> simp_all

@[simp] theorem subscribe_store (client procId o confirmed lifetime) (s : State) :
    KeepsStore s (subscribe client procId o confirmed lifetime s) := by
  unfold subscribe
  split <;> simp

@[simp] theorem ackAlarm_store (o tr) (s : State) : KeepsStore s (ackAlarm o tr s) := by simp [ackAlarm]

@[simp] theorem fileConfig_cells (c : List Byte) (s : State) : KeepsCells s (fileConfig c s) := by
  have h := cfgLoad_store c s
  have h2 := cfgCommit_cells (cfgLoad c s).1
  unfold fileConfig
  (repeat' split) <;> simp_all

@[simp] theorem fileChunk_cells (file : Nat) (m : Msg) (s : State) : KeepsCells s (fileChunk file m s).1 := by
  have h := takeChunk_store 0x0206 true m s
  have h2 := imageChunk_cells true m s
  unfold fileChunk
  (repeat' split) <;> simp_all

@[simp] theorem filePass_cells (n : Nat) (s : State) : KeepsCells s (filePass n s).1 := by
  induction n generalizing s with
  | zero => exact ⟨rfl, rfl, rfl, rfl⟩
  | succ k ih =>
    unfold filePass
    (repeat' split) <;> simp [ih, apply_ite Prod.fst]

@[simp] theorem fileData_cells (f start data) (s : State) : KeepsCells s (fileData f start data s) := by
  simp only [fileData]
  (repeat' split) <;> simp

@[simp] theorem fileDrop_store (s : State) : KeepsStore s (fileDrop s) := by simp [fileDrop]

@[simp] theorem writeFile_cells (file start stream data) (s : State) : KeepsCells s (writeFile file start stream data s) := by
  unfold writeFile
  (repeat' split) <;> simp

@[simp] theorem readFile_store (file start : Nat) (stream : Bool) (count : Nat) (s : State) :
    KeepsStore s (readFile file start stream count s) := by
  have h := cfgExport_store s
  unfold readFile
  (repeat' split) <;> simp_all

@[simp] theorem commControl_store (n pass) (s : State) : KeepsStore s (commControl n pass s) := by
  unfold commControl
  split <;> simp

@[simp] theorem reinitialize_cells (n : Nat) (pass : List Byte) (s : State) : KeepsCells s (reinitialize n pass s) := by
  unfold reinitialize
  split
  · simp
  · split
    · simp
    · split
      · split
        · simp
        · next b _ =>
          have h := activate_cells b s
          split <;> simp_all
      · simp

@[simp] theorem busDo_cells (r) (s : State) : KeepsCells s (busDo r s) := by
  unfold busDo
  split <;> simp

@[simp] theorem busTake_store (s : State) : KeepsStore s (busTake s) := ⟨rfl, rfl⟩

@[simp] theorem busServe_cells (n : Nat) (s : State) : KeepsCells s (busServe n s) := by
  induction n generalizing s with
  | zero => exact ⟨rfl, rfl, rfl, rfl⟩
  | succ n ih =>
    unfold busServe
    (repeat' split) <;> simp [ih]

@[simp] theorem busTurn_cells (s : State) : KeepsCells s (busTurn s) := by simp [busTurn]

theorem busArrived_store {s t : State} (h : busArrived s = some t) : KeepsStore s t := by
  simp only [busArrived] at h
  (repeat' split at h) <;> cases h <;> simp

@[simp] theorem busAsk_cells (r : BusRequest) (s : State) : KeepsCells s (busAsk r s) := by
  unfold busAsk
  split
  · simp
  · split
    · simp
    · next t ht => simp [busArrived_store ht]

@[simp] theorem fdReregister_store (s : State) : KeepsStore s (fdReregister s) := ⟨rfl, rfl⟩

@[simp] theorem fdResult_store (ok) (s : State) : KeepsStore s (fdResult ok s) := by simp [fdResult]

@[simp] theorem fdSecond_store (s : State) : KeepsStore s (fdSecond s) := by simp [fdSecond]

@[simp] theorem busResume_cells (s : State) : KeepsCells s (busResume s) := by
  unfold busResume
  (repeat' split) <;> simp

/-! ### Bus release -/

@[simp] theorem sendNotif_store (n) (s : State) : KeepsStore s (sendNotif n s).1 := by
  simp only [sendNotif]
  (repeat' split) <;> simp

@[simp] theorem sendEvents_store (s : State) (n : Nat) : KeepsStore s (sendEvents s n) := by
  unfold sendEvents
  refine List.foldlRecOn (motive := fun acc : State × List (Nat × Nat) => KeepsStore s acc.1) _ _ ⟨rfl, rfl⟩ ?_
  intro acc h d _
  dsimp only
  (repeat' split) <;> simp [h]

@[simp] theorem sendCov_store (k) (s : State) : KeepsStore s (sendCov s k) := by
  unfold sendCov
  split <;> simp

@[simp] theorem busRelease_store (s0 : State) : KeepsStore s0 (busRelease s0) := by simp [busRelease]

@[simp] theorem apduTimeout_store (i) (s : State) : KeepsStore s (apduTimeout i s) := by simp [apduTimeout]

@[simp] theorem trendSample_store (n) (s : State) : KeepsStore s (trendSample n s) := by simp [trendSample]

/-! ### The write queue at work -/

@[simp] theorem mgtDone_cells (why ok) (s : State) : KeepsCells s (mgtDone why ok s) := by
  unfold mgtDone
  split <;> simp

@[simp] theorem nvDone_banks (job ok) (s : State) : KeepsBanks s (nvDone job ok s) := by
  unfold nvDone
  split <;> simp

@[simp] theorem nvComplete_banks (entry job ok) (s : State) : KeepsBanks s (nvComplete entry job ok s) := by
  simp [nvComplete]

@[simp] theorem readBackFails_cells (op) (s : State) : KeepsCells s (readBackFails op s) := by
  unfold readBackFails
  split <;> simp

@[simp] theorem nvTurn_bank0 (e : Nat) (n : Nvm) : (nvTurn e n).bank0 = n.bank0 := by
  unfold nvTurn
  split <;> rfl

@[simp] theorem nvTurn_bank1 (e : Nat) (n : Nvm) : (nvTurn e n).bank1 = n.bank1 := by
  unfold nvTurn
  split <;> rfl

@[simp] theorem nvServe_wf (ok : Bool) (s : State) (h : NvWf s) : NvWf (nvServe ok s) := by
  unfold nvServe
  split
  · exact h
  · next e _ =>
    have ht : NvWf { s with nvm := nvTurn e s.nvm } := by simp [h]
    have hw (w : CwWrite) : NvWf (writeCw w { s with nvm := nvTurn e s.nvm }) := writeCw_wf w _ ht.1 ht.2
    (repeat' split) <;> simp [h, hw]

@[simp] theorem nvCodeword_wf (verifyOk bank1Lost) (s : State) (h : NvWf s) : NvWf (nvCodeword verifyOk bank1Lost s) := by
  unfold nvCodeword
  split <;> simp [h]

@[simp] theorem nvDrain_wf (n : Nat) (s : State) (h : NvWf s) : NvWf (nvDrain n s) := by
  induction n generalizing s with
  | zero => exact h
  | succ n ih =>
    unfold nvDrain
    split
    · exact h
    · exact ih _ (nvServe_wf true s h)

/-! ### Reset and start-up -/

@[simp] theorem resetMain_banks (p) (s : State) : KeepsBanks s (resetMain p s) := ⟨rfl, rfl⟩

@[simp] theorem enterReset_banks (why) (s : State) : KeepsBanks s (enterReset why s) := by
  unfold enterReset
  split <;> simp

@[simp] theorem backupCheck_store (c) (s : State) : KeepsStore s (backupCheck c s) := by simp [backupCheck]

@[simp] theorem eraseSeen_cells (s : State) : KeepsCells s (eraseSeen s) := by simp [eraseSeen]

@[simp] theorem mgtRead_cells (s : State) : KeepsCells s (mgtRead s) := by
  simp only [mgtRead]
  (repeat' split) <;> simp

@[simp] theorem mgtBoot_cells (s : State) : KeepsCells s (mgtBoot s) := by simp [mgtBoot]

@[simp] theorem sumBoot_store (s0 : State) : KeepsStore s0 (sumBoot s0) := by
  simp only [sumBoot]
  (repeat' split) <;> simp

@[simp] theorem sumRestore_store (s : State) : KeepsStore s (sumRestore s) := by simp [sumRestore]

@[simp] theorem readCheck_store (mem cws bad same) (s : State) : KeepsStore s (readCheck mem cws bad same s) := by
  simp [readCheck]

@[simp] theorem testReads_store (t sig) (s : State) : KeepsStore s (testReads t sig s) := by simp [testReads]

@[simp] theorem testEnds_store (t pass sig) (s : State) : KeepsStore s (testEnds t pass sig s) := by simp [testEnds]

@[simp] theorem postRun_store (r) (s : State) : KeepsStore s (postRun r s) := by simp [postRun]

@[simp] theorem trialFail_wf (store : State → State) (s : State) (h : NvWf s) (h0 : ∀ a, NvWf a → NvWf (store a)) :
    NvWf (trialFail store s) := by
  have h1 (m : Mgt) : NvWf (store { s with mgt := m }) := h0 _ h
  simp [trialFail, h1]

@[simp] theorem trialBootCheck_wf (s : State) (h : NvWf s) : NvWf (trialBootCheck s) := by
  unfold trialBootCheck
  split
  · exact trialFail_wf _ _ h (fun a => mgtStoreNow_wf a)
  · exact h

@[simp] theorem trialBootCount_wf (s : State) (h : NvWf s) : NvWf (trialBootCount s) := by
  simp only [trialBootCount]
  (repeat' split) <;> simp [h]

@[simp] theorem bootOther_store (failed reason) (s : State) : KeepsStore s (bootOther failed reason s).2 := by
  simp only [bootOther]
  (repeat' split) <;> simp

theorem bootOther_some_wf {failed reason : Nat} {s t : State} (h : NvWf s)
    (ht : (bootOther failed reason s).1 = some t) : NvWf t := by
  simp only [bootOther] at ht
  (repeat' split at ht) <;> cases ht
  · simp [h]
  · exact mgtStoreNow_wf _ (by simp [h])

@[simp] theorem bankBoot_wf (s : State) (h : NvWf s) : NvWf (bankBoot s).2 := by
  simp only [bankBoot]
  generalize hx : bankReport (trialBootCheck s).mgt.mr.active (trialBootCheck s) = x
  have hw : NvWf x := by rw [← hx]; simp [h]
  (repeat' split) <;> simp [hw]
  exact trialFail_wf _ _ (by simp [hw]) (fun a => mgtStoreNow_wf a)

theorem bankBoot_some_wf {s t : State} (h : NvWf s) (ht : (bankBoot s).1 = some t) : NvWf t := by
  simp only [bankBoot] at ht
  generalize hx : bankReport (trialBootCheck s).mgt.mr.active (trialBootCheck s) = x at ht
  have hw : NvWf x := by rw [← hx]; simp [h]
  split at ht
  · cases ht
    exact trialBootCount_wf x hw
  · split at ht
    · split at ht
      · cases ht
        exact trialFail_wf _ _ hw (fun a => mgtStoreNow_wf a)
      · cases ht
    · exact bootOther_some_wf hw ht

@[simp] theorem cfgUse_store (k img fb) (s : State) : KeepsStore s (cfgUse k img fb s) := ⟨rfl, rfl⟩

@[simp] theorem cfgBoot_store (s0 : State) : KeepsStore s0 (cfgBoot s0) := by
  simp only [cfgBoot]
  (repeat' split) <;> simp

@[simp] theorem wfBoot_store (s0 : State) : KeepsStore s0 (wfBoot s0) := by
  simp only [wfBoot]
  (repeat' split) <;> simp

@[simp] theorem appBoot_cells (s : State) : KeepsCells s (appBoot s) := ⟨rfl, rfl, rfl, rfl⟩

@[simp] theorem retriesLoad_store (s : State) : KeepsStore s (retriesLoad s) := by simp [retriesLoad]

@[simp] theorem startLate_wf (s : State) (h : NvWf s) : NvWf (startLate s) := by
  unfold startLate
  split
  · next t ht => simpa [ht] using bankBoot_wf s h
  · next t u ht => simp [bankBoot_some_wf (t := t) h (by rw [ht])]

@[simp] theorem startUp_wf (c r) (s0 : State) (h : NvWf s0) : NvWf (startUp c r s0) := by
  simp only [startUp]
  (repeat' split) <;> simp [h]

@[simp] theorem resetTo_wf (c r) (s : State) (h : NvWf s) : NvWf (resetTo c r s) := by
  unfold resetTo
  split <;> simp [h]

@[simp] theorem leaveReset_wf (r) (s : State) (h : NvWf s) : NvWf (leaveReset r s) := by
  unfold leaveReset
  (repeat' split) <;> simp [h]

@[simp] theorem powerUp_wf (vbatHeld r) (s : State) (h : NvWf s) : NvWf (powerUp vbatHeld r s) := by
  unfold powerUp
  (repeat' split) <;> simp [h]

@[simp] theorem tear_cells (s : State) : KeepsCells s (tear s) := by
  unfold tear
  (repeat' split) <;> simp

@[simp] theorem switchover_banks (torn) (s : State) : KeepsBanks s (switchover torn s) := by simp [switchover]

@[simp] theorem testAbandon_store (s : State) : KeepsStore s (testAbandon s) := by simp [testAbandon]

@[simp] theorem runLost_store (s : State) : KeepsStore s (runLost s) := by simp [runLost]

@[simp] theorem powerFailSafe_store (s : State) : KeepsStore s (powerFailSafe s) := by simp [powerFailSafe]

@[simp] theorem powerFail_banks (s : State) : KeepsBanks s (powerFail s) := by simp [powerFail]

@[simp] theorem softReset_wf (r) (s : State) (h : NvWf s) : NvWf (softReset r s) := by
  unfold softReset
  split <;> simp [h]

@[simp] theorem mgtWatchdog_wf (r) (s : State) (h : NvWf s) : NvWf (mgtWatchdog r s) := by
  unfold mgtWatchdog
  split <;> simp [h]

@[simp] theorem gpioRelease_store (s : State) : KeepsStore s (gpioRelease s) := ⟨rfl, rfl⟩

@[simp] theorem loopsRelease_store (s : State) : KeepsStore s (loopsRelease s) := by simp [loopsRelease]

@[simp] theorem panelRelease_store (s : State) : KeepsStore s (panelRelease s) := by simp [panelRelease]

@[simp] theorem releaseMode_store (s : State) : KeepsStore s (releaseMode s) := by
  unfold releaseMode
  split <;> simp

@[simp] theorem releaseReports_store (s : State) : KeepsStore s (releaseReports s) := by simp [releaseReports]

@[simp] theorem controlRelease_store (s : State) : KeepsStore s (controlRelease s) := by simp [controlRelease]

/-! ### Supervision -/

@[simp] theorem busForget_store (s : State) : KeepsStore s (busForget s) := by
  unfold busForget
  split <;> simp

@[simp] theorem appStop_cells (s : State) : KeepsCells s (appStop s) := by simp [appStop]

@[simp] theorem supvFail_cells (detail) (s : State) : KeepsCells s (supvFail detail s) := by simp [supvFail]

@[simp] theorem heartbeatTimeout_cells (s : State) : KeepsCells s (heartbeatTimeout s) := by simp [heartbeatTimeout]

@[simp] theorem appCoreRestart_cells (s : State) : KeepsCells s (appCoreRestart s) := by
  unfold appCoreRestart
  split <;> simp

@[simp] theorem appRestartComplete_cells (s : State) : KeepsCells s (appRestartComplete s) := by simp [appRestartComplete]

@[simp] theorem clockFail_store (detail) (s : State) : KeepsStore s (clockFail detail s) := by simp [clockFail]

@[simp] theorem clockWindow_store (count byXtal) (s : State) : KeepsStore s (clockWindow count byXtal s) := by
  simp [clockWindow]

@[simp] theorem pllUnlock_store (s : State) : KeepsStore s (pllUnlock s) := by simp [pllUnlock]

@[simp] theorem calendarSecond_store (s : State) : KeepsStore s (calendarSecond s) := by simp [calendarSecond]

@[simp] theorem memoryError_cells (mem unit fatal) (s : State) : KeepsCells s (memoryError mem unit fatal s) := by
  unfold memoryError
  (repeat' split) <;> simp

@[simp] theorem crossCheck_store (s : State) : KeepsStore s (crossCheck s) := by simp [crossCheck]

@[simp] theorem levelReport_store (k) (s : State) : KeepsStore s (levelReport k s) := by simp [levelReport]

@[simp] theorem safeThermal_store (s : State) : KeepsStore s (safeThermal s) := by simp [safeThermal]

@[simp] theorem shutdown_cells (s : State) : KeepsCells s (shutdown s) := by simp [shutdown]

@[simp] theorem shutdownEnd_banks (s : State) : KeepsBanks s (shutdownEnd s) := by
  unfold shutdownEnd
  split <;> simp

@[simp] theorem levelEnter_cells (k) (s : State) : KeepsCells s (levelEnter k s) := by
  unfold levelEnter
  split <;> simp

@[simp] theorem levels_cells (g) (s : State) : KeepsCells s (levels g s) := by simp [levels]

@[simp] theorem thermalEvaluation_cells (s : State) : KeepsCells s (thermalEvaluation s) := by simp [thermalEvaluation]

@[simp] theorem analogTrip_banks (s : State) : KeepsBanks s (analogTrip s) := by simp [analogTrip]

@[simp] theorem testTurn_cells (s : State) : KeepsCells s (testTurn s) := by
  simp only [testTurn]
  (repeat' split) <;> simp

@[simp] theorem testRun_cells (m) (s : State) : KeepsCells s (testRun m s).1 := by
  simp only [testRun]
  (repeat' split) <;> simp

@[simp] theorem selfTestComplete_cells (pass sig) (s : State) : KeepsCells s (selfTestComplete pass sig s) := by
  unfold selfTestComplete
  split <;> simp

@[simp] theorem testSkip_cells (s : State) : KeepsCells s (testSkip s) := by
  unfold testSkip
  split <;> simp

@[simp] theorem testRunEnd_cells (s : State) : KeepsCells s (testRunEnd s) := by simp [testRunEnd]

@[simp] theorem gpioEdge_store (g high) (s : State) : KeepsStore s (gpioEdge g high s) := by simp [gpioEdge]

/-! ## Every command keeps both banks canonical -/

theorem NvWf.of_banks {s t : State} (h : NvWf s) (k : KeepsBanks s t) : NvWf t := by simp [k, h]

/-- R18, R21: a command leaves both banks canonical. -/
theorem exec_nvWf (i : Instr) (s : State) (h : NvWf s) : ∃ t, exec i s = .next t ∧ NvWf t := by
  cases i
  case presenceWarmupEnd | actSenseSkip | xtalRefPulse | xtalRefTimeout | fanKickStart | railPowerGood | railSeqDelayExpiry | railFault
      | covLifetimeExpiry | railFallen | bushelScan | pfwRecover | thermalRestart | nrstRelease | railUvRecovery =>
    exact ⟨_, rfl, by (repeat' split) <;> simp [h]⟩
  case whoHas range o name => exact ⟨_, rfl, by cases o <;> dsimp only <;> (repeat' split) <;> simp [h]⟩
  case secAttestGet => exact ⟨_, rfl, h.of_banks (command_banks _ _ _ _ fun m s => by (repeat' split) <;> simp)⟩
  case loopClose | panelAbort | panelBlinkStop =>
    refine ⟨_, rfl, h.of_banks (command_banks _ _ _ _ fun m s => ?_)⟩
    dsimp only
    (repeat' split) <;> simp
  case cfgLoad =>
    refine ⟨_, rfl, h.of_banks (command_banks _ _ _ _ fun m s => ?_)⟩
    have hc := takeChunk_store 0x0206 false m s
    (repeat' split) <;> simp_all
  case panelWrite =>
    refine ⟨_, rfl, h.of_banks (command_banks _ _ _ _ fun m s => ?_)⟩
    have hc := takeChunk_store 0x4002 false m s
    (repeat' split) <;> simp_all
  all_goals exact ⟨_, rfl, by simp [h]⟩

/-- Settles O4: no command of the queue takes a bank out of its canonical form. -/
theorem stepsKeepNvmCanonical : Obligations.StepsKeepNvmCanonical := by
  intro s t h ht
  unfold step at ht
  split at ht
  · cases ht
    exact h
  · next c rest _ =>
    obtain ⟨u, hu, hw⟩ := exec_nvWf c { s with pending := rest } h
    cases hu.symm.trans ht
    exact hw

end Sys2Proof.Machine

namespace Sys2Proof.Machine

/-! PROOFS. What reports, alarms and last-fault entries do, and what they leave as it was: the rules the statements on supervision,
commands and zones use. -/

/-! ## Reports (R336-R339) -/

theorem raiseWith_raised_of {src c d k : Nat} {s : State} (h : s.raised k) : (raiseWith src c d s).raised k := by
  rw [State.raised, raiseWith_summary, BitVec.getLsbD_or]
  simp only [State.raised] at h
  simp [h]

theorem raiseWith_raised {src c d : Nat} (s : State) (h : src < 128) : (raiseWith src c d s).raised src := by
  rw [State.raised, raiseWith_summary, BitVec.getLsbD_or, sourceBit_getLsbD src src h]
  simp

theorem raise_raised {src : Nat} (s : State) (h : src < 128) : (raise src s).raised src := raiseWith_raised s h

theorem raise_raised_of {src k : Nat} {s : State} (h : s.raised k) : (raise src s).raised k := raiseWith_raised_of h

theorem dropNote_raised_of {k : Nat} {s : State} (h : s.raised k) : (dropNote s).raised k := by
  unfold dropNote
  (repeat' split) <;> exact h

theorem countDropped_raised_of {sev k : Nat} {s : State} (h : s.raised k) : (countDropped sev s).raised k := by
  unfold countDropped
  extract_lets first s1
  split
  · exact dropNote_raised_of (raise_raised_of h)
  · exact h

theorem deposit_raised_of {x : Happening} {k : Nat} {s : State} (h : s.raised k) : (deposit x s).raised k := by
  unfold deposit
  split
  · exact countDropped_raised_of h
  · exact h

theorem happen_raised_of {src typ sev inst k : Nat} {s : State} (h : s.raised k) : (happen src typ sev inst s).raised k :=
  deposit_raised_of h

/-- A report raises its source. -/
theorem report_raised {src typ sev inst : Nat} (s : State) (h : src < 128) : (report src typ sev inst s).raised src :=
  happen_raised_of (raise_raised s h)

/-- A report leaves every other source that is raised. -/
theorem report_raised_of {src typ sev inst k : Nat} {s : State} (h : s.raised k) : (report src typ sev inst s).raised k :=
  happen_raised_of (raise_raised_of h)

/-! ## The alarms of the building bus and the last-fault word (R387, R424) -/

theorem alarmEval_frame (s : State) (n : Nat) : ∃ al, alarmEval s n = { s with bus.alarms := al } := by
  simp only [alarmEval]
  split
  · exact ⟨s.bus.alarms, rfl⟩
  · exact ⟨_, rfl⟩

/-- The alarms are evaluated from the state and kept on the bus; nothing else changes. -/
theorem alarmsEval_frame (s : State) : ∃ al, alarmsEval s = { s with bus.alarms := al } := by
  refine List.foldlRecOn (motive := fun t : State => ∃ al, t = { s with bus.alarms := al }) _ _ ⟨s.bus.alarms, rfl⟩ fun t ht k _ => ?_
  obtain ⟨al, rfl⟩ := ht
  exact alarmEval_frame _ _

end Sys2Proof.Machine

namespace Sys2Proof.Machine

/-! PROOFS. The switches of the actuator drive: an operation on a channel touches the drive alone, and leaves every other channel at rest
that was at rest (R233, R440). -/

/-! ## Folds -/

/-- A fold that keeps Q at each step, and brings it about at the step of n, ends with Q where n is in the list. -/
theorem foldl_reaches {α β : Type} {f : β → α → β} {I Q : β → Prop} {n : α} {l : List α} {b : β} (hn : n ∈ l) (hb : I b)
    (hI : ∀ b a, I b → I (f b a)) (hQ : ∀ b a, I b → Q b → Q (f b a)) (hr : ∀ b, I b → Q (f b n)) :
    I (l.foldl f b) ∧ Q (l.foldl f b) := by
  have keep : ∀ (l : List α) b, I b → Q b → I (l.foldl f b) ∧ Q (l.foldl f b) := fun l b hi hq =>
    List.foldlRecOn (motive := fun b => I b ∧ Q b) l f ⟨hi, hq⟩ fun b h a _ => ⟨hI b a h.1, hQ b a h.1 h.2⟩
  induction l generalizing b with
  | nil => cases hn
  | cons a l ih =>
    rcases List.mem_cons.mp hn with rfl | hn
    · exact keep l _ (hI _ _ hb) (hr _ hb)
    · exact ih hn (hI _ _ hb)

/-! ## What an operation on a channel touches -/

/-- Apart from the drive, events raised and records written, t is s, and what was raised still is. -/
def Drives (s t : State) : Prop := (∀ k, s.raised k → t.raised k) ∧ ∃ a, Noted { s with act := a } t

theorem Drives.of_act (s : State) (a : Act) : Drives s { s with act := a } := ⟨fun _ h => h, a, .refl _⟩

theorem Drives.refl (s : State) : Drives s s := .of_act s s.act

theorem Drives.trans {s t u : State} (h : Drives s t) (g : Drives t u) : Drives s u := by
  obtain ⟨hr, a, e, b, rfl⟩ := h
  obtain ⟨gr, a', e', b', rfl⟩ := g
  exact ⟨fun k hk => gr k (hr k hk), a', e', b', rfl⟩

theorem report_drives (src typ sev inst : Nat) (s : State) : Drives s (report src typ sev inst s) :=
  ⟨fun _ => report_raised_of, s.act, report_noted ..⟩

theorem raise_drives (src : Nat) (s : State) : Drives s (raise src s) := ⟨fun _ => raise_raised_of, s.act, raise_noted ..⟩

theorem Drives.foldl {α : Type} {f : State → α → State} (hf : ∀ s a, Drives s (f s a)) (l : List α) (s : State) :
    Drives s (l.foldl f s) :=
  List.foldlRecOn (motive := fun t => Drives s t) l f (.refl s) fun _ h a _ => h.trans (hf _ a)

theorem updCh_drives (n : Nat) (f : ActCh → ActCh) (s : State) : Drives s (updCh n f s) := .of_act ..
theorem noTurnOn_drives (n : Nat) (s : State) : Drives s (noTurnOn n s) := .of_act ..
theorem enqueue_drives (n : Nat) (s : State) : Drives s (enqueue n s) := by
  unfold enqueue
  split
  · exact .refl s
  · exact .of_act ..

theorem turnOff_drives (n : Nat) (s : State) : Drives s (turnOff n s) := by
  simp only [turnOff]
  (repeat' split) <;> exact .of_act ..

theorem flStop_drives (k : Nat) (s : State) : Drives s (flStop k s) :=
  (turnOff_drives _ s).trans ((turnOff_drives _ _).trans (updCh_drives ..))

theorem peakToHold_drives (n a : Nat) (s : State) : Drives s (peakToHold n a s) := .of_act ..

theorem peakStops_drives (n was : Nat) (s : State) : Drives s (peakStops n was s) := by
  simp only [peakStops]
  split
  · split
    · exact peakToHold_drives ..
    · exact turnOff_drives ..
  · exact .refl s

theorem startPeak_drives (n : Nat) (boosted degraded : Bool) (s : State) : Drives s (startPeak n boosted degraded s) := by
  simp only [startPeak]
  split
  · split <;> exact .of_act ..
  · split
    · split <;> exact (Drives.of_act ..).trans (report_drives ..)
    · split <;> exact (Drives.of_act ..).trans (raise_drives ..)

theorem gates_drives (n : Nat) (s : State) : Drives s (gates n s) := by
  have hw (w : WaitCause) (t : State) : Drives t (setWait n w t) := .of_act ..
  unfold gates
  extract_lets c pk
  split
  · exact .of_act ..
  · split
    · exact .of_act ..
    · split
      · split
        · exact (enqueue_drives n s).trans (hw ..)
        · exact hw ..
      · split
        · split
          · exact hw ..
          · split
            · split
              · exact .refl s
              · exact hw ..
            · exact (enqueue_drives n s).trans (updCh_drives ..)
        · split
          · exact startPeak_drives ..
          · exact updCh_drives ..

theorem chanStep_drives (n : Nat) (s : State) : Drives s (chanStep n s) := by
  unfold chanStep
  extract_lets c0 th s1 asks s2 d want
  have h2 : Drives s s2 := (updCh_drives n _ s).trans (peakStops_drives n _ _)
  split
  case h_1 => exact h2
  all_goals split
  · exact h2
  · exact h2.trans (noTurnOn_drives ..)
  · exact h2
  · exact h2.trans (turnOff_drives ..)
  · exact h2.trans (gates_drives ..)
  · exact h2.trans (noTurnOn_drives ..)

theorem allocate_drives (s : State) : Drives s (allocate s) := .foldl (fun _ _ => updCh_drives ..) _ s

theorem switchesSafe_drives (s : State) : Drives s (switchesSafe s) := by
  refine .foldl (fun t n => ?_) _ s
  have h1 : Drives t (actOverride n (peakStops n (t.ach n).cond t)) := (peakStops_drives ..).trans (updCh_drives ..)
  dsimp only
  split
  · exact h1.trans ((turnOff_drives ..).trans (noTurnOn_drives ..))
  · exact h1

theorem switchesHold_drives (s : State) : Drives s (switchesHold allocate s) := by
  refine (switchesSafe_drives s).trans ((Drives.foldl (fun t n => ?_) _ _).trans (allocate_drives _))
  (repeat' split)
  · exact flStop_drives ..
  · exact .refl _
  · exact .refl _
  · exact chanStep_drives ..

/-! ## Channels at rest -/

/-- The channel does not conduct. -/
def ActCh.Rests (c : ActCh) : Prop := c.ph = .off ∨ c.ph = .decay

theorem ach_updCh (n j : Nat) (f : ActCh → ActCh) (s : State) :
    (updCh j f s).ach n = if j = n ∧ n < s.act.ch.length then f (s.ach n) else s.ach n := by
  unfold State.ach updCh
  by_cases h : j = n
  · subst h
    by_cases hl : j < s.act.ch.length
    · simp [hl]
    · simp [hl, upd_past _ _ _ (Nat.le_of_not_lt hl)]
  · simp [h, nth_upd_ne _ _ _ _ (Ne.symm h)]

theorem ach_updCh_ne {n j : Nat} (h : j ≠ n) (f : ActCh → ActCh) (s : State) : (updCh j f s).ach n = s.ach n := by
  simp [ach_updCh, h]

section
variable {n : Nat} {s : State}

theorem updCh_rests (j : Nat) {f : ActCh → ActCh} (hf : ∀ c, c.Rests → (f c).Rests) (h : (s.ach n).Rests) :
    ((updCh j f s).ach n).Rests := by
  rw [ach_updCh]
  split
  · exact hf _ h
  · exact h

theorem turnOff_rests (j : Nat) (h : (s.ach n).Rests) : ((turnOff j s).ach n).Rests := by
  simp only [turnOff]
  (repeat' split) <;> first | exact h | exact updCh_rests j (fun _ _ => .inr rfl) h

theorem ach_of_ge (h : s.act.ch.length ≤ n) : (s.ach n).ph = .off := by
  rw [State.ach, nth, List.getD_eq_default _ _ h]
  rfl

/-- A channel that is turned off rests. -/
theorem turnOff_self_rests (n : Nat) (s : State) : ((turnOff n s).ach n).Rests := by
  unfold turnOff
  extract_lets c s1
  have h1 : s1.ach n = s.ach n := by
    unfold s1
    split <;> rfl
  split
  · next h => exact .inl (by rw [h1]; exact h)
  · next h => exact .inr (by rw [h1]; exact h)
  · next h _ =>
    have hl : n < s1.act.ch.length := by
      by_contra hl
      exact h (by rw [← ach_of_ge (Nat.le_of_not_lt hl), h1])
    rw [ach_updCh, if_pos ⟨rfl, hl⟩]
    exact .inr rfl

/-- What only the drive's queue, its pairs or the events differ in has the same channels. -/
theorem ach_congr {t : State} (h : t.act.ch = s.act.ch) : t.ach n = s.ach n := by rw [State.ach, h, State.ach]

theorem Noted.ach {t : State} (h : Noted s t) : t.ach n = s.ach n := by
  obtain ⟨e, b, rfl⟩ := h
  rfl

section
variable {j : Nat} (hj : j ≠ n)
include hj

theorem turnOff_ach_ne : (turnOff j s).ach n = s.ach n := by
  simp only [turnOff]
  (repeat' split) <;> first | exact ach_updCh_ne hj .. | rfl

theorem peakStops_ach_ne (was : Nat) : (peakStops j was s).ach n = s.ach n := by
  simp only [peakStops]
  split
  · split
    · exact ach_updCh_ne hj ..
    · exact turnOff_ach_ne hj
  · rfl

theorem startPeak_ach_ne (boosted degraded : Bool) : (startPeak j boosted degraded s).ach n = s.ach n := by
  unfold startPeak
  extract_lets c s1 s2
  have h2 : s2.ach n = s.ach n := by
    unfold s2
    split <;> exact ach_updCh_ne hj ..
  split
  · exact h2
  · split
    · exact (report_noted ..).ach.trans h2
    · exact (raise_noted ..).ach.trans h2

theorem gates_ach_ne : (gates j s).ach n = s.ach n := by
  have hw (w : WaitCause) (t : State) : (setWait j w t).ach n = t.ach n := ach_updCh_ne hj ..
  have hq (t : State) : (enqueue j t).ach n = t.ach n := by
    unfold enqueue
    split <;> rfl
  unfold gates
  extract_lets c pk
  split
  · exact hw ..
  · split
    · exact hw ..
    · split
      · split
        · exact (hw ..).trans (hq s)
        · exact hw ..
      · split
        · split
          · exact hw ..
          · split
            · split
              · rfl
              · exact hw ..
            · exact (ach_updCh_ne hj ..).trans (hq s)
        · split
          · exact startPeak_ach_ne hj ..
          · exact ach_updCh_ne hj ..

/-- R233: the step of one channel leaves every other channel as it was. -/
theorem chanStep_ach_ne : (chanStep j s).ach n = s.ach n := by
  have hn (t : State) : (noTurnOn j t).ach n = t.ach n := ach_updCh_ne hj ..
  unfold chanStep
  extract_lets c0 th s1 asks s2 d want
  have h2 : s2.ach n = s.ach n := (peakStops_ach_ne hj _).trans (ach_updCh_ne hj ..)
  split
  case h_1 => exact h2
  all_goals split
  · exact h2
  · exact (hn s2).trans h2
  · exact h2
  · exact (turnOff_ach_ne hj).trans h2
  · exact (gates_ach_ne hj).trans h2
  · exact (hn s2).trans h2

end

theorem flStop_rests (k : Nat) (h : (s.ach n).Rests) : ((flStop k s).ach n).Rests :=
  updCh_rests (2 * k) (fun _ h => h) (turnOff_rests _ (turnOff_rests _ h))

theorem allocate_rests (h : (s.ach n).Rests) : ((allocate s).ach n).Rests :=
  List.foldlRecOn (motive := fun t : State => (t.ach n).Rests) _ _ h fun _ h j _ => updCh_rests j (fun _ h => h) h

theorem peakStops_rests (j was : Nat) (h : (s.ach n).Rests) : ((peakStops j was s).ach n).Rests := by
  by_cases hj : j = n
  · subst hj
    have hp : (s.ach j).inPeak = false := by rcases h with h | h <;> rw [ActCh.inPeak, h]
    simpa [peakStops, hp] using h
  · rw [peakStops_ach_ne hj]
    exact h

/-- R440: a channel for which no condition asks drive ends at rest when all switches are brought to their safe state. -/
theorem switchesSafe_rests (hn : n < 32) (hq : ∀ t, Drives s t → t.actWant n = none) :
    Drives s (switchesSafe s) ∧ ((switchesSafe s).ach n).Rests := by
  have ho (j : Nat) {t : State} (h : (t.ach n).Rests) :
      ((actOverride j (peakStops j (t.ach j).cond t)).ach n).Rests := updCh_rests j (fun _ h => h) (peakStops_rests _ _ h)
  have hd (j : Nat) {t : State} (h : Drives s t) : Drives s (actOverride j (peakStops j (t.ach j).cond t)) :=
    h.trans ((peakStops_drives ..).trans (updCh_drives ..))
  have ht (j : Nat) {t : State} (h : (t.ach n).Rests) : ((noTurnOn j (turnOff j t)).ach n).Rests :=
    updCh_rests j (fun _ h => h) (turnOff_rests j h)
  refine foldl_reaches (I := Drives s) (Q := fun t => (t.ach n).Rests) (n := n)
    (List.mem_range.mpr hn) (.refl s) (fun t j h => ?_) (fun t j _ h => ?_) fun t h => ?_
  · dsimp only
    split
    · exact (hd j h).trans ((turnOff_drives ..).trans (noTurnOn_drives ..))
    · exact hd j h
  · dsimp only
    split
    · exact ht j (ho j h)
    · exact ho j h
  · dsimp only
    rw [hq _ (hd n h)]
    exact updCh_rests n (fun _ h => h) (turnOff_self_rests ..)

theorem switchesHold_rests (hn : n < 32) (hq : ∀ t, Drives s t → t.actWant n = none) :
    ((switchesHold allocate s).ach n).Rests := by
  refine allocate_rests ?_
  obtain ⟨h0, h1⟩ := switchesSafe_rests hn hq
  refine (List.foldlRecOn (motive := fun t => Drives s t ∧ (t.ach n).Rests) _ _ ⟨h0, h1⟩ fun t h j _ => ?_).2
  obtain ⟨hd, hr⟩ := h
  split
  · split
    · exact ⟨hd.trans (flStop_drives ..), flStop_rests _ hr⟩
    · exact ⟨hd, hr⟩
  · split
    · exact ⟨hd, hr⟩
    · next hw =>
      have hj : j ≠ n := by
        rintro rfl
        exact hw (by rw [hq t hd]; rfl)
      exact ⟨hd.trans (chanStep_drives ..), by rw [chanStep_ach_ne hj]; exact hr⟩

end

end Sys2Proof.Machine

namespace Sys2Proof.Machine

/-! PROOFS. The clock monitor, the clocks' losses, and the counts of the backup domain. -/

/-! ## The windows of the clock monitor (R422, R440) -/

theorem absQ_eq_abs (q : Rat) : absQ q = |q| := by
  unfold absQ
  split
  · next h => rw [abs_of_neg h]
  · next h => rw [abs_of_nonneg (not_lt.mp h)]

/-- An integer is further than d from c where it lies below lo or above hi. -/
theorem far_iff {count lo hi : Nat} {c d : Rat} (hlo : c - d ≤ lo) (hlo' : (lo : Rat) - 1 < c - d) (hhi : (hi : Rat) ≤ c + d)
    (hhi' : c + d < hi + 1) : d < absQ ((count : Rat) - c) ↔ count < lo ∨ hi < count := by
  rw [absQ_eq_abs, lt_abs, or_comm]
  refine or_congr ⟨fun h => ?_, fun h => ?_⟩ ⟨fun h => ?_, fun h => ?_⟩
  · have : (count : Rat) < lo := by linarith
    exact_mod_cast this
  · have : (count : Rat) + 1 ≤ lo := by exact_mod_cast h
    linarith
  · have : (hi : Rat) < count := by linarith
    exact_mod_cast this
  · have : (hi : Rat) + 1 ≤ count := by exact_mod_cast h
    linarith

/-- R440: a count is off by more than 1 % against the crystal, by more than 10 % against the RC oscillator. -/
theorem window_off_iff (count : Nat) (x : Bool) :
    (24000000 * 4 / 32768 : Rat) * (if x then 1 / 100 else 1 / 10) < absQ ((count : Rat) - 24000000 * 4 / 32768) ↔
      (x = true ∧ (count < 2901 ∨ 2958 < count) ∨ x = false ∧ (count < 2637 ∨ 3222 < count)) := by
  cases x
  · rw [far_iff (lo := 2637) (hi := 3222) (by norm_num) (by norm_num) (by norm_num) (by norm_num)]
    simp
  · rw [far_iff (lo := 2901) (hi := 2958) (by norm_num) (by norm_num) (by norm_num) (by norm_num)]
    simp
/-! ## A clock failure (R440, R486) -/

/-- R486: what stops a self-test run in progress, unless it was in force already. -/
theorem testStop_eq (already : Bool) (s : State) :
    testStop already s = { s with test.stopped := s.test.stopped || (s.test.running && !already) } := by
  unfold testStop
  cases s.test.running && !already <;> simp

/-- A clock failure: the safe state, the last-fault entry, the stop of a self-test run, and its report. -/
theorem clockFail_spec (detail : Nat) {s : State} (hr : s.outOfReset = true) (hf : s.clk.fail = false) :
    (clockFail detail s).raised 120 ∧ ∃ al, Noted { s with
      clk.fail := true, sup.safeClock := true, test.stopped := s.test.stopped || s.test.running,
      backup := (writeFault 1 120 detail 0 s).backup, bus.alarms := al } (clockFail detail s) := by
  obtain ⟨al, hal⟩ := alarmsEval_frame (writeFault 1 120 detail 0 { testStop false s with clk.fail := true, sup.safeClock := true })
  rw [clockFail, if_neg (by simp [hr, hf]), hal]
  refine ⟨report_raised _ (by decide), al, ?_⟩
  rw [testStop_eq, Bool.not_false, Bool.and_true]
  exact report_noted ..

section
variable {count : Nat} {x : Bool} {s : State} (hr : s.outOfReset = true) (hx : x = true ∨ s.clk.xtal32Lost = true)
include hr hx

/-- The state that a window's count is judged in: its source is noted. -/
theorem clockWindow_eq : clockWindow count x s =
    let s1 : State := { s with clk.xtal32Lost := !x }
    if (24000000 * 4 / 32768 : Rat) * (if x then 1 / 100 else 1 / 10) < absQ ((count : Rat) - 24000000 * 4 / 32768) then
      let s2 : State := { s1 with clk.badWin := min 2 (s.clk.badWin + 1) }
      if 2 ≤ s2.clk.badWin then clockFail 1 s2 else s2
    else { s1 with clk.badWin := 0 } := by
  unfold clockWindow
  cases x
  · have hl : s.clk.xtal32Lost = true := hx.resolve_left Bool.false_ne_true
    simp [hr, hl]
  · simp [hr]

theorem clockWindow_near (hc : x = true ∧ 2901 ≤ count ∧ count ≤ 2958 ∨ x = false ∧ 2637 ≤ count ∧ count ≤ 3222) :
    clockWindow count x s = { s with clk := { s.clk with badWin := 0, xtal32Lost := !x } } := by
  rw [clockWindow_eq hr hx]
  refine if_neg (mt (window_off_iff count x).mp ?_)
  rcases hc with ⟨rfl, hc⟩ | ⟨rfl, hc⟩ <;> simp <;> omega

theorem clockWindow_off (hc : x = true ∧ (count < 2901 ∨ 2958 < count) ∨ x = false ∧ (count < 2637 ∨ 3222 < count)) :
    clockWindow count x s =
      let s2 : State := { s with clk := { s.clk with badWin := min 2 (s.clk.badWin + 1), xtal32Lost := !x } }
      if 2 ≤ s2.clk.badWin then clockFail 1 s2 else s2 := by
  rw [clockWindow_eq hr hx]
  exact if_pos ((window_off_iff count x).mpr hc)

end

/-- With the safe state in force, a channel asks for drive only where its `SAFE_EN` is set. -/
theorem actWant_of_safe {s : State} {n : Nat} (hs : s.safe = true) (hn : s.cb .act n 0 5 = false) : s.actWant n = none := by
  have hc : 2 ≤ s.actCond n := by
    unfold State.actCond
    rw [if_pos hs]
    (repeat' split) <;> decide
  unfold State.actWant
  split
  · next h => simp [h] at hc
  · rw [hn]
    rfl
  · rw [hn]
    rfl
  · rfl

/-- R440: what the loss of the PLL's lock does to the switches: those that no safe state drives come to rest. -/
theorem pllUnlock_spec {s : State} (hr : s.outOfReset = true) (hf : s.clk.fail = false) (hp : s.clk.pllLocked = true)
    (hrel : s.released = true) :
    (pllUnlock s).raised 120 ∧
    (∀ n, n < 32 → s.cb .act n 0 5 = false → ((pllUnlock s).ach n).Rests) ∧
    ∃ al a, Noted { s with
      clk.fail := true, clk.pllLocked := false, sup.safeClock := true, test.stopped := s.test.stopped || s.test.running,
      backup := (writeFault 1 120 2 0 s).backup, act := a, bus.alarms := al } (pllUnlock s) := by
  obtain ⟨h120, al, e, b, he⟩ := clockFail_spec 2 hr hf
  have hx : pllUnlock s = switchesHold allocate { clockFail 2 s with clk.pllLocked := false } := by
    rw [pllUnlock, if_neg (by simp [hr, hp])]
    exact if_pos (by rw [he]; exact hrel)
  rw [hx]
  obtain ⟨hk, a, e', b', hd⟩ := switchesHold_drives { clockFail 2 s with clk.pllLocked := false }
  refine ⟨hk 120 h120, fun n hn hb => switchesHold_rests hn fun t ht => ?_, al, a, e', b', by rw [hd, he]⟩
  obtain ⟨-, a1, e1, b1, rfl⟩ := ht
  rw [he]
  exact actWant_of_safe (by simp [State.safe]) hb

/-! ## The second of the calendar (R371, R389, R424) -/

/-- R371: a second of a foreign-device registration: the count falls, and the registration ends with it. -/
theorem fdSecond_noted (s : State) : Noted { s with bus := { s.bus with
    fdRemain := s.bus.fdRemain - 1, fdReg := if s.bus.fdRemain = 1 then false else s.bus.fdReg } } (fdSecond s) := by
  unfold fdSecond setFdReg
  by_cases h0 : s.bus.fdRemain = 0
  · have hb : ({ s.bus with fdRemain := s.bus.fdRemain - 1, fdReg := if s.bus.fdRemain = 1 then false else s.bus.fdReg } : Bus) =
        s.bus := by
      cases hbus : s.bus
      simp_all
    rw [if_pos h0, hb]
    exact .refl s
  · rw [if_neg h0]
    by_cases h1 : s.bus.fdRemain = 1
    · rw [if_pos h1, if_pos h1, h1]
      split
      · next hf =>
        replace hf : s.bus.fdReg = false := hf
        exact ⟨s.evt, s.bushel, by rw [← hf]⟩
      · exact report_noted ..
    · rw [if_neg h1, if_neg h1]
      exact .refl _

/-- A second with every block of the calendar at work; the others are `calendarSecond` unfolded. -/
theorem calendarSecond_noted {s : State} (ha : s.alive = true) (hp : s.clk.pllLocked = true) : Noted { s with
    backup := { s.backup with calendar := s.backup.calendar + 1, trim := rne s.coefs.x32 10 },
    bus := { s.bus with fdRemain := s.bus.fdRemain - 1, fdReg := if s.bus.fdRemain = 1 then false else s.bus.fdReg } }
    (calendarSecond s) := by
  have h : calendarSecond s =
      fdSecond { s with backup := { s.backup with calendar := s.backup.calendar + 1, trim := rne s.coefs.x32 10 } } := by
    rw [calendarSecond, if_pos ha]
    exact if_pos hp
  rw [h]
  exact fdSecond_noted _

/-- Settles O45: the clock monitor by the two outcomes of a window, the losses by `clockFail_spec` and `pllUnlock_spec`. -/
theorem clocksAndCounters : Obligations.ClocksAndCounters := by
  refine ⟨fun s count x hr hx => ⟨fun hc => ?good, fun hc => ⟨fun hb => ?first, fun hb hf => ?second⟩⟩,
    fun s hr => ⟨fun hf => ?refStop, fun hf hp hrel => ?unlock, ?crystal, fun hp => ?opt⟩, fun s => ?calendar⟩
  case refStop =>
    obtain ⟨h120, al, e, b, he⟩ := clockFail_spec 1 hr hf
    refine ⟨_, rfl, ?_⟩
    rw [he] at h120 ⊢
    exact ⟨rfl, rfl, h120, rfl, rfl, .refl _⟩
  case crystal => exact congrArg _ (if_pos hr)
  case opt => exact congrArg _ (if_pos (by simp [hr, hp]))
  case unlock =>
    obtain ⟨h120, hn, al, a, e, b, he⟩ := pllUnlock_spec hr hf hp hrel
    refine ⟨_, rfl, ?_⟩
    rw [he] at h120 hn ⊢
    exact ⟨rfl, rfl, h120, rfl, rfl, hn, .refl _⟩
  case good => exact congrArg _ (clockWindow_near hr hx hc)
  case first =>
    refine congrArg _ ((clockWindow_off hr hx hc).trans ?_)
    simp [hb]
  case second =>
    have hw := clockWindow_off hr hx hc
    have hm : min 2 (s.clk.badWin + 1) = 2 := by omega
    obtain ⟨h120, al, e, b, he⟩ :=
      clockFail_spec (s := { s with clk := { s.clk with badWin := 2, xtal32Lost := !x } }) 1 hr hf
    refine ⟨_, rfl, ?_⟩
    rw [hw]
    simp only [hm, le_refl, if_true]
    rw [he] at h120 ⊢
    exact ⟨rfl, rfl, h120, rfl, rfl, rfl, .refl _⟩
  case calendar =>
    refine ⟨_, rfl, ?_⟩
    by_cases ha : s.alive = true
    · by_cases hp : s.clk.pllLocked = true
      · obtain ⟨e, b, he⟩ := calendarSecond_noted ha hp
        rw [he]
        exact ⟨rfl, rfl, fun h => by simp [ha] at h, fun _ h => by simp [hp] at h,
          fun _ _ => ⟨rfl, rfl, fun h => if_pos h, fun h => if_neg h, .refl _⟩⟩
      · have h : calendarSecond s =
            { s with backup := { s.backup with calendar := s.backup.calendar + 1, trim := rne s.coefs.x32 10 } } := by
          rw [calendarSecond, if_pos ha]
          exact if_neg hp
        rw [h]
        exact ⟨rfl, rfl, fun h => absurd ha (by simp [h]), fun _ _ => rfl, fun _ h => absurd h hp⟩
    · have h : calendarSecond s = { s with backup := { s.backup with calendar := s.backup.calendar + 1 } } := if_neg ha
      rw [h]
      exact ⟨rfl, rfl, fun _ => rfl, fun h => absurd h ha, fun h => absurd h ha⟩

end Sys2Proof.Machine

namespace Sys2Proof.Machine

/-! PROOFS. What a read error of a memory does, and the scrubber's step. -/

/-! ## Counting an error (R20, R366) -/

theorem memCorrected_spec (mem : Nat) (s : State) : (memCorrected mem s).raised 122 ∧
    Noted { s with clk.corrected := upd s.clk.corrected (mem - 1) (incSat 32) } (memCorrected mem s) :=
  ⟨happen_raised_of (raiseWith_raised _ (by decide)), (raiseWith_noted ..).trans (happen_noted ..)⟩

theorem memUncorrectable_spec (mem : Nat) (s : State) : (memUncorrectable mem s).raised 123 ∧
    Noted { s with clk.uncorrectable := upd s.clk.uncorrectable (mem - 1) (incSat 32) } (memUncorrectable mem s) :=
  ⟨happen_raised_of (raiseWith_raised _ (by decide)), (raiseWith_noted ..).trans (happen_noted ..)⟩

/-- A bad place is listed once. -/
theorem mem_listed {α : Type} [BEq α] [LawfulBEq α] (c : α) (l : List α) : c ∈ (if l.contains c then l else c :: l) ∧
    ∀ x, x ∈ l → x ∈ (if l.contains c then l else c :: l) := by
  split
  · next h => exact ⟨by simpa using h, fun _ h => h⟩
  · exact ⟨List.mem_cons_self, fun _ h => List.mem_cons_of_mem _ h⟩

/-! ## The panel's memory (R439) -/

/-- What the panel engine does keeps what was raised, the clocks' counts and the panel's fault. -/
def KeepsFault (s t : State) : Prop :=
  (∀ k, s.raised k → t.raised k) ∧ t.clk = s.clk ∧ t.panel.fault = s.panel.fault ∧ t.panel.cause = s.panel.cause

theorem KeepsFault.trans {s t u : State} (h : KeepsFault s t) (g : KeepsFault t u) : KeepsFault s u := by
  obtain ⟨hr, hc, hf, ha⟩ := h
  obtain ⟨gr, gc, gf, ga⟩ := g
  exact ⟨fun k hk => gr k (hr k hk), gc.trans hc, gf.trans hf, ga.trans ha⟩

theorem KeepsFault.of_noted {s t : State} (hr : ∀ k, s.raised k → t.raised k) (h : Noted s t) : KeepsFault s t := by
  obtain ⟨e, b, rfl⟩ := h
  exact ⟨hr, rfl, rfl, rfl⟩

theorem quireReport_keepsFault (s : State) : KeepsFault s (quireReport s) :=
  .of_noted (fun _ h => happen_raised_of (raiseWith_raised_of h)) ((raiseWith_noted ..).trans (happen_noted ..))

theorem mgtTurn_keepsFault (s : State) : KeepsFault s (mgtTurn s) := by
  unfold mgtTurn
  split
  · next why _ _ => cases why <;> exact ⟨fun _ h => h, rfl, rfl, rfl⟩
  · exact ⟨fun _ h => h, rfl, rfl, rfl⟩

theorem mgtStore_keepsFault (why : MgtWhy) (s : State) : KeepsFault s (mgtStore why s) := by
  unfold mgtStore
  split
  · exact ⟨fun _ h => h, rfl, rfl, rfl⟩
  · exact mgtTurn_keepsFault { s with nvm := nvSubmit s.nvm 5 { job := .mgtState why } }

/-- A field that this frame leaves free may change first. -/
theorem KeepsFault.after {s s' t : State} (h : KeepsFault s' t) (hr : ∀ k, s.raised k → s'.raised k)
    (hc : s'.clk = s.clk) (hf : s'.panel.fault = s.panel.fault) (ha : s'.panel.cause = s.panel.cause) :
    KeepsFault s t :=
  .trans ⟨hr, hc, hf, ha⟩ h

theorem raiseFloor_keepsFault (kind : Nat) (v : Word) (s : State) : KeepsFault s (raiseFloor kind v s) := by
  unfold raiseFloor
  extract_lets m
  (repeat' split) <;>
    first
    | exact ⟨fun _ h => h, rfl, rfl, rfl⟩
    | exact (mgtStore_keepsFault ..).after (fun _ h => h) rfl rfl rfl

theorem railsMove_keepsFault (b : Nat) (same : RailSt) (s : State) : KeepsFault s (railsMove b same s) := by
  unfold railsMove
  extract_lets mv
  split <;> exact ⟨fun _ h => h, rfl, rfl, rfl⟩

theorem railsFollow_keepsFault (s : State) : KeepsFault s (railsFollow s) := by
  unfold railsFollow
  split
  · exact railsMove_keepsFault ..
  · exact railsMove_keepsFault ..
  · exact railsMove_keepsFault ..
  all_goals exact ⟨fun _ h => h, rfl, rfl, rfl⟩

theorem setBandRun_keepsFault (b : Nat) (s : State) : KeepsFault s (setBandRun b s) := by
  unfold setBandRun
  split
  · exact ⟨fun _ h => h, rfl, rfl, rfl⟩
  · exact quireReport_keepsFault { s with panel.bandRun := b }

theorem tableTake_keepsFault (s : State) : KeepsFault s (tableTake s) := by
  unfold tableTake
  split
  · exact ⟨fun _ h => h, rfl, rfl, rfl⟩
  · split
    · exact ⟨fun _ h => h, rfl, rfl, rfl⟩
    · refine .trans (.trans (.trans ?_ (raiseFloor_keepsFault ..)) (setBandRun_keepsFault ..)) (railsFollow_keepsFault _)
      exact (quireReport_keepsFault _).after (fun _ h => h) rfl rfl rfl

theorem regionsEnd_keepsFault (s : State) : KeepsFault s (regionsEnd s) := by
  refine List.foldlRecOn (motive := fun t : State => KeepsFault s t) _ _ ⟨fun _ h => h, rfl, rfl, rfl⟩ fun t ht i _ => ?_
  split
  · exact ht
  · exact ht

theorem railsOff_keepsFault (s : State) : KeepsFault s (railsOff s) := by
  unfold railsOff
  split <;> exact ⟨fun _ h => h, rfl, rfl, rfl⟩

theorem alarmsEval_keepsFault (s : State) : KeepsFault s (alarmsEval s) := by
  obtain ⟨al, h⟩ := alarmsEval_frame s
  rw [h]
  exact ⟨fun _ h => h, rfl, rfl, rfl⟩

theorem report94_keepsFault (cause : Nat) (s : State) : KeepsFault s (report 94 1 5 cause s) :=
  .of_noted (fun _ h => report_raised_of h) (report_noted ..)

theorem panelEnds_keepsFault (cause : Nat) (s : State) :
    KeepsFault s (tableTake (report 94 1 5 cause (alarmsEval (railsOff s)))) :=
  (((railsOff_keepsFault s).trans (alarmsEval_keepsFault _)).trans (report94_keepsFault cause _)).trans
    (tableTake_keepsFault _)

/-- R439: a panel that has no fault yet takes the one found. -/
theorem panelFault_spec (cause : Nat) {s : State} (h : s.panel.fault = false) :
    (∀ k, s.raised k → (panelFault cause s).raised k) ∧ (panelFault cause s).clk = s.clk ∧
    (panelFault cause s).panel.fault = true ∧ (panelFault cause s).panel.cause = cause := by
  obtain ⟨hr, hc, -, -⟩ := regionsEnd_keepsFault s
  unfold panelFault
  rw [if_neg (by simp [h])]
  generalize regionsEnd s = r at hr hc ⊢
  obtain ⟨er, ec, ef, ea⟩ := panelEnds_keepsFault cause { r with
    panel.fault := true, panel.cause := cause, panel.queue := [], panel.clearing := .none, panel.driving := false,
    panel.rest := false, panel.bandPend := false }
  exact ⟨fun k hk => er k (hr k hk), ec.trans hc, ef, ea⟩

/-! ## The error of each memory -/

/-- R20: a corrected error of each of the eight memories counts. -/
theorem exec_memoryCorrected {mem : Nat} (u : Nat) {s : State} (hr : s.outOfReset = true) (h1 : 1 ≤ mem) (h8 : mem ≤ 8) :
    exec (.memoryReadError mem u false) s = .next (memCorrected mem s) := by
  show Host.Outcome.next (memoryError mem u false s) = _
  unfold memoryError
  rw [if_neg (by simp [hr]; omega)]
  rfl

/-- What an uncorrectable error does in each memory; a bank of the flash or the NVM lists the place. -/
theorem exec_memoryFatal (u : Nat) {s : State} (hr : s.outOfReset = true) :
    exec (.memoryReadError 1 u true) s = .next (sramFault s) ∧
    exec (.memoryReadError 2 u true) s = .next (panelFault 3 (memUncorrectable 2 s)) ∧
    exec (.memoryReadError 3 u true) s = .next (solReport (u % 64) (solDiscard (u % 64) (memUncorrectable 3 s))) ∧
    exec (.memoryReadError 4 u true) s =
      .next (updLoop (u % 128) (fun c => { c with poison := true }) (memUncorrectable 4 s)) ∧
    (∀ mem, mem = 5 ∨ mem = 6 → exec (.memoryReadError mem u true) s = .next (memUncorrectable mem s)) ∧
    (∃ l, exec (.memoryReadError 7 u true) s = .next (memUncorrectable 7 { s with mgt.flashBad := l }) ∧
      (u / 65536 % 2, u % 65536) ∈ l ∧ ∀ c, c ∈ s.mgt.flashBad → c ∈ l) ∧
    (∃ l, exec (.memoryReadError 8 u true) s = .next (memUncorrectable 8 { s with nvm.bad := l }) ∧
      (u / 32768 % 2, u % 32768) ∈ l ∧ ∀ c, c ∈ s.nvm.bad → c ∈ l) := by
  refine ⟨?_, ?_, ?_, ?_, ?_, ⟨_, ?_, mem_listed (u / 65536 % 2, u % 65536) s.mgt.flashBad⟩,
    _, ?_, mem_listed (u / 32768 % 2, u % 32768) s.nvm.bad⟩
  case refine_5 =>
    rintro mem (rfl | rfl)
    all_goals
      show Host.Outcome.next (memoryError _ u _ s) = _
      unfold memoryError
      rw [if_neg (by simp [hr]), if_neg (by decide)]
      rfl
  all_goals
    show Host.Outcome.next (memoryError _ u _ s) = _
    unfold memoryError
    rw [if_neg (by simp [hr]), if_neg (by decide)]
    rfl

/-- R17, R455: an uncorrectable word of the application's memory forces `safeSram` and asks for a restart. -/
theorem sramFault_spec (s : State) : (sramFault s).raised 123 ∧ ∃ al, Noted
    { s with clk.uncorrectable := upd s.clk.uncorrectable 0 (incSat 32), sup.safeSram := true,
             mgt.restartDue := if s.sup.safeSupv then s.mgt.restartDue else some 3,
             test.stopped := s.test.stopped || (s.test.running && !s.sup.safeSram), bus.alarms := al } (sramFault s) := by
  unfold sramFault
  rw [testStop_eq]
  obtain ⟨al, h⟩ := alarmsEval_frame { s with
    test.stopped := s.test.stopped || (s.test.running && !s.sup.safeSram), sup.safeSram := true,
    mgt.restartDue := if s.sup.safeSupv then s.mgt.restartDue else some 3 }
  obtain ⟨hr, hn⟩ := memUncorrectable_spec 1 (alarmsEval { s with
    test.stopped := s.test.stopped || (s.test.running && !s.sup.safeSram), sup.safeSram := true,
    mgt.restartDue := if s.sup.safeSupv then s.mgt.restartDue else some 3 })
  refine ⟨hr, al, ?_⟩
  rw [h] at hn ⊢
  exact hn

/-- R207: a Solstice slot whose word is lost starts afresh. -/
theorem solLost_spec (k : Nat) (s : State) :
    (solReport k (solDiscard k (memUncorrectable 3 s))).raised 123 ∧
    (solReport k (solDiscard k (memUncorrectable 3 s))).raised 110 ∧
    Noted { s with clk.uncorrectable := upd s.clk.uncorrectable 2 (incSat 32),
                   rood.slots := upd s.rood.slots k (fun _ => {}) }
      (solReport k (solDiscard k (memUncorrectable 3 s))) := by
  obtain ⟨hr, e, b, h⟩ := memUncorrectable_spec 3 s
  have hn : Noted (solDiscard k (memUncorrectable 3 s)) (solReport k (solDiscard k (memUncorrectable 3 s))) := report_noted ..
  refine ⟨report_raised_of (s := solDiscard k (memUncorrectable 3 s)) hr, report_raised _ (by decide), ?_⟩
  refine .trans ?_ hn
  rw [h]
  exact ⟨e, b, rfl⟩

/-- Settles O46: each memory's error counts on its own counter, and what else an uncorrectable one does. -/
theorem memoryErrors : Obligations.MemoryErrors := by
  intro s u hr
  obtain ⟨hsram, hpanel, hsol, hctx, hrest, ⟨fl, hflash, hfc, hfl⟩, bl, hnvm, hbc, hbl⟩ := exec_memoryFatal u hr
  refine ⟨fun mem h1 h8 => ?_, fun mem h1 h8 h2 => ?_, fun hp => ?_, fun k hk hl hn => ?_⟩
  · obtain ⟨hraised, e, b, h⟩ := memCorrected_spec mem s
    exact ⟨_, exec_memoryCorrected u hr h1 h8, hraised, by rw [h], e, b, by rw [h]⟩
  · obtain rfl | rfl | rfl | h56 | rfl | rfl : mem = 1 ∨ mem = 3 ∨ mem = 4 ∨ (mem = 5 ∨ mem = 6) ∨ mem = 7 ∨ mem = 8 := by
      omega
    · obtain ⟨hraised, al, e, b, h⟩ := sramFault_spec s
      refine ⟨_, hsram, hraised, by rw [h], fun _ => ⟨by rw [h], fun hs => ?_, by rw [h], e, b, by rw [h]⟩,
        nofun, nofun, nofun, nofun, nofun⟩
      rw [h]
      simp [hs]
    · obtain ⟨h123, h110, e, b, h⟩ := solLost_spec (u % 64) s
      refine ⟨_, hsol, h123, by rw [h], nofun, fun _ hl => ⟨h110, fun k hk => ?_, ?_, e, b, by rw [h]⟩,
        nofun, nofun, nofun, nofun⟩
      · rw [h]
        exact nth_upd_ne _ _ _ _ hk
      · rw [h]
        exact nth_upd_self _ _ _ hl
    · obtain ⟨hraised, e, b, h⟩ := memUncorrectable_spec 4 s
      rw [h] at hctx hraised
      refine ⟨_, hctx, hraised, rfl, nofun, nofun, fun _ => ⟨fun hl => ?_, e, b, rfl⟩, nofun, nofun, nofun⟩
      exact congrArg Loop.poison (nth_upd_self _ _ _ hl)
    · obtain ⟨hraised, e, b, h⟩ := memUncorrectable_spec mem s
      refine ⟨_, hrest mem h56, hraised, by rw [h], ?_, ?_, ?_, ?_, ?_, fun _ => ⟨e, b, by rw [h]⟩⟩ <;>
        (intro; omega)
    · obtain ⟨hraised, e, b, h⟩ := memUncorrectable_spec 7 { s with mgt.flashBad := fl }
      rw [h] at hflash hraised
      exact ⟨_, hflash, hraised, rfl, nofun, nofun, nofun, fun _ => ⟨hfc, hfl, e, b, rfl⟩, nofun, nofun⟩
    · obtain ⟨hraised, e, b, h⟩ := memUncorrectable_spec 8 { s with nvm.bad := bl }
      rw [h] at hnvm hraised
      exact ⟨_, hnvm, hraised, rfl, nofun, nofun, nofun, nofun, fun _ => ⟨hbc, hbl, e, b, rfl⟩, nofun⟩
  · obtain ⟨hraised, e, b, h⟩ := memUncorrectable_spec 2 s
    obtain ⟨gr, gc, gf, ga⟩ := panelFault_spec 3 (s := memUncorrectable 2 s) (by rw [h]; exact hp)
    exact ⟨_, hpanel, gr _ hraised, gf, ga, gc.trans (by rw [h])⟩
  · have hx : exec (.scrubRead k) s = .next { s with clk.scrub := upd s.clk.scrub k (fun w => (w + 1) % scrubSize k) } := by
      show Host.Outcome.next (if s.outOfReset then _ else _) = _
      rw [if_pos hr]
    refine ⟨_, hx, (nth_upd_self _ _ _ hl).trans ?_, rfl⟩
    split
    · next h => rw [h]; exact Nat.mod_self _
    · next h => exact Nat.mod_eq_of_lt (Nat.lt_of_le_of_ne hn h)

end Sys2Proof.Machine

namespace Sys2Proof.Machine

/-! PROOFS. What a command does whose body changes the state; the mode commands and the system group. -/

/-! ## Commands with an effect (R327) -/

section
variable {i : Instr} {c : CmdSpec} {m : Msg} {n : Nat} {body : Msg → State → State × Reply} {s t : State} {st : Nat}
  {pl : List Byte}

/-- The answer keeps what was raised. -/
theorem respond_raised_of {k : Nat} (r : Resp) (b : Option (Nat × Nat)) {s : State} (h : s.raised k) :
    (respond r b s).raised k := by
  unfold respond
  cases b with
  | none => exact h
  | some p => exact raiseWith_raised_of (raiseWith_raised_of h)

/-- A command that passes the general checks runs its body on the prepared state; its answer follows. -/
theorem exec_of_body (hi : exec i s = .next (command c m body s)) (h : s.executes c.code m) (hp : m.plain n)
    (hn : c.len n = true) (hf : c.fits m.payload = true) (hs : (c.signedBars && s.mgt.otp.signedCfg) = false) :
    ∃ b, exec i s = .next
      (drain (answer c.code m.tag b (body m (bodyState c.code s)).2 (body m (bodyState c.code s)).1)) := by
  obtain ⟨b, hb⟩ := command_run c m body s h hp.1 (lenOk_of_plain hp hn hf) hs
  exact ⟨b, hi.trans (congrArg _ hb)⟩

/-- A command whose body leaves the state t and answers at once. -/
theorem answered_of_body (hi : exec i s = .next (command c m body s)) (h : s.executes c.code m) (hp : m.plain n)
    (hn : c.len n = true) (hf : c.fits m.payload = true) (hs : (c.signedBars && s.mgt.otp.signedCfg) = false)
    (hb : body m (bodyState c.code s) = (t, .done st pl)) (ht : t.mbox = (bodyState c.code s).mbox) :
    ∃ u, exec i s = .next u ∧
      u.mbox.lastResp = some { cmd := c.code, tag := m.tag, status := st, payload := pl } ∧
      u.mbox.waiting = none ∧ u.mbox.accepted = [] ∧ (∀ k, t.raised k → u.raised k) ∧
      u = { t with mbox := u.mbox, evt := u.evt } := by
  obtain ⟨b, hx⟩ := exec_of_body hi h hp hn hf hs
  have ha : t.mbox.accepted = [] := by rw [ht, bodyState_accepted]
  have hw : t.mbox.waiting = none := by rw [ht, bodyState_waiting, h.waiting_none]
  rw [hb] at hx
  simp only [answer] at hx
  rw [drain_nil _ (by simp [ha])] at hx
  exact ⟨_, hx, by simp, by simp [hw], by simp [ha], fun k hk => respond_raised_of _ b hk, respond_frame _ b t⟩

/-- A command whose body's state is s' but for the mailboxes and the events. -/
theorem answers_of_effect {s' : State} (hi : exec i s = .next (command c m body s)) (h : s.executes c.code m)
    (hp : m.plain n) (hn : c.len n = true) (hf : c.fits m.payload = true)
    (hs : (c.signedBars && s.mgt.otp.signedCfg) = false)
    (hb : body m (bodyState c.code s) = (t, .done st pl))
    (ht : ∃ ev, t = { s' with mbox := (bodyState c.code s).mbox, evt := ev }) : Answers i s c.code m st pl s' := by
  obtain ⟨ev, rfl⟩ := ht
  obtain ⟨u, hx, hl, hw, ha, -, hu⟩ := answered_of_body hi h hp hn hf hs hb rfl
  exact ⟨u, hx, hl, hw, ha, hu⟩

/-- A command whose body leaves the state t and waits for NVM. -/
theorem waits_of_body (hi : exec i s = .next (command c m body s)) (h : s.executes c.code m) (hp : m.plain n)
    (hn : c.len n = true) (hf : c.fits m.payload = true) (hs : (c.signedBars && s.mgt.otp.signedCfg) = false)
    (hb : body m (bodyState c.code s) = (t, .wait)) :
    ∃ b, exec i s = .next { t with mbox.waiting := some { cmd := c.code, tag := m.tag, boxes := b } } := by
  obtain ⟨b, hx⟩ := exec_of_body hi h hp hn hf hs
  rw [hb] at hx
  exact ⟨b, hx⟩

end

/-! ## Hold opens the loops (R176) -/

/-- What `loopsHold` does to loop i + 1. -/
def holdLoop (a : State) (i : Nat) : State :=
  let l := i + 1
  let c := a.loop l
  let a1 := updLoop l dropEval a
  if c.dyn.st = .closed then
    loopRecord 3 1 l (setOutHold l c.dyn.out
      (updLoop l (fun x => { x with holdForced := true, dyn := { x.dyn with st := .opened } }) a1))
  else a1

theorem loopsHold_eq (s : State) : loopsHold s = (List.range 127).foldl holdLoop s := rfl

/-- x is the loop c as Hold leaves it. -/
def Loop.Held (c x : Loop) : Prop :=
  (c.dyn.st = .closed → x.dyn.st = .opened ∧ x.holdForced = true ∧ x.dyn.outWord = c.dyn.outWord) ∧
  (c.dyn.st ≠ .closed → x.dyn = c.dyn ∧ x.holdForced = c.holdForced)

/-- Apart from the loops, the output holds in force, events raised and records written, t is s. -/
def HoldsLoops (s t : State) : Prop :=
  t.rood.loops.length = s.rood.loops.length ∧ ∃ ls f, Noted { s with rood.loops := ls, cfg.inForce := f } t

theorem loopRecord_noted (typ sev l : Nat) (s : State) : Noted s (loopRecord typ sev l s) := happen_noted ..

theorem HoldsLoops.trans {s t u : State} (h : HoldsLoops s t) (g : HoldsLoops t u) : HoldsLoops s u := by
  obtain ⟨hl, ls, f, e, b, rfl⟩ := h
  obtain ⟨gl, ls', f', e', b', rfl⟩ := g
  exact ⟨gl.trans hl, ls', f', e', b', rfl⟩

theorem HoldsLoops.refl (s : State) : HoldsLoops s s := ⟨rfl, s.rood.loops, s.cfg.inForce, .refl s⟩

theorem holdLoop_holds (i : Nat) (a : State) : HoldsLoops a (holdLoop a i) := by
  unfold holdLoop
  dsimp only
  split
  · obtain ⟨e, b, h⟩ := loopRecord_noted 3 1 (i + 1) (setOutHold (i + 1) (a.loop (i + 1)).dyn.out
      (updLoop (i + 1) (fun x => { x with holdForced := true, dyn := { x.dyn with st := .opened } })
        (updLoop (i + 1) dropEval a)))
    rw [h]
    exact ⟨by simp [setOutHold, updLoop], _, _, e, b, rfl⟩
  · exact ⟨by simp [updLoop], _, a.cfg.inForce, .refl _⟩

theorem setOutHold_loop_self {l : Nat} (v : Nat) {s : State} (h : l < s.rood.loops.length) :
    (setOutHold l v s).loop l = { s.loop l with eval := (s.loop l).eval.map (fun e => { e with hold := none }) } :=
  updLoop_loop_self _ _ _ h

theorem setOutHold_loop_ne {l j : Nat} (v : Nat) (s : State) (h : j ≠ l) : (setOutHold l v s).loop j = s.loop j :=
  nth_upd_ne _ _ _ _ h

theorem loopRecord_loop (typ sev l j : Nat) (s : State) : (loopRecord typ sev l s).loop j = s.loop j := by
  obtain ⟨e, b, h⟩ := loopRecord_noted typ sev l s
  rw [h]
  rfl

theorem holdLoop_loop_ne {i l : Nat} (a : State) (h : l ≠ i + 1) : (holdLoop a i).loop l = a.loop l := by
  unfold holdLoop
  dsimp only
  split
  · rw [loopRecord_loop, setOutHold_loop_ne _ _ h, updLoop_loop_ne _ _ _ _ h, updLoop_loop_ne _ _ _ _ h]
  · exact updLoop_loop_ne _ _ _ _ h

theorem outWord_opened {d : LoopDyn} (h : d.st = .closed) : { d with st := .opened }.outWord = d.outWord := by
  simp [LoopDyn.outWord, h]
  rfl

theorem holdLoop_loop_self {i : Nat} {a : State} (h : i + 1 < a.rood.loops.length) :
    (a.loop (i + 1)).Held ((holdLoop a i).loop (i + 1)) := by
  unfold holdLoop
  dsimp only
  split
  · next hc =>
    have h1 : i + 1 < (updLoop (i + 1) dropEval a).rood.loops.length := by simpa [updLoop] using h
    rw [loopRecord_loop, setOutHold_loop_self _ (by simpa [updLoop] using h), updLoop_loop_self _ _ _ h1,
      updLoop_loop_self _ _ _ h]
    exact ⟨fun _ => ⟨rfl, rfl, outWord_opened hc⟩, fun hn => absurd hc hn⟩
  · next hc =>
    rw [updLoop_loop_self _ _ _ h]
    exact ⟨fun h => absurd h hc, fun _ => ⟨rfl, rfl⟩⟩

/-- A loop that Hold has left, and one it has not reached, are as Hold leaves the loop once Hold has passed it. -/
theorem Loop.Held.trans {c x y : Loop} (h : c.Held x) (g : x.Held y) : c.Held y := by
  obtain ⟨hc, hn⟩ := h
  obtain ⟨-, gn⟩ := g
  refine ⟨fun hs => ?_, fun hs => ?_⟩
  · obtain ⟨hst, hf, hw⟩ := hc hs
    obtain ⟨gd, gf⟩ := gn (by rw [hst]; decide)
    exact ⟨by rw [gd, hst], by rw [gf, hf], by rw [gd, hw]⟩
  · obtain ⟨hd, hf⟩ := hn hs
    obtain ⟨gd, gf⟩ := gn (by rw [hd]; exact hs)
    exact ⟨gd.trans hd, gf.trans hf⟩

/-- R176: Hold leaves each of the 127 loops open, and every other loop as it was. -/
theorem loopsHold_spec {l : Nat} (s : State) (h1 : 1 ≤ l) (hl : l ≤ 127) (hlen : s.rood.loops.length = 128) :
    (s.loop l).Held ((loopsHold s).loop l) := by
  obtain ⟨i, rfl⟩ : ∃ i, l = i + 1 := ⟨l - 1, by omega⟩
  have reached {t : State} (h : HoldsLoops s t)
      (hq : t.loop (i + 1) = s.loop (i + 1) ∨ (s.loop (i + 1)).Held (t.loop (i + 1))) :
      (s.loop (i + 1)).Held ((holdLoop t i).loop (i + 1)) := by
    have hi := holdLoop_loop_self (i := i) (a := t) (by rw [h.1, hlen]; omega)
    rcases hq with hq | hq
    · exact hq ▸ hi
    · exact hq.trans hi
  have keeps {t : State} (j : Nat) (h : HoldsLoops s t) (hq : (s.loop (i + 1)).Held (t.loop (i + 1))) :
      (s.loop (i + 1)).Held ((holdLoop t j).loop (i + 1)) := by
    by_cases e : i + 1 = j + 1
    · obtain rfl : i = j := by omega
      exact reached h (.inr hq)
    · rwa [holdLoop_loop_ne t e]
  have waits {t : State} (j : Nat) (h : HoldsLoops s t) (hq : t.loop (i + 1) = s.loop (i + 1)) :
      (holdLoop t j).loop (i + 1) = s.loop (i + 1) ∨ (s.loop (i + 1)).Held ((holdLoop t j).loop (i + 1)) := by
    by_cases e : i + 1 = j + 1
    · obtain rfl : i = j := by omega
      exact .inr (reached h (.inl hq))
    · exact .inl ((holdLoop_loop_ne t e).trans hq)
  exact (foldl_reaches (n := i)
    (I := fun t => HoldsLoops s t ∧ (t.loop (i + 1) = s.loop (i + 1) ∨ (s.loop (i + 1)).Held (t.loop (i + 1))))
    (Q := fun t => (s.loop (i + 1)).Held (t.loop (i + 1)))
    (List.mem_range.mpr (by omega)) ⟨.refl s, .inl rfl⟩
    (fun t j ⟨h, hq⟩ => ⟨h.trans (holdLoop_holds j t), hq.elim (waits j h) fun hq => .inr (keeps j h hq)⟩)
    (fun t j ⟨h, _⟩ hq => keeps j h hq) fun t ⟨h, hq⟩ => reached h hq).2

theorem loopsHold_holds (s : State) : HoldsLoops s (loopsHold s) :=
  List.foldlRecOn (motive := fun t : State => HoldsLoops s t) _ _ (.refl s) fun t h i _ => h.trans (holdLoop_holds i t)

/-! ## The mode commands (R25-R28) -/

/-- The body of `SYS.SET_MODE`. -/
def setModeCmd (m : Msg) (s : State) : State × Reply :=
  if getB m.payload 0 < 1 ∨ 3 < getB m.payload 0 ∨ !padOk m 1 3 then (s, .st stBadArg)
  else if s.test.running then (s, .st stBusy)
  else setMode (getB m.payload 0) s

theorem exec_sysSetMode (m : Msg) (s : State) :
    exec (.sysSetMode m) s = .next (command { code := 0x0002, len := fun n => n == 4 } m setModeCmd s) := rfl

theorem setModeCmd_of_arg {m : Msg} {s : State} {n : Nat} (hn : getB m.payload 0 = n) (h1 : 1 ≤ n) (h3 : n ≤ 3)
    (hpad : padOk m 1 3 = true) (ht : s.test.running = false) : setModeCmd m s = setMode n s := by
  rw [setModeCmd, hn, if_neg (by simp [hpad]; omega), if_neg (by simp [ht])]

section
variable {s : State} (hr : s.released = true)
include hr

theorem setMode_quiet_of_run (hm : s.sup.mode = .run) : setMode 2 s = (enterQuiet false s, .done 0 []) := by
  unfold setMode
  rw [if_neg (by simp [hr]), hm]
  rfl

theorem setMode_run_of_quiet (hm : s.sup.mode = .quiet) :
    setMode 1 s = ({ s with sup.mode := .run, sup.quietByStone := false, sup.quietByHost := false }, .done 0 []) := by
  unfold setMode
  rw [if_neg (by simp [hr]), hm]
  exact congrArg (·, _) (if_pos hm)

theorem setMode_quiet_of_hold (hm : s.sup.mode = .hold) : setMode 2 s = (s, .done 0x0203 []) := by
  unfold setMode
  rw [if_neg (by simp [hr]), hm]
  rfl

theorem setMode_hold_of_run (hm : s.sup.mode = .run) :
    setMode 3 s = (loopsHold { s with sup.mode := .hold }, .done 0 []) := by
  have he : enterHold s = loopsHold { s with sup.mode := .hold } := by
    rw [enterHold, leaveQuiet, if_neg (by rw [hm]; decide)]
  unfold setMode
  rw [if_neg (by simp [hr]), hm, ← he]
  rfl

theorem setMode_run_of_hold (hm : s.sup.mode = .hold) : setMode 1 s = (leaveHold s, .done 0 []) := by
  unfold setMode
  rw [if_neg (by simp [hr]), hm]
  rfl

end

theorem setModeCmd_body {s : State} {m : Msg} {n : Nat} {r : State × Reply} (hn : getB m.payload 0 = n) (h1 : 1 ≤ n)
    (h3 : n ≤ 3) (hpad : padOk m 1 3 = true) (ht : s.test.running = false) (hs : setMode n (bodyState 0x0002 s) = r) :
    setModeCmd m (bodyState 0x0002 s) = r :=
  (setModeCmd_of_arg (s := bodyState 0x0002 s) hn h1 h3 hpad ht).trans hs

/-! ## The system group (R355) -/

theorem nvWriteCmd_of_room {m : Msg} {s : State} {n : Nat} (hd : (m.payload.drop 4).length = n)
    (ho : getW m.payload 0 + n ≤ 262144) (ht : s.thermalBars = false) (hc : s.bushel.closed = false)
    (he : nvEdgeBad s.nvm 0 (nvHostBase + getW m.payload 0) n = false) :
    nvWriteCmd m s = ({ s with
      nvm := nvSubmit s.nvm 6 { job := .host, cws := nvCws s.nvm 0 (nvHostBase + getW m.payload 0) (m.payload.drop 4) } },
      .wait) := by
  unfold nvWriteCmd
  dsimp only
  rw [hd, hostArea, if_neg (Nat.not_lt.mpr ho), if_neg (by simp [ht]), if_neg (by simp [hc]), if_neg (by simp [he])]

theorem gpioSet_out {mask levels g : Nat} (s : State) (h : g < 16) : (gpioSet mask levels s).gpio.out.getD g false =
    if mask.testBit g then levels.testBit g else s.gpio.out.getD g false := by
  simp [gpioSet, List.getD_eq_getElem?_getD, h]

/-- Settles O33: each command's body, on the arguments and in the mode that the clause names. -/
theorem modeAndSystemCommands : Obligations.ModeAndSystemCommands := by
  refine ⟨fun s m h hp hpad ht hr => ⟨fun hn hm => ?quiet, fun hn hm => ?run, fun hn hm => ?busy, fun hn hm hlen => ?hold,
      fun hn hm => ?unhold⟩,
    fun s m => ⟨fun h hp => ?status, fun h hp => ?setTime, fun h hp => ⟨fun hv => ?time, fun hv => ?noTime⟩,
      fun h hp => ⟨fun ha => ?reset, fun ha => ?noReset⟩, fun h hp h1 h2 h3 hpad hb => ?nvRead,
      fun n h hp h1 h2 h3 ht hc he => ?nvWrite, fun h hp => ?gpioGet, fun h hp ho => ?gpioSet⟩⟩
  case quiet =>
    exact answers_of_effect (exec_sysSetMode m s) h hp rfl rfl rfl
      (setModeCmd_body hn (by decide) (by decide) hpad ht (setMode_quiet_of_run (s := bodyState 2 s) hr hm)) ⟨_, rfl⟩
  case run =>
    exact answers_of_effect (exec_sysSetMode m s) h hp rfl rfl rfl
      (setModeCmd_body hn (by decide) (by decide) hpad ht (setMode_run_of_quiet (s := bodyState 2 s) hr hm)) ⟨_, rfl⟩
  case busy =>
    exact answers_of_body (exec_sysSetMode m s) h hp rfl rfl rfl
      (setModeCmd_body hn (by decide) (by decide) hpad ht (setMode_quiet_of_hold (s := bodyState 2 s) hr hm))
  case hold =>
    obtain ⟨-, ls, f, e, b, hh⟩ := loopsHold_holds { bodyState 2 s with sup.mode := .hold }
    have held (l : Nat) (h1 : 1 ≤ l) (h2 : l ≤ 127) := loopsHold_spec { bodyState 2 s with sup.mode := .hold } h1 h2 hlen
    have hb := setModeCmd_body hn (by decide) (by decide) hpad ht (setMode_hold_of_run (s := bodyState 2 s) hr hm)
    rw [hh] at hb held
    obtain ⟨u, hx, hl, -, -, -, hu⟩ := answered_of_body (exec_sysSetMode m s) h hp rfl rfl rfl hb rfl
    refine ⟨u, hx, hl, congrArg State.sup hu, fun l h1 h2 => ?_, ?_⟩
    · rw [hu]
      exact held l h1 h2
    · rw [hu]
      exact ⟨_, b, rfl⟩
  case unhold =>
    exact answers_of_effect (exec_sysSetMode m s) h hp rfl rfl rfl
      (setModeCmd_body hn (by decide) (by decide) hpad ht (setMode_run_of_hold (s := bodyState 2 s) hr hm)) ⟨_, rfl⟩
  case status => exact answers_of_report (c := { code := 0x0001 }) rfl h hp rfl rfl rfl rfl
  case setTime =>
    exact answers_of_effect (c := { code := 0x0003, len := fun n => n == 4 }) rfl h hp rfl rfl rfl rfl ⟨_, rfl⟩
  case time =>
    refine answers_of_report (c := { code := 0x0004 }) rfl h hp rfl rfl rfl ((if_pos hv).trans ?_)
    have hcal : (bodyState 4 s).calWord = s.backup.calendar := if_pos hv
    have hdst (k : Nat) : at' k 1 = 2 * k := by rw [at', Nat.shiftLeft_eq, Nat.pow_one, Nat.mul_comm]
    rw [hcal, hdst]
    rfl
  case noTime =>
    exact answers_of_report (c := { code := 0x0004 }) rfl h hp rfl rfl rfl (if_neg (Bool.eq_false_iff.mp hv))
  case reset =>
    exact answers_of_effect (c := { code := 0x0005, len := fun n => n == 4 }) rfl h hp rfl rfl rfl
      (if_neg (not_not.mpr ha)) ⟨_, rfl⟩
  case noReset =>
    exact answers_of_body (c := { code := 0x0005, len := fun n => n == 4 }) rfl h hp rfl rfl rfl (if_pos ha)
  case nvRead =>
    refine answers_of_body (c := { code := 0x0006, len := fun n => n == 8 }) rfl h hp rfl rfl rfl ?_
    exact (if_neg (by simp [hpad, hostArea]; omega)).trans (if_neg (Bool.eq_false_iff.mp hb))
  case nvWrite =>
    have hd : (m.payload.drop 4).length = n := by rw [List.length_drop, hp.2]; omega
    have hlen : (decide (5 ≤ 4 + n) && decide (4 + n ≤ 4076)) = true := by simp; omega
    obtain ⟨b, hx⟩ := waits_of_body (i := .sysNvWrite m)
      (c := { code := 0x0007, len := fun n => decide (5 ≤ n) && decide (n ≤ 4076) }) rfl h hp
      hlen rfl rfl (nvWriteCmd_of_room (s := bodyState 7 s) hd h3 ht hc he)
    exact ⟨_, hx, ⟨b, rfl⟩, rfl, rfl⟩
  case gpioGet => exact answers_of_report (c := { code := 0x0008 }) rfl h hp rfl rfl rfl rfl
  case gpioSet =>
    have hno : ¬((List.range 16).any fun g => (getH m.payload 0).testBit g && s.cf .gpio g 0 7 6 == 0) = true := by
      simpa using ho
    exact ⟨(gpioSet (getH m.payload 0) (getH m.payload 2) s).gpio.out, fun g hg => gpioSet_out s hg,
      answers_of_effect (c := { code := 0x0009, len := fun n => n == 4 }) rfl h hp rfl rfl rfl (if_neg hno) ⟨_, rfl⟩⟩

end Sys2Proof.Machine

namespace Sys2Proof.Machine

/-! PROOFS. The supervision of the application core, and the management state's writes. -/

/-! ## The management state's operation of the write queue (R460, R493) -/

/-- Whatever change takes its turn, it touches the queue, the management record and the attestation. -/
theorem mgtTurn_frame (s : State) : ∃ q mr at', mgtTurn s = { s with nvm.queue := q, mgt.mr := mr, mgt.att := at' } := by
  unfold mgtTurn
  split
  · next why _ _ => cases why <;> exact ⟨_, _, _, rfl⟩
  · exact ⟨s.nvm.queue, s.mgt.mr, s.mgt.att, rfl⟩

theorem mgtStore_frame (why : MgtWhy) (s : State) :
    ∃ q mr at', mgtStore why s = { s with nvm.queue := q, mgt.mr := mr, mgt.att := at' } := by
  unfold mgtStore
  split
  · exact ⟨s.nvm.queue, s.mgt.mr, s.mgt.att, rfl⟩
  · obtain ⟨q, mr, at', h⟩ := mgtTurn_frame { s with nvm := nvSubmit s.nvm 5 { job := .mgtState why } }
    exact ⟨q, mr, at', h⟩

/-- With nothing before it in entry 5 the change is made at once, and its record waits for its write. -/
theorem mgtTurn_submitted (why : MgtWhy) {s : State} (hq : nth s.nvm.queue 5 = []) (hl : 5 < s.nvm.queue.length) :
    ∃ op : NvOp, op.job = .mgtState why ∧ mgtTurn { s with nvm := nvSubmit s.nvm 5 { job := .mgtState why } } =
      { mgtChange why s with
        mgt.mr.seq := (mgtChange why s).mgt.mr.seq + 1,
        nvm.queue := upd s.nvm.queue 5 (fun l => l ++ [op]) } := by
  have hn : nth (nvSubmit s.nvm 5 { job := .mgtState why }).queue 5 = [{ job := .mgtState why }] := by
    rw [nvSubmit, nth_upd_self _ _ _ hl, hq]
    rfl
  have hset (op : NvOp) : (nvSubmit s.nvm 5 { job := .mgtState why }).queue.set 5 [op] =
      upd s.nvm.queue 5 (fun l => l ++ [op]) := by
    refine List.ext_getElem (by simp [nvSubmit]) fun i h1 h2 => ?_
    by_cases e : i = 5
    · subst e
      have h0 : s.nvm.queue[5] = [] := by simpa [nth, List.getD_eq_getElem?_getD, hl] using hq
      simp [upd, h0]
    · simp [nvSubmit, upd, Ne.symm e]
  unfold mgtTurn
  dsimp only
  rw [hn]
  dsimp only
  rw [hset]
  cases why <;> exact ⟨{ job := .mgtState _, cws := _ }, rfl, rfl⟩

theorem mgtStore_of_empty (why : MgtWhy) {s : State} (hc : s.bushel.closed = false) (hq : nth s.nvm.queue 5 = [])
    (hl : 5 < s.nvm.queue.length) : ∃ op : NvOp, op.job = .mgtState why ∧ mgtStore why s =
      { mgtChange why s with
        mgt.mr.seq := (mgtChange why s).mgt.mr.seq + 1,
        nvm.queue := upd s.nvm.queue 5 (fun l => l ++ [op]) } := by
  obtain ⟨op, hj, h⟩ := mgtTurn_submitted why hq hl
  exact ⟨op, hj, by rw [mgtStore, if_neg (by simp [hc]), h]⟩

/-- A plain store leaves the management record as it is, but for its sequence number. -/
theorem mgtStore_plain_of_empty {s : State} (hq : nth s.nvm.queue 5 = []) :
    ∃ q sq, mgtStore .plain s = { s with nvm.queue := q, mgt.mr.seq := sq } := by
  by_cases hc : s.bushel.closed = true
  · exact ⟨s.nvm.queue, s.mgt.mr.seq, by rw [mgtStore, if_pos hc]⟩
  by_cases hl : 5 < s.nvm.queue.length
  · obtain ⟨op, -, h⟩ := mgtStore_of_empty .plain (Bool.eq_false_iff.mpr hc) hq hl
    exact ⟨_, _, h⟩
  · have hs : upd s.nvm.queue 5 (fun l => l ++ [{ job := .mgtState .plain }]) = s.nvm.queue :=
      upd_past _ _ _ (Nat.le_of_not_lt hl)
    refine ⟨s.nvm.queue, s.mgt.mr.seq, ?_⟩
    rw [mgtStore, if_neg hc, nvSubmit, hs, mgtTurn, hq]

/-! ## The application core stops (R333, R352, R382) -/

/-- Apart from the calibration run, its visits, the mode that they bring, events raised and records written, t is s. -/
def RunEnds (s t : State) : Prop := ∃ md qs qh st se, Noted
  { s with sup.mode := md, sup.quietByStone := qs, sup.quietByHost := qh, stone := st, sens := se } t

theorem visitsOver_runEnds (s : State) : RunEnds s (visitsOver s) := by
  unfold visitsOver leaveQuiet
  split
  · split
    · exact ⟨_, _, _, _, _, .refl _⟩
    · exact ⟨s.sup.mode, s.sup.quietByStone, s.sup.quietByHost, _, _, .refl _⟩
  · exact ⟨s.sup.mode, s.sup.quietByStone, s.sup.quietByHost, _, _, .refl _⟩

theorem clearVisits_runEnds (s : State) : RunEnds s (clearVisits s) := visitsOver_runEnds { s with sens.mods := _ }

theorem abortRun_runEnds (result status : Nat) (s : State) : RunEnds s (abortRun result status s) := by
  have same : RunEnds s s := ⟨s.sup.mode, s.sup.quietByStone, s.sup.quietByHost, s.stone, s.sens, .refl s⟩
  unfold abortRun endRun
  split
  · exact same
  · split
    · exact same
    · next r _ =>
      obtain ⟨md, qs, qh, st, se, h⟩ := clearVisits_runEnds { s with
        stone.run := none, stone.lastResult := result, stone.lastStatus := status, stone.failItem := 0 }
      exact ⟨md, qs, qh, st, se, h.trans (report_noted ..)⟩

theorem busForget_frame (s : State) : ∃ ps, busForget s = { s with bus.ports := ps } := by
  unfold busForget
  split
  · exact ⟨s.bus.ports, rfl⟩
  · exact ⟨s.bus.ports, rfl⟩
  · exact ⟨_, rfl⟩

/-- The state in which the core is stopped, once its run, its chunk and its bus request are gone. -/
def coreStopped (s1 : State) : State :=
  { s1 with mbox.ready := false, mbox.appRestart := true, mbox.waiting := none,
            mbox.accepted := waitingAccepted s1 ++ s1.mbox.accepted.map Accepted.internal,
            mbox.respObj := [], cfg.edit := none, mgt.appRunning := false,
            nvm.orphans := (List.range 8).map (fun e => if 2 ≤ e then (nth s1.nvm.queue e).length else 0),
            bus := { s1.bus with subs := [], outstanding := [], trends := List.replicate 16 {},
                                 file := none, waiting := none, result := none } }

theorem appStop_eq (s : State) : appStop s = coreStopped (busForget (dropChunkIn (abortRun 5 stInternal s))) := rfl

theorem stopped_accepted (s : State) {a : Accepted}
    (ha : a ∈ waitingAccepted s ++ s.mbox.accepted.map Accepted.internal) : a.err = some stInternal := by
  rcases List.mem_append.mp ha with ha | ha
  · unfold waitingAccepted at ha
    split at ha
    · cases ha
    · split at ha
      · cases ha
      · rw [List.mem_singleton.mp ha]
  · obtain ⟨x, -, rfl⟩ := List.mem_map.mp ha
    rfl

/-- What a stopped core leaves: no object, no chunk, no transaction and no subscription; each command still to be answered
will be answered `ST_INTERNAL`. -/
def Stops (s t : State) : Prop := ∃ md qs qh st se acc orph bu, bu.subs = [] ∧ bu.held = s.bus.held ∧
  (∀ a, a ∈ acc → a.err = some stInternal) ∧ Noted { s with
    sup.mode := md, sup.quietByStone := qs, sup.quietByHost := qh, stone := st, sens := se,
    mbox := { s.mbox with ready := false, appRestart := true, waiting := none, accepted := acc, respObj := [], chunkIn := none },
    cfg.edit := none, mgt.appRunning := false, nvm.orphans := orph, bus := bu } t

theorem appStop_stops (s : State) : Stops s (appStop s) := by
  obtain ⟨md, qs, qh, st, se, e, b, h⟩ := abortRun_runEnds 5 stInternal s
  obtain ⟨ps, hp⟩ := busForget_frame (dropChunkIn (abortRun 5 stInternal s))
  rw [h] at hp
  have hacc {a : Accepted} := stopped_accepted (busForget (dropChunkIn (abortRun 5 stInternal s))) (a := a)
  rw [appStop_eq, h]
  rw [h] at hacc
  rw [hp] at hacc ⊢
  refine ⟨md, qs, qh, st, se, _, _, _, ?_, ?_, ?_, e, b, rfl⟩
  · rfl
  · rfl
  · exact @hacc

/-! ## Supervision fails, and a trial fails (R456, R470) -/

theorem supvFail_spec (detail : Nat) {s : State} (h : s.sup.safeSupv = false) :
    (supvFail detail s).raised 120 ∧ ∃ al, Noted { s with
      sup.safeSupv := true, mgt.restartDue := none, test.stopped := s.test.stopped || s.test.running,
      backup := (writeFault 4 120 detail 0 s).backup, bus.alarms := al } (supvFail detail s) := by
  obtain ⟨al, hal⟩ := alarmsEval_frame
    (writeFault 4 120 detail 0 { testStop false s with sup.safeSupv := true, mgt.restartDue := none })
  rw [supvFail, if_neg (by simp [h]), hal]
  refine ⟨report_raised _ (by decide), al, ?_⟩
  rw [testStop_eq, Bool.not_false, Bool.and_true]
  exact report_noted ..

theorem MgtRec.bankSt_setSt {b : Nat} (r : MgtRec) (st : BankSt) : (r.setSt b st).bankSt b = st := by
  by_cases h : b = 0 <;> simp [setSt, setBank, bankSt, h]

/-- R470: the record of a trial that has failed, whatever becomes of its store. -/
theorem trialFail_frame (s : State) : (trialFail (mgtStore .plain) s).raised 106 ∧
    (∀ k, s.raised k → (trialFail (mgtStore .plain) s).raised k) ∧ ∃ q mr at' bk, Noted
      { s with mgt.trial := false, mgt.mr := mr, mgt.att := at', nvm.queue := q, backup := bk }
      (trialFail (mgtStore .plain) s) := by
  obtain ⟨q, mr, at', h⟩ := mgtStore_frame .plain
    { s with mgt.mr := { s.mgt.mr.setSt s.mgt.mr.active .bad with active := 1 - s.mgt.mr.active }, mgt.trial := false }
  unfold trialFail secReport
  dsimp only
  rw [h]
  exact ⟨report_raised _ (by decide), fun k hk => report_raised_of hk, q, mr, at', _, report_noted ..⟩

/-- R470: with nothing before it in entry 5 the failed bank reads BAD and the other one is active. -/
theorem trialFail_spec {s : State} (hq : nth s.nvm.queue 5 = []) : ∃ q sq, Noted { s with
    mgt.trial := false, nvm.queue := q, backup := (bootFault s.mgt.mr.active 7 s).backup,
    mgt.mr := { s.mgt.mr.setSt s.mgt.mr.active .bad with active := 1 - s.mgt.mr.active, seq := sq } }
    (trialFail (mgtStore .plain) s) := by
  obtain ⟨q, sq, h⟩ := mgtStore_plain_of_empty (s := { s with
    mgt.mr := { s.mgt.mr.setSt s.mgt.mr.active .bad with active := 1 - s.mgt.mr.active }, mgt.trial := false }) hq
  unfold trialFail secReport
  dsimp only
  rw [h]
  exact ⟨q, sq, report_noted ..⟩

/-! ## The restart (R333, R455, R456) -/

/-- What the restart leaves once supervision has failed or not; a trial has still to fail. -/
def Restarts (s : State) (cause : Nat) (t : State) : Prop := ∃ md qs qh st se acc orph bu bk te,
  bu.subs = [] ∧ (∀ a, a ∈ acc → a.err = some stInternal) ∧ t.raised 120 ∧
  (s.sup.safeSupv = true ∨ s.recentRestarts.length < 2 → (nth bk.lf 0).cause = cause) ∧
  (s.sup.safeSupv = false → 2 ≤ s.recentRestarts.length →
    (nth bk.lf 0).cause = 4 ∧ (nth bk.lf 0).detail = 2 ∧ (nth bk.lf 1).cause = cause) ∧
  Noted { s with
    sup := { s.sup with mode := md, quietByStone := qs, quietByHost := qh, safeSupv := s.sup.safeSupv || decide (2 ≤ s.recentRestarts.length) },
    stone := st, sens := se,
    mbox := { s.mbox with ready := false, appRestart := true, waiting := none, accepted := acc, respObj := [], chunkIn := none },
    cfg := { s.cfg with edit := none },
    mgt := { s.mgt with appRunning := false, restartDue := none, restarting := true, restarts := s.chain.mc :: s.recentRestarts },
    nvm := { s.nvm with orphans := orph }, bus := bu, backup := bk, test := te } t

/-- The part of `appCoreRestart` before the trial's end. -/
def coreRestarted (cause : Nat) (s : State) : State :=
  let s1 := appStop { s with mgt.restartDue := none, mgt.restarting := true, mgt.restarts := s.chain.mc :: s.recentRestarts }
  let n := s1.mgt.restarts.length
  let s2 := report 120 4 6 0 (writeFault cause (if cause = 2 then 120 else 123) (if cause = 2 then n else 0) 0 s1)
  if 3 ≤ n then supvFail 2 s2 else s2

theorem appCoreRestart_eq {s : State} {cause : Nat} (ha : s.alive = true) (hd : s.mgt.restartDue = some cause) :
    appCoreRestart s = if (coreRestarted cause s).mgt.trial then
      { trialFail (mgtStore .plain) (coreRestarted cause s) with sup.softPend := true } else coreRestarted cause s := by
  unfold appCoreRestart
  rw [hd]
  dsimp only
  rw [if_neg (by simp [ha])]
  rfl

/-- R443: the entry before a new one is the second of the two. -/
theorem writeFault_lf_one (c src d v : Nat) (s : State) : nth (writeFault c src d v s).backup.lf 1 = nth s.backup.lf 0 := by
  unfold writeFault
  dsimp only
  rcases s.backup.lf with _ | ⟨a, l⟩ <;> rfl

/-- A last-fault entry, and its report. -/
theorem faultReported_frame (c src d : Nat) (s : State) : (report 120 4 6 0 (writeFault c src d 0 s)).raised 120 ∧
    ∃ bk, (nth bk.lf 0).cause = c ∧ Noted { s with backup := bk } (report 120 4 6 0 (writeFault c src d 0 s)) :=
  ⟨report_raised _ (by decide), _, rfl, report_noted ..⟩

/-- R456: the third restart of 600 s ends supervision. -/
theorem supvCount_spec (n : Nat) {s : State} (hr : s.raised 120) (hd : s.mgt.restartDue = none) :
    (if 3 ≤ n + 1 then supvFail 2 s else s).raised 120 ∧ ∃ al bk te sv mg,
      mg = none ∧ sv = (s.sup.safeSupv || decide (2 ≤ n)) ∧
      (s.sup.safeSupv = true ∨ n < 2 → bk = s.backup) ∧
      (s.sup.safeSupv = false → 2 ≤ n → bk = (writeFault 4 120 2 0 s).backup) ∧
      Noted { s with sup.safeSupv := sv, mgt.restartDue := mg, test := te, backup := bk, bus.alarms := al }
        (if 3 ≤ n + 1 then supvFail 2 s else s) := by
  by_cases hn : 2 ≤ n
  · rw [if_pos (by omega)]
    by_cases hs : s.sup.safeSupv = true
    · rw [supvFail, if_pos hs]
      exact ⟨hr, s.bus.alarms, s.backup, s.test, _, _, hd, by simp [hs], fun _ => rfl, by simp [hs], .refl s⟩
    · have hs := Bool.eq_false_iff.mpr hs
      obtain ⟨hraised, al, h⟩ := supvFail_spec 2 hs
      exact ⟨hraised, al, _, _, _, _, rfl, by simp [hn], fun hx => by simp [hs] at hx; omega, fun _ _ => rfl, h⟩
  · rw [if_neg (by omega)]
    exact ⟨hr, s.bus.alarms, s.backup, s.test, _, _, hd, by simp [hn], fun _ => rfl, fun _ h => absurd h hn, .refl s⟩

theorem coreRestarted_restarts (cause : Nat) (s : State) : Restarts s cause (coreRestarted cause s) := by
  obtain ⟨md, qs, qh, st, se, acc, orph, bu, hsubs, -, hacc, e, b, h⟩ := appStop_stops
    { s with mgt.restartDue := none, mgt.restarting := true, mgt.restarts := s.chain.mc :: s.recentRestarts }
  obtain ⟨hr, bk, hbk, e', b', h'⟩ := faultReported_frame cause (if cause = 2 then 120 else 123)
    (if cause = 2 then s.recentRestarts.length + 1 else 0)
    (appStop { s with mgt.restartDue := none, mgt.restarting := true, mgt.restarts := s.chain.mc :: s.recentRestarts })
  have hlen : (appStop { s with
      mgt.restartDue := none, mgt.restarting := true, mgt.restarts := s.chain.mc :: s.recentRestarts }).mgt.restarts.length = s.recentRestarts.length + 1 := by rw [h]; rfl
  unfold coreRestarted
  dsimp only
  rw [hlen]
  generalize report 120 4 6 0 _ = y at hr h' ⊢
  rw [h] at h'
  obtain ⟨hraised, al, bk', te, sv, mg, hmg, hsv, hkeep, hnew, hn⟩ := supvCount_spec s.recentRestarts.length hr (by rw [h'])
  generalize (if 3 ≤ s.recentRestarts.length + 1 then supvFail 2 y else y) = t at hraised hn ⊢
  subst hmg hsv
  rw [h'] at hn hkeep hnew
  refine ⟨md, qs, qh, st, se, acc, orph, { bu with alarms := al }, bk', te, hsubs, hacc, hraised, fun hx => ?_,
    fun hx hy => ?_, .trans ⟨e', b', rfl⟩ hn⟩
  · rw [hkeep hx]
    exact hbk
  · rw [hnew hx hy]
    exact ⟨rfl, rfl, (congrArg LfEntry.cause (writeFault_lf_one ..)).trans hbk⟩

/-! ## The core starts again (R333, R186) -/

@[simp] theorem respond_ready (r : Resp) (b : Option (Nat × Nat)) (s : State) :
    (respond r b s).mbox.ready = s.mbox.ready := by
  cases b with
  | none => rfl
  | some p => simp [respond]

@[simp] theorem respond_appRestart (r : Resp) (b : Option (Nat × Nat)) (s : State) :
    (respond r b s).mbox.appRestart = s.mbox.appRestart := by
  cases b with
  | none => rfl
  | some p => simp [respond]

theorem drainErrs_nil (s : State) : drainErrs [] s = { s with mbox.accepted := [] } := rfl

/-- The next command to be answered with its error. -/
theorem drainErrs_cons {a : Accepted} (l : List Accepted) (s : State) (h : a.err.isSome = true) :
    ∃ ro, drainErrs (a :: l) s = drainErrs l (respond { cmd := a.cmd, tag := a.msg.tag, status := a.err.getD 0 }
      (some (a.inb, a.outb)) { s with mbox.respObj := ro }) := by
  obtain ⟨st, hst⟩ := Option.isSome_iff_exists.mp h
  have hd : drainErrs (a :: l) s = drainErrs l (respond { cmd := a.cmd, tag := a.msg.tag, status := st } (some (a.inb, a.outb))
      (if st = stBadArg ∧ !a.msg.chunk then dropObject a.cmd s else s)) := by
    rw [drainErrs, hst]
  rw [hd, hst]
  split
  · exact ⟨_, rfl⟩
  · exact ⟨s.mbox.respObj, rfl⟩

/-- The commands left without a response are answered in order, each with its error. -/
theorem drainErrs_spec (l : List Accepted) (s : State) (h : ∀ a ∈ l, a.err.isSome = true) :
    (drainErrs l s).mbox.accepted = [] ∧ (drainErrs l s).mbox.ready = s.mbox.ready ∧
    (drainErrs l s).mbox.appRestart = s.mbox.appRestart ∧
    (l = [] → (drainErrs l s).mbox.lastResp = s.mbox.lastResp) ∧
    (∀ a, l.getLast? = some a → (drainErrs l s).mbox.lastResp = some { cmd := a.cmd, tag := a.msg.tag, status := a.err.getD 0 }) ∧
    ∃ mb ev, drainErrs l s = { s with mbox := mb, evt := ev } := by
  induction l generalizing s with
  | nil => exact ⟨rfl, rfl, rfl, fun _ => rfl, nofun, _, _, rfl⟩
  | cons a l ih =>
    obtain ⟨ro, hd⟩ := drainErrs_cons l s (h a List.mem_cons_self)
    rw [hd]
    generalize hx : respond _ _ _ = x
    obtain ⟨hacc, hready, hrestart, hnil, hlast, mb, ev, hf⟩ := ih x fun b hb => h b (List.mem_cons_of_mem _ hb)
    refine ⟨hacc, ?_, ?_, nofun, fun b hb => ?_, mb, ev, ?_⟩
    · rw [hready, ← hx, respond_ready]
    · rw [hrestart, ← hx, respond_appRestart]
    · rcases l with _ | ⟨c, l⟩
      · obtain rfl : a = b := by simpa using hb
        rw [hnil rfl, ← hx, respond_lastResp]
      · exact hlast b (by simpa using hb)
    · rw [hf, ← hx, respond_frame]

/-- R186: only the zones change as the core starts again. -/
theorem zonesRestart_frame (s : State) :
    ∃ zs, zonesRestart s = { s with rood.zones := zs, rood.delaysReset := true } := by
  have hz : ∃ zs, (List.range 32).foldl (fun a z => zoneRestart z a) s = { s with rood.zones := zs } := by
    refine List.foldlRecOn (motive := fun t : State => ∃ zs, t = { s with rood.zones := zs }) _ _ ⟨s.rood.zones, rfl⟩
      fun t ht z _ => ?_
    obtain ⟨zs, rfl⟩ := ht
    unfold zoneRestart
    dsimp only
    split <;> exact ⟨_, rfl⟩
  obtain ⟨zs, hz⟩ := hz
  exact ⟨zs, by rw [zonesRestart, hz]⟩

/-- The state in which the core runs again, before the commands left are answered. -/
def coreStarted (s : State) : State :=
  { s with mbox.ready := true, mbox.appRestart := false, mgt.appRunning := true, mgt.restarting := false, sup.safeSram := false }

theorem appRestartComplete_eq {s : State} (ha : s.alive = true) (hpll : s.clk.pllLocked = true)
    (hr : s.mbox.appRestart = true) (hh : s.mgt.appHeld = false) (hs : s.test.appStopped = false) :
    ∃ ev, appRestartComplete s = busTurn (zonesRestart (drain (alarmsEval { coreStarted s with evt := ev }))) := by
  have hraise : ∃ ev, (if s.sup.safeSram then raiseWith 123 1 0 (coreStarted s) else coreStarted s) =
      { coreStarted s with evt := ev } := by
    split
    · exact ⟨_, raiseWith_frame ..⟩
    · exact ⟨s.evt, rfl⟩
  obtain ⟨ev, hraise⟩ := hraise
  refine ⟨ev, ?_⟩
  rw [← hraise, appRestartComplete, if_neg (by simp [ha, hpll, hr, hh, hs])]
  rfl

theorem appRestartComplete_spec {s : State} (ha : s.alive = true) (hpll : s.clk.pllLocked = true)
    (hr : s.mbox.appRestart = true) (hh : s.mgt.appHeld = false) (hs : s.test.appStopped = false)
    (hw : s.mbox.waiting = none) (hb : s.bus.held = []) (hacc : ∀ a ∈ s.mbox.accepted, a.err.isSome = true) :
    ∃ t, appRestartComplete s = t ∧ t.mbox.ready = true ∧ t.mbox.appRestart = false ∧ t.mbox.accepted = [] ∧
      (∀ a, s.mbox.accepted.getLast? = some a →
        t.mbox.lastResp = some { cmd := a.cmd, tag := a.msg.tag, status := a.err.getD 0 }) ∧
      t.mgt.appRunning = true ∧ t.mgt.restarting = false ∧ t.sup.safeSram = false ∧ t.rood.delaysReset = true := by
  obtain ⟨ev, hx⟩ := appRestartComplete_eq ha hpll hr hh hs
  obtain ⟨al, hal⟩ := alarmsEval_frame { coreStarted s with evt := ev }
  have hdrain : drain { coreStarted s with evt := ev, bus.alarms := al } =
      drainErrs s.mbox.accepted { coreStarted s with evt := ev, bus.alarms := al } :=
    if_neg (by simp [coreStarted, hw])
  obtain ⟨hnone, hready, hrestart, -, hlast, mb, ev', hf⟩ :=
    drainErrs_spec s.mbox.accepted { coreStarted s with evt := ev, bus.alarms := al } hacc
  rw [hf] at hdrain hnone hready hrestart hlast
  rw [hal, hdrain] at hx
  obtain ⟨zs, hz⟩ := zonesRestart_frame { coreStarted s with evt := ev', bus.alarms := al, mbox := mb }
  refine ⟨_, hx, ?_⟩
  rw [hz, busTurn]
  dsimp only [coreStarted]
  rw [hb]
  exact ⟨hready, hrestart, hnone, hlast, rfl, rfl, rfl, rfl⟩

/-- Settles O44: the stop's and the restart's frames, and the completion that answers what is left. -/
theorem applicationCoreRestarts : Obligations.ApplicationCoreRestarts := by
  intro s ha
  refine ⟨fun hrun hdue => ⟨fun hs => ?due, fun hs => ?held⟩, fun cause hd => ?restart, fun hpll => ?noClock,
    fun hpll hr hh hs hw hb hacc => ?complete, fun hr hs => ?timeout⟩
  case due =>
    show Host.Outcome.next (heartbeatTimeout s) = _
    rw [heartbeatTimeout, if_neg (by simp [ha, hrun, hdue]), if_neg (by simp [hs])]
  case held =>
    have hx : exec .heartbeatTimeout s = .next (appStop { s with mgt.appHeld := true }) := by
      show Host.Outcome.next (heartbeatTimeout s) = _
      rw [heartbeatTimeout, if_neg (by simp [ha, hrun, hdue]), if_pos hs]
    obtain ⟨md, qs, qh, st, se, acc, orph, bu, hsubs, -, -, e, b, h⟩ := appStop_stops { s with mgt.appHeld := true }
    rw [h] at hx
    exact ⟨_, hx, rfl, rfl, rfl, rfl, rfl, rfl, hsubs, rfl, rfl⟩
  case restart =>
    obtain ⟨md, qs, qh, st, se, acc, orph, bu, bk, te, hsubs, hacc, hraised, hlf, hlf4, e, b, h⟩ := coreRestarted_restarts cause s
    have hx : exec .appCoreRestart s = .next (appCoreRestart s) := rfl
    rw [appCoreRestart_eq ha hd] at hx
    by_cases htr : s.mgt.trial = true
    · obtain ⟨h106, hkeep, q, mr, at', bk', e', b', h'⟩ := trialFail_frame (coreRestarted cause s)
      rw [if_pos (by rw [h]; exact htr)] at hx
      have hfail (hq : nth s.nvm.queue 5 = []) := trialFail_spec (s := coreRestarted cause s) (by rw [h]; exact hq)
      have h120 := hkeep _ hraised
      rw [h'] at hx h106 h120
      rw [h] at hx h106 h120
      refine ⟨_, hx, h120, rfl, rfl, rfl, rfl, rfl, rfl, rfl, rfl, hacc, rfl, rfl, rfl, rfl, hsubs, rfl, rfl, rfl, rfl, rfl,
        rfl, fun ht => absurd (htr.symm.trans ht) nofun, fun _ hact hq => ?_⟩
      obtain ⟨q2, sq, e2, b2, h2⟩ := hfail hq
      rw [h'] at h2
      rw [h] at h2
      have hmr := congrArg (fun t : State => t.mgt.mr) h2
      have hbk := congrArg State.backup h2
      dsimp only at hmr hbk
      refine ⟨rfl, rfl, ?_, ?_, h106, ?_⟩
      · dsimp only
        rw [hmr]
        exact MgtRec.bankSt_setSt ..
      · dsimp only
        rw [hmr]
      · dsimp only
        rw [hbk]
        rfl
    · rw [if_neg (by rw [h]; exact htr), h] at hx
      rw [h] at hraised
      refine ⟨_, hx, hraised, rfl, rfl, rfl, rfl, rfl, rfl, rfl, rfl, hacc, rfl, rfl, rfl, rfl, hsubs, rfl, rfl, rfl, rfl, rfl,
        rfl, fun _ => ⟨rfl, hlf, hlf4⟩, fun ht => absurd ht htr⟩
  case noClock =>
    show Host.Outcome.next (appRestartComplete s) = _
    rw [appRestartComplete, if_pos (by simp [hpll])]
  case complete =>
    obtain ⟨t, ht, h⟩ := appRestartComplete_spec ha hpll hr hh hs hw hb (List.all_eq_true.mp hacc)
    exact ⟨t, congrArg _ ht, h⟩
  case timeout =>
    obtain ⟨hraised, al, e, b, h⟩ := supvFail_spec 1 hs
    have hx : exec .supervisionTimeout s = .next (supvFail 1 s) := congrArg _ (if_pos (by simp [ha, hr]))
    rw [h] at hx hraised
    exact ⟨_, hx, rfl, hraised, rfl, rfl, rfl, e, b, rfl⟩

end Sys2Proof.Machine

namespace Sys2Proof.Machine

/-! PROOFS. The NV controller's turns; activation and the confirmation of a trial. -/

/-! ## One turn of the NV controller (R493) -/

/-- The operation at the head of entry e has been taken out of the queue. -/
def nvTaken (e : Nat) (rest : List NvOp) (s : State) : State :=
  { s with nvm := { nvTurn e s.nvm with queue := s.nvm.queue.set e rest } }

theorem nvTurn_eq (e : Nat) (n : Nvm) : ∃ c r, nvTurn e n = { n with consec01 := c, rr := r } := by
  unfold nvTurn
  split
  · exact ⟨_, n.rr, rfl⟩
  · exact ⟨_, _, rfl⟩

@[simp] theorem nvTurn_queue (e : Nat) (n : Nvm) : (nvTurn e n).queue = n.queue := by
  obtain ⟨c, r, h⟩ := nvTurn_eq e n
  rw [h]

@[simp] theorem nvTurn_orphans (e : Nat) (n : Nvm) : (nvTurn e n).orphans = n.orphans := by
  obtain ⟨c, r, h⟩ := nvTurn_eq e n
  rw [h]

@[simp] theorem nvTurn_bad (e : Nat) (n : Nvm) : (nvTurn e n).bad = n.bad := by
  obtain ⟨c, r, h⟩ := nvTurn_eq e n
  rw [h]

theorem nth_set_empty {q : List (List NvOp)} (e : Nat) : nth (q.set e []) e = [] := by
  by_cases h : e < q.length
  · exact nth_set_self _ _ _ h
  · rw [List.set_eq_of_length_le (by omega)]
    simp [nth, List.getD_eq_getElem?_getD, show q.length ≤ e by omega]
    rfl

section
variable {s : State} {e : Nat} {op : NvOp} {rest : List NvOp} (hr : s.outOfReset = true) (hs : s.nvServed = some e)
  (hq : nth s.nvm.queue e = op :: rest) (ok : Bool)
include hr hs hq

/-- R493: an operation that has no codeword left is verified. -/
theorem exec_nvVerify (hc : op.cws = []) :
    exec (.nvCodewordWrite ok false) s = .next (nvComplete e op.job ok (nvTaken e rest s)) := by
  show Host.Outcome.next (nvCodeword ok false s) = _
  unfold nvCodeword
  rw [if_neg (by simp [hr]), if_neg (by decide)]
  unfold nvServe
  rw [hs]
  dsimp only
  rw [hq]
  dsimp only
  rw [hc]
  dsimp only
  rw [nvTurn_queue]
  rfl

/-- R493: the operation's last codeword is written, and the operation is verified. -/
theorem exec_nvLast {w : CwWrite} (hc : op.cws = [w]) :
    exec (.nvCodewordWrite ok false) s = .next (nvComplete e op.job ok
      (if ok then { writeCw w { s with nvm := nvTurn e s.nvm } with
          nvm.queue := (writeCw w { s with nvm := nvTurn e s.nvm }).nvm.queue.set e rest }
       else readBackFails { op with cws := [], written := op.written ++ [(w.bank, s.cwPlace w)] }
        { writeCw w { s with nvm := nvTurn e s.nvm } with
          nvm.queue := (writeCw w { s with nvm := nvTurn e s.nvm }).nvm.queue.set e rest })) := by
  show Host.Outcome.next (nvCodeword ok false s) = _
  unfold nvCodeword
  rw [if_neg (by simp [hr]), if_neg (by decide)]
  unfold nvServe
  rw [hs]
  dsimp only
  rw [hq]
  dsimp only
  rw [hc]
  rfl

/-- R493: a codeword that is not the operation's last is written. -/
theorem exec_nvMore {w w2 : CwWrite} {more : List CwWrite} (hc : op.cws = w :: w2 :: more) :
    exec (.nvCodewordWrite ok false) s = .next { writeCw w { s with nvm := nvTurn e s.nvm } with
      nvm.queue := (writeCw w { s with nvm := nvTurn e s.nvm }).nvm.queue.set e
        ({ op with cws := w2 :: more, written := op.written ++ [(w.bank, s.cwPlace w)] } :: rest) } := by
  show Host.Outcome.next (nvCodeword ok false s) = _
  unfold nvCodeword
  rw [if_neg (by simp [hr]), if_neg (by decide)]
  unfold nvServe
  rw [hs]
  dsimp only
  rw [hq]
  dsimp only
  rw [hc]
  rfl

end

/-- R495: an operation whose command still waits. -/
theorem nvComplete_of_own {e : Nat} {s : State} (job : NvJob) (ok : Bool) (ho : nth s.nvm.orphans e = 0) :
    nvComplete e job ok s = busTurn (busResume (mgtTurn (nvDone job ok s))) := by
  rw [nvComplete, if_pos ho]

theorem mgtTurn_of_empty {s : State} (hq : nth s.nvm.queue 5 = []) : mgtTurn s = s := by
  unfold mgtTurn
  rw [hq]

theorem busResume_of_none {s : State} (hw : s.bus.waiting = none) : busResume s = s := by
  unfold busResume
  rw [hw]
  cases s.bus.result <;> rfl

theorem busTurn_of_none {s : State} (hh : s.bus.held = []) : busTurn s = s := by
  rw [busTurn, hh]
  rfl

/-! ## Reports of a bank's codewords (R20) -/

theorem memUncorrectable_raised_of {k : Nat} (mem : Nat) {s : State} (h : s.raised k) : (memUncorrectable mem s).raised k :=
  happen_raised_of (raiseWith_raised_of (s := { s with clk.uncorrectable := _ }) h)

/-- A report of the memory errors of a list of places: events, records and the counts. -/
theorem foldl_memUncorrectable {α : Type} (mem : Nat) (l : List α) (s : State) :
    (∀ k, s.raised k → (l.foldl (fun a _ => memUncorrectable mem a) s).raised k) ∧
    (l ≠ [] → (l.foldl (fun a _ => memUncorrectable mem a) s).raised 123) ∧
    ∃ un, Noted { s with clk.uncorrectable := un } (l.foldl (fun a _ => memUncorrectable mem a) s) := by
  induction l generalizing s with
  | nil => exact ⟨fun _ h => h, fun h => absurd rfl h, s.clk.uncorrectable, .refl s⟩
  | cons x l ih =>
    obtain ⟨hr, e, b, h⟩ := memUncorrectable_spec mem s
    obtain ⟨hkeep, -, un, hn⟩ := ih (memUncorrectable mem s)
    refine ⟨fun k hk => hkeep k (memUncorrectable_raised_of mem hk), fun _ => hkeep _ hr, un, ?_⟩
    rw [List.foldl_cons]
    rw [h] at hn ⊢
    exact .trans ⟨e, b, rfl⟩ hn

/-- R20: the report of a bank of the flash, which lists an uncorrectable codeword or none. -/
theorem bankReport_spec (b : Nat) (s : State) : (s.bankBad b = false → bankReport b s = s) ∧
    (s.bankBad b = true → (bankReport b s).raised 123) ∧
    ∃ un, Noted { s with clk.uncorrectable := un } (bankReport b s) := by
  obtain ⟨-, hraised, hn⟩ := foldl_memUncorrectable 7 (s.mgt.flashBad.filter (fun c => c.1 == b)) s
  refine ⟨fun h => ?_, fun h => hraised ?_, hn⟩
  · have : s.mgt.flashBad.filter (fun c => c.1 == b) = [] := by
      simpa [State.bankBad, List.filter_eq_nil_iff] using h
    rw [bankReport, this]
    rfl
  · intro hnil
    simp [State.bankBad, List.filter_eq_nil_iff] at h hnil
    obtain ⟨x, hx⟩ := h
    exact hnil _ _ hx rfl

/-! ## Activation (R341, R342, R470) -/

/-- The body of `UPD.ACTIVATE`. -/
def activateCmd (m : Msg) (s : State) : State × Reply :=
  if 1 < getB m.payload 0 ∨ !padOk m 1 3 then (s, .st stBadArg) else activate (getB m.payload 0) s

theorem exec_updActivate (m : Msg) (s : State) :
    exec (.updActivate m) s = .next (command { code := 0x7103, len := fun n => n == 4 } m activateCmd s) := rfl

theorem activateCmd_of_arg {m : Msg} {s : State} {b : Nat} (hb : getB m.payload 0 = b) (h2 : b < 2)
    (hpad : padOk m 1 3 = true) : activateCmd m s = activate b s := by
  rw [activateCmd, hb, if_neg (by simp [hpad]; omega)]

section
variable {s : State} {b : Nat}

theorem activate_of_trial (h : s.mgt.mr.inTrial = true) : activate b s = (s, .done 0x0203 []) := if_pos h

variable (hn : s.mgt.mr.inTrial = false)
include hn

theorem activate_of_active (ha : b = s.mgt.mr.active) : activate b s = (s, .done 0 []) := by
  unfold activate
  rw [if_neg (by simp [hn]), if_pos ha]
  rfl

variable (ha : b ≠ s.mgt.mr.active)
include ha

theorem activate_of_hot (ht : s.thermalBars = true) : activate b s = (s, .done 0x0601 []) := by
  unfold activate
  rw [if_neg (by simp [hn]), if_neg ha, if_pos ht]
  rfl

variable (ht : s.thermalBars = false)
include ht

theorem activate_of_unverified (h : s.mgt.mr.bankSt b = .empty ∨ ∃ k, k ≠ 7 ∧ bankStep s b = some k) :
    activate b s = (bankReport b s, .done 0x0501 []) := by
  unfold activate
  rw [if_neg (by simp [hn]), if_neg ha, if_neg (by simp [ht])]
  by_cases he : s.mgt.mr.bankSt b = .empty
  · rw [if_pos he]
    rfl
  · obtain ⟨k, hk, hstep⟩ := h.resolve_left he
    rw [if_neg he, hstep]
    split
    · next h7 => exact absurd (Option.some.inj h7) hk
    · rfl
    · next h0 => cases h0

theorem activate_of_rollback (he : s.mgt.mr.bankSt b ≠ .empty) (h7 : bankStep s b = some 7) :
    activate b s = (s, .done 0x0502 []) := by
  unfold activate
  rw [if_neg (by simp [hn]), if_neg ha, if_neg (by simp [ht]), if_neg he, h7]
  rfl

theorem activate_of_verified (he : s.mgt.mr.bankSt b ≠ .empty) (h0 : bankStep s b = none) (hc : s.bushel.closed = false) :
    activate b s = (mgtStore .activate { s with mgt.activating := some s.mgt.mr }, .wait) := by
  unfold activate
  rw [if_neg (by simp [hn]), if_neg ha, if_neg (by simp [ht]), if_neg he, h0]
  exact if_neg (by simp [hc])

end

theorem MgtRec.bankSt_setSt_other {b : Nat} (r : MgtRec) (st : BankSt) (h : b < 2) :
    (r.setSt b st).bankSt (1 - b) = r.bankSt (1 - b) := by
  obtain rfl | rfl : b = 0 ∨ b = 1 := by omega
  all_goals simp [setSt, setBank, bankSt]

theorem MgtRec.setSt_seq (r : MgtRec) (b : Nat) (st : BankSt) : (r.setSt b st).seq = r.seq := by
  unfold setSt setBank
  split <;> rfl

/-! ## The confirmation of a trial (R459, R466, R470, R474) -/

/-- The management record of a confirmed trial. -/
def MgtRec.confirmed (r : MgtRec) : MgtRec :=
  let r1 := (r.setSt r.active .good).setSt (1 - r.active) .old
  if r1.floorFw.toNat < (r.bankVer r.active).toNat then { r1 with floorFw := r.bankVer r.active } else r1

theorem MgtRec.setSt_keeps (r : MgtRec) (b : Nat) (st : BankSt) : (r.setSt b st).active = r.active ∧
    (r.setSt b st).floorFw = r.floorFw ∧ (r.setSt b st).floorWf = r.floorWf ∧ (r.setSt b st).floorCfg = r.floorCfg := by
  unfold setSt setBank
  split <;> exact ⟨rfl, rfl, rfl, rfl⟩

theorem MgtRec.confirmed_spec {r : MgtRec} (h : r.active < 2) :
    r.confirmed.bankSt r.active = .good ∧ r.confirmed.bankSt (1 - r.active) = .old ∧ r.confirmed.active = r.active ∧
    r.confirmed.floorFw.toNat = max r.floorFw.toNat (r.bankVer r.active).toNat ∧
    r.confirmed.floorWf = r.floorWf ∧ r.confirmed.floorCfg = r.floorCfg := by
  obtain ⟨ha, hf, hw, hc⟩ := (r.setSt r.active .good).setSt_keeps (1 - r.active) .old
  obtain ⟨ha', hf', hw', hc'⟩ := r.setSt_keeps r.active .good
  have hgood : ((r.setSt r.active .good).setSt (1 - r.active) .old).bankSt r.active = .good := by
    have := (r.setSt r.active .good).bankSt_setSt_other .old (b := 1 - r.active) (by omega)
    rw [show 1 - (1 - r.active) = r.active by omega] at this
    exact this.trans (r.bankSt_setSt .good)
  have hold := (r.setSt r.active .good).bankSt_setSt (b := 1 - r.active) .old
  unfold confirmed
  dsimp only
  split
  · next hlt => 
    rw [hf, hf'] at hlt
    exact ⟨hgood, hold, ha.trans ha', (max_eq_right (Nat.le_of_lt hlt)).symm, hw.trans hw', hc.trans hc'⟩
  · next hlt =>
    rw [hf, hf'] at hlt
    exact ⟨hgood, hold, ha.trans ha', by rw [hf, hf', max_eq_left (Nat.le_of_not_lt hlt)], hw.trans hw', hc.trans hc'⟩

/-- R493: a change waits behind an operation that is none of the management state's. -/
theorem mgtStore_behind (why : MgtWhy) {s : State} {op : NvOp} (hc : s.bushel.closed = false) (hq : nth s.nvm.queue 5 = [op])
    (hl : 5 < s.nvm.queue.length) (hj : ∀ w, op.job ≠ .mgtState w) :
    mgtStore why s = { s with nvm := nvSubmit s.nvm 5 { job := .mgtState why } } := by
  have hn : nth (nvSubmit s.nvm 5 { job := .mgtState why }).queue 5 = [op, { job := .mgtState why }] := by
    rw [nvSubmit, nth_upd_self _ _ _ hl, hq]
    rfl
  rw [mgtStore, if_neg (by simp [hc]), mgtTurn]
  dsimp only
  rw [hn]
  split
  · next h =>
    obtain ⟨h, -⟩ := List.cons.inj h
    exact absurd (congrArg NvOp.job h) (hj _)
  · rfl

theorem confirmOtp_of_none {s : State} (h : (confirmBits s).1 = s.mgt.otp.thermo ∧ (confirmBits s).2 = false) :
    confirmOtp s = s := by
  obtain ⟨h1, h2⟩ := h
  exact if_pos (by simp [h1, h2])

theorem confirmOtp_of_some {s : State} (h : ¬((confirmBits s).1 = s.mgt.otp.thermo ∧ (confirmBits s).2 = false))
    (hc : s.bushel.closed = false) :
    confirmOtp s = { s with nvm := nvSubmit s.nvm 5 { job := .otpConfirm (confirmBits s).1 (confirmBits s).2 } } :=
  if_neg (by simpa [hc] using h)

theorem trialConfirm_eq (s : State) : trialConfirm s =
    secReport 106 true (mgtStore .plain { confirmOtp s with mgt.mr := s.mgt.mr.confirmed, mgt.trial := false }) := rfl

/-- The stores of a confirmation: the bits first, where it sets any. -/
theorem confirm_stores {s : State} (hc : s.bushel.closed = false) (hq : nth s.nvm.queue 5 = []) (hl : 5 < s.nvm.queue.length) :
    ∃ (op : NvOp) (q : List (List NvOp)) (sq : Word), op.job = .mgtState .plain ∧
      nth q 5 = (if (confirmBits s).1 = s.mgt.otp.thermo ∧ (confirmBits s).2 = false then [op]
        else [{ job := .otpConfirm (confirmBits s).1 (confirmBits s).2 }, op]) ∧
      mgtStore .plain { confirmOtp s with mgt.mr := s.mgt.mr.confirmed, mgt.trial := false } =
        { s with nvm.queue := q, mgt.mr := { s.mgt.mr.confirmed with seq := sq }, mgt.trial := false } := by
  by_cases hb : (confirmBits s).1 = s.mgt.otp.thermo ∧ (confirmBits s).2 = false
  · obtain ⟨op, hj, h⟩ := mgtStore_of_empty .plain
      (s := { s with mgt.mr := s.mgt.mr.confirmed, mgt.trial := false }) hc hq hl
    rw [confirmOtp_of_none hb, h]
    exact ⟨op, _, _, hj, (nth_upd_self _ _ _ hl).trans (by rw [hq, if_pos hb]; rfl), rfl⟩
  · have hq' : nth (nvSubmit s.nvm 5 { job := .otpConfirm (confirmBits s).1 (confirmBits s).2 }).queue 5 =
        [{ job := .otpConfirm (confirmBits s).1 (confirmBits s).2 }] := by
      rw [nvSubmit, nth_upd_self _ _ _ hl, hq]
      rfl
    have hl' : 5 < (nvSubmit s.nvm 5 { job := .otpConfirm (confirmBits s).1 (confirmBits s).2 }).queue.length := by
      simpa [nvSubmit] using hl
    have h := mgtStore_behind .plain (s := { s with
      nvm := nvSubmit s.nvm 5 { job := .otpConfirm (confirmBits s).1 (confirmBits s).2 },
      mgt.mr := s.mgt.mr.confirmed, mgt.trial := false }) hc hq' hl' nofun
    rw [confirmOtp_of_some hb hc, h]
    exact ⟨{ job := .mgtState .plain }, _, s.mgt.mr.confirmed.seq, rfl,
      (nth_upd_self _ _ _ hl').trans (by rw [hq', if_neg hb]; rfl), rfl⟩

theorem confirmDone_of_ok (thermo : Nat) (revoke : Bool) (s : State) :
    (revoke = true → (confirmDone thermo revoke true s).raised 107) ∧ Noted { s with mgt.otp := { s.mgt.otp with
      thermo := max s.mgt.otp.thermo thermo,
      revoked := if revoke = true then s.mgt.otp.revoked.set 0 true else s.mgt.otp.revoked } }
      (confirmDone thermo revoke true s) := by
  cases revoke
  · exact ⟨nofun, .refl _⟩
  · exact ⟨fun _ => report_raised _ (by decide), report_noted ..⟩

/-- Settles O41: activation case by case, the confirmation's two stores, and the end of its OTP operation. -/
theorem activationAndTrial : Obligations.ActivationAndTrial := by
  refine ⟨fun s m h hp => ?status, fun s m b h hp hpad hb h2 => ⟨fun ht => ?inTrial, fun hn => ⟨fun ha => ?active,
      fun ha ht => ?hot, fun ha ht hu => ⟨fun hbad => ?unverified, fun hbad => ?unreadable⟩,
      fun ha ht he h7 => ?rollback, fun ha he h0 ht hc hq hl => ?activates⟩⟩,
    fun s b hr htr ha h2 hc hq hl => ?confirm, fun s thermo revoke op hr hh hs hq hj hcw ho hheld hw => ?bits⟩
  case status => exact answers_of_report (c := { code := 0x7102 }) rfl h hp rfl rfl rfl rfl
  case inTrial =>
    exact answers_of_body (exec_updActivate m s) h hp rfl rfl rfl
      ((activateCmd_of_arg hb h2 hpad).trans (activate_of_trial (s := bodyState 0x7103 s) ht))
  case active =>
    exact answers_of_body (exec_updActivate m s) h hp rfl rfl rfl
      ((activateCmd_of_arg hb h2 hpad).trans (activate_of_active (s := bodyState 0x7103 s) hn ha))
  case hot =>
    exact answers_of_body (exec_updActivate m s) h hp rfl rfl rfl
      ((activateCmd_of_arg hb h2 hpad).trans (activate_of_hot (s := bodyState 0x7103 s) hn ha ht))
  case unverified =>
    refine answers_of_body (exec_updActivate m s) h hp rfl rfl rfl
      ((activateCmd_of_arg hb h2 hpad).trans ((activate_of_unverified (s := bodyState 0x7103 s) hn ha ht hu).trans ?_))
    rw [(bankReport_spec b (bodyState 0x7103 s)).1 hbad]
  case unreadable =>
    obtain ⟨-, hraised, un, e, bu, hf⟩ := bankReport_spec b (bodyState 0x7103 s)
    obtain ⟨u, hx, hl, -, -, hkeep, hu'⟩ := answered_of_body (exec_updActivate m s) h hp rfl rfl rfl
      ((activateCmd_of_arg hb h2 hpad).trans (activate_of_unverified (s := bodyState 0x7103 s) hn ha ht hu))
      (by rw [hf])
    rw [hf] at hu'
    exact ⟨u, hx, hkeep _ (hraised hbad), hl, by rw [hu']; rfl, by rw [hu']; rfl⟩
  case rollback =>
    exact answers_of_body (exec_updActivate m s) h hp rfl rfl rfl
      ((activateCmd_of_arg hb h2 hpad).trans (activate_of_rollback (s := bodyState 0x7103 s) hn ha ht he h7))
  case activates =>
    obtain ⟨op, hj, hst⟩ := mgtStore_of_empty .activate
      (s := { bodyState 0x7103 s with mgt.activating := some s.mgt.mr }) hc hq hl
    obtain ⟨bx, hx⟩ := waits_of_body (exec_updActivate m s) h hp rfl rfl rfl
      ((activateCmd_of_arg hb h2 hpad).trans
        (activate_of_verified (s := bodyState 0x7103 s) hn (by show b ≠ s.mgt.mr.active; omega) ht he h0 hc))
    rw [show (bodyState 0x7103 s).mgt.mr = s.mgt.mr from rfl, hst] at hx
    have hother : 1 - s.mgt.mr.active = b := by omega
    refine ⟨_, hx, ⟨bx, rfl⟩, ?_, hother, rfl, ?_, ?_, rfl, ⟨op, hj, rfl⟩, rfl⟩
    · show (s.mgt.mr.setSt (1 - s.mgt.mr.active) .trial).bankSt b = .trial
      rw [hother]
      exact s.mgt.mr.bankSt_setSt .trial
    · exact congrArg (· + 1) (s.mgt.mr.setSt_seq (1 - s.mgt.mr.active) .trial)
    · show (s.mgt.mr.setSt (1 - s.mgt.mr.active) .trial).bankSt (1 - b) = s.mgt.mr.bankSt (1 - b)
      rw [hother]
      exact s.mgt.mr.bankSt_setSt_other .trial h2
  case confirm =>
    subst ha
    obtain ⟨op, q, sq, hj, hq', hst⟩ := confirm_stores hc hq hl
    obtain ⟨hgood, hold, hact, hfw, hwf, hcfg⟩ := s.mgt.mr.confirmed_spec h2
    obtain ⟨e, bu, h⟩ := report_noted 106 8 2 0
      { s with nvm.queue := q, mgt.mr := { s.mgt.mr.confirmed with seq := sq }, mgt.trial := false }
    have hraised := report_raised (src := 106) (typ := 8) (sev := 2) (inst := 0)
      { s with nvm.queue := q, mgt.mr := { s.mgt.mr.confirmed with seq := sq }, mgt.trial := false } (by decide)
    have hx : exec .trialConfirm s = .next (trialConfirm s) := congrArg _ (if_pos (by simp [hr, htr]))
    rw [trialConfirm_eq, hst, secReport, if_pos rfl, h] at hx
    rw [h] at hraised
    exact ⟨_, op, hx, hraised, hgood, hold, hact, hfw, hwf, hcfg, hj, hq', rfl, e, bu, rfl⟩
  case bits =>
    have hx := exec_nvVerify hr hs hq true hcw
    rw [nvComplete_of_own _ _ (by simpa [nvTaken] using ho), hj] at hx
    obtain ⟨hraised, e, bu, h⟩ := confirmDone_of_ok thermo revoke (nvTaken 5 [] s)
    have hdone : busTurn (busResume (mgtTurn (nvDone (.otpConfirm thermo revoke) true (nvTaken 5 [] s)))) =
        confirmDone thermo revoke true (nvTaken 5 [] s) := by
      rw [nvDone, mgtTurn_of_empty, busResume_of_none, busTurn_of_none]
      · rw [h]; exact hheld
      · rw [h]; exact hw
      · rw [h]; exact nth_set_empty 5
    rw [hdone] at hx
    rw [h] at hx hraised
    exact ⟨_, hx, rfl, hraised, e, bu, rfl⟩

end Sys2Proof.Machine

namespace Sys2Proof.Machine

/-! PROOFS. The zones' timers and commands. -/

/-! ## Updates of a zone -/

theorem upd_congr {α : Type} [Inhabited α] {l : List α} {i : Nat} {f g : α → α} (h : f (nth l i) = g (nth l i)) :
    upd l i f = upd l i g := by
  by_cases hi : i < l.length
  · refine List.ext_getElem (by simp) fun j h1 h2 => ?_
    by_cases e : j = i
    · subst e
      have hn : nth l j = l[j] := by simp [nth, List.getD_eq_getElem?_getD, hi]
      rw [hn] at h
      simpa [upd] using h
    · simp [upd, Ne.symm e]
  · rw [upd_past _ _ _ (by omega), upd_past _ _ _ (by omega)]

/-- An update of a zone depends on what it makes of that zone alone. -/
theorem updZone_congr {z : Nat} {f g : Zone → Zone} {s : State} (h : f (s.zone z) = g (s.zone z)) :
    updZone z f s = updZone z g s := by
  rw [updZone, updZone, upd_congr h]

theorem onPll_of_locked {s t : State} (h : s.clk.pllLocked = true) : onPll s t = t := by
  simp [onPll, h]

theorem pllLocked_of_zoneLogic {s : State} (h : s.zoneLogic = true) : s.clk.pllLocked = true := by
  simp [State.zoneLogic] at h
  exact h.1.2

/-- A list of counts read as integers, as the statement of the confirmation's expiry reads a zone's bins. -/
theorem nth_intList (l : List Nat) (b : Nat) : nth (do let a ← l; pure (a : Int)) b = ((nth l b : Nat) : Int) := by
  have hm : (do let a ← l; pure (a : Int)) = l.map (fun a : Nat => (a : Int)) := List.map_eq_flatMap.symm
  rw [hm, nth, nth, List.getD_eq_getElem?_getD, List.getElem?_map, List.getD_eq_getElem?_getD]
  cases l[b]? <;> rfl

/-! ## The delays of a zone (R187, R193, R194, R213, R216) -/

section
variable {s : State} {z : Nat} (hz : s.zoneLogic = true)
include hz

theorem specConfirm_of_due (hp : (s.zone z).spec = .provisional) (hc : (s.zone z).cm = .unocc ∨ (s.zone z).cm = .standby)
    (hv : s.backup.calValid = true) (hd : ((s.zone z).tPred : Int) + 300 * (s.zf z 8 15 8 : Int) ≤ s.calNow) :
    specConfirm z s = report 111 4 1 z (updZone z (fun y => { y with
      spec := .rollback, specRollback := bump y.specRollback,
      prob := y.prob.set (weekBin (s.localAt (s.zone z).tPred)) (nth (s.zone z).prob (weekBin (s.localAt (s.zone z).tPred)) -
        (rne ((nth (s.zone z).prob (weekBin (s.localAt (s.zone z).tPred)) : Nat) : Int) (2 ^ s.zf z 8 3 0)).toNat) }) s) :=
  if_pos ⟨hz, hp, hc, hv, hd⟩

theorem changeoverExpiry_of_due (hc : (s.zone z).cm.controlled = true) (hm : s.zf z 0 9 8 ≠ 2)
    (hd : s.held (s.zone z).coSince (if s.zf z 0 9 8 = 0 then s.secMc (10 * s.zf z 1 31 24) else s.secMc 10) = true) :
    changeoverExpiry z s = report z 3 1 0 (changeoverOps z (!(s.zone z).cool)
      (updZone z (fun y => { y with cool := !y.cool, coSince := none }) s)) :=
  if_pos (by simp only [hz, hc, hd, Bool.and_true, Bool.true_and]; simpa using hm)

theorem windowExpiry_of_due (hw : s.zb z 0 14 = true)
    (hd : s.held (s.zone z).winSince (if (s.zone z).windowOpen then s.secMc 10 else s.secMc (s.zf z 1 23 16)) = true) :
    windowExpiry z s = report z 3 1 0 (updZone z (fun y => { y with windowOpen := !y.windowOpen, winSince := none }) s) :=
  if_pos (by simp only [hz, hw, hd, Bool.and_true])

theorem faultExpiry_of_fault (hf : (s.zone z).faultCond = false)
    (hd : s.held (s.zone z).fltSince (s.secMc (s.zf z 1 15 8)) = true) :
    faultExpiry z s = report z 1 5 0 (updZone z (fun y => { y with faultCond := true }) s) := by
  unfold faultExpiry
  rw [if_neg (by simp [hz]), if_pos (by simp [hf, hd]), setZoneFault, if_neg (by simp [hf])]
  rfl

theorem faultExpiry_of_clear (hf : (s.zone z).faultCond = true) (hl : s.zoneLoopFault z = false)
    (hd : s.held (s.zone z).okSince (s.secMc 10) = true) :
    faultExpiry z s = report z 2 1 0 (updZone z (fun y => { y with faultCond := false }) s) := by
  unfold faultExpiry
  rw [if_neg (by simp [hz]), if_neg (by simp [hf]), if_pos (by simp [hf, hl, hd]), setZoneFault, if_neg (by simp [hf])]
  rfl

theorem comfortExpiry_of_due (hc : (s.zone z).comfort = true ∨ (s.zone z).cm = .occ)
    (hd : s.held (s.zone z).comfSince
      (if (s.zone z).comfort then s.secMc 300 else s.secMc (60 * s.zf z 9 7 0)) = true) :
    ∃ typ sev, comfortExpiry z s = alarmsEval (report z typ sev 0
      (updZone z (fun y => { y with comfort := !y.comfort, comfSince := none }) s)) := by
  have hx : comfortExpiry z s = alarmsEval ((if (s.zone z).comfort then report z 2 1 0 else report z 1 3 0)
      (updZone z (fun y => { y with comfort := !y.comfort, comfSince := none }) s)) :=
    if_pos (by simp only [hz, hd, Bool.and_true, Bool.true_and]; simpa using hc)
  rw [hx]
  split <;> exact ⟨_, _, rfl⟩

end

theorem manualActive_of_ended {x : Zone} {p : Manual} (hp : x.manual = some p) (h : p.left = some 0) :
    x.manualActive = false := by
  rw [Zone.manualActive, hp]
  simp [h]

/-! ## The occupancy bin (R25, R182, R211) -/

theorem occBinEnd_of_hold {s : State} {z : Nat} (h : s.sup.mode = .hold) :
    occBinEnd z s = updZone z (fun y => { y with binPasses := 0, binOcc := 0, binSkip := false }) s := by
  unfold occBinEnd
  simp [h]

theorem occBinEnd_of_learning {s : State} {z : Nat} (h : s.sup.mode ≠ .hold) (hv : s.backup.calValid = true)
    (hk : (s.zone z).binSkip = false) (hp : 1 ≤ (s.zone z).binPasses) (hr : s.repeatAt (s.stdAt (s.calNow - 1)) = false) :
    occBinEnd z s = updZone z (fun y => { y with
      binPasses := 0, binOcc := 0, binSkip := false,
      prob := y.prob.set (weekBin (s.localAt (s.calNow - 1)))
        (((nth (s.zone z).prob (weekBin (s.localAt (s.calNow - 1))) : Nat) : Int) +
          rne ((if (s.zone z).binPasses ≤ 2 * (s.zone z).binOcc then 255 else 0) -
            (nth (s.zone z).prob (weekBin (s.localAt (s.calNow - 1))) : Nat)) (2 ^ s.zf z 8 7 4)).toNat }) s := by
  have htakes : (s.backup.calValid && s.sup.mode != .hold && !(s.zone z).binSkip && decide (0 < (s.zone z).binPasses) &&
      !s.repeatAt (s.stdAt (s.calNow - 1))) = true := by simp [h, hv, hk, hr]; omega
  unfold occBinEnd
  dsimp only
  rw [htakes]
  rfl

/-- Settles O21: each timer's step where it is due, and each command's body. -/
theorem zoneExpiriesAndCommands : Obligations.ZoneExpiriesAndCommands := by
  refine ⟨fun s z hz hl => ⟨fun hp hc hv hd => ?spec, fun hc hm hd => ?changeover, fun hw hd => ?window,
      fun hf hd => ?fault, fun hf hlf hd => ?clear, fun hc hd => ?comfort, fun p hp hleft => ?manualEnd,
      fun hm => ?binHold, fun hm hv hk hp hr => ?binEnd⟩,
    fun s m hz => ⟨fun h hp hpad => ?status, fun h hp hpad => ?provStatus, fun h hp h1 hpad => ?off,
      fun h hp => ⟨fun h0 => ?manualOff, fun h1 hw => ?manual, fun h1 hn => ?manualBad⟩,
      fun h hp h1 hpad => ⟨fun hc => ?changes, fun hc => ?changesNot⟩⟩⟩
  case spec =>
    rw [nth_intList]
    have hx : exec (.specConfirmExpiry z) s = .next _ := congrArg Host.Outcome.next (specConfirm_of_due hl hp hc hv hd)
    exact ⟨_, hx, report_raised _ (by decide), report_noted ..⟩
  case changeover =>
    exact ⟨_, congrArg Host.Outcome.next (changeoverExpiry_of_due hl hc hm hd), report_raised _ (by omega), report_noted ..⟩
  case window =>
    exact ⟨_, congrArg Host.Outcome.next (windowExpiry_of_due hl hw hd), report_raised _ (by omega), report_noted ..⟩
  case fault =>
    exact ⟨_, congrArg Host.Outcome.next (faultExpiry_of_fault hl hf hd), report_raised _ (by omega), report_noted ..⟩
  case clear =>
    exact ⟨_, congrArg Host.Outcome.next (faultExpiry_of_clear hl hf hlf hd), report_raised _ (by omega), report_noted ..⟩
  case comfort =>
    obtain ⟨typ, sev, hx⟩ := comfortExpiry_of_due hl hc hd
    have hraised := report_raised (src := z) (typ := typ) (sev := sev) (inst := 0)
      (updZone z (fun y => { y with comfort := !y.comfort, comfSince := none }) s) (by omega)
    obtain ⟨al, hal⟩ := alarmsEval_frame
      (report z typ sev 0 (updZone z (fun y => { y with comfort := !y.comfort, comfSince := none }) s))
    obtain ⟨e, b, h⟩ := report_noted z typ sev 0 (updZone z (fun y => { y with comfort := !y.comfort, comfSince := none }) s)
    rw [hal] at hx
    rw [h] at hx hraised
    have hx' : exec (.comfortDelayExpiry z) s = .next _ := congrArg Host.Outcome.next hx
    exact ⟨_, hx', hraised, e, b, rfl⟩
  case manualEnd =>
    have hx : exec (.manualExpiry z) s = .next (updZone z (fun x => if x.manualActive then x else { x with manual := none }) s) :=
      congrArg Host.Outcome.next (if_pos hl)
    exact hx.trans (congrArg Host.Outcome.next
      (updZone_congr (if_neg (Bool.eq_false_iff.mp (manualActive_of_ended hp hleft)))))
  case binHold => exact congrArg Host.Outcome.next ((onPll_of_locked (pllLocked_of_zoneLogic hl)).trans (occBinEnd_of_hold hm))
  case binEnd =>
    exact congrArg Host.Outcome.next ((onPll_of_locked (pllLocked_of_zoneLogic hl)).trans (occBinEnd_of_learning hm hv hk hp hr))
  case status =>
    refine answers_of_body (c := { code := 0x2101, len := fun n => n == 4 }) rfl h hp rfl rfl rfl ?_
    exact (if_neg (by simp [zoneArg, hz, hpad])).trans rfl
  case provStatus =>
    refine answers_of_body (c := { code := 0x2102, len := fun n => n == 4 }) rfl h hp rfl rfl rfl ?_
    exact (if_neg (by simp [zoneArg, hz, hpad])).trans rfl
  case off =>
    refine answers_of_effect (c := { code := 0x2104, len := fun n => n == 4 }) rfl h hp rfl rfl rfl ?_ ⟨s.evt, rfl⟩
    exact if_neg (by simp [zoneArg, hz, hpad]; omega)
  case manualOff =>
    refine answers_of_effect (c := { code := 0x2105, len := fun n => n == 8 }) rfl h hp rfl rfl rfl ?_ ⟨s.evt, rfl⟩
    exact (if_neg (by simp [zoneArg, hz, h0])).trans (if_pos h0)
  case manual =>
    refine answers_of_effect (c := { code := 0x2105, len := fun n => n == 8 }) rfl h hp rfl rfl rfl ?_ ⟨s.evt, rfl⟩
    exact (if_neg (by simp [zoneArg, hz, h1])).trans ((if_neg (by simp [h1])).trans (if_neg (Int.not_lt.mpr hw)))
  case manualBad =>
    refine answers_of_body (c := { code := 0x2105, len := fun n => n == 8 }) rfl h hp rfl rfl rfl ?_
    exact (if_neg (by simp [zoneArg, hz, h1])).trans ((if_neg (by simp [h1])).trans (if_pos hn))
  case changes =>
    refine answers_of_effect (c := { code := 0x2106, len := fun n => n == 4 }) rfl h hp rfl rfl rfl ?_ ⟨s.evt, rfl⟩
    refine if_neg ?_
    rw [not_or, not_or, not_or, not_not]
    exact ⟨by simp [zoneArg, hz], by omega, by simp [hpad], hc⟩
  case changesNot =>
    refine answers_of_body (c := { code := 0x2106, len := fun n => n == 4 }) rfl h hp rfl rfl rfl ?_
    exact if_pos (.inr (.inr (.inr hc)))

end Sys2Proof.Machine

namespace Sys2Proof.Machine

/-! PROOFS. Bus ports, frames and counters. -/

/-! ## What BUS fields that come into force touch (R369, R371, R373) -/

/-- The request that waits for NVM is that of s; where nothing was held, nothing is. -/
def KeepsRequests (s t : State) : Prop := (s.bus.held = [] → t.bus.held = []) ∧ t.bus.waiting = s.bus.waiting

theorem KeepsRequests.trans {s t u : State} (h : KeepsRequests s t) (g : KeepsRequests t u) : KeepsRequests s u :=
  ⟨fun hs => g.1 (h.1 hs), g.2.trans h.2⟩

/-- Apart from the bus, Acre, events raised and records written, t is s; no request has come or gone. -/
def OnBus (s t : State) : Prop := KeepsRequests s t ∧ ∃ b a, Noted { s with bus := b, acre := a } t

theorem OnBus.trans {s t u : State} (h : OnBus s t) (g : OnBus t u) : OnBus s u := by
  obtain ⟨hh, b, a, e, l, rfl⟩ := h
  obtain ⟨gh, b', a', e', l', rfl⟩ := g
  exact ⟨hh.trans gh, b', a', e', l', rfl⟩

theorem OnBus.of_noted {s t : State} (h : Noted s t) : OnBus s t := by
  obtain ⟨e, l, rfl⟩ := h
  exact ⟨⟨id, rfl⟩, s.bus, s.acre, e, l, rfl⟩

theorem OnBus.refl (s : State) : OnBus s s := .of_noted (.refl s)

theorem portReport_noted (p : Nat) (s : State) : Noted s (portReport p s) := report_noted ..

theorem updPort_onBus (p : Nat) (f : Port → Port) (s : State) : OnBus s (updPort p f s) := ⟨⟨id, rfl⟩, _, s.acre, .refl _⟩

theorem acreNotes_noted (old : Acre) (s : State) : Noted s (acreNotes old s) :=
  List.foldlRecOn (motive := fun t : State => Noted s t) _ _ (.refl s) fun _ h _ _ => h.trans (report_noted ..)

theorem acreChanged_onBus (old a : Acre) (s : State) : OnBus s (acreNotes old { s with acre := a }) := by
  have h : OnBus s { s with acre := a } := ⟨⟨id, rfl⟩, s.bus, a, .refl _⟩
  exact h.trans (.of_noted (acreNotes_noted ..))

theorem acreEval_onBus (s : State) : OnBus s (acreEval s) := by
  unfold acreEval
  split
  · split
    · exact acreChanged_onBus s.acre _ s
    · exact .refl s
  · split
    · exact .refl s
    · exact acreChanged_onBus s.acre _ s

theorem portStop_onBus (p : Nat) (s : State) : OnBus s (portStop s p) := by
  unfold portStop
  split
  · exact .refl s
  · dsimp only
    split
    · exact (updPort_onBus ..).trans (.of_noted (portReport_noted ..))
    · exact updPort_onBus ..

theorem fdEnd_onBus (s : State) : OnBus s (fdEnd s) := by
  have h : OnBus s { s with bus.fdPending := false, bus.fdRemain := 0, bus.fdSent := none } := ⟨⟨id, rfl⟩, _, s.acre, .refl _⟩
  unfold fdEnd setFdReg
  split
  · exact h
  · have h' : OnBus s { s with bus.fdPending := false, bus.fdRemain := 0, bus.fdSent := none, bus.fdReg := false } :=
      ⟨⟨id, rfl⟩, _, s.acre, .refl _⟩
    exact h'.trans (.of_noted (portReport_noted ..))

theorem busInForce_onBus (old : Image) (s : State) : OnBus s (busInForce old s) := by
  have trends (ts : List Trend) : OnBus s { s with bus.trends := ts } := ⟨⟨id, rfl⟩, _, s.acre, .refl _⟩
  have stops (t : State) : OnBus t ((List.range 4).foldl portStop t) :=
    List.foldlRecOn (motive := fun u : State => OnBus t u) _ _ (.refl t) fun u h p _ => h.trans (portStop_onBus p u)
  have heard (t : State) : OnBus t { t with bus.held := if t.carriesBac t.bacPort then t.bus.held else [] } :=
    ⟨⟨fun h => by dsimp only; split; exacts [h, rfl], rfl⟩, _, t.acre, .refl _⟩
  unfold busInForce
  extract_lets b s1 s3 b3 s2
  have h1 : OnBus s s1 := (trends _).trans (acreEval_onBus _)
  have h3 : OnBus s1 s3 := stops s1
  have h2 : OnBus s3 s2 := heard s3
  clear_value s1 s3 b b3 s2
  split
  · exact (h1.trans h3).trans h2
  · exact ((h1.trans h3).trans h2).trans (fdEnd_onBus s2)

/-! ## The end of a frame (R34, R373) -/

/-- Word w of the BUS section takes its live fields of port p from the committed image. -/
def liveWord (p : Nat) (s : State) (g : Image) (w : Nat) : Image :=
  g.setWord .bus 0 w (merge (w32 (s.busLive p w)) (g.word .bus 0 w) (s.cfg.committed.word .bus 0 w))

/-- The image in force once the live fields of port p have come into force. -/
def liveImage (p : Nat) (s : State) : Image := (List.range 64).foldl (liveWord p s) s.cfg.inForce

theorem busLive_congr {s t : State} (h : s.cfg = t.cfg) (p w : Nat) : s.busLive p w = t.busLive p w := by
  have hb : s.bacPort = t.bacPort := by simp only [State.bacPort, State.cf, State.cw, h]
  rw [State.busLive, State.busLive, hb]

theorem liveImage_congr {s t : State} (h : s.cfg = t.cfg) (p : Nat) : liveImage p s = liveImage p t := by
  have hw : liveWord p s = liveWord p t := by
    funext g w
    rw [liveWord, liveWord, busLive_congr h, h]
  rw [liveImage, liveImage, hw, h]

theorem frameBoundary_eq (p : Nat) (s : State) : frameBoundary p s =
    if liveImage p s = s.cfg.inForce then s else busInForce s.cfg.inForce { s with cfg.inForce := liveImage p s } := rfl

theorem merge_self (mask x : Word) : merge mask x x = x := by
  unfold merge
  ext i
  simp only [BitVec.getElem_or, BitVec.getElem_and, BitVec.getElem_not]
  cases x[i] <;> cases mask[i] <;> rfl

theorem setWord_self (img : Image) (sec : Sec) (i w : Nat) : img.setWord sec i w (img.word sec i w) = img := by
  have hset (ws : List Word) (k : Nat) : ws.set k (ws.getD k 0) = ws := by
    by_cases h : k < ws.length
    · simp [List.getD_eq_getElem?_getD, h]
    · exact List.set_eq_of_length_le (by omega)
  unfold Image.setWord
  rw [upd_congr (g := id) (hset _ _)]
  exact List.modify_id ..

theorem word_setWord_self {img : Image} {sec : Sec} {i w : Nat} (v : Word) (h1 : sec.index < img.length)
    (h2 : i * sec.words + w < (img.sec sec).length) : (img.setWord sec i w v).word sec i w = v := by
  unfold Image.word Image.sec Image.setWord
  rw [nth_upd_self _ _ _ h1]
  have h2' : i * sec.words + w < (nth img sec.index).length := h2
  simp [List.getD_eq_getElem?_getD, h2']

theorem word_setWord_ne {img : Image} {sec : Sec} {i w w' : Nat} (v : Word) (h : w' ≠ w) :
    (img.setWord sec i w v).word sec i w' = img.word sec i w' := by
  unfold Image.word Image.sec Image.setWord
  by_cases h1 : sec.index < img.length
  · rw [nth_upd_self _ _ _ h1]
    simp [List.getD_eq_getElem?_getD, List.getElem?_set_ne (show i * sec.words + w ≠ i * sec.words + w' by omega)]
  · rw [upd_past _ _ _ (by omega)]

theorem sec_setWord_ne {img : Image} {sec sec' : Sec} (i w : Nat) (v : Word) (h : sec' ≠ sec) :
    (img.setWord sec i w v).sec sec' = img.sec sec' := by
  refine nth_upd_ne _ _ _ _ fun e => h ?_
  revert e
  cases sec' <;> cases sec <;> decide

/-- R34: each word has taken its live fields once, and nothing else of the image has changed. -/
theorem foldl_liveWord {p : Nat} {s : State} {l : List Nat} (hd : l.Nodup) {g : Image} (h1 : g.length = 20)
    (h2 : (g.sec .bus).length = 64) (hl : ∀ w ∈ l, w < 64) :
    (∀ w, (l.foldl (liveWord p s) g).word .bus 0 w = if w ∈ l
      then merge (w32 (s.busLive p w)) (g.word .bus 0 w) (s.cfg.committed.word .bus 0 w) else g.word .bus 0 w) ∧
    (∀ sec, sec ≠ .bus → (l.foldl (liveWord p s) g).sec sec = g.sec sec) := by
  induction l generalizing g with
  | nil => exact ⟨fun w => (if_neg (by simp)).symm, fun _ _ => rfl⟩
  | cons a l ih =>
    obtain ⟨ha, hd⟩ := List.nodup_cons.mp hd
    have hw : Sec.bus.index < g.length := by rw [h1]; decide
    have hn : 0 * Sec.bus.words + a < (g.sec .bus).length := by
      rw [h2, Nat.zero_mul, Nat.zero_add]
      exact hl a List.mem_cons_self
    have h1' : (liveWord p s g a).length = 20 := by rw [liveWord, Image.setWord, upd_length, h1]
    have h2' : ((liveWord p s g a).sec .bus).length = 64 := by
      rw [← h2, liveWord, Image.setWord, Image.sec, nth_upd_self _ _ _ hw]
      exact List.length_set
    obtain ⟨ihw, ihs⟩ := ih hd h1' h2' fun w hw => hl w (List.mem_cons_of_mem _ hw)
    refine ⟨fun w => ?_, fun sec hs => (ihs sec hs).trans (sec_setWord_ne _ _ _ hs)⟩
    rw [List.foldl_cons, ihw]
    by_cases e : w = a
    · subst e
      rw [if_neg ha, if_pos List.mem_cons_self]
      exact word_setWord_self _ hw hn
    · rw [liveWord, word_setWord_ne _ e]
      simp [e]

theorem liveImage_spec {p : Nat} {s : State} (hl : s.cfg.inForce.length = 20) (hb : (s.cfg.inForce.sec .bus).length = 64) :
    (∀ w, w < 64 → (liveImage p s).word .bus 0 w =
      merge (w32 (s.busLive p w)) (s.cw .bus 0 w) (s.cfg.committed.word .bus 0 w)) ∧
    (∀ sec, sec ≠ .bus → (liveImage p s).sec sec = s.cfg.inForce.sec sec) := by
  obtain ⟨hword, hsec⟩ := foldl_liveWord (p := p) (s := s) (List.nodup_range (n := 64)) hl hb fun w h => List.mem_range.mp h
  rw [liveImage]
  refine ⟨fun w hw => ?_, hsec⟩
  rw [hword, if_pos (List.mem_range.mpr hw)]
  rfl

/-- R34: where the BUS section in force is the committed one, the end of a frame changes nothing. -/
theorem frameBoundary_of_same {p : Nat} {s : State} (h : ∀ w, w < 64 → s.cw .bus 0 w = s.cfg.committed.word .bus 0 w) :
    frameBoundary p s = s := by
  have himg : liveImage p s = s.cfg.inForce := by
    refine List.foldlRecOn (motive := fun g : Image => g = s.cfg.inForce) _ _ rfl fun g hg w hw => ?_
    subst hg
    rw [liveWord, ← h w (List.mem_range.mp hw), State.cw, merge_self, setWord_self]
  rw [frameBoundary_eq, if_pos himg]

theorem frameBoundary_spec (p : Nat) (s : State) : (frameBoundary p s).cfg.inForce = liveImage p s ∧
    (frameBoundary p s).cfg.committed = s.cfg.committed ∧ (frameBoundary p s).nvm = s.nvm ∧
    (frameBoundary p s).rood = s.rood ∧ (frameBoundary p s).act = s.act ∧
    (s.bus.held = [] → (frameBoundary p s).bus.held = []) := by
  rw [frameBoundary_eq]
  split
  · next h => exact ⟨h.symm, rfl, rfl, rfl, rfl, id⟩
  · obtain ⟨⟨hh, -⟩, b, a, e, l, h⟩ := busInForce_onBus s.cfg.inForce { s with cfg.inForce := liveImage p s }
    generalize liveImage p s = g at h hh ⊢
    rw [h] at hh ⊢
    exact ⟨rfl, rfl, rfl, rfl, rfl, hh⟩

/-! ## Frames (R372, R390, R391) -/

/-- Apart from the ports, the transactions that an answer ends, events raised and records written, t is s. -/
def Frames (s t : State) : Prop := ∃ ps os, Noted { s with bus.ports := ps, bus.outstanding := os } t

theorem takeFrame_frames (p : Nat) (k : FrameKind) (s : State) : Frames s (takeFrame p k s) := by
  cases k <;> exact ⟨_, _, .refl _⟩

/-- An update of a port depends on what it makes of that port alone. -/
theorem updPort_congr {p : Nat} {f g : Port → Port} {s : State} (h : f (s.port p) = g (s.port p)) :
    updPort p f s = updPort p g s := by
  rw [updPort, updPort, upd_congr h]

/-- A port's update, with or without its report. -/
theorem portUpdated_spec {p : Nat} (hp : p < 4) (f : Port → Port) {s : State} (hl : p < s.bus.ports.length) (c : Prop)
    [Decidable c] :
    ∃ t, (if c then portReport p (updPort p f s) else updPort p f s) = t ∧ t.port p = f (s.port p) ∧
      (∀ q, q ≠ p → t.port q = s.port q) ∧ (c → t.raised (97 + min p 2)) ∧ t.cfg = s.cfg ∧
      Noted { s with bus := { s.bus with ports := t.bus.ports } } t := by
  refine ⟨_, rfl, ?_⟩
  split
  · next hc =>
    have hraised : (portReport p (updPort p f s)).raised (97 + min p 2) := report_raised _ (by omega)
    obtain ⟨e, b, h⟩ := portReport_noted p (updPort p f s)
    rw [h] at hraised ⊢
    exact ⟨updPort_port_self p f s hl, fun q hq => updPort_port_ne p f s q hq, fun _ => hraised, rfl, e, b, rfl⟩
  · next hc =>
    exact ⟨updPort_port_self p f s hl, fun q hq => updPort_port_ne p f s q hq, fun h => absurd h hc, rfl, .refl _⟩

/-- R391: no frame of the port has been dropped in the last 60 s. -/
def firstDrop (p : Nat) (s : State) : Bool :=
  match (s.port p).lastDropMc with
  | none => true
  | some a => decide (s.secMc 60 < s.mcSince a)

theorem dropFrame_eq (p : Nat) (s : State) : dropFrame p s = if firstDrop p s = true
    then portReport p (updPort p (fun x => { x with rxDrop := incSat 32 x.rxDrop, lastDropMc := some s.chain.mc }) s)
    else updPort p (fun x => { x with rxDrop := incSat 32 x.rxDrop, lastDropMc := some s.chain.mc }) s := rfl

theorem dropFrame_spec {p : Nat} {s : State} (hp : p < 4) (hl : p < s.bus.ports.length) :
    (dropFrame p s).port p = { s.port p with rxDrop := incSat 32 (s.port p).rxDrop, lastDropMc := some s.chain.mc } ∧
    (∀ q, q ≠ p → (dropFrame p s).port q = s.port q) ∧
    ((s.port p).lastDropMc = none → (dropFrame p s).raised (97 + min p 2)) ∧ (dropFrame p s).cfg = s.cfg ∧
    Noted { s with bus := { s.bus with ports := (dropFrame p s).bus.ports } } (dropFrame p s) := by
  obtain ⟨t, ht, hself, hne, hraised, hcfg, hn⟩ := portUpdated_spec hp
    (fun x => { x with rxDrop := incSat 32 x.rxDrop, lastDropMc := some s.chain.mc }) hl (firstDrop p s = true)
  rw [dropFrame_eq, ht]
  exact ⟨hself, hne, fun h => hraised (by rw [firstDrop, h]), hcfg, hn⟩

/-- The exec of the frames' rows. -/
theorem exec_busFrameReceive {p : Nat} {s : State} (k : FrameKind) (hp : p < 4) (hr : s.portRuns p = true) :
    exec (.busFrameReceive p k) s = .next (frameBoundary p (busFrameReceive p k s)) :=
  congrArg Host.Outcome.next (if_pos ⟨hp, hr⟩)

theorem exec_busFrameTransmitDone {p : Nat} {s : State} (hp : p < 4) (hr : s.portRuns p = true) :
    exec (.busFrameTransmitDone p) s = .next (busTurn (frameBoundary p (frameSent p s))) :=
  congrArg Host.Outcome.next (if_pos ⟨hp, hr⟩)

theorem busFrameReceive_of_room {p : Nat} {s : State} (k : FrameKind) (h : (s.port p).rx < rxLimit p) :
    busFrameReceive p k s = takeFrame p (if s.carriesBac p || k == .bad then k else .other) s :=
  if_neg (Nat.not_le.mpr h)

theorem busFrameReceive_of_full {p : Nat} {s : State} (k : FrameKind) (h : rxLimit p ≤ (s.port p).rx) :
    busFrameReceive p k s = dropFrame p s :=
  if_pos h

/-- R372: a frame received or sent moves nothing but ports, transactions, events and records. -/
theorem busFrameReceive_frames {p : Nat} {s : State} (k : FrameKind) (hp : p < 4) (hl : p < s.bus.ports.length) :
    Frames s (busFrameReceive p k s) := by
  unfold busFrameReceive
  split
  · obtain ⟨-, -, -, -, hn⟩ := dropFrame_spec hp hl
    exact ⟨_, s.bus.outstanding, hn⟩
  · exact takeFrame_frames ..

theorem frameSent_frames (p : Nat) (s : State) : Frames s (frameSent p s) := ⟨_, s.bus.outstanding, .refl _⟩

theorem frameSent_of_reserved {p : Nat} {s : State} (h : (s.port p).tx ≤ (s.port p).taken) : frameSent p s = s := by
  have hid : updPort p id s = s := by
    rw [updPort, show upd s.bus.ports p id = s.bus.ports from List.modify_id ..]
  have hsame : frameSent p s = updPort p id s := updPort_congr (if_pos h)
  exact hsame.trans hid

theorem frameSent_of_used {p : Nat} {s : State} (h : (s.port p).taken < (s.port p).tx) : frameSent p s = updPort p (fun x =>
    { x with tx := if x.rx = 0 then x.tx - 1 else x.tx, taken := if x.rx = 0 then x.taken else x.taken + 1,
             rx := x.rx - 1, txFrames := incSat 32 x.txFrames }) s := by
  refine updPort_congr ((if_neg (Nat.not_le.mpr h)).trans ?_)
  by_cases h0 : (s.port p).rx = 0
  · simp [Port.txFree, h0, b2n]
  · have htx : (s.port p).tx - 1 + 1 = (s.port p).tx := by omega
    simp [Port.txFree, h0, b2n, htx]

/-- R34, R373: the words of the BUS section after a frame, and what it leaves. -/
theorem frame_live {p : Nat} {s t : State} (hf : Frames s t) (hl : s.cfg.inForce.length = 20)
    (hb : (s.cfg.inForce.sec .bus).length = 64) {w : Nat} (hw : w < 64) :
    (frameBoundary p t).cw .bus 0 w = merge (w32 (s.busLive p w)) (s.cw .bus 0 w) (s.cfg.committed.word .bus 0 w) ∧
    (∀ sec, sec ≠ .bus → (frameBoundary p t).cfg.inForce.sec sec = s.cfg.inForce.sec sec) ∧
    (frameBoundary p t).cfg.committed = s.cfg.committed ∧ (frameBoundary p t).nvm = s.nvm ∧
    (frameBoundary p t).rood = s.rood ∧ (frameBoundary p t).act = s.act := by
  obtain ⟨ps, os, e, b, rfl⟩ := hf
  obtain ⟨hi, hc, hn, hr, ha, -⟩ := frameBoundary_spec p
    { s with bus.ports := ps, bus.outstanding := os, evt := e, bushel := b }
  obtain ⟨hword, hsec⟩ := liveImage_spec (p := p) hl hb
  have hi := hi.trans (liveImage_congr (t := s) rfl p)
  generalize liveImage p s = g at hi hword hsec
  generalize frameBoundary p _ = t at hi hc hn hr ha ⊢
  exact ⟨by rw [State.cw, hi, hword w hw], fun sec hs => by rw [hi, hsec sec hs], hc, hn, hr, ha⟩

/-- R34: where the BUS section in force is the committed one, a frame is what its row says. -/
theorem frameBoundary_of_frames {p : Nat} {s t : State} (hf : Frames s t)
    (h : ∀ w, w < 64 → s.cw .bus 0 w = s.cfg.committed.word .bus 0 w) : frameBoundary p t = t := by
  obtain ⟨ps, os, e, b, rfl⟩ := hf
  exact frameBoundary_of_same h

/-- R372: a frame that finds room, where the committed BUS section is in force. -/
theorem exec_frame_of_room {p : Nat} {s : State} {k k' : FrameKind} (hp : p < 4) (hr : s.portRuns p = true)
    (hsame : ∀ w, w < 64 → s.cw .bus 0 w = s.cfg.committed.word .bus 0 w) (hroom : (s.port p).rx < rxLimit p)
    (hk : (if s.carriesBac p || k == .bad then k else .other) = k') :
    exec (.busFrameReceive p k) s = .next (takeFrame p k' s) := by
  rw [exec_busFrameReceive k hp hr, busFrameReceive_of_room k hroom, hk,
    frameBoundary_of_frames (takeFrame_frames p k' s) hsame]

theorem exec_frameSent {p : Nat} {s : State} (hp : p < 4) (hr : s.portRuns p = true)
    (hsame : ∀ w, w < 64 → s.cw .bus 0 w = s.cfg.committed.word .bus 0 w) (hh : s.bus.held = []) :
    exec (.busFrameTransmitDone p) s = .next (frameSent p s) := by
  rw [exec_busFrameTransmitDone hp hr, frameBoundary_of_frames (frameSent_frames p s) hsame]
  exact congrArg Host.Outcome.next (busTurn_of_none hh)

/-- Settles O56: the end of a frame by the words of the BUS section, each frame by its kind, and the status commands. -/
theorem portsAndFrames : Obligations.PortsAndFrames := by
  intro s p hp hl
  refine ⟨fun hr k up sole => ?off, fun hr hh h20 h64 k w hw c hc => ?live, fun hr hsame => ⟨fun k hfull => ?full,
      fun hroom => ⟨?bad, ?other, ?notAccepted, fun hb => ⟨fun htx => ?taken, fun htx => ?kept, fun i => ?ack⟩⟩,
      fun ht hh => ?reserved, fun ht hh => ?sent⟩,
    fun hr up sole => ?link, fun m h hm hpl hpad => ?status, fun m h hm hpl hpad => ⟨fun h0 => ?counters, fun h1 => ?clears⟩⟩
  case off =>
    have hn : ¬(p < 4 ∧ s.portRuns p = true) := by simp [hr]
    exact ⟨congrArg Host.Outcome.next (if_neg hn), congrArg Host.Outcome.next (if_neg hn), congrArg Host.Outcome.next (if_neg hn)⟩
  case live =>
    rcases List.mem_cons.mp hc with rfl | hc
    · exact ⟨_, exec_busFrameReceive k hp hr, frame_live (busFrameReceive_frames k hp hl) h20 h64 hw⟩
    · obtain rfl := List.mem_singleton.mp hc
      have hf := frameSent_frames p s
      obtain ⟨-, -, -, -, -, hkeep⟩ := frameBoundary_spec p (frameSent p s)
      have hheld : (frameBoundary p (frameSent p s)).bus.held = [] := hkeep hh
      have hx := exec_busFrameTransmitDone hp hr
      rw [busTurn_of_none hheld] at hx
      exact ⟨_, hx, frame_live hf h20 h64 hw⟩
  case full =>
    have hx := exec_busFrameReceive k hp hr
    rw [frameBoundary_of_frames (busFrameReceive_frames k hp hl) hsame, busFrameReceive_of_full k hfull] at hx
    obtain ⟨hself, hne, hraised, -, hn⟩ := dropFrame_spec hp hl
    exact ⟨_, hx, hself, hne, hraised, hn⟩
  case bad => exact exec_frame_of_room hp hr hsame hroom (if_pos (by rw [beq_self_eq_true, Bool.or_true]))
  case other => exact exec_frame_of_room hp hr hsame hroom (ite_self _)
  case notAccepted =>
    by_cases hb : s.carriesBac p = true
    · exact exec_frame_of_room (k' := .notAccepted) hp hr hsame hroom (if_pos (by rw [hb, Bool.true_or]))
    · exact exec_frame_of_room (k' := .other) hp hr hsame hroom (if_neg (by simp [hb]))
  case taken =>
    refine (exec_frame_of_room (k' := .confirmed) hp hr hsame hroom (if_pos (by rw [hb, Bool.true_or]))).trans ?_
    exact congrArg Host.Outcome.next (updPort_congr (if_pos htx))
  case kept =>
    refine (exec_frame_of_room (k' := .confirmed) hp hr hsame hroom (if_pos (by rw [hb, Bool.true_or]))).trans ?_
    exact congrArg Host.Outcome.next (updPort_congr (if_neg (Nat.not_lt.mpr htx)))
  case ack => exact exec_frame_of_room (k' := .ack i) hp hr hsame hroom (if_pos (by rw [hb, Bool.true_or]))
  case reserved => rw [exec_frameSent hp hr hsame hh, frameSent_of_reserved ht]
  case sent => rw [exec_frameSent hp hr hsame hh, frameSent_of_used ht]
  case link =>
    obtain ⟨t, ht, hself, hne, hraised, -, hn⟩ := portUpdated_spec hp (fun x => { x with
      linkUp := up, soleMaster := decide (p < 2) && sole,
      tokenLost := if p < 2 ∧ x.linkUp ∧ !up then incSat 32 x.tokenLost else x.tokenLost }) hl ((s.port p).linkUp ≠ up)
    have hx : exec (.linkUpChange p up sole) s = .next (linkChange p up sole s) := congrArg Host.Outcome.next (if_pos ⟨hp, hr⟩)
    have hlink : linkChange p up sole s = t := (ite_not ..).symm.trans ht
    rw [hlink] at hx
    exact ⟨t, hx, by rw [hself], by rw [hself], by rw [hself]; simp, hne, hraised, hn⟩
  case status =>
    refine answers_of_body (c := { code := 0x5001, len := fun n => n == 4 }) rfl h hm rfl rfl rfl ?_
    have hno : ¬(3 < getB m.payload 0 ∨ (!padOk m 1 3) = true) := by simp [hpad]; omega
    refine (if_neg hno).trans ?_
    rw [hpl]
    rfl
  case counters =>
    refine answers_of_body (c := { code := 0x5002, len := fun n => n == 4 }) rfl h hm rfl rfl rfl ?_
    have hno : ¬(3 < getB m.payload 0 ∨ 1 < getB m.payload 1 ∨ (!padOk m 2 2) = true) := by simp [hpad]; omega
    refine (if_neg hno).trans ?_
    rw [hpl, if_neg (by omega)]
    rfl
  case clears =>
    refine answers_of_effect (c := { code := 0x5002, len := fun n => n == 4 }) rfl h hm rfl rfl rfl
      (t := updPort p Port.clear (bodyState 0x5002 s)) ?_ ⟨s.evt, rfl⟩
    have hno : ¬(3 < getB m.payload 0 ∨ 1 < getB m.payload 1 ∨ (!padOk m 2 2) = true) := by simp [hpad]; omega
    refine (if_neg hno).trans ?_
    rw [hpl, if_pos h1]
    rfl

end Sys2Proof.Machine

namespace Sys2Proof.Machine

/-! PROOFS. Self-test runs. -/

/-! ## The application core stops for a test (R483) -/

theorem endRun_raised_of {k result status item : Nat} {s : State} (h : s.raised k) : (endRun result status item s).raised k := by
  unfold endRun
  split
  · exact h
  · next r _ =>
    refine report_raised_of ?_
    unfold clearVisits visitsOver leaveQuiet
    split
    · split <;> exact h
    · exact h

theorem appStop_raised_of {k : Nat} {s : State} (h : s.raised k) : (appStop s).raised k := by
  have hab : (abortRun 5 stInternal s).raised k := by
    unfold abortRun
    split
    · exact h
    · exact endRun_raised_of h
  obtain ⟨ps, hp⟩ := busForget_frame (dropChunkIn (abortRun 5 stInternal s))
  rw [appStop_eq, hp]
  exact hab

theorem abortRun_of_none {result status : Nat} {s : State} (h : s.stone.run = none) : abortRun result status s = s := by
  unfold abortRun endRun
  rw [h]
  exact ite_self _

/-- Without a calibration run the stop leaves the mode. -/
theorem appStop_mode {s : State} (h : s.stone.run = none) : (appStop s).sup = s.sup := by
  obtain ⟨ps, hp⟩ := busForget_frame (dropChunkIn s)
  rw [appStop_eq, abortRun_of_none h, hp]
  rfl

/-- What the turn of a test leaves as it was. -/
theorem testTurn_spec (s : State) : (testTurn s).test = { s.test with appStopped := (testTurn s).test.appStopped } ∧
    (∀ k, s.raised k → (testTurn s).raised k) ∧ (s.stone.run = none → (testTurn s).sup = s.sup) ∧
    (testTurn s).nvm.bank0 = s.nvm.bank0 ∧ (testTurn s).nvm.bank1 = s.nvm.bank1 ∧
    (testTurn s = appStop { s with test.appStopped := true } ∨ (testTurn s).mbox = s.mbox) := by
  have same : s.test = { s.test with appStopped := s.test.appStopped } := rfl
  unfold testTurn
  dsimp only
  split
  · split
    · split
      · exact ⟨rfl, fun _ h => h, fun _ => rfl, rfl, rfl, .inr rfl⟩
      · obtain ⟨md, qs, qh, st, se, acc, orph, bu, -, -, -, e, b, h⟩ := appStop_stops { s with test.appStopped := true }
        refine ⟨?_, fun k hk => appStop_raised_of (s := { s with test.appStopped := true }) hk,
          fun hr => appStop_mode (s := { s with test.appStopped := true }) hr, ?_, ?_, .inl rfl⟩
        all_goals rw [h]
    · split
      · exact ⟨rfl, fun _ h => h, fun _ => rfl, rfl, rfl, .inr rfl⟩
      · exact ⟨rfl, fun _ h => h, fun _ => rfl, rfl, rfl, .inr rfl⟩
  · exact ⟨rfl, fun _ h => h, fun _ => rfl, rfl, rfl, .inr rfl⟩

/-! ## The read checks (R20, R480) -/

theorem memCorrected_raised_of {k : Nat} (mem : Nat) {s : State} (h : s.raised k) : (memCorrected mem s).raised k :=
  happen_raised_of (raiseWith_raised_of (s := { s with clk.corrected := _ }) h)

/-- A report of corrected errors, one for each of a list: events, records and the counts. -/
theorem foldl_memCorrected {α : Type} (mem : Nat) (l : List α) (s : State) :
    (∀ k, s.raised k → (l.foldl (fun a _ => memCorrected mem a) s).raised k) ∧
    (l ≠ [] → (l.foldl (fun a _ => memCorrected mem a) s).raised 122) ∧
    ∃ co, Noted { s with clk.corrected := co } (l.foldl (fun a _ => memCorrected mem a) s) := by
  induction l generalizing s with
  | nil => exact ⟨fun _ h => h, fun h => absurd rfl h, s.clk.corrected, .refl s⟩
  | cons x l ih =>
    obtain ⟨hr, e, b, h⟩ := memCorrected_spec mem s
    obtain ⟨hkeep, -, co, hn⟩ := ih (memCorrected mem s)
    refine ⟨fun k hk => hkeep k (memCorrected_raised_of mem hk), fun _ => hkeep _ hr, co, ?_⟩
    rw [List.foldl_cons]
    rw [h] at hn ⊢
    exact .trans ⟨e, b, rfl⟩ hn

/-- Apart from the clocks' counts, the free values, events raised and records written, t is s, and what was raised still is. -/
def Reads (s t : State) : Prop :=
  (∀ k, s.raised k → t.raised k) ∧ ∃ c f, Noted { s with clk := c, free := f } t

theorem readCheck_spec (mem cws bad : Nat) (same : Bool) (s : State) :
    (bad = 0 → same = false → (readCheck mem cws bad same s).raised 122) ∧
    (bad ≠ 0 → (readCheck mem cws bad same s).raised 123) ∧ Reads s (readCheck mem cws bad same s) := by
  unfold readCheck
  extract_lets n fixed s1
  obtain ⟨hkeep, h122, co, e, b, h1⟩ := foldl_memCorrected mem (List.range fixed) s
  have hs1 : s1 = (List.range fixed).foldl (fun a _ => memCorrected mem a) s := rfl
  rw [← hs1] at hkeep h122 h1
  have hdraw : ∃ f, (if (bad = 0 && same) = true then s1 else s1.draw) = { s1 with free := f } := by
    split
    · exact ⟨s1.free, rfl⟩
    · exact ⟨_, rfl⟩
  obtain ⟨f, hdraw⟩ := hdraw
  rw [hdraw]
  obtain ⟨gkeep, g123, un, hn⟩ := foldl_memUncorrectable mem (List.range bad) { s1 with free := f }
  refine ⟨fun hb hs => gkeep _ (h122 ?_), fun hb => g123 (by simpa using hb), fun k hk => gkeep k (hkeep k hk), ?_⟩
  · have hf : fixed = n + 1 := by simp [fixed, hb, hs]
    rw [hf]
    simp
  · rw [h1] at hn ⊢
    exact ⟨_, f, .trans ⟨e, b, rfl⟩ hn⟩

theorem testReads_spec (t : Nat) (sig : BitVec 64) (s : State) :
    (t = 8 → (s.nvm.bad = [] → sig ≠ goodSignature 8 → (testReads t sig s).raised 122) ∧
      (s.nvm.bad ≠ [] → (testReads t sig s).raised 123)) ∧
    (t = 9 → (s.mgt.flashBad = [] → sig ≠ goodSignature 9 → (testReads t sig s).raised 122) ∧
      (s.mgt.flashBad ≠ [] → (testReads t sig s).raised 123)) ∧ Reads s (testReads t sig s) := by
  unfold testReads
  dsimp only
  split
  · next h8 =>
    subst h8
    obtain ⟨h122, h123, hr⟩ := readCheck_spec 8 65536 s.nvm.bad.length (sig == goodSignature 8) s
    exact ⟨fun _ => ⟨fun hb hs => h122 (by rw [hb]; rfl) (by simpa using hs), fun hb => h123 (by simpa using hb)⟩, nofun, hr⟩
  · next h8 =>
    split
    · next h9 =>
      subst h9
      obtain ⟨h122, h123, hr⟩ := readCheck_spec 7 131072 s.mgt.flashBad.length (sig == goodSignature 9) s
      exact ⟨nofun, fun _ => ⟨fun hb hs => h122 (by rw [hb]; rfl) (by simpa using hs), fun hb => h123 (by simpa using hb)⟩, hr⟩
    · next h9 => exact ⟨fun h => absurd h h8, fun h => absurd h h9, fun _ h => h, s.clk, s.free, .refl s⟩

/-! ## Verdicts and signatures (R480, R481) -/

section
variable {t : Nat} {pass : Bool} {sig : BitVec 64} (s : State)

theorem testVerdict_of_logic (h : t ≤ 2) : testVerdict s t pass sig = if sig = goodSignature t then 1 else 0 := by
  rw [testVerdict, if_pos h, b2n]
  simp

theorem testVerdict_of_memory (h : 3 ≤ t) (h8 : t ≠ 8) (h9 : t ≠ 9) :
    testVerdict s t pass sig = if pass = true then 1 else 0 := by
  rw [testVerdict, if_neg (by omega), if_neg h8, if_neg h9, b2n]

theorem testVerdict_nvm : testVerdict s 8 pass sig = if s.nvm.bad = [] then 1 else 0 := by
  rw [testVerdict, if_neg (by decide), if_pos rfl, b2n]
  simp

theorem testVerdict_flash : testVerdict s 9 pass sig = if s.mgt.flashBad = [] then 1 else 0 := by
  rw [testVerdict, if_neg (by decide), if_neg (by decide), if_pos rfl, b2n]
  simp

theorem testSignature_of_own (h : t < 3 ∨ 8 ≤ t ∨ pass = false) : testSignature t pass sig = sig :=
  if_neg fun ⟨h3, h7, hp⟩ => by
    rcases h with h | h | h
    · omega
    · omega
    · exact absurd (h.symm.trans hp) nofun

theorem testSignature_of_published (h3 : 3 ≤ t) (h7 : t ≤ 7) (hp : pass = true) :
    testSignature t pass sig = goodSignature t :=
  if_pos ⟨h3, h7, hp⟩

end

/-! ## A run (R482-R488) -/

theorem selfTestComplete_of_ready {s : State} {k : Nat} {rest : List Nat} (pass : Bool) (sig : BitVec 64)
    (ha : s.alive = true) (hr : s.test.running = true) (hl : s.test.left = k :: rest) (hs : s.testStops = false)
    (hready : s.testReady k = true) : selfTestComplete pass sig s =
      testTurn (testReads k sig { s with test := { s.test with left := rest, results := s.test.results ++
        [{ test := k, verdict := testVerdict s k pass sig, signature := testSignature k pass sig }] } }) := by
  unfold selfTestComplete
  rw [hl]
  exact if_neg (by simp [ha, hr, hs, hready])

theorem testSkip_of_late {s : State} {k : Nat} {rest : List Nat} (ha : s.alive = true) (hr : s.test.running = true)
    (hl : s.test.left = k :: rest) (hready : s.testReady k = false) : testSkip s =
      testTurn { s with test := { s.test with left := rest, results := s.test.results ++ [{ test := k }] } } := by
  unfold testSkip
  rw [hl]
  exact if_neg (by simp [ha, hr, hready])

/-- R482: a run with a test of those that need it enters Hold, from Run or Quiet. -/
def testEnters (mask : Nat) (s : State) : Bool :=
  decide (mask % 128 ≠ 0) && (s.sup.mode == .run || s.sup.mode == .quiet)

/-- The state in which a run begins, before the turn of its first test. -/
def testBegun (mask : Nat) (s : State) : State :=
  { s with test := { running := true, left := idx 10 mask.testBit, mask := mask, enteredHold := testEnters mask s } }

/-- The same, in Hold where the run has entered it. -/
def testHeld (mask : Nat) (s : State) : State :=
  if testEnters mask s then enterHold (testBegun mask s) else testBegun mask s

theorem testRun_of_free {m : Msg} {s : State} (h0 : getW m.payload 0 ≠ 0) (h7 : (getW m.payload 0).testBit 7 = false)
    (hlt : getW m.payload 0 < 1024) (hr : s.test.running = false) (hc : s.stone.run = none) (ht : s.thermalBars = false) :
    testRun m s = (testTurn (testHeld (getW m.payload 0) s), .done 0x0001 []) := by
  unfold testRun
  dsimp only
  rw [if_neg (by simp [h0, h7]; omega), if_neg (by simp [hr, hc]), if_neg (by simp [ht])]
  rfl

/-- Hold leaves the run's record, the calibration run and the stored state. -/
theorem testHeld_spec (mask : Nat) (s : State) : (testHeld mask s).test = (testBegun mask s).test ∧
    (testHeld mask s).stone = s.stone ∧ (testHeld mask s).mbox = s.mbox ∧ (testHeld mask s).nvm = s.nvm ∧
    (mask % 128 ≠ 0 → (testHeld mask s).sup.mode = .hold ∨ s.sup.mode = .startup) ∧
    (mask % 128 = 0 → (testHeld mask s).sup = s.sup) := by
  unfold testHeld
  split
  · next he =>
    simp only [testEnters, Bool.and_eq_true, decide_eq_true_eq] at he
    obtain ⟨hmask, -⟩ := he
    have hleave : (leaveQuiet (testBegun mask s)).test = (testBegun mask s).test ∧
        (leaveQuiet (testBegun mask s)).stone = s.stone ∧ (leaveQuiet (testBegun mask s)).mbox = s.mbox ∧
        (leaveQuiet (testBegun mask s)).nvm = s.nvm := by
      unfold leaveQuiet
      split <;> exact ⟨rfl, rfl, rfl, rfl⟩
    obtain ⟨h1, h2, h3, h4⟩ := hleave
    obtain ⟨-, ls, f, e, b, h⟩ := loopsHold_holds { leaveQuiet (testBegun mask s) with sup.mode := .hold }
    rw [enterHold, h]
    exact ⟨h1, h2, h3, h4, fun _ => .inl rfl, fun h => absurd h hmask⟩
  · next he =>
    refine ⟨rfl, rfl, rfl, rfl, fun hmask => ?_, fun _ => rfl⟩
    show s.sup.mode = .hold ∨ s.sup.mode = .startup
    cases hmode : s.sup.mode <;> simp_all [testEnters]

/-- A test's turn that has stopped the core leaves its answer where it stands. -/
theorem drain_of_stopped {s : State} (h : s.mbox.appRestart = true) : drain s = s := by
  rw [drain, h, Bool.or_true]
  rfl

theorem mem_idx {n k : Nat} {p : Nat → Bool} : k ∈ idx n p ↔ k < n ∧ p k = true := by
  simp [idx]

/-- R482: the answer to `TEST.RUN`, whether or not the core is stopped by its first test. -/
theorem testRun_answered {s x : State} {m : Msg} (h : s.executes 0x7F01 m) (hp : m.plain 4) (hx : x.mbox = (bodyState 0x7F01 s).mbox)
    (hb : testRun m (bodyState 0x7F01 s) = (testTurn x, .done 0x0001 [])) :
    ∃ t, exec (.testRun m) s = .next t ∧
      t.mbox.lastResp = some { cmd := 0x7F01, tag := m.tag, status := 0x0001 } ∧
      t = { testTurn x with mbox := t.mbox, evt := t.evt } := by
  obtain ⟨b, he⟩ := exec_of_body (i := .testRun m) (c := { code := 0x7F01, len := fun n => n == 4 }) rfl h hp rfl rfl rfl
  rw [hb] at he
  simp only [answer] at he
  obtain ⟨-, -, -, -, -, hmb⟩ := testTurn_spec x
  have hd : drain (respond { cmd := 0x7F01, tag := m.tag, status := 0x0001, payload := [] } b (testTurn x)) =
      respond { cmd := 0x7F01, tag := m.tag, status := 0x0001, payload := [] } b (testTurn x) := by
    rcases hmb with hmb | hmb
    · refine drain_of_stopped ?_
      obtain ⟨md, qs, qh, st, se, acc, orph, bu, -, -, -, e, l, hst⟩ := appStop_stops { x with test.appStopped := true }
      rw [respond_appRestart, hmb, hst]
    · refine drain_nil _ ?_
      rw [respond_accepted, hmb, hx, bodyState_accepted]
  rw [hd] at he
  exact ⟨_, he, by simp, respond_frame ..⟩

/-- The record of a run that has ended; what has not been run reads verdict 2. -/
def testEnded (s : State) : State :=
  { s with test.running := false, test.enteredHold := false, test.appStopped := false, test.left := [],
           test.results := s.test.results ++ s.test.left.map (fun t => { test := t }) }

theorem testRunEnd_of_due {s : State} (ha : s.alive = true) (hr : s.test.running = true)
    (hl : s.test.left = [] ∨ s.testStops = true) : ∃ sev, testRunEnd s = report 108 4 sev 0
      (if s.test.enteredHold && s.sup.mode == .hold then leaveHold (testEnded s) else testEnded s) := by
  unfold testRunEnd
  rw [if_neg]
  · exact ⟨_, rfl⟩
  · rcases hl with hl | hl <;> simp [ha, hr, hl]

/-- Settles O48: the run's beginning, each test by its verdict and its reads, and the run's end. -/
theorem selfTestRuns : Obligations.SelfTestRuns := by
  refine ⟨fun s m h hp => ⟨fun hbad => ?badArg, fun h0 h7 hlt => ⟨fun hb => ?busy, fun hr hc ht => ?begins⟩⟩,
    fun s m h hp => ⟨fun hr => ?running, fun hr => ?results⟩,
    fun s k rest pass sig ha hr hl => ⟨fun hs hready => ?ends, fun hready => ?skips⟩, fun s ha hr hl => ?runEnds⟩
  case badArg =>
    exact answers_of_body (c := { code := 0x7F01, len := fun n => n == 4 }) rfl h hp rfl rfl rfl (if_pos hbad)
  case busy =>
    refine answers_of_body (c := { code := 0x7F01, len := fun n => n == 4 }) rfl h hp rfl rfl rfl ?_
    exact (if_neg (by simp [h0, h7]; omega)).trans (if_pos hb)
  case begins =>
    obtain ⟨htest, hstone, hmb, hnvm, hhold, hmode⟩ := testHeld_spec (getW m.payload 0) (bodyState 0x7F01 s)
    obtain ⟨t, hx, hresp, ht⟩ := testRun_answered h hp hmb
      (testRun_of_free (s := bodyState 0x7F01 s) h0 h7 hlt hr hc ht)
    obtain ⟨hturn, -, hsup, hb0, hb1, -⟩ := testTurn_spec (testHeld (getW m.payload 0) (bodyState 0x7F01 s))
    have hsup := hsup (by rw [hstone]; exact hc)
    rw [htest] at hturn
    have hrun : t.test = (testTurn (testHeld (getW m.payload 0) (bodyState 0x7F01 s))).test := by rw [ht]
    have hst : t.sup = (testHeld (getW m.payload 0) (bodyState 0x7F01 s)).sup := by rw [ht, ← hsup]
    rw [hturn] at hrun
    refine ⟨t, hx, hresp, by rw [hrun]; rfl, by rw [hrun]; rfl, by rw [hrun]; rfl, fun k => ?_, fun h => ?_, fun h => ?_, ?_, ?_⟩
    · rw [hrun]
      exact mem_idx
    · rw [hst]
      exact hhold h
    · rw [hst, hmode h]
      rfl
    · rw [ht]
      exact hb0.trans (by rw [hnvm]; rfl)
    · rw [ht]
      exact hb1.trans (by rw [hnvm]; rfl)
  case running => exact answers_of_body (c := { code := 0x7F02 }) rfl h hp rfl rfl rfl (if_pos hr)
  case results => exact answers_of_body (c := { code := 0x7F02 }) rfl h hp rfl rfl rfl (if_neg (Bool.eq_false_iff.mp hr))
  case skips =>
    obtain ⟨htest, -⟩ := testTurn_spec { s with test := { s.test with left := rest, results := s.test.results ++ [{ test := k }] } }
    have hx : exec .testPreconditionTimeout s = .next _ := congrArg Host.Outcome.next (testSkip_of_late ha hr hl hready)
    exact ⟨_, hx, by rw [htest], by rw [htest]; exact hr, by rw [htest]⟩
  case ends =>
    have hx : exec (.selfTestComplete pass sig) s = .next _ :=
      congrArg Host.Outcome.next (selfTestComplete_of_ready pass sig ha hr hl hs hready)
    obtain ⟨h8, h9, hkeep, c, f, e, b, h⟩ := testReads_spec k sig { s with test := { s.test with
      left := rest, results := s.test.results ++
        [{ test := k, verdict := testVerdict s k pass sig, signature := testSignature k pass sig }] } }
    obtain ⟨htest, hraise, -⟩ := testTurn_spec (testReads k sig { s with test := { s.test with
      left := rest, results := s.test.results ++
        [{ test := k, verdict := testVerdict s k pass sig, signature := testSignature k pass sig }] } })
    rw [h] at htest
    refine ⟨_, testVerdict s k pass sig, testSignature k pass sig, hx, by rw [h, htest], by rw [h, htest]; exact hr,
      by rw [h, htest], fun hk => ?_, fun hk => ?_, fun hk => ?_, fun h3 hk8 hk9 => testVerdict_of_memory s h3 hk8 hk9,
      testSignature_of_own, fun hp => ⟨fun hk => ?_, fun hk => ?_, fun hk => ?_, fun hk => ?_⟩,
      fun hk => ⟨fun hb => ⟨?_, fun hne => hraise _ ((h8 hk).1 hb hne)⟩, fun hb => ⟨?_, hraise _ ((h8 hk).2 hb)⟩⟩,
      fun hk => ⟨fun hb => ⟨?_, fun hne => hraise _ ((h9 hk).1 hb hne)⟩, fun hb => ⟨?_, hraise _ ((h9 hk).2 hb)⟩⟩⟩
    all_goals subst hk
    · exact testVerdict_of_logic s (by decide)
    · exact testVerdict_of_logic s (by decide)
    · exact testVerdict_of_logic s (by decide)
    · exact testSignature_of_published (by decide) (by decide) hp
    · exact testSignature_of_published (by decide) (by decide) hp
    · exact testSignature_of_published (by decide) (by decide) hp
    · exact testSignature_of_published (by decide) (by decide) hp
    · exact (testVerdict_nvm s).trans (if_pos hb)
    · exact (testVerdict_nvm s).trans (if_neg hb)
    · exact (testVerdict_flash s).trans (if_pos hb)
    · exact (testVerdict_flash s).trans (if_neg hb)
  case runEnds =>
    obtain ⟨sev, hend⟩ := testRunEnd_of_due ha hr hl
    have hx : exec .testRunEnd s = .next _ := congrArg Host.Outcome.next hend
    have hraised : (report 108 4 sev 0
      (if s.test.enteredHold && s.sup.mode == .hold then leaveHold (testEnded s) else testEnded s)).raised 108 :=
      report_raised _ (by decide)
    obtain ⟨e, b, h⟩ := report_noted 108 4 sev 0
      (if s.test.enteredHold && s.sup.mode == .hold then leaveHold (testEnded s) else testEnded s)
    rw [h] at hx hraised
    by_cases he : s.test.enteredHold && s.sup.mode == .hold
    · rw [if_pos he] at hx hraised
      simp only [Bool.and_eq_true, beq_iff_eq] at he
      exact ⟨_, hx, rfl, rfl, hraised, rfl, fun _ _ => rfl, fun h => absurd (he.1.symm.trans h) nofun⟩
    · rw [if_neg he] at hx hraised
      exact ⟨_, hx, rfl, rfl, hraised, rfl, fun h1 h2 => absurd (by simp [h1, h2]) he, fun _ => rfl⟩

end Sys2Proof.Machine

namespace Sys2Proof.Machine

/-! PROOFS. The start-up scan of the event log, and the timers of summary mode. -/

/-! ## What the services of the log keep (R403, R404, R410) -/

/-- What a happening that is posted changes: the events raised, the ring, and the counts of what it had no room for. -/
def Posts (s t : State) : Prop :=
  (∀ k, s.raised k → t.raised k) ∧ ∃ e r d m, t = { s with
    evt := e, bushel := { s.bushel with ring := r, dropped := d, lastDropMc := m } }

theorem Posts.refl (s : State) : Posts s s := ⟨fun _ h => h, _, _, _, _, rfl⟩

theorem Posts.trans {s t u : State} (h : Posts s t) (g : Posts t u) : Posts s u := by
  obtain ⟨hr, _, _, _, _, rfl⟩ := h
  obtain ⟨gr, _, _, _, _, rfl⟩ := g
  exact ⟨fun k hk => gr k (hr k hk), _, _, _, _, rfl⟩

theorem raiseWith_posts (src c d : Nat) (s : State) : Posts s (raiseWith src c d s) := by
  refine ⟨fun k hk => raiseWith_raised_of hk, ?_⟩
  unfold raiseWith
  extract_lets b summary
  (repeat' split) <;> exact ⟨_, _, _, _, rfl⟩

theorem raise_posts (src : Nat) (s : State) : Posts s (raise src s) := raiseWith_posts ..

theorem dropNote_posts (s : State) : Posts s (dropNote s) := by
  refine ⟨fun k hk => dropNote_raised_of hk, ?_⟩
  unfold dropNote
  (repeat' split) <;> exact ⟨_, _, _, _, rfl⟩

theorem countDropped_posts (sev : Nat) (s : State) : Posts s (countDropped sev s) := by
  have hcount : Posts s (dropCount sev { s with bushel.lastDropMc := some s.chain.mc }) :=
    ⟨fun _ h => h, _, _, _, _, rfl⟩
  unfold countDropped
  extract_lets first s1
  split
  · exact hcount.trans ((raise_posts ..).trans (dropNote_posts _))
  · exact hcount

theorem deposit_posts (h : Happening) (s : State) : Posts s (deposit h s) := by
  unfold deposit
  split
  · exact countDropped_posts ..
  · exact ⟨fun _ h => h, _, _, _, _, rfl⟩

theorem report_posts (src typ sev inst : Nat) (s : State) : Posts s (report src typ sev inst s) :=
  (raise_posts ..).trans (deposit_posts ..)

/-- The log that has no free slot left says so once. -/
theorem checkFull_spec (s : State) : ∃ f, Posts { s with bushel.logFull := f } (checkFull s) ∧
    (f = false → checkFull s = s) := by
  unfold checkFull
  split
  · exact ⟨true, (raise_posts ..).trans (deposit_posts ..), fun h => absurd h (by decide)⟩
  · exact ⟨s.bushel.logFull, .refl s, fun _ => rfl⟩

/-- Of a stored record the index keeps the slot, the serial and the severity. -/
def State.stored (s : State) : List (Nat × Word × Nat) := s.bushel.index.map (fun e => (e.slot, e.serial, e.sev))

/-- What the service of the ring and a flush keep of the scan's result. -/
structure KeepsScan (s t : State) : Prop where
  raised : ∀ k, s.raised k → t.raised k
  done : t.bushel.scanDone = s.bushel.scanDone
  err : t.bushel.scanErr = s.bushel.scanErr
  full : t.bushel.logFull = s.bushel.logFull
  stored : t.stored = s.stored
  sup : t.sup = s.sup
  backup : t.backup = s.backup
  pool : t.bushel.pool <:+ s.bushel.pool

theorem KeepsScan.refl (s : State) : KeepsScan s s := ⟨fun _ h => h, rfl, rfl, rfl, rfl, rfl, rfl, List.suffix_rfl⟩

theorem KeepsScan.trans {s t u : State} (h : KeepsScan s t) (g : KeepsScan t u) : KeepsScan s u :=
  ⟨fun k hk => g.raised k (h.raised k hk), g.done.trans h.done, g.err.trans h.err, g.full.trans h.full,
    g.stored.trans h.stored, g.sup.trans h.sup, g.backup.trans h.backup, g.pool.trans h.pool⟩

theorem Posts.keepsScan {s t : State} (h : Posts s t) : KeepsScan s t := by
  obtain ⟨hr, _, _, _, _, rfl⟩ := h
  exact ⟨hr, rfl, rfl, rfl, rfl, rfl, rfl, List.suffix_rfl⟩

/-- A flush takes slots from the front of the pool and queues their writes; the buffer keeps its records. -/
theorem flushLoop_frame (es : List BufEntry) (s : State) : (flushLoop es s).1.length = es.length ∧
    ∃ p n, (flushLoop es s).2 = { s with bushel.pool := p, nvm := n } ∧ p <:+ s.bushel.pool := by
  induction es generalizing s with
  | nil => exact ⟨rfl, _, _, rfl, List.suffix_rfl⟩
  | cons e es ih =>
    unfold flushLoop
    split
    · next slot rest _ hpool =>
      extract_lets op b s1 r
      obtain ⟨hlen, p, n, hs, hp⟩ := ih s1
      refine ⟨by simpa using hlen, p, n, hs, hp.trans ?_⟩
      rw [hpool]
      exact List.suffix_cons ..
    · obtain ⟨hlen, p, n, hs, hp⟩ := ih s
      exact ⟨by simpa using hlen, p, n, hs, hp⟩

theorem flush_keepsScan (s : State) : KeepsScan s (flush s) := by
  obtain ⟨-, p, n, hs, hp⟩ := flushLoop_frame s.bushel.buf s
  unfold flush
  split
  · exact .refl s
  · split
    · exact ⟨fun _ h => h, rfl, rfl, rfl, rfl, rfl, rfl, List.suffix_rfl⟩
    · split
      · exact .refl s
      · simp only [flushQueue, hs]
        exact ⟨fun _ h => h, rfl, rfl, rfl, rfl, rfl, rfl, hp⟩

theorem enter_keepsScan (h : Happening) (snap : List Word) (buf : List BufEntry) (s : State) :
    KeepsScan s (enter h snap buf s) := by
  unfold enter
  extract_lets serial r b s1
  have h1 : KeepsScan s s1 := ⟨fun _ h => h, rfl, rfl, rfl, rfl, rfl, rfl, List.suffix_rfl⟩
  split
  · exact h1.trans (flush_keepsScan s1)
  · exact h1

/-- A merged occurrence moves the time a stored record last recurred, and nothing else of the index. -/
theorem applyMerge_keepsScan (h : Happening) (l : LastRec) (r : Rec) (s : State) : KeepsScan s (applyMerge h l r s) := by
  unfold applyMerge
  extract_lets s1
  split
  · extract_lets s2
    split <;> exact ⟨fun _ h => h, rfl, rfl, rfl, rfl, rfl, rfl, List.suffix_rfl⟩
  · split
    · next slot _ =>
      extract_lets s2
      have hstored : s2.stored = s.stored := by
        simp only [State.stored, s2, List.map_map]
        refine List.map_congr_left fun e _ => ?_
        simp only [Function.comp_apply]
        split <;> rfl
      split <;> exact ⟨fun _ h => h, rfl, rfl, rfl, hstored, rfl, rfl, List.suffix_rfl⟩
    · exact ⟨fun _ h => h, rfl, rfl, rfl, rfl, rfl, rfl, List.suffix_rfl⟩

theorem createRec_keepsScan (h : Happening) (s : State) : KeepsScan s (createRec h s) := by
  have hlost : KeepsScan s (countDropped h.sev { s with bushel.last := none }) :=
    have h1 : KeepsScan s { s with bushel.last := none } := ⟨fun _ h => h, rfl, rfl, rfl, rfl, rfl, rfl, List.suffix_rfl⟩
    h1.trans (countDropped_posts ..).keepsScan
  unfold createRec
  extract_lets below
  split
  · exact hlost
  · split
    · exact enter_keepsScan ..
    · split
      · exact (countDropped_posts ..).keepsScan.trans (enter_keepsScan ..)
      · exact hlost

theorem serveOne_keepsScan (h : Happening) (s : State) : KeepsScan s (serveOne h s) := by
  unfold serveOne
  split
  · exact ⟨fun _ h => h, rfl, rfl, rfl, rfl, rfl, rfl, List.suffix_rfl⟩
  · split
    · exact applyMerge_keepsScan ..
    · exact createRec_keepsScan ..

theorem serveRing_keepsScan (s : State) : KeepsScan s (serveRing s) := by
  unfold serveRing
  split
  · exact .refl s
  · exact List.foldlRecOn (motive := fun t : State => KeepsScan s t) _ _ ⟨fun _ h => h, rfl, rfl, rfl, rfl, rfl, rfl, List.suffix_rfl⟩
      fun t ht h _ => ht.trans (serveOne_keepsScan h t)

theorem flushPass_keepsScan (s : State) : KeepsScan s (flushPass s) := by
  unfold flushPass
  split
  · exact flush_keepsScan s
  · exact (serveRing_keepsScan s).trans (flush_keepsScan _)

/-! ## The scan (R410) -/

theorem renumber_length (n : Word) (es : List BufEntry) : (renumber n es).1.length = es.length := by
  induction es generalizing n with
  | nil => rfl
  | cons e es ih => simp [renumber, ih]

theorem renumber_st (n : Word) (es : List BufEntry) : (renumber n es).1.map (·.st) = es.map (·.st) := by
  induction es generalizing n with
  | nil => rfl
  | cons e es ih => simp [renumber, ih]

/-- Slots enter the pool from the free ones and from those never used. -/
theorem takeFree_spec (n : Nat) (s : State) : ∃ p f g, takeFree n s =
      { s with bushel := { s.bushel with pool := p, freeSlots := f, fresh := g } } ∧
    p.length ≤ s.bushel.pool.length + n ∧
    ∀ k, k ∈ p → k ∈ s.bushel.pool ∨ k ∈ s.bushel.freeSlots ∨ (s.bushel.fresh ≤ k ∧ k < logSlots) := by
  induction n generalizing s with
  | zero => exact ⟨_, _, _, rfl, le_rfl, fun _ h => .inl h⟩
  | succ n ih =>
    unfold takeFree
    split
    · next x l hl =>
      obtain ⟨p, f, g, heq, hlen, hmem⟩ := ih { s with bushel.pool := s.bushel.pool ++ [x], bushel.freeSlots := l }
      refine ⟨p, f, g, heq, by simpa [Nat.add_assoc, Nat.add_comm 1] using hlen, fun k hk => ?_⟩
      have := hmem k hk
      simp only [List.mem_append, List.mem_singleton] at this
      rw [hl, List.mem_cons]
      tauto
    · split
      · next hfresh =>
        obtain ⟨p, f, g, heq, hlen, hmem⟩ :=
          ih { s with bushel.pool := s.bushel.pool ++ [s.bushel.fresh], bushel.fresh := s.bushel.fresh + 1 }
        refine ⟨p, f, g, heq, by simpa [Nat.add_assoc, Nat.add_comm 1] using hlen, fun k hk => ?_⟩
        have := hmem k hk
        simp only [List.mem_append, List.mem_singleton] at this
        obtain (h | rfl) | h | ⟨h, h'⟩ := this
        · exact .inl h
        · exact .inr (.inr ⟨le_rfl, hfresh⟩)
        · exact .inr (.inl h)
        · exact .inr (.inr ⟨by omega, h'⟩)
      · exact ⟨_, _, _, rfl, Nat.le_add_right .., fun _ h => .inl h⟩

/-- The records the scan finds, with their slots. -/
def State.found (s : State) : List (Nat × Rec) :=
  (List.range logSlots).filterMap (fun i => (scanSlot s i).map (fun r => (i, r)))

/-- The first slot behind those in use. -/
def highSlot (found : List (Nat × Rec)) : Nat := found.foldl (fun a p => max a (p.1 + 1)) 0

def nextAfter (serials : List Word) : Word :=
  let newest := match serials with
    | [] => (0 : Word)
    | x :: t => t.foldl (fun a b => if laterMC a b then b else a) x
  if serials.isEmpty then 1 else nextSerialOf newest

/-- The scan's result for the records found, before it fills the pool. -/
def scanIndexed (found : List (Nat × Rec)) (s : State) : State :=
  let bufN := renumber (nextAfter (found.map (fun p => p.2.serial))) s.bushel.buf
  let used := found.map (fun p => p.1)
  let lastMc (slot : Nat) : Word := (Config.freeWord (s.free + slot)).setWidth 32
  let sr := tornReport s
  let s0 := { sr with free := s.free + logSlots, bushel :=
      { sr.bushel with index := found.map (fun (p : Nat × Rec) =>
                        { slot := p.1, serial := p.2.serial, sev := p.2.sev, lastMc := lastMc p.1 }),
                       fresh := highSlot found,
                       freeSlots := (List.range (highSlot found)).filter (fun i => !used.contains i),
                       scanErr := s.tornSlots.length, scanDone := true, flushDue := false, pool := [], buf := bufN.1,
                       nextSerial := bufN.2 } }
  let s1 := { s0 with bushel.last := if s.bushel.buf.isEmpty || s.bushel.last.isSome then s0.lastFound else none }
  if s.sup.restorePend then
    restoreCounters (found.foldl (fun a p => max a p.2.pcc) 0)
      (found.foldl (fun a p => max a (p.2.opt + p.2.lastDopt)) 0) s1
  else s1

/-- The pool is filled, and a pool short of slots is to be restored. -/
def poolFill (s : State) : State :=
  let t := checkFull (takeFree 24 s)
  { t with bushel.poolDue := decide (t.bushel.pool.length < 24) }

/-- The slots that could not be read are noted. -/
def scanNoted (errs : Nat) (mc : Word) (s : State) : State :=
  if 0 < errs then
    deposit { typ := 10, sev := 4, source := 102, mc := mc, snap := w32 errs :: List.replicate 9 0 } (raise 102 s)
  else s

theorem bushelScan_eq (s : State) : bushelScan s =
    let t := scanNoted s.tornSlots.length s.chain.mc (poolFill (scanIndexed s.found s))
    if 1024 < s.tornSlots.length then logFail 3 t else if s.bushel.flushDue then flushPass t else t := by
  unfold bushelScan State.found
  generalize (List.range logSlots).filterMap _ = found
  rfl

/-- What the scan has found in s, once u holds it: the index and the pool, which fit each other. -/
structure Scanned (found : List (Nat × Rec)) (s u : State) : Prop where
  done : u.bushel.scanDone = true
  err : u.bushel.scanErr = s.tornSlots.length
  stored : u.stored = found.map (fun p => (p.1, p.2.serial, p.2.sev))
  few : u.bushel.pool.length ≤ 24
  free : ∀ k, k ∈ u.bushel.pool → k < logSlots ∧ k ∉ found.map (fun p => p.1)
  nvm : u.nvm = s.nvm
  buf : u.bushel.buf = (renumber (nextAfter (found.map (fun p => p.2.serial))) s.bushel.buf).1
  next : u.bushel.nextSerial = (renumber (nextAfter (found.map (fun p => p.2.serial))) s.bushel.buf).2

theorem fst_lt_highSlot (found : List (Nat × Rec)) : ∀ p, p ∈ found → p.1 < highSlot found := by
  have hmax : ∀ (l : List (Nat × Rec)) (a : Nat), a ≤ l.foldl (fun a p => max a (p.1 + 1)) a ∧
      ∀ p, p ∈ l → p.1 < l.foldl (fun a p => max a (p.1 + 1)) a := by
    intro l
    induction l with
    | nil => intro a; exact ⟨le_rfl, fun p hp => absurd hp List.not_mem_nil⟩
    | cons q l ih =>
      intro a
      obtain ⟨hle, hlt⟩ := ih (max a (q.1 + 1))
      refine ⟨(le_max_left ..).trans hle, fun p hp => ?_⟩
      obtain rfl | hp := List.mem_cons.mp hp
      · exact lt_of_lt_of_le (Nat.lt_succ_self _) ((le_max_right ..).trans hle)
      · exact hlt p hp
  exact (hmax found 0).2

theorem highSlot_le {found : List (Nat × Rec)} {n : Nat} (h : ∀ p, p ∈ found → p.1 < n) : highSlot found ≤ n := by
  refine List.foldlRecOn (motive := fun a => a ≤ n) _ _ (Nat.zero_le n) fun a ha p hp => max_le ha (h p hp)

/-- What the scan's result is once t holds it, the pool still empty. -/
structure Indexed (found : List (Nat × Rec)) (s t : State) : Prop where
  done : t.bushel.scanDone = true
  err : t.bushel.scanErr = s.tornSlots.length
  stored : t.stored = found.map (fun p => (p.1, p.2.serial, p.2.sev))
  fresh : t.bushel.fresh = highSlot found
  free : t.bushel.freeSlots = (List.range (highSlot found)).filter (fun i => !(found.map (fun p => p.1)).contains i)
  pool : t.bushel.pool = []
  buf : t.bushel.buf = (renumber (nextAfter (found.map (fun p => p.2.serial))) s.bushel.buf).1
  next : t.bushel.nextSerial = (renumber (nextAfter (found.map (fun p => p.2.serial))) s.bushel.buf).2
  nvm : t.nvm = s.nvm
  evt : t.evt = (tornReport s).evt

theorem scanIndexed_indexed (found : List (Nat × Rec)) (s : State) : Indexed found s (scanIndexed found s) := by
  have hstore : (tornReport s).nvm = s.nvm := (tornReport_store s).1
  unfold scanIndexed
  extract_lets bufN used lastMc sr b s0 b1 s1
  have h1 : Indexed found s s1 :=
    ⟨rfl, rfl, List.map_map, rfl, rfl, rfl, rfl, rfl, hstore, rfl⟩
  clear_value s1
  split
  · obtain ⟨hd, he, hs, hfr, hf, hp, hb, hn, hv, hev⟩ := h1
    exact ⟨hd, he, hs, hfr, hf, hp, hb, hn, hv, hev⟩
  · exact h1

theorem scanNoted_posts (errs : Nat) (mc : Word) (s : State) : Posts s (scanNoted errs mc s) := by
  unfold scanNoted
  split
  · exact (raise_posts ..).trans (deposit_posts ..)
  · exact .refl s

theorem scanNoted_raised {errs : Nat} (mc : Word) (s : State) (h : 0 < errs) : (scanNoted errs mc s).raised 102 := by
  rw [scanNoted, if_pos h]
  exact deposit_raised_of (raise_raised s (by decide))

/-- What neither the filling of the pool nor a note changes of the scan's result. -/
structure SameScan (s t : State) : Prop where
  raised : ∀ k, s.raised k → t.raised k
  done : t.bushel.scanDone = s.bushel.scanDone
  err : t.bushel.scanErr = s.bushel.scanErr
  stored : t.stored = s.stored
  nvm : t.nvm = s.nvm
  buf : t.bushel.buf = s.bushel.buf
  next : t.bushel.nextSerial = s.bushel.nextSerial

theorem Posts.sameScan {s t : State} (h : Posts s t) : SameScan s t := by
  obtain ⟨hr, _, _, _, _, rfl⟩ := h
  exact ⟨hr, rfl, rfl, rfl, rfl, rfl, rfl⟩

theorem SameScan.trans {s t u : State} (h : SameScan s t) (g : SameScan t u) : SameScan s u :=
  ⟨fun k hk => g.raised k (h.raised k hk), g.done.trans h.done, g.err.trans h.err, g.stored.trans h.stored,
    g.nvm.trans h.nvm, g.buf.trans h.buf, g.next.trans h.next⟩

theorem poolFill_spec (s : State) : SameScan s (poolFill s) ∧
    (poolFill s).sup = s.sup ∧ (poolFill s).backup = s.backup ∧
    (poolFill s).bushel.pool.length ≤ s.bushel.pool.length + 24 ∧
    (∀ k, k ∈ (poolFill s).bushel.pool →
      k ∈ s.bushel.pool ∨ k ∈ s.bushel.freeSlots ∨ (s.bushel.fresh ≤ k ∧ k < logSlots)) ∧
    ((poolFill s).bushel.logFull = false → ∃ p f g d, poolFill s =
      { s with bushel := { s.bushel with pool := p, freeSlots := f, fresh := g, poolDue := d } }) := by
  obtain ⟨p, f, g, heq, hlen, hmem⟩ := takeFree_spec 24 s
  obtain ⟨o, hpost, hquiet⟩ := checkFull_spec (takeFree 24 s)
  unfold poolFill
  rw [heq] at hpost hquiet ⊢
  obtain ⟨hr, e, r, d, m, ht⟩ := hpost
  refine ⟨?_, by rw [ht], by rw [ht], by rwa [ht], by rwa [ht], fun hfull => ?_⟩
  · rw [ht] at hr ⊢
    exact ⟨hr, rfl, rfl, rfl, rfl, rfl, rfl⟩
  · rw [ht] at hfull
    rw [hquiet hfull]
    exact ⟨p, f, g, _, rfl⟩

/-- The scan once its pool is filled and its errors are noted. -/
def scanPosted (found : List (Nat × Rec)) (s : State) : State :=
  scanNoted s.tornSlots.length s.chain.mc (poolFill (scanIndexed found s))

theorem scanPosted_same (found : List (Nat × Rec)) (s : State) :
    SameScan (scanIndexed found s) (scanPosted found s) :=
  (poolFill_spec _).1.trans (scanNoted_posts ..).sameScan

theorem scanPosted_pool (found : List (Nat × Rec)) (s : State) :
    (scanPosted found s).bushel.pool = (poolFill (scanIndexed found s)).bushel.pool := by
  obtain ⟨-, e, r, d, m, h⟩ := scanNoted_posts s.tornSlots.length s.chain.mc (poolFill (scanIndexed found s))
  rw [scanPosted, h]

theorem scanPosted_scanned {found : List (Nat × Rec)} (s : State) (hf : ∀ p, p ∈ found → p.1 < logSlots) :
    Scanned found s (scanPosted found s) := by
  have hi := scanIndexed_indexed found s
  have hs := scanPosted_same found s
  obtain ⟨-, -, -, hlen, hmem, -⟩ := poolFill_spec (scanIndexed found s)
  refine ⟨hs.done.trans hi.done, hs.err.trans hi.err, hs.stored.trans hi.stored, ?_, fun k hk => ?_, hs.nvm.trans hi.nvm,
    hs.buf.trans hi.buf, hs.next.trans hi.next⟩
  · rw [scanPosted_pool]
    simpa [hi.pool] using hlen
  · rw [scanPosted_pool] at hk
    obtain h | h | ⟨h, h'⟩ := hmem k hk
    · exact absurd (hi.pool ▸ h) List.not_mem_nil
    · obtain ⟨hk, hu⟩ := List.mem_filter.mp (hi.free ▸ h)
      exact ⟨(List.mem_range.mp hk).trans_le (highSlot_le hf), by simpa using hu⟩
    · refine ⟨h', fun hu => ?_⟩
      obtain ⟨q, hq, rfl⟩ := List.mem_map.mp hu
      exact absurd (fst_lt_highSlot found q hq) (Nat.not_lt.mpr (hi.fresh ▸ h))

/-- A slot that cannot be read raises the log's source and the memory's. -/
theorem scanPosted_raised {found : List (Nat × Rec)} {s : State} (h : 0 < s.tornSlots.length) :
    (scanPosted found s).raised 102 ∧ (scanPosted found s).raised 123 := by
  have htorn : (tornReport s).raised 123 := (foldl_memUncorrectable 8 s.tornSlots s).2.1 (List.length_pos_iff.mp h)
  refine ⟨scanNoted_raised _ _ h, (scanPosted_same found s).raised 123 ?_⟩
  rw [State.raised, (scanIndexed_indexed found s).evt]
  exact htorn

/-- Without an error, and with room in the log, the scan posts nothing. -/
theorem scanPosted_quiet {found : List (Nat × Rec)} {s : State} (h : s.tornSlots.length = 0)
    (hfull : (scanPosted found s).bushel.logFull = false) :
    (scanPosted found s).bushel.ring = s.bushel.ring ∧ (scanPosted found s).bushel.flushes = s.bushel.flushes ∧
    (scanPosted found s).bushel.closed = s.bushel.closed ∧ (scanPosted found s).bushel.summaryMode = s.bushel.summaryMode ∧
    (scanPosted found s).chain = s.chain := by
  have hn : scanPosted found s = poolFill (scanIndexed found s) := by rw [scanPosted, scanNoted, if_neg (by omega)]
  have htorn : tornReport s = s := by
    rw [tornReport, List.eq_nil_of_length_eq_zero h]
    rfl
  rw [hn] at hfull ⊢
  obtain ⟨-, -, -, -, -, hquiet⟩ := poolFill_spec (scanIndexed found s)
  obtain ⟨p, f, g, d, heq⟩ := hquiet hfull
  rw [heq]
  unfold scanIndexed
  rw [htorn]
  dsimp only
  split <;> exact ⟨rfl, rfl, rfl, rfl, rfl⟩

/-! ## The flush that has waited for the scan (R405) -/

/-- A flush with a record that is not yet queued counts, whatever the pool has left. -/
theorem flush_of_unqueued {s : State} (hc : s.bushel.closed = false) (hm : s.bushel.summaryMode = false)
    (hd : s.bushel.scanDone = true) (hu : ∃ e ∈ s.bushel.buf, e.st = .unqueued) :
    (flush s).bushel.buf.length = s.bushel.buf.length ∧ (flush s).bushel.flushes = (s.bushel.flushes + 1) % 2 ^ 32 ∧
    (flush s).bushel.lastFlushMc = s.chain.mc := by
  have hall : s.bushel.buf.all (fun e => e.st == .queued) = false := by
    obtain ⟨e, he, hst⟩ := hu
    exact List.all_eq_false.mpr ⟨e, he, by simp [hst]⟩
  obtain ⟨hlen, p, n, hs, -⟩ := flushLoop_frame s.bushel.buf s
  simp only [flush, hc, hm, hd, hall, flushQueue, hs]
  exact ⟨hlen, rfl, rfl⟩

theorem serveRing_of_nil {s : State} (h : s.bushel.ring = []) : serveRing s = s := by
  unfold serveRing
  split
  · rfl
  · rw [h]
    exact congrArg (fun r => { s with bushel := { s.bushel with ring := r } }) h.symm

theorem flushPass_of_nil {s : State} (h : s.bushel.ring = []) : flushPass s = flush s := by
  unfold flushPass
  split
  · rfl
  · rw [serveRing_of_nil h]

/-! ## The records found (R402, R410) -/

theorem reads_length (d : Nat → Byte) (m : Memory) (a n : Nat) : (m.reads d a n).length = n := by
  induction n generalizing a with
  | zero => rfl
  | succ n ih => simp [Memory.reads, ih]

theorem getLe_append {b c : List Byte} {o n : Nat} (h : o + n ≤ b.length) : getLe (b ++ c) o n = getLe b o n := by
  unfold getLe slice
  rw [List.drop_append_of_le_length (by omega), List.take_append_of_le_length (by simp; omega)]

/-- A slot holds a record when its codeword 0 can be read and has a serial. -/
theorem scanSlot_eq_some (s : State) (slot : Nat) (serial : Word) (sev : Nat) :
    (∃ r, scanSlot s slot = some r ∧ r.serial = serial ∧ r.sev = sev) ↔ s.nvm.bad.contains (1, 2 * slot) = false ∧
      getW (nvRead s.nvm 1 (64 * slot) 32) 0 ≠ 0 ∧ serial = w32 (getW (nvRead s.nvm 1 (64 * slot) 32) 0) ∧
      sev = getB (nvRead s.nvm 1 (64 * slot) 32) 5 % 8 := by
  have hlen : (nvRead s.nvm 1 (64 * slot) 32).length = 32 := reads_length ..
  have hser : getW (nvRead s.nvm 1 (64 * slot) 32 ++ zeros 32) 0 = getW (nvRead s.nvm 1 (64 * slot) 32) 0 :=
    getLe_append (by omega)
  have hsev : getB (nvRead s.nvm 1 (64 * slot) 32 ++ zeros 32) 5 = getB (nvRead s.nvm 1 (64 * slot) 32) 5 :=
    getLe_append (by omega)
  by_cases hbad : s.nvm.bad.contains (1, 2 * slot) = true
  · simp only [scanSlot, hbad, if_true]
    simp
  · by_cases h0 : getW (nvRead s.nvm 1 (64 * slot) 32) 0 = 0
    · simp only [scanSlot, hbad, h0, if_true]
      simp
    · simp only [scanSlot, hbad, h0]
      simp [Rec.ofBytes, hser, hsev, eq_comm, Ne.symm h0]

theorem mem_found (s : State) (slot : Nat) (serial : Word) (sev : Nat) :
    (slot, serial, sev) ∈ s.found.map (fun p => (p.1, p.2.serial, p.2.sev)) ↔
      slot < logSlots ∧ ∃ r, scanSlot s slot = some r ∧ r.serial = serial ∧ r.sev = sev := by
  unfold State.found
  generalize logSlots = n
  simp only [List.mem_map, List.mem_filterMap, List.mem_range, Option.map_eq_some_iff, Prod.exists, Prod.mk.injEq]
  constructor
  · rintro ⟨i, r, ⟨j, hj, r', hr, rfl, rfl⟩, rfl, hs, hv⟩
    exact ⟨hj, r', hr, hs, hv⟩
  · rintro ⟨hi, r, hr, hs, hv⟩
    exact ⟨slot, r, ⟨slot, hi, r, hr, rfl, rfl⟩, rfl, hs, hv⟩

theorem found_lt (s : State) : ∀ p, p ∈ s.found → p.1 < logSlots := by
  unfold State.found
  generalize logSlots = n
  intro p hp
  simp only [List.mem_filterMap, List.mem_range, Option.map_eq_some_iff] at hp
  obtain ⟨i, hi, r, -, rfl⟩ := hp
  exact hi

theorem mem_stored (s : State) (slot : Nat) (serial : Word) (sev : Nat) :
    (slot, serial, sev) ∈ s.stored ↔ ∃ e ∈ s.bushel.index, e.slot = slot ∧ e.serial = serial ∧ e.sev = sev := by
  simp [State.stored]

/-- The scan that runs in the device's operation: what it found, noted, and the flush that waited for it. -/
theorem exec_bushelScan {s : State} (ha : s.alive = true) (hd : s.bushel.scanDone = false) (hm : s.bushel.summaryMode = false)
    (hc : s.bushel.closed = false) (hn : s.tornSlots.length ≤ 1024) :
    exec .bushelScan s = .next (if s.bushel.flushDue = true then flushPass (scanPosted s.found s) else scanPosted s.found s) := by
  have hph : s.sup.phase ≠ .scanning := fun h => by simp [State.alive, h] at ha
  have hx : exec .bushelScan s = execBushelScan s := rfl
  have hcond : (s.alive && !s.bushel.scanDone && !s.bushel.summaryMode && !s.bushel.closed) = true := by simp [ha, hd, hm, hc]
  have hfew : ¬ 1024 < s.tornSlots.length := by omega
  rw [hx, execBushelScan, if_neg hph, if_pos hcond, bushelScan_eq, if_neg hfew]
  rfl

theorem scanned_keeps {s : State} : ∃ t, (if s.bushel.flushDue = true then flushPass (scanPosted s.found s)
      else scanPosted s.found s) = t ∧ KeepsScan (scanPosted s.found s) t := by
  refine ⟨_, rfl, ?_⟩
  split
  · exact flushPass_keepsScan _
  · exact .refl _

/-- The index lists the records that can be read, and no slot of the pool is among them. -/
theorem scanned_index {s t : State} (hk : KeepsScan (scanPosted s.found s) t) (slot : Nat) (serial : Word) (sev : Nat) :
    (∃ e ∈ t.bushel.index, e.slot = slot ∧ e.serial = serial ∧ e.sev = sev) ↔
      slot < logSlots ∧ s.nvm.bad.contains (1, 2 * slot) = false ∧
      getW (nvRead s.nvm 1 (64 * slot) 32) 0 ≠ 0 ∧ serial = w32 (getW (nvRead s.nvm 1 (64 * slot) 32) 0) ∧
      sev = getB (nvRead s.nvm 1 (64 * slot) 32) 5 % 8 := by
  have hsc := scanPosted_scanned s (found_lt s)
  rw [← mem_stored, hk.stored, hsc.stored, mem_found, scanSlot_eq_some]

theorem scanned_pool {s t : State} (hk : KeepsScan (scanPosted s.found s) t) : t.bushel.pool.length ≤ 24 ∧
    ∀ k, k ∈ t.bushel.pool → k < logSlots ∧ ∀ e, e ∈ t.bushel.index → e.slot ≠ k := by
  have hsc := scanPosted_scanned s (found_lt s)
  refine ⟨hk.pool.length_le.trans hsc.few, fun k hkp => ?_⟩
  obtain ⟨hlt, hfree⟩ := hsc.free k (hk.pool.subset hkp)
  refine ⟨hlt, fun e he heq => hfree ?_⟩
  have hst : (e.slot, e.serial, e.sev) ∈ t.stored := (mem_stored ..).mpr ⟨e, he, rfl, rfl, rfl⟩
  rw [hk.stored, hsc.stored] at hst
  obtain ⟨p, hp, hpe⟩ := List.mem_map.mp hst
  exact List.mem_map.mpr ⟨p, hp, (congrArg Prod.fst hpe).trans heq⟩

/-- A flush triggered before the scan's end begins after it, when the scan itself has posted nothing. -/
theorem scanned_flush {s : State} (hm : s.bushel.summaryMode = false) (hc : s.bushel.closed = false)
    (hr : s.bushel.ring = []) (herr : s.tornSlots.length = 0)
    (hfull : (flushPass (scanPosted s.found s)).bushel.logFull = false) (hu : ∃ e ∈ s.bushel.buf, e.st = .unqueued) :
    (flushPass (scanPosted s.found s)).bushel.buf.length = s.bushel.buf.length ∧
    (flushPass (scanPosted s.found s)).bushel.flushes = (s.bushel.flushes + 1) % 2 ^ 32 ∧
    (flushPass (scanPosted s.found s)).bushel.lastFlushMc = s.chain.mc := by
  have hsc := scanPosted_scanned s (found_lt s)
  have hu' : ∃ e ∈ (scanPosted s.found s).bushel.buf, e.st = .unqueued := by
    have hst : BufSt.unqueued ∈ (scanPosted s.found s).bushel.buf.map (·.st) := by
      rw [hsc.buf, renumber_st]
      exact List.mem_map.mpr hu
    exact List.mem_map.mp hst
  rw [(flushPass_keepsScan _).full] at hfull
  obtain ⟨hring, hfl, hclosed, hsum, hmc⟩ := scanPosted_quiet herr hfull
  obtain ⟨hlen, hcount, hlast⟩ := flush_of_unqueued (hclosed.trans hc) (hsum.trans hm) hsc.done hu'
  rw [flushPass_of_nil (hring.trans hr)]
  refine ⟨?_, ?_, ?_⟩
  · rw [hlen, hsc.buf, renumber_length]
  · rw [hcount, hfl]
  · rw [hlast, hmc]

/-! ## The timers of summary mode (R413, R416, R493) -/

theorem execSummaryWriteTimer_due {s : State} (ha : s.alive = true) (hm : s.bushel.summaryMode = true)
    (hd : s.secMc 60 ≤ s.mcSince s.bushel.lastSumMc) :
    exec .summaryWriteTimer s = .next (sumWrite s) := by
  have hx : exec .summaryWriteTimer s = execSummaryWriteTimer s := rfl
  rw [hx, execSummaryWriteTimer, ha, hm, decide_eq_true hd]
  rfl

/-- The operation that writes the next summary to the older copy, its head last. -/
def summaryOp (s : State) : NvOp :=
  let copy := if s.bushel.sum.copy = some 0 then 1 else 0
  let image := nvCws s.nvm 0 (nvSumBase + 2048 * copy) (sumBytes { s.bushel.sum with seq := s.bushel.sum.seq + 1 } 1)
  { job := .summary copy, cws := image.drop 1 ++ image.take 1 }

theorem sumWrite_free {s : State} (hc : s.bushel.closed = false) (hb : nvBusy s.nvm 1 = false) :
    sumWrite s = { s with
      bushel := { s.bushel with
        sum := { s.bushel.sum with seq := s.bushel.sum.seq + 1 }, lastSumMc := s.chain.mc, sumDue := false },
      nvm := { s.nvm with queue := upd s.nvm.queue 1 (fun q => q ++ [summaryOp s]) } } := by
  have hcopy : (match s.bushel.sum.copy with | some 0 => 1 | _ => 0) = if s.bushel.sum.copy = some 0 then 1 else 0 := by
    split
    · next h => rw [if_pos h]
    · next h => rw [if_neg h]
  have hb' : nvBusy ({ s with bushel.lastSumMc := s.chain.mc } : State).nvm 1 = false := hb
  rw [sumWrite, if_neg (by simp [hc])]
  simp only [hb']
  unfold summaryOp
  rw [← hcopy]
  rfl

theorem sumWrite_busy {s : State} (hc : s.bushel.closed = false) (hb : nvBusy s.nvm 1 = true) :
    sumWrite s = { s with bushel := { s.bushel with lastSumMc := s.chain.mc, sumDue := true } } := by
  have hb' : nvBusy ({ s with bushel.lastSumMc := s.chain.mc } : State).nvm 1 = true := hb
  simp [sumWrite, hc, hb']

/-- The extremes once a value has been sampled. -/
def sampleExtreme (e : Extreme) (v : Int) (opt : Nat) : Extreme :=
  let e1 := if v < e.min then { e with min := v, minOpt := opt } else e
  if e1.max < v then { e1 with max := v, maxOpt := opt } else e1

theorem sampleExtreme_spec (e : Extreme) (v : Int) (opt : Nat) : (sampleExtreme e v opt).min = min v e.min ∧
    (sampleExtreme e v opt).max = max v e.max ∧ (v < e.min → (sampleExtreme e v opt).minOpt = opt) := by
  unfold sampleExtreme
  by_cases hmin : v < e.min <;> by_cases hmax : e.max < v <;> simp [hmin, hmax] <;> omega

/-- What a histogram sample makes of a channel's counts and extremes. -/
def State.histCell (s : State) (k : Nat) (h : List Nat) (e : Extreme) : List Nat × Extreme :=
  if s.cb .snap k 5 31 && s.cb .snap k 7 31 then
    let v := (s.signal (s.snapSig k 0)).toInt
    let j := histBin v (sext 16 (s.cf .snap k 7 15 0)) (s.cf .snap k 7 30 26)
    (upd h j (incSat 32), sampleExtreme e v s.backup.opt.toNat)
  else (h, e)

/-- The state with other histograms. -/
def State.withHist (s : State) (hist : List (List Nat)) (ext : List Extreme) : State :=
  { s with bushel.sum := { s.bushel.sum with hist := hist, ext := ext } }

/-- A sample of one channel leaves the other channels' histograms. -/
theorem histSample_withHist (s : State) (k : Nat) (hist : List (List Nat)) (ext : List Extreme)
    (hh : k < hist.length) (he : k < ext.length) : ∃ hist' ext', histSample k (s.withHist hist ext) = s.withHist hist' ext' ∧
      hist'.length = hist.length ∧ ext'.length = ext.length ∧
      (nth hist' k, nth ext' k) = s.histCell k (nth hist k) (nth ext k) ∧
      ∀ j, j ≠ k → nth hist' j = nth hist j ∧ nth ext' j = nth ext j := by
  by_cases hc : (s.cb .snap k 5 31 && s.cb .snap k 7 31) = true
  · have hx : histSample k (s.withHist hist ext) = s.withHist
        (upd hist k (fun h => (s.histCell k h (nth ext k)).1)) (ext.set k (s.histCell k (nth hist k) (nth ext k)).2) := by
      have hc' : ((s.withHist hist ext).cb .snap k 5 31 && (s.withHist hist ext).cb .snap k 7 31) = true := hc
      unfold histSample State.histCell
      rw [if_pos hc']
      simp only [hc, if_true]
      rfl
    refine ⟨_, _, hx, by simp [upd], by simp, ?_, fun j hj => ⟨nth_upd_ne _ _ _ _ hj, nth_set_ne _ _ _ _ hj⟩⟩
    rw [nth_upd_self _ _ _ hh, nth_set_self _ _ _ he]
  · have hc' : ¬ ((s.withHist hist ext).cb .snap k 5 31 && (s.withHist hist ext).cb .snap k 7 31) = true := hc
    refine ⟨hist, ext, ?_, rfl, rfl, ?_, fun j _ => ⟨rfl, rfl⟩⟩
    · rw [histSample, if_neg hc']
    · rw [State.histCell, if_neg hc]

theorem foldl_histSample (s : State) (hh : s.bushel.sum.hist.length = 16) (he : s.bushel.sum.ext.length = 16) (n : Nat)
    (hn : n ≤ 16) : ∃ hist ext, (List.range n).foldl (fun a k => histSample k a) s = s.withHist hist ext ∧
      hist.length = 16 ∧ ext.length = 16 ∧
      (∀ k, k < n → (nth hist k, nth ext k) = s.histCell k (nth s.bushel.sum.hist k) (nth s.bushel.sum.ext k)) ∧
      ∀ k, n ≤ k → nth hist k = nth s.bushel.sum.hist k ∧ nth ext k = nth s.bushel.sum.ext k := by
  induction n with
  | zero => exact ⟨_, _, rfl, hh, he, fun k hk => absurd hk (Nat.not_lt_zero k), fun _ _ => ⟨rfl, rfl⟩⟩
  | succ n ih =>
    obtain ⟨hist, ext, heq, hlen, elen, hdone, htodo⟩ := ih (by omega)
    obtain ⟨hist', ext', hstep, hlen', elen', hcell, hother⟩ :=
      histSample_withHist s n hist ext (by omega) (by omega)
    refine ⟨hist', ext', ?_, hlen'.trans hlen, elen'.trans elen, fun k hk => ?_, fun k hk => ?_⟩
    · rw [List.range_succ, List.foldl_append, heq]
      exact hstep
    · obtain hlt | rfl := Nat.lt_succ_iff_lt_or_eq.mp hk
      · obtain ⟨h1, h2⟩ := hother k (by omega)
        rw [h1, h2]
        exact hdone k hlt
      · obtain ⟨h1, h2⟩ := htodo k le_rfl
        rw [hcell, h1, h2]
    · obtain ⟨h1, h2⟩ := hother k (by omega)
      obtain ⟨g1, g2⟩ := htodo k (by omega)
      exact ⟨h1.trans g1, h2.trans g2⟩

theorem histBin_eq (v lo : Int) (shift : Nat) :
    histBin v lo shift = (max 0 (min 15 (Int.fdiv (v - lo * 65536) (2 ^ shift)))).toNat := by
  unfold histBin clampI
  generalize Int.fdiv (v - lo * 65536) (2 ^ shift) = x
  congr 1
  split
  · omega
  · split <;> omega

/-- A channel that is sampled counts the bin of its value, and keeps the least and the greatest; another keeps its own. -/
theorem histCell_spec {s : State} {k : Nat} {l l' : List Nat} {e e' : Extreme} (h : (l', e') = s.histCell k l e) :
    let v := (s.signal (s.snapSig k 0)).toInt
    let bin := (max 0 (min 15 (Int.fdiv (v - sext 16 (s.cf .snap k 7 15 0) * 65536) (2 ^ s.cf .snap k 7 30 26)))).toNat
    if s.cb .snap k 5 31 = true ∧ s.cb .snap k 7 31 = true then
      l' = upd l bin (incSat 32) ∧ e'.min = min v e.min ∧ e'.max = max v e.max ∧ (v < e.min → e'.minOpt = s.backup.opt.toNat)
    else l' = l ∧ e' = e := by
  intro v bin
  have hbin : histBin v (sext 16 (s.cf .snap k 7 15 0)) (s.cf .snap k 7 30 26) = bin := histBin_eq ..
  split
  · next hon =>
    have hc : (s.cb .snap k 5 31 && s.cb .snap k 7 31) = true := by simpa using hon
    rw [State.histCell, if_pos hc] at h
    obtain ⟨rfl, rfl⟩ := Prod.mk.inj h
    exact ⟨congrArg (fun b => upd l b (incSat 32)) hbin, sampleExtreme_spec ..⟩
  · next hoff =>
    rw [State.histCell, if_neg (by simpa using hoff)] at h
    exact Prod.mk.inj h

theorem execHistogramSample_due {s : State} (ha : s.alive = true) (hm : s.bushel.summaryMode = true)
    (hd : s.secMc 1 ≤ s.mcSince s.bushel.lastHistMc) : exec .histogramSample s =
      .next { (List.range 16).foldl (fun a k => histSample k a) s with bushel.lastHistMc := s.chain.mc } := by
  have hx : exec .histogramSample s = execHistogramSample s := rfl
  rw [hx, execHistogramSample, ha, hm, decide_eq_true hd]
  rfl

/-- Settles O52: the scan and the services behind it keep what was found; the timers of summary mode write a summary and sample the histograms. -/
theorem scanAndSummary : Obligations.ScanAndSummary := by
  unfold Obligations.ScanAndSummary
  refine ⟨fun s ha hd hm hc htorn => ?_, fun s ha hm => ⟨fun hdue hc => ⟨fun hfree => ?_, fun hbusy => ?_⟩, fun hdue hh he => ?_⟩⟩
  · change s.tornSlots.length ≤ 1024 at htorn
    obtain ⟨t, ht, hk⟩ := scanned_keeps (s := s)
    have hsc := scanPosted_scanned s (found_lt s)
    have hx := exec_bushelScan ha hd hm hc htorn
    rw [ht] at hx
    have herr : t.bushel.scanErr = s.tornSlots.length := hk.err.trans hsc.err
    have hbanks : KeepsCells (scanPosted s.found s) t := by
      rw [← ht]
      split
      · exact flushPass_cells _
      · exact ⟨rfl, rfl, rfl, rfl⟩
    obtain ⟨h0, h1, -⟩ := hbanks
    obtain ⟨hfew, hpool⟩ := scanned_pool hk
    refine ⟨t, hx, hk.done.trans hsc.done, herr, scanned_index hk, hfew, hpool, fun hpos => ?_, ?_, ?_, fun hfl => ?_,
      fun hfl hr hno hfull hu => ?_⟩
    · obtain ⟨r1, r2⟩ := scanPosted_raised (found := s.found) (herr ▸ hpos)
      exact ⟨hk.raised _ r1, hk.raised _ r2⟩
    · rw [h0, hsc.nvm]
    · rw [h1, hsc.nvm]
    · rw [if_neg (by simp [hfl])] at ht
      subst ht
      refine ⟨hsc.nvm, by rw [hsc.buf, renumber_length], fun hidx hbuf => ?_⟩
      have hnil : s.found = [] := by
        have hst := hsc.stored
        rw [State.stored, hidx] at hst
        exact List.map_eq_nil_iff.mp hst.symm
      rw [hsc.next, hnil, hbuf]
      rfl
    · rw [if_pos hfl] at ht
      subst ht
      exact scanned_flush hm hc hr (herr.symm.trans hno) hfull hu
  · rw [execSummaryWriteTimer_due ha hm hdue]
    exact ⟨sumWrite s, summaryOp s, rfl, rfl, rfl, sumWrite_free hc hfree⟩
  · rw [execSummaryWriteTimer_due ha hm hdue, sumWrite_busy hc hbusy]
  · obtain ⟨hist, ext, heq, -, -, hcell, -⟩ := foldl_histSample s hh he 16 le_rfl
    refine ⟨_, execHistogramSample_due ha hm hdue, rfl, fun k hk => ?_, ?_⟩
    · rw [heq]
      exact histCell_spec (hcell k hk)
    · rw [heq]
      rfl

end Sys2Proof.Machine

namespace Sys2Proof.Machine

/-! PROOFS. The end of the scan that start-up waited for, and the release of the control path. -/

/-! ## What start-up keeps of the scan's result (R423, R435) -/

/-- The scan has ended, the counts of the backup domain and whether they are restored: as in s. -/
structure Boots (s t : State) : Prop where
  done : t.bushel.scanDone = s.bushel.scanDone
  pend : t.sup.restorePend = s.sup.restorePend
  restored : t.sup.optRestored = s.sup.optRestored
  pcc : t.backup.pcc = s.backup.pcc
  opt : t.backup.opt = s.backup.opt

theorem Boots.refl (s : State) : Boots s s := ⟨rfl, rfl, rfl, rfl, rfl⟩

theorem Boots.trans {s t u : State} (h : Boots s t) (g : Boots t u) : Boots s u :=
  ⟨g.done.trans h.done, g.pend.trans h.pend, g.restored.trans h.restored, g.pcc.trans h.pcc, g.opt.trans h.opt⟩

/-- A field that this frame leaves free may change first. -/
theorem Boots.after {s s' t : State} (h : Boots s' t) (hd : s'.bushel.scanDone = s.bushel.scanDone)
    (hp : s'.sup.restorePend = s.sup.restorePend) (hr : s'.sup.optRestored = s.sup.optRestored)
    (hc : s'.backup.pcc = s.backup.pcc) (ho : s'.backup.opt = s.backup.opt) : Boots s t :=
  .trans ⟨hd, hp, hr, hc, ho⟩ h

theorem Posts.boots {s t : State} (h : Posts s t) : Boots s t := by
  obtain ⟨-, _, _, _, _, rfl⟩ := h
  exact ⟨rfl, rfl, rfl, rfl, rfl⟩

theorem Boots.foldl {α : Type} {l : List α} {f : State → α → State} (h : ∀ s a, Boots s (f s a)) (s : State) :
    Boots s (l.foldl f s) :=
  List.foldlRecOn (motive := fun t : State => Boots s t) _ _ (.refl s) fun t ht a _ => ht.trans (h t a)

theorem memUncorrectable_boots (mem : Nat) (s : State) : Boots s (memUncorrectable mem s) := by
  have hc : Boots s { s with clk.uncorrectable := upd s.clk.uncorrectable (mem - 1) (incSat 32) } := ⟨rfl, rfl, rfl, rfl, rfl⟩
  exact hc.trans ((raiseWith_posts ..).trans (deposit_posts ..)).boots

theorem bankReport_boots (b : Nat) (s : State) : Boots s (bankReport b s) := .foldl (fun s _ => memUncorrectable_boots 7 s) s

theorem nvReport_boots (bank a len : Nat) (s : State) : Boots s (nvReport bank a len s) :=
  .foldl (fun s _ => memUncorrectable_boots 8 s) s

theorem report_boots (src typ sev inst : Nat) (s : State) : Boots s (report src typ sev inst s) := (report_posts ..).boots

theorem trialFail_boots (s : State) : Boots s (trialFail mgtStoreNow s) := by
  unfold trialFail
  extract_lets b mr m s1
  have h1 : Boots s (bootFault b 7 (mgtStoreNow s1)) := ⟨rfl, rfl, rfl, rfl, rfl⟩
  exact h1.trans (report_boots ..)

theorem trialBootCheck_boots (s : State) : Boots s (trialBootCheck s) := by
  unfold trialBootCheck
  split
  · exact trialFail_boots s
  · exact .refl s

theorem trialBootCount_boots (s : State) : Boots s (trialBootCount s) := by
  unfold trialBootCount
  extract_lets mr
  split
  · exact ⟨rfl, rfl, rfl, rfl, rfl⟩
  · exact .refl s

theorem bootOther_boots (failed reason : Nat) (s : State) : Boots s (bootOther failed reason s).2 ∧
    ∀ t, (bootOther failed reason s).1 = some t → Boots s t := by
  unfold bootOther
  extract_lets b s1
  have h1 : Boots s s1 := ⟨rfl, rfl, rfl, rfl, rfl⟩
  split
  · exact ⟨h1, fun t ht => absurd ht (by simp)⟩
  · split
    · exact ⟨(bankReport_boots b s).trans ⟨rfl, rfl, rfl, rfl, rfl⟩, fun t ht => absurd ht (by simp)⟩
    · refine ⟨h1, fun t ht => ?_⟩
      obtain rfl := Option.some.inj ht
      split
      · exact h1
      · exact h1.trans ⟨rfl, rfl, rfl, rfl, rfl⟩

theorem bankBoot_boots (s : State) : Boots s (bankBoot s).2 ∧ ∀ t, (bankBoot s).1 = some t → Boots s t := by
  unfold bankBoot
  extract_lets s1 a s2
  have h2 : Boots s s2 := (trialBootCheck_boots s).trans (bankReport_boots a s1)
  split
  · exact ⟨h2, fun t ht => Option.some.inj ht ▸ h2.trans (trialBootCount_boots s2)⟩
  · next k _ =>
    obtain ⟨hr, hok⟩ := bootOther_boots a (contReason k) s2
    split
    · extract_lets r
      split
      · next t ht =>
        refine ⟨h2.trans hr, fun u hu => ?_⟩
        obtain rfl := Option.some.inj hu
        exact (h2.trans (hok t ht)).trans ((trialFail_boots _).after rfl rfl rfl rfl rfl)
      · exact ⟨(h2.trans hr).trans (trialFail_boots _), fun t ht => absurd ht (by simp)⟩
    · exact ⟨h2.trans hr, fun t ht => h2.trans (hok t ht)⟩

theorem cfgBoot_boots (s : State) : Boots s (cfgBoot s) := by
  unfold cfgBoot
  extract_lets s1 seq
  have h1 : Boots s s1 := (nvReport_boots ..).trans (nvReport_boots ..)
  clear_value s1
  split
  · split <;> exact h1.trans ⟨rfl, rfl, rfl, rfl, rfl⟩
  · exact h1.trans ⟨rfl, rfl, rfl, rfl, rfl⟩
  · exact h1.trans ⟨rfl, rfl, rfl, rfl, rfl⟩
  · refine .trans ?_ (raise_posts ..).boots
    exact h1.trans ⟨rfl, rfl, rfl, rfl, rfl⟩

theorem retriesLoad_boots (s : State) : Boots s (retriesLoad s) := by
  refine List.foldlRecOn (motive := fun t : State => Boots s t) _ _ (.refl s) fun t ht n _ => ?_
  exact ht.trans ⟨rfl, rfl, rfl, rfl, rfl⟩

theorem calAlarm_boots (on : Bool) (s : State) : Boots s (calAlarm on s) := by
  unfold calAlarm
  split <;> exact report_boots ..

theorem stoneBoot_boots (s : State) : Boots s (stoneBoot s) := by
  unfold stoneBoot
  extract_lets s1 ok0 ok1 seq use
  have h1 : Boots s s1 := (nvReport_boots ..).trans (nvReport_boots ..)
  have huse : ∀ k fb, Boots s1 (use k fb s1) := fun k fb => ⟨rfl, rfl, rfl, rfl, rfl⟩
  clear_value use ok0 ok1 seq s1
  split
  · split <;> exact h1.trans (huse _ _)
  · exact (h1.trans (huse _ _)).trans (calAlarm_boots ..)
  · exact (h1.trans (huse _ _)).trans (calAlarm_boots ..)
  · exact h1.trans (calAlarm_boots ..)

theorem wfBoot_boots (s : State) : Boots s (wfBoot s) := by
  unfold wfBoot
  extract_lets len bad s1 ok b use
  have h1 : Boots s s1 := .foldl (fun _ _ => nvReport_boots ..) s
  have huse : ∀ k, Boots s1 (use k) := fun k => ⟨rfl, rfl, rfl, rfl, rfl⟩
  clear_value use
  split
  · split <;> exact h1.trans (huse _)
  · exact h1.trans (huse _)
  · exact h1.trans (huse _)
  · exact h1

theorem solBoot_boots (s : State) : Boots s (solBoot s) := by
  unfold solBoot
  extract_lets s1
  have h1 : Boots s s1 := by
    refine .foldl (fun t k => ?_) s
    extract_lets h n len a head b c
    have ha : Boots t a := nvReport_boots ..
    have hb : Boots a b := by
      unfold b
      split
      · exact nvReport_boots ..
      · exact .refl a
    have hc : Boots b c := ⟨rfl, rfl, rfl, rfl, rfl⟩
    split
    · exact (ha.trans hb).trans ⟨rfl, rfl, rfl, rfl, rfl⟩
    · split
      · exact ((ha.trans hb).trans hc).trans (report_boots ..)
      · exact (ha.trans hb).trans hc
  refine h1.trans (.foldl (fun t z => ?_) s1)
  extract_lets h a head b
  have ha : Boots t a := nvReport_boots ..
  have hb : Boots a b := by
    unfold b
    split
    · exact nvReport_boots ..
    · exact .refl a
  split
  · exact (ha.trans hb).trans ⟨rfl, rfl, rfl, rfl, rfl⟩
  · exact ha.trans hb

theorem bandDefault_boots (s : State) : Boots s (bandDefault s) := by
  unfold bandDefault
  split
  · exact .refl s
  · exact ⟨rfl, rfl, rfl, rfl, rfl⟩

theorem chainSynthetic_boots (s : State) : Boots s (chainSynthetic s) := by
  unfold chainSynthetic beginCounting setChain
  split
  · split
    · exact ⟨rfl, rfl, rfl, rfl, rfl⟩
    · exact (report_boots ..).after rfl rfl rfl rfl rfl
  · exact .refl s

/-- Start-up goes on from step 3 until the application core runs, or stops there for want of a bank. -/
theorem startLate_boots (s : State) :
    ((startLate s).sup.phase = .stopped ∨ (startLate s).sup.phase = .starting) ∧ Boots s (startLate s) := by
  obtain ⟨hstop, hgo⟩ := bankBoot_boots s
  unfold startLate
  split
  · next t ht =>
    rw [ht] at hstop
    exact ⟨.inl rfl, hstop.trans ⟨rfl, rfl, rfl, rfl, rfl⟩⟩
  · next t u ht =>
    have h := (hgo t (by rw [ht])).trans ((cfgBoot_boots t).trans ((retriesLoad_boots _).trans (stoneBoot_boots _)))
    have g := (wfBoot_boots (stoneBoot (retriesLoad (cfgBoot t)))).trans ((bandDefault_boots _).trans
      ((solBoot_boots _).trans (chainSynthetic_boots _)))
    exact ⟨.inr rfl, (h.trans g).trans ⟨rfl, rfl, rfl, rfl, rfl⟩⟩

/-! ## The scan of an empty log (R423) -/

/-- An empty log holds no record. -/
theorem found_of_empty {s : State} (h : s.nvm.bank1 = []) : s.found = [] := by
  refine List.eq_nil_iff_forall_not_mem.mpr fun p hp => ?_
  have hmem : (p.1, p.2.serial, p.2.sev) ∈ s.found.map (fun p => (p.1, p.2.serial, p.2.sev)) := List.mem_map_of_mem hp
  obtain ⟨-, hslot⟩ := (mem_found ..).mp hmem
  obtain ⟨-, hser, -⟩ := (scanSlot_eq_some ..).mp hslot
  have hzero : ∀ n a, Memory.reads (nvDefault 1) [] a n = List.replicate n 0 := by
    intro n
    induction n with
    | zero => intro a; rfl
    | succ n ih =>
      intro a
      rw [List.replicate_succ, Memory.reads, ih]
      rfl
  refine hser ?_
  have hread : nvRead s.nvm 1 (64 * p.1) 32 = List.replicate 32 0 := by
    have hb : s.nvm.bank 1 = [] := h
    rw [nvRead, hb, hzero]
  rw [hread]
  rfl

/-- The counters are restored from what the scan has found: from an empty log, to those of the first start. -/
theorem scanIndexed_restores {s : State} (h : s.sup.restorePend = true) :
    (scanIndexed [] s).sup.restorePend = false ∧ (scanIndexed [] s).sup.optRestored = true ∧
    (scanIndexed [] s).backup.pcc = 1 ∧ (scanIndexed [] s).backup.opt = 0 ∧ (scanIndexed [] s).bushel.scanDone = true := by
  unfold scanIndexed
  rw [if_pos h]
  exact ⟨rfl, rfl, rfl, rfl, rfl⟩

theorem bushelScan_of_empty {s : State} (h : s.nvm.bank1 = []) (hb : s.nvm.bad = []) :
    Boots (scanIndexed [] s) (bushelScan s) := by
  have htorn : s.tornSlots = [] := by
    rw [State.tornSlots, hb]
    rfl
  rw [bushelScan_eq, found_of_empty h, htorn]
  obtain ⟨hsame, hsup, hbk, -⟩ := poolFill_spec (scanIndexed [] s)
  have hfill : Boots (scanIndexed [] s) (poolFill (scanIndexed [] s)) :=
    ⟨hsame.done, by rw [hsup], by rw [hsup], by rw [hbk], by rw [hbk]⟩
  have hkeep : ∀ u, KeepsScan (scanNoted 0 s.chain.mc (poolFill (scanIndexed [] s))) u → Boots (scanIndexed [] s) u :=
    fun u hu => hfill.trans ((scanNoted_posts ..).boots.trans
      ⟨hu.done, by rw [hu.sup], by rw [hu.sup], by rw [hu.backup], by rw [hu.backup]⟩)
  dsimp only [List.length_nil]
  rw [if_neg (by decide)]
  split
  · exact hkeep _ (flushPass_keepsScan _)
  · exact hkeep _ (.refl _)

/-! ## The commits that come into force (R346) -/

/-- Apart from the blocks that a commit reconfigures, events raised and records written, t is s; its loops are those of s, and
no request of the bus has come or gone. -/
def Follows (s t : State) : Prop := KeepsRequests s t ∧ ∃ ro st fa pa gp b a, ro.loops = s.rood.loops ∧
  Noted { s with rood := ro, stone := st, fans := fa, panel := pa, gpio := gp, bus := b, acre := a } t

theorem Follows.refl (s : State) : Follows s s :=
  ⟨⟨id, rfl⟩, s.rood, s.stone, s.fans, s.panel, s.gpio, s.bus, s.acre, rfl, .refl s⟩

theorem Follows.trans {s t u : State} (h : Follows s t) (g : Follows t u) : Follows s u := by
  obtain ⟨hk, _, _, _, _, _, _, _, hl, e, l, rfl⟩ := h
  obtain ⟨gk, _, _, _, _, _, _, _, gl, e', l', rfl⟩ := g
  exact ⟨hk.trans gk, _, _, _, _, _, _, _, gl.trans hl, e', l', rfl⟩

theorem Follows.foldl {α : Type} {f : State → α → State} (h : ∀ s a, Follows s (f s a)) (l : List α) (s : State) :
    Follows s (l.foldl f s) :=
  List.foldlRecOn (motive := fun t : State => Follows s t) _ _ (.refl s) fun t ht a _ => ht.trans (h t a)

theorem OnBus.follows {s t : State} (h : OnBus s t) : Follows s t := by
  obtain ⟨hk, b, a, h⟩ := h
  exact ⟨hk, s.rood, s.stone, s.fans, s.panel, s.gpio, b, a, rfl, h⟩

theorem stoneCommitEffect_follows (old : Image) (before s : State) : Follows s (stoneCommitEffect old before s) := by
  unfold stoneCommitEffect
  split
  · exact ⟨⟨id, rfl⟩, s.rood, _, s.fans, s.panel, s.gpio, s.bus, s.acre, rfl, .refl _⟩
  · exact .refl s

theorem solCommitEffect_follows (old : Image) (s : State) (k : Nat) : Follows s (solCommitEffect old s k) := by
  unfold solCommitEffect
  extract_lets d s1
  split
  · exact .refl s
  · split
    · refine ⟨⟨id, rfl⟩, _, s.stone, s.fans, s.panel, s.gpio, s.bus, s.acre, ?_, .refl _⟩
      rfl
    · refine ⟨⟨id, rfl⟩, _, s.stone, s.fans, s.panel, s.gpio, s.bus, s.acre, ?_, .refl _⟩
      rfl

theorem fanCommitEffect_follows (old : Image) (s : State) (f : Nat) : Follows s (fanCommitEffect old s f) := by
  unfold fanCommitEffect
  split
  · exact .refl s
  · exact ⟨⟨id, rfl⟩, s.rood, s.stone, _, s.panel, s.gpio, s.bus, s.acre, rfl, .refl _⟩

theorem panelStop_frame (s : State) : ∃ pa, panelStop s = { s with panel := pa } := by
  unfold panelStop railsOff
  split <;> exact ⟨_, rfl⟩

theorem panelCommitEffect_follows (old : Image) (s : State) : Follows s (panelCommitEffect old s) := by
  unfold panelCommitEffect
  split
  · obtain ⟨pa, h⟩ := panelStop_frame s
    rw [h]
    exact ⟨⟨id, rfl⟩, s.rood, s.stone, s.fans, pa, s.gpio, s.bus, s.acre, rfl, .refl _⟩
  · exact .refl s

theorem gpioCommitEffect_follows (old : Image) (s : State) (g : Nat) : Follows s (gpioCommitEffect old s g) := by
  unfold gpioCommitEffect
  split
  · exact ⟨⟨id, rfl⟩, s.rood, s.stone, s.fans, s.panel, _, s.bus, s.acre, rfl, .refl _⟩
  · exact .refl s

theorem forceEffects_follows (was : Image) (before s : State) : Follows s (forceEffects was before s) := by
  unfold forceEffects
  extract_lets changed s1 s2
  have h1 : Follows s s1 :=
    (stoneCommitEffect_follows was before s).trans (.foldl (fun t k => solCommitEffect_follows was t k) _ _)
  have h2 : Follows s1 s2 := .foldl (fun t f => fanCommitEffect_follows was t f) _ _
  have h3 := (panelCommitEffect_follows was s2).trans
    (.foldl (fun t g => gpioCommitEffect_follows was t g) (changed .gpio) _)
  exact ((h1.trans h2).trans h3).trans (busInForce_onBus ..).follows

/-- The image that the release brings into force. -/
def releaseImage (s : State) : Image :=
  let img0 := withOutHold s s.cfg.committed
  Sec.all.map (fun sec =>
    match sec with
    | .chain => s.cfg.inForce.sec .chain
    | .sol => (List.range 64).map (fun k => merge (w32 (wdef .sol k 0).locked) (s.cw .sol k 0) (img0.word .sol k 0))
    | _ => img0.sec sec)

theorem sec_all_map (g : Sec → List Word) (sec : Sec) : Image.sec (Sec.all.map g) sec = g sec := by
  cases sec <;> rfl

theorem sec_withOutHold_ne (s : State) (img : Image) {sec : Sec} (h : sec ≠ .loop) :
    (withOutHold s img).sec sec = img.sec sec := by
  refine nth_set_ne _ _ _ _ fun e => h ?_
  revert e
  cases sec <;> decide

theorem releaseImage_sec (s : State) {sec : Sec} (hc : sec ≠ .chain) (hs : sec ≠ .sol) (hl : sec ≠ .loop) :
    (releaseImage s).sec sec = s.cfg.committed.sec sec := by
  rw [releaseImage, sec_all_map]
  split
  · exact absurd rfl hc
  · exact absurd rfl hs
  · exact sec_withOutHold_ne s _ hl

theorem releaseImage_chain (s : State) : (releaseImage s).sec .chain = s.cfg.inForce.sec .chain := by
  rw [releaseImage, sec_all_map]

theorem commitsRelease_frame (s : State) : ∃ ro st fa pa gp b a se, ro.loops = s.rood.loops ∧
    Noted { s with rood := ro, stone := st, fans := fa, panel := pa, gpio := gp, bus := b, acre := a, sens := se,
                   cfg.inForce := releaseImage s } (commitsRelease s) := by
  obtain ⟨-, ro, st, fa, pa, gp, b, a, hl, h⟩ :=
    forceEffects_follows s.cfg.inForce s (modsArm { s with cfg.inForce := releaseImage s })
  exact ⟨ro, st, fa, pa, gp, b, a, _, hl, h⟩

/-! ## The loops at the release (R175, R436) -/

/-- Apart from the loops and the output holds in force, t is s. -/
def RunsLoops (s t : State) : Prop := ∃ ls f, t = { s with rood.loops := ls, cfg.inForce := f } ∧
  ls.length = s.rood.loops.length ∧ (∀ sec, sec ≠ .loop → f.sec sec = s.cfg.inForce.sec sec) ∧
  ∀ i, f.word .loop i 0 = s.cfg.inForce.word .loop i 0

theorem RunsLoops.refl (s : State) : RunsLoops s s := ⟨_, _, rfl, rfl, fun _ _ => rfl, fun _ => rfl⟩

theorem RunsLoops.trans {s t u : State} (h : RunsLoops s t) (g : RunsLoops t u) : RunsLoops s u := by
  obtain ⟨_, _, rfl, hn, hs, hw⟩ := h
  obtain ⟨_, _, rfl, gn, gs, gw⟩ := g
  exact ⟨_, _, rfl, gn.trans hn, fun sec h => (gs sec h).trans (hs sec h), fun i => (gw i).trans (hw i)⟩

theorem RunsLoops.loopEn {s t : State} (h : RunsLoops s t) (l : Nat) : t.loopEn l = s.loopEn l := by
  obtain ⟨_, f, rfl, -, -, hw⟩ := h
  exact congrArg (fun v => bit v 0) (hw (l - 1))

theorem startLoop_runsLoops (l : Nat) (s : State) : RunsLoops s (startLoop l s) := by
  refine ⟨_, _, rfl, by simp [updLoop, setOutHold, upd], fun sec h => sec_setWord_ne _ _ _ h, fun i => ?_⟩
  unfold Image.word Image.sec Image.setWord
  have hne : (l - 1) * Sec.loop.words + 3 ≠ i * Sec.loop.words + 0 := by
    have hw : Sec.loop.words = 12 := rfl
    rw [hw]
    omega
  by_cases h1 : Sec.loop.index < s.cfg.inForce.length
  · rw [nth_upd_self _ _ _ h1, List.getD_eq_getElem?_getD, List.getElem?_set_ne hne, ← List.getD_eq_getElem?_getD]
  · rw [upd_past _ _ _ (by omega)]

theorem startLoop_opened {l : Nat} {s : State} (h : l < s.rood.loops.length) : ((startLoop l s).loop l).dyn.st = .opened := by
  have hlen : l < (setOutHold l (s.lf l 3 31 16) s).rood.loops.length := by simpa [setOutHold, updLoop] using h
  rw [startLoop, updLoop_loop_self _ _ _ hlen]

theorem startLoop_loop_ne {l j : Nat} (s : State) (h : j ≠ l) : (startLoop l s).loop j = s.loop j := by
  rw [startLoop, updLoop_loop_ne _ _ _ _ h, setOutHold_loop_ne _ _ h]

/-- Of the first n loops the enabled ones start OPEN, and the others stay as they are. -/
theorem loopsRelease_upTo (s : State) (n : Nat) : ∃ t,
    (List.range n).foldl (fun a i => if a.loopEn (i + 1) then startLoop (i + 1) a else a) s = t ∧ RunsLoops s t ∧
    (∀ l, 1 ≤ l → l ≤ n → l < s.rood.loops.length → s.loopEn l = true → (t.loop l).dyn.st = .opened) ∧
    (∀ l, 1 ≤ l → n < l ∨ s.loopEn l = false → t.loop l = s.loop l) := by
  induction n with
  | zero => exact ⟨_, rfl, .refl s, fun l h1 h0 => by omega, fun _ _ _ => rfl⟩
  | succ n ih =>
    obtain ⟨t, ht, hrun, hopen, hrest⟩ := ih
    refine ⟨_, rfl, ?_⟩
    rw [List.range_succ, List.foldl_append, ht, List.foldl_cons, List.foldl_nil, hrun.loopEn]
    have hlen : t.rood.loops.length = s.rood.loops.length := by
      obtain ⟨_, _, rfl, hn, -⟩ := hrun
      exact hn
    split
    · next hen =>
      refine ⟨hrun.trans (startLoop_runsLoops ..), fun l h1 hn hl he => ?_, fun l h1 h => ?_⟩
      · by_cases hln : l = n + 1
        · subst hln
          exact startLoop_opened (hlen ▸ hl)
        · rw [startLoop_loop_ne _ hln]
          exact hopen l h1 (by omega) hl he
      · have hln : l ≠ n + 1 := by
          rintro rfl
          obtain h | h := h
          · omega
          · rw [h] at hen
            exact absurd hen (by decide)
        rw [startLoop_loop_ne _ hln]
        exact hrest l h1 (h.imp (by omega) id)
    · next hdis =>
      refine ⟨hrun, fun l h1 hn hl he => ?_, fun l h1 h => hrest l h1 (h.imp (by omega) id)⟩
      have hln : l ≠ n + 1 := by
        rintro rfl
        exact hdis he
      exact hopen l h1 (by omega) hl he

/-! ## The other blocks at the release (R252, R436-R438) -/

/-- Every channel's automatic retries are its `RETRY`. -/
theorem retriesLoad_frame (s : State) : ∃ ch, retriesLoad s = { s with act.ch := ch } ∧
    ∀ n, n < 32 → n < s.act.ch.length → (nth ch n).retryLeft = s.af n 0 4 2 := by
  have upTo : ∀ k, ∃ ch, (List.range k).foldl (fun a n => updCh n (fun c => { c with retryLeft := a.af n 0 4 2 }) a) s =
      { s with act.ch := ch } ∧ ch.length = s.act.ch.length ∧
      ∀ n, n < k → n < s.act.ch.length → (nth ch n).retryLeft = s.af n 0 4 2 := by
    intro k
    induction k with
    | zero => exact ⟨_, rfl, rfl, fun n h => absurd h (Nat.not_lt_zero n)⟩
    | succ k ih =>
      obtain ⟨ch, hs, hlen, hr⟩ := ih
      refine ⟨upd ch k (fun c => { c with retryLeft := s.af k 0 4 2 }), ?_, by simpa [upd] using hlen, fun n hn hl => ?_⟩
      · rw [List.range_succ, List.foldl_append, hs]
        rfl
      · by_cases hnk : n = k
        · subst hnk
          rw [nth_upd_self _ _ _ (by omega)]
        · rw [nth_upd_ne _ _ _ _ hnk]
          exact hr n (by omega) hl
  obtain ⟨ch, hs, -, hr⟩ := upTo 32
  exact ⟨ch, hs, hr⟩

theorem fanRelease_frame (s : State) : ∃ fa, fanRelease s = { s with fans := fa } := by
  have after (t u : State) (h : ∃ fa, t = { s with fans := fa }) (g : ∃ fa, u = { t with fans := fa }) :
      ∃ fa, u = { s with fans := fa } := by
    obtain ⟨_, rfl⟩ := h
    obtain ⟨_, rfl⟩ := g
    exact ⟨_, rfl⟩
  refine List.foldlRecOn (motive := fun t : State => ∃ fa, t = { s with fans := fa }) _ _ ⟨_, rfl⟩ fun t ht f _ => ?_
  refine after t _ ht ?_
  unfold fanUnless
  dsimp only
  split
  · exact ⟨_, rfl⟩
  · split
    · split
      · exact ⟨_, rfl⟩
      · exact ⟨_, rfl⟩
    · exact ⟨_, rfl⟩

theorem releaseMode_frame (s : State) : ∃ sp, releaseMode s = { s with sup := sp } ∧ sp.modeReq = none ∧
    sp.mode = (match s.sup.modeReq with | some .quiet => .quiet | some .hold => .hold | _ => .run) ∧
    sp.phase = s.sup.phase ∧ sp.cause = s.sup.cause ∧ sp.wdtPend = s.sup.wdtPend ∧ sp.postRan = s.sup.postRan := by
  unfold releaseMode
  cases s.sup.modeReq with
  | none => exact ⟨_, rfl, rfl, rfl, rfl, rfl, rfl, rfl⟩
  | some m => cases m <;> exact ⟨_, rfl, rfl, rfl, rfl, rfl, rfl, rfl⟩

theorem panelRelease_frame (s : State) : ∃ pa, panelRelease s = { s with panel := pa } ∧
    (s.pnlEn = true → pa.clearing = .waitTemp) := by
  unfold panelRelease
  split
  · exact ⟨_, rfl, fun _ => rfl⟩
  · next h => exact ⟨_, rfl, fun h' => absurd h' h⟩

def noteSwitch (s : State) : State :=
  if s.sup.switched then happen 91 6 4 0 { s with sup.switched := false } else s

def noteThermal (s : State) : State := if s.sup.cause = some .thermal then report 89 7 7 0 s else s

def noteWatchdog (s : State) : State := if s.sup.wdtPend then report 120 4 6 0 { s with sup.wdtPend := false } else s

def notePost (s : State) : State :=
  if s.sup.postRan then
    report 108 4 (if s.test.results.all (fun t => t.verdict == 1) then 2 else 5) 0 { s with sup.postRan := false }
  else s

theorem releaseReports_eq (s : State) :
    releaseReports s = notePost (noteWatchdog (noteThermal (noteSwitch (report 91 6 1 0 s)))) := rfl

theorem noteSwitch_spec (s : State) : (∀ k, s.raised k → (noteSwitch s).raised k) ∧
    ∃ sw, Noted { s with sup.switched := sw } (noteSwitch s) := by
  unfold noteSwitch
  split
  · exact ⟨fun _ h => happen_raised_of h, _, happen_noted ..⟩
  · exact ⟨fun _ h => h, s.sup.switched, .refl s⟩

theorem noteThermal_spec (s : State) : (∀ k, s.raised k → (noteThermal s).raised k) ∧ Noted s (noteThermal s) ∧
    (s.sup.cause = some .thermal → (noteThermal s).raised 89) := by
  unfold noteThermal
  split
  · exact ⟨fun _ h => report_raised_of h, report_noted .., fun _ => report_raised _ (by decide)⟩
  · next h => exact ⟨fun _ h => h, .refl s, fun h' => absurd h' h⟩

theorem noteWatchdog_spec (s : State) : (∀ k, s.raised k → (noteWatchdog s).raised k) ∧
    (∃ wd, Noted { s with sup.wdtPend := wd } (noteWatchdog s)) ∧ (s.sup.wdtPend = true → (noteWatchdog s).raised 120) := by
  unfold noteWatchdog
  split
  · exact ⟨fun _ h => report_raised_of h, ⟨_, report_noted ..⟩, fun _ => report_raised _ (by decide)⟩
  · next h => exact ⟨fun _ h => h, ⟨s.sup.wdtPend, .refl s⟩, fun h' => absurd h' h⟩

theorem notePost_spec (s : State) : (∀ k, s.raised k → (notePost s).raised k) ∧
    (∃ po, Noted { s with sup.postRan := po } (notePost s)) ∧ (s.sup.postRan = true → (notePost s).raised 108) := by
  unfold notePost
  split
  · exact ⟨fun _ h => report_raised_of h, ⟨_, report_noted ..⟩, fun _ => report_raised _ (by decide)⟩
  · next h => exact ⟨fun _ h => h, ⟨s.sup.postRan, .refl s⟩, fun h' => absurd h' h⟩

/-- Apart from what a release reports once, events raised and records written, t is s. -/
def Reports (s t : State) : Prop :=
  ∃ sw wd po, Noted { s with sup := { s.sup with switched := sw, wdtPend := wd, postRan := po } } t

theorem Reports.trans {s t u : State} (h : Reports s t) (g : Reports t u) : Reports s u := by
  obtain ⟨_, _, _, e, b, rfl⟩ := h
  obtain ⟨sw, wd, po, e', b', rfl⟩ := g
  exact ⟨sw, wd, po, e', b', rfl⟩

theorem Noted.reports {s t : State} (h : Noted s t) : Reports s t := ⟨s.sup.switched, s.sup.wdtPend, s.sup.postRan, h⟩

theorem Noted.sup {s t : State} (h : Noted s t) : t.sup = s.sup := by
  obtain ⟨e, b, rfl⟩ := h
  rfl

/-- What was pending when the device was reset is reported, the thermal restart and the self-test among it. -/
theorem releaseReports_spec (s : State) : Reports s (releaseReports s) ∧
    (releaseReports s).raised 91 ∧ (s.sup.cause = some .thermal → (releaseReports s).raised 89) ∧
    (s.sup.wdtPend = true → (releaseReports s).raised 120) ∧ (s.sup.postRan = true → (releaseReports s).raised 108) := by
  have h1 := report_noted 91 6 1 0 s
  have r1 : (report 91 6 1 0 s).raised 91 := report_raised s (by decide)
  rw [releaseReports_eq]
  generalize report 91 6 1 0 s = t1 at h1 r1 ⊢
  obtain ⟨k2, sw, h2⟩ := noteSwitch_spec t1
  generalize noteSwitch t1 = t2 at k2 h2 ⊢
  obtain ⟨k3, h3, r3⟩ := noteThermal_spec t2
  generalize noteThermal t2 = t3 at k3 h3 r3 ⊢
  obtain ⟨k4, ⟨wd, h4⟩, r4⟩ := noteWatchdog_spec t3
  generalize noteWatchdog t3 = t4 at k4 h4 r4 ⊢
  obtain ⟨k5, ⟨po, h5⟩, r5⟩ := notePost_spec t4
  have g2 : Reports t1 t2 := ⟨sw, t1.sup.wdtPend, t1.sup.postRan, h2⟩
  have g4 : Reports t3 t4 := ⟨t3.sup.switched, wd, t3.sup.postRan, h4⟩
  have g5 : Reports t4 (notePost t4) := ⟨t4.sup.switched, t4.sup.wdtPend, po, h5⟩
  refine ⟨((h1.reports.trans g2).trans h3.reports).trans (g4.trans g5), k5 _ (k4 _ (k3 _ (k2 _ r1))),
    fun hc => k5 _ (k4 _ (r3 ?_)), fun hw => k5 _ (r4 ?_), fun hp => r5 ?_⟩
  · rw [h2.sup]
    exact (congrArg Supply.cause h1.sup).trans hc
  · rw [h3.sup, h2.sup]
    exact (congrArg Supply.wdtPend h1.sup).trans hw
  · rw [h4.sup]
    change t3.sup.postRan = true
    rw [h3.sup, h2.sup]
    exact (congrArg Supply.postRan h1.sup).trans hp

/-- What the release of the control path comes to, from the state in which the commits are in force. -/
def releasedFrom (c : State) : State :=
  let s1 := { c with sup.phase := .running, sens.mods := upd (c.sens.mods.map (freeNow c)) hmod (fun x => { x with coef := c.modCoef hmod }) }
  releaseReports (acreEval (fanRelease (releaseMode (gpioRelease (panelRelease (retriesLoad (loopsRelease s1)))))))

theorem exec_controlPathRelease {s : State} (hp : s.sup.phase = .starting) (hc : s.chain.st ≠ .start) (hpt : s.chain.pt = 0)
    (hn : s.sup.npfwLow = false) : exec .controlPathRelease s = .next (releasedFrom (commitsRelease s)) := by
  have hx : exec .controlPathRelease s = .next (controlRelease s) := rfl
  rw [hx, controlRelease, if_neg (by simp [hp, hc, hpt, hn])]
  rfl

/-- The outputs at the release. -/
def State.gpioInit (s : State) : List Bool := (List.range 16).map (fun g => s.cb .gpio g 0 4)

theorem gpioInit_getD (s : State) {g : Nat} (h : g < 16) : s.gpioInit.getD g false = s.cb .gpio g 0 4 := by
  simp [State.gpioInit, List.getD_eq_getElem?_getD, h]

/-- The loops, the configuration, the switches, the panel, the outputs and the backup domain of t are those of s. -/
structure KeepsBlocks (s t : State) : Prop where
  loops : t.rood.loops = s.rood.loops
  cfg : t.cfg = s.cfg
  act : t.act = s.act
  panel : t.panel = s.panel
  gpio : t.gpio = s.gpio
  backup : t.backup = s.backup

theorem KeepsBlocks.trans {s t u : State} (h : KeepsBlocks s t) (g : KeepsBlocks t u) : KeepsBlocks s u :=
  ⟨g.loops.trans h.loops, g.cfg.trans h.cfg, g.act.trans h.act, g.panel.trans h.panel, g.gpio.trans h.gpio,
    g.backup.trans h.backup⟩

theorem releaseMode_keepsBlocks (s : State) : KeepsBlocks s (releaseMode s) := by
  obtain ⟨sp, h, -⟩ := releaseMode_frame s
  rw [h]
  exact ⟨rfl, rfl, rfl, rfl, rfl, rfl⟩

theorem fanRelease_keepsBlocks (s : State) : KeepsBlocks s (fanRelease s) ∧ (fanRelease s).sup = s.sup := by
  obtain ⟨fa, h⟩ := fanRelease_frame s
  rw [h]
  exact ⟨⟨rfl, rfl, rfl, rfl, rfl, rfl⟩, rfl⟩

theorem acreEval_keepsBlocks (s : State) : KeepsBlocks s (acreEval s) ∧ (acreEval s).sup = s.sup := by
  obtain ⟨-, b, a, e, l, h⟩ := acreEval_onBus s
  rw [h]
  exact ⟨⟨rfl, rfl, rfl, rfl, rfl, rfl⟩, rfl⟩

theorem releaseReports_keepsBlocks (s : State) : KeepsBlocks s (releaseReports s) ∧
    ∃ sw wd po, (releaseReports s).sup = { s.sup with switched := sw, wdtPend := wd, postRan := po } := by
  obtain ⟨⟨sw, wd, po, e, b, h⟩, -⟩ := releaseReports_spec s
  rw [h]
  exact ⟨⟨rfl, rfl, rfl, rfl, rfl, rfl⟩, sw, wd, po, rfl⟩

/-- The blocks as the release starts them: c with its loops, its channels, its panel and its outputs. -/
structure StartsBlocks (c t : State) : Prop where
  out : t.gpio.out = c.gpioInit
  opened : ∀ l, 1 ≤ l → l ≤ 127 → l < c.rood.loops.length → c.loopEn l = true → (t.loop l).dyn.st = .opened
  rest : ∀ l, 1 ≤ l → l ≤ 127 → c.loopEn l = false → t.loop l = c.loop l
  retry : ∀ n, n < 32 → n < c.act.ch.length → (t.ach n).retryLeft = c.af n 0 4 2
  clearing : c.pnlEn = true → t.panel.clearing = .waitTemp
  backup : t.backup = c.backup

theorem StartsBlocks.keeps {c t u : State} (h : StartsBlocks c t) (g : KeepsBlocks t u) : StartsBlocks c u where
  out := (congrArg Gpio.out g.gpio).trans h.out
  opened l h1 h2 hl he := by
    rw [State.loop, g.loops]
    exact h.opened l h1 h2 hl he
  rest l h1 h2 he := by
    rw [State.loop, g.loops]
    exact h.rest l h1 h2 he
  retry n hn hl := by
    rw [State.ach, g.act]
    exact h.retry n hn hl
  clearing hp := (congrArg Panel.clearing g.panel).trans (h.clearing hp)
  backup := g.backup.trans h.backup

theorem startBlocks_spec (c : State) : StartsBlocks c (gpioRelease (panelRelease (retriesLoad (loopsRelease c)))) ∧
    (gpioRelease (panelRelease (retriesLoad (loopsRelease c)))).sup = c.sup := by
  obtain ⟨v, hv, ⟨ls, f, hrun, hlen, hsec, -⟩, hopen, hrest⟩ := loopsRelease_upTo c 127
  have hcfg {sec : Sec} (h : sec ≠ .loop) (i w : Nat) : v.cw sec i w = c.cw sec i w := by
    rw [hrun]
    exact congrArg (fun l : List Word => l.getD (i * sec.words + w) 0) (hsec sec h)
  have hloops : loopsRelease c = v := hv
  obtain ⟨ch, hch, hretry⟩ := retriesLoad_frame v
  obtain ⟨pa, hpa, hclear⟩ := panelRelease_frame (retriesLoad v)
  rw [hloops]
  have hact : v.act = c.act := by rw [hrun]
  have hloop : ∀ l, (gpioRelease (panelRelease (retriesLoad v))).loop l = v.loop l := fun l => by
    change (panelRelease (retriesLoad v)).loop l = v.loop l
    rw [hpa, hch]
    rfl
  refine ⟨⟨?_, fun l h1 h2 hl he => ?_, fun l h1 h2 he => ?_, fun n hn hl => ?_, fun hp => ?_, ?_⟩, ?_⟩
  · refine List.map_congr_left fun g _ => ?_
    refine congrArg (fun x => bit x 4) (.trans ?_ (hcfg (by decide) g 0))
    rw [hpa, hch]
    rfl
  · rw [hloop]
    exact hopen l h1 h2 hl he
  · rw [hloop]
    exact hrest l h1 (.inr he)
  · change ((panelRelease (retriesLoad v)).ach n).retryLeft = _
    rw [hpa, hch]
    exact (hretry n hn (hact ▸ hl)).trans (congrArg (fun x => fld x 4 2) (hcfg (by decide) n 0))
  · change (panelRelease (retriesLoad v)).panel.clearing = _
    rw [hpa]
    refine hclear (.trans ?_ hp)
    refine congrArg (fun x => bit x 31) (.trans ?_ (hcfg (by decide) 0 0))
    rw [hch]
    rfl
  · change (panelRelease (retriesLoad v)).backup = _
    rw [hpa, hch, hrun]
  · change (panelRelease (retriesLoad v)).sup = _
    rw [hpa, hch, hrun]

theorem releasedFrom_starts (c : State) : StartsBlocks c (releasedFrom c) := by
  have hs := (startBlocks_spec { c with
    sup.phase := .running
    sens.mods := upd (c.sens.mods.map (freeNow c)) hmod (fun x => { x with coef := c.modCoef hmod }) }).1
  have h : StartsBlocks c _ := ⟨hs.out, hs.opened, hs.rest, hs.retry, hs.clearing, hs.backup⟩
  exact h.keeps (((releaseMode_keepsBlocks _).trans (fanRelease_keepsBlocks _).1).trans
    ((acreEval_keepsBlocks _).1.trans (releaseReports_keepsBlocks _).1))

/-- The release's mode and reports. -/
theorem releasedFrom_reports (c : State) : (releasedFrom c).released = true ∧ (releasedFrom c).sup.modeReq = none ∧
    (releasedFrom c).sup.mode = (match c.sup.modeReq with | some .quiet => .quiet | some .hold => .hold | _ => .run) ∧
    (releasedFrom c).raised 91 ∧ (c.sup.cause = some .thermal → (releasedFrom c).raised 89) ∧
    (c.sup.wdtPend = true → (releasedFrom c).raised 120) ∧ (c.sup.postRan = true → (releasedFrom c).raised 108) := by
  have hb := (startBlocks_spec { c with
    sup.phase := .running
    sens.mods := upd (c.sens.mods.map (freeNow c)) hmod (fun x => { x with coef := c.modCoef hmod }) }).2
  unfold releasedFrom
  extract_lets b1 b2 s1
  change (gpioRelease (panelRelease (retriesLoad (loopsRelease s1)))).sup = { c.sup with phase := .running } at hb
  generalize gpioRelease (panelRelease (retriesLoad (loopsRelease s1))) = v at hb ⊢
  obtain ⟨sp, hv, hreq, hmode, hph, hca, hwd, hpo⟩ := releaseMode_frame v
  have hu : (acreEval (fanRelease (releaseMode v))).sup = sp := by
    rw [(acreEval_keepsBlocks _).2, (fanRelease_keepsBlocks _).2, hv]
  generalize acreEval (fanRelease (releaseMode v)) = u at hu ⊢
  obtain ⟨-, h91, h89, h120, h108⟩ := releaseReports_spec u
  obtain ⟨-, sw, wd, po, hsup⟩ := releaseReports_keepsBlocks u
  rw [hu] at h89 h120 h108 hsup
  rw [hca, hb] at h89
  rw [hwd, hb] at h120
  rw [hpo, hb] at h108
  rw [hb] at hmode hph
  refine ⟨?_, ?_, ?_, h91, h89, h120, h108⟩
  · rw [State.released, hsup]
    exact beq_iff_eq.mpr hph
  · rw [hsup]
    exact hreq
  · rw [hsup]
    exact hmode

/-- Settles O55: the scan and start-up's later steps keep the restored counts, and each block starts at the release from the commits in force. -/
theorem controlPathReleased : Obligations.ControlPathReleased := by
  unfold Obligations.ControlPathReleased
  refine ⟨fun s hp hn hr hb hbad => ?_, fun s hp hc hpt hn => ?_⟩
  · have hx : exec .bushelScan s = .next (startLate (bushelScan s)) := by
      have hx : exec .bushelScan s = execBushelScan s := rfl
      rw [hx, execBushelScan, if_pos hp, if_neg (by simp [hn])]
    obtain ⟨hphase, hboot⟩ := startLate_boots (bushelScan s)
    have hall := (bushelScan_of_empty hb hbad).trans hboot
    obtain ⟨hpend, hopt, hpcc, ho, hdone⟩ := scanIndexed_restores hr
    exact ⟨_, hx, hphase, hall.done.trans hdone, hall.pend.trans hpend, hall.restored.trans hopt, hall.pcc.trans hpcc,
      hall.opt.trans ho⟩
  · have hstore := commitsRelease_store s
    obtain ⟨ro, st, fa, pa, gp, b, a, se, hl, e, bu, hfr⟩ := commitsRelease_frame s
    have hx := exec_controlPathRelease hp hc hpt hn
    have hstarts := releasedFrom_starts (commitsRelease s)
    obtain ⟨hrel, hreq, hmode, h91, h89, h120, h108⟩ := releasedFrom_reports (commitsRelease s)
    have hsup : (commitsRelease s).sup = s.sup := by rw [hfr]
    rw [hsup] at hmode h89 h120 h108
    have hforce : (commitsRelease s).cfg.inForce = releaseImage s := by rw [hfr]
    have hloops : (commitsRelease s).rood.loops = s.rood.loops := by rw [hfr]; exact hl
    have hact : (commitsRelease s).act = s.act := by rw [hfr]
    have hback : (commitsRelease s).backup = s.backup := by rw [hfr]
    obtain ⟨hnvm, hmgt⟩ := (controlRelease_store s)
    have ht : controlRelease s = releasedFrom (commitsRelease s) := Host.Outcome.next.inj hx
    rw [ht] at hnvm hmgt
    refine ⟨fun sec h1 h2 h3 => hforce ▸ releaseImage_sec s h1 h2 h3, hforce ▸ releaseImage_chain s, _, hx, hrel, h91, hreq,
      hmode, fun g hg => ?_, fun l h1 h2 hlen hen => hstarts.opened l h1 h2 (hloops ▸ hlen) hen, fun l h1 h2 hdis => ?_,
      fun n hn hlen => hstarts.retry n hn (hact ▸ hlen), hstarts.clearing, h89, h120, h108, hnvm,
      hstarts.backup.trans hback, hmgt⟩
    · rw [hstarts.out]
      exact gpioInit_getD _ hg
    · rw [hstarts.rest l h1 h2 hdis, State.loop, hloops]
      rfl

end Sys2Proof.Machine

namespace Sys2Proof.Machine

/-! PROOFS. A commit whose read-back fails (R428): the codeword that the model draws need not be one of an NVM bank. -/

/-! ## The read-back that fails in flash -/

/-- A commit's last codeword behind codewords of a flash bank, more of them than the number that the read-back draws. -/
def flashCommitOp : NvOp :=
  { job := .commit, cws := [{ bank := 0, cw := 0, data := [] }]
    written := List.replicate ((Config.freeWord 0).toNat + 1) (2, 0) }

/-- A device that waits for the last codeword of that commit. -/
def flashCommit : State :=
  { sup := { phase := .running }
    nvm := { queue := [[], [], [flashCommitOp], [], [], [], [], []] }
    cfg := { pendingCommit := some {} }
    mbox := { waiting := some { cmd := 0x3004, tag := 0, boxes := some (0, 0) } } }

/-- The read-back finds a codeword of the flash bank, whose place the management core lists. -/
theorem readBackFails_flash {s : State} {op : NvOp} {n : Nat} {c : Nat × Nat} (hn : s.freeNat = n)
    (hw : op.written = List.replicate (n + 1) (2, 0) ++ [c]) (hb : s.mgt.flashBad = []) :
    (readBackFails op s).mgt.flashBad = [(0, 0)] := by
  have hidx : s.freeNat % op.written.length = n := by
    rw [hn, hw]
    exact Nat.mod_eq_of_lt (by simp)
  have hget : ∀ w, op.written.getD n w = (2, 0) := fun w => by
    rw [hw, List.getD_eq_getElem?_getD, List.getElem?_append_left (by simp)]
    simp
  unfold readBackFails
  split
  · next h => simp [h] at hw
  · next w rest _ =>
    rw [hidx, hget]
    change (if s.mgt.flashBad.contains (0, 0) then s.mgt.flashBad else (0, 0) :: s.mgt.flashBad) = _
    rw [hb]
    rfl

theorem readBackFails_frame (op : NvOp) (s : State) : ∃ fr bad fb, readBackFails op s =
    { s with free := fr, nvm := { s.nvm with bad := bad }, mgt := { s.mgt with flashBad := fb } } := by
  unfold readBackFails
  split
  · exact ⟨s.free, s.nvm.bad, s.mgt.flashBad, rfl⟩
  · extract_lets c s1
    split
    · exact ⟨_, _, s.mgt.flashBad, rfl⟩
    · exact ⟨_, s.nvm.bad, _, rfl⟩

/-- A commit that has failed answers its command; of the device's other blocks only the records change. -/
theorem commitDone_failed {s : State} {p : PendingCommit} {w : Waiting} (hp : s.cfg.pendingCommit = some p)
    (hw : s.mbox.waiting = some w) (hb : w.boxes.isNone = false) (ha : s.mbox.accepted = []) :
    ∃ c m e b, commitDone false s = { s with cfg := c, mbox := m, evt := e, bushel := b } := by
  obtain ⟨e, b, hn⟩ : Noted { s with cfg := { s.cfg with pendingCommit := none, lastStatus := stNvFail, loc := {} } }
      (commitFailed stNvFail {} { s with cfg := { s.cfg with pendingCommit := none } }) := report_noted ..
  unfold commitDone
  rw [hp]
  change ∃ c m e b, finish stNvFail _ (commitFailed stNvFail {} { s with cfg := { s.cfg with pendingCommit := none } }) = _
  rw [hn]
  unfold finish
  simp only [hw, hb, Bool.false_and, Bool.false_eq_true, if_false]
  rw [drain_nil _ (by simp [ha]), respond_frame]
  exact ⟨_, _, _, _, rfl⟩

/-- The device once the codeword is written, before its read-back. -/
def flashCommitWritten : State :=
  { flashCommit with nvm := { nvTurn 2 flashCommit.nvm with queue := List.replicate 8 [] } }

theorem exec_flashCommit : ∃ u, exec (.nvCodewordWrite false false) flashCommit = .next u ∧ u.mgt.flashBad = [(0, 0)] := by
  have hx := exec_nvLast (s := flashCommit) (e := 2) (op := flashCommitOp) (rest := []) rfl rfl rfl false
    (w := { bank := 0, cw := 0, data := [] }) rfl
  have hwritten : ({ writeCw { bank := 0, cw := 0, data := [] } { flashCommit with nvm := nvTurn 2 flashCommit.nvm } with
      nvm.queue := (writeCw { bank := 0, cw := 0, data := [] }
        { flashCommit with nvm := nvTurn 2 flashCommit.nvm }).nvm.queue.set 2 [] } : State) = flashCommitWritten := rfl
  rw [if_neg (by decide), hwritten] at hx
  have hbad := readBackFails_flash (s := flashCommitWritten) (n := (Config.freeWord 0).toNat) (c := (0, 0))
    (op := { flashCommitOp with cws := [], written := flashCommitOp.written ++ [(0, 0)] }) rfl rfl rfl
  obtain ⟨fr, bad, fb, hf⟩ := readBackFails_frame
    { flashCommitOp with cws := [], written := flashCommitOp.written ++ [(0, 0)] } flashCommitWritten
  have hx' : exec (.nvCodewordWrite false false) flashCommit = .next (nvComplete 2 .commit false
      (readBackFails { flashCommitOp with cws := [], written := flashCommitOp.written ++ [(0, 0)] } flashCommitWritten)) := hx
  rw [hf] at hbad hx'
  obtain ⟨c, m, e, b, hd⟩ := commitDone_failed (s := { flashCommitWritten with
    free := fr, nvm := { flashCommitWritten.nvm with bad := bad }, mgt := { flashCommitWritten.mgt with flashBad := fb } })
    (p := {}) (w := { cmd := 0x3004, tag := 0, boxes := some (0, 0) }) rfl rfl rfl rfl
  rw [nvComplete_of_own _ _ rfl] at hx'
  change _ = Host.Outcome.next (busTurn (busResume (mgtTurn (commitDone false _)))) at hx'
  rw [hd, mgtTurn_of_empty rfl, busResume_of_none rfl, busTurn_of_none rfl] at hx'
  exact ⟨_, hx', hbad⟩

/-- Refutes O38: the codeword that a failed read-back finds is drawn among all that the operation has written, so that a commit
listed behind codewords of a flash bank changes the management core's list of bad places, though no operation of its own waits. -/
theorem not_commitsCompleteOrFail : ¬ Obligations.CommitsCompleteOrFail := by
  unfold Obligations.CommitsCompleteOrFail
  rintro ⟨-, hnv⟩
  obtain ⟨-, hlast⟩ := hnv flashCommit { bank := 0, cw := 0, data := [] } []
    { cmd := 0x3004, tag := 0, boxes := some (0, 0) } {} flashCommitOp rfl rfl rfl rfl
  obtain ⟨-, u, hu, -, -, -, -, -, hmgt, -⟩ := hlast rfl rfl rfl rfl rfl rfl (by decide) rfl rfl rfl rfl
  obtain ⟨t, ht, hbad⟩ := exec_flashCommit
  obtain rfl : u = t := Host.Outcome.next.inj (hu.symm.trans ht)
  have hmgt' : u.mgt = flashCommit.mgt := hmgt rfl
  rw [hmgt'] at hbad
  exact absurd hbad (by decide)

end Sys2Proof.Machine

namespace Sys2Proof.Machine

/-! PROOFS. Image writes: a store of the management state that waits may be that of an attestation (R476). -/

/-! ## A store of an attestation that waits at the head of entry 5 -/

/-- A device whose entry 5 holds the store of an attestation, not yet begun, and whose entry 7 holds flash bytes. -/
def attestWaits : State :=
  { sup := { phase := .running }
    clk := { pllLocked := true }
    mbox := { ready := true }
    nvm := { queue := [[], [], [], [], [], [{ job := .mgtState .attest }], [], [{ job := .flash }]] } }

/-- Chunk 0 of a firmware image of two chunks. -/
def firmwareChunk : Msg :=
  { chunk := true, payload := [0, 0, 0, 0, 0xD0, 0x1F, 0, 0] ++ ([0, 0, 0, 0, 0, 0, 1] ++ List.replicate 4065 0) }

/-- The chunk begins the store of the bank's EMPTY, behind that of the attestation, which is then counted. -/
theorem exec_firmwareChunk : (match exec (.updWriteImage firmwareChunk) attestWaits with
    | .next t => t.mgt.att.counted
    | _ => false) = true := by decide +kernel

/-- Refutes O40: while flash bytes wait, chunk 0 of a firmware image may also begin the store of an attestation that waits at the
head of entry 5; the attestation is then counted, a change that the statement's frame of the management core leaves out. -/
theorem not_imageWritesAndVerification : ¬ Obligations.ImageWritesAndVerification := by
  unfold Obligations.ImageWritesAndVerification
  rintro ⟨hwrite, -⟩
  have hexec : attestWaits.executes 0x7101 firmwareChunk := ⟨by decide, rfl, by decide, .inl rfl⟩
  obtain ⟨-, -, hfirst, -⟩ := hwrite attestWaits firmwareChunk hexec
  obtain ⟨-, -, hfw⟩ := hfirst rfl rfl (by decide +kernel) (by decide +kernel) (by decide +kernel) (by decide +kernel) rfl
  obtain ⟨t, op, ht, -, -, -, -, -, hbusy, -⟩ := hfw 1 (by decide +kernel) (by decide) rfl (by decide) (by decide)
  obtain ⟨hmgt, -⟩ := hbusy (.inr (by decide))
  have hcount : t.mgt.att.counted = true := by
    have h := exec_firmwareChunk
    rw [ht] at h
    exact h
  have hsame : t.mgt.att.counted = attestWaits.mgt.att.counted := congrArg (fun g => g.att.counted) hmgt
  exact absurd (hsame.symm.trans hcount) (by decide)

end Sys2Proof.Machine

namespace Sys2Proof.Machine

/-! PROOFS. Solstice: the end of a bin, the rotation that writes slots and zone tables, and the commands. -/

/-! ## The end of a bin (R34, R204, R205) -/

/-- Enough of a slot's samples learned. -/
def State.slTakes (s : State) (k : Nat) : Bool :=
  decide (0 < (s.slot k).cnt) && decide ((s.slot k).expCnt ≤ 2 * (s.slot k).cnt)

/-- A slot's bins with the correction of the bin that ends. -/
def State.slCorrected (s : State) (k : Nat) : List Int :=
  correctBins (s.slBins k) (s.slBin k (s.slTime k (s.calNow - 1)))
    ((s.slot k).acc / ((s.slot k).cnt : Rat) * (1 / (2 ^ s.cf .sol k 0 11 8 : Nat))) (s.slot k)

/-- The slot that the end of its bin leaves. -/
def State.binEnd (s : State) (k : Nat) : SolSlot :=
  storeBins (s.slBins k) (if s.slTakes k then s.slCorrected k else (s.slot k).bins)
    { s.slot k with acc := 0, cnt := 0, expCnt := 0, updates := (s.slot k).updates + b2n (s.slTakes k) }

/-- Storing bins keeps a slot's counts. -/
theorem storeBins_counts (n : Nat) (vs : List Int) (x : SolSlot) : (storeBins n vs x).acc = x.acc ∧
    (storeBins n vs x).cnt = x.cnt ∧ (storeBins n vs x).expCnt = x.expCnt ∧ (storeBins n vs x).updates = x.updates := by
  unfold storeBins
  extract_lets head put
  (repeat' split) <;> exact ⟨rfl, rfl, rfl, rfl⟩

/-- Bins that fit, some beyond 8 bits, are stored as they are. -/
theorem storeBins_of_fits {n : Nat} {vs : List Int} (x : SolSlot) (h : (vs.take n).all fits12 = true)
    (h' : (vs.take n).all (fun v => decide (-256 ≤ v) && decide (v ≤ 255)) = false) :
    storeBins n vs x = { x with bins := vs, hr := 0 } := by
  unfold storeBins
  simp only [h, h', if_true, Bool.false_eq_true, if_false]

section
variable {s : State} {k : Nat} (ha : s.alive = true) (hk : k < 64) (hc : s.backup.calValid = true)
  (hp : s.clk.pllLocked = true)
include ha hk hc hp

theorem exec_solsticeBinEnd_of_off (he : s.slEn k = false) : exec (.solsticeBinEnd k) s = .next (solLive k s) := by
  have hx : exec (.solsticeBinEnd k) s = .next (solBinEnd k s) := rfl
  rw [hx, solBinEnd, if_neg (by simp [hc, ha, hp, hk]), if_pos (by simp [he])]

theorem exec_solsticeBinEnd_of_on (he : s.slEn k = true) : ∃ u, exec (.solsticeBinEnd k) s = .next u ∧
    Noted (solLive k (updSlot k (fun _ => s.binEnd k) s)) u := by
  have hx : exec (.solsticeBinEnd k) s = .next (solBinEnd k s) := rfl
  rw [hx, solBinEnd, if_neg (by simp [hc, ha, hp, hk]), if_neg (by simp [he])]
  extract_lets x n b gain takes vs y s1
  refine ⟨_, rfl, ?_⟩
  split
  · exact report_noted ..
  · exact .refl _

end

theorem binEnd_counts (s : State) (k : Nat) : (s.binEnd k).acc = 0 ∧ (s.binEnd k).cnt = 0 ∧ (s.binEnd k).expCnt = 0 ∧
    (s.binEnd k).updates = (s.slot k).updates + b2n (s.slTakes k) :=
  storeBins_counts ..

theorem binEnd_of_takes {s : State} {k : Nat} (h : s.slTakes k = true)
    (hf : ((s.slCorrected k).take (s.slBins k)).all fits12 = true)
    (hw : ((s.slCorrected k).take (s.slBins k)).all (fun v => decide (-256 ≤ v) && decide (v ≤ 255)) = false) :
    (s.binEnd k).bins = s.slCorrected k ∧ (s.binEnd k).exp = (s.slot k).exp ∧ (s.binEnd k).hr = 0 := by
  rw [State.binEnd, h, if_pos rfl, storeBins_of_fits _ hf hw]
  exact ⟨rfl, rfl, rfl⟩

/-! ## The rotation (R209, R493) -/

theorem nvReport_frame (bank a len : Nat) (s : State) :
    ∃ un, Noted { s with clk.uncorrectable := un } (nvReport bank a len s) :=
  (foldl_memUncorrectable 8 _ s).2.2

/-- Apart from the counts of read errors, events raised and records written, t is s. -/
def ReadsNvm (s t : State) : Prop := ∃ un, Noted { s with clk.uncorrectable := un } t

theorem ReadsNvm.trans {s t u : State} (h : ReadsNvm s t) (g : ReadsNvm t u) : ReadsNvm s u := by
  obtain ⟨_, e, b, rfl⟩ := h
  obtain ⟨un, e', b', rfl⟩ := g
  exact ⟨un, e', b', rfl⟩

theorem ReadsNvm.refl (s : State) : ReadsNvm s s := ⟨s.clk.uncorrectable, .refl s⟩

theorem nvEdges_readsNvm (bank a n : Nat) (s : State) : ReadsNvm s (nvEdges bank a n s) := by
  unfold nvEdges
  extract_lets s1
  have h1 : ReadsNvm s s1 := by
    unfold s1
    split
    · exact .refl s
    · exact nvReport_frame ..
  split
  · exact h1
  · exact h1.trans (nvReport_frame ..)

theorem keepShared_eq (m : Nvm) (a n : Nat) (l : List CwWrite) : keepShared m a n l = l.filter (fun w =>
    !((w.bank, w.cw) ∈ m.bad ∧ (32 * w.cw < a ∨ a + n < 32 * w.cw + 32))) := by
  unfold keepShared
  congr 1
  funext w
  simp

/-- The operation that writes slot k, its header marked as written before the bins unless it is marked so already. -/
theorem persistSlot_spec (k : Nat) (s : State) : ∃ a pre t, ReadsNvm s t ∧
    persistSlot k s = { t with nvm := nvSubmit s.nvm 4 a } ∧ a.job = .solSlot k ∧
    (let head (st : Nat) := keepShared s.nvm (solHeadAt k) 48 (nvCws s.nvm 0 (solHeadAt k)
        (solHeader (solCfgKey (s.cw .sol k 0)) st (s.slot k).exp s.backup.opt.toNat (s.slot k).updates))
     a.cws = pre ++ keepShared s.nvm (solBinsAt k) (s.slBins k * 3 / 2)
        (nvCws s.nvm 0 (solBinsAt k) (packBins ((s.slot k).bins.take (s.slBins k)))) ++ head 2 ∧
     (pre = [] ∨ pre = head 1)) := by
  have hr : ReadsNvm s (nvEdges 0 (solBinsAt k) (s.slBins k * 3 / 2) (nvReport 0 (solHeadAt k) 48 s)) :=
    .trans (nvReport_frame ..) (nvEdges_readsNvm ..)
  have hn : (nvEdges 0 (solBinsAt k) (s.slBins k * 3 / 2) (nvReport 0 (solHeadAt k) 48 s)).nvm = s.nvm := by
    obtain ⟨un, e, b, h⟩ := hr
    rw [h]
  unfold persistSlot
  extract_lets x n cfg t old ok head body
  have ht : t.nvm = s.nvm := hn
  refine ⟨{ job := .solSlot k, cws := (if ok then [] else head 1) ++ body ++ head 2 }, if ok then [] else head 1, t, hr,
    congrArg (fun v : Nvm => ({ t with nvm := nvSubmit v 4 _ } : State)) ht, rfl, ?_⟩
  have hhead : ∀ st, head st = keepShared s.nvm (solHeadAt k) 48 (nvCws s.nvm 0 (solHeadAt k)
      (solHeader (solCfgKey (s.cw .sol k 0)) st (s.slot k).exp s.backup.opt.toNat (s.slot k).updates)) := fun st => by
    rw [← ht]
  have hbody : body = keepShared s.nvm (solBinsAt k) (s.slBins k * 3 / 2)
      (nvCws s.nvm 0 (solBinsAt k) (packBins ((s.slot k).bins.take (s.slBins k)))) := by
    rw [← ht]
  dsimp only
  rw [hbody, hhead 1, hhead 2]
  refine ⟨rfl, ?_⟩
  split
  · exact .inl rfl
  · exact .inr rfl

theorem nth_submitted {n : Nvm} {e : Nat} (op : NvOp) (hl : e < n.queue.length) (hb : nvBusy n e = false) :
    nth (nvSubmit n e op).queue e = [op] := by
  have hempty : nth n.queue e = [] := by simpa [nvBusy] using hb
  rw [nvSubmit, nth_upd_self _ _ _ hl, hempty]
  rfl

/-- The turn of slot k: its operation waits in entry 4, and the zone table follows it. -/
theorem exec_solsticePersist_slot {s : State} {k : Nat} (ha : s.alive = true) (hb : nvBusy s.nvm 4 = false)
    (hh : s.nvm.halted = false) (hc : s.bushel.closed = false) (hl : 4 < s.nvm.queue.length)
    (hk : ((List.range 64).map (fun i => (s.rood.rotSlot + i) % 64)).find? (fun j => s.slEn j) = some k) :
    exec .solsticePersist s =
      .next { persistSlot k s with rood := { (persistSlot k s).rood with rotSlot := (k + 1) % 64, zoneDue := true } } := by
  have hx : exec .solsticePersist s = .next (solPersist s) := rfl
  have hnext : persistNextSlot s = { persistSlot k s with rood.rotSlot := (k + 1) % 64 } := by rw [persistNextSlot, hk]
  obtain ⟨a, pre, t, -, hp, -⟩ := persistSlot_spec k s
  have hq : nth (persistSlot k s).nvm.queue 4 = [a] := by
    rw [hp]
    exact nth_submitted a hl hb
  have hbusy : nvBusy (persistSlot k s).nvm 4 = true := by rw [nvBusy, hq]; rfl
  rw [hx, solPersist, if_neg (by simp [ha, hb, hh, hc]), hnext]
  exact congrArg Host.Outcome.next (if_pos hbusy)

/-- The operation that writes a zone table. -/
def zoneOp (s : State) (z : Nat) : NvOp :=
  { job := .solZone z
    cws := nvCws s.nvm 0 (solProbAt z) ((s.zone z).prob.flatMap le8) ++ nvCws s.nvm 0 (solZoneHeadAt z)
      (le32 (s.zone z).occHours ++ le8 2 ++ zeros 3 ++ le32 s.backup.opt.toNat ++ zeros 20) }

theorem persistNextZone_eq (s : State) : persistNextZone s = { s with
    rood := { s.rood with rotZone := (s.rood.rotZone + 1) % 32, zoneDue := false }
    nvm := nvSubmit s.nvm 4 (zoneOp s s.rood.rotZone) } := rfl

theorem exec_solsticePersist_zone {s : State} (ha : s.alive = true) (hb : nvBusy s.nvm 4 = false)
    (hh : s.nvm.halted = false) (hc : s.bushel.closed = false) (hk : ∀ k, k < 64 → s.slEn k = false) :
    exec .solsticePersist s = .next (persistNextZone s) := by
  have hx : exec .solsticePersist s = .next (solPersist s) := rfl
  have hnone : ((List.range 64).map (fun i => (s.rood.rotSlot + i) % 64)).find? (fun j => s.slEn j) = none := by
    rw [List.find?_eq_none]
    intro j hj
    obtain ⟨i, -, rfl⟩ := List.mem_map.mp hj
    simp [hk _ (Nat.mod_lt _ (by decide : 0 < 64))]
  have hnext : persistNextSlot s = s := by rw [persistNextSlot, hnone]
  rw [hx, solPersist, if_neg (by simp [ha, hb, hh, hc]), hnext]
  exact congrArg Host.Outcome.next (if_neg (by simp [hb]))

/-- The management store leaves the other entries of the write queue. -/
theorem mgtTurn_queue_ne {e : Nat} (s : State) (h : e ≠ 5) : nth (mgtTurn s).nvm.queue e = nth s.nvm.queue e := by
  unfold mgtTurn
  split
  · exact nth_set_ne _ _ _ _ h
  · rfl

/-- What is queued for entry 4 stays there while the rest of a slot's completion runs. -/
def ZoneQueued (s u : State) : Prop := ∃ b : NvOp, b.job = .solZone s.rood.rotZone ∧ nth u.nvm.queue 4 = [b] ∧
  b.cws = nvCws u.nvm 0 (solProbAt s.rood.rotZone) ((s.zone s.rood.rotZone).prob.flatMap le8) ++
    nvCws u.nvm 0 (solZoneHeadAt s.rood.rotZone)
      (le32 (s.zone s.rood.rotZone).occHours ++ le8 2 ++ zeros 3 ++ le32 s.backup.opt.toNat ++ zeros 20) ∧
  u.rood = { s.rood with rotZone := (s.rood.rotZone + 1) % 32, zoneDue := false }

theorem nvCws_congr {m n : Nvm} (h0 : m.bank0 = n.bank0) (h1 : m.bank1 = n.bank1) (bank a : Nat) (bs : List Byte) :
    nvCws m bank a bs = nvCws n bank a bs := by
  have hb : m.bank bank = n.bank bank := by
    unfold Nvm.bank
    rw [h0, h1]
  unfold nvCws nvRead
  rw [hb]

/-- The zone table is queued from s; then u differs in what the write of a zone table does not touch. -/
theorem zoneQueued_of_frame {s u : State} (hl : 4 < s.nvm.queue.length) (hb : nvBusy s.nvm 4 = false)
    (hq : nth u.nvm.queue 4 = nth (persistNextZone s).nvm.queue 4) (h0 : u.nvm.bank0 = s.nvm.bank0)
    (h1 : u.nvm.bank1 = s.nvm.bank1) (hr : u.rood = (persistNextZone s).rood) : ZoneQueued s u := by
  refine ⟨zoneOp s s.rood.rotZone, rfl, hq.trans (nth_submitted _ hl hb), ?_, hr⟩
  rw [nvCws_congr h0 h1, nvCws_congr h0 h1]
  rfl

/-- A slot's last codeword has been read back: the zone table of the same turn follows. -/
theorem nvComplete_slot {s : State} {k : Nat} (hz : s.rood.zoneDue = true) (hc : s.bushel.closed = false)
    (hl : 4 < s.nvm.queue.length) (hb : nvBusy s.nvm 4 = false) (hh : s.bus.held = []) (hw : s.bus.waiting = none) :
    ZoneQueued s (nvComplete 4 (.solSlot k) true s) := by
  have hdone (t : State) (ht : t.rood.zoneDue = true) (htc : t.bushel.closed = false) :
      nvDone (.solSlot k) true t = persistNextZone t := by
    change solSlotDone k true t = _
    rw [solSlotDone, if_pos rfl, ht, htc]
    rfl
  unfold nvComplete
  split
  · rw [hdone s hz hc]
    obtain ⟨q, mr, at', h⟩ := mgtTurn_frame (persistNextZone s)
    have hq := mgtTurn_queue_ne (e := 4) (persistNextZone s) (by decide)
    rw [busResume_of_none (by rw [h]; exact hw), busTurn_of_none (by rw [h]; exact hh)]
    exact zoneQueued_of_frame hl hb hq (by rw [h]; rfl) (by rw [h]; rfl) (by rw [h])
  · extract_lets mb nv s1
    have hs1 : s1 = mgtTurn (persistNextZone { s with
        mbox.waiting := none, nvm.orphans := upd s.nvm.orphans 4 (· - 1) }) :=
      congrArg mgtTurn (hdone _ hz hc)
    obtain ⟨q, mr, at', h⟩ := mgtTurn_frame (persistNextZone { s with
        mbox.waiting := none, nvm.orphans := upd s.nvm.orphans 4 (· - 1) })
    have hq := mgtTurn_queue_ne (e := 4) (persistNextZone { s with
        mbox.waiting := none, nvm.orphans := upd s.nvm.orphans 4 (· - 1) }) (by decide)
    rw [← hs1] at h hq
    rw [busTurn_of_none (by rw [h]; exact hh)]
    exact zoneQueued_of_frame hl hb hq (by rw [h]; rfl) (by rw [h]; rfl) (by rw [h]; rfl)

theorem writeCw_frame (w : CwWrite) (s : State) : ∃ nv fl, writeCw w s = { s with nvm := nv, mgt.flash := fl } ∧
    nv.queue = s.nvm.queue := by
  unfold writeCw
  split
  · refine ⟨_, s.mgt.flash, rfl, ?_⟩
    unfold nvWriteCw Nvm.setBank
    dsimp only
    split <;> rfl
  · exact ⟨s.nvm, _, rfl, rfl⟩

theorem exec_slotCodeword {s : State} {k : Nat} {op : NvOp} {w : CwWrite} (ha : s.alive = true) (hs : s.nvServed = some 4)
    (hq : nth s.nvm.queue 4 = [op]) (hj : op.job = .solSlot k) (hc : op.cws = [w]) (hz : s.rood.zoneDue = true)
    (hb : s.bushel.closed = false) (hl : 4 < s.nvm.queue.length) (hh : s.bus.held = []) (hw : s.bus.waiting = none) :
    ∃ u, exec (.nvCodewordWrite true false) s = .next u ∧ ZoneQueued s u := by
  have hr : s.outOfReset = true := by
    unfold State.outOfReset
    split
    · next h => simp [State.alive, h] at ha
    · next h => simp [State.alive, h] at ha
    · rfl
  have hx := exec_nvLast hr hs hq true hc
  rw [if_pos rfl, hj] at hx
  refine ⟨_, hx, ?_⟩
  obtain ⟨nv, fl, hf, hnq⟩ := writeCw_frame w { s with nvm := nvTurn 4 s.nvm }
  rw [nvTurn_queue] at hnq
  have hempty : nth (nv.queue.set 4 []) 4 = [] := nth_set_empty 4
  rw [hf]
  have h := nvComplete_slot (k := k) (s := { s with nvm := { nv with queue := nv.queue.set 4 [] }, mgt.flash := fl }) hz hb
    (by simpa [hnq] using hl) (by rw [nvBusy, hempty]; rfl) hh hw
  exact h

/-! ## The commands (R362) -/

def solStatusCmd (m : Msg) (s : State) : State × Reply :=
  if !slotArg m then (s, .st stBadArg)
  else
    let k := getB m.payload 0
    let x := s.slot k
    (s, .ok (leW (s.cw .sol k 0) ++ le8 (b2n x.slSat + at' (b2n (s.slPaused k)) 1) ++ le8 (wrap 8 x.exp) ++
      zeros 2 ++ le32 x.updates))

theorem exec_solStatus (m : Msg) (s : State) :
    exec (.solStatus m) s = .next (command { code := 0x2201, len := fun n => n == 4 } m solStatusCmd s) := rfl

def solReadBinsCmd (m : Msg) (s : State) : State × Reply :=
  if !slotArg m then (s, .st stBadArg) else (s, .ok (s.solBinsBytes (getB m.payload 0)))

theorem exec_solReadBins (m : Msg) (s : State) :
    exec (.solReadBins m) s = .next (command { code := 0x2202, len := fun n => n == 4 } m solReadBinsCmd s) := rfl

def solWriteBinsCmd (m : Msg) (s : State) : State × Reply :=
  let k := getB m.payload 0
  let n := getH m.payload 6
  let vs := (List.range n).map (fun i => sext 16 (getH m.payload (8 + 2 * i)))
  let e := sext 8 (getB m.payload 4)
  if !slotArg m ∨ !padOk m 5 1 ∨ n ≠ s.slBins k ∨ !vs.all fits12 ∨ e < -32 ∨ 31 < e then (s, .st stBadArg)
  else if !s.slPaused k then (s, .st stLocked)
  else (updSlot k (fun x => { x with bins := vs ++ List.replicate (2016 - n) 0, exp := e, hr := 0 }) s, .st stOk)

/-- `SOL.WRITE_BINS`, whose length follows from the number of bins. -/
def solWriteBinsSpec : CmdSpec :=
  { code := 0x2203, len := fun n => decide (8 ≤ n), fits := fun p => p.length == 8 + 2 * getH p 6 }

theorem exec_solWriteBins (m : Msg) (s : State) :
    exec (.solWriteBins m) s = .next (command solWriteBinsSpec m solWriteBinsCmd s) := rfl

def solDiscardCmd (m : Msg) (s : State) : State × Reply :=
  if !slotArg m then (s, .st stBadArg) else (solDiscard (getB m.payload 0) s, .st stOk)

theorem exec_solDiscard (m : Msg) (s : State) :
    exec (.solDiscard m) s = .next (command { code := 0x2204, len := fun n => n == 4 } m solDiscardCmd s) := rfl

def solReadProbCmd (m : Msg) (s : State) : State × Reply :=
  if 31 < getB m.payload 0 ∨ !padOk m 1 3 then (s, .st stBadArg)
  else (s, .ok ((s.zone (getB m.payload 0)).prob.flatMap le8))

theorem exec_solReadProb (m : Msg) (s : State) :
    exec (.solReadProb m) s = .next (command { code := 0x2205, len := fun n => n == 4 } m solReadProbCmd s) := rfl

section
variable {m : Msg} {s : State}

theorem solStatus_answers (h : s.executes 0x2201 m) (hp : m.plain 4) (ha : slotArg m = true) :
    Answers (.solStatus m) s 0x2201 m 0 (leW (s.cw .sol (getB m.payload 0) 0) ++
      le8 (b2n (s.slot (getB m.payload 0)).slSat + 2 * b2n (s.slPaused (getB m.payload 0))) ++
      le8 (wrap 8 (s.slot (getB m.payload 0)).exp) ++ zeros 2 ++ le32 (s.slot (getB m.payload 0)).updates) s := by
  refine answers_of_body (exec_solStatus m s) h hp rfl rfl rfl ?_
  have hbit (b : Bool) : at' (b2n b) 1 = 2 * b2n b := by cases b <;> rfl
  rw [solStatusCmd, if_neg (by simp [ha])]
  dsimp only
  rw [hbit]
  rfl

theorem solReadBins_answers (h : s.executes 0x2202 m) (hp : m.plain 4) (ha : slotArg m = true) :
    Answers (.solReadBins m) s 0x2202 m 0 (s.solBinsBytes (getB m.payload 0)) s := by
  refine answers_of_body (exec_solReadBins m s) h hp rfl rfl rfl ?_
  rw [solReadBinsCmd, if_neg (by simp [ha])]
  rfl

/-- A slot's bins are written while it is paused, and only then. -/
theorem solWriteBins_answers (h : s.executes 0x2203 m) (hp : m.plain (8 + 2 * s.slBins (getB m.payload 0)))
    (ha : slotArg m = true) (hpad : padOk m 5 1 = true) (hn : getH m.payload 6 = s.slBins (getB m.payload 0))
    (h1 : -32 ≤ sext 8 (getB m.payload 4)) (h2 : sext 8 (getB m.payload 4) ≤ 31)
    (hf : ((List.range (s.slBins (getB m.payload 0))).all (fun i => fits12 (sext 16 (getH m.payload (8 + 2 * i))))) = true) :
    (s.slPaused (getB m.payload 0) = true → Answers (.solWriteBins m) s 0x2203 m 0 []
      (updSlot (getB m.payload 0) (fun x => { x with
        bins := (List.range (s.slBins (getB m.payload 0))).map (fun i => sext 16 (getH m.payload (8 + 2 * i))) ++
          List.replicate (2016 - s.slBins (getB m.payload 0)) 0
        exp := sext 8 (getB m.payload 4), hr := 0 }) s)) ∧
    (s.slPaused (getB m.payload 0) = false → Answers (.solWriteBins m) s 0x2203 m 0x0201 [] s) := by
  have hlen : solWriteBinsSpec.len (8 + 2 * s.slBins (getB m.payload 0)) = true := by simp [solWriteBinsSpec]
  have hfit : solWriteBinsSpec.fits m.payload = true := by simp [solWriteBinsSpec, hp.2, hn]
  have hargs (t : State) (ht : t.slBins (getB m.payload 0) = s.slBins (getB m.payload 0)) :
      ¬(!slotArg m ∨ !padOk m 5 1 ∨ getH m.payload 6 ≠ t.slBins (getB m.payload 0) ∨
        !((List.range (getH m.payload 6)).map (fun i => sext 16 (getH m.payload (8 + 2 * i)))).all fits12 ∨
        sext 8 (getB m.payload 4) < -32 ∨ 31 < sext 8 (getB m.payload 4)) := by
    have hfits : ((List.range (getH m.payload 6)).map (fun i => sext 16 (getH m.payload (8 + 2 * i)))).all fits12 = true := by
      rw [hn, List.all_map]
      exact hf
    rw [ha, hpad, hfits, hn, ht]
    simp
    omega
  have hcmd (t : State) (ht : t.slBins (getB m.payload 0) = s.slBins (getB m.payload 0)) : solWriteBinsCmd m t =
      if !t.slPaused (getB m.payload 0) then (t, .st stLocked)
      else (updSlot (getB m.payload 0) (fun x => { x with
        bins := (List.range (getH m.payload 6)).map (fun i => sext 16 (getH m.payload (8 + 2 * i))) ++
          List.replicate (2016 - getH m.payload 6) 0
        exp := sext 8 (getB m.payload 4), hr := 0 }) t, .st stOk) := if_neg (hargs t ht)
  rw [hn] at hcmd
  have hb := hcmd (bodyState 0x2203 s) rfl
  have hp' : (bodyState 0x2203 s).slPaused (getB m.payload 0) = s.slPaused (getB m.payload 0) := rfl
  rw [hp'] at hb
  refine ⟨fun hpause => ?_, fun hpause => ?_⟩
  · rw [hpause, if_neg (by decide)] at hb
    exact answers_of_effect (exec_solWriteBins m s) h hp hlen hfit rfl hb ⟨s.evt, rfl⟩
  · rw [hpause, if_pos (by decide)] at hb
    exact answers_of_body (exec_solWriteBins m s) h hp hlen hfit rfl hb

theorem solDiscard_answers (h : s.executes 0x2204 m) (hp : m.plain 4) (ha : slotArg m = true) :
    Answers (.solDiscard m) s 0x2204 m 0 [] (updSlot (getB m.payload 0) (fun _ => {}) s) := by
  have hb : solDiscardCmd m (bodyState 0x2204 s) = (solDiscard (getB m.payload 0) (bodyState 0x2204 s), .done 0 []) :=
    if_neg (by simp [ha])
  exact answers_of_effect (exec_solDiscard m s) h hp rfl rfl rfl hb ⟨s.evt, rfl⟩

theorem solReadProb_answers (h : s.executes 0x2205 m) (hp : m.plain 4) (hk : getB m.payload 0 < 32) (hpad : padOk m 1 3 = true) :
    Answers (.solReadProb m) s 0x2205 m 0 ((s.zone (getB m.payload 0)).prob.flatMap le8) s := by
  refine answers_of_body (exec_solReadProb m s) h hp rfl rfl rfl ?_
  have hno : ¬(31 < getB m.payload 0 ∨ !padOk m 1 3) := by
    simp [hpad]
    omega
  rw [solReadProbCmd, if_neg hno]
  rfl

end

/-- Settles O19: the end of a slot's bin, the rotation through entry 4, and the commands, each by its own rule. -/
theorem solsticeLearning : Obligations.SolsticeLearning := by
  unfold Obligations.SolsticeLearning
  refine ⟨fun s ha => ⟨fun k hk hlen hc hp he => ?_, fun k hk hc hp he => exec_solsticeBinEnd_of_off ha hk hc hp he,
    fun k hb hh hcl hl hk => ?_, fun hl hcl hh => ⟨fun hoff hb => ?_, fun k op w hs hq hj hcw hz hheld hwait =>
      exec_slotCodeword ha hs hq hj hcw hz hcl hl hheld hwait⟩⟩,
    fun s m => ⟨solStatus_answers, solReadBins_answers, solWriteBins_answers, solDiscard_answers, solReadProb_answers⟩⟩
  · obtain ⟨u, hx, e, bu, hu⟩ := exec_solsticeBinEnd_of_on ha hk hc hp he
    obtain ⟨hacc, hcnt, hexp, hupd⟩ := binEnd_counts s k
    have hslot : u.slot k = s.binEnd k := by
      rw [hu]
      exact nth_upd_self _ _ _ hlen
    refine ⟨u, hx, hslot ▸ hacc, hslot ▸ hcnt, hslot ▸ hexp, fun h1 h2 => ?_, fun h => ?_,
      by rw [hu]; rfl, fun j hj => ?_, ?_⟩
    · have ht : s.slTakes k = true := by
        simp only [State.slTakes, Bool.and_eq_true, decide_eq_true_eq]
        exact ⟨h1, h2⟩
      rw [hslot]
      refine ⟨by rw [hupd, ht]; rfl, fun y hy hf hw => ?_⟩
      subst hy
      exact binEnd_of_takes ht hf hw
    · have ht : s.slTakes k = false := by
        simp only [State.slTakes, Bool.and_eq_false_iff, decide_eq_false_iff_not]
        omega
      rw [hslot, hupd, ht]
      rfl
    · rw [hu]
      exact nth_upd_ne _ _ _ _ hj
    · rw [hu]
      exact ⟨_, _, rfl⟩
  · obtain ⟨a, pre, t, ⟨un, e, bu, ht⟩, hps, hj, hcws, hpre⟩ := persistSlot_spec k s
    refine ⟨_, a, pre, exec_solsticePersist_slot ha hb hh hcl hl hk, hj, ?_, ?_, ?_, ?_⟩
    · rw [hcws]
      simp only [keepShared_eq]
    · simpa only [keepShared_eq] using hpre
    · rw [hps]
      exact nth_submitted a hl hb
    · rw [hps, ht]
      exact ⟨e, bu, rfl⟩
  · exact ⟨_, exec_solsticePersist_zone ha hb hh hcl hoff,
      zoneQueued_of_frame hl hb rfl rfl rfl rfl⟩

end Sys2Proof.Machine

namespace Sys2Proof.Machine

/-! PROOFS. Rood: how a sample stores its stages, and the law's samples as the stages they store. -/

/-! ## Stages (R160-R163) -/

/-- Stage i of e is stored, with the mantissas ms, from what d holds, the rounded values qs and the exact values xs. -/
def Stores (d : LoopDyn) (fresh : Bool) (i : Nat) (qs : List Int) (xs : List Rat) (e : LoopDyn) (ms : List Int) : Prop :=
  let fits (a : Int) (xs : List Rat) : Prop := ∀ x, x ∈ xs → fits24 (rneQ (x / pow2 a)) = true
  let b := nth d.exps i
  let h := nth d.hr i
  let now (b' : Int) (h' : Nat) (ms' : List Int) : Prop := nth e.exps i = b' ∧ nth e.hr i = h' ∧ ms = ms'
  let small : Prop := ∀ v, v ∈ qs → -1048576 ≤ v ∧ v ≤ 1048575
  let wide : Prop := ∃ v, v ∈ qs ∧ fits24 v = false
  (fresh = false →
    (¬ wide → small → h < 15 → now b (h + 1) qs) ∧
    (¬ wide → small → 15 ≤ h → -32 < b → now (b - 1) 0 (qs.map (fun v => 2 * v))) ∧
    (¬ wide → small → 15 ≤ h → b ≤ -32 → now b 15 qs) ∧
    (¬ wide → ¬ small → now b 0 qs) ∧
    (wide → b < 31 → now (b + 1) 0 (qs.map (fun v => satS 24 (v.fdiv 2)))) ∧
    (wide → 31 ≤ b → now b 0 (qs.map (satS 24)))) ∧
  (fresh = true → ∃ a : Int, -32 ≤ a ∧ a ≤ 31 ∧ now a 0 (xs.map (fun x => satS 24 (rneQ (x / pow2 a)))) ∧
    (∀ c : Int, -32 ≤ c → c < a → ¬ fits c xs) ∧ (a < 31 → fits a xs))

/-- The exponents a stage may have, in their order. -/
def stageExps : List Int := (List.range 64).map (fun (k : Nat) => (Int.ofNat k) - 32)

theorem stageExps_getElem (k : Nat) (h : k < stageExps.length) : stageExps[k] = (k : Int) - 32 := by
  simp [stageExps]

/-- R163: a fresh stage takes the smallest exponent at which its values fit. -/
theorem freshExp_spec (xs : List Rat) : -32 ≤ freshExp xs ∧ freshExp xs ≤ 31 ∧
    (∀ c : Int, -32 ≤ c → c < freshExp xs → ¬ ∀ x ∈ xs, fits24 (rneQ (x / pow2 c)) = true) ∧
    (freshExp xs < 31 → ∀ x ∈ xs, fits24 (rneQ (x / pow2 (freshExp xs))) = true) := by
  have hlen : stageExps.length = 64 := by simp [stageExps]
  have hf : freshExp xs = (stageExps.find? (fun e => xs.all (fun x => fits24 (qAt e x)))).getD 31 := rfl
  rw [hf]
  cases hr : stageExps.find? (fun e => xs.all (fun x => fits24 (qAt e x))) with
  | none =>
    refine ⟨by decide, by decide, fun c h1 h2 hc => ?_, fun h => absurd h (by decide)⟩
    have hn := List.find?_eq_none.mp hr c (by
      refine List.mem_map.mpr ⟨(c + 32).toNat, List.mem_range.mpr ?_, ?_⟩
      · simp at h2; omega
      · simp; omega)
    exact hn (List.all_eq_true.mpr hc)
  | some a =>
    obtain ⟨ha, k, hk, he, hlt⟩ := List.find?_eq_some_iff_getElem.mp hr
    rw [stageExps_getElem] at he
    simp only [Option.getD_some]
    refine ⟨by omega, by omega, fun c h1 h2 hc => ?_, fun _ => List.all_eq_true.mp ha⟩
    have hj := hlt (c + 32).toNat (by omega)
    rw [stageExps_getElem, show (((c + 32).toNat : Nat) : Int) - 32 = c by omega] at hj
    simp only [Bool.not_eq_true'] at hj
    exact absurd (List.all_eq_true.mpr hc) (by simpa [qAt] using hj)

/-- What `putStage` stores in stage i. -/
def LoopDyn.newStage (d : LoopDyn) (i : Nat) (fresh : Bool) (qs : List Int) (xs : List Rat) : Stage :=
  if fresh then storeFresh xs else storeStage (nth d.exps i) (nth d.hr i) qs

/-- R161-R163: the exponent, the counter and the mantissas of the stage that `LoopDyn.newStage` names. -/
theorem stores_of_newStage {d e : LoopDyn} {fresh : Bool} {i : Nat} {qs : List Int} {xs : List Rat} {ms : List Int}
    (hb : nth e.exps i = (d.newStage i fresh qs xs).exp) (hh : nth e.hr i = (d.newStage i fresh qs xs).hr)
    (hm : ms = (d.newStage i fresh qs xs).vals) : Stores d fresh i qs xs e ms := by
  unfold Stores
  intro fits b h now small wide
  have hnow (r : Stage) (hr : d.newStage i fresh qs xs = r) : now r.exp r.hr r.vals := by
    rw [hr] at hb hh hm
    exact ⟨hb, hh, hm⟩
  constructor
  · intro hf
    have hs : d.newStage i fresh qs xs = storeStage b h qs := by rw [LoopDyn.newStage, hf]; rfl
    have hw : ¬ wide ↔ qs.all fits24 = true := by simp [wide]
    have hsm : small ↔ qs.all (fun v => decide (-1048576 ≤ v) && decide (v ≤ 1048575)) = true := by simp [small]
    refine ⟨fun w s1 h1 => ?_, fun w s1 h1 h2 => ?_, fun w s1 h1 h2 => ?_, fun w s1 => ?_, fun w h1 => ?_, fun w h1 => ?_⟩
    · exact hnow _ (by rw [hs, storeStage, if_pos (hw.mp w), if_pos (hsm.mp s1), if_pos h1])
    · exact hnow _ (by rw [hs, storeStage, if_pos (hw.mp w), if_pos (hsm.mp s1), if_neg (by omega), if_pos h2])
    · exact hnow _ (by rw [hs, storeStage, if_pos (hw.mp w), if_pos (hsm.mp s1), if_neg (by omega), if_neg (by omega)])
    · exact hnow _ (by rw [hs, storeStage, if_pos (hw.mp w), if_neg (fun h => s1 (hsm.mpr h))])
    · obtain ⟨h2, h3, h4⟩ := hnow _ (by rw [hs, storeStage, if_neg (fun h => hw.mpr h w), if_pos h1])
      exact ⟨h2, h3, h4.trans (List.map_map ..)⟩
    · exact hnow _ (by rw [hs, storeStage, if_neg (fun h => hw.mpr h w), if_neg (by omega)])
  · intro hf
    obtain ⟨h1, h2, h3, h4⟩ := freshExp_spec xs
    obtain ⟨he, hr, hv⟩ := hnow (storeFresh xs) (by rw [LoopDyn.newStage, hf, if_pos rfl])
    exact ⟨freshExp xs, h1, h2, ⟨he, hr, hv.trans (List.map_map ..)⟩, h3, h4⟩

theorem newStage_vals_length {d : LoopDyn} {i : Nat} {fresh : Bool} {qs : List Int} {xs : List Rat}
    (h : fresh = true ∨ qs.length = xs.length) : (d.newStage i fresh qs xs).vals.length = xs.length := by
  unfold LoopDyn.newStage storeFresh storeStage
  cases fresh with
  | true => simp
  | false =>
    have h : qs.length = xs.length := by simpa using h
    (repeat' split) <;> simp_all

/-- Storing stage i leaves every other stage's exponent and counter, and stores i's. -/
theorem putStage_exps (i : Nat) (fresh : Bool) (qs : List Int) (xs : List Rat) (d : LoopDyn) :
    (putStage i fresh qs xs d).exps = d.exps.set i (d.newStage i fresh qs xs).exp ∧
    (putStage i fresh qs xs d).hr = d.hr.set i (d.newStage i fresh qs xs).hr := by
  unfold putStage
  extract_lets r v d1
  split <;> exact ⟨rfl, rfl⟩

/-- Apart from its stages, t is d. -/
def LoopDyn.OnlyStages (d t : LoopDyn) : Prop := ∃ ex hr fr m sp er i ff v w sat clip,
  t = { d with exps := ex, hr := hr, fresh := fr, meas := m, sp := sp, err := er, int := i, ff := ff, demV := v,
               demW := w, satStg := sat, clipStg := clip }

theorem LoopDyn.OnlyStages.trans {a b c : LoopDyn} (h : a.OnlyStages b) (g : b.OnlyStages c) : a.OnlyStages c := by
  obtain ⟨_, _, _, _, _, _, _, _, _, _, _, _, rfl⟩ := h
  obtain ⟨_, _, _, _, _, _, _, _, _, _, _, _, rfl⟩ := g
  exact ⟨_, _, _, _, _, _, _, _, _, _, _, _, rfl⟩

theorem putStage_onlyStages (i : Nat) (fresh : Bool) (qs : List Int) (xs : List Rat) (d : LoopDyn) :
    d.OnlyStages (putStage i fresh qs xs d) := by
  unfold putStage
  extract_lets r v d1
  split <;> exact ⟨_, _, _, _, _, _, _, _, _, _, _, _, rfl⟩

/-- The mantissas of a stage. -/
def LoopDyn.mant (d : LoopDyn) : Nat → List Int
  | 0 => [d.meas]
  | 1 => [d.sp]
  | 2 => [d.err]
  | 3 => [d.int]
  | 4 => [d.ff]
  | _ => [d.demV, d.demW]

/-- Stage j of t is that of d. -/
def LoopDyn.KeepsStage (d : LoopDyn) (j : Nat) (t : LoopDyn) : Prop :=
  nth t.exps j = nth d.exps j ∧ nth t.hr j = nth d.hr j ∧ t.mant j = d.mant j

theorem LoopDyn.KeepsStage.trans {a b c : LoopDyn} {j : Nat} (h : a.KeepsStage j b) (g : b.KeepsStage j c) : a.KeepsStage j c := by
  obtain ⟨h1, h2, h3⟩ := h
  obtain ⟨g1, g2, g3⟩ := g
  exact ⟨g1.trans h1, g2.trans h2, g3.trans h3⟩

theorem putStage_mant_self {i : Nat} {fresh : Bool} {qs : List Int} {xs : List Rat} {d : LoopDyn}
    (h : (d.newStage i fresh qs xs).vals.length = if i < 5 then 1 else 2) :
    (putStage i fresh qs xs d).mant i = (d.newStage i fresh qs xs).vals := by
  have one {vs : List Int} (hv : vs.length = 1) : [nth vs 0] = vs := by
    obtain ⟨a, rfl⟩ := List.length_eq_one_iff.mp hv
    rfl
  have two {vs : List Int} (hv : vs.length = 2) : [nth vs 0, nth vs 1] = vs := by
    obtain ⟨a, b, rfl⟩ := List.length_eq_two.mp hv
    rfl
  match i with
  | 0 => exact one h
  | 1 => exact one h
  | 2 => exact one h
  | 3 => exact one h
  | 4 => exact one h
  | n + 5 => exact two (h.trans (if_neg (by omega)))

theorem putStage_mant_ne {i j : Nat} (fresh : Bool) (qs : List Int) (xs : List Rat) (d : LoopDyn) (hi : i ≤ 5) (hj : j ≤ 5)
    (h : j ≠ i) : (putStage i fresh qs xs d).mant j = d.mant j := by
  unfold putStage
  extract_lets r v d1
  interval_cases i <;> interval_cases j <;> simp [LoopDyn.mant, d1] at h ⊢

theorem putStage_keepsStage {i j : Nat} (fresh : Bool) (qs : List Int) (xs : List Rat) (d : LoopDyn) (hi : i ≤ 5) (hj : j ≤ 5)
    (h : j ≠ i) : d.KeepsStage j (putStage i fresh qs xs d) := by
  obtain ⟨he, hr⟩ := putStage_exps i fresh qs xs d
  refine ⟨?_, ?_, putStage_mant_ne fresh qs xs d hi hj h⟩
  · rw [he, nth_set_ne _ _ _ _ h]
  · rw [hr, nth_set_ne _ _ _ _ h]

/-! ## Storing several stages -/

/-- A stage that a sample stores: whether it is fresh, the rounded values and the exact ones. -/
structure Put where
  stage : Nat
  fresh : Bool
  qs : List Int
  xs : List Rat

/-- Storing the stages of a sample one after another. -/
def putAll (ps : List Put) (d : LoopDyn) : LoopDyn := ps.foldl (fun d p => putStage p.stage p.fresh p.qs p.xs d) d

/-- The stage is one of the six, with as many values as it has mantissas. -/
def Put.Fits (p : Put) : Prop :=
  p.stage ≤ 5 ∧ p.xs.length = (if p.stage < 5 then 1 else 2) ∧ (p.fresh = true ∨ p.qs.length = p.xs.length)

theorem putAll_onlyStages (ps : List Put) (d : LoopDyn) : d.OnlyStages (putAll ps d) :=
  List.foldlRecOn (motive := fun t : LoopDyn => d.OnlyStages t) _ _ ⟨_, _, _, _, _, _, _, _, _, _, _, _, rfl⟩
    fun _ ht _ _ => ht.trans (putStage_onlyStages ..)

theorem putAll_keepsStage {ps : List Put} {d : LoopDyn} {j : Nat} (hj : j ≤ 5) (hp : ∀ p ∈ ps, p.stage ≤ 5 ∧ j ≠ p.stage) :
    d.KeepsStage j (putAll ps d) :=
  List.foldlRecOn (motive := fun t : LoopDyn => d.KeepsStage j t) _ _ ⟨rfl, rfl, rfl⟩ fun _ ht p h =>
    ht.trans (putStage_keepsStage _ _ _ _ (hp p h).1 hj (hp p h).2)

/-- R160-R163: each stage of a sample is stored from what the loop held before the sample. -/
theorem putAll_stores {ps : List Put} {d t : LoopDyn} (h6 : t.exps.length = 6) (h6' : t.hr.length = 6)
    (hn : (ps.map Put.stage).Nodup) (hf : ∀ p ∈ ps, p.Fits) (hk : ∀ p ∈ ps, d.KeepsStage p.stage t) (p : Put) (hp : p ∈ ps) :
    Stores d p.fresh p.stage p.qs p.xs (putAll ps t) ((putAll ps t).mant p.stage) := by
  induction ps generalizing t with
  | nil => cases hp
  | cons a ps ih =>
    obtain ⟨ha, hn⟩ := List.nodup_cons.mp hn
    obtain ⟨a5, alen, afr⟩ := hf a List.mem_cons_self
    obtain ⟨he, hr⟩ := putStage_exps a.stage a.fresh a.qs a.xs t
    have hne (q : Put) (hq : q ∈ ps) : a.stage ≠ q.stage := fun e => ha (e ▸ List.mem_map_of_mem hq)
    rcases List.mem_cons.mp hp with rfl | hp
    · obtain ⟨k1, k2, k3⟩ := putAll_keepsStage (d := putStage p.stage p.fresh p.qs p.xs t) a5
        fun q hq => ⟨(hf q (List.mem_cons_of_mem _ hq)).1, hne q hq⟩
      obtain ⟨d1, d2, -⟩ := hk p List.mem_cons_self
      have hs : d.newStage p.stage p.fresh p.qs p.xs = t.newStage p.stage p.fresh p.qs p.xs := by
        rw [LoopDyn.newStage, LoopDyn.newStage, d1, d2]
      have hm := putStage_mant_self (i := p.stage) (d := t) ((newStage_vals_length afr).trans alen)
      refine stores_of_newStage (k1.trans ?_) (k2.trans ?_) (k3.trans (hm.trans (congrArg _ hs.symm)))
      · rw [he, hs, nth_set_self _ _ _ (by omega)]
      · rw [hr, hs, nth_set_self _ _ _ (by omega)]
    · refine ih (t := putStage a.stage a.fresh a.qs a.xs t) (by simp [he, h6]) (by simp [hr, h6']) hn
        (fun q hq => hf q (List.mem_cons_of_mem _ hq)) (fun q hq => ?_) hp
      exact (hk q (List.mem_cons_of_mem _ hq)).trans
        (putStage_keepsStage _ _ _ _ a5 (hf q (List.mem_cons_of_mem _ hq)).1 (hne q hq).symm)

/-- A stage that has been stored stays so. -/
theorem Stores.keeps {d e t : LoopDyn} {fresh : Bool} {i : Nat} {qs : List Int} {xs : List Rat}
    (h : Stores d fresh i qs xs e (e.mant i)) (g : e.KeepsStage i t) : Stores d fresh i qs xs t (t.mant i) := by
  obtain ⟨g1, g2, g3⟩ := g
  unfold Stores
  rw [g1, g2, g3]
  exact h

/-! ## The law (R165-R169, R172) -/

/-- The values of a sample with a valid measurement: the inputs of the stages, and what the law makes of them. -/
structure SampleVals where
  m : Rat
  r : Rat
  ff : Rat
  ev : Rat
  xe : Rat
  dem : Rat
  xv : Rat
  w : Rat
  xw : Rat
  int : Rat
  level : Rat
  bumpless : Rat

/-- A value, rounded at a stage's exponent. -/
def LoopDyn.rnd (d : LoopDyn) (i : Nat) (y : Rat) : Rat := (qAt (nth d.exps i) y : Rat) * pow2 (nth d.exps i)

/-- R166, R172: the values of a sample with the measurement m, the setpoint r, the feed-forward ff and the hold h, each normalized. -/
def LawIn.vals (p : LawIn) (h m r ff : Rat) (d : LoopDyn) : SampleVals :=
  let xr := d.rnd 1 r
  let ev := if p.direct then d.rnd 0 m - xr else xr - d.rnd 0 m
  let xe := d.rnd 2 ev
  let xf := d.rnd 4 ff
  let xi := (d.int : Rat) * pow2 (nth d.exps 3)
  let dem := p.kp * xe + xi + p.kff * xf + p.ksp * xr
  let xv := d.rnd 5 dem
  let w := clampQ xv p.lo p.hi
  let level := clampQ h p.lo p.hi
  { m := m, r := r, ff := ff, ev := ev, xe := xe, dem := dem, xv := xv, w := w, xw := d.rnd 5 w,
    int := xi + p.ki * xe + p.kb * (d.rnd 5 w - xv), level := level,
    bumpless := if p.law = 0 then 0 else level - (p.kp * xe + p.kff * xf + p.ksp * xr) }

/-- R166, R172: the values of loop l's sample with the measurement `meas`. -/
def State.sampleVals (s : State) (l : Nat) (meas : Word) (d : LoopDyn) : SampleVals :=
  (s.lawIn l).vals ((s.outHold l : Rat) / 65536) (q16 meas) (q16 (s.loop l).spIn) (q16 (s.loop l).ffIn) d

/-- A stage stored from the rounding of its values. -/
def LoopDyn.put (d : LoopDyn) (i : Nat) (xs : List Rat) : Put :=
  { stage := i, fresh := d.fresh.getD i false, qs := xs.map (qAt (nth d.exps i)), xs := xs }

/-- The stages every sample stores. -/
def SampleVals.inputs (x : SampleVals) (d : LoopDyn) : List Put :=
  [d.put 0 [x.m], d.put 1 [x.r], d.put 2 [x.ev], d.put 4 [x.ff]]

/-- The flags of a sample that has been computed. -/
def LoopDyn.finish (d : LoopDyn) (prov ov : Bool) (sample : Word) (u : Rat) (lim : Bool) : LoopDyn :=
  { d with out := satU 16 (rneQ (u * 65536)), outClosed := d.st == .closed, prov := prov, holding := false, outLim := lim,
           override := ov, tag := (d.tag + 1) % 16, sampleMc := sample, invalidRun := 0,
           clipCnt := if d.clipStg = 0 then d.clipCnt else incSat 16 d.clipCnt }

/-- The stages stored, the flags of saturated and of clipped ones new. -/
def LoopDyn.stored (d : LoopDyn) (ps : List Put) : LoopDyn := putAll ps { d with satStg := 0, clipStg := 0 }

/-- The stages a CLOSED loop stores besides its inputs: DEM, and INT where it integrates. -/
def State.closedPuts (s : State) (l : Nat) (x : SampleVals) (d : LoopDyn) : List Put :=
  if (s.lawIn l).law ≠ 0 ∧ !s.loopOverride l then [d.put 5 [x.dem, x.w], d.put 3 [x.int]] else [d.put 5 [x.dem, x.w]]

theorem lawSample_of_closed {l : Nat} {sample meas : Word} {close : Bool} {s : State} {d : LoopDyn} (h : d.st = .closed) :
    lawSample l sample meas close s d =
      (d.stored ((s.sampleVals l meas d).inputs d ++ s.closedPuts l (s.sampleVals l meas d) d)).finish (s.loop l).provIn
        (s.loopOverride l) sample
        (lawOut (s.lawIn l) (s.sampleVals l meas d).xe (s.sampleVals l meas d).xv (s.sampleVals l meas d).xw ((d.out : Rat) / 65536))
        (decide ((s.lawIn l).hi < (s.sampleVals l meas d).xv) || decide ((s.sampleVals l meas d).xv < (s.lawIn l).lo)) := by
  unfold lawSample State.closedPuts
  extract_lets
  rw [if_neg (by simp [h]), if_pos h]
  split <;> rfl

/-- R172: the output of a bumpless close. -/
def LawIn.closeOut (p : LawIn) (level : Rat) : Rat :=
  if p.law = 2 then level else if (p.lo + p.hi) / 2 ≤ level then p.hi else p.lo

theorem lawSample_of_close {l : Nat} {sample meas : Word} {s : State} {d : LoopDyn} (h : d.st = .opened) :
    lawSample l sample meas true s d =
      LoopDyn.finish { d.stored ((s.sampleVals l meas d).inputs d ++
          [d.put 5 [(s.sampleVals l meas d).level, (s.sampleVals l meas d).level],
           { stage := 3, fresh := true, qs := [], xs := [(s.sampleVals l meas d).bumpless] }]) with st := .closed }
        (s.loop l).provIn (s.loopOverride l) sample ((s.lawIn l).closeOut (s.sampleVals l meas d).level) false := by
  unfold lawSample
  extract_lets
  rw [if_pos ⟨h, rfl⟩]
  rfl

theorem lawSample_of_opened {l : Nat} {sample meas : Word} {s : State} {d : LoopDyn} (h : d.st = .opened) :
    lawSample l sample meas false s d =
      (d.stored ((s.sampleVals l meas d).inputs d ++ [d.put 5 [(s.sampleVals l meas d).dem, (s.sampleVals l meas d).w]])).finish
        (s.loop l).provIn (s.loopOverride l) sample ((s.outHold l : Rat) / 65536) false := by
  unfold lawSample
  extract_lets
  rw [if_neg (by simp), if_neg (by simp [h])]
  rfl

end Sys2Proof.Machine

namespace Sys2Proof.Machine

/-! PROOFS. Rood: what an evaluation takes and computes, and what it leaves in the buffer alone. -/

/-! ## The output hold (R150, R171) -/

theorem fld_low (w : Word) : fld w 15 0 = w.toNat % 65536 := rfl

theorem merge_low (old new : Word) : (merge 0xFFFF old new).toNat % 65536 = new.toNat % 65536 := by
  have hb : (merge 0xFFFF old new).setWidth 16 = new.setWidth 16 := by
    have hm : ∀ i, i < 16 → (0xFFFF : Word).getLsbD i = true := by decide
    refine BitVec.eq_of_getLsbD_eq fun i hi => ?_
    rw [BitVec.getLsbD_setWidth, BitVec.getLsbD_setWidth, merge, BitVec.getLsbD_or, BitVec.getLsbD_and, BitVec.getLsbD_and,
      BitVec.getLsbD_not, hm i hi]
    simp
  simpa using congrArg BitVec.toNat hb

theorem setWord_lengths (img : Image) (w : Nat) (i : Nat) (v : Word) : (img.setWord .loop i w v).length = img.length ∧
    ((img.setWord .loop i w v).sec .loop).length = (img.sec .loop).length := by
  refine ⟨?_, ?_⟩
  · rw [Image.setWord, upd_length]
  · rw [setWord_sec, List.length_set]

theorem setOutHold_outHold {l v : Nat} {s : State} (h0 : l ≤ 127) (h1 : s.cfg.inForce.length = 20)
    (h2 : (s.cfg.inForce.sec .loop).length = 1524) : (setOutHold l v s).outHold l = v % 65536 := by
  have hw := word_setWord_self (sec := .loop) (i := l - 1) (w := 3)
    (merge 0xFFFF (s.cw .loop (l - 1) 3) (w32 (v % 65536)))
    (show Sec.loop.index < s.cfg.inForce.length by rw [h1]; decide)
    (show (l - 1) * Sec.loop.words + 3 < _ by rw [h2, show Sec.loop.words = 12 from rfl]; omega)
  have hf : (setOutHold l v s).outHold l = fld (merge 0xFFFF (s.cw .loop (l - 1) 3) (w32 (v % 65536))) 15 0 :=
    congrArg (fun x => fld x 15 0) hw
  rw [hf, fld_low, merge_low]
  simp [w32]

theorem rneQ_natCast (n : Nat) : rneQ (n : Rat) = n := by
  simp [rneQ, rne]

theorem satU_outHold (n : Nat) : satU 16 (rneQ ((n : Rat) / 65536 * 65536)) = satU 16 n := by
  rw [div_mul_cancel₀ _ (by norm_num), rneQ_natCast]

theorem satU_of_lt {n : Nat} (h : n < 65536) : satU 16 n = n := by
  unfold satU clampI
  rw [if_neg (by omega), if_neg (by norm_num; omega), Int.toNat_natCast]

theorem outHold_lt (s : State) (l : Nat) : s.outHold l < 65536 := Nat.mod_lt _ (by decide)

/-! ## What an evaluation takes (R34, R147, R149, R175) -/

/-- The state that the evaluation of loop l computes from: its live fields in force, and its first sample taken. -/
def latched (l : Nat) (s : State) : State := loopStart l (loopLive l s)

theorem updLoop_congr {l : Nat} {f g : Loop → Loop} {s : State} (h : f (s.loop l) = g (s.loop l)) :
    updLoop l f s = updLoop l g s := by
  rw [updLoop, updLoop, upd_congr h]

theorem dropEval_of_none {c : Loop} (h : c.eval = none) : dropEval c = c := by
  obtain ⟨⟩ := c
  simp only at h
  subst h
  unfold dropEval
  simp only [Option.bind_none]
  split <;> simp_all

theorem updLoop_dropEval {l : Nat} {s : State} (h : (s.loop l).eval = none) : updLoop l dropEval s = s := by
  have hu : updLoop l dropEval s = updLoop l id s := updLoop_congr (dropEval_of_none h)
  rw [hu, updLoop, upd, List.modify_id]

/-- A loop that runs is one of the device's. -/
theorem loop_lt_of_st {s : State} {l : Nat} (h : (s.loop l).dyn.st ≠ .disabled) : l < s.rood.loops.length := by
  by_contra hn
  refine h ?_
  rw [State.loop, nth, List.getD_eq_getElem?_getD, List.getElem?_eq_none (by omega)]
  rfl

theorem latched_loop {s : State} {l : Nat} (hl : l < s.rood.loops.length) (he : (s.loop l).eval = none) :
    (latched l s).loop l = { s.loop l with
      startHold := false, startClose := false
      closePend := (s.loop l).closePend || ((s.loop l).startClose && (loopLive l s).cb .loop (l - 1) 0 4) } := by
  unfold latched loopStart
  extract_lets s1
  have hs1 : l < s1.rood.loops.length ∧ s1.loop l = s.loop l := by
    have hl' : l < (loopLive l s).rood.loops.length := hl
    simp only [s1]
    split
    · refine ⟨by simpa [setOutHold, updLoop] using hl', ?_⟩
      rw [setOutHold_loop_self _ hl', show (loopLive l s).loop l = s.loop l from rfl, he, Option.map_none, ← he]
    · exact ⟨hl, rfl⟩
  obtain ⟨h1, h2⟩ := hs1
  rw [updLoop_loop_self _ _ _ h1, h2]

/-- The buffer and the open that an evaluation leaves. -/
def buffered (x : LoopEval) (c : Loop) : Loop := { c with eval := some x, openReq := if c.poison then c.openReq else none }

theorem exec_loopEvaluation {s : State} {l : Nat} (hd : s.evalDue l = true) (hp : s.clk.pllLocked = true)
    (hst : (s.loop l).dyn.st = .opened ∨ (s.loop l).dyn.st = .closed) (he : (s.loop l).eval = none) :
    exec (.loopEvaluation l) s = .next (updLoop l (buffered (loopEvalOf l (latched l s))) (latched l s)) := by
  have hx : exec (.loopEvaluation l) s = .next (loopEval l s) := rfl
  have hev : s.evaluating l = false := by simp [State.evaluating, he]
  have hrun : ((s.loop l).dyn.st == .opened || (s.loop l).dyn.st == .closed) = true := by
    rcases hst with h | h <;> rw [h] <;> rfl
  rw [hx, loopEval]
  extract_lets s1 e
  have hs1 : s1 = latched l s := by simp only [s1, updLoop_dropEval he, latched]
  rw [if_neg (by simp [hd, hp, hev, hrun])]
  simp only [e, hs1]
  rfl

theorem le_of_evalDue {s : State} {l : Nat} (h : s.evalDue l = true) : 1 ≤ l ∧ l ≤ 127 := by
  simp only [State.evalDue, Bool.and_eq_true, decide_eq_true_eq] at h
  obtain ⟨⟨⟨⟨⟨⟨h1, h2⟩, -⟩, -⟩, -⟩, -⟩, -⟩ := h
  exact ⟨h1, h2⟩

/-! ## What an evaluation computes (R150, R165-R177) -/

/-- The sample of loop l in t, whose context is d: held, or computed. -/
def sampled (l : Nat) (sample : Word) (t : State) (d : LoopDyn) : LoopDyn :=
  match t.validMeas l sample with
  | none => holdSample l sample t d
  | some v => lawSample l sample v (t.loop l).closePend t d

/-- The law's sample ends as `LoopDyn.finish` says. -/
theorem lawSample_finishes {l : Nat} {sample meas : Word} {close : Bool} {s : State} {d : LoopDyn}
    (h : d.st = .opened ∨ d.st = .closed) :
    ∃ (t : LoopDyn) (u : Rat) (lim : Bool), lawSample l sample meas close s d =
      t.finish (s.loop l).provIn (s.loopOverride l) sample u lim ∧ t.tag = d.tag := by
  have htag (ps : List Put) : (d.stored ps).tag = d.tag := by
    obtain ⟨_, _, _, _, _, _, _, _, _, _, _, _, ht⟩ := putAll_onlyStages ps { d with satStg := 0, clipStg := 0 }
    rw [LoopDyn.stored, ht]
  rcases h with h | h
  · cases close with
    | true => exact ⟨_, _, _, lawSample_of_close h, htag _⟩
    | false => exact ⟨_, _, _, lawSample_of_opened h, htag _⟩
  · exact ⟨_, _, _, lawSample_of_closed h, htag _⟩

theorem sampled_tag {l : Nat} {sample : Word} {t : State} {d : LoopDyn} (h : d.st = .opened ∨ d.st = .closed) :
    (sampled l sample t d).sampleMc = sample ∧ (sampled l sample t d).tag = (d.tag + 1) % 16 := by
  unfold sampled
  split
  · exact ⟨rfl, rfl⟩
  · obtain ⟨t, u, lim, hx, ht⟩ := lawSample_finishes (l := l) (sample := sample) h
    rw [hx, ← ht]
    exact ⟨rfl, rfl⟩

theorem stored_st (d : LoopDyn) (ps : List Put) : (d.stored ps).st = d.st ∧ (d.stored ps).clipCnt = d.clipCnt := by
  obtain ⟨_, _, _, _, _, _, _, _, _, _, _, _, ht⟩ := putAll_onlyStages ps { d with satStg := 0, clipStg := 0 }
  rw [LoopDyn.stored, ht]
  exact ⟨rfl, rfl⟩

theorem loopApplyStaged_of_not {l : Nat} {s : State} (h : (s.loop l).dyn.st = .closed ∨ s.loopStaged l = false) :
    loopApplyStaged l s = s :=
  if_pos (by simpa using h)

theorem updDyn_fresh (l : Nat) (fr : LoopDyn → List Bool) (s : State) :
    ((updDyn l (fun d => { d with fresh := fr d }) s).loop l).dyn.st = (s.loop l).dyn.st ∧
    ((updDyn l (fun d => { d with fresh := fr d }) s).loop l).dyn.tag = (s.loop l).dyn.tag ∧
    ((updDyn l (fun d => { d with fresh := fr d }) s).loop l).openReq = (s.loop l).openReq := by
  unfold updDyn
  by_cases h : l < s.rood.loops.length
  · rw [updLoop_loop_self _ _ _ h]
    exact ⟨rfl, rfl, rfl⟩
  · rw [State.loop, updLoop, upd_past _ _ _ (by omega)]
    exact ⟨rfl, rfl, rfl⟩

/-- A staged source changes nothing of a context but which stages are fresh. -/
theorem loopApplyStaged_dyn (l : Nat) (s : State) : ((loopApplyStaged l s).loop l).dyn.st = (s.loop l).dyn.st ∧
    ((loopApplyStaged l s).loop l).dyn.tag = (s.loop l).dyn.tag ∧ ((loopApplyStaged l s).loop l).openReq = (s.loop l).openReq := by
  unfold loopApplyStaged
  split
  · exact ⟨rfl, rfl, rfl⟩
  · exact updDyn_fresh ..

/-- R177: the evaluation of a loop with a word that cannot be read. -/
theorem loopEvalOf_of_poison {l : Nat} {t : State} (h : (t.loop l).poison = true) :
    (loopEvalOf l t).dyn.st = .fault ∧ (loopEvalOf l t).dyn.out = t.lf l 3 31 16 ∧
    (loopEvalOf l t).dyn.sampleMc = t.sampleMc l ∧ (loopEvalOf l t).slot = t.lf l 0 31 20 := by
  unfold loopEvalOf
  extract_lets
  rw [if_pos h]
  exact ⟨rfl, rfl, rfl, rfl⟩

/-- R150: the evaluation of a loop without an open samples it, with its staged source. -/
theorem loopEvalOf_of_run {l : Nat} {t : State} (h : (t.loop l).poison = false) (ho : (t.loop l).openReq = none) :
    ∃ src, loopEvalOf l t = { slot := t.lf l 0 31 20, source := src
                              dyn := sampled l (t.sampleMc l) (loopApplyStaged l t) ((loopApplyStaged l t).loop l).dyn } ∧
      ((t.loop l).dyn.st = .closed → src = none) := by
  have hs : loopApplyOpen l (loopApplyStaged l t) = loopApplyStaged l t := by
    obtain ⟨-, -, ha⟩ := loopApplyStaged_dyn l t
    rw [loopApplyOpen, ha, ho]
  unfold loopEvalOf
  extract_lets c sample staged s2 d d1 res
  have h2 : s2 = loopApplyStaged l t := hs
  have h1 : d1 = d := if_neg (by simp [c, ho])
  have hr : res = sampled l sample s2 d := by simp only [res, h1]; rfl
  refine ⟨if staged = true then some (s2.cw .loop (l - 1) 1) else none, ?_, fun hc => if_neg (by simp [staged, c, hc])⟩
  rw [if_neg (by simp [c, h]), hr]
  simp only [c, ho, d, h2, sample]
  rfl

theorem loopEvalOf_of_still {l : Nat} {t : State} (h : (t.loop l).poison = false) (ho : (t.loop l).openReq = none)
    (hs : (t.loop l).dyn.st = .closed ∨ t.loopStaged l = false) :
    (loopEvalOf l t).dyn = sampled l (t.sampleMc l) t (t.loop l).dyn := by
  obtain ⟨_, hx, -⟩ := loopEvalOf_of_run h ho
  rw [hx, loopApplyStaged_of_not hs]

/-- The state in which an open of loop l has applied. -/
def opening (l v : Nat) (t : State) : State := setOutHold l v (updLoop l (fun x => { x with openReq := none, closePend := false }) t)

/-- R171, R173: the evaluation of a CLOSED loop that an open reaches. -/
theorem loopEvalOf_of_open {l : Nat} {t : State} {v : Option Nat} (hl : l < t.rood.loops.length) (h : (t.loop l).poison = false)
    (ho : (t.loop l).openReq = some v) (hs : (t.loop l).dyn.st = .closed) :
    loopEvalOf l t = { slot := t.lf l 0 31 20, opened := some v, closeOver := true
                       hold := some ((opening l (v.getD (t.loop l).dyn.out) t).outHold l)
                       dyn := sampled l (t.sampleMc l) (opening l (v.getD (t.loop l).dyn.out) t)
                         { (t.loop l).dyn with st := .opened } } := by
  have hst : loopApplyOpen l (loopApplyStaged l t) = opening l (v.getD (t.loop l).dyn.out) t := by
    rw [loopApplyStaged_of_not (.inl hs), loopApplyOpen, ho, hs]
    cases v <;> rfl
  have hdyn : ((opening l (v.getD (t.loop l).dyn.out) t).loop l).dyn = (t.loop l).dyn := by
    rw [opening, setOutHold_loop_self _ (by simpa [updLoop] using hl), updLoop_loop_self _ _ _ hl]
  unfold loopEvalOf
  extract_lets c sample staged s2 d d1 res
  have h2 : s2 = opening l (v.getD (t.loop l).dyn.out) t := hst
  have hd : d = (t.loop l).dyn := by simp only [d, h2, hdyn]
  have h1 : d1 = { (t.loop l).dyn with st := .opened } := by simp [d1, hd, c, ho, hs]
  have hr : res = sampled l sample s2 d1 := rfl
  have hsg : staged = false := by simp [staged, c, hs]
  rw [if_neg (by simp [c, h]), hr, hsg, h1, h2]
  simp only [c, ho]
  rfl

/-! ## What a sample stores (R160-R163) -/

/-- Stages do not depend on a context's flags. -/
theorem mant_congr {d t : LoopDyn} (h : t.meas = d.meas ∧ t.sp = d.sp ∧ t.err = d.err ∧ t.int = d.int ∧ t.ff = d.ff ∧
    t.demV = d.demV ∧ t.demW = d.demW) (j : Nat) : t.mant j = d.mant j := by
  obtain ⟨h1, h2, h3, h4, h5, h6, h7⟩ := h
  unfold LoopDyn.mant
  split
  · rw [h1]
  · rw [h2]
  · rw [h3]
  · rw [h4]
  · rw [h5]
  · rw [h6, h7]

theorem finish_keepsStage (t : LoopDyn) (prov ov : Bool) (sample : Word) (u : Rat) (lim : Bool) (j : Nat) :
    t.KeepsStage j (t.finish prov ov sample u lim) :=
  ⟨rfl, rfl, mant_congr ⟨rfl, rfl, rfl, rfl, rfl, rfl, rfl⟩ j⟩

theorem keepsStage_withSt (t : LoopDyn) (st : LoopSt) (j : Nat) : t.KeepsStage j { t with st := st } :=
  ⟨rfl, rfl, mant_congr ⟨rfl, rfl, rfl, rfl, rfl, rfl, rfl⟩ j⟩

theorem finish_clipCnt {d t : LoopDyn} (prov ov : Bool) (sample : Word) (u : Rat) (lim : Bool) (h : t.clipCnt = d.clipCnt) :
    (t.finish prov ov sample u lim).clipCnt =
      if (t.finish prov ov sample u lim).clipStg = 0 then d.clipCnt else incSat 16 d.clipCnt := by
  rw [← h]
  rfl

theorem put_fits {d : LoopDyn} {i : Nat} {xs : List Rat} (hi : i ≤ 5) (hx : xs.length = if i < 5 then 1 else 2) : (d.put i xs).Fits :=
  ⟨hi, hx, .inr (List.length_map ..)⟩

theorem inputs_fits (x : SampleVals) (d : LoopDyn) : ∀ p ∈ x.inputs d, p.Fits := by
  intro p hp
  simp only [SampleVals.inputs, List.mem_cons, List.not_mem_nil, or_false] at hp
  rcases hp with rfl | rfl | rfl | rfl <;> exact put_fits (by decide) rfl

/-- R160-R163: each stage of a sample is stored. -/
theorem stored_stores {d e : LoopDyn} {x : SampleVals} {ps : List Put} (h6 : d.exps.length = 6) (h6' : d.hr.length = 6)
    (hn : ((x.inputs d ++ ps).map Put.stage).Nodup) (hf : ∀ p ∈ ps, p.Fits)
    (hk : ∀ j, (d.stored (x.inputs d ++ ps)).KeepsStage j e) :
    ∀ p ∈ x.inputs d ++ ps, Stores d p.fresh p.stage p.qs p.xs e (e.mant p.stage) := by
  intro p hp
  refine (putAll_stores (t := { d with satStg := 0, clipStg := 0 }) h6 h6' hn (fun q hq => ?_) (fun q hq => ?_) p hp).keeps (hk _)
  · exact (List.mem_append.mp hq).elim (inputs_fits x d q) (hf q)
  · exact ⟨rfl, rfl, mant_congr ⟨rfl, rfl, rfl, rfl, rfl, rfl, rfl⟩ _⟩

/-- A stage that a sample does not store stays as it was. -/
theorem stored_keepsStage {d e : LoopDyn} {ps : List Put} {j : Nat} (hj : j ≤ 5) (hp : ∀ p ∈ ps, p.stage ≤ 5 ∧ j ≠ p.stage)
    (hk : (d.stored ps).KeepsStage j e) : d.KeepsStage j e := by
  have h0 : d.KeepsStage j { d with satStg := 0, clipStg := 0 } := ⟨rfl, rfl, mant_congr ⟨rfl, rfl, rfl, rfl, rfl, rfl, rfl⟩ _⟩
  exact (h0.trans (putAll_keepsStage hj hp)).trans hk

/-! ## The samples (R165-R172) -/

section
variable {l : Nat} {sample : Word} {t : State} {d : LoopDyn}

theorem sampled_of_invalid (h : t.validMeas l sample = none) : sampled l sample t d = holdSample l sample t d := by
  unfold sampled
  rw [h]

theorem sampled_of_valid {v : Word} (h : t.validMeas l sample = some v) :
    sampled l sample t d = lawSample l sample v (t.loop l).closePend t d := by
  unfold sampled
  rw [h]

/-- R168: an OPEN loop that nothing closes puts out its hold. -/
theorem sampled_of_opened (h : d.st = .opened) (hc : (t.loop l).closePend = false) :
    (sampled l sample t d).out = t.outHold l ∧ (sampled l sample t d).st = .opened ∧ (sampled l sample t d).outClosed = false ∧
    ((sampled l sample t d).holding = true ↔ t.validMeas l sample = none) := by
  cases hv : t.validMeas l sample with
  | none =>
    rw [sampled_of_invalid hv, holdSample]
    simp [h]
  | some v =>
    rw [sampled_of_valid hv, hc, lawSample_of_opened h]
    have hst {ps : List Put} : (d.stored ps).st = .opened := (stored_st d ps).1.trans h
    refine ⟨(satU_outHold _).trans (satU_of_lt (outHold_lt t l)), hst, ?_, ?_⟩
    · simp [LoopDyn.finish, hst]
    · simp [LoopDyn.finish]

theorem sampled_outClosed (h : d.st = .closed) : (sampled l sample t d).outClosed = true ∧ (sampled l sample t d).st = .closed := by
  cases hv : t.validMeas l sample with
  | none =>
    rw [sampled_of_invalid hv, holdSample]
    simp [h]
  | some v =>
    rw [sampled_of_valid hv, lawSample_of_closed h]
    have hst {ps : List Put} : (d.stored ps).st = .closed := (stored_st d ps).1.trans h
    simp [LoopDyn.finish, hst]

end

/-- R160-R163: the stages of a sample's inputs are stored in e, and the samples that clipped are counted. -/
def InputsStored (d : LoopDyn) (x : SampleVals) (e : LoopDyn) : Prop :=
  Stores d (d.fresh.getD 0 false) 0 [qAt (nth d.exps 0) x.m] [x.m] e [e.meas] ∧
  Stores d (d.fresh.getD 1 false) 1 [qAt (nth d.exps 1) x.r] [x.r] e [e.sp] ∧
  Stores d (d.fresh.getD 2 false) 2 [qAt (nth d.exps 2) x.ev] [x.ev] e [e.err] ∧
  Stores d (d.fresh.getD 4 false) 4 [qAt (nth d.exps 4) x.ff] [x.ff] e [e.ff] ∧
  e.clipCnt = (if e.clipStg = 0 then d.clipCnt else incSat 16 d.clipCnt)

theorem inputsStored_of_stores {d e : LoopDyn} {x : SampleVals} {ps : List Put}
    (h : ∀ p ∈ x.inputs d ++ ps, Stores d p.fresh p.stage p.qs p.xs e (e.mant p.stage))
    (hc : e.clipCnt = (if e.clipStg = 0 then d.clipCnt else incSat 16 d.clipCnt)) : InputsStored d x e :=
  ⟨h (d.put 0 [x.m]) (by simp [SampleVals.inputs]), h (d.put 1 [x.r]) (by simp [SampleVals.inputs]),
    h (d.put 2 [x.ev]) (by simp [SampleVals.inputs]), h (d.put 4 [x.ff]) (by simp [SampleVals.inputs]), hc⟩

section
variable {l : Nat} {sample v : Word} {t : State} {d : LoopDyn}

/-- R166, R168: what a CLOSED loop's sample stores. -/
theorem sampled_stores_of_closed (hv : t.validMeas l sample = some v) (h : d.st = .closed) (h6 : d.exps.length = 6)
    (h6' : d.hr.length = 6) {x : SampleVals} (hx : t.sampleVals l v d = x) {e : LoopDyn} (he : sampled l sample t d = e) :
    InputsStored d x e ∧
    Stores d (d.fresh.getD 5 false) 5 [qAt (nth d.exps 5) x.dem, qAt (nth d.exps 5) x.w] [x.dem, x.w] e [e.demV, e.demW] ∧
    ((t.lawIn l).law ≠ 0 → t.loopOverride l = false →
      Stores d (d.fresh.getD 3 false) 3 [qAt (nth d.exps 3) x.int] [x.int] e [e.int]) ∧
    ((t.lawIn l).law = 0 ∨ t.loopOverride l = true →
      e.int = d.int ∧ nth e.exps 3 = nth d.exps 3 ∧ nth e.hr 3 = nth d.hr 3) := by
  rw [sampled_of_valid hv, lawSample_of_closed h, hx] at he
  generalize hps : t.closedPuts l x d = ps at he
  have hk (j : Nat) : (d.stored (x.inputs d ++ ps)).KeepsStage j e := by
    rw [← he]
    exact finish_keepsStage _ _ _ _ _ _ j
  have hc : e.clipCnt = (if e.clipStg = 0 then d.clipCnt else incSat 16 d.clipCnt) := by
    rw [← he]
    exact finish_clipCnt _ _ _ _ _ (stored_st d _).2
  have f5 : (d.put 5 [x.dem, x.w]).Fits := put_fits (by decide) rfl
  have f3 : (d.put 3 [x.int]).Fits := put_fits (by decide) rfl
  by_cases hi : (t.lawIn l).law ≠ 0 ∧ !t.loopOverride l
  · have hp : ps = [d.put 5 [x.dem, x.w], d.put 3 [x.int]] := hps.symm.trans (if_pos hi)
    subst hp
    have hs := stored_stores (x := x) (ps := [d.put 5 [x.dem, x.w], d.put 3 [x.int]]) h6 h6'
      (show [0, 1, 2, 4, 5, 3].Nodup by decide) (fun p hp => by rcases List.mem_pair.mp hp with rfl | rfl <;> assumption) hk
    refine ⟨inputsStored_of_stores hs hc, hs (d.put 5 [x.dem, x.w]) (by simp), fun _ _ => hs (d.put 3 [x.int]) (by simp),
      fun hn => ?_⟩
    obtain ⟨h1, h2⟩ := hi
    exact (hn.elim h1 fun h => by simp [h] at h2).elim
  · have hp : ps = [d.put 5 [x.dem, x.w]] := hps.symm.trans (if_neg hi)
    subst hp
    have hs := stored_stores (x := x) (ps := [d.put 5 [x.dem, x.w]]) h6 h6' (show [0, 1, 2, 4, 5].Nodup by decide)
      (fun p hp => by rw [List.mem_singleton.mp hp]; exact f5) hk
    obtain ⟨k1, k2, k3⟩ := stored_keepsStage (j := 3) (by decide) (by simp [SampleVals.inputs, LoopDyn.put]) (hk 3)
    refine ⟨inputsStored_of_stores hs hc, hs (d.put 5 [x.dem, x.w]) (by simp),
      fun h1 h2 => (hi ⟨h1, by simp [h2]⟩).elim, fun _ => ⟨?_, k1, k2⟩⟩
    exact List.singleton_inj.mp k3

/-- R172: what a bumpless close stores, and its output. -/
theorem sampled_stores_of_close (hv : t.validMeas l sample = some v) (h : d.st = .opened) (hcl : (t.loop l).closePend = true)
    (h6 : d.exps.length = 6) (h6' : d.hr.length = 6) {x : SampleVals} (hx : t.sampleVals l v d = x) {e : LoopDyn}
    (he : sampled l sample t d = e) :
    InputsStored d x e ∧ e.st = .closed ∧ e.out = satU 16 (rneQ ((t.lawIn l).closeOut x.level * 65536)) ∧ e.outLim = false ∧
    Stores d true 3 [] [x.bumpless] e [e.int] ∧
    Stores d (d.fresh.getD 5 false) 5 [qAt (nth d.exps 5) x.level, qAt (nth d.exps 5) x.level] [x.level, x.level] e
      [e.demV, e.demW] := by
  rw [sampled_of_valid hv, hcl, lawSample_of_close h, hx] at he
  have hk (j : Nat) : (d.stored (x.inputs d ++ [d.put 5 [x.level, x.level], ⟨3, true, [], [x.bumpless]⟩])).KeepsStage j e := by
    rw [← he]
    exact (keepsStage_withSt _ .closed j).trans (finish_keepsStage _ _ _ _ _ _ j)
  have hc : e.clipCnt = (if e.clipStg = 0 then d.clipCnt else incSat 16 d.clipCnt) := by
    rw [← he]
    exact finish_clipCnt _ _ _ _ _ (stored_st d _).2
  have f5 : (d.put 5 [x.level, x.level]).Fits := put_fits (by decide) rfl
  have f3 : Put.Fits ⟨3, true, [], [x.bumpless]⟩ := ⟨Nat.le_of_ble_eq_true rfl, rfl, .inl rfl⟩
  have hs := stored_stores (x := x) (ps := [d.put 5 [x.level, x.level], ⟨3, true, [], [x.bumpless]⟩]) h6 h6'
    (show [0, 1, 2, 4, 5, 3].Nodup by decide) (fun p hp => by rcases List.mem_pair.mp hp with rfl | rfl <;> assumption) hk
  refine ⟨inputsStored_of_stores hs hc, ?_, ?_, ?_, hs ⟨3, true, [], [x.bumpless]⟩ (by simp),
    hs (d.put 5 [x.level, x.level]) (by simp)⟩
  · rw [← he]
    rfl
  · rw [← he]
    rfl
  · rw [← he]
    rfl

end

/-! ## The state an evaluation leaves -/

section
variable {s : State} {l : Nat} (hd : s.evalDue l = true) (hp : s.clk.pllLocked = true)
  (hst : (s.loop l).dyn.st = .opened ∨ (s.loop l).dyn.st = .closed) (he : (s.loop l).eval = none)
include hst he

/-- Taking the live fields and the first sample leaves a loop's context, its requests and its inputs. -/
theorem latched_keeps : ((latched l s).loop l).dyn = (s.loop l).dyn ∧ ((latched l s).loop l).poison = (s.loop l).poison ∧
    ((latched l s).loop l).openReq = (s.loop l).openReq ∧ ((latched l s).loop l).spIn = (s.loop l).spIn ∧
    ((latched l s).loop l).ffIn = (s.loop l).ffIn := by
  have hl : l < s.rood.loops.length := loop_lt_of_st (by rcases hst with h | h <;> simp [h])
  rw [latched_loop hl he]
  exact ⟨rfl, rfl, rfl, rfl, rfl⟩

include hd hp

/-- An evaluation that no open reaches leaves its results in the buffer alone. -/
theorem exec_loopEvaluation_buffers (ho : (s.loop l).poison = true ∨ (s.loop l).openReq = none) :
    exec (.loopEvaluation l) s =
      .next (updLoop l (fun c => { c with eval := some (loopEvalOf l (latched l s)) }) (latched l s)) := by
  obtain ⟨-, kp, ko, -, -⟩ := latched_keeps hst he
  rw [exec_loopEvaluation hd hp hst he]
  refine congrArg Host.Outcome.next (updLoop_congr ?_)
  rw [buffered, kp]
  rcases ho with h | h
  · rw [if_pos h]
  · rw [ko, h, ite_self, ← h, ← ko]

/-- An evaluation that an open reaches takes it. -/
theorem exec_loopEvaluation_opens (hpo : (s.loop l).poison = false) :
    exec (.loopEvaluation l) s =
      .next (updLoop l (fun c => { c with eval := some (loopEvalOf l (latched l s)), openReq := none }) (latched l s)) := by
  obtain ⟨-, kp, -, -, -⟩ := latched_keeps hst he
  rw [exec_loopEvaluation hd hp hst he]
  refine congrArg Host.Outcome.next (updLoop_congr ?_)
  rw [buffered, kp, hpo]
  rfl

end

theorem latched_sampleVals {s : State} {l : Nat} (hst : (s.loop l).dyn.st = .opened ∨ (s.loop l).dyn.st = .closed)
    (he : (s.loop l).eval = none) (v : Word) (d : LoopDyn) : (latched l s).sampleVals l v d =
      ((latched l s).lawIn l).vals (((latched l s).outHold l : Rat) / 65536) (q16 v) (q16 (s.loop l).spIn)
        (q16 (s.loop l).ffIn) d := by
  obtain ⟨-, -, -, h1, h2⟩ := latched_keeps hst he
  rw [State.sampleVals, h1, h2]

theorem latched_lengths (l : Nat) (s : State) : (latched l s).cfg.inForce.length = s.cfg.inForce.length ∧
    ((latched l s).cfg.inForce.sec .loop).length = (s.cfg.inForce.sec .loop).length := by
  have hput (w m : Nat) (img : Image) (v : Word) : (img.setWord .loop w m v).length = img.length ∧
      ((img.setWord .loop w m v).sec .loop).length = (img.sec .loop).length := setWord_lengths img m w v
  have hlive : (loopLive l s).cfg.inForce.length = s.cfg.inForce.length ∧
      ((loopLive l s).cfg.inForce.sec .loop).length = (s.cfg.inForce.sec .loop).length := by
    unfold loopLive
    extract_lets put
    simp only [put, hput, and_self]
  have hset (v : Nat) (t : State) : (setOutHold l v t).cfg.inForce.length = t.cfg.inForce.length ∧
      ((setOutHold l v t).cfg.inForce.sec .loop).length = (t.cfg.inForce.sec .loop).length := hput _ _ _ _
  unfold latched loopStart
  extract_lets s1
  have h1 : s1.cfg.inForce.length = (loopLive l s).cfg.inForce.length ∧
      (s1.cfg.inForce.sec .loop).length = ((loopLive l s).cfg.inForce.sec .loop).length := by
    simp only [s1]
    split
    · exact hset _ _
    · exact ⟨rfl, rfl⟩
  exact ⟨h1.1.trans hlive.1, h1.2.trans hlive.2⟩

section
variable {s : State} {l : Nat} (hd : s.evalDue l = true) (hp : s.clk.pllLocked = true)
  (hst : (s.loop l).dyn.st = .opened ∨ (s.loop l).dyn.st = .closed) (he : (s.loop l).eval = none)
include hst he

/-- R150: the header of an evaluation that no open reaches. -/
theorem loopEvalOf_header (hpo : (s.loop l).poison = false) (ho : (s.loop l).openReq = none) {x : LoopEval}
    (hx : loopEvalOf l (latched l s) = x) :
    x.slot = (latched l s).lf l 0 31 20 ∧ x.opened = none ∧ x.hold = none ∧ x.closeOver = false ∧
    x.dyn.sampleMc = (latched l s).sampleMc l ∧ x.dyn.tag = ((s.loop l).dyn.tag + 1) % 16 ∧
    ((s.loop l).dyn.st = .closed → x.source = none) := by
  obtain ⟨kd, kp, ko, -, -⟩ := latched_keeps hst he
  obtain ⟨src, h, hsrc⟩ := loopEvalOf_of_run (kp.trans hpo) (ko.trans ho)
  obtain ⟨as, atag, -⟩ := loopApplyStaged_dyn l (latched l s)
  rw [kd] at as atag hsrc
  obtain ⟨h1, h2⟩ := sampled_tag (l := l) (sample := (latched l s).sampleMc l) (t := loopApplyStaged l (latched l s))
    (d := ((loopApplyStaged l (latched l s)).loop l).dyn) (by rwa [as])
  rw [← hx, h]
  exact ⟨rfl, rfl, rfl, rfl, h1, h2.trans (by rw [atag]), hsrc⟩

/-- R150: the sample of an evaluation that neither a staged source nor an open reaches. -/
theorem loopEvalOf_dyn (hpo : (s.loop l).poison = false) (ho : (s.loop l).openReq = none)
    (hs : (s.loop l).dyn.st = .closed ∨ (latched l s).loopStaged l = false) :
    (loopEvalOf l (latched l s)).dyn = sampled l ((latched l s).sampleMc l) (latched l s) (s.loop l).dyn := by
  obtain ⟨kd, kp, ko, -, -⟩ := latched_keeps hst he
  rw [loopEvalOf_of_still (kp.trans hpo) (ko.trans ho) (by rwa [kd]), kd]

include hd hp

/-- R171, R173: an open reaches the evaluation of a CLOSED loop. -/
theorem exec_loopEvaluation_of_open {v : Option Nat} (hpo : (s.loop l).poison = false) (ho : (s.loop l).openReq = some v)
    (hc : (s.loop l).dyn.st = .closed) (h1 : s.cfg.inForce.length = 20) (h2 : (s.cfg.inForce.sec .loop).length = 1524) :
    ∃ x : LoopEval, exec (.loopEvaluation l) s =
        .next (updLoop l (fun c => { c with eval := some x, openReq := none }) (latched l s)) ∧
      x.opened = some v ∧ x.hold = some (v.getD (s.loop l).dyn.out % 65536) ∧ x.closeOver = true ∧ x.dyn.st = .opened ∧
      x.dyn.out = v.getD (s.loop l).dyn.out % 65536 ∧ x.dyn.outClosed = false := by
  obtain ⟨kd, kp, ko, -, -⟩ := latched_keeps hst he
  obtain ⟨l1, l2⟩ := latched_lengths l s
  have hl : l < (latched l s).rood.loops.length := loop_lt_of_st (by simp [kd, hc])
  have hx := loopEvalOf_of_open hl (kp.trans hpo) (ko.trans ho) (by rw [kd, hc])
  rw [kd] at hx
  have hw : (opening l (v.getD (s.loop l).dyn.out) (latched l s)).outHold l = v.getD (s.loop l).dyn.out % 65536 :=
    setOutHold_outHold (le_of_evalDue hd).2 (l1.trans h1) (l2.trans h2)
  have hcp : ((opening l (v.getD (s.loop l).dyn.out) (latched l s)).loop l).closePend = false := by
    rw [opening, setOutHold_loop_self _ (by simpa [updLoop] using hl), updLoop_loop_self _ _ _ hl]
  obtain ⟨o1, o2, o3, -⟩ := sampled_of_opened (sample := (latched l s).sampleMc l)
    (d := { (s.loop l).dyn with st := .opened }) rfl hcp
  refine ⟨loopEvalOf l (latched l s), exec_loopEvaluation_opens hd hp hst he hpo, ?_⟩
  rw [hx]
  exact ⟨rfl, congrArg some hw, rfl, o2, o1.trans hw, o3⟩

end

section
variable {l : Nat} {sample : Word} {t : State} {d : LoopDyn}

/-- R170: the sample of a CLOSED loop without a valid measurement. -/
theorem sampled_holds (hv : t.validMeas l sample = none) (h : d.st = .closed) {e : LoopDyn} (he : sampled l sample t d = e) :
    e.out = d.out ∧ e.holding = true ∧ e.invalidRun = min 255 (d.invalidRun + 1) ∧ e.st = .closed ∧
    e.meas = d.meas ∧ e.sp = d.sp ∧ e.err = d.err ∧ e.int = d.int ∧ e.ff = d.ff ∧ e.demV = d.demV ∧
    e.demW = d.demW ∧ e.exps = d.exps ∧ e.hr = d.hr := by
  rw [sampled_of_invalid hv] at he
  subst he
  exact ⟨if_pos h, rfl, rfl, h, rfl, rfl, rfl, rfl, rfl, rfl, rfl, rfl, rfl⟩

/-- R165, R168: the sample of an OPEN loop without a valid measurement. -/
theorem sampled_holds_of_opened (hv : t.validMeas l sample = none) (h : d.st = .opened) {e : LoopDyn}
    (he : sampled l sample t d = e) :
    e.out = t.outHold l ∧ e.st = .opened ∧ e.holding = true ∧ e.outClosed = false := by
  rw [sampled_of_invalid hv] at he
  subst he
  exact ⟨if_neg (by simp [h]), h, rfl, by simp [holdSample, h]⟩

/-- R166, R167: the output of a CLOSED loop with a valid measurement. -/
theorem sampled_output {v : Word} (hv : t.validMeas l sample = some v) (h : d.st = .closed) {e : LoopDyn}
    (he : sampled l sample t d = e) {x : SampleVals} (hx : t.sampleVals l v d = x) :
    e.out = satU 16 (rneQ (lawOut (t.lawIn l) x.xe x.xv x.xw ((d.out : Rat) / 65536) * 65536)) ∧
    e.holding = false ∧ e.invalidRun = 0 ∧ e.st = .closed ∧
    e.outLim = (decide ((t.lawIn l).hi < x.xv) || decide (x.xv < (t.lawIn l).lo)) := by
  rw [sampled_of_valid hv, lawSample_of_closed h, hx] at he
  subst he
  exact ⟨rfl, rfl, rfl, (stored_st d _).1.trans h, rfl⟩

end

end Sys2Proof.Machine

namespace Sys2Proof.Machine

/-! PROOFS. Rood: the commit of an evaluation, and the statement on evaluations and commits. -/

/-! ## The commit (R151, R177, R178, R204) -/

theorem exec_loopCommit {s : State} {l : Nat} {e : LoopEval} {late : Bool} (he : (s.loop l).eval = some e)
    (hp : s.clk.pllLocked = true) (hst : s.chain.stage ≤ 1) (hs : s.chain.pt.toNat = e.slot)
    (hm : s.chain.mc = e.dyn.sampleMc) : exec (.loopCommit l late) s =
      .next (if late then loopOverrun l (atStage 1 s) else solAccumulate l (loopCommitted l e (atStage 1 s))) := by
  have hx : exec (.loopCommit l late) s = .next (loopCommit l late s) := rfl
  rw [hx, loopCommit, he]
  simp only [inStage]
  rw [if_pos (by simp [hp, hs, hm, State.inOrder, hst])]

theorem loop_lt_of_eval {s : State} {l : Nat} {e : LoopEval} (h : (s.loop l).eval = some e) : l < s.rood.loops.length := by
  by_contra hn
  rw [State.loop, nth, List.getD_eq_getElem?_getD, List.getElem?_eq_none (by omega)] at h
  cases h

/-! ### The slots (R204) -/

/-- R204: slot k counts a sample of its loop. -/
def solCount (l : Nat) (a : State) (k : Nat) : State :=
  if a.slEn k && a.slLoop k == l then
    updSlot k (fun x =>
      { x with expCnt := x.expCnt + 1, cnt := x.cnt + b2n (a.slLearns k),
               acc := if a.slLearns k then x.acc + ((a.loop l).dyn.int : Rat) * pow2 (nth (a.loop l).dyn.exps 3) else x.acc }) a
  else a

theorem solAccumulate_eq (l : Nat) (s : State) : solAccumulate l s = (List.range 64).foldl (solCount l) s := rfl

/-- Of the first n slots, those that name the loop count its sample, and nothing else changes. -/
theorem foldl_solCount (l : Nat) (s : State) (n : Nat) : ∃ sl, (List.range n).foldl (solCount l) s = { s with rood.slots := sl } ∧
    sl.length = s.rood.slots.length ∧
    (∀ k, k < n → k < s.rood.slots.length → s.slEn k = true → s.slLoop k = l →
      (nth sl k).expCnt = (s.slot k).expCnt + 1 ∧ (nth sl k).bins = (s.slot k).bins) ∧
    (∀ k, n ≤ k ∨ s.slEn k = false ∨ s.slLoop k ≠ l → nth sl k = s.slot k) := by
  induction n with
  | zero => exact ⟨s.rood.slots, rfl, rfl, fun k hk => absurd hk (by omega), fun _ _ => rfl⟩
  | succ n ih =>
    obtain ⟨sl, h, hlen, hc, hk⟩ := ih
    rw [List.range_succ, List.foldl_append, h]
    simp only [List.foldl_cons, List.foldl_nil]
    have hen : ({ s with rood.slots := sl } : State).slEn n = s.slEn n := rfl
    have hlp : ({ s with rood.slots := sl } : State).slLoop n = s.slLoop n := rfl
    unfold solCount
    rw [hen, hlp]
    generalize ({ s with rood.slots := sl } : State).slLearns n = ok
    by_cases hn : s.slEn n = true ∧ s.slLoop n = l
    · rw [if_pos (by simp [hn])]
      refine ⟨_, rfl, (upd_length ..).trans hlen, fun k h1 h2 h3 h4 => ?_, fun k h1 => ?_⟩
      · by_cases e : k = n
        · subst e
          rw [nth_upd_self _ _ _ (show k < sl.length by rw [hlen]; exact h2), hk k (.inl le_rfl)]
          exact ⟨rfl, rfl⟩
        · rw [nth_upd_ne _ _ _ _ e]
          exact hc k (by omega) h2 h3 h4
      · have e : k ≠ n := by
          rintro rfl
          obtain ⟨n1, n2⟩ := hn
          simp [n1, n2] at h1
        rw [nth_upd_ne _ _ _ _ e]
        exact hk k (h1.imp_left (by omega))
    · rw [if_neg (by simpa using hn)]
      refine ⟨sl, rfl, hlen, fun k h1 h2 h3 h4 => ?_, fun k h1 => ?_⟩
      · have e : k ≠ n := fun e => hn (e ▸ ⟨h3, h4⟩)
        exact hc k (by omega) h2 h3 h4
      · exact hk k (h1.imp_left (by omega))

theorem solAccumulate_slots (l : Nat) (s : State) : ∃ sl, solAccumulate l s = { s with rood.slots := sl } ∧
    (∀ k, k < 64 → k < s.rood.slots.length → s.slEn k = true → s.slLoop k = l →
      (nth sl k).expCnt = (s.slot k).expCnt + 1 ∧ (nth sl k).bins = (s.slot k).bins) ∧
    (∀ k, s.slEn k = false ∨ s.slLoop k ≠ l → nth sl k = s.slot k) := by
  obtain ⟨sl, h, -, h1, h2⟩ := foldl_solCount l s 64
  exact ⟨sl, (solAccumulate_eq l s).trans h, h1, fun k hk => h2 k (.inr hk)⟩

/-! ### The configuration and the reports of a commit (R171, R179) -/

/-- Apart from the loops and the configuration words of loops in force, t is s. -/
def SetsLoops (s t : State) : Prop := ∃ ls f, t = { s with rood.loops := ls, cfg.inForce := f } ∧
  ls.length = s.rood.loops.length ∧ ∀ sec, sec ≠ .loop → f.sec sec = s.cfg.inForce.sec sec

theorem SetsLoops.trans {s t u : State} (h : SetsLoops s t) (g : SetsLoops t u) : SetsLoops s u := by
  obtain ⟨_, _, rfl, hn, hs⟩ := h
  obtain ⟨_, _, rfl, gn, gs⟩ := g
  exact ⟨_, _, rfl, gn.trans hn, fun sec h => (gs sec h).trans (hs sec h)⟩

theorem setOutHold_sets (l v : Nat) (s : State) : SetsLoops s (setOutHold l v s) :=
  ⟨_, _, rfl, upd_length .., fun _ h => sec_setWord_ne _ _ _ h⟩

theorem updLoop_sets (l : Nat) (f : Loop → Loop) (s : State) : SetsLoops s (updLoop l f s) :=
  ⟨_, s.cfg.inForce, rfl, upd_length .., fun _ _ => rfl⟩

/-- R36: a commit puts the staged source into force. -/
def commitSource (l : Nat) (e : LoopEval) (s : State) : State :=
  match e.source with
  | some w =>
    { s with cfg.inForce := s.cfg.inForce.setWord .loop (l - 1) 1
               (merge (w32 (bmask 15 14 + bmask 6 0)) (s.cw .loop (l - 1) 1) w) }
  | none => s

theorem loopCommitCfg_eq (l : Nat) (e : LoopEval) (s : State) : loopCommitCfg l e s = match e.hold with
    | some v => setOutHold l v (commitSource l e s)
    | none => commitSource l e s := by
  unfold loopCommitCfg commitSource
  cases e.source <;> cases e.hold <;> rfl

theorem commitSource_sets (l : Nat) (e : LoopEval) (s : State) : SetsLoops s (commitSource l e s) := by
  unfold commitSource
  split
  · exact ⟨s.rood.loops, _, rfl, rfl, fun _ h => sec_setWord_ne _ _ _ h⟩
  · exact ⟨s.rood.loops, s.cfg.inForce, rfl, rfl, fun _ _ => rfl⟩

theorem commitSource_loops (l : Nat) (e : LoopEval) (s : State) : (commitSource l e s).rood.loops = s.rood.loops := by
  unfold commitSource
  split <;> rfl

theorem loopCommitCfg_sets (l : Nat) (e : LoopEval) (s : State) : SetsLoops s (loopCommitCfg l e s) := by
  rw [loopCommitCfg_eq]
  split
  · exact (commitSource_sets l e s).trans (setOutHold_sets ..)
  · exact commitSource_sets l e s

/-- A commit's configuration leaves each loop but for the hold that the evaluation of l itself would set. -/
theorem loopCommitCfg_loop {l : Nat} (e : LoopEval) {s : State} (h : l < s.rood.loops.length) :
    ((loopCommitCfg l e s).loop l).dyn = (s.loop l).dyn ∧
    ((loopCommitCfg l e s).loop l).closePend = (s.loop l).closePend ∧
    (∀ j, j ≠ l → (loopCommitCfg l e s).loop j = s.loop j) := by
  have h1 := commitSource_loops l e s
  have hj (j : Nat) : (commitSource l e s).loop j = s.loop j := congrArg (fun ls => nth ls j) h1
  rw [loopCommitCfg_eq]
  split
  · rw [setOutHold_loop_self _ (h1 ▸ h), hj]
    exact ⟨rfl, rfl, fun j e => (setOutHold_loop_ne _ _ e).trans (hj j)⟩
  · rw [hj]
    exact ⟨rfl, rfl, fun j _ => hj j⟩

theorem loopCommitCfg_cfg {l : Nat} {e : LoopEval} (s : State) (h : e.source = none) :
    (loopCommitCfg l e s).cfg = { s.cfg with inForce := match e.hold with
      | none => s.cfg.inForce
      | some v => s.cfg.inForce.setWord .loop (l - 1) 3 (merge 0xFFFF (s.cw .loop (l - 1) 3) (w32 (v % 65536))) } := by
  unfold loopCommitCfg
  rw [h]
  cases e.hold <;> rfl

theorem raiseLoopZone_noted (l : Nat) (s : State) : Noted s (raiseLoopZone l s) := by
  unfold raiseLoopZone
  split
  · exact .refl _
  · exact raise_noted ..

theorem loopNotes_noted (l : Nat) (old new : LoopDyn) (s : State) : Noted s (loopNotes l old new s) := by
  unfold loopNotes
  extract_lets bad s1 s2
  have h1 : Noted s s1 := by
    simp only [s1]
    split
    · exact loopRecord_noted ..
    · exact .refl _
  have h2 : Noted s s2 := by
    simp only [s2]
    split
    · exact h1.trans (loopRecord_noted ..)
    · exact h1
  split
  · exact (h2.trans (raiseLoopZone_noted ..)).trans (loopRecord_noted ..)
  · exact h2

theorem zoneOfLoop_lt {s : State} {l z : Nat} (h : s.zoneOfLoop l = some z) : z < 32 :=
  List.mem_range.mp (List.mem_of_find?_eq_some h)

theorem raiseLoopZone_raised {l z : Nat} {s : State} (h : s.zoneOfLoop l = some z) : (raiseLoopZone l s).raised z := by
  have hz := zoneOfLoop_lt h
  unfold raiseLoopZone
  rw [h]
  exact raise_raised s (by omega)

/-! ### What a commit leaves (R151, R177, R178) -/

/-- Apart from the loops, events raised and records written, and the configuration words of loops in force, n is s. -/
def Commits (s n : State) : Prop := ∃ t, SetsLoops s t ∧ Noted t n

theorem Commits.sec {s n : State} (h : Commits s n) {sec : Sec} (hs : sec ≠ .loop) :
    n.cfg.inForce.sec sec = s.cfg.inForce.sec sec := by
  obtain ⟨_, ⟨_, f, rfl, -, hf⟩, e, b, rfl⟩ := h
  exact hf sec hs

/-- R204: the slots that name the loop count the sample that has been committed. -/
theorem Commits.slots {s n : State} (h : Commits s n) (l : Nat) :
    (∀ k, k < 64 → k < s.rood.slots.length → s.slEn k = true → s.slLoop k = l →
      ((solAccumulate l n).slot k).expCnt = (s.slot k).expCnt + 1 ∧ ((solAccumulate l n).slot k).bins = (s.slot k).bins) ∧
    (∀ k, s.slEn k = false ∨ s.slLoop k ≠ l → (solAccumulate l n).slot k = s.slot k) := by
  have hsec := h.sec (sec := .sol) (by decide)
  have hw (k : Nat) : n.cw .sol k 0 = s.cw .sol k 0 := congrArg (fun ws => ws.getD (k * Sec.sol.words + 0) 0) hsec
  have hen (k : Nat) : n.slEn k = s.slEn k := congrArg (fun v => bit v 31) (hw k)
  have hlp (k : Nat) : n.slLoop k = s.slLoop k := congrArg (fun v => fld v 23 17) (hw k)
  obtain ⟨sl, hu, h1, h2⟩ := solAccumulate_slots l n
  simp only [hen, hlp] at h1 h2
  rw [hu]
  obtain ⟨_, ⟨_, f, rfl, -, hf⟩, e, b, rfl⟩ := h
  exact ⟨h1, h2⟩

theorem Commits.noted {s n : State} (h : Commits (atStage 1 s) n) (l : Nat) {u : State} (hu : solAccumulate l n = u) :
    Noted { s with
      rood := { s.rood with loops := u.rood.loops, slots := u.rood.slots }
      cfg.inForce := u.cfg.inForce, chain.stage := 1 } u := by
  obtain ⟨sl, hn, -, -⟩ := solAccumulate_slots l n
  obtain ⟨_, ⟨_, f, rfl, -, -⟩, e, b, rfl⟩ := h
  subst hu
  rw [hn]
  exact ⟨e, b, rfl⟩

theorem solAccumulate_loop (l j : Nat) (s : State) : (solAccumulate l s).loop j = s.loop j ∧
    (solAccumulate l s).cfg = s.cfg ∧ (solAccumulate l s).evt = s.evt := by
  obtain ⟨sl, h, -, -⟩ := solAccumulate_slots l s
  rw [h]
  exact ⟨rfl, rfl, rfl⟩

theorem Noted.loop {s t : State} (h : Noted s t) (j : Nat) : t.loop j = s.loop j := by
  obtain ⟨e, b, rfl⟩ := h
  rfl

theorem Noted.cfg_eq {s t : State} (h : Noted s t) : t.cfg = s.cfg := by
  obtain ⟨e, b, rfl⟩ := h
  rfl

/-- The loop as a commit leaves it. -/
def Loop.commit (e : LoopEval) (old : LoopDyn) (c : Loop) : Loop :=
  { c with dyn := e.dyn, eval := none
           closePend := c.closePend && !(e.dyn.st == .closed && old.st != .closed) && !e.closeOver }

/-- The loop as a commit that ends in FAULT leaves it. -/
def Loop.fail (d : LoopDyn) (c : Loop) : Loop :=
  { c with dyn := d, eval := none, closePend := false, openReq := none, holdForced := false }

theorem loopCommitted_of_run {l : Nat} {e : LoopEval} (s : State) (h : e.dyn.st ≠ .fault) : ∃ old,
    old = ((loopCommitCfg l e s).loop l).dyn ∧
    Noted (updLoop l (Loop.commit e old) (loopCommitCfg l e s)) (loopCommitted l e s) := by
  refine ⟨_, rfl, ?_⟩
  unfold loopCommitted
  extract_lets
  rw [if_neg h]
  exact loopNotes_noted ..

theorem loopCommitted_of_fault {l : Nat} {e : LoopEval} (s : State) (h : e.dyn.st = .fault) :
    loopCommitted l e s = loopFault l e.dyn (loopCommitCfg l e s) := by
  unfold loopCommitted
  extract_lets
  exact if_pos h

theorem loopFault_noted (l : Nat) (d : LoopDyn) (s : State) : Noted (updLoop l (Loop.fail d) s) (loopFault l d s) :=
  (raiseLoopZone_noted ..).trans (loopRecord_noted ..)

theorem zoneOfLoop_congr {s t : State} (h : t.cfg.inForce.sec .zone = s.cfg.inForce.sec .zone) (l : Nat) :
    t.zoneOfLoop l = s.zoneOfLoop l := by
  have hw (z w : Nat) : t.cw .zone z w = s.cw .zone z w := congrArg (fun ws => ws.getD (z * Sec.zone.words + w) 0) h
  unfold State.zoneOfLoop State.cf
  simp only [hw]

section
variable {s : State} {l : Nat} {e : LoopEval} (he : (s.loop l).eval = some e)
include he

/-- R151: what the loops hold after a commit. -/
theorem loopCommitted_loops (h : e.dyn.st ≠ .fault) :
    ((loopCommitted l e (atStage 1 s)).loop l).dyn = e.dyn ∧ ((loopCommitted l e (atStage 1 s)).loop l).eval = none ∧
    (∀ j, j ≠ l → (loopCommitted l e (atStage 1 s)).loop j = s.loop j) ∧
    ((loopCommitted l e (atStage 1 s)).loop l).closePend =
      ((s.loop l).closePend && !(e.dyn.st == .closed && (s.loop l).dyn.st != .closed) && !e.closeOver) := by
  have hl : l < (atStage 1 s).rood.loops.length := loop_lt_of_eval he
  obtain ⟨old, ho, hn⟩ := loopCommitted_of_run (l := l) (atStage 1 s) h
  obtain ⟨h1, h2, h3⟩ := loopCommitCfg_loop e hl
  have hl' : l < (loopCommitCfg l e (atStage 1 s)).rood.loops.length := by
    obtain ⟨_, _, hc, hlen, -⟩ := loopCommitCfg_sets l e (atStage 1 s)
    rw [hc]
    exact hlen.symm ▸ hl
  refine ⟨?_, ?_, fun j hj => ?_, ?_⟩
  · rw [hn.loop, updLoop_loop_self _ _ _ hl', Loop.commit]
  · rw [hn.loop, updLoop_loop_self _ _ _ hl', Loop.commit]
  · rw [hn.loop, updLoop_loop_ne _ _ _ _ hj]
    exact h3 j hj
  · rw [hn.loop, updLoop_loop_self _ _ _ hl', Loop.commit, ho, h1, h2]
    rfl

/-- R177: what the loops hold after a commit that ends in FAULT. -/
theorem loopFault_loops (d : LoopDyn) : let u := loopFault l d (loopCommitCfg l e (atStage 1 s))
    (u.loop l).dyn = d ∧ (u.loop l).eval = none ∧ (u.loop l).closePend = false ∧ (u.loop l).openReq = none ∧
    (u.loop l).holdForced = false ∧ (∀ j, j ≠ l → u.loop j = s.loop j) := by
  have hl : l < (atStage 1 s).rood.loops.length := loop_lt_of_eval he
  have hl' : l < (loopCommitCfg l e (atStage 1 s)).rood.loops.length := by
    obtain ⟨_, _, hc, hlen, -⟩ := loopCommitCfg_sets l e (atStage 1 s)
    rw [hc]
    exact hlen.symm ▸ hl
  obtain ⟨-, -, h3⟩ := loopCommitCfg_loop e hl
  intro u
  have hn : Noted _ u := loopFault_noted ..
  have hul : u.loop l = Loop.fail d ((loopCommitCfg l e (atStage 1 s)).loop l) :=
    (hn.loop l).trans (updLoop_loop_self _ _ _ hl')
  rw [hul]
  exact ⟨rfl, rfl, rfl, rfl, rfl, fun j hj => ((hn.loop j).trans (updLoop_loop_ne _ _ _ _ hj)).trans (h3 j hj)⟩

end

/-- R177, R179: a commit that ends in FAULT raises the source of the loop's zone. -/
theorem loopFault_raised {s : State} {l z : Nat} (e : LoopEval) (d : LoopDyn) (h : s.zoneOfLoop l = some z) :
    (loopFault l d (loopCommitCfg l e s)).raised z := by
  refine happen_raised_of (raiseLoopZone_raised ?_)
  rw [← h]
  refine zoneOfLoop_congr ?_ l
  obtain ⟨_, f, hc, -, hf⟩ := loopCommitCfg_sets l e s
  rw [hc]
  exact hf .zone (by decide)

theorem loopCommitted_commits (l : Nat) (e : LoopEval) (s : State) (h : e.dyn.st ≠ .fault) :
    Commits s (loopCommitted l e s) := by
  obtain ⟨_, -, hn⟩ := loopCommitted_of_run (l := l) s h
  exact ⟨_, (loopCommitCfg_sets ..).trans (updLoop_sets ..), hn⟩

/-- R178: a late evaluation is discarded, counted and reported, and the open it had taken waits again. -/
theorem loopOverrun_spec {s : State} {l : Nat} {e : LoopEval} (he : (s.loop l).eval = some e) :
    let u := loopOverrun l (atStage 1 s)
    (u.loop l).dyn = (s.loop l).dyn ∧ (u.loop l).eval = none ∧
    ((s.loop l).openReq = none → (u.loop l).openReq = e.opened) ∧ (u.loop l).overrun = incSat 16 (s.loop l).overrun ∧
    (∀ j, j ≠ l → u.loop j = s.loop j) ∧ u.raised 109 ∧
    Noted { s with rood := { s.rood with loops := u.rood.loops }, chain.stage := 1 } u := by
  intro u
  have hl : l < (atStage 1 s).rood.loops.length := loop_lt_of_eval he
  have hn : Noted (updLoop l (fun c => { dropEval c with overrun := incSat 16 c.overrun }) (atStage 1 s)) u :=
    (raiseWith_noted ..).trans (happen_noted ..)
  have hul : u.loop l = { dropEval (s.loop l) with overrun := incSat 16 (s.loop l).overrun } :=
    (hn.loop l).trans (updLoop_loop_self _ _ _ hl)
  have hr : u.raised 109 := happen_raised_of (raiseWith_raised _ (by decide))
  refine ⟨?_, ?_, fun ho => ?_, ?_, fun j hj => (hn.loop j).trans (updLoop_loop_ne _ _ _ _ hj), hr, ?_⟩
  · rw [hul]
    rfl
  · rw [hul]
    rfl
  · rw [hul, dropEval]
    simp only [ho, he, Option.bind_some]
  · rw [hul]
  · clear_value u
    obtain ⟨ev, b, rfl⟩ := hn
    exact ⟨ev, b, rfl⟩

/-! ## The statement -/

/-- Settles O17: an evaluation computes from the latched state into its buffer alone, the stages it names are stored each from what
the loop held before, and a commit takes the buffer over and counts the sample in the loop's slots. -/
theorem loopEvaluatesAndCommits : Obligations.LoopEvaluatesAndCommits := by
  unfold Obligations.LoopEvaluatesAndCommits
  refine ⟨?_, ?_, ?_⟩
  · intro s l hd hp hst hpo ho he s0 s1 d
    have hs1 : s1 = latched l s := rfl
    clear_value s1
    subst hs1
    obtain ⟨hslot, hopened, hhold, hover, hmc, htag, hsrc⟩ := loopEvalOf_header hst he hpo ho rfl
    have hdyn := loopEvalOf_dyn hst he hpo ho
    refine ⟨_, loopEvalOf l (latched l s), _, exec_loopEvaluation_buffers hd hp hst he (.inr ho), rfl, rfl, hslot, hopened,
      hhold, hover, hmc, htag, fun hc hs hv => ?_, fun hc hs hcl hv => ?_, fun hc => ?_, fun hc hv => ?_, fun v hc hv => ?_⟩
    · exact sampled_holds_of_opened hv hc (hdyn (.inr hs)).symm
    · obtain ⟨o1, o2, o3, o4⟩ := sampled_of_opened (sample := (latched l s).sampleMc l) (d := d) hc hcl
      rw [hdyn (.inr hs)]
      exact ⟨o1.trans (satU_of_lt (outHold_lt _ l)).symm, o2, Bool.eq_false_iff.mpr (mt o4.mp hv), o3⟩
    · rw [hdyn (.inl hc)]
      exact ⟨hsrc hc, (sampled_outClosed hc).1⟩
    · exact sampled_holds hv hc (hdyn (.inl hc)).symm
    · have h := sampled_output hv hc (hdyn (.inl hc)).symm (latched_sampleVals hst he v d)
      simp only [LawIn.vals, LoopDyn.rnd] at h
      exact h
  · intro s l hd hp hst he s0 s1 d
    have hs1 : s1 = latched l s := rfl
    clear_value s1
    subst hs1
    obtain ⟨kd, kp, -, -, -⟩ := latched_keeps hst he
    refine ⟨fun hpo => ?_, fun v hpo ho hc h1 h2 => ?_, fun v hpo ho hv h6 h6' => ⟨fun hc => ?_, fun hc hs hcl => ?_⟩⟩
    · obtain ⟨p1, p2, p3, p4⟩ := loopEvalOf_of_poison (kp.trans hpo)
      exact ⟨_, exec_loopEvaluation_buffers hd hp hst he (.inl hpo), p1, p2, p3, p4⟩
    · exact exec_loopEvaluation_of_open hd hp hst he hpo ho hc h1 h2
    · exact ⟨_, _, exec_loopEvaluation_buffers hd hp hst he (.inr ho), rfl,
        sampled_stores_of_closed hv hc h6 h6' (latched_sampleVals hst he v d) (loopEvalOf_dyn hst he hpo ho (.inl hc)).symm⟩
    · exact ⟨_, _, exec_loopEvaluation_buffers hd hp hst he (.inr ho), rfl,
        sampled_stores_of_close hv hc hcl h6 h6' (latched_sampleVals hst he v d) (loopEvalOf_dyn hst he hpo ho (.inr hs)).symm⟩
  · intro s l e he hp hst hs hm
    refine ⟨fun hf => ?_, fun hf => ?_, ?_⟩
    · have hn := loopCommitted_commits l e (atStage 1 s) hf
      obtain ⟨h1, h2, h3, h4⟩ := loopCommitted_loops he hf
      obtain ⟨s1, s2⟩ := hn.slots l
      obtain ⟨-, hcfg, -⟩ := solAccumulate_loop l l (loopCommitted l e (atStage 1 s))
      have hu (j : Nat) := (solAccumulate_loop l j (loopCommitted l e (atStage 1 s))).1
      refine ⟨_, exec_loopCommit he hp hst hs hm, ?_⟩
      refine ⟨(congrArg _ (hu l)).trans h1, (congrArg _ (hu l)).trans h2, fun j hj => (hu j).trans (h3 j hj),
        (congrArg _ (hu l)).trans h4, fun hsrc => hcfg.trans ?_, s1, s2, hn.noted l rfl⟩
      obtain ⟨_, -, hc⟩ := loopCommitted_of_run (l := l) (atStage 1 s) hf
      exact hc.cfg_eq.trans (loopCommitCfg_cfg _ hsrc)
    · have hx := exec_loopCommit (late := false) he hp hst hs hm
      rw [if_neg (by decide), loopCommitted_of_fault _ hf] at hx
      obtain ⟨h1, h2, h3, h4, h5, h6⟩ := loopFault_loops he e.dyn
      have hu (j : Nat) := solAccumulate_loop l j (loopFault l e.dyn (loopCommitCfg l e (atStage 1 s)))
      obtain ⟨hl, -, hev⟩ := hu l
      refine ⟨_, hx, ?_⟩
      rw [hl]
      refine ⟨h1, h2, h3, h4, h5, fun z hz => ?_, fun j hj => (hu j).1.trans (h6 j hj)⟩
      rw [State.raised, hev]
      exact loopFault_raised (s := atStage 1 s) e e.dyn hz
    · exact ⟨_, exec_loopCommit he hp hst hs hm, loopOverrun_spec he⟩

end Sys2Proof.Machine

namespace Sys2Proof.Machine

/-! PROOFS. Acre: the timers of the election, the messages received, a member and its beacons, and the beacon sent. -/

/-! ## The election (R67, R394) -/

theorem acreRuns_of {s : State} (hr : s.released = true) (hp : s.clk.pllLocked = true) : s.acreRuns = true := by
  rw [State.acreRuns, hr, hp]; rfl

/-- Settles O10: each timer that is due makes its one change of Acre, which is then noted. -/
theorem acreElection : Obligations.AcreElection := by
  intro s hr hp
  have hruns := acreRuns_of hr hp
  refine ⟨fun hst ht => ?loss, fun hst ht => ?seeking, fun hst ht => ?candidate, fun hst id => ?forget⟩
  case loss => exact ⟨_, congrArg Host.Outcome.next (if_pos (by simp [hruns, hst, ht])), acreNotes_noted ..⟩
  case seeking => exact ⟨_, congrArg Host.Outcome.next (if_pos (by simp [hruns, hst, ht])), acreNotes_noted ..⟩
  case candidate => exact ⟨_, congrArg Host.Outcome.next (if_pos (by simp [hruns, hst, ht])), acreNotes_noted ..⟩
  case forget => exact congrArg Host.Outcome.next (if_pos (by simp [hruns, hst]))

/-! ## Receiving a message (R62, R395) -/

/-- R62: Acre with the stamp of a frame received now. -/
def State.stamped (s : State) : Acre := { s.acre with rxMc := s.chain.mc, rxPt := s.chain.pt.toNat }

/-- R62, R395: the state in which a valid message acts: the frame is stamped and counted at its port. -/
def State.received (s : State) : State :=
  updPort s.acrePort (fun p => { p with acreRx := incSat 32 p.acreRx, rxFrames := incSat 32 p.rxFrames })
    { s with acre := s.stamped }

/-- R395: a valid message of another device acts on the stamped and counted state. -/
theorem acreReceive_of_valid {typ addr : Nat} {b : List Byte} (act : State → State) {s : State} (hr : s.released = true)
    (hp : s.clk.pllLocked = true) (hd : s.acre.st ≠ .disabled) (ha : addr ≠ s.acreAddr) (hv : acreValid typ b = true) :
    acreReceive typ addr b act s = act s.received := by
  have h : (!s.acreRuns || s.acre.st == .disabled || addr == s.acreAddr) = false := by
    simp [acreRuns_of hr hp, hd, ha]
  unfold acreReceive
  rw [h, hv]
  rfl

/-! ## Following a master (R60, R63, R65) -/

/-- R63: D of a beacon received now. -/
def State.beaconDiff (s : State) (b : List Byte) : Int :=
  sext 44 (wrap 44 ((s.acre.rxMc.toNat * 4096 + s.acre.rxPt : Int) - (getW b 0x14 * 4096 + getH b 0x18)))

/-- R67, R69: a member of the master `id` from this beacon on; a change of master forgets what the last one had brought. -/
def memberOf (id addr : Nat) (b : List Byte) (s : State) : State :=
  let a := if s.acre.master ≠ some id then
      { s.acre with window := [], fresh := true, aligned := false, cand := none, candCnt := 0,
                    joined := false, gotSlot := false, sinceJoin := 0 }
    else s.acre
  { s with acre := { a with st := .member, master := some id, masterAddr := addr, members := [],
                            masterHoldover := (getB b 0x10).testBit 1, sinceMc := s.chain.mc } }

theorem followBeacon_eq (was : Acre) (id addr : Nat) (b : List Byte) (s : State) : followBeacon was id addr b s =
    acreNotes was (joinAtBeacon was (classResolution (s.beaconDiff b) (memberOf id addr b s))) := rfl

/-- R67: a device that seeks, waits or is master follows a lower one of its nominal frequency. -/
theorem beaconAct_of_lower {addr : Nat} {b : List Byte} {s : State} (hn : (getB b 0x10).testBit 0 = s.nominal60)
    (hid : getH b 6 < s.acreId) (hst : s.acre.st = .seeking ∨ s.acre.st = .candidate ∨ s.acre.st = .master) :
    beaconAct addr b s = followBeacon s.acre (getH b 6) addr b s := by
  have hne : getH b 6 ≠ s.acreId := Nat.ne_of_lt hid
  unfold beaconAct
  rcases hst with h | h | h <;> simp [hn, hne, h, hid]

/-- R67: a member takes the beacons of its master. -/
theorem beaconAct_of_master {addr : Nat} {b : List Byte} {s : State} (hn : (getB b 0x10).testBit 0 = s.nominal60)
    (hne : getH b 6 ≠ s.acreId) (hst : s.acre.st = .member) (hm : s.acre.master = some (getH b 6)) :
    beaconAct addr b s = followBeacon s.acre (getH b 6) addr b s := by
  unfold beaconAct
  simp [hn, hne, hst, hm]

/-- R68: a beacon of the other nominal frequency only sets `NOMINAL_MISMATCH`. -/
theorem beaconAct_of_mismatch {addr : Nat} {b : List Byte} {s : State} (hn : (getB b 0x10).testBit 0 ≠ s.nominal60)
    (hne : getH b 6 ≠ s.acreId) : beaconAct addr b s = acreNotes s.acre { s with acre.nominalMismatch := true } := by
  have hne' : ¬ getH b 6 = ({ s with acre.nominalMismatch := true } : State).acreId := hne
  unfold beaconAct
  simp only [bne_iff_ne, ne_eq, hn, not_false_eq_true, if_true, hne', if_false]
  split <;> rfl

/-! ### The resolution (R60, R63, R68) -/

theorem takeResult_frame (first : Bool) (r : Nat × Word) (a : Acre) : ∃ p c n,
    takeResult first r a = { a with pend := p, cand := c, candCnt := n } := by
  unfold takeResult
  dsimp only
  (repeat' split) <;> exact ⟨_, _, _, rfl⟩

/-- A resolution leaves the state of the election, the master and the joins as they were. -/
theorem classResolution_frame (d : Int) (s : State) : ∃ w re p c n f al, classResolution d s = { s with acre := { s.acre with
    window := w, resolved := re, pend := p, cand := c, candCnt := n, fresh := f, aligned := al } } := by
  unfold classResolution takeResolved
  dsimp only
  split
  · exact ⟨_, _, _, _, _, _, _, rfl⟩
  · split
    · exact ⟨_, _, _, _, _, _, _, rfl⟩
    · next r _ =>
      split
      · obtain ⟨p, c, n, h⟩ := takeResult_frame (s.acre.fresh && !s.acre.aligned) (0, r.2)
          { s.acre with window := (d :: s.acre.window).take 8 }
        rw [h]
        exact ⟨_, _, _, _, _, _, _, rfl⟩
      · obtain ⟨p, c, n, h⟩ := takeResult_frame s.acre.fresh r { s.acre with window := (d :: s.acre.window).take 8 }
        rw [h]
        exact ⟨_, _, _, _, _, _, _, rfl⟩

/-- R60: where a result leads the values that wait for the MC boundary. -/
theorem takeResult_of_first (r : Nat × Word) (a : Acre) :
    takeResult true r a = { a with pend := some r, cand := none, candCnt := 0 } := rfl

theorem takeResult_of_same {r : Nat × Word} {a : Acre} (h : a.pend.getD (a.cls, a.offset) = r) :
    takeResult false r a = { a with cand := none, candCnt := 0 } := by
  rw [takeResult, if_neg (by decide), if_pos h]

/-- R60: how long a differing result has come in a row. -/
def Acre.runOf (a : Acre) (r : Nat × Word) : Nat := if a.cand = some r then a.candCnt + 1 else 1

theorem takeResult_of_short {r : Nat × Word} {a : Acre} (h : a.pend.getD (a.cls, a.offset) ≠ r) (hr : a.runOf r < 8) :
    takeResult false r a = { a with cand := some r, candCnt := a.runOf r } := by
  rw [takeResult, if_neg (by decide), if_neg h]
  exact if_neg (Nat.not_le.mpr hr)

theorem takeResult_of_long {r : Nat × Word} {a : Acre} (h : a.pend.getD (a.cls, a.offset) ≠ r) (hr : 8 ≤ a.runOf r) :
    takeResult false r a = { a with pend := some r, cand := none, candCnt := 0 } := by
  rw [takeResult, if_neg (by decide), if_neg h]
  exact if_pos hr

/-- R63: the window of the last beacons once D has come. -/
def Acre.windowAt (a : Acre) (d : Int) : List Int := (d :: a.window).take 8

/-- R63: three times the least D of a window, as whole MC and the rest. -/
def minMc (w : List Int) (d : Int) : Int := (3 * w.foldl min d).fdiv 4096
def minRest (w : List Int) (d : Int) : Int := 3 * w.foldl min d - minMc w d * 4096

/-- R63: the class and the offset that they give. -/
def minResult (w : List Int) (d : Int) : Nat × Word :=
  (((-minMc w d) % 3).toNat, wInt ((-minMc w d - ((-minMc w d) % 3).toNat) / 3))

theorem resolve_of_large {w : List Int} {d : Int} (h : 2048 < minRest w d) : resolve (w.foldl min d) = none := if_pos h

theorem resolve_of_small {w : List Int} {d : Int} (h : minRest w d ≤ 2048) :
    resolve (w.foldl min d) = some (minResult w d) := if_neg (Int.not_lt.mpr h)

/-- R60, R63, R68: what the resolution of a beacon with the difference d makes of Acre. -/
def Resolves (a : Acre) (unsynced : Bool) (d : Int) (t : Acre) : Prop :=
  let w := a.windowAt d
  let r := minResult w d
  let same := a.pend.getD (a.cls, a.offset) = r
  (w.length < 3 → t.resolved = a.resolved ∧ t.pend = a.pend) ∧
  (3 ≤ w.length → 2048 < minRest w d → t.resolved = false ∧ t.pend = a.pend ∧ t.candCnt = 0) ∧
  (3 ≤ w.length → minRest w d ≤ 2048 → unsynced = false →
    t.resolved = true ∧ t.fresh = false ∧ (a.fresh = true → t.pend = some r) ∧
    (a.fresh = false → same → t.pend = a.pend ∧ t.candCnt = 0) ∧
    (a.fresh = false → ¬same → a.runOf r < 8 → t.pend = a.pend ∧ t.cand = some r ∧ t.candCnt = a.runOf r) ∧
    (a.fresh = false → ¬same → 8 ≤ a.runOf r → t.pend = some r)) ∧
  (unsynced = true → 3 ≤ w.length → t.resolved = false)

theorem classResolution_of_few {d : Int} {s : State} (h : (s.acre.windowAt d).length < 3) :
    classResolution d s = { s with acre := { s.acre with window := s.acre.windowAt d } } := if_pos h

theorem classResolution_of_none {d : Int} {s : State} (h : 3 ≤ (s.acre.windowAt d).length)
    (hr : 2048 < minRest (s.acre.windowAt d) d) : classResolution d s = { s with acre := { s.acre with
      resolved := false, window := s.acre.windowAt d, cand := none, candCnt := 0 } } := by
  have hres := resolve_of_large hr
  unfold Acre.windowAt at h hres
  unfold classResolution
  dsimp only
  rw [if_neg (Nat.not_lt.mpr h), hres]
  rfl

theorem classResolution_of_some {d : Int} {s : State} (h : 3 ≤ (s.acre.windowAt d).length)
    (hr : minRest (s.acre.windowAt d) d ≤ 2048) : classResolution d s = { s with
      acre := takeResolved s.unsynced (minResult (s.acre.windowAt d) d) { s.acre with window := s.acre.windowAt d } } := by
  have hres := resolve_of_small hr
  unfold Acre.windowAt at h hres
  unfold classResolution
  dsimp only
  rw [if_neg (Nat.not_lt.mpr h), hres]
  rfl

theorem takeResolved_window (unsynced : Bool) (r : Nat × Word) (a : Acre) : (takeResolved unsynced r a).window = a.window := by
  unfold takeResolved
  obtain ⟨p, c, n, h⟩ := takeResult_frame (a.fresh && !a.aligned) (0, r.2) a
  obtain ⟨p', c', n', h'⟩ := takeResult_frame a.fresh r a
  rw [h, h']
  split <;> rfl

theorem classResolution_window (d : Int) (s : State) : (classResolution d s).acre.window = s.acre.windowAt d := by
  rcases Nat.lt_or_ge (s.acre.windowAt d).length 3 with h | h
  · rw [classResolution_of_few h]
  · rcases Int.lt_or_le 2048 (minRest (s.acre.windowAt d) d) with hr | hr
    · rw [classResolution_of_none h hr]
    · rw [classResolution_of_some h hr]
      exact takeResolved_window ..

/-- R60: with Chain synchronized a result resolves, and what waits for the boundary follows it. -/
theorem takeResolved_of_synced (r : Nat × Word) (a : Acre) :
    let t := takeResolved false r a
    let same := a.pend.getD (a.cls, a.offset) = r
    t.resolved = true ∧ t.fresh = false ∧ (a.fresh = true → t.pend = some r) ∧
    (a.fresh = false → same → t.pend = a.pend ∧ t.candCnt = 0) ∧
    (a.fresh = false → ¬same → a.runOf r < 8 → t.pend = a.pend ∧ t.cand = some r ∧ t.candCnt = a.runOf r) ∧
    (a.fresh = false → ¬same → 8 ≤ a.runOf r → t.pend = some r) := by
  intro t same
  have ht : t = { takeResult a.fresh r a with resolved := true, fresh := false } := rfl
  clear_value t
  subst ht
  refine ⟨rfl, rfl, fun hf => ?_, fun hf hs => ?_, fun hf hs hn => ?_, fun hf hs hn => ?_⟩ <;> rw [hf]
  · rw [takeResult_of_first]
  · rw [takeResult_of_same hs]; exact ⟨rfl, rfl⟩
  · rw [takeResult_of_short hs hn]; exact ⟨rfl, rfl, rfl⟩
  · rw [takeResult_of_long hs hn]

theorem classResolution_resolves (d : Int) (s : State) : Resolves s.acre s.unsynced d (classResolution d s).acre := by
  unfold Resolves
  refine ⟨fun h => ?few, fun h hr => ?none, fun h hr hu => ?synced, fun hu h => ?unsynced⟩
  case few => rw [classResolution_of_few h]; exact ⟨rfl, rfl⟩
  case none => rw [classResolution_of_none h hr]; exact ⟨rfl, rfl, rfl⟩
  case synced =>
    rw [classResolution_of_some h hr, hu]
    exact takeResolved_of_synced (minResult (s.acre.windowAt d) d) { s.acre with window := s.acre.windowAt d }
  case unsynced =>
    rcases Int.lt_or_le 2048 (minRest (s.acre.windowAt d) d) with hr | hr
    · rw [classResolution_of_none h hr]
    · rw [classResolution_of_some h hr, hu]; rfl

/-! ### The join (R394) -/

/-- R394: a beacon brings a JOIN. -/
def joinDue (was : Acre) (s : State) : Prop :=
  if was.joined = true then s.acre.gotSlot = false ∨ 7 ≤ s.acre.sinceJoin else was.resolved = true ∨ s.unsynced = true

/-- R393: the body of a JOIN to the master `id`. -/
def State.joinBody (s : State) (id : Nat) : List Byte :=
  le8 (if s.unsynced then 0 else s.acre.cls) ++ le8 (b2n s.unsynced) ++ le8 s.pullInChannels ++
    le8 (if s.acre.slotAssigned then s.acre.slot else 0xFF) ++ le16 id ++ zeros 2

/-- R62, R392: a message as it is sent now. -/
def State.datagram (s : State) (typ dst : Nat) (body : List Byte) (plain : List Byte) : Datagram :=
  { src := s.acreAddr, dst := dst, srcPort := s.acreUdp, dstPort := s.acreUdp, checksum := 0,
    bytes := acreMsg typ s.acreId s.acre.seq.toNat body plain,
    stampMc := s.chain.mc, stampPt := s.chain.pt.toNat }

/-- R393: a JOIN to the master `id` at an address. -/
def State.joinTo (s : State) (id addr : Nat) : Datagram := s.datagram 2 addr (s.joinBody id) (s.joinBody id)

theorem joinAtBeacon_of_new {was : Acre} {s : State} (h : was.st ≠ .member) : joinAtBeacon was s = s := by
  unfold joinAtBeacon
  simp [h]

/-- R394: the beacon of a member's master counts the beacons since the last JOIN, or brings a JOIN. -/
theorem joinAtBeacon_of_member {was : Acre} {s : State} (h : was.st = .member) (hm : was.master = s.acre.master) :
    ∃ b j sj q se, joinAtBeacon was s = { s with bus := b, acre := { s.acre with
        joined := j, sinceJoin := sj, seq := q, sent := se } } ∧
      (joinDue was s → sj = 0 ∧ se = some (s.joinTo (s.acre.master.getD 0xFFFF) s.acre.masterAddr)) ∧
      (¬joinDue was s → se = s.acre.sent) := by
  have hg : (was.st != .member || was.master != s.acre.master) = false := by simp [h, hm]
  have hd : (if was.joined then !s.acre.gotSlot || decide (8 ≤ s.acre.sinceJoin + 1) else was.resolved || s.unsynced) =
      true ↔ joinDue was s := by
    unfold joinDue
    split <;> simp
  unfold joinAtBeacon
  extract_lets due now
  rw [hg, if_neg (by decide)]
  by_cases hdue : due = true
  · rw [if_pos hdue]
    exact ⟨_, _, _, _, _, rfl, fun _ => ⟨rfl, rfl⟩, fun hn => absurd (hd.mp hdue) hn⟩
  · rw [if_neg hdue]
    exact ⟨_, _, _, _, _, rfl, fun hn => absurd (hd.mpr hn) hdue, fun _ => rfl⟩

/-! ### The beacon as a whole -/

theorem memberOf_of_same {id : Nat} (addr : Nat) (b : List Byte) {s : State} (h : s.acre.master = some id) :
    memberOf id addr b s = { s with acre := { s.acre with
      st := .member, master := some id, masterAddr := addr, members := [],
      masterHoldover := (getB b 0x10).testBit 1, sinceMc := s.chain.mc } } := by
  rw [memberOf, if_neg (not_not_intro h)]

theorem memberOf_frame (id addr : Nat) (b : List Byte) (s : State) : ∃ a, memberOf id addr b s = { s with acre := a } ∧
    a.st = .member ∧ a.master = some id ∧ a.masterAddr = addr ∧ a.masterHoldover = (getB b 0x10).testBit 1 ∧
    a.sinceMc = s.chain.mc := ⟨_, rfl, rfl, rfl, rfl, rfl, rfl⟩

/-- R63, R394: what a beacon of the master that a member `m` follows makes of Acre; `was` is Acre as the beacon came. -/
theorem memberTurn_spec {was : Acre} (d : Int) {m : State} (hst : was.st = .member) (hm : was.master = m.acre.master) :
    ∃ bu a, joinAtBeacon was (classResolution d m) = { m with bus := bu, acre := a } ∧
      a.st = m.acre.st ∧ a.master = m.acre.master ∧ a.masterAddr = m.acre.masterAddr ∧ a.sinceMc = m.acre.sinceMc ∧
      a.masterHoldover = m.acre.masterHoldover ∧ a.window = m.acre.windowAt d ∧ a.cls = m.acre.cls ∧
      a.offset = m.acre.offset ∧ Resolves m.acre m.unsynced d a ∧
      (joinDue was m → a.sinceJoin = 0 ∧ a.sent = some (m.joinTo (m.acre.master.getD 0xFFFF) m.acre.masterAddr)) ∧
      (¬joinDue was m → a.sent = m.acre.sent) := by
  have hwin := classResolution_window d m
  have hres := classResolution_resolves d m
  obtain ⟨w, re, p, c, n, f, al, ht⟩ := classResolution_frame d m
  obtain ⟨bu, j, sj, sq, se, hj, hdue, hnot⟩ := joinAtBeacon_of_member (s := classResolution d m) hst (by rw [ht]; exact hm)
  rw [ht] at hwin hres hj hdue hnot
  rw [ht, hj]
  exact ⟨_, _, rfl, rfl, rfl, rfl, rfl, rfl, hwin, rfl, rfl, hres, hdue, hnot⟩

section

variable {s : State} {addr : Nat} {b : List Byte} (hr : s.released = true) (hp : s.clk.pllLocked = true)
  (ha : addr ≠ s.acreAddr)
include hr hp ha

/-- R67: the beacon of a lower master. -/
theorem exec_beacon_of_lower (hd : s.acre.st ≠ .disabled) (hv : acreValid 1 b = true)
    (hn : (getB b 0x10).testBit 0 = s.nominal60) (hid : getH b 6 < s.acreId)
    (hst : s.acre.st = .seeking ∨ s.acre.st = .candidate ∨ s.acre.st = .master) :
    ∃ u, exec (.beacon addr b) s = .next u ∧ u.acre.st = .member ∧ u.acre.master = some (getH b 6) ∧
      u.acre.masterAddr = addr ∧ u.acre.masterHoldover = (getB b 0x10).testBit 1 ∧ u.acre.sinceMc = s.chain.mc ∧
      u.chain = s.chain ∧ Noted { s with acre := u.acre, bus := u.bus } u := by
  refine ⟨_, congrArg Host.Outcome.next ((acreReceive_of_valid _ hr hp hd ha hv).trans
    ((beaconAct_of_lower (s := s.received) hn hid hst).trans (followBeacon_eq ..))), ?_⟩
  have hnew : s.received.acre.st ≠ .member := by
    change s.acre.st ≠ .member
    rcases hst with h | h | h <;> rw [h] <;> decide
  obtain ⟨a, hm, h1, h2, h3, h4, h5⟩ := memberOf_frame (getH b 6) addr b s.received
  obtain ⟨w, re, p, c, n, f, al, ht⟩ := classResolution_frame (s.received.beaconDiff b) { s.received with acre := a }
  rw [hm, joinAtBeacon_of_new hnew, ht]
  generalize hu : acreNotes s.received.acre _ = u
  obtain ⟨e, l, rfl⟩ := hu ▸ acreNotes_noted ..
  exact ⟨h1, h2, h3, h4, h5, rfl, e, l, rfl⟩

/-- R63, R394: the beacon of a member's master. -/
theorem exec_beacon_of_master (hv : acreValid 1 b = true) (hne : getH b 6 ≠ s.acreId) (hst : s.acre.st = .member)
    (hm : s.acre.master = some (getH b 6)) (hn : (getB b 0x10).testBit 0 = s.nominal60) :
    let d := s.received.beaconDiff b
    let due : Prop := if s.acre.joined = true then s.acre.gotSlot = false ∨ 7 ≤ s.acre.sinceJoin
      else s.acre.resolved = true ∨ s.unsynced = true
    ∃ u, exec (.beacon addr b) s = .next u ∧ Noted { s with acre := u.acre, bus := u.bus } u ∧
      u.acre.st = .member ∧ u.acre.master = s.acre.master ∧ u.acre.masterAddr = addr ∧ u.acre.sinceMc = s.chain.mc ∧
      u.acre.masterHoldover = (getB b 0x10).testBit 1 ∧ u.acre.window = s.acre.windowAt d ∧
      u.acre.cls = s.acre.cls ∧ u.acre.offset = s.acre.offset ∧ Resolves s.acre s.unsynced d u.acre ∧
      (due → u.acre.sinceJoin = 0 ∧ u.acre.sent = some (s.joinTo (getH b 6) addr)) ∧
      (¬due → u.acre.sent = s.acre.sent) := by
  intro d due
  have hd : s.acre.st ≠ .disabled := by rw [hst]; decide
  refine ⟨_, congrArg Host.Outcome.next ((acreReceive_of_valid _ hr hp hd ha hv).trans
    ((beaconAct_of_master (s := s.received) hn hne hst hm).trans (followBeacon_eq ..))), ?_⟩
  rw [memberOf_of_same addr b (s := s.received) hm]
  obtain ⟨bu, a, hj, h1, h2, h3, h4, h5, h6, h7, h8, hres, hdue, hnot⟩ := memberTurn_spec (was := s.received.acre) d
    (m := { s.received with acre := { s.received.acre with
      st := .member, master := some (getH b 6), masterAddr := addr, members := [],
      masterHoldover := (getB b 0x10).testBit 1, sinceMc := s.received.chain.mc } }) hst hm
  rw [hj]
  generalize hu : acreNotes s.received.acre _ = u
  obtain ⟨e, l, rfl⟩ := hu ▸ acreNotes_noted ..
  exact ⟨⟨e, l, rfl⟩, h1, h2.trans hm.symm, h3, h4, h5, h6, h7, h8, hres, hdue, hnot⟩

/-- R68: a beacon of the other nominal frequency. -/
theorem exec_beacon_of_mismatch (hd : s.acre.st ≠ .disabled) (hv : acreValid 1 b = true) (hne : getH b 6 ≠ s.acreId)
    (hn : (getB b 0x10).testBit 0 ≠ s.nominal60) : ∃ u, exec (.beacon addr b) s = .next u ∧
      Noted { s with bus := u.bus, acre := { s.acre with
        rxMc := s.chain.mc, rxPt := s.chain.pt.toNat, nominalMismatch := true } } u := by
  refine ⟨_, congrArg Host.Outcome.next ((acreReceive_of_valid _ hr hp hd ha hv).trans
    (beaconAct_of_mismatch (s := s.received) hn hne)), ?_⟩
  generalize hu : acreNotes s.received.acre _ = u
  obtain ⟨e, l, rfl⟩ := hu ▸ acreNotes_noted ..
  exact ⟨e, l, rfl⟩

/-! ## Joins and slots (R67, R72, R394) -/

/-- R67: a JOIN that carries the device's own ID. -/
theorem exec_join_of_own (hd : s.acre.st ≠ .disabled) (hst : s.acre.st ≠ .duplicate) (hv : acreValid 2 b = true)
    (hid : getH b 6 = s.acreId) : ∃ u, exec (.join addr b) s = .next u ∧ u.acre.st = .duplicate ∧
      u.acre.offset = s.acre.offset ∧ u.acre.cls = s.acre.cls ∧ u.acre.slot = s.acre.slot ∧
      Noted { s with acre := u.acre, bus := u.bus } u := by
  have hact : joinAct addr b s.received = duplicate s.received.acre s.received := by
    unfold joinAct
    exact (if_neg hst).trans (if_pos hid)
  refine ⟨_, congrArg Host.Outcome.next ((acreReceive_of_valid _ hr hp hd ha hv).trans hact), ?_⟩
  unfold duplicate
  generalize hu : acreNotes s.received.acre _ = u
  obtain ⟨e, l, rfl⟩ := hu ▸ acreNotes_noted ..
  exact ⟨rfl, rfl, rfl, rfl, e, l, rfl⟩

/-- R72, R394: a master answers a JOIN that names it with a SLOT. -/
theorem exec_join_of_master (hv : acreValid 2 b = true) (hst : s.acre.st = .master) (hne : getH b 6 ≠ s.acreId)
    (hto : getH b 0x14 = s.acreId) :
    let others := s.acre.members.filter (fun j => j.id != getH b 6)
    let slot := if getB b 0x13 < 64 then getB b 0x13 else assignSlot others (getB b 0x10)
    let body := le16 (getH b 6) ++ le8 slot ++ zeros 5
    ∃ u, exec (.join addr b) s = .next u ∧
      u.acre.members = others ++ [{ id := getH b 6, cls := getB b 0x10, slot := slot, channels := getB b 0x12,
                                    lastMc := s.chain.mc }] ∧
      u.acre.sent = some (s.datagram 3 addr body body) ∧ u = { s with acre := u.acre, bus := u.bus } := by
  intro others slot body
  have hd : s.acre.st ≠ .disabled := by rw [hst]; decide
  have hdup : ¬s.received.acre.st = .duplicate := by change ¬s.acre.st = .duplicate; rw [hst]; decide
  have hfor : ¬(s.received.acre.st ≠ .master ∨ getH b 0x14 ≠ s.received.acreId) :=
    not_or.mpr ⟨not_not_intro hst, not_not_intro hto⟩
  have hact : joinAct addr b s.received = acreSend 3 addr body body { s.received with acre.members := others ++
      [{ id := getH b 6, cls := getB b 0x10, slot := slot, channels := getB b 0x12, lastMc := s.chain.mc }] } := by
    unfold joinAct
    exact (if_neg hdup).trans ((if_neg hne).trans (if_neg hfor))
  exact ⟨_, congrArg Host.Outcome.next ((acreReceive_of_valid _ hr hp hd ha hv).trans hact), rfl, rfl, rfl⟩

/-- R72, R394: a member takes a SLOT of its master. -/
theorem exec_slot_of_member (hv : acreValid 3 b = true) (hst : s.acre.st = .member) (hm : s.acre.master = some (getH b 6))
    (hto : getH b 0x10 = s.acreId) (hs : getB b 0x12 < 64) : ∃ u, exec (.slot addr b) s = .next u ∧
      u.acre.slotPend = some (getB b 0x12) ∧ u.acre.slot = s.acre.slot ∧
      u = { s with acre := { s.acre with slotPend := some (getB b 0x12), gotSlot := true, sinceJoin := 0,
                                         rxMc := s.chain.mc, rxPt := s.chain.pt.toNat }, bus := u.bus } := by
  have hd : s.acre.st ≠ .disabled := by rw [hst]; decide
  have hact : slotAct b s.received = { s.received with
      acre.slotPend := some (getB b 0x12), acre.gotSlot := true, acre.sinceJoin := 0 } := if_pos ⟨hst, hm, hto, hs⟩
  exact ⟨_, congrArg Host.Outcome.next ((acreReceive_of_valid _ hr hp hd ha hv).trans hact), rfl, rfl, rfl⟩

end

/-! ## The bytes of a message (R392) -/

theorem getLe_skip {a : List Byte} (b : List Byte) {o n : Nat} (h : a.length ≤ o) :
    getLe (a ++ b) o n = getLe b (o - a.length) n := by
  unfold getLe slice
  rw [List.drop_append, List.drop_eq_nil_of_le h, List.nil_append]

theorem getLe_le_append (n v : Nat) (b : List Byte) : getLe (le n v ++ b) 0 n = v % 256 ^ n := by
  rw [getLe_append (by rw [le_length]; omega)]
  have h : slice (le n v) 0 n = le n v := by
    have := slice_append [] (le n v) []
    rwa [List.nil_append, List.append_nil, le_length] at this
  rw [getLe, h, unle_le]

/-- R392: the head of a message. -/
theorem acreMsg_head (typ id seq : Nat) (body plain : List Byte) :
    getW (acreMsg typ id seq body plain) 0 = 0x5A334143 ∧ getB (acreMsg typ id seq body plain) 5 = typ % 256 ∧
    getH (acreMsg typ id seq body plain) 6 = id % 65536 := by
  simp only [acreMsg, getW, getB, getH, le8, le16, le32, List.append_assoc]
  refine ⟨?_, ?_, ?_⟩
  · exact getLe_le_append ..
  · rw [getLe_skip _ (by simp [le_length]), getLe_skip _ (by simp [le_length])]
    simp only [le_length]
    exact getLe_le_append ..
  · rw [getLe_skip _ (by simp [le_length]), getLe_skip _ (by simp [le_length]), getLe_skip _ (by simp [le_length])]
    simp only [le_length]
    exact getLe_le_append ..

/-- R392: the body of a message follows its 16 bytes of head. -/
theorem acreMsg_body (typ id seq : Nat) (body plain : List Byte) (o n : Nat) :
    getLe (acreMsg typ id seq body plain) (16 + o) n = getLe body o n := by
  unfold acreMsg
  rw [getLe_skip _ (by simp [le8, le16, le32, le_length])]
  simp [le8, le16, le32, le_length]

/-! ## The beacon sent (R62, R68, R392) -/

/-- R68: the body of a beacon. -/
def State.beaconHead (s : State) : List Byte :=
  le8 (b2n s.nominal60 + at' (b2n (s.chain.st != .locked)) 1 + at' (b2n (s.chain.st == .synthetic)) 2) ++ zeros 1 ++
    le16 s.beaconInterval
def State.beaconTail (s : State) : List Byte := le16 s.acre.members.length ++ zeros 4
def State.beaconBody (s : State) : List Byte := s.beaconHead ++ leW s.amc ++ le16 s.bpt ++ s.beaconTail

theorem beaconHead_length (s : State) : s.beaconHead.length = 4 := by
  simp [State.beaconHead, le8, le16, le_length, zeros]

theorem beaconBody_amc (s : State) : getW s.beaconBody 4 = s.amc.toNat := by
  rw [State.beaconBody, List.append_assoc, ← beaconHead_length s]
  exact getW_leW ..

theorem beaconBody_bpt (s : State) : getH s.beaconBody 8 = s.bpt % 65536 := by
  have h : (s.beaconHead ++ leW s.amc).length = 8 := by
    rw [List.length_append, beaconHead_length, leW, le_length]
  unfold getH State.beaconBody
  rw [List.append_assoc (s.beaconHead ++ leW s.amc), getLe_skip _ (by omega), h]
  exact getLe_le_append ..

/-- R68, R392: the bytes of a beacon that is sent now. -/
def State.beaconBytes (s : State) : List Byte :=
  acreMsg 1 s.acreId s.acre.seq.toNat s.beaconBody (s.beaconHead ++ zeros 6 ++ s.beaconTail)

theorem beaconBytes_spec (s : State) : getW s.beaconBytes 0 = 0x5A334143 ∧ getB s.beaconBytes 5 = 1 ∧
    getH s.beaconBytes 6 = s.acreId % 65536 ∧ getW s.beaconBytes 0x14 = s.amc.toNat ∧
    getH s.beaconBytes 0x18 = s.bpt % 65536 := by
  obtain ⟨h1, h2, h3⟩ := acreMsg_head 1 s.acreId s.acre.seq.toNat s.beaconBody (s.beaconHead ++ zeros 6 ++ s.beaconTail)
  have hb (o n : Nat) : getLe s.beaconBytes (16 + o) n = getLe s.beaconBody o n := acreMsg_body ..
  exact ⟨h1, h2, h3, (hb 4 4).trans (beaconBody_amc s), (hb 8 2).trans (beaconBody_bpt s)⟩

theorem beaconSend_of_due {s : State} (hr : s.released = true) (hp : s.clk.pllLocked = true) (hst : s.acre.st = .master)
    (hd : s.acre.beaconDue = some s.amc) : beaconSend s =
      acreSend 1 s.acreBroadcast s.beaconBody (s.beaconHead ++ zeros 6 ++ s.beaconTail) { s with acre.beaconDue := none } :=
  if_pos (by simp [acreRuns_of hr hp, hst, hd])

/-- Settles O11: each message acts on the stamped state as the device's part in the election gives it, and the beacon's
bytes are read where they were laid out. -/
theorem acreMessagesAndBeacons : Obligations.AcreMessagesAndBeacons := by
  refine ⟨fun s addr b hr hp hd hst ha => ⟨?lower, ?own, ?joins, ?slots⟩,
    fun s addr b hr hp ha hv hne => ⟨?mismatch, ?master⟩, fun s hr hp hst hdue => ?sent⟩
  case lower => exact fun hv _ hn hid hs => exec_beacon_of_lower hr hp ha hd hv hn hid hs
  case own => exact fun hv hid => exec_join_of_own hr hp ha hd hst hv hid
  case joins =>
    intro hv hm hne hto
    obtain ⟨u, hx, h1, h2, h3⟩ := exec_join_of_master hr hp ha hv hm hne hto
    exact ⟨u, hx, ⟨h1, h2⟩, h3⟩
  case slots => exact fun hv hm hms hto hs => exec_slot_of_member hr hp ha hv hm hms hto hs
  case mismatch => exact fun hn hd => exec_beacon_of_mismatch hr hp ha hd hv hne hn
  case master =>
    intro hst hm hn
    obtain ⟨u, hx, h0, h1, h2, h3, h4, h5, h6, h7, h8, ⟨r1, r2, r3, r4⟩, hdue, hnot⟩ :=
      exec_beacon_of_master hr hp ha hv hne hst hm hn
    exact ⟨u, hx, h0, h1, h2, h3, h4, h5, h6, h7, h8, r1, r2, r3, r4, hdue, hnot⟩
  case sent =>
    obtain ⟨h1, h2, h3, h4, h5⟩ := beaconBytes_spec s
    exact ⟨_, congrArg Host.Outcome.next (beaconSend_of_due hr hp hst hdue), rfl,
      ⟨_, rfl, h1, h2, h3, h4, h5, rfl, rfl, rfl, rfl, rfl⟩, rfl⟩

end Sys2Proof.Machine

namespace Sys2Proof.Machine

/-! PROOFS. Chain: a crossing in each state, the window that closes empty, and the phase tick. -/

/-! ## Moving to a state, and slewing (R58) -/

theorem setChain_noted (st : ChainSt) (s : State) : Noted { s with chain.st := st } (setChain st s) := by
  unfold setChain
  split
  · next h => rw [← h]; exact .refl s
  · exact report_noted ..

theorem setChain_raised {st : ChainSt} {s : State} (h : s.chain.st ≠ st) : (setChain st s).raised 101 := by
  rw [setChain, if_neg h]
  exact report_raised _ (by decide)

theorem setSlewing_noted (v : Bool) (s : State) : Noted { s with chain.slewing := v } (setSlewing v s) := by
  unfold setSlewing
  dsimp only
  split
  · exact report_noted ..
  · exact .refl _

theorem setSlewing_raised_of {v : Bool} {k : Nat} {s : State} (h : s.raised k) : (setSlewing v s).raised k := by
  unfold setSlewing
  dsimp only
  split
  · exact report_raised_of h
  · exact h

/-! ## The count begins (R41, R42) -/

theorem beginCounting_noted (t : Nat) (st : ChainSt) (s : State) : Noted { s with chain := { s.chain with
    st := st, mcStart := t, now := t, pEst := s.nominalLen, curLen := s.nominalLen, nextLen := none } }
    (beginCounting t st s) := setChain_noted ..

/-! ## The phase correction (R50) -/

/-- R50: the phase error of a crossing. -/
def State.phaseErrOf (s : State) (obs : Int) : Int := sext 12 (wrap 12 (s.linePt obs))

/-- R50: Chain with the phase error e of a crossing that the next MC corrects. -/
def Chain.correct (c : Chain) (e : Int) : Chain :=
  { c with phaseErr := e, nextLen := some ((c.pEst : Int) + (clampI e (-8) 8 * c.pEst).tdiv 4096).toNat,
           expect := e - clampI e (-8) 8, slewing := decide (8 < e.natAbs) }

theorem phaseCorrect_noted (obs : Int) (s : State) :
    Noted { s with chain := s.chain.correct (s.phaseErrOf obs) } (phaseCorrect obs s) := setSlewing_noted ..

theorem phaseCorrect_raised_of {obs : Int} {k : Nat} {s : State} (h : s.raised k) : (phaseCorrect obs s).raised k :=
  setSlewing_raised_of h

/-- R44: an accepted crossing numbers its window, and no other field of Chain changes. -/
theorem windowAccepted_noted {obs : Int} {s t : State} (h : Noted s t) : Noted { s with chain := { s.chain with
    winUsed := (windowAccepted obs t).chain.winUsed, winAccepted := (windowAccepted obs t).chain.winAccepted,
    winMissed := none } } (windowAccepted obs t) := by
  obtain ⟨e, b, rfl⟩ := h
  exact ⟨e, b, rfl⟩

/-! ## A crossing in each state (R43, R44, R45, R47, R530) -/

theorem inLockRange_iff (p : Nat) : inLockRange p = true ↔ 24000000 ≤ 65 * p ∧ 45 * p ≤ 24000000 := by
  simp [inLockRange]

theorem nearPrevious_iff (prev : Option Nat) (p : Nat) :
    nearPrevious prev p = true ↔ ∀ q, prev = some q → 200 * ((p : Int) - q).natAbs ≤ q := by
  cases prev with
  | none => simp [nearPrevious]
  | some q =>
    simp only [nearPrevious, Bool.and_eq_true, decide_eq_true_eq, Option.some.injEq, forall_eq']
    omega

/-- R43: the cycle that a crossing ends is consistent. -/
def Chain.Consistent (c : Chain) (n p : Nat) : Prop :=
  n = 1 ∧ 24000000 ≤ 65 * p ∧ 45 * p ≤ 24000000 ∧ ∀ q, c.lastPeriod = some q → 200 * ((p : Int) - q).natAbs ≤ q

/-- R530: Chain with a crossing measured. -/
def Chain.measured (c : Chain) (obs : Int) (p : Nat) : Chain :=
  { c with lastCross := some obs, lastPeriod := some p, periods := (p :: c.periods).take 20, missed := 0 }

theorem consistent_iff (c : Chain) (n p : Nat) :
    (decide (n = 1) && inLockRange p && nearPrevious c.lastPeriod p) = true ↔ c.Consistent n p := by
  rw [Bool.and_eq_true, Bool.and_eq_true, decide_eq_true_eq, inLockRange_iff, nearPrevious_iff]
  unfold Chain.Consistent
  tauto

theorem acceptCrossing_of_consistent {obs : Int} {n p : Nat} {s : State} (h : s.chain.Consistent n p) :
    acceptCrossing obs n p s = { s with chain := { s.chain.measured obs p with consec := s.chain.consec + 1 } } := by
  unfold acceptCrossing
  simp only [(consistent_iff ..).mpr h, if_true]
  rfl

theorem acceptCrossing_of_inconsistent {obs : Int} {n p : Nat} {s : State} (h : ¬s.chain.Consistent n p) :
    acceptCrossing obs n p s = { s with chain := { s.chain.measured obs p with consec := 0 } } := by
  have h' := mt (consistent_iff ..).mp h
  unfold acceptCrossing
  simp only [h']
  rfl

/-- R530: the cycles that a crossing in ACQUIRE or HOLDOVER covers, and the period it measures. -/
def State.cyclesTo (s : State) (t : Int) : Nat := (max 1 (rne t s.lenL)).toNat
def State.periodTo (s : State) (t : Int) : Nat := t.toNat / s.cyclesTo t

theorem crossFree_of_first {obs : Int} {s : State} (h : s.chain.lastCross = none) :
    crossFree obs s = { s with chain := { s.chain with lastCross := some obs, missed := 0 } } := by
  rw [crossFree, h]

theorem crossFree_of_early {obs a : Int} {s : State} (h : s.chain.lastCross = some a) (ht : (obs - a) * 65 < 18000000) :
    crossFree obs s = s := by
  rw [crossFree, h]
  exact if_pos ht

theorem crossFree_of_due {obs a : Int} {s : State} (h : s.chain.lastCross = some a) (ht : 18000000 ≤ (obs - a) * 65) :
    crossFree obs s = let s1 := acceptCrossing obs (s.cyclesTo (obs - a)) (s.periodTo (obs - a)) s
      if 20 ≤ s1.chain.consec then lockChain obs s1 else s1 := by
  rw [crossFree, h]
  exact if_neg (Int.not_lt.mpr ht)

/-- R47: Chain as it locks, before the first correction. -/
def Chain.locking (c : Chain) : Chain := { c with st := .locked, pEst := meanOf c.periods, expect := 0 }

/-- R47: the lock takes the mean of the measured periods, corrects its first phase error, and is reported. -/
theorem lockChain_spec {obs : Int} {s : State} (h : s.chain.st ≠ .locked) : (lockChain obs s).raised 101 ∧
    Noted { s with chain := { s.chain.locking.correct (s.phaseErrOf obs) with
      winUsed := (lockChain obs s).chain.winUsed, winAccepted := (lockChain obs s).chain.winAccepted,
      winMissed := none } } (lockChain obs s) := by
  have hn := setChain_noted .locked { s with chain.pEst := meanOf s.chain.periods, chain.expect := 0 }
  have hr : (setChain .locked { s with chain.pEst := meanOf s.chain.periods, chain.expect := 0 }).raised 101 :=
    setChain_raised h
  unfold lockChain
  generalize setChain .locked { s with chain.pEst := meanOf s.chain.periods, chain.expect := 0 } = t at hn hr ⊢
  refine ⟨phaseCorrect_raised_of (obs := obs) hr, ?_⟩
  obtain ⟨e, b, rfl⟩ := hn
  have hc := phaseCorrect_noted obs { s with
    chain.st := .locked, chain.pEst := meanOf s.chain.periods, chain.expect := 0, evt := e, bushel := b }
  exact windowAccepted_noted (s := { s with chain := s.chain.locking.correct (s.phaseErrOf obs) }) (.trans ⟨e, b, rfl⟩ hc)

/-- R47: the crossing that completes the 20th consistent cycle. -/
theorem crossFree_of_last {obs a : Int} {s : State} (h : s.chain.lastCross = some a) (ht : 18000000 ≤ (obs - a) * 65)
    (hok : s.chain.Consistent (s.cyclesTo (obs - a)) (s.periodTo (obs - a))) (h20 : 19 ≤ s.chain.consec) :
    crossFree obs s = lockChain obs { s with chain := { s.chain.measured obs (s.periodTo (obs - a)) with
      consec := s.chain.consec + 1 } } := by
  rw [crossFree_of_due h ht, acceptCrossing_of_consistent hok]
  exact if_pos (Nat.succ_le_succ h20)

theorem crossFree_of_counted {obs a : Int} {s : State} (h : s.chain.lastCross = some a) (ht : 18000000 ≤ (obs - a) * 65)
    (hok : s.chain.Consistent (s.cyclesTo (obs - a)) (s.periodTo (obs - a))) (h20 : s.chain.consec < 19) :
    crossFree obs s = { s with chain := { s.chain.measured obs (s.periodTo (obs - a)) with consec := s.chain.consec + 1 } } := by
  rw [crossFree_of_due h ht, acceptCrossing_of_consistent hok]
  exact if_neg (Nat.not_le.mpr (Nat.succ_lt_succ h20))

theorem crossFree_of_inconsistent {obs a : Int} {s : State} (h : s.chain.lastCross = some a) (ht : 18000000 ≤ (obs - a) * 65)
    (hok : ¬s.chain.Consistent (s.cyclesTo (obs - a)) (s.periodTo (obs - a))) :
    crossFree obs s = { s with chain := { s.chain.measured obs (s.periodTo (obs - a)) with consec := 0 } } := by
  rw [crossFree_of_due h ht, acceptCrossing_of_inconsistent hok]
  exact if_neg (show ¬20 ≤ 0 by decide)

/-- R44, R45: a crossing in LOCKED outside its window, or the second one in it. -/
theorem crossLocked_of_ignored {obs : Int} {s : State} (h : s.chain.winUsed = some (s.windowOf obs).1 ∨
    (s.windowOf obs).2 < -512 ∨ 511 < (s.windowOf obs).2) : crossLocked obs s = s := if_pos h

section

variable {obs a : Int} {s : State} (h : s.chain.lastCross = some a)
  (hw : ¬(s.chain.winUsed = some (s.windowOf obs).1 ∨ (s.windowOf obs).2 < -512 ∨ 511 < (s.windowOf obs).2))
include h hw

theorem crossLocked_of_refused (hp : inLockRange ((obs - a).toNat / (1 + s.chain.missed)) = false) :
    crossLocked obs s = { s with chain.winUsed := some (s.windowOf obs).1 } := by
  unfold crossLocked
  dsimp only
  rw [if_neg hw, h, Option.getD_some, hp]
  rfl

/-- R50: Chain with a crossing accepted in LOCKED, before the correction. -/
def State.lockedMeasure (s : State) (obs : Int) (p : Nat) : State :=
  let s1 := acceptCrossing obs (1 + s.chain.missed) p { s with chain.winUsed := some (s.windowOf obs).1 }
  { s1 with chain.pEst := ((s1.chain.pEst : Int) + ((p : Int) - s1.chain.pEst).tdiv 16).toNat }

theorem crossLocked_of_accepted {p : Nat} (hp : (obs - a).toNat / (1 + s.chain.missed) = p) (hr : inLockRange p = true) :
    crossLocked obs s = windowAccepted obs (phaseCorrect obs (s.lockedMeasure obs p)) := by
  unfold crossLocked
  dsimp only
  rw [if_neg hw, h, Option.getD_some, hp, hr]
  rfl

/-- R50: a crossing accepted in LOCKED moves the estimate and corrects the phase. -/
theorem crossLocked_spec {p : Nat} (hp : (obs - a).toNat / (1 + s.chain.missed) = p) (hr : inLockRange p = true) :
    Noted { s with chain := { ({ s.chain.measured obs p with
        pEst := ((s.chain.pEst : Int) + ((p : Int) - s.chain.pEst).tdiv 16).toNat } : Chain).correct (s.phaseErrOf obs) with
      consec := (crossLocked obs s).chain.consec, winUsed := (crossLocked obs s).chain.winUsed,
      winAccepted := (crossLocked obs s).chain.winAccepted, winMissed := none } } (crossLocked obs s) := by
  rw [crossLocked_of_accepted h hw hp hr]
  obtain ⟨e, b, hc⟩ := phaseCorrect_noted obs (s.lockedMeasure obs p)
  rw [hc]
  exact ⟨e, b, rfl⟩

end

/-! ## A window that closes empty (R44, R45, R46) -/

theorem enterHoldover_noted (s : State) : Noted { s with chain := { s.chain with
    st := .holdover, consec := 0, slewing := false, pEst := meanOf (s.chain.periods.take 16), x24Base := s.chain.x24 } }
    (enterHoldover s) := by
  have hn := setChain_noted .holdover
    { s with chain.pEst := meanOf (s.chain.periods.take 16), chain.x24Base := s.chain.x24, chain.consec := 0 }
  unfold enterHoldover
  obtain ⟨e, b, ht⟩ := hn
  rw [ht]
  exact .trans ⟨e, b, rfl⟩ (setSlewing_noted ..)

/-- R44: no crossing was accepted in the window `k` that closes, and it has not been counted. -/
theorem missingCrossing_of_empty {s : State} (ha : s.alive = true) (hst : s.chain.st = .locked) {k : Word}
    (hk : s.closingWindow = some k) (hacc : s.chain.winAccepted ≠ some k) (hmiss : s.chain.winMissed ≠ some k) :
    missingCrossing s = let s1 := { s with chain := { s.chain with missed := s.chain.missed + 1, winMissed := some k } }
      if 3 ≤ s.chain.missed + 1 then enterHoldover s1 else s1 := by
  unfold missingCrossing
  simp [ha, hst, hk, hacc, hmiss]

/-! ## The statement on crossings -/

theorem exec_zxCrossing {t : Nat} {pos : Bool} {s : State} (ha : s.alive = true) (hp : pos ≠ s.cb .chain 0 0 10) :
    let obs : Int := (t : Int) - 24 - 6 * s.cf .chain 0 0 9 2
    exec (.zxCrossing t pos) s = .next (match s.chain.st with
      | .start => if s.synthetic then s else { beginCounting t .acquire s with chain.lastCross := some obs }
      | .acquire | .holdover => crossFree obs s
      | .locked => crossLocked obs s
      | .synthetic => s) := congrArg Host.Outcome.next (if_neg (by simp [ha, hp]))

/-- R41, R42: the count begins in START, at the first crossing or at the time-out. -/
theorem start_begins {s : State} (ha : s.alive = true) (hst : s.chain.st = .start) (hs : s.synthetic = false) :
    (∀ (t : Nat) (pos : Bool), pos ≠ s.cb .chain 0 0 10 → ∃ u, exec (.zxCrossing t pos) s = .next u ∧
      Noted { s with chain := { s.chain with
        st := .acquire, mcStart := t, now := t, pEst := s.nominalLen, curLen := s.nominalLen, nextLen := none,
        lastCross := some ((t : Int) - 24 - 6 * s.cf .chain 0 0 9 2) } } u) ∧
    (∃ u, exec .startTimeout s = .next u ∧ Noted { s with chain := { s.chain with
      st := .acquire, mcStart := s.chain.now + 2400000, now := s.chain.now + 2400000, pEst := s.nominalLen,
      curLen := s.nominalLen, nextLen := none } } u) := by
  refine ⟨fun t pos hp => ?_, _, congrArg Host.Outcome.next (if_pos (by simp [ha, hst, hs])), beginCounting_noted ..⟩
  have hx := exec_zxCrossing (t := t) ha hp
  rw [hst, hs] at hx
  refine ⟨_, hx, ?_⟩
  obtain ⟨e, b, hb⟩ := beginCounting_noted t .acquire s
  rw [if_neg (by decide), hb]
  exact ⟨e, b, rfl⟩

/-- R43, R47, R530: a crossing in ACQUIRE or HOLDOVER. -/
theorem free_crossing {s : State} {time : Nat} {pos : Bool} {obs : Int} (ha : s.alive = true)
    (hp : pos ≠ s.cb .chain 0 0 10) (ho : (time : Int) - 24 - 6 * s.cf .chain 0 0 9 2 = obs)
    (hst : s.chain.st = .acquire ∨ s.chain.st = .holdover) : exec (.zxCrossing time pos) s = .next (crossFree obs s) := by
  have hx := exec_zxCrossing (t := time) ha hp
  rw [ho] at hx
  rcases hst with h | h <;> rw [h] at hx <;> exact hx

theorem locked_crossing {s : State} {time : Nat} {pos : Bool} {obs : Int} (ha : s.alive = true)
    (hp : pos ≠ s.cb .chain 0 0 10) (ho : (time : Int) - 24 - 6 * s.cf .chain 0 0 9 2 = obs)
    (hst : s.chain.st = .locked) : exec (.zxCrossing time pos) s = .next (crossLocked obs s) := by
  have hx := exec_zxCrossing (t := time) ha hp
  rw [ho, hst] at hx
  exact hx

/-- Settles O8: the count begins in START; elsewhere a crossing measures its cycles and, once accepted, corrects the phase;
and a window that closes empty counts as missing. -/
theorem chainCrossings : Obligations.ChainCrossings := by
  refine ⟨fun s ha hst hs => start_begins ha hst hs, fun s time pos ha hp => ?crossing, fun s ha hst => ?missing⟩
  case crossing =>
    intro obs e corr corrected near
    refine ⟨fun hst => ⟨fun h => ?first, fun a h => ⟨fun ht => ?early, fun ht => ?due⟩⟩,
      fun hst => ⟨fun hw => ?ignored, fun a h hu hl hh => ⟨fun hr => ?refused, fun h1 h2 => ?accepted⟩⟩⟩
    case first => rw [free_crossing ha hp rfl hst, crossFree_of_first h]
    case early => rw [free_crossing ha hp rfl hst, crossFree_of_early h ht]
    case due =>
      rw [free_crossing ha hp rfl hst]
      intro n p m ok
      refine ⟨fun hok => ?_, fun hok hc => ?_, fun hok hc => ?_⟩
      · exact congrArg Host.Outcome.next (crossFree_of_inconsistent h ht hok)
      · exact congrArg Host.Outcome.next (crossFree_of_counted h ht hok hc)
      · have hl : s.chain.st ≠ .locked := by rcases hst with h | h <;> rw [h] <;> decide
        rw [crossFree_of_last h ht hok hc]
        obtain ⟨hr, hn⟩ := lockChain_spec (obs := obs) (s := { s with chain := { s.chain.measured obs p with
          consec := s.chain.consec + 1 } }) hl
        exact ⟨_, rfl, hr, hn⟩
    case ignored => rw [locked_crossing ha hp rfl hst, crossLocked_of_ignored hw]
    case refused =>
      have hw := not_or.mpr ⟨hu, not_or.mpr ⟨Int.not_lt.mpr hl, Int.not_lt.mpr hh⟩⟩
      rw [locked_crossing ha hp rfl hst, crossLocked_of_refused h hw (by simp [inLockRange]; omega)]
    case accepted =>
      have hw := not_or.mpr ⟨hu, not_or.mpr ⟨Int.not_lt.mpr hl, Int.not_lt.mpr hh⟩⟩
      have hn := crossLocked_spec h hw rfl ((inLockRange_iff _).mpr ⟨h1, h2⟩)
      refine ⟨_, locked_crossing ha hp rfl hst, ?_, ?_, hn⟩
      all_goals
        obtain ⟨e, b, hn⟩ := hn
        rw [hn]
        rfl
  case missing =>
    intro x k hx hacc hmiss
    have he := missingCrossing_of_empty ha hst (k := k) (if_pos hx) hacc hmiss
    refine ⟨fun hm => ?_, fun hm => ⟨_, congrArg Host.Outcome.next (he.trans (if_pos (by omega))), enterHoldover_noted _⟩⟩
    exact congrArg Host.Outcome.next (he.trans (if_neg (by omega)))

end Sys2Proof.Machine

namespace Sys2Proof.Machine

/-! PROOFS. The phase tick: what the start of a PT publishes and releases, and the MC boundary. -/

/-! ## Publication (R98) -/

/-- Apart from the sensing results, the bus, the panel, events raised and records written, t is s. -/
def Senses (s t : State) : Prop := ∃ se bu pa, Noted { s with sens := se, bus := bu, panel := pa } t

theorem Senses.of_noted {s t : State} (h : Noted s t) : Senses s t := ⟨s.sens, s.bus, s.panel, h⟩

theorem Senses.trans {s t u : State} (h : Senses s t) (g : Senses t u) : Senses s u := by
  obtain ⟨se, bu, pa, e, b, rfl⟩ := h
  obtain ⟨se', bu', pa', e', b', rfl⟩ := g
  exact ⟨se', bu', pa', e', b', rfl⟩

/-- What publishes leaves the modulators as they were. -/
def Publishes (s t : State) : Prop := Senses s t ∧ t.sens.mods = s.sens.mods

theorem Publishes.refl (s : State) : Publishes s s := ⟨.of_noted (.refl s), rfl⟩

theorem Publishes.trans {s t u : State} (h : Publishes s t) (g : Publishes t u) : Publishes s u :=
  ⟨h.1.trans g.1, g.2.trans h.2⟩

theorem Publishes.of_noted {s t : State} (h : Noted s t) : Publishes s t := by
  refine ⟨.of_noted h, ?_⟩
  obtain ⟨e, b, rfl⟩ := h
  rfl

theorem Publishes.of_panel (s : State) (pa : Panel) : Publishes s { s with panel := pa } := ⟨⟨_, _, _, .refl _⟩, rfl⟩

theorem rangeEvent_publishes (m k : Nat) (bad first : Bool) (s : State) : Publishes s (rangeEvent m k bad first s) := by
  have h : Publishes s { s with sens.flagged := s.sens.flagged.set (inputIndex m k) bad } := ⟨⟨_, _, _, .refl _⟩, rfl⟩
  unfold rangeEvent
  dsimp only
  split
  · exact h.trans (.of_noted (report_noted ..))
  · exact h

theorem busLast_publishes (n : Nat) (w : Word) (s : State) : Publishes s (busLast n w s) := by
  unfold busLast
  split
  · exact ⟨⟨_, _, _, .refl _⟩, rfl⟩
  · exact .refl s

theorem publishOne_publishes (m : Nat) (d : Delivery) (s : State) : Publishes s (publishOne m d s) := by
  have sens (se : Sens) (h : se.mods = s.sens.mods) : Publishes s { s with sens := se } := ⟨⟨_, _, _, .refl _⟩, h⟩
  unfold publishOne
  dsimp only
  split
  · refine .trans (.trans (sens _ ?_) (busLast_publishes ..)) (rangeEvent_publishes ..)
    rfl
  · refine .trans (.trans (sens _ ?_) (busLast_publishes ..)) (rangeEvent_publishes ..)
    rfl

theorem publishAll_publishes (m : Nat) (s : State) :
    Publishes (updMod m (fun x => { x with pend := [] }) s) (publishAll m s) :=
  List.foldlRecOn (motive := fun t : State => Publishes _ t) _ _ (.refl _) fun t h d _ => h.trans (publishOne_publishes m d t)

theorem quireReport_noted (s : State) : Noted s (quireReport s) := (raiseWith_noted ..).trans (happen_noted ..)

theorem setTempInvalid_publishes (v : Bool) (s : State) : Publishes s (setTempInvalid v s) := by
  unfold setTempInvalid
  split
  · exact .refl s
  · exact (Publishes.of_panel s _).trans (.of_noted (quireReport_noted _))

theorem bandDefault_publishes (s : State) : Publishes s (bandDefault s) := by
  unfold bandDefault
  split
  · exact .refl s
  · exact .of_panel s _

theorem bandCheck_frame (s : State) : ∃ pa, bandCheck s = { s with panel := pa } := by
  unfold bandCheck
  dsimp only
  split
  · (repeat' split) <;> exact ⟨_, rfl⟩
  · (repeat' split) <;> exact ⟨_, rfl⟩

theorem bandCheck_publishes (s : State) : Publishes s (bandCheck s) := by
  obtain ⟨pa, h⟩ := bandCheck_frame s
  rw [h]
  exact .of_panel s pa

theorem bandEval_publishes (s : State) : Publishes s (bandEval s) := by
  unfold bandEval
  dsimp only
  split
  · exact ((bandDefault_publishes s).trans (setTempInvalid_publishes ..)).trans (bandCheck_publishes _)
  · exact ((Publishes.of_panel s _).trans (setTempInvalid_publishes ..)).trans (bandCheck_publishes _)

/-- R98: a publication takes the results of its modulator, and those alone. -/
theorem resultPublish_publishes (m : Nat) (s : State) :
    Publishes (updMod m (fun x => { x with pend := [] }) s) (resultPublish m s) := by
  unfold resultPublish
  dsimp only
  split
  · exact (publishAll_publishes m s).trans (bandEval_publishes _)
  · exact publishAll_publishes m s

theorem resultPublish_senses (m : Nat) (s : State) : Senses s (resultPublish m s) := by
  have h : Senses s (updMod m (fun x => { x with pend := [] }) s) := ⟨_, _, _, .refl _⟩
  exact h.trans (resultPublish_publishes m s).1

theorem resultPublish_mods (m : Nat) (s : State) :
    (resultPublish m s).sens.mods = upd s.sens.mods m (fun x => { x with pend := [] }) := (resultPublish_publishes m s).2

/-- R98: modulator m publishes where it is due. -/
def publishIf (s : State) (m : Nat) : State := if s.publishDue m then resultPublish m s else s

theorem publishLate_eq (s : State) :
    publishLate s = if s.clk.pllLocked then (List.range 21).foldl publishIf s else s := rfl

theorem publishIf_senses (s : State) (m : Nat) : Senses s (publishIf s m) := by
  unfold publishIf
  split
  · exact resultPublish_senses m s
  · exact .of_noted (.refl s)

theorem publishLate_senses (s : State) : Senses s (publishLate s) := by
  rw [publishLate_eq]
  split
  · exact List.foldlRecOn (motive := fun t : State => Senses s t) _ _ (.of_noted (.refl s)) fun t h m _ =>
      h.trans (publishIf_senses t m)
  · exact .of_noted (.refl s)

theorem publishDue_iff (s : State) (m : Nat) : s.publishDue m = true ↔
    ∃ d, d ∈ (nth s.sens.mods m).pend ∧ 2 ≤ s.ptSince d.res.mcEnd d.res.ptEnd := by
  simp [State.publishDue]

/-- R98: with no result due a PT publishes nothing. -/
theorem publishLate_of_none {s : State} (h : ∀ m, m < 21 → ∀ d, d ∈ (nth s.sens.mods m).pend →
    s.ptSince d.res.mcEnd d.res.ptEnd < 2) : publishLate s = s := by
  have stay (m : Nat) (hm : m ∈ List.range 21) : publishIf s m = s := by
    refine if_neg fun hd => ?_
    obtain ⟨d, hd, h2⟩ := (publishDue_iff s m).mp hd
    exact absurd (h m (List.mem_range.mp hm) d hd) (Int.not_lt.mpr h2)
  rw [publishLate_eq]
  split
  · exact List.foldlRecOn (motive := fun t : State => t = s) _ _ rfl fun t ht m hm => by rw [ht, stay m hm]
  · rfl

/-- R98: modulator m has its results of s still, or has published them. -/
def Pends (s : State) (m : Nat) (t : State) : Prop :=
  t.chain = s.chain ∧ t.sens.mods.length = s.sens.mods.length ∧
    (nth t.sens.mods m = nth s.sens.mods m ∨ (nth t.sens.mods m).pend = [])

theorem nth_clearPend (l : List ModSt) (j m : Nat) : nth (upd l j (fun x => { x with pend := [] })) m = nth l m ∨
    (nth (upd l j (fun x => { x with pend := [] })) m).pend = [] := by
  rcases eq_or_ne m j with rfl | hj
  · rcases Nat.lt_or_ge m l.length with h | h
    · right; rw [nth_upd_self _ _ _ h]
    · left; rw [upd_past _ _ _ h]
  · left; exact nth_upd_ne _ _ _ _ hj

theorem publishIf_pends {s t : State} {m : Nat} (j : Nat) (h : Pends s m t) : Pends s m (publishIf t j) := by
  obtain ⟨hc, hl, hp⟩ := h
  unfold publishIf
  split
  · obtain ⟨se, bu, pa, e, b, hs⟩ := resultPublish_senses j t
    have hm := resultPublish_mods j t
    refine ⟨by rw [hs]; exact hc, by rw [hm, upd_length]; exact hl, ?_⟩
    rw [hm]
    rcases nth_clearPend t.sens.mods j m with h | h
    · rw [h]; exact hp
    · exact .inr h
  · exact ⟨hc, hl, hp⟩

/-- R98: a modulator that a due result waits for has published at the end of the turn. -/
theorem publishLate_clears {s : State} {m : Nat} (hp : s.clk.pllLocked = true) (hm : m < 21) (hl : m < s.sens.mods.length)
    (hd : ∃ d, d ∈ (nth s.sens.mods m).pend ∧ 2 ≤ s.ptSince d.res.mcEnd d.res.ptEnd) :
    (nth (publishLate s).sens.mods m).pend = [] := by
  have start : Pends s m s := ⟨rfl, rfl, .inl rfl⟩
  rw [publishLate_eq, if_pos hp]
  refine And.right (foldl_reaches (I := Pends s m) (Q := fun t : State => (nth t.sens.mods m).pend = [])
    (List.mem_range.mpr hm) start (fun t j h => publishIf_pends j h) (fun t j h hq => ?stays) (fun t h => ?clears))
  case stays =>
    unfold publishIf
    split
    · rw [resultPublish_mods]
      rcases nth_clearPend t.sens.mods j m with h | h
      · rw [h]; exact hq
      · exact h
    · exact hq
  case clears =>
    obtain ⟨hc, hlen, h⟩ := h
    unfold publishIf
    split
    · rw [resultPublish_mods, nth_upd_self _ _ _ (by omega)]
    · next hn =>
      refine h.resolve_left fun he => hn ((publishDue_iff t m).mpr ?_)
      simpa only [State.ptSince, he, hc] using hd

/-! ## The beacon's release (R53, R68) -/

theorem beaconRelease_eq (s : State) : beaconRelease s = { s with acre := { s.acre with
    beaconDue := if s.released = true ∧ s.clk.pllLocked = true ∧ s.acre.st = .master ∧ s.bpt = 0 ∧
      s.amc.toNat % s.beaconInterval = 0 then some s.amc else s.acre.beaconDue } } := by
  have hc : (s.acreRuns && s.acre.st == .master && s.bpt == 0 && s.amc.toNat % s.beaconInterval == 0) = true ↔
      s.released = true ∧ s.clk.pllLocked = true ∧ s.acre.st = .master ∧ s.bpt = 0 ∧
        s.amc.toNat % s.beaconInterval = 0 := by
    simp [State.acreRuns, and_assoc]
  unfold beaconRelease
  simp only [hc]
  split <;> rfl

/-! ## The MC boundary (R48, R60, R72) -/

/-- R57, R60: a change of Acre that source 100 reports where it shows. -/
theorem reportIf_noted (c : Prop) [Decidable c] (s : State) : Noted s (if c then report 100 3 2 0 s else s) := by
  split
  · exact report_noted ..
  · exact .refl s

theorem slotBoundary_noted (s : State) : ∃ a, Noted { s with acre := a } (slotBoundary s) := ⟨_, reportIf_noted ..⟩

theorem classBoundary_noted (s : State) : ∃ a, Noted { s with acre := a } (classBoundary s) := by
  unfold classBoundary
  split
  · exact ⟨s.acre, .refl s⟩
  · exact ⟨_, reportIf_noted ..⟩

/-- R48, R136: Chain at PT 0 of the next MC. -/
def State.nextMc (s : State) : Chain :=
  { s.chain with
    x24 := s.coefs.x24, pt := 0, stage := 0, mc := s.chain.mc + 1, mcStart := s.chain.mcStart + s.chain.curLen,
    now := s.chain.mcStart + s.chain.curLen, nextLen := none,
    curLen := s.chain.nextLen.getD { s with chain := { s.chain with x24 := s.coefs.x24 } }.lenL }

theorem mcBoundary_noted (s : State) :
    ∃ a f, Noted { s with chain := s.nextMc, acre := a, cfg.inForce := f } (mcBoundary s) := by
  have hm : mcBoundary s = classBoundary (slotBoundary (chainLive { s with chain := s.nextMc })) := by
    unfold mcBoundary State.nextMc
    dsimp only
    cases s.chain.nextLen <;> rfl
  obtain ⟨a, e, b, h1⟩ := slotBoundary_noted (chainLive { s with chain := s.nextMc })
  rw [hm, h1]
  obtain ⟨a', e', b', h2⟩ := classBoundary_noted
    { (chainLive { s with chain := s.nextMc }) with acre := a, evt := e, bushel := b }
  rw [h2]
  exact ⟨a', _, e', b', rfl⟩

/-! ## The tick (R48, R49) -/

/-- R448, R450: without a burst and a Shutdown in progress the start of a PT ends with its publications. -/
theorem exec_ptTick {s r : State} (hr : beaconRelease (ptTick s) = r) (hsh : r.sup.shutAt = none)
    (hth : r.throttled = false) (hb : r.act.burst = false) : exec .ptTick s = .next (publishLate r) := by
  have hx : exec .ptTick s = .next (shutdownEnd (burstStep (publishLate r))) := by rw [← hr]; rfl
  obtain ⟨se, bu, pa, e, b, hp⟩ := publishLate_senses r
  have hburst : burstStep (publishLate r) = publishLate r := by
    have hth' : (publishLate r).throttled = false := by rw [hp]; exact hth
    have hb' : (publishLate r).act.burst = false := by rw [hp]; exact hb
    simp [burstStep, hth', hb']
  have hend : shutdownEnd (publishLate r) = publishLate r := by
    have hs : (publishLate r).sup.shutAt = none := by rw [hp]; exact hsh
    rw [shutdownEnd, hs]
  rw [hx, hburst, hend]

/-- Settles O9: a tick within an MC advances PT alone, and one at its end is the MC boundary; both then publish what is due. -/
theorem phaseTicks : Obligations.PhaseTicks := by
  intro s ha hst hsh hth hb
  have hrun : ¬(!s.alive || s.chain.st == .start) = true := by simp [ha, hst]
  refine ⟨fun hpt => ?within, fun hpt => ?boundary⟩
  case within =>
    intro t due
    have ht : beaconRelease (ptTick s) = { t with acre := { s.acre with beaconDue := due } } := by
      have h : ptTick s = t := (if_neg hrun).trans (if_neg hpt)
      rw [h]
      exact beaconRelease_eq t
    obtain ⟨se, bu, pa, e, b, hs⟩ := publishLate_senses { t with acre := { s.acre with beaconDue := due } }
    have hx := exec_ptTick ht hsh hth hb
    refine ⟨_, hx, by rw [hs], by rw [hs], fun hn => ?_, fun hp m hm hl hd => publishLate_clears hp hm hl hd⟩
    rw [publishLate_of_none hn]
  case boundary =>
    obtain ⟨a, f, e, b, hm⟩ := mcBoundary_noted s
    have ht : beaconRelease (ptTick s) = { mcBoundary s with acre := (beaconRelease (mcBoundary s)).acre } := by
      have h : ptTick s = mcBoundary s := (if_neg hrun).trans (if_pos hpt)
      rw [h, beaconRelease_eq]
    rw [hm] at ht
    generalize (beaconRelease _).acre = ar at ht
    have hx := exec_ptTick ht hsh hth hb
    generalize hr : ({ s with chain := s.nextMc, acre := ar, cfg.inForce := f, evt := e, bushel := b } : State) = r at hx
    obtain ⟨se, bu, pa, e', b', hs⟩ := publishLate_senses r
    have hc : (publishLate r).chain = s.nextMc := by rw [hs, ← hr]
    refine ⟨_, hx, by rw [hc]; rfl, by rw [hc]; rfl, by rw [hc]; rfl, by rw [hc]; rfl, by rw [hc]; rfl, by rw [hc]; rfl,
      fun hn => ?_⟩
    have hq : publishLate r = r := publishLate_of_none fun m hm d hd => by
      have h := hn m hm d (by rw [← hr] at hd; exact hd)
      simp only [State.ptSince, hc] at h
      rw [← hr]
      exact h
    rw [hq, ← hr]
    exact ⟨e, b, rfl⟩

end Sys2Proof.Machine

namespace Sys2Proof.Machine

/-! PROOFS. The key matrix: the debounce of a scan, the lock-out, the mask of a key held too long, and the key commands. -/

/-! ## Debounce (R302) -/

section

variable (raw : List Bool) (mc : Word)

/-- R302: a scan turns key i over. -/
def Keys.flips (k : Keys) (i : Nat) : Bool := raw.getD i false != k.down.getD i false && decide (2 ≤ nth k.opp i)

/-- R302: the debounced state of key i after a scan, and its count of opposite readings. -/
def Keys.nextDown (k : Keys) (i : Nat) : Bool := if k.flips raw i then !k.down.getD i false else k.down.getD i false
def Keys.nextOpp (k : Keys) (i : Nat) : Nat :=
  if raw.getD i false = k.down.getD i false ∨ k.flips raw i = true then 0 else nth k.opp i + 1

theorem debounce_frame (i : Nat) (k : Keys) : ∃ d o si, debounce raw mc i k = { k with down := d, opp := o, since := si } ∧
    d.length = k.down.length ∧ o.length = k.opp.length := by
  unfold debounce
  dsimp only
  split
  · exact ⟨_, _, _, rfl, rfl, List.length_set⟩
  · split
    · exact ⟨_, _, _, rfl, List.length_set, List.length_set⟩
    · exact ⟨_, _, _, rfl, rfl, upd_length ..⟩

theorem getD_set_self {l : List Bool} {i : Nat} (b : Bool) (h : i < l.length) : (l.set i b).getD i false = b := by
  simp [List.getD_eq_getElem?_getD, h]

theorem getD_set_ne {l : List Bool} {i j : Nat} (b : Bool) (h : j ≠ i) : (l.set i b).getD j false = l.getD j false := by
  simp [List.getD_eq_getElem?_getD, List.getElem?_set_ne (Ne.symm h)]

theorem debounce_self {i : Nat} {k : Keys} (hd : i < k.down.length) (ho : i < k.opp.length) :
    (debounce raw mc i k).down.getD i false = k.nextDown raw i ∧ nth (debounce raw mc i k).opp i = k.nextOpp raw i := by
  unfold debounce Keys.nextDown Keys.nextOpp Keys.flips
  dsimp only
  split
  · next h =>
    simp only [h, bne_self_eq_false, Bool.false_and, Bool.false_eq_true, if_false, true_or, if_true,
      nth_set_self _ _ _ ho, and_self]
  · next h =>
    have hb : (raw.getD i false != k.down.getD i false) = true := bne_iff_ne.mpr h
    split
    · next h2 =>
      simp only [hb, h2, decide_true, Bool.and_self, if_true, or_true, getD_set_self _ hd, nth_set_self _ _ _ ho, and_self]
    · next h2 =>
      simp only [h, h2, decide_false, Bool.and_false, Bool.false_eq_true, or_self, if_false, nth_upd_self _ _ _ ho, and_self]

theorem debounce_ne {i j : Nat} (k : Keys) (h : j ≠ i) : (debounce raw mc i k).down.getD j false = k.down.getD j false ∧
    nth (debounce raw mc i k).opp j = nth k.opp j := by
  unfold debounce
  dsimp only
  split
  · exact ⟨rfl, nth_set_ne _ _ _ _ h⟩
  · split
    · exact ⟨getD_set_ne _ h, nth_set_ne _ _ _ _ h⟩
    · exact ⟨rfl, nth_upd_ne _ _ _ _ h⟩

/-- R302: the keys below n have been scanned. -/
def Keys.scanned (k : Keys) (n : Nat) : Keys := (List.range n).foldl (fun a i => debounce raw mc i a) k

theorem scanned_succ (k : Keys) (n : Nat) : k.scanned raw mc (n + 1) = debounce raw mc n (k.scanned raw mc n) := by
  rw [Keys.scanned, List.range_succ, List.foldl_append]
  rfl

theorem scanned_frame (k : Keys) (n : Nat) : ∃ d o si, k.scanned raw mc n = { k with down := d, opp := o, since := si } ∧
    d.length = k.down.length ∧ o.length = k.opp.length := by
  induction n with
  | zero => exact ⟨k.down, k.opp, k.since, rfl, rfl, rfl⟩
  | succ n ih =>
    obtain ⟨d, o, si, h, hd, ho⟩ := ih
    obtain ⟨d', o', si', h', hd', ho'⟩ := debounce_frame raw mc n (k.scanned raw mc n)
    rw [scanned_succ, h']
    rw [h] at hd' ho' ⊢
    exact ⟨d', o', si', rfl, hd'.trans hd, ho'.trans ho⟩

/-- R302: each key that has been scanned stands as its own readings give it, and the others as before. -/
theorem scanned_spec {k : Keys} {n : Nat} (hd : n ≤ k.down.length) (ho : n ≤ k.opp.length) (j : Nat) :
    (k.scanned raw mc n).down.getD j false = (if j < n then k.nextDown raw j else k.down.getD j false) ∧
    nth (k.scanned raw mc n).opp j = (if j < n then k.nextOpp raw j else nth k.opp j) := by
  induction n generalizing j with
  | zero => exact ⟨rfl, rfl⟩
  | succ n ih =>
    have ih := ih (by omega) (by omega)
    rw [scanned_succ]
    rcases eq_or_ne j n with rfl | hj
    · obtain ⟨d, o, si, h, hdl, hol⟩ := scanned_frame raw mc k j
      obtain ⟨ihd, iho⟩ := ih j
      rw [if_neg (Nat.lt_irrefl j)] at ihd iho
      obtain ⟨h1, h2⟩ := debounce_self raw mc (i := j) (k := k.scanned raw mc j)
        (by rw [h]; dsimp only; omega) (by rw [h]; dsimp only; omega)
      rw [h1, h2, if_pos (Nat.lt_succ_self j), if_pos (Nat.lt_succ_self j)]
      simp only [Keys.nextDown, Keys.nextOpp, Keys.flips, ihd, iho]
      exact ⟨rfl, rfl⟩
    · obtain ⟨h1, h2⟩ := debounce_ne raw mc (k.scanned raw mc n) hj
      have hlt : j < n + 1 ↔ j < n := by omega
      simp only [h1, h2, ih j, hlt, and_self]

end

/-! ## Reports (R304, R305, R306, R308) -/

theorem keyReport_noted (on : Bool) (s : State) : Noted s (keyReport on s) := by
  unfold keyReport
  split <;> exact report_noted ..

theorem stuckNote_noted (was : Bool) (s : State) : Noted s (stuckNote was s) := by
  unfold stuckNote
  split
  · exact .refl s
  · exact keyReport_noted ..

theorem phantomEval_noted (s : State) : ∃ p, Noted { s with keys.phantom := p } (phantomEval s) := by
  unfold phantomEval
  dsimp only
  split
  · exact ⟨s.keys.phantom, .refl s⟩
  · exact ⟨_, keyReport_noted ..⟩

/-- R306: the entry of a key reported in an MC. -/
def keyEntry (mc : Word) (press stuck : Bool) (k : Nat) : KeyEntry :=
  { mc := mc.toNat % 2 ^ 24, press := press, stuck := stuck, key := k }

theorem keyPush_noted_of_room {press stuck : Bool} {k : Nat} {s : State} (h : s.keys.fifo.length < 16) :
    Noted { s with keys.fifo := s.keys.fifo ++ [keyEntry s.chain.mc press stuck k] } (keyPush press stuck k s) := by
  unfold keyPush
  rw [if_neg (Nat.not_le.mpr h)]
  dsimp only
  split
  · exact raise_noted ..
  · exact .refl _

theorem keyPush_noted (press stuck : Bool) (k : Nat) (s : State) : ∃ f d o,
    Noted { s with keys := { s.keys with fifo := f, drop := d, ovf := o } } (keyPush press stuck k s) := by
  rcases Nat.lt_or_ge s.keys.fifo.length 16 with h | h
  · exact ⟨_, _, _, keyPush_noted_of_room h⟩
  · rw [keyPush, if_pos h]
    exact ⟨_, _, _, .refl _⟩

theorem keyPush_keys {press stuck : Bool} {k : Nat} {s : State} (h : s.keys.fifo.length < 16) :
    (keyPush press stuck k s).keys =
      { s.keys with fifo := s.keys.fifo ++ [keyEntry s.chain.mc press stuck k] } := by
  obtain ⟨e, b, hn⟩ := keyPush_noted_of_room (press := press) (stuck := stuck) (k := k) h
  rw [hn]

/-! ## The lock-out (R303) -/

theorem downNow_congr {k l : Keys} (hd : k.down = l.down) (hs : k.stuck = l.stuck) : k.downNow = l.downNow := by
  unfold Keys.downNow
  rw [hd, hs]

/-- R303: the keys as the lock-out leaves them before a press is taken: the end of a press is reported. -/
def endPress (s : State) : State :=
  match s.keys.acc with
  | some a => if s.keys.downNow.contains a then s else keyPush false false a { s with keys.acc := none }
  | none => s

/-- R303: a key that is down alone, after a scan with none, is pressed. -/
def takePress (now : List Nat) (s : State) : State :=
  match s.keys.prev, now with
  | [], [k] => keyPush true false k { s with keys.acc := some k }
  | _, _ => s

theorem lockOut_eq (s : State) :
    lockOut s = { takePress s.keys.downNow (endPress s) with keys.prev := s.keys.downNow } := rfl

/-- Apart from the press, the FIFO, events and records, t is s. -/
def Presses (s t : State) : Prop :=
  ∃ a f d o, Noted { s with keys := { s.keys with acc := a, fifo := f, drop := d, ovf := o } } t

theorem Presses.refl (s : State) : Presses s s := ⟨_, _, _, _, .refl s⟩

theorem Presses.trans {s t u : State} (h : Presses s t) (g : Presses t u) : Presses s u := by
  obtain ⟨a, f, d, o, e, b, rfl⟩ := h
  obtain ⟨a', f', d', o', e', b', rfl⟩ := g
  exact ⟨a', f', d', o', e', b', rfl⟩

theorem keyPush_presses (press stuck : Bool) (k : Nat) (acc : Option Nat) (s : State) :
    Presses s (keyPush press stuck k { s with keys.acc := acc }) := by
  obtain ⟨f, d, o, h⟩ := keyPush_noted press stuck k { s with keys.acc := acc }
  exact ⟨acc, f, d, o, h⟩

theorem endPress_presses (s : State) : Presses s (endPress s) := by
  unfold endPress
  split
  · split
    · exact .refl s
    · exact keyPush_presses ..
  · exact .refl s

theorem takePress_presses (now : List Nat) (s : State) : Presses s (takePress now s) := by
  unfold takePress
  split
  · exact keyPush_presses ..
  · exact .refl s

theorem lockOut_noted (s : State) : ∃ a f d o,
    Noted { s with keys := { s.keys with acc := a, fifo := f, drop := d, ovf := o, prev := s.keys.downNow } } (lockOut s) := by
  obtain ⟨a, f, d, o, e, b, h⟩ := (endPress_presses s).trans (takePress_presses s.keys.downNow _)
  rw [lockOut_eq, h]
  exact ⟨a, f, d, o, e, b, rfl⟩

/-- R303: a key pressed alone is reported. -/
theorem lockOut_of_alone {k : Nat} {s : State} (hp : s.keys.prev = []) (ha : s.keys.acc = none)
    (hk : s.keys.downNow = [k]) (hf : s.keys.fifo.length < 16) : (lockOut s).keys.acc = some k ∧
    (lockOut s).keys.fifo = s.keys.fifo ++ [keyEntry s.chain.mc true false k] := by
  have hend : endPress s = s := by rw [endPress, ha]
  have htake : takePress [k] s = keyPush true false k { s with keys.acc := some k } := by
    unfold takePress
    rw [hp]
  have hkeys := keyPush_keys (press := true) (stuck := false) (k := k) (s := { s with keys.acc := some k }) hf
  rw [lockOut_eq, hend, hk, htake]
  exact ⟨congrArg Keys.acc hkeys, congrArg Keys.fifo hkeys⟩

/-! ## The scan (R301) -/

/-- R301: the state a scan works on: its place in the PT, and the key fields in force. -/
def scanState (s : State) : State :=
  { s with chain.stage := 6, cfg.inForce := s.cfg.inForce.setWord .panel 0 4 (s.cfg.committed.word .panel 0 4) }

/-- R302, R305: the keys debounced, and the masks of released ones cleared. -/
def scanKeys (raw : List Bool) (s : State) : Keys := unmask (s.keys.scanned raw s.chain.mc 64)

theorem scanKeys_spec (raw : List Bool) {s : State} (hd : s.keys.down.length = 64) (ho : s.keys.opp.length = 64)
    (hs : s.keys.stuck.length = 64) {i : Nat} (hi : i < 64) :
    (scanKeys raw s).down.getD i false = s.keys.nextDown raw i ∧ nth (scanKeys raw s).opp i = s.keys.nextOpp raw i ∧
    (scanKeys raw s).stuck.getD i false = (s.keys.stuck.getD i false && (scanKeys raw s).down.getD i false) := by
  obtain ⟨h1, h2⟩ := scanned_spec raw s.chain.mc (k := s.keys) hd.ge ho.ge i
  obtain ⟨d, o, si, h, hdl, -⟩ := scanned_frame raw s.chain.mc s.keys 64
  rw [if_pos hi] at h1 h2
  refine ⟨h1, h2, ?_⟩
  have h3 : i < s.keys.stuck.length := by omega
  have h4 : i < d.length := by omega
  unfold scanKeys unmask
  rw [h]
  simp [List.getD_eq_getElem?_getD, h3, h4]

theorem scanKeys_frame (raw : List Bool) (s : State) : ∃ d o si st, scanKeys raw s =
    { s.keys with down := d, opp := o, since := si, stuck := st } := by
  obtain ⟨d, o, si, h, -⟩ := scanned_frame raw s.chain.mc s.keys 64
  rw [scanKeys, h]
  exact ⟨d, o, si, _, rfl⟩

section

variable (raw : List Bool) {s : State} (hr : s.released = true) (hp : s.clk.pllLocked = true)
  (hpt : s.chain.pt = 1024 ∨ s.chain.pt = 3072) (hst : s.chain.stage < 6)
include hr hp hpt hst

theorem scanDue_of : s.scanDue = true := by
  rcases hpt with h | h <;> simp [State.scanDue, State.inTurn, hr, hp, h, hst]

theorem exec_keyScan_of_enabled (hen : (scanState s).kb 8 = true) : exec (.keyScan raw) s = .next
    (phantomEval (lockOut (stuckNote s.keys.anyStuck { scanState s with keys := scanKeys raw (scanState s) }))) := by
  have hdue : ¬(!s.scanDue) = true := by simp [scanDue_of hr hp hpt hst]
  have hon : ¬(!(scanState s).kb 8) = true := by simp [hen]
  exact congrArg Host.Outcome.next ((if_neg hdue).trans (if_neg hon))

theorem exec_keyScan_of_disabled (hen : (scanState s).kb 8 = false) :
    exec (.keyScan raw) s = .next (keysIdle (scanState s)) := by
  have hdue : ¬(!s.scanDue) = true := by simp [scanDue_of hr hp hpt hst]
  have hoff : (!(scanState s).kb 8) = true := by simp [hen]
  exact congrArg Host.Outcome.next ((if_neg hdue).trans (if_pos hoff))

end

/-- R301: with the keys disabled a scan clears the debounced states. -/
theorem keysIdle_noted (s : State) : ∃ p, Noted { s with keys := { ({} : Keys) with
    fifo := s.keys.fifo, drop := s.keys.drop, ovf := s.keys.ovf, phantom := p } } (keysIdle s) := by
  unfold keysIdle
  dsimp only
  generalize hn : stuckNote s.keys.anyStuck _ = n
  obtain ⟨e, b, rfl⟩ := hn ▸ stuckNote_noted ..
  obtain ⟨p, e', b', hp⟩ := phantomEval_noted { s with
    keys := { ({} : Keys) with fifo := s.keys.fifo, drop := s.keys.drop, ovf := s.keys.ovf, phantom := s.keys.phantom },
    evt := e, bushel := b }
  exact ⟨p, e', b', hp⟩

/-- R303, R304: what follows the debounce of a scan keeps the keys' states, and takes a press. -/
theorem scanReports_spec (was : Bool) (k : Keys) (s : State) :
    let u := phantomEval (lockOut (stuckNote was { s with keys := k }))
    u.keys.down = k.down ∧ u.keys.opp = k.opp ∧ u.keys.stuck = k.stuck ∧ u.keys.prev = u.keys.downNow ∧
    (∀ i, k.prev = [] → k.acc = none → u.keys.downNow = [i] → k.fifo.length < 16 →
      u.keys.acc = some i ∧ u.keys.fifo = k.fifo ++ [keyEntry s.chain.mc true false i]) ∧
    Noted { s with keys := u.keys } u := by
  intro u
  have hu : u = phantomEval (lockOut (stuckNote was { s with keys := k })) := rfl
  clear_value u
  obtain ⟨e, b, hn⟩ := stuckNote_noted was { s with keys := k }
  rw [hn] at hu
  have halone (i : Nat) := lockOut_of_alone (k := i) (s := { s with keys := k, evt := e, bushel := b })
  obtain ⟨a, f, d, o, e', b', hl⟩ := lockOut_noted { s with keys := k, evt := e, bushel := b }
  obtain ⟨p, e'', b'', hp⟩ := phantomEval_noted (lockOut { s with keys := k, evt := e, bushel := b })
  rw [hp] at hu
  rw [hl] at hu halone
  subst hu
  exact ⟨rfl, rfl, rfl, downNow_congr rfl rfl, fun i h1 h2 h3 h4 => halone i h1 h2 h3 h4, e'', b'', rfl⟩

/-! ## A key held too long (R305) -/

/-- R305: key i is masked. -/
def stuckState (i : Nat) (s : State) : State :=
  { s with keys.stuck := s.keys.stuck.set i true, keys.prev := s.keys.prev.filter (· != i) }

/-- R305, R308: the end of the press of a key that is masked. -/
def stuckPush (i : Nat) (s : State) : State :=
  if s.keys.acc = some i then keyPush false true i { s with keys.acc := none } else s

theorem exec_keyStuck {i : Nat} {s : State} (hp : s.clk.pllLocked = true) (hen : s.kb 8 = true)
    (hd : s.keys.down.getD i false = true) (hs : s.keys.stuck.getD i false = false)
    (ht : s.secMc (s.cf .panel 0 4 7 0) ≤ s.mcSince (nth s.keys.since i)) : exec (.keyStuckExpiry i) s =
      .next (phantomEval (stuckPush i (stuckNote s.keys.anyStuck (stuckState i s)))) := by
  have hx : exec (.keyStuckExpiry i) s = .next (onPll s (keyStuck i s)) := rfl
  rw [hx, onPll, if_pos hp]
  exact congrArg Host.Outcome.next (if_pos (by rw [hen, hd, hs, decide_eq_true ht]; rfl))

theorem stuckPush_presses (i : Nat) (s : State) : Presses s (stuckPush i s) := by
  unfold stuckPush
  split
  · exact keyPush_presses ..
  · exact .refl s

theorem stuckReports_spec (i : Nat) (was : Bool) (s : State) :
    let u := phantomEval (stuckPush i (stuckNote was s))
    u.keys.down = s.keys.down ∧ u.keys.stuck = s.keys.stuck ∧
    (s.keys.acc = some i → s.keys.fifo.length < 16 →
      u.keys.acc = none ∧ u.keys.fifo = s.keys.fifo ++ [keyEntry s.chain.mc false true i]) ∧
    Noted { s with keys := u.keys } u := by
  intro u
  have hu : u = phantomEval (stuckPush i (stuckNote was s)) := rfl
  clear_value u
  obtain ⟨e, b, hn⟩ := stuckNote_noted was s
  rw [hn] at hu
  obtain ⟨a, f, d, o, e', b', hl⟩ := stuckPush_presses i { s with evt := e, bushel := b }
  obtain ⟨p, e'', b'', hp⟩ := phantomEval_noted (stuckPush i { s with evt := e, bushel := b })
  rw [hp, hl] at hu
  subst hu
  refine ⟨rfl, rfl, fun ha hf => ?_, e'', b'', rfl⟩
  have hkeys := keyPush_keys (press := false) (stuck := true) (k := i)
    (s := { s with keys.acc := none, evt := e, bushel := b }) hf
  rw [stuckPush, if_pos ha] at hl
  rw [hl] at hkeys
  exact ⟨congrArg Keys.acc hkeys, congrArg Keys.fifo hkeys⟩

/-! ## The commands (R307, R364) -/

/-- R306: n entries of the FIFO are read. -/
def readKeys (n : Nat) (s : State) : State × Reply :=
  ({ s with keys.fifo := s.keys.fifo.drop n },
    .ok (le8 (s.keys.fifo.take n).length ++ zeros 3 ++ (s.keys.fifo.take n).flatMap (fun e => leW e.word)))

/-- R307: the body of KEY.READ. -/
def keyReadBody (m : Msg) (s : State) : State × Reply :=
  if getB m.payload 0 = 0 ∨ 16 < getB m.payload 0 ∨ !padOk m 1 3 then (s, .st stBadArg) else readKeys (getB m.payload 0) s

theorem exec_keyRead (m : Msg) (s : State) :
    exec (.keyRead m) s = .next (command { code := 0x4101, len := fun n => n == 4 } m keyReadBody s) := rfl

theorem keyRead_answers {s : State} {m : Msg} (h : s.executes 0x4101 m) (hp : m.plain 4) (h1 : 1 ≤ getB m.payload 0)
    (h16 : getB m.payload 0 ≤ 16) (hpad : padOk m 1 3 = true) : Answers (.keyRead m) s 0x4101 m 0
      (le8 (s.keys.fifo.take (getB m.payload 0)).length ++ zeros 3 ++
        (s.keys.fifo.take (getB m.payload 0)).flatMap (fun e => leW e.word))
      { s with keys := { s.keys with fifo := s.keys.fifo.drop (getB m.payload 0) } } := by
  obtain ⟨hc, -⟩ := id hp
  have hbody (t : State) : keyReadBody m t = readKeys (getB m.payload 0) t :=
    if_neg (by rw [hpad]; simp; omega)
  refine command_answers _ _ m _ s _ 0 _ (exec_keyRead m s) h hc (lenOk_of_plain hp rfl rfl) rfl ?_ ?_ ?_ ?_ <;> rw [hbody]
  · rfl
  · exact h.waiting_none
  · rfl
  · exact ⟨_, _, rfl⟩

theorem keyStatus_answers {s : State} {m : Msg} (h : s.executes 0x4102 m) (hp : m.plain 0) :
    Answers (.keyStatus m) s 0x4102 m 0 (leW s.keyStatus ++ le 8 s.keys.stuckMask)
      { s with keys := { s.keys with drop := 0, ovf := false } } := by
  obtain ⟨hc, -⟩ := id hp
  exact command_answers _ { code := 0x4102 } m _ s _ 0 _ rfl h hc (lenOk_of_plain hp rfl rfl) rfl rfl h.waiting_none rfl
    ⟨_, _, rfl⟩

/-- Settles O29: a scan debounces each key on its own and then takes a press, a key held too long is masked with its press
ended, and each command's body is one of the two answers. -/
theorem keyMatrix : Obligations.KeyMatrix := by
  intro s hd ho hs
  refine ⟨fun raw hr hp hpt hst => ?scan, fun i hi hp hen hdn hst ht => ?stuck,
    fun m h hp h1 h16 hpad => keyRead_answers h hp h1 h16 hpad, fun m h hp => keyStatus_answers h hp⟩
  case scan =>
    have hkb {u : State} (h : Noted { scanState s with keys := u.keys } u) : u.kb 8 = (scanState s).kb 8 := by
      obtain ⟨e, b, h⟩ := h
      rw [h]
      rfl
    have hnoted {u : State} (h : Noted { scanState s with keys := u.keys } u) :
        Noted { s with keys := u.keys, cfg := { s.cfg with inForce := u.cfg.inForce }, chain.stage := 6 } u := by
      obtain ⟨e, b, h⟩ := h
      exact ⟨e, b, h.trans (by rw [h]; rfl)⟩
    cases hen : (scanState s).kb 8 with
    | true =>
      obtain ⟨h1, h2, h3, h4, h5, hn⟩ := scanReports_spec s.keys.anyStuck (scanKeys raw (scanState s)) (scanState s)
      obtain ⟨d, o, si, st, hk⟩ := scanKeys_frame raw (scanState s)
      refine ⟨_, exec_keyScan_of_enabled raw hr hp hpt hst hen, fun _ => ⟨fun i hi => ?_, h4, fun k hprev hacc hdown hf => ?_⟩,
        fun h => absurd ((hkb hn).symm.trans h) (by rw [hen]; decide), hnoted hn⟩
      · rw [h1, h2, h3]
        exact scanKeys_spec raw (s := scanState s) hd ho hs hi
      · obtain ⟨hpress, hfifo⟩ := h5 k (by rw [hk]; exact hprev) (by rw [hk]; exact hacc) hdown (by rw [hk]; exact hf)
        have hkept : (scanKeys raw (scanState s)).fifo = s.keys.fifo := by rw [hk]; rfl
        exact ⟨hpress, hfifo.trans (by rw [hkept]; rfl)⟩
    | false =>
      obtain ⟨p, e, b, hn⟩ := keysIdle_noted (scanState s)
      have hn' : Noted { scanState s with keys := (keysIdle (scanState s)).keys } (keysIdle (scanState s)) := by
        rw [hn]
        exact ⟨e, b, rfl⟩
      refine ⟨_, exec_keyScan_of_disabled raw hr hp hpt hst hen,
        fun h => absurd ((hkb hn').symm.trans h) (by rw [hen]; decide), fun _ => ?_, hnoted hn'⟩
      rw [hn]
      exact ⟨rfl, rfl, rfl⟩
  case stuck =>
    obtain ⟨h1, h2, h3, hn⟩ := stuckReports_spec i s.keys.anyStuck (stuckState i s)
    refine ⟨_, exec_keyStuck hp hen hdn hst ht, ?_, h1, h3, ?_⟩
    · rw [h2]
      exact getD_set_self _ (by omega)
    · obtain ⟨e, b, hn⟩ := hn
      exact ⟨e, b, hn⟩

end Sys2Proof.Machine

namespace Sys2Proof.Machine

/-! PROOFS. The panel engine: the live fields, the regions one by one, the rails, and what a latched fault leaves. -/

/-! ## The live fields (R34, R281, R298) -/

/-- R34: the panel's word w takes the fields under a mask from the committed image. -/
def panelWord (s : State) (w mask : Nat) (g : Image) : Image :=
  g.setWord .panel 0 w (merge (w32 mask) (g.word .panel 0 w) (s.cfg.committed.word .panel 0 w))

/-- R34, R281, R298: the image in force from a frame's start on. -/
def panelImage (s : State) : Image :=
  panelWord s 3 (bmask 15 8 + 15) (panelWord s 2 (bmask 31 4) (panelWord s 0 (2 ^ 27) s.cfg.inForce))

theorem panelLive_of_seen {s : State} (h : s.panel.tempSeen = true) :
    panelLive s = { s with cfg.inForce := panelImage s } := if_pos h

theorem panelLive_of_unseen {s : State} (h : s.panel.tempSeen ≠ true) : panelLive s =
    { s with cfg.inForce := panelImage s, panel.bandMeas := fld ((panelImage s).word .panel 0 3) 3 0 } := if_neg h

theorem panelImage_sec {sec : Sec} (s : State) (h : sec ≠ .panel) : (panelImage s).sec sec = s.cfg.inForce.sec sec := by
  simp only [panelImage, panelWord, sec_setWord_ne _ _ _ h]

/-- A word that is written reads as written, or as before where the section does not hold it. -/
theorem word_setWord_or (img : Image) (sec : Sec) (i w : Nat) (v : Word) :
    (img.setWord sec i w v).word sec i w = v ∨ (img.setWord sec i w v).word sec i w = img.word sec i w := by
  have hs : (img.setWord sec i w v).word sec i w = ((img.sec sec).set (i * sec.words + w) v).getD (i * sec.words + w) 0 := by
    rw [Image.word, setWord_sec]
  rw [hs]
  rcases Nat.lt_or_ge (i * sec.words + w) (img.sec sec).length with h | h
  · left; simp [List.getD_eq_getElem?_getD, h]
  · right; rw [List.set_eq_of_length_le h, Image.word]

theorem bit_merge_of_unmasked {mask old new : Word} {n : Nat} (hn : n < 32) (h : mask.getLsbD n = false) :
    bit (merge mask old new) n = bit old n := by
  have h' : mask[n] = false := h
  simp [bit_eq_getLsbD, merge, h', hn]

/-- R34, R272: the bit of word 0 that sets the second frame slot is not live. -/
theorem panelImage_slotBit (s : State) : bit ((panelImage s).word .panel 0 0) 30 = bit (s.cfg.inForce.word .panel 0 0) 30 := by
  have h : (panelImage s).word .panel 0 0 = (panelWord s 0 (2 ^ 27) s.cfg.inForce).word .panel 0 0 := by
    rw [panelImage, panelWord, word_setWord_ne _ (by decide), panelWord, word_setWord_ne _ (by decide)]
  rw [h, panelWord]
  rcases word_setWord_or s.cfg.inForce .panel 0 0
    (merge (w32 (2 ^ 27)) (s.cfg.inForce.word .panel 0 0) (s.cfg.committed.word .panel 0 0)) with h | h
  · rw [h, bit_merge_of_unmasked (by decide) (by decide)]
  · rw [h]

/-! ## The regions one by one (R286) -/

/-- R286: an action on each region, in rising order. -/
def eachRegion (f : Nat → State → State) (s : State) : State := (List.range 15).foldl (fun a i => f (i + 1) a) s

theorem regionsSlot_eq (s : State) : regionsSlot s = eachRegion regionBalanced (eachRegion regionLast s) := rfl

theorem blinkPhases_eq (s : State) : blinkPhases s = eachRegion blinkPhase s := rfl

theorem eachRegion_of_still {f : Nat → State → State} {s : State} (h : ∀ j, 1 ≤ j → j ≤ 15 → f j s = s) :
    eachRegion f s = s :=
  List.foldlRecOn (motive := fun t : State => t = s) _ _ rfl fun t ht i hi => by
    rw [ht, h (i + 1) (by omega) (by have := List.mem_range.mp hi; omega)]

/-- R286: an action that moves one region alone. -/
theorem eachRegion_of_one {f : Nat → State → State} {s t : State} {n : Nat} (h1 : 1 ≤ n) (h15 : n ≤ 15)
    (hs : ∀ j, 1 ≤ j → j ≠ n → f j s = s) (hn : f n s = t) (ht : ∀ j, 1 ≤ j → j ≠ n → f j t = t) :
    eachRegion f s = t := by
  have upTo (k : Nat) : (List.range k).foldl (fun a i => f (i + 1) a) s = if k < n then s else t := by
    induction k with
    | zero => rw [if_pos (by omega)]; rfl
    | succ k ih =>
      rw [List.range_succ, List.foldl_append, ih, List.foldl_cons, List.foldl_nil]
      rcases Nat.lt_trichotomy (k + 1) n with h | h | h
      · rw [if_pos (by omega), if_pos h]
        exact hs _ (by omega) (by omega)
      · rw [if_pos (by omega), if_neg (by omega), h, hn]
      · rw [if_neg (by omega), if_neg (by omega)]
        exact ht _ (by omega) (by omega)
  rw [eachRegion, upTo 15, if_neg (by omega)]

/-- R287: no region runs, and region n runs alone. -/
def noRegions : List (Option Region) := List.replicate 15 none
def onlyRegion (n : Nat) (r : Region) : List (Option Region) := noRegions.set (n - 1) (some r)

theorem region_of_noRegions {s : State} (h : s.panel.regions = noRegions) (j : Nat) : s.region j = none := by
  rw [State.region, h, noRegions, List.getD_eq_getElem?_getD, List.getElem?_replicate]
  split <;> rfl

theorem region_of_only {s : State} {n : Nat} {r : Region} (h : s.panel.regions = onlyRegion n r) (h1 : 1 ≤ n)
    (h15 : n ≤ 15) : s.region n = some r := by
  have hl : n - 1 < noRegions.length := by rw [noRegions, List.length_replicate]; omega
  rw [State.region, h, onlyRegion, List.getD_eq_getElem?_getD, List.getElem?_set_self hl]
  rfl

theorem region_of_only_ne {s : State} {n j : Nat} {r : Region} (h : s.panel.regions = onlyRegion n r) (h1 : 1 ≤ n)
    (hj : 1 ≤ j) (hn : j ≠ n) : s.region j = none := by
  rw [State.region, h, onlyRegion, List.getD_eq_getElem?_getD, List.getElem?_set_ne (by omega), noRegions,
    List.getElem?_replicate]
  split <;> rfl

theorem onlyRegion_set (n : Nat) (r r' : Region) : (onlyRegion n r).set (n - 1) (some r') = onlyRegion n r' := by
  rw [onlyRegion, List.set_set, onlyRegion]

theorem onlyRegion_clear (n : Nat) (r : Region) : (onlyRegion n r).set (n - 1) none = noRegions := by
  rw [onlyRegion, List.set_set, noRegions, List.set_replicate_self]

theorem onlyRegion_map (n : Nat) (r : Region) (f : Region → Region) :
    (onlyRegion n r).map (fun o => o.map f) = onlyRegion n (f r) := by
  rw [onlyRegion, List.map_set, noRegions, List.map_replicate, onlyRegion]
  rfl

theorem noRegions_map (f : Region → Region) : noRegions.map (fun o => o.map f) = noRegions := by
  rw [noRegions, List.map_replicate]
  rfl

/-! ## The frame memory (R274, R296) -/

section

variable {s t : State} (hf : t.panel.frame = s.panel.frame) (hc : t.cfg.inForce = s.cfg.inForce)
include hf hc

theorem mapRect_congr (r : Rect) (f : Nat → Nat) : (mapRect r f t).panel.frame = (mapRect r f s).panel.frame := by
  simp only [mapRect, State.pnlW, State.pf, State.cf, State.cw, hf, hc]

theorem lineCrc_congr (y : Nat) : t.lineCrc y = s.lineCrc y := by
  simp only [State.lineCrc, State.pnlW, State.pf, State.cf, State.cw, hf, hc]

theorem lineCrcs_congr (r : Rect) : (lineCrcs r t).panel.frame = (lineCrcs r s).panel.frame := by
  have h (y : Nat) := lineCrc_congr hf hc y
  simp only [lineCrcs, h, State.pnlW, State.pnlH, State.pf, State.cf, State.cw, hf, hc]

theorem linesOk_congr : t.linesOk = s.linesOk := by
  have h (y : Nat) := lineCrc_congr hf hc y
  simp only [State.linesOk, h, State.pnlW, State.pnlH, State.pf, State.cf, State.cw, hf, hc]

end

/-! ## The rails (R282, R291) -/

theorem setBandRun_of_same {b : Nat} {s : State} (h : s.panel.bandRun = b) : setBandRun b s = s := if_pos h

theorem setBandRun_noted (b : Nat) (s : State) : Noted { s with panel.bandRun := b } (setBandRun b s) := by
  unfold setBandRun
  split
  · next h => subst h; exact .refl s
  · exact (raiseWith_noted ..).trans (happen_noted ..)

/-- R291: with the measured band in force nothing is pending. -/
theorem bandCheck_of_same {s : State} (h : s.panel.bandMeas = s.panel.bandRun) :
    bandCheck s = { s with panel.bandPend := false } := by
  have hd : (s.panel.bandMeas != s.panel.bandRun) = false := by rw [h]; exact bne_self_eq_false ..
  unfold bandCheck
  simp only [hd, Bool.false_and, Bool.false_eq_true, if_false, Bool.not_false, if_true]

theorem railsOn_of_off {s : State} (h : s.panel.rails = .off) (hb : s.panel.bandMeas = s.panel.bandRun)
    (hp : s.panel.bandPend = false) :
    railsOn s = { s with panel := { s.panel with rails := .rising 0, railMv := s.bandRails s.panel.bandRun } } := by
  unfold railsOn
  rw [if_pos h]
  dsimp only
  rw [setBandRun_of_same hb.symm, ← hp]

section

variable {s : State} (hp : s.clk.pllLocked = true)
include hp

theorem railPowerGood_spec (i : Nat) :
    (s.panel.rails = .rising i → exec (.railPowerGood i) s = .next { s with panel.rails := .riseDelay i }) ∧
    (∀ b good, s.panel.rails = .moving b good → good.contains i = false →
      ((List.range 5).all (fun k => (good ++ [i]).contains k) = true →
        exec (.railPowerGood i) s = .next { s with panel.rails := .moveDelay b }) ∧
      (i < 5 → (List.range 5).all (fun k => (good ++ [i]).contains k) = false →
        exec (.railPowerGood i) s = .next { s with panel.rails := .moving b (good ++ [i]) })) := by
  refine ⟨fun h => ?_, fun b good h hg => ⟨fun ha => ?_, fun hi ha => ?_⟩⟩
  all_goals
    refine congrArg Host.Outcome.next ((onPll_of_locked hp).trans ?_)
    rw [h]
  · exact if_pos rfl
  · simp only [hg, ha, Bool.false_eq_true, if_false, if_true]
  · simp only [hg, ha, hi, Bool.false_eq_true, if_false, if_true]

theorem railSeqDelay_spec :
    (∀ i, s.panel.rails = .riseDelay i →
      exec .railSeqDelayExpiry s = .next { s with panel.rails := if i < 4 then .rising (i + 1) else .on }) ∧
    (∀ i, s.panel.rails = .fallDelay i →
      exec .railSeqDelayExpiry s = .next { s with panel.rails := .falling (i + 1) }) ∧
    (∀ b, s.panel.rails = .moveDelay b → s.panel.bandMeas = b → ∃ u, exec .railSeqDelayExpiry s = .next u ∧
      Noted { s with panel := { s.panel with rails := .on, bandPend := false, bandRun := b } } u) := by
  refine ⟨fun i h => ?rise, fun i h => ?fall, fun b h hb => ?move⟩
  case rise =>
    refine congrArg Host.Outcome.next ((onPll_of_locked hp).trans ?_)
    rw [h]
    rcases Nat.lt_or_ge i 4 with hi | hi
    · simp only [hi, Nat.not_le.mpr hi, if_true, if_false]
    · simp only [hi, Nat.not_lt.mpr hi, if_true, if_false]
  case fall =>
    refine congrArg Host.Outcome.next ((onPll_of_locked hp).trans ?_)
    rw [h]
  case move =>
    obtain ⟨e, l, hn⟩ := setBandRun_noted b { s with panel.rails := .on, panel.bandPend := false }
    refine ⟨_, congrArg Host.Outcome.next ((onPll_of_locked hp).trans ?_), e, l, rfl⟩
    rw [h]
    dsimp only
    rw [hn, bandCheck_of_same hb]

theorem railFallen_spec {k : Nat} (h : s.panel.rails = .falling k) (hk : k ≤ 4) :
    exec (.railFallen (4 - k)) s = .next { s with panel.rails := if k = 4 then .off else .fallDelay k } := by
  refine congrArg Host.Outcome.next ((onPll_of_locked hp).trans ?_)
  rw [h]
  exact if_pos (by omega)

theorem railHold_spec (h : s.panel.rails = .on) (hd : s.quireDrives = false) :
    exec .railHoldExpiry s = .next { s with panel.rails := .falling 0 } := by
  refine congrArg Host.Outcome.next ((if_pos (by simp [hp, h, hd])).trans ?_)
  rw [railsOff, h]

theorem clearingTimeout_spec (h : s.panel.clearing = .waitTemp) :
    exec .clearingTempTimeout s = .next { s with panel.clearing := .due } := congrArg Host.Outcome.next (if_pos ⟨hp, h⟩)

end

end Sys2Proof.Machine

namespace Sys2Proof.Machine

/-! PROOFS. The panel engine: what a latched fault leaves (R295-R297), and the next phase of a blinking region (R293). -/

/-! ## Every region ends (R297) -/

/-- R297: one region ends, with `CURRENT` unchanged. -/
def regionEnd (a : State) (i : Nat) : State :=
  match a.region (i + 1) with
  | none => a
  | some r => setRegion (i + 1) none (mapRect r.req.rect (fun w => pxWord (pxStaging w) 0 (pxTarget w) (pxCurrent w)) a)

theorem regionsEnd_eq (s : State) : regionsEnd s = (List.range 15).foldl regionEnd s := rfl

/-- Of the regions only number i + 1 ends, and beside them the frame memory alone changes. -/
theorem regionEnd_spec (a : State) (i : Nat) :
    ∃ rs fr, regionEnd a i = { a with panel := { a.panel with regions := rs, frame := fr } } ∧
      rs = a.panel.regions.set i none := by
  unfold regionEnd
  split
  · next h =>
    refine ⟨_, _, rfl, ?_⟩
    rcases Nat.lt_or_ge i a.panel.regions.length with hi | hi
    · have hg : a.panel.regions[i] = none := by simpa [State.region, List.getD_eq_getElem?_getD, hi] using h
      rw [← hg, List.set_getElem_self]
    · rw [List.set_eq_of_length_le hi]
  · exact ⟨_, _, rfl, rfl⟩

theorem foldl_regionEnd (s : State) (n : Nat) :
    ∃ rs fr, (List.range n).foldl regionEnd s = { s with panel := { s.panel with regions := rs, frame := fr } } ∧
      rs.length = s.panel.regions.length ∧ ∀ k, k < n → rs.getD k none = none := by
  induction n with
  | zero => exact ⟨_, _, rfl, rfl, fun k hk => absurd hk (by omega)⟩
  | succ n ih =>
    obtain ⟨rs, fr, h, hlen, hk⟩ := ih
    rw [List.range_succ, List.foldl_append, h, List.foldl_cons, List.foldl_nil]
    obtain ⟨rs', fr', h', rfl⟩ := regionEnd_spec { s with panel := { s.panel with regions := rs, frame := fr } } n
    refine ⟨_, fr', h', by rw [List.length_set]; exact hlen, fun k hlt => ?_⟩
    rcases Nat.lt_or_eq_of_le (Nat.le_of_lt_succ hlt) with hlt | rfl
    · have := hk k hlt
      simp only [List.getD_eq_getElem?_getD, List.getElem?_set_ne (Nat.ne_of_gt hlt)] at this ⊢
      exact this
    · simp only [List.getD_eq_getElem?_getD, List.getElem?_set]
      split
      · split <;> rfl
      · contradiction

/-- R297: no region is left, and beside them the frame memory alone changes. -/
theorem regionsEnd_frame {s : State} (h : s.panel.regions.length = 15) :
    ∃ fr, regionsEnd s = { s with panel := { s.panel with regions := noRegions, frame := fr } } := by
  obtain ⟨rs, fr, he, hlen, hk⟩ := foldl_regionEnd s 15
  have hrs : rs = noRegions := List.ext_getElem (by rw [hlen, h]; rfl) fun k h1 h2 => by
    have := hk k (by omega)
    simpa [noRegions, -List.reduceReplicate, List.getD_eq_getElem?_getD, h1] using this
  exact ⟨fr, by rw [regionsEnd_eq, he, hrs]⟩

/-! ## A fault latches (R297) -/

theorem tableTake_of_none {s : State} (h : s.panel.wfPend = none) : tableTake s = s := by
  rw [tableTake, h]

/-- R297: the panel as a fault of a cause stops it, over a frame memory; and with its rails falling. -/
def Panel.halted (p : Panel) (cause : Nat) (fr : Memory) : Panel :=
  { p with fault := true, cause := cause, queue := [], regions := noRegions, clearing := .none, driving := false,
           rest := false, bandPend := false, frame := fr }

def Panel.faulted (p : Panel) (cause : Nat) (fr : Memory) : Panel := { p.halted cause fr with rails := .falling 0 }

/-- R282: rails that are on, or on their way to it. -/
def RailSt.Live (r : RailSt) : Prop := r = .on ∨ ∃ i, r = .rising i

theorem railsOff_of_live {s : State} (h : s.panel.rails.Live) : railsOff s = { s with panel.rails := .falling 0 } := by
  obtain h | ⟨i, h⟩ := h <;> rw [railsOff, h]

/-- R297: a fault stops everything and lets the rails fall. -/
theorem panelFault_noted (cause : Nat) {s : State} (h15 : s.panel.regions.length = 15) (hf : s.panel.fault = false)
    (hw : s.panel.wfPend = none) (hr : s.panel.rails.Live) :
    ∃ fr al, (panelFault cause s).raised 94 ∧
      Noted { s with panel := s.panel.faulted cause fr, bus.alarms := al } (panelFault cause s) := by
  obtain ⟨fr, he⟩ := regionsEnd_frame h15
  have hoff := railsOff_of_live (s := { s with panel := s.panel.halted cause fr }) hr
  obtain ⟨al, ha⟩ := alarmsEval_frame { s with panel := s.panel.faulted cause fr }
  obtain ⟨e, b, hn⟩ := report_noted 94 1 5 cause { s with panel := s.panel.faulted cause fr, bus.alarms := al }
  have hp : panelFault cause s = report 94 1 5 cause { s with panel := s.panel.faulted cause fr, bus.alarms := al } := by
    rw [panelFault, if_neg (by simp [hf]), he]
    calc tableTake (report 94 1 5 cause (alarmsEval (railsOff { s with panel := s.panel.halted cause fr })))
      _ = tableTake (report 94 1 5 cause { s with panel := s.panel.faulted cause fr, bus.alarms := al }) := by
        rw [hoff]
        exact congrArg (fun t => tableTake (report 94 1 5 cause t)) ha
      _ = _ := tableTake_of_none (by rw [hn]; exact hw)
  exact ⟨fr, al, hp ▸ report_raised _ (by decide), hp ▸ report_noted ..⟩

/-- R297: what the statement asks of a state after a fault. -/
def Faulted (c : Nat) (s u : State) : Prop :=
  u.panel.fault = true ∧ u.panel.cause = c ∧ u.panel.queue = [] ∧ u.panel.regions = List.replicate 15 none ∧
  u.panel.clearing = .none ∧ u.panel.driving = false ∧ u.panel.rails = .falling 0 ∧ u.raised 94 ∧
  Noted { s with panel := u.panel, bus.alarms := u.bus.alarms } u

section

variable {s : State} (h15 : s.panel.regions.length = 15) (hl : s.clk.pllLocked = true) (hf : s.panel.fault = false)
  (hw : s.panel.wfPend = none)
include h15 hf hw

theorem panelFault_faulted (c : Nat) (hr : s.panel.rails.Live) : Faulted c s (panelFault c s) := by
  obtain ⟨fr, al, hraise, e, b, hn⟩ := panelFault_noted c h15 hf hw hr
  have hp : (panelFault c s).panel = s.panel.faulted c fr := by rw [hn]
  have hb : (panelFault c s).bus.alarms = al := by rw [hn]
  refine ⟨?_, ?_, ?_, ?_, ?_, ?_, ?_, hraise, e, b, ?_⟩
  case refine_8 => rw [hp, hb]; exact hn
  all_goals
    rw [hp]
    rfl

include hl

theorem exec_panelFault_of_check {c : Nat} (hr : s.released = true) (he : s.pnlEn = true) (h : s.panel.rails = .on)
    (h3 : 3 ≤ c) (h5 : c ≤ 5) : ∃ u, exec (.panelFault c) s = .next u ∧ Faulted c s u := by
  refine ⟨_, ?_, panelFault_faulted h15 hf hw c (.inl h)⟩
  obtain rfl | rfl | rfl : c = 3 ∨ c = 4 ∨ c = 5 := by omega
  all_goals exact congrArg Host.Outcome.next (if_pos (by simp [hr, hl, he]))

theorem exec_railFault_of_rising {i : Nat} (h : s.panel.rails = .rising i) :
    ∃ u, exec (.railFault false) s = .next u ∧ Faulted 4 s u := by
  refine ⟨_, congrArg Host.Outcome.next ((onPll_of_locked hl).trans ?_), panelFault_faulted h15 hf hw 4 (.inr ⟨i, h⟩)⟩
  rw [h]

theorem exec_railFault_of_on (h : s.panel.rails = .on) : ∃ u, exec (.railFault true) s = .next u ∧ Faulted 5 s u := by
  refine ⟨_, congrArg Host.Outcome.next ((onPll_of_locked hl).trans ?_), panelFault_faulted h15 hf hw 5 (.inl h)⟩
  rw [h]

end

/-! ## The crack check while a fault is latched (R295, R297) -/

theorem panelFault_of_faulted {c : Nat} {s : State} (h : s.panel.fault = true) : panelFault c s = s := if_pos h

theorem crackCheck_of_pass {s : State} : crackCheck true s = { s with panel.crackFails := 0 } := by
  unfold crackCheck
  split <;> rfl

theorem crackCheck_of_faulted {ok : Bool} {s : State} (h : s.panel.fault = true) (hw : s.crackWatched = true) :
    crackCheck ok s = { s with panel.crackFails := if ok = true then 0 else min 2 (s.panel.crackFails + 1) } := by
  cases ok with
  | true => exact crackCheck_of_pass
  | false =>
    unfold crackCheck
    simp only [hw, Bool.not_true, Bool.false_eq_true, if_false]
    split
    · exact panelFault_of_faulted h
    · rfl

/-! ## The next phase of a blinking region (R293) -/

/-- R293: the region and the frame memory as its next phase starts. -/
def phaseStart (n : Nat) (r : Region) (p : List Byte) (s : State) : State :=
  setRegion n (some { r with driving := true, f := 0, phase := r.phase + 1, band := s.panel.bandRun,
                             n := wfFrames p s.panel.bandRun r.req.mode })
    (mapRect r.req.rect (fun w => pxWord (pxTarget w) (pxRegion w) (pxStaging w) (pxCurrent w)) s)

/-- R293: the next phase's time has come. -/
def State.phaseDue (s : State) (r : Region) (period : Nat) : Prop :=
  ((4096 * (r.phase * s.secMc period) : Nat) : Int) ≤ s.ptSince r.startMc r.startPt

section

variable {s : State} {n period : Nat} {r : Region} (h : s.region n = some r)
include h

theorem blinkPhase_of_steady (hb : r.req.blink = none) : blinkPhase n s = s := by
  rw [blinkPhase, h]
  dsimp only
  rw [hb]

theorem blinkPhase_of_busy (hb : r.driving = true ∨ r.balance ≠ none) : blinkPhase n s = s := by
  have : (r.driving || r.balance.isSome) = true := by
    rcases hb with hb | hb
    · simp [hb]
    · simp [Option.isSome_iff_ne_none.mpr hb]
  rw [blinkPhase, h]
  dsimp only
  split
  · simp [this]
  · rfl

theorem blinkPhase_of_early (hb : r.req.blink = some period) (hd : ¬s.phaseDue r period) : blinkPhase n s = s := by
  have : decide (s.ptSince r.startMc r.startPt < 4096 * (r.phase * s.secMc period)) = true := by
    have := Int.not_le.mp hd
    simpa using this
  rw [blinkPhase, h]
  dsimp only
  rw [hb]
  cases s.panel.wf with
  | none => rfl
  | some p => exact if_pos (by simp [this])

theorem blinkPhase_of_due {p : List Byte} (hb : r.req.blink = some period) (hw : s.panel.wf = some p) (hd : r.driving = false)
    (hn : r.balance = none) (hs : s.isFrameSlot = true) (hp : s.panel.bandPend = false) (hq : s.quireStarts = true)
    (hf : s.panel.fault = false) (hr : s.panel.rails = .on) (hdue : s.phaseDue r period) :
    blinkPhase n s = phaseStart n r p s := by
  have : decide (s.ptSince r.startMc r.startPt < 4096 * (r.phase * s.secMc period)) = false := by
    have : ((4096 * (r.phase * s.secMc period) : Nat) : Int) ≤ s.ptSince r.startMc r.startPt := hdue
    simpa using this
  rw [blinkPhase, h]
  dsimp only
  rw [hb, hw]
  dsimp only
  rw [if_neg (by simp [hd, hn, hs, hp, hq, hf, this]), if_neg (by simp [hr])]
  rfl

end

theorem blinkPhase_of_none {s : State} {n : Nat} (h : s.region n = none) : blinkPhase n s = s := by
  rw [blinkPhase, h]

end Sys2Proof.Machine

namespace Sys2Proof.Machine

/-! PROOFS. The panel engine: a frame slot from its due instant to the frame it drives (R286, R288). -/

/-! ## The start of a slot (R286, R288) -/

/-- R34: the state with the live panel fields in force. -/
def State.live (s : State) : State := { s with cfg.inForce := panelImage s }

/-- R288: the clearing update after the frame of the slot before. -/
def ClearSt.after (driving : Bool) : ClearSt → ClearSt
  | .running m lv b f n => if driving then .running m lv b (f + 1) n else .running m lv b f n
  | c => c

/-- R288: the state as a slot begins, the frame driven before being over. -/
def State.begun (s : State) : State :=
  { s with panel := { s.panel with clearing := s.panel.clearing.after s.panel.driving, driving := false, fetchBad := 0,
                                   regions := s.panel.regions.map (fun o => o.map Region.after) },
           cfg := s.live.cfg, chain.stage := 5 }

theorem panelLive_frameAfter {s : State} (h : s.panel.tempSeen = true) : panelLive (frameAfter (atStage 5 s)) = s.begun := by
  have hc : (frameAfter (atStage 5 s)).panel.clearing = s.panel.clearing.after s.panel.driving := by
    show (match s.panel.clearing with
      | .running m lv b f n => if s.panel.driving then ClearSt.running m lv b (f + 1) n else s.panel.clearing
      | c => c) = _
    cases s.panel.clearing <;> rfl
  rw [panelLive_of_seen (s := frameAfter (atStage 5 s)) h, State.begun, ← hc]
  rfl

/-- R286: a slot is due on a panel with a table, whose band is measured and in force. -/
structure SlotReady (s : State) (p : List Byte) : Prop where
  due : s.slotDue = true
  sound : s.panel.fault = false
  fetched : s.panel.wfBad = false
  table : s.panel.wf = some p
  unstaged : s.panel.wfPend = none
  ready : s.panel.rest = false
  band : s.panel.bandMeas = s.panel.bandRun
  steady : s.panel.bandPend = false
  seen : s.panel.tempSeen = true
  wired : (panelLive s).cb .panel 0 3 15 = true

/-- R278, R291: a table is in force, none is staged, and the band in force is the measured one. -/
structure Settled (p : List Byte) (t : State) : Prop where
  table : t.panel.wf = some p
  unstaged : t.panel.wfPend = none
  band : t.panel.bandMeas = t.panel.bandRun
  steady : t.panel.bandPend = false
  ready : t.panel.rest = false
  stopped : t.panel.driving = false

theorem SlotReady.settled {s : State} {p : List Byte} (h : SlotReady s p) : Settled p s.begun where
  table := h.table
  unstaged := h.unstaged
  band := h.band
  steady := h.steady
  ready := h.ready
  stopped := rfl

theorem Settled.bandCheck {p : List Byte} {t : State} (h : Settled p t) : bandCheck t = t := by
  rw [bandCheck_of_same h.band, ← h.steady]

/-! ## The turn of a slot (R286) -/

section

variable {s t v : State} {p : List Byte} (h : SlotReady s p) (ht : clearEnd (regionsSlot s.begun) = t) (hs : Settled p t)
  (hb : blinkPhases t = v) (hv : v.panel.wf = some p)
include h ht hs hb hv

theorem slotTurn_of_turns : slotTurn s = scanQueue p [] v.panel.queue (clearStart p v) := by
  have h0 : tableReload (panelLive (frameAfter (atStage 5 s))) = s.begun := by
    rw [panelLive_frameAfter h.seen]
    exact if_pos (by rw [Bool.not_eq_true']; exact h.fetched)
  have hw : s.begun.cb .panel 0 3 15 = true := by
    have := h.wired
    rw [panelLive_of_seen h.seen] at this
    exact this
  unfold slotTurn
  dsimp only
  rw [h0, if_pos hw, ht, hs.bandCheck, tableTake_of_none hs.unstaged, hb, hv]

/-- R284, R286: nothing waits in the queue, and no clearing update waits to start. -/
theorem slotTurn_of_quiet (hq : v.panel.queue = []) (hc : clearStart p v = v) : slotTurn s = v := by
  rw [slotTurn_of_turns h ht hs hb hv, hq, hc, scanQueue, ← hq]

end

theorem clearStart_of_none {p : List Byte} {v : State} (h : v.panel.clearing = .none) : clearStart p v = v := by
  unfold clearStart
  rw [h]
  rfl

theorem clearStart_of_running {p : List Byte} {v : State} {m lv b f n : Nat} (h : v.panel.clearing = .running m lv b f n) :
    clearStart p v = v := by
  unfold clearStart
  rw [h]
  rfl

theorem clearEnd_of_none {t : State} (h : t.panel.clearing = .none) : clearEnd t = t := by
  rw [clearEnd, h]

/-! ## The frame that drives (R272, R286, R296) -/

/-- R286: the frame of a slot drives. -/
def State.driven (t : State) : State :=
  { t with panel := { t.panel with
      driving := true, rest := t.throttled,
      regions := t.panel.regions.map (fun o => o.map (fun r => { r with playing := r.driving || r.balance.isSome })) } }

/-- R286, R295, R296: what a slot does after its turn, with the crack check passed. -/
def slotEnd (readOk : Bool) (t : State) : State := { lineCheck readOk (driveFrame t) with panel.crackFails := 0 }

theorem slotFetch_of_good (t : State) : slotFetch 0 t = t := by
  have : t.fetchHits 0 = 0 := by
    rw [State.fetchHits, maskOf]
    simp [Nat.zero_testBit]
  rw [slotFetch, this]
  rfl

theorem exec_frameSlot_of_ready {s : State} {p : List Byte} (readOk : Bool) (h : SlotReady s p) :
    exec (.frameSlot true readOk 0) s = .next (slotEnd readOk (slotTurn s)) := by
  refine congrArg Host.Outcome.next ?_
  rw [frameSlot, if_neg (by simp [h.due]), if_neg (by simp [h.sound]), crackCheck_of_pass, slotFetch_of_good]
  rfl

/-- R284, R296: what a driven frame needs of the lines: a clearing update, a small panel, or CRCs that check. -/
def State.LinesPass (t : State) (readOk : Bool) : Prop :=
  t.pnlW * t.pnlH ≤ 120000 ∨ (readOk = true ∧ t.linesOk = true)

theorem lineCheck_of_stopped {readOk : Bool} {t : State} (h : t.panel.driving = false) : lineCheck readOk t = t := by
  unfold lineCheck
  exact if_neg (by simp [h])

theorem lineCheck_of_clearing {readOk : Bool} {t : State} {m lv b f n : Nat} (h : t.panel.clearing = .running m lv b f n) :
    lineCheck readOk t = t := by
  unfold lineCheck
  rw [h]
  exact if_neg (by simp)

theorem lineCheck_of_pass {readOk : Bool} {t : State} (h : t.LinesPass readOk) : lineCheck readOk t = t := by
  unfold lineCheck
  refine if_neg ?_
  rcases h with h | ⟨hr, ho⟩
  · simp [Nat.not_lt.mpr h]
  · simp [hr, ho]

theorem lineCheck_of_fail {readOk : Bool} {t : State} (hd : t.panel.driving = true) (hc : t.panel.clearing = .none)
    (h : ¬t.LinesPass readOk) : lineCheck readOk t = panelFault 2 t := by
  obtain ⟨hbig, hbad⟩ := not_or.mp h
  unfold lineCheck
  rw [hc]
  refine if_pos ?_
  have hb : (readOk && t.linesOk) = false := by
    rw [Bool.and_eq_false_iff]
    by_contra hn
    exact hbad (by simpa using hn)
  simp [hd, hb, Nat.not_le.mp hbig]

section

variable {t : State} (hr : t.panel.rest = false)
include hr

theorem driveFrame_of_idle (hd : t.quireDrives = false) : driveFrame t = t := by
  rw [driveFrame, if_neg (by simp [hr]), if_pos (by simp [hd])]

theorem driveFrame_of_drives {p : List Byte} (hd : t.quireDrives = true) (hw : t.panel.wf = some p) (ho : t.panel.rails = .on) :
    driveFrame t = t.driven := by
  rw [driveFrame, if_neg (by simp [hr]), if_neg (by simp [hd, hw, ho])]
  rfl

theorem slotEnd_of_idle {readOk : Bool} (hs : t.panel.driving = false) (hd : t.quireDrives = false) :
    slotEnd readOk t = { t with panel.crackFails := 0 } := by
  rw [slotEnd, driveFrame_of_idle hr hd, lineCheck_of_stopped hs]

theorem slotEnd_of_drives {readOk : Bool} {p : List Byte} (hd : t.quireDrives = true) (hw : t.panel.wf = some p)
    (ho : t.panel.rails = .on) (hl : lineCheck readOk t.driven = t.driven) :
    slotEnd readOk t = { t.driven with panel.crackFails := 0 } := by
  rw [slotEnd, driveFrame_of_drives hr hd hw ho, hl]

end

/-! ## Regions that stay as they are (R286) -/

theorem regionLast_of_still {t : State} {j : Nat}
    (h : ∀ r, t.region j = some r → r.balance = none → r.driving = true → r.f < r.n) : regionLast j t = t := by
  unfold regionLast
  split
  · rfl
  · next r hr =>
    refine if_neg fun hc => ?_
    simp only [Bool.and_eq_true, decide_eq_true_eq, Option.isNone_iff_eq_none] at hc
    obtain ⟨⟨hb, hd⟩, hn⟩ := hc
    exact absurd (h r hr hb hd) (by omega)

theorem regionBalanced_of_still {t : State} {j : Nat} (h : ∀ r, t.region j = some r → r.balance ≠ some 0) :
    regionBalanced j t = t := by
  unfold regionBalanced
  split
  · rfl
  · next r hr => exact if_neg (h r hr)

/-- R286: no region has driven its last frame, and none has finished balancing. -/
theorem regionsSlot_of_still {t : State}
    (hl : ∀ j r, t.region j = some r → r.balance = none → r.driving = true → r.f < r.n)
    (hb : ∀ j r, t.region j = some r → r.balance ≠ some 0) : regionsSlot t = t := by
  rw [regionsSlot_eq, eachRegion_of_still fun j _ _ => regionLast_of_still (hl j),
    eachRegion_of_still fun j _ _ => regionBalanced_of_still (hb j)]

/-- R293: every blinking region is in a phase or balances. -/
theorem blinkPhases_of_busy {t : State}
    (h : ∀ j r, t.region j = some r → r.req.blink ≠ none → r.driving = true ∨ r.balance ≠ none) : blinkPhases t = t := by
  rw [blinkPhases_eq]
  refine eachRegion_of_still fun j _ _ => ?_
  rcases hj : t.region j with _ | r
  · exact blinkPhase_of_none hj
  · by_cases hb : r.req.blink = none
    · exact blinkPhase_of_steady hj hb
    · exact blinkPhase_of_busy hj (h j r hj hb)

section

variable {t : State} (h : t.panel.regions = noRegions)
include h

theorem regionsSlot_of_noRegions : regionsSlot t = t :=
  regionsSlot_of_still (fun j r hr => by rw [region_of_noRegions h j] at hr; contradiction)
    (fun j r hr => by rw [region_of_noRegions h j] at hr; contradiction)

theorem blinkPhases_of_noRegions : blinkPhases t = t :=
  blinkPhases_of_busy fun j r hr => by rw [region_of_noRegions h j] at hr; contradiction

theorem noRegions_any : t.panel.regions.any (·.isSome) = false := by
  rw [h]
  rfl

theorem quireDrives_of_noRegions : t.quireDrives = (match t.panel.clearing with | .running .. => true | _ => false) := by
  rw [State.quireDrives, h]
  cases t.panel.clearing <;> rfl

end

theorem mem_of_region {t : State} {j : Nat} {r : Region} (h : t.region j = some r) : some r ∈ t.panel.regions := by
  rw [State.region, List.getD_eq_getElem?_getD] at h
  cases hg : t.panel.regions[j - 1]? with
  | none => rw [hg] at h; contradiction
  | some o =>
    rw [hg] at h
    exact h ▸ List.mem_of_getElem? hg

/-! ## A region after a frame (R288, R292) -/

/-- R288: a region that goes on to the frame after the one it drove. -/
def Region.advanced (r : Region) : Region := { r with f := if r.playing then r.f + 1 else r.f, playing := false }

theorem Region.after_of_plain {r : Region} (hb : r.balance = none) (ha : r.aborting = false) : r.after = r.advanced := by
  obtain ⟨req, band, f, n, driving, phase, mc, pt, stopping, playing, aborting, balance⟩ := r
  subst hb ha
  cases playing <;> rfl

/-- R292: the last frame of an abort balancing is over. -/
theorem Region.after_of_balanced {r : Region} (hb : r.balance = some 1) (hp : r.playing = true) (ha : r.aborting = false) :
    r.after = { r with playing := false, balance := some 0 } := by
  obtain ⟨req, band, f, n, driving, phase, mc, pt, stopping, playing, aborting, balance⟩ := r
  subst hb hp ha
  rfl

/-- R288, R292: a frame leaves a region's request, block and phase, and neither balancing nor an abort is lost. -/
theorem Region.after_keeps (r : Region) : r.after.req = r.req ∧ r.after.n = r.n ∧ r.after.driving = r.driving ∧
    (r.balance ≠ none ∨ r.aborting = true → r.after.balance ≠ none) := by
  obtain ⟨req, band, f, n, driving, phase, mc, pt, stopping, playing, aborting, balance⟩ := r
  cases balance with
  | some k => cases playing <;> cases aborting <;> exact ⟨rfl, rfl, rfl, fun _ => Option.some_ne_none _⟩
  | none =>
    cases aborting with
    | true => cases playing <;> exact ⟨rfl, rfl, rfl, fun _ => Option.some_ne_none _⟩
    | false => cases playing <;> exact ⟨rfl, rfl, rfl, fun h => h.resolve_right Bool.false_ne_true⟩

end Sys2Proof.Machine

namespace Sys2Proof.Machine

/-! PROOFS. The panel engine: what a frame slot does, case by case (R284, R286-R289, R292, R293), and the panel statement. -/

/-! ## The image in force from a frame's start on (R34) -/

theorem secMc_congr {s t : State} (h : t.cfg.inForce = panelImage s) (k : Nat) : t.secMc k = s.secMc k := by
  have : t.cw .chain 0 0 = s.cw .chain 0 0 := by
    rw [State.cw, h, Image.word, panelImage_sec s (by decide)]
    rfl
  rw [State.secMc, State.mcPerSec, State.nominal60, State.cb, this]
  rfl

theorem isFrameSlot_congr {s t : State} (h : t.cfg.inForce = panelImage s) (hp : t.chain.pt = s.chain.pt) :
    t.isFrameSlot = s.isFrameSlot := by
  have : t.cb .panel 0 0 30 = s.cb .panel 0 0 30 := by
    rw [State.cb, State.cw, h, panelImage_slotBit]
    rfl
  rw [State.isFrameSlot, this, hp]
  rfl

theorem isFrameSlot_of_due {s : State} (h : s.slotDue = true) : s.isFrameSlot = true := by
  simp only [State.slotDue, Bool.and_eq_true] at h
  obtain ⟨⟨⟨⟨_, hs⟩, _⟩, _⟩, _⟩ := h
  exact hs

theorem linesPass_congr {s t : State} {readOk : Bool} (hf : t.panel.frame = s.panel.frame) (hc : t.cfg.inForce = s.cfg.inForce) :
    t.LinesPass readOk ↔ s.LinesPass readOk := by
  have hw : t.pnlW = s.pnlW := by simp only [State.pnlW, State.pf, State.cf, State.cw, hc]
  have hh : t.pnlH = s.pnlH := by simp only [State.pnlH, State.pf, State.cf, State.cw, hc]
  rw [State.LinesPass, State.LinesPass, linesOk_congr hf hc, hw, hh]

/-! ## A slot whose turn is known (R286) -/

section

variable {s t v : State} {p : List Byte} {readOk : Bool} (h : SlotReady s p) (ht : clearEnd (regionsSlot s.begun) = t)
  (hs : Settled p t)
include h ht hs

theorem slot_of_idle (hb : blinkPhases t = t) (hq : t.panel.queue = []) (hc : t.panel.clearing = .none) (hd : t.quireDrives = false) :
    exec (.frameSlot true readOk 0) s = .next { t with panel.crackFails := 0 } := by
  rw [exec_frameSlot_of_ready readOk h, slotTurn_of_quiet h ht hs hb hs.table hq (clearStart_of_none hc),
    slotEnd_of_idle hs.ready hs.stopped hd]

theorem slot_of_driving (hb : blinkPhases t = v) (hv : v.panel.wf = some p) (hr : v.panel.rest = false) (hq : v.panel.queue = [])
    (hc : clearStart p v = v) (hd : v.quireDrives = true) (ho : v.panel.rails = .on) (hl : lineCheck readOk v.driven = v.driven) :
    exec (.frameSlot true readOk 0) s = .next { v.driven with panel.crackFails := 0 } := by
  rw [exec_frameSlot_of_ready readOk h, slotTurn_of_quiet h ht hs hb hv hq hc, slotEnd_of_drives hr hd hv ho hl]

end

/-- R289, R292, R284: the last region, or the clearing update, ends with its event and nothing drives. -/
theorem slot_of_ended {s : State} {p : List Byte} {readOk : Bool} {q : Panel} {code detail : Nat} (h : SlotReady s p)
    (ht : clearEnd (regionsSlot s.begun) = raiseWith 93 code detail { s.begun with panel := q })
    (hs : Settled p { s.begun with panel := q }) (hr : q.regions = noRegions) (hq : q.queue = []) (hc : q.clearing = .none) :
    ∃ u, exec (.frameSlot true readOk 0) s = .next u ∧ u.raised 93 ∧ u.panel = { q with crackFails := 0 } ∧
      u = { s with panel := u.panel, evt := u.evt, cfg := s.live.cfg, chain.stage := 5 } := by
  have hraise := raiseWith_raised (src := 93) (c := code) (d := detail) { s.begun with panel := q } (by decide)
  have hframe := raiseWith_frame 93 code detail { s.begun with panel := q }
  generalize raiseWith 93 code detail { s.begun with panel := q } = t at ht hraise hframe
  obtain ⟨e, rfl⟩ : ∃ e, t = { s.begun with panel := q, evt := e } := ⟨_, hframe⟩
  refine ⟨_, slot_of_idle h ht ⟨hs.table, hs.unstaged, hs.band, hs.steady, hs.ready, hs.stopped⟩
    (blinkPhases_of_noRegions hr) hq hc ?_, hraise, rfl, rfl⟩
  rw [quireDrives_of_noRegions hr]
  dsimp only
  rw [hc]

/-! ## Regions that go on (R288) -/

/-- R286, R293: no region has driven its last frame or ended its balancing, and none is between phases. -/
def State.RegionsStay (s : State) : Prop :=
  ∀ r, some r ∈ s.panel.regions → r.after.balance ≠ some 0 ∧
    (r.after.balance = none → r.driving = true → r.after.f < r.n) ∧
    (r.req.blink ≠ none → r.after.driving = true ∨ r.after.balance ≠ none)

theorem region_of_begun {s : State} {j : Nat} {r' : Region} (h : s.begun.region j = some r') :
    ∃ r, some r ∈ s.panel.regions ∧ r' = r.after := by
  obtain ⟨o, ho, he⟩ := List.mem_map.mp (mem_of_region h)
  cases o with
  | none => contradiction
  | some r => exact ⟨r, ho, (Option.some.inj he).symm⟩

/-- R284: a clearing update that does not run waits on. -/
theorem begun_of_waiting {s : State} (h : s.panel.clearing.after s.panel.driving = s.panel.clearing) :
    s.begun = { s with panel := { s.panel with driving := false, fetchBad := 0,
                                               regions := s.panel.regions.map (fun o => o.map Region.after) },
                       cfg := s.live.cfg, chain.stage := 5 } := by
  rw [State.begun, h]

section

variable {s : State} (hc : s.panel.clearing = .none) (hstay : s.RegionsStay)
include hc

theorem begun_of_none : s.begun = { s with
    panel := { s.panel with driving := false, fetchBad := 0, regions := s.panel.regions.map (fun o => o.map Region.after) },
    cfg := s.live.cfg, chain.stage := 5 } :=
  begun_of_waiting (by rw [hc]; rfl)

theorem begun_clearing : s.begun.panel.clearing = .none := congrArg (ClearSt.after s.panel.driving) hc

include hstay

theorem turn_of_staying : clearEnd (regionsSlot s.begun) = s.begun := by
  rw [regionsSlot_of_still, clearEnd_of_none (begun_clearing hc)]
  · intro j r' hj hb hd
    obtain ⟨r, hr, rfl⟩ := region_of_begun hj
    obtain ⟨-, hlast, -⟩ := hstay r hr
    obtain ⟨-, hn, hdr, -⟩ := r.after_keeps
    rw [hn]
    exact hlast hb (hdr ▸ hd)
  · intro j r' hj
    obtain ⟨r, hr, rfl⟩ := region_of_begun hj
    exact (hstay r hr).1

omit hc in
theorem blinkPhases_of_staying : blinkPhases s.begun = s.begun :=
  blinkPhases_of_busy fun j r' hj hb => by
    obtain ⟨r, hr, rfl⟩ := region_of_begun hj
    obtain ⟨-, -, hblink⟩ := hstay r hr
    obtain ⟨hreq, -, -, -⟩ := r.after_keeps
    exact hblink (hreq ▸ hb)

omit hstay in
theorem driven_begun : { s.begun.driven with panel.crackFails := 0 } = { s with
    panel := { s.panel with
      driving := true, rest := s.throttled, crackFails := 0, fetchBad := 0,
      regions := s.panel.regions.map (fun o => o.map (fun r =>
        { r.after with playing := r.after.driving || r.after.balance.isSome })) },
    cfg := s.live.cfg, chain.stage := 5 } := by
  have hr : s.begun.driven.panel.regions = s.panel.regions.map (fun o => o.map (fun r =>
      { r.after with playing := r.after.driving || r.after.balance.isSome })) := by
    simp only [State.driven, State.begun, List.map_map, Function.comp_def, Option.map_map]
  rw [← hr, begun_of_none hc]
  rfl

end

/-- R286: a region is in a phase, balances, or is to be balanced. -/
def State.RegionDrives (s : State) : Prop :=
  ∃ r, some r ∈ s.panel.regions ∧ (r.driving = true ∨ r.balance ≠ none ∨ r.aborting = true)

theorem begun_drives {s : State} (h : s.RegionDrives) : s.begun.quireDrives = true := by
  obtain ⟨r, hr, hd⟩ := h
  obtain ⟨-, -, hdr, hbal⟩ := r.after_keeps
  rw [State.quireDrives, Bool.or_eq_true]
  refine .inl (List.any_eq_true.mpr ⟨some r.after, List.mem_map.mpr ⟨some r, hr, rfl⟩, ?_⟩)
  rw [Bool.or_eq_true, hdr, Option.isSome_iff_ne_none]
  exact hd.imp_right hbal

section

variable {s : State} {p : List Byte} {readOk : Bool} (h : SlotReady s p) (hc : s.panel.clearing = .none)
  (hq : s.panel.queue = []) (ho : s.panel.rails = .on)
include h hc hq ho

section

variable (hstay : s.RegionsStay) (hd : s.RegionDrives)
include hstay hd

/-- R286, R288: every region goes on. -/
theorem slot_of_staying (hl : s.live.LinesPass readOk) : exec (.frameSlot true readOk 0) s = .next { s with
    panel := { s.panel with
      driving := true, rest := s.throttled, crackFails := 0, fetchBad := 0,
      regions := s.panel.regions.map (fun o => o.map (fun r =>
        { r.after with playing := r.after.driving || r.after.balance.isSome })) },
    cfg := s.live.cfg, chain.stage := 5 } := by
  rw [← driven_begun hc]
  exact slot_of_driving h (turn_of_staying hc hstay) h.settled (blinkPhases_of_staying hstay) h.table h.ready hq
    (clearStart_of_none (begun_clearing hc)) (begun_drives hd) ho (lineCheck_of_pass ((linesPass_congr rfl rfl).mpr hl))

/-- R296: a driven frame whose line CRCs do not check is a fault. -/
theorem slot_of_bad_lines (h15 : s.panel.regions.length = 15) (hl : ¬s.live.LinesPass readOk) :
    ∃ u, exec (.frameSlot true readOk 0) s = .next u ∧ u.panel.fault = true ∧ u.panel.cause = 2 ∧
      u.panel.rails = .falling 0 ∧ u.raised 94 ∧
      Noted { s with panel := u.panel, cfg := s.live.cfg, bus.alarms := u.bus.alarms, chain.stage := 5 } u := by
  have hturn := slotTurn_of_quiet h (turn_of_staying hc hstay) h.settled (blinkPhases_of_staying hstay) h.table hq
    (clearStart_of_none (begun_clearing hc))
  have hend : slotEnd readOk s.begun = { panelFault 2 s.begun.driven with panel.crackFails := 0 } := by
    rw [slotEnd, driveFrame_of_drives (t := s.begun) h.ready (begun_drives hd) h.table ho,
      lineCheck_of_fail (t := s.begun.driven) rfl (begun_clearing hc) (mt (linesPass_congr rfl rfl).mp hl)]
  obtain ⟨fr, al, hraise, e, b, hn⟩ := panelFault_noted 2 (s := s.begun.driven)
    (by simp only [State.driven, State.begun, List.length_map]; exact h15) h.sound h.unstaged (.inl ho)
  rw [hn] at hend hraise
  refine ⟨_, (exec_frameSlot_of_ready readOk h).trans (congrArg Host.Outcome.next ((congrArg _ hturn).trans hend)),
    rfl, rfl, rfl, hraise, e, b, rfl⟩

end

end

end Sys2Proof.Machine

namespace Sys2Proof.Machine

/-! PROOFS. The panel engine: one region that completes, is freed, blinks or starts (R287, R289, R292, R293). -/

/-! ## What ends a region leaves of it (R289, R292) -/

/-- R289: the frame memory with a rectangle at its image. -/
def State.imaged (s : State) (r : Rect) (f : Nat → Nat) : Memory := (lineCrcs r (mapRect r f s)).panel.frame

theorem imaged_congr {s t : State} (r : Rect) (f : Nat → Nat) (hf : t.panel.frame = s.panel.frame)
    (hc : t.cfg.inForce = s.cfg.inForce) : t.imaged r f = s.imaged r f :=
  lineCrcs_congr (s := mapRect r f s) (mapRect_congr hf hc r f) hc r

/-- R289: the pixel word of a region that ends, and of one that ends a phase (R293). -/
def pxDone (w : Nat) : Nat := pxWord (pxStaging w) 0 (pxTarget w) (pxTarget w)
def pxPhaseDone (w : Nat) : Nat := pxWord (pxStaging w) (pxRegion w) (pxTarget w) (pxTarget w)

theorem regionDone_eq (n : Nat) (r : Region) (s : State) : regionDone n r s = raiseWith 93 1 r.req.tag
    { s with panel := { s.panel with frame := s.imaged r.req.rect pxDone, regions := s.panel.regions.set (n - 1) none } } := rfl

theorem regionDone_frame (n : Nat) (r : Region) (s : State) :
    (regionDone n r s).panel.frame = s.imaged r.req.rect pxDone := by
  rw [regionDone_eq, raiseWith_frame]

theorem phaseDone_of_going {n : Nat} {r : Region} {s : State} (h : r.stopping = false) : phaseDone n r s =
    { s with panel := { s.panel with frame := s.imaged r.req.rect pxPhaseDone,
                                     regions := s.panel.regions.set (n - 1) (some { r with driving := false, f := 0 }) } } :=
  if_neg (by simp [h])

/-! ## One region alone (R286) -/

section

variable {t : State} {n : Nat} {r : Region} (h : t.panel.regions = onlyRegion n r) (h1 : 1 ≤ n) (h15 : n ≤ 15)
include h h1 h15

theorem regionsSlot_of_last {u : State} (hb : r.balance = none) (hd : r.driving = true) (hn : r.n ≤ r.f)
    (hu : (if r.req.blink.isSome then phaseDone n r t else regionDone n r t) = u)
    (hnone : ∀ j, 1 ≤ j → j ≠ n → u.region j = none) (hr : ∀ r', u.region n = some r' → r'.balance ≠ some 0) :
    regionsSlot t = u := by
  have hlast : regionLast n t = u := by
    rw [regionLast, region_of_only h h1 h15]
    exact (if_pos (by simp [hb, hd, hn])).trans hu
  rw [regionsSlot_eq, eachRegion_of_one h1 h15 (s := t) (t := u) ?_ hlast ?_]
  · refine eachRegion_of_still fun j hj _ => regionBalanced_of_still fun r' hr' => ?_
    by_cases e : j = n
    · subst e
      exact hr r' hr'
    · rw [hnone j hj e] at hr'
      contradiction
  · intro j hj e
    rw [regionLast, region_of_only_ne h h1 hj e]
  · intro j hj e
    rw [regionLast, hnone j hj e]

theorem regionsSlot_of_balanced (hb : r.balance = some 0) : regionsSlot t = raiseWith 93 2 r.req.tag (regionFree n r t) := by
  have hlast : eachRegion regionLast t = t := by
    refine eachRegion_of_still fun j hj _ => ?_
    by_cases e : j = n
    · subst e
      refine regionLast_of_still fun r' hr' hn => ?_
      rw [region_of_only h h1 h15] at hr'
      rw [← Option.some.inj hr', hb] at hn
      contradiction
    · rw [regionLast, region_of_only_ne h h1 hj e]
  have hfree : (raiseWith 93 2 r.req.tag (regionFree n r t)).panel.regions = noRegions := by
    rw [raiseWith_frame]
    show t.panel.regions.set (n - 1) none = noRegions
    rw [h, onlyRegion_clear]
  rw [regionsSlot_eq, hlast]
  refine eachRegion_of_one h1 h15 ?_ ?_ ?_
  · intro j hj e
    rw [regionBalanced, region_of_only_ne h h1 hj e]
  · rw [regionBalanced, region_of_only h h1 h15]
    exact if_pos hb
  · intro j hj e
    rw [regionBalanced, region_of_noRegions hfree]

theorem blinkPhases_of_only {u : State} (hu : blinkPhase n t = u) (hnone : ∀ j, 1 ≤ j → j ≠ n → u.region j = none) :
    blinkPhases t = u := by
  rw [blinkPhases_eq]
  exact eachRegion_of_one h1 h15 (fun j hj e => blinkPhase_of_none (region_of_only_ne h h1 hj e)) hu
    (fun j hj e => blinkPhase_of_none (hnone j hj e))

end

/-! ## The slot of one region alone -/

section

variable {s : State} {p : List Byte} {readOk : Bool} (h : SlotReady s p) (hc : s.panel.clearing = .none)
  (hq : s.panel.queue = [])
include h hc hq

/-- R289, R292: the last region goes with its event. -/
theorem slot_of_freed {code detail : Nat} {fr : Memory}
    (ht : regionsSlot s.begun =
      raiseWith 93 code detail { s.begun with panel := { s.begun.panel with frame := fr, regions := noRegions } }) :
    ∃ u, exec (.frameSlot true readOk 0) s = .next u ∧ u.raised 93 ∧
      u.panel = { s.panel with driving := false, crackFails := 0, fetchBad := 0, regions := List.replicate 15 none, frame := fr } ∧
      u = { s with panel := u.panel, evt := u.evt, cfg := s.live.cfg, chain.stage := 5 } := by
  have hend : clearEnd (regionsSlot s.begun) = regionsSlot s.begun :=
    clearEnd_of_none (by rw [ht, raiseWith_frame]; exact begun_clearing hc)
  obtain ⟨u, hu, hraise, hpanel, heq⟩ := slot_of_ended (readOk := readOk) h (hend.trans ht)
    ⟨h.table, h.unstaged, h.band, h.steady, h.ready, rfl⟩ rfl hq (begun_clearing hc)
  refine ⟨u, hu, hraise, hpanel.trans ?_, heq⟩
  rw [begun_of_none hc]
  rfl

section

variable {n : Nat} {r : Region} (hr : s.panel.regions = onlyRegion n r) (h1 : 1 ≤ n) (h15 : n ≤ 15)
include hr

omit h hc hq in
theorem begun_regions_of_only : s.begun.panel.regions = onlyRegion n r.after := by
  rw [State.begun, hr]
  exact onlyRegion_map n r Region.after

include h1 h15

/-- R289: a region whose last frame is over is at its image. -/
theorem slot_of_last (hb : r.balance = none) (hd : r.driving = true) (ha : r.aborting = false)
    (hn : r.n ≤ if r.playing then r.f + 1 else r.f) (hs : r.req.blink = none) :
    ∃ u, exec (.frameSlot true readOk 0) s = .next u ∧ u.raised 93 ∧
      u.panel = { s.panel with driving := false, crackFails := 0, fetchBad := 0, regions := List.replicate 15 none,
                               frame := (regionDone n r s.live).panel.frame } ∧
      u = { s with panel := u.panel, evt := u.evt, cfg := s.live.cfg, chain.stage := 5 } := by
  have hreg := begun_regions_of_only hr
  rw [Region.after_of_plain hb ha] at hreg
  have hfree : s.begun.panel.regions.set (n - 1) none = noRegions := by rw [hreg, onlyRegion_clear]
  have hdone := regionDone_eq n r.advanced s.begun
  rw [hfree] at hdone
  have hnone := region_of_noRegions (s := regionDone n r.advanced s.begun) (by rw [hdone, raiseWith_frame])
  have hslot := regionsSlot_of_last hreg h1 h15 hb hd hn (by rw [if_neg]; simp [Region.advanced, hs]) (fun j _ _ => hnone j)
    (fun r' hr' => by rw [hnone] at hr'; contradiction)
  obtain ⟨u, hu, hraise, hpanel, heq⟩ := slot_of_freed (readOk := readOk) h hc hq (hslot.trans hdone)
  refine ⟨u, hu, hraise, hpanel.trans ?_, heq⟩
  rw [regionDone_frame, imaged_congr (s := s.live) (t := s.begun) r.advanced.req.rect pxDone rfl rfl]
  rfl

/-- R292: a region whose balancing is over is freed. -/
theorem slot_of_balanced (hb : r.balance = some 1) (hp : r.playing = true) (ha : r.aborting = false) :
    ∃ u, exec (.frameSlot true readOk 0) s = .next u ∧ u.raised 93 ∧
      u.panel = { s.panel with driving := false, crackFails := 0, fetchBad := 0, regions := List.replicate 15 none,
                               frame := (regionFree n r s.live).panel.frame } ∧
      u = { s with panel := u.panel, evt := u.evt, cfg := s.live.cfg, chain.stage := 5 } := by
  have hreg := begun_regions_of_only hr
  rw [Region.after_of_balanced hb hp ha] at hreg
  have hslot := regionsSlot_of_balanced hreg h1 h15 rfl
  have hfree : regionFree n { r with playing := false, balance := some 0 } s.begun = { s.begun with
      panel := { s.begun.panel with frame := (regionFree n r s.live).panel.frame, regions := noRegions } } := by
    rw [← onlyRegion_clear n, ← hreg]
    rfl
  rw [hfree] at hslot
  exact slot_of_freed h hc hq hslot

/-! ## The phases of a blinking region (R293) -/

/-- R293: a blinking region between two phases. -/
def Region.paused (r : Region) : Region := { r with driving := false, f := 0, playing := false }

/-- R293: the state whose region n is between two phases. -/
def State.paused (s : State) (n : Nat) (r : Region) : State := { s.begun with
  panel := { s.begun.panel with frame := (phaseDone n r s.live).panel.frame, regions := onlyRegion n r.paused } }

omit h hq in
theorem turn_of_phase_end {period : Nat} (hb : r.balance = none) (hd : r.driving = true) (ha : r.aborting = false)
    (hgo : r.stopping = false) (hn : r.n ≤ if r.playing then r.f + 1 else r.f) (hs : r.req.blink = some period) :
    clearEnd (regionsSlot s.begun) = s.paused n r := by
  have hreg := begun_regions_of_only hr
  rw [Region.after_of_plain hb ha] at hreg
  have hdone : phaseDone n r.advanced s.begun = s.paused n r := by
    rw [phaseDone_of_going (r := r.advanced) hgo, State.paused, phaseDone_of_going (r := r) hgo, hreg, onlyRegion_set,
      imaged_congr (s := s.live) (t := s.begun) r.advanced.req.rect pxPhaseDone rfl rfl]
    rfl
  have hslot := regionsSlot_of_last hreg h1 h15 hb hd hn (u := s.paused n r) (by rw [if_pos, hdone]; simp [Region.advanced, hs])
    (fun j hj e => region_of_only_ne rfl h1 hj e)
    (fun r' hr' => by rw [region_of_only rfl h1 h15] at hr'; rw [← Option.some.inj hr']; simp [Region.paused, hb])
  rw [hslot]
  exact clearEnd_of_none (begun_clearing hc)

end

end

end Sys2Proof.Machine

namespace Sys2Proof.Machine

/-! PROOFS. The panel engine: the slots that start something: a blinking region's next phase, a queued request, the clearing update
(R284, R286, R287, R293). -/

/-! ## One region alone drives or does not (R286) -/

theorem mem_onlyRegion {n : Nat} {r r' : Region} (h : some r' ∈ onlyRegion n r) : r' = r := by
  rcases List.mem_or_eq_of_mem_set h with h | h
  · have := List.eq_of_mem_replicate h
    contradiction
  · exact Option.some.inj h

theorem onlyRegion_mem {n : Nat} (r : Region) (h1 : 1 ≤ n) (h15 : n ≤ 15) : some r ∈ onlyRegion n r :=
  List.mem_set (by rw [noRegions, List.length_replicate]; omega) _

section

variable {t : State} {n : Nat} {r : Region} (h : t.panel.regions = onlyRegion n r)
include h

theorem quireDrives_of_paused (hc : t.panel.clearing = .none) (hd : r.driving = false) (hb : r.balance = none) :
    t.quireDrives = false := by
  rw [State.quireDrives, hc, Bool.or_false, List.any_eq_false, h]
  intro o ho
  cases o with
  | none => exact Bool.false_ne_true
  | some r' =>
    rw [mem_onlyRegion ho]
    simp [hd, hb]

theorem quireDrives_of_driving (h1 : 1 ≤ n) (h15 : n ≤ 15) (hd : r.driving = true) : t.quireDrives = true := by
  rw [State.quireDrives, Bool.or_eq_true, h]
  exact .inl (List.any_eq_true.mpr ⟨some r, onlyRegion_mem r h1 h15, by simp [hd]⟩)

end

/-! ## The next phase of a blinking region (R293) -/

/-- R293: a region in the first frame of its next phase. -/
def Region.restarted (r : Region) (p : List Byte) (band : Nat) : Region :=
  { r with driving := true, f := 0, playing := true, phase := r.phase + 1, band := band, n := wfFrames p band r.req.mode }

theorem Region.restarted_of_driving {r : Region} (p : List Byte) (b : Nat) (h : r.driving = true) : r.restarted p b =
    { r with f := 0, playing := true, phase := r.phase + 1, band := b, n := wfFrames p b r.req.mode } := by
  obtain ⟨req, band, f, n, driving, phase, mc, pt, stopping, playing, aborting, balance⟩ := r
  subst h
  rfl

/-- R293: the time of the next phase is the one before the phase ended. -/
theorem phaseDue_paused {s : State} {n period : Nat} {r : Region} :
    (s.paused n r).phaseDue r.paused period ↔ s.phaseDue r period := by
  rw [State.phaseDue, State.phaseDue, secMc_congr (s := s) rfl]
  rfl

section

variable {s : State} {p : List Byte} {readOk : Bool} (h : SlotReady s p) (hc : s.panel.clearing = .none)
  (hq : s.panel.queue = [])
include h hc hq

section

variable {n period : Nat} {r : Region} (hr : s.panel.regions = onlyRegion n r) (h1 : 1 ≤ n) (h15 : n ≤ 15)
  (hb : r.balance = none) (hd : r.driving = true) (ha : r.aborting = false) (hgo : r.stopping = false)
  (hn : r.n ≤ if r.playing then r.f + 1 else r.f) (hs : r.req.blink = some period)
include hr h1 h15 hb hd ha hgo hn hs

theorem slot_of_phase_early (hdue : ¬s.phaseDue r period) : exec (.frameSlot true readOk 0) s = .next { s with
    panel := { s.panel with driving := false, crackFails := 0, fetchBad := 0, frame := (phaseDone n r s.live).panel.frame,
                            regions := onlyRegion n r.paused },
    cfg := s.live.cfg, chain.stage := 5 } := by
  have hblink : blinkPhases (s.paused n r) = s.paused n r := blinkPhases_of_only (r := r.paused) rfl h1 h15
    (blinkPhase_of_early (region_of_only rfl h1 h15) hs (mt phaseDue_paused.mp hdue))
    (fun j hj e => region_of_only_ne rfl h1 hj e)
  have hslot := slot_of_idle (readOk := readOk) h (turn_of_phase_end hc hr h1 h15 hb hd ha hgo hn hs)
    ⟨h.table, h.unstaged, h.band, h.steady, h.ready, rfl⟩ hblink hq (begun_clearing hc)
    (quireDrives_of_paused (r := r.paused) rfl (begun_clearing hc) rfl hb)
  rw [State.paused, begun_of_none hc] at hslot
  exact hslot

theorem slot_of_phase_due (ho : s.panel.rails = .on) (hgoes : s.quireStarts = true) (hdue : s.phaseDue r period)
    (hl : (mapRect r.req.rect (fun w => pxWord (pxTarget w) (pxRegion w) (pxStaging w) (pxCurrent w))
      (phaseDone n r s.live)).LinesPass readOk) :
    exec (.frameSlot true readOk 0) s = .next { s with
      panel := { s.panel with
        driving := true, rest := s.throttled, crackFails := 0, fetchBad := 0,
        frame := (mapRect r.req.rect (fun w => pxWord (pxTarget w) (pxRegion w) (pxStaging w) (pxCurrent w))
          (phaseDone n r s.live)).panel.frame,
        regions := onlyRegion n (r.restarted p s.panel.bandRun) },
      cfg := s.live.cfg, chain.stage := 5 } := by
  have hcfg : (s.paused n r).cfg.inForce = (phaseDone n r s.live).cfg.inForce := by
    rw [phaseDone_of_going hgo]
    rfl
  have hfr := mapRect_congr (s := phaseDone n r s.live) (t := s.paused n r) rfl hcfg r.req.rect
    (fun w => pxWord (pxTarget w) (pxRegion w) (pxStaging w) (pxCurrent w))
  have hreg : (phaseStart n r.paused p (s.paused n r)).driven.panel.regions = onlyRegion n (r.restarted p s.panel.bandRun) :=
    (congrArg (List.map _) (onlyRegion_set n _ _)).trans (onlyRegion_map n _ _)
  have hslot : (s.paused n r).isFrameSlot = true := (isFrameSlot_congr (t := s.paused n r) rfl rfl).trans (isFrameSlot_of_due h.due)
  have hblink : blinkPhases (s.paused n r) = phaseStart n r.paused p (s.paused n r) :=
    blinkPhases_of_only (r := r.paused) rfl h1 h15
      (blinkPhase_of_due (region_of_only rfl h1 h15) hs h.table rfl hb
        hslot h.steady hgoes h.sound ho (phaseDue_paused.mpr hdue))
      (fun j hj e => region_of_only_ne (onlyRegion_set n _ _) h1 hj e)
  have hexec := slot_of_driving (readOk := readOk) h (turn_of_phase_end hc hr h1 h15 hb hd ha hgo hn hs)
    ⟨h.table, h.unstaged, h.band, h.steady, h.ready, rfl⟩ hblink h.table h.ready hq (clearStart_of_none (begun_clearing hc))
    (quireDrives_of_driving (onlyRegion_set n _ _) h1 h15 rfl) ho (lineCheck_of_pass ((linesPass_congr hfr hcfg).mpr hl))
  rw [hexec, ← hreg, ← hfr, State.paused, begun_of_none hc]
  rfl

end

end

end Sys2Proof.Machine

namespace Sys2Proof.Machine

/-! PROOFS. The panel engine: a queued request that starts, and the clearing update (R284, R286, R287). -/

/-! ## A queued request (R286, R287) -/

theorem freeRegion_of_noRegions {t : State} (h : t.panel.regions = noRegions) : t.freeRegion = some 1 := by
  have hl : (List.range 15).map (· + 1) = 1 :: (List.range 14).map (· + 2) := by decide
  rw [State.freeRegion, hl, List.find?_cons_of_pos]
  rw [region_of_noRegions h]
  rfl

section

variable {t : State} (h : t.panel.regions = noRegions)
include h

/-- R286: nothing keeps the oldest request of an idle panel from starting. -/
theorem reqFree_of_idle (q : PnlReq) (hg : t.quireStarts = true) (hc : t.panel.clearing = .none) : t.reqFree [] q = true := by
  rw [State.reqFree, freeRegion_of_noRegions h, hg, hc, h]
  rfl

theorem scanQueue_of_idle (q : PnlReq) (p : List Byte) (hg : t.quireStarts = true) (hc : t.panel.clearing = .none)
    (hb : t.panel.bandPend = false) (ho : t.panel.rails = .on) :
    scanQueue p [] [q] t = { startRegion q 1 p t with panel.queue := [] } := by
  rw [scanQueue, if_pos (by simp [reqFree_of_idle h q hg hc, hb]), if_pos ho, freeRegion_of_noRegions h]
  rfl

end

/-- R287: a start writes the frame memory from the frame memory and the panel's size. -/
theorem startRegion_congr {s t : State} (q : PnlReq) (n : Nat) (p : List Byte) (hf : t.panel.frame = s.panel.frame)
    (hc : t.cfg.inForce = s.cfg.inForce) : (startRegion q n p t).panel.frame = (startRegion q n p s).panel.frame :=
  mapRect_congr hf hc q.rect
    (fun w => pxWord (if q.blink.isSome then pxCurrent w else pxStaging w) n (pxStaging w) (pxCurrent w))

/-- R287: the first region as a request starts it in this slot. -/
def State.started (s : State) (q : PnlReq) (p : List Byte) : Region :=
  { req := q, band := s.panel.bandRun, n := wfFrames p s.panel.bandRun q.mode,
    startMc := s.chain.mc, startPt := s.chain.pt.toNat, playing := true }

section

variable {s : State} {p : List Byte} {readOk : Bool} (h : SlotReady s p) (hr : s.panel.regions = noRegions)
include hr

theorem begun_regions_of_none : s.begun.panel.regions = noRegions := by
  rw [State.begun, hr]
  exact noRegions_map Region.after

include h

/-- R286, R287: a queued request takes the lowest region and drives its first frame. -/
theorem slot_of_request {q : PnlReq} (hc : s.panel.clearing = .none) (hq : s.panel.queue = [q]) (ho : s.panel.rails = .on)
    (hg : s.quireStarts = true) (hl : (startRegion q 1 p s.live).LinesPass readOk) :
    exec (.frameSlot true readOk 0) s = .next { s with
      panel := { s.panel with
        driving := true, rest := s.throttled, crackFails := 0, fetchBad := 0, queue := [],
        frame := (startRegion q 1 p s.live).panel.frame, regions := onlyRegion 1 (s.started q p) },
      cfg := s.live.cfg, chain.stage := 5 } := by
  have hreg := begun_regions_of_none hr
  have hclear := begun_clearing hc
  have hend : clearEnd (regionsSlot s.begun) = s.begun := by rw [regionsSlot_of_noRegions hreg, clearEnd_of_none hclear]
  have hturn := slotTurn_of_turns h hend h.settled (blinkPhases_of_noRegions hreg) h.table
  have hqueue : s.begun.panel.queue = [q] := hq
  rw [clearStart_of_none hclear, hqueue, scanQueue_of_idle hreg q p hg hclear h.steady ho] at hturn
  have hfr : (startRegion q 1 p s.begun).panel.frame = (startRegion q 1 p s.live).panel.frame :=
    startRegion_congr q 1 p rfl rfl
  have hone : (startRegion q 1 p s.begun).panel.regions = onlyRegion 1 { s.started q p with playing := false } := by
    show s.begun.panel.regions.set 0 _ = _
    rw [hreg]
    rfl
  have hreg1 : ({ startRegion q 1 p s.begun with panel.queue := [] } : State).driven.panel.regions = onlyRegion 1 (s.started q p) :=
    (congrArg (List.map _) hone).trans (onlyRegion_map 1 _ _)
  have hslot := slotEnd_of_drives (t := { startRegion q 1 p s.begun with panel.queue := [] }) (readOk := readOk) h.ready
    (quireDrives_of_driving hone (by decide) (by decide) rfl) h.table ho
    (lineCheck_of_pass ((linesPass_congr (s := startRegion q 1 p s.live) hfr rfl).mpr hl))
  rw [exec_frameSlot_of_ready readOk h, hturn, hslot, ← hreg1, ← hfr, begun_of_none hc]
  rfl

end

/-! ## The clearing update (R284) -/

/-- R284: the mode that the clearing update drives with. -/
def State.clearMode (t : State) (p : List Byte) : Nat := if t.pf 2 18 17 < wfModes p then t.pf 2 18 17 else 0

/-- R284: the clearing update before its first frame. -/
def State.clearFirst (t : State) (p : List Byte) : ClearSt :=
  .running (t.clearMode p) (t.pf 2 22 19) t.panel.bandRun 0 (wfFrames p t.panel.bandRun (t.clearMode p))

/-- R282: the rails rise to the band in force. -/
def State.railsRising (t : State) : State :=
  { t with panel := { t.panel with rails := .rising 0, railMv := t.bandRails t.panel.bandRun } }

section

variable {t : State} (p : List Byte) (h : t.panel.clearing = .due) (hr : t.panel.regions = noRegions)
  (hg : t.quireStarts = true) (hb : t.panel.bandPend = false)
include h hr hg hb

theorem clearStart_of_rails_on (ho : t.panel.rails = .on) :
    clearStart p t = { t with panel.clearing := t.clearFirst p } := by
  unfold clearStart
  rw [h]
  dsimp only
  rw [if_neg (by simp [hg, noRegions_any hr]), if_neg (by simp [ho]), if_neg (by simp [hb])]
  rfl

theorem clearStart_of_rails_off (ho : t.panel.rails = .off) (hm : t.panel.bandMeas = t.panel.bandRun) :
    clearStart p t = t.railsRising := by
  unfold clearStart
  rw [h]
  dsimp only
  rw [if_neg (by simp [hg, noRegions_any hr]), if_pos (by simp [ho]), ← h]
  exact railsOn_of_off (s := t) ho hm hb

end

theorem clearEnd_of_due {t : State} (h : t.panel.clearing = .due) : clearEnd t = t := by
  rw [clearEnd, h]

section

variable {t : State} {m lv b f n : Nat} (h : t.panel.clearing = .running m lv b f n)
include h

theorem clearEnd_of_going (hn : f < n) : clearEnd t = t := by
  rw [clearEnd, h]
  exact if_neg (by omega)

/-- R284: with its last frame every pixel is at its level, and an event is raised. -/
theorem clearEnd_of_last (hn : n ≤ f) : clearEnd t = raiseWith 93 3 0 { t with
    panel := { t.panel with frame := t.imaged t.panelRect (fun _ => pxWord lv 0 lv lv), clearing := .none, cleared := true } } := by
  rw [clearEnd, h]
  exact if_pos hn

end

theorem driven_of_noRegions {t : State} (h : t.panel.regions = noRegions) :
    t.driven = { t with panel := { t.panel with driving := true, rest := t.throttled } } := by
  have hm (f : Region → Region) : t.panel.regions.map (fun o => o.map f) = t.panel.regions := by rw [h, noRegions_map]
  rw [State.driven, hm]

theorem queue_of_empty {t : State} (h : t.panel.queue = []) : { t with panel.queue := [] } = t := by rw [← h]

section

variable {s : State} {p : List Byte} {readOk : Bool} (h : SlotReady s p) (hr : s.panel.regions = noRegions)
  (hq : s.panel.queue = [])
include hr

theorem begun_of_noRegions {c : ClearSt} (hc : s.panel.clearing.after s.panel.driving = c) :
    s.begun = { s with panel := { s.panel with clearing := c, driving := false, fetchBad := 0 },
                       cfg := s.live.cfg, chain.stage := 5 } := by
  have hm : s.panel.regions.map (fun o => o.map Region.after) = s.panel.regions := by rw [hr, noRegions_map]
  rw [State.begun, hm, hc]

include h hq

theorem turn_of_clearing (hend : clearEnd s.begun = s.begun) : slotTurn s = { clearStart p s.begun with panel.queue := [] } := by
  have hreg := begun_regions_of_none hr
  have hqueue : s.begun.panel.queue = [] := hq
  rw [slotTurn_of_turns h (by rw [regionsSlot_of_noRegions hreg, hend]) h.settled (blinkPhases_of_noRegions hreg) h.table,
    hqueue, scanQueue]

theorem slot_of_clearing_start (hc : s.panel.clearing = .due) (hg : s.quireStarts = true) (ho : s.panel.rails = .on) :
    exec (.frameSlot true readOk 0) s = .next { s with
      panel := { s.panel with driving := true, rest := s.throttled, crackFails := 0, fetchBad := 0, clearing := s.live.clearFirst p },
      cfg := s.live.cfg, chain.stage := 5 } := by
  have hbegun := begun_of_noRegions hr (c := .due) (by rw [hc]; rfl)
  have hclear : s.begun.panel.clearing = .due := by rw [hbegun]
  have hreg := begun_regions_of_none hr
  have hturn := turn_of_clearing h hr hq (clearEnd_of_due hclear)
  rw [clearStart_of_rails_on p hclear hreg hg h.steady ho] at hturn
  have hturn' := hturn.trans (queue_of_empty (t := { s.begun with panel.clearing := s.begun.clearFirst p }) hq)
  rw [exec_frameSlot_of_ready readOk h, hturn',
    slotEnd_of_drives (t := { s.begun with panel.clearing := s.begun.clearFirst p }) h.ready (quireDrives_of_noRegions hreg)
      h.table ho (lineCheck_of_clearing rfl),
    driven_of_noRegions (t := { s.begun with panel.clearing := s.begun.clearFirst p }) hreg, hbegun]
  rfl

theorem slot_of_clearing_rails (hc : s.panel.clearing = .due) (hg : s.quireStarts = true) (ho : s.panel.rails = .off) :
    exec (.frameSlot true readOk 0) s = .next { s with
      panel := { s.panel with driving := false, crackFails := 0, fetchBad := 0, rails := .rising 0,
                              railMv := s.bandRails s.panel.bandRun },
      cfg := s.live.cfg, chain.stage := 5 } := by
  have hbegun := begun_of_noRegions hr (c := s.panel.clearing) (by rw [hc]; rfl)
  have hclear : s.begun.panel.clearing = .due := by rw [hbegun, ← hc]
  have hreg := begun_regions_of_none hr
  have hturn := turn_of_clearing h hr hq (clearEnd_of_due hclear)
  rw [clearStart_of_rails_off p hclear hreg hg h.steady ho h.band] at hturn
  have hidle : s.begun.railsRising.quireDrives = false :=
    (quireDrives_of_noRegions (t := s.begun.railsRising) hreg).trans (by rw [State.railsRising, hclear])
  rw [exec_frameSlot_of_ready readOk h, hturn, queue_of_empty (t := s.begun.railsRising) hq,
    slotEnd_of_idle (t := s.begun.railsRising) h.ready rfl hidle, State.railsRising, hbegun]
  rfl

section

variable {k lv b f n : Nat} (hc : s.panel.clearing = .running k lv b f n) (hd : s.panel.driving = true)
include hc hd

theorem slot_of_clearing_going (ho : s.panel.rails = .on) (hn : f + 1 < n) :
    exec (.frameSlot true readOk 0) s = .next { s with
      panel := { s.panel with rest := s.throttled, crackFails := 0, fetchBad := 0, clearing := .running k lv b (f + 1) n },
      cfg := s.live.cfg, chain.stage := 5 } := by
  have hbegun := begun_of_noRegions hr (c := .running k lv b (f + 1) n) (by rw [hc, hd]; rfl)
  have hclear : s.begun.panel.clearing = .running k lv b (f + 1) n := by rw [hbegun]
  have hreg := begun_regions_of_none hr
  have hturn := turn_of_clearing h hr hq (clearEnd_of_going hclear hn)
  rw [clearStart_of_running hclear, queue_of_empty (t := s.begun) hq] at hturn
  have hdrives : s.begun.quireDrives = true := by rw [quireDrives_of_noRegions hreg, hclear]
  have hlast : { s.begun.driven with panel.crackFails := 0 } = { s with
      panel := { s.panel with rest := s.throttled, crackFails := 0, fetchBad := 0, clearing := .running k lv b (f + 1) n },
      cfg := s.live.cfg, chain.stage := 5 } := by
    rw [driven_of_noRegions hreg, hbegun, ← hd]
    rfl
  rw [exec_frameSlot_of_ready readOk h, hturn, slotEnd_of_drives (t := s.begun) h.ready hdrives h.table ho
    (lineCheck_of_clearing hclear), hlast]

theorem slot_of_clearing_last (hn : n ≤ f + 1) :
    ∃ u, exec (.frameSlot true readOk 0) s = .next u ∧ u.raised 93 ∧
      u.panel = { s.panel with
        driving := false, crackFails := 0, fetchBad := 0, clearing := .none, cleared := true,
        frame := s.live.imaged s.live.panelRect (fun _ => pxWord lv 0 lv lv) } ∧
      u = { s with panel := u.panel, evt := u.evt, cfg := s.live.cfg, chain.stage := 5 } := by
  have hbegun := begun_of_noRegions hr (c := .running k lv b (f + 1) n) (by rw [hc, hd]; rfl)
  have hclear : s.begun.panel.clearing = .running k lv b (f + 1) n := by rw [hbegun]
  have hreg := begun_regions_of_none hr
  have hend := (congrArg clearEnd (regionsSlot_of_noRegions hreg)).trans (clearEnd_of_last hclear hn)
  obtain ⟨u, hu, hraise, hpanel, heq⟩ := slot_of_ended (readOk := readOk) h hend
    ⟨h.table, h.unstaged, h.band, h.steady, h.ready, rfl⟩ hreg hq rfl
  refine ⟨u, hu, hraise, hpanel.trans ?_, heq⟩
  have hrect : s.begun.panelRect = s.live.panelRect := rfl
  rw [hrect, imaged_congr (s := s.live) (t := s.begun) s.live.panelRect _ rfl rfl, hbegun]

end

end

end Sys2Proof.Machine

namespace Sys2Proof.Machine

/-! PROOFS. The panel engine: the panel statement, from the slots, the rails and the faults above. -/

/-! ## The slots of a panel with its rails on -/

section

variable {s : State} {p : List Byte} {readOk : Bool} (h : SlotReady s p) (hc : s.panel.clearing = .none)
  (hq : s.panel.queue = []) (ho : s.panel.rails = .on)
include h hc hq ho

section

variable {r : Region} (hr : s.panel.regions = onlyRegion 1 r) (hb : r.balance = none) (hd : r.driving = true)
  (ha : r.aborting = false) (hn : (if r.playing then r.f + 1 else r.f) < r.n)
include hr hb hd ha hn

omit h hc hq ho in
theorem only_stays : s.RegionsStay ∧ s.RegionDrives ∧ s.panel.regions.length = 15 := by
  refine ⟨fun r' hr' => ?_, ⟨r, hr ▸ onlyRegion_mem r (by decide) (by decide), .inl hd⟩, by rw [hr]; rfl⟩
  rw [hr] at hr'
  rw [mem_onlyRegion hr', Region.after_of_plain hb ha]
  exact ⟨by simp [Region.advanced, hb], fun _ _ => hn, fun _ => .inl hd⟩

/-- R288: a region that has more frames drives its next one. -/
theorem slot_of_next_frame (hl : s.live.LinesPass readOk) : exec (.frameSlot true readOk 0) s = .next { s with
    panel := { s.panel with
      driving := true, rest := s.throttled, crackFails := 0, fetchBad := 0,
      regions := onlyRegion 1 { r with f := if r.playing then r.f + 1 else r.f, playing := true } },
    cfg := s.live.cfg, chain.stage := 5 } := by
  obtain ⟨hstay, hdrive, -⟩ := only_stays hr hb hd ha hn
  have hplay : onlyRegion 1 { r with f := if r.playing then r.f + 1 else r.f, playing := true } =
      s.panel.regions.map (fun o => o.map (fun r => { r.after with playing := r.after.driving || r.after.balance.isSome })) := by
    rw [hr, onlyRegion_map, Region.after_of_plain hb ha]
    simp only [Region.advanced, hd, Bool.true_or]
  rw [hplay]
  exact slot_of_staying h hc hq ho hstay hdrive hl

end

end

/-! ## The statement -/

theorem slotDue_of {s : State} (hrel : s.released = true) (hen : s.pnlEn = true) (hpll : s.clk.pllLocked = true)
    (hslot : s.isFrameSlot = true) (hstage : s.chain.stage < 5) (hpfw : s.sup.safePfw = false) (hshut : s.sup.shutAt = none) :
    s.slotDue = true := by
  simp [State.slotDue, State.inTurn, hrel, hen, hpll, hslot, hstage, hpfw, hshut]

theorem quireStarts_of {s : State} (hm : s.sup.mode = .run) (hs : s.safe = false) : s.quireStarts = true := by
  simp [State.quireStarts, hm, hs]

/-- R296: the size of the panel is not a live field here, so the lines pass as the size before says. -/
theorem linesPass_iff {s a t : State} {readOk : Bool} (hw : a.pnlW = s.pnlW) (hh : a.pnlH = s.pnlH)
    (hc : t.cfg.inForce = a.cfg.inForce) :
    t.LinesPass readOk ↔ s.pnlW * s.pnlH ≤ 120000 ∨ (readOk = true ∧ t.linesOk = true) := by
  have hw' : t.pnlW = s.pnlW := by rw [← hw]; simp only [State.pnlW, State.pf, State.cf, State.cw, hc]
  have hh' : t.pnlH = s.pnlH := by rw [← hh]; simp only [State.pnlH, State.pf, State.cf, State.cw, hc]
  rw [State.LinesPass, hw', hh']

theorem not_linesPass {t : State} {readOk : Bool} {small : Prop}
    (h : t.LinesPass readOk ↔ small ∨ (readOk = true ∧ t.linesOk = true))
    (hs : ¬small) (hb : readOk = false ∨ t.linesOk = false) : ¬t.LinesPass readOk := by
  rw [h, not_or, not_and_or]
  exact ⟨hs, hb.imp (by simp) (by simp)⟩

/-- R34, R281: the live fields at the place of a frame slot; only the measured band may change with them. -/
theorem panelLive_atStage (k : Nat) (s : State) :
    panelLive (atStage k s) = { s with panel := (panelLive s).panel, cfg := (panelLive s).cfg, chain.stage := k } ∧
    (panelLive s).panel = { s.panel with bandMeas := (panelLive s).panel.bandMeas } ∧
    (panelLive s).cfg = { s.cfg with inForce := (panelLive s).cfg.inForce } := by
  by_cases h : s.panel.tempSeen = true
  · rw [panelLive_of_seen h, panelLive_of_seen (s := atStage k s) h]
    exact ⟨rfl, rfl, rfl⟩
  · rw [panelLive_of_unseen h, panelLive_of_unseen (s := atStage k s) h]
    exact ⟨rfl, rfl, rfl⟩

/-- R295, R297: the crack check runs on while a fault is latched. -/
theorem exec_frameSlot_of_fault {s : State} {crackOk readOk : Bool} {fetchBad : Nat} (hdue : s.slotDue = true)
    (hf : s.panel.fault = true) (hw : (panelLive s).crackWatched = true) :
    exec (.frameSlot crackOk readOk fetchBad) s = .next { s with
      panel := { (panelLive s).panel with crackFails := if crackOk = true then 0 else min 2 (s.panel.crackFails + 1) },
      cfg := { s.cfg with inForce := (panelLive s).cfg.inForce }, chain.stage := 5 } := by
  obtain ⟨hlive, hpanel, hcfg⟩ := panelLive_atStage 5 s
  have hfault : (panelLive (atStage 5 s)).panel.fault = true := by
    rw [hlive, hpanel]
    exact hf
  have hwatched : (panelLive (atStage 5 s)).crackWatched = true := by
    rw [hlive]
    exact hw
  have hfails : (panelLive (atStage 5 s)).panel.crackFails = s.panel.crackFails := by rw [hlive, hpanel]
  refine congrArg Host.Outcome.next ?_
  rw [frameSlot, if_neg (by simp [hdue]), if_pos hf, crackCheck_of_faulted hfault hwatched, hfails, hlive, ← hcfg]

/-- Settles O27, from what a slot does with each region, with the queue and with the clearing update, and from the rails' and the
faults' steps. -/
theorem framesRailsFaultsAndBlink : Obligations.FramesRailsFaultsAndBlink := by
  unfold Obligations.FramesRailsFaultsAndBlink
  refine ⟨?slots, ?clearing, fun s hp => ?rails, fun s h15 hp => ?faults⟩
  case slots =>
    intro s p readOk hrel hen hpll hslot hstage hpfw hshut hfault hbad hwf hpend ho hc hrest hband hsteady hseen a small hwired hw hh
    have h : SlotReady s p :=
      ⟨slotDue_of hrel hen hpll hslot hstage hpfw hshut, hfault, hbad, hwf, hpend, hrest, hband, hsteady, hseen, hwired⟩
    have ha : a = s.live := panelLive_of_seen hseen
    clear_value a
    subst ha
    have hlive := linesPass_iff (t := s.live) (readOk := readOk) hw hh rfl
    refine ⟨fun r hr hb hd hab hq => ⟨?next, ?last, ?bad⟩, ?stay,
      fun r period hr hb hd hab hgo hs hq hm hsf hn => ⟨?due, ?early⟩, ?balanced, ?request⟩
    case next =>
      intro hn hl
      exact slot_of_next_frame h hc hq ho hr hb hd hab hn (hlive.mpr hl)
    case last =>
      intro hn hs
      exact slot_of_last h hc hq hr (by decide) (by decide) hb hd hab hn hs
    case bad =>
      intro hn hbig hl
      obtain ⟨hstay, hdrive, h15⟩ := only_stays hr hb hd hab hn
      exact slot_of_bad_lines h hc hq ho hstay hdrive h15 (not_linesPass hlive hbig hl)
    case stay =>
      intro rs hrs _ hq hdrive hstay hl
      subst hrs
      exact slot_of_staying h hc hq ho hstay hdrive (hlive.mpr hl)
    case due =>
      intro hdue hl
      have hcfg : (mapRect r.req.rect (fun w => pxWord (pxTarget w) (pxRegion w) (pxStaging w) (pxCurrent w))
          (phaseDone 1 r s.live)).cfg.inForce = s.live.cfg.inForce := by
        rw [phaseDone_of_going hgo]
        rfl
      rw [← Region.restarted_of_driving p s.panel.bandRun hd]
      exact slot_of_phase_due h hc hq hr (by decide) (by decide) hb hd hab hgo hn hs ho (quireStarts_of hm hsf) hdue
        ((linesPass_iff hw hh hcfg).mpr hl)
    case early =>
      intro hdue
      exact slot_of_phase_early h hc hq hr (by decide) (by decide) hb hd hab hgo hn hs hdue
    case balanced =>
      intro r n h1 h15 hr hq hb hplay hab
      exact slot_of_balanced h hc hq hr h1 h15 hb hplay hab
    case request =>
      intro q hr hq hm hsf hl
      exact slot_of_request h hr hc hq ho (quireStarts_of hm hsf)
        ((linesPass_iff (t := startRegion q 1 p s.live) hw hh rfl).mpr hl)
  case clearing =>
    intro s p readOk hdue hfault hbad hwf hpend hrest hband hsteady hseen hq hr a hwired m
    have h : SlotReady s p := ⟨hdue, hfault, hbad, hwf, hpend, hrest, hband, hsteady, hseen, hwired⟩
    have ha : a = s.live := panelLive_of_seen hseen
    clear_value a
    subst ha
    refine ⟨fun hc hg ho => slot_of_clearing_start h hr hq hc hg ho, fun hc hg ho => slot_of_clearing_rails h hr hq hc hg ho,
      fun k lv b f n hc hd ho => ⟨fun hn => slot_of_clearing_going h hr hq hc hd ho hn,
        fun hn => slot_of_clearing_last h hr hq hc hd hn⟩⟩
  case rails =>
    obtain ⟨hrise, hfall, hmoved⟩ := railSeqDelay_spec hp
    have hgood (i : Nat) (b : Nat) (good : List Nat) (h : s.panel.rails = .moving b good) (hi : good.contains i = false) :=
      (railPowerGood_spec hp i).2 b good h hi
    exact ⟨fun i => (railPowerGood_spec hp i).1, fun i b good h hi hn ha => (hgood i b good h hn).2 hi ha,
      fun i b good h hn ha => (hgood i b good h hn).1 ha, hrise, hfall, hmoved, fun k h hk => railFallen_spec hp h hk,
      railHold_spec hp, clearingTimeout_spec hp⟩
  case faults =>
    refine ⟨fun hf hw => ⟨fun c hr he ho h3 h5 => exec_panelFault_of_check h15 hp hf hw hr he ho h3 h5,
      fun i h => exec_railFault_of_rising h15 hp hf hw h, fun h => exec_railFault_of_on h15 hp hf hw h⟩, ?watched, ?blink⟩
    case watched =>
      intro crackOk readOk fetchBad hdue hf hw
      exact exec_frameSlot_of_fault hdue hf hw
    case blink =>
      intro n r period p h1 h15 hr hs hw hd hb hslot hsteady hg hf ho hdue
      exact congrArg Host.Outcome.next
        ((onPll_of_locked hp).trans (blinkPhase_of_due hr hs hw hd hb hslot hsteady hg hf ho hdue))

end Sys2Proof.Machine

namespace Sys2Proof.Machine

/-! PROOFS. Commits that fail a check, and the analog inputs that R76 rejects. -/

/-! ## A commit that fails its checks (R349) -/

theorem word_withOutHold_ne (s : State) (img : Image) {sec : Sec} (h : sec ≠ .loop) (i w : Nat) :
    (withOutHold s img).word sec i w = img.word sec i w := by
  rw [Image.word, Image.word, sec_withOutHold_ne s img h]

/-- R349 step 1: the commit itself is refused at the first word that fails, whatever command it serves. -/
theorem commitStart_of_fail {s : State} {img : Image} {l : Locator} (h : commitFail s (withOutHold s img) = some l)
    (busy closed : Bool) (p : PendingCommit) :
    commitStart img busy closed p s = (commitFailed stBadArg l s, s.locReply stBadArg l) := by
  rw [commitStart]
  simp only [h]

/-- R349: a failed edit stays open, also one that another commit has overtaken. -/
theorem cfgCommit_of_fail {s : State} {e : Edit} {l : Locator} (he : s.cfg.edit = some e)
    (h : commitFail s (withOutHold s e.img) = some l) :
    cfgCommit s = (commitFailed stBadArg l s, s.locReply stBadArg l) := by
  simp only [cfgCommit, he, h, Option.isNone_some, Bool.and_false, Bool.false_eq_true, if_false]
  exact commitStart_of_fail h ..

/-- R349: a failed commit keeps its status and its place for `CFG.STATUS`; else it is noted. -/
theorem commitFailed_noted (st : Nat) (l : Locator) (s : State) :
    Noted { s with cfg := { s.cfg with lastStatus := st, loc := l } } (commitFailed st l s) := report_noted ..

theorem commitFailed_raised (st : Nat) (l : Locator) (s : State) : (commitFailed st l s).raised 121 :=
  report_raised _ (by decide)

/-- R344, R349: `CFG.COMMIT` of an edit that fails a check answers the word's place, and changes no configuration. -/
theorem exec_cfgCommit_of_fail {s : State} {m : Msg} {e : Edit} {l : Locator} (h : s.executes 0x0204 m) (hp : m.plain 0)
    (he : s.cfg.edit = some e) (hl : commitFail (bodyState 0x0204 s) (withOutHold (bodyState 0x0204 s) e.img) = some l) :
    ∃ u, exec (.cfgCommit m) s = .next u ∧
      u.mbox.lastResp = some { cmd := 0x0204, tag := m.tag, status := 0x0104, payload := leW s.cfg.slotSeq ++ l.bytes } ∧
      u.cfg = { s.cfg with lastStatus := 0x0104, loc := l } ∧ u.raised 121 ∧
      Noted { s with cfg := u.cfg, mbox := u.mbox } u := by
  have hb : cfgCommit (bodyState 0x0204 s) =
      (commitFailed 0x0104 l (bodyState 0x0204 s), .done 0x0104 (leW s.cfg.slotSeq ++ l.bytes)) := cfgCommit_of_fail he hl
  obtain ⟨ev, b, hf⟩ := commitFailed_noted 0x0104 l (bodyState 0x0204 s)
  obtain ⟨u, hx, hr, -, -, hraised, hu⟩ :=
    answered_of_body (i := .cfgCommit m) (c := { code := 0x0204 }) (body := fun _ => cfgCommit) rfl h hp rfl rfl rfl hb
      (by rw [hf])
  have hc : u.cfg = { s.cfg with lastStatus := 0x0104, loc := l } := by
    rw [hu, hf]
    rfl
  refine ⟨u, hx, hr, hc, hraised 121 (commitFailed_raised ..), u.evt, b, ?_⟩
  rw [hc]
  conv_lhs => rw [hu, hf]
  rfl

/-! ## Analog inputs (R76) -/

/-- R76: the words of analog input i break one of the rule's cases. -/
def Image.BreaksInput (img : Image) (i : Nat) : Prop :=
  let t := img.fld .ain i 0 27 24
  let exc := img.fld .ain i 0 11 2
  6 ≤ t ∨ (t = 2 ∧ img.fld .ain i 0 23 21 ≠ 0) ∨ (exc = 0 ∧ (t = 3 ∨ t = 4 ∨ t = 5)) ∨ (exc ≠ 0 ∧ t = 2) ∨
    (1 ≤ exc ∧ exc ≤ 9) ∨ (t = 4 ∧ (img.word .ain i 1).toInt ≤ 0)

/-- R76: the field that fails stands in the input's word 0, and the nominal resistance of a Pt1000 in its word 1. -/
theorem ainBad_of_breaksInput {img : Image} {i : Nat} (h : img.BreaksInput i) :
    ainBad img i 0 = true ∨ ainBad img i 1 = true := by
  obtain ht | ⟨ht, hg⟩ | ⟨he, ht⟩ | ⟨he, ht⟩ | ⟨h1, h9⟩ | ⟨ht, hr⟩ := h
  · have : 5 < img.fld .ain i 0 27 24 := ht
    exact .inl (by simp [ainBad, this])
  · exact .inl (by simp [ainBad, ht, hg])
  · exact .inl (by rcases ht with ht | ht | ht <;> simp [ainBad, ht, he])
  · exact .inl (by simp [ainBad, ht, he])
  · have hne : img.fld .ain i 0 11 2 ≠ 0 := by omega
    have hlt : img.fld .ain i 0 11 2 < 10 := by omega
    exact .inl (by simp [ainBad, outside, hne, hlt])
  · exact .inr (by simp [ainBad, ht, hr])

theorem wordBad_of_ainBad {s : State} {img : Image} {i w : Nat} (h : ainBad img i w = true) :
    wordBad s img .ain i w = true := Bool.or_eq_true_iff.mpr (.inr h)

/-- R76, R349: an image with such an input fails its commit checks, the output holds in force being no matter of it. -/
theorem commitFail_of_breaksInput (s : State) {img : Image} {i : Nat} (hi : i < 96) (h : img.BreaksInput i) :
    ∃ l, commitFail s (withOutHold s img) = some l := by
  have hbreaks : (withOutHold s img).BreaksInput i := by
    simpa only [Image.BreaksInput, Image.fld, word_withOutHold_ne s img (show Sec.ain ≠ .loop by decide)] using h
  rcases ainBad_of_breaksInput hbreaks with hw | hw
  · exact imgFind_some _ .ain i 0 hi (by decide) (wordBad_of_ainBad hw)
  · exact imgFind_some _ .ain i 1 hi (by decide) (wordBad_of_ainBad hw)

/-- Settles O7: the input's failing word is found by every commit, and by that of `CFG.COMMIT`. -/
theorem inputCommitsRejected : Obligations.InputCommitsRejected := by
  intro s img i hi t exc h
  have hfail (s : State) := commitFail_of_breaksInput s hi (img := img) h
  refine ⟨fun busy closed p => ?_, fun m e hexec hp he hei => ?_⟩
  · obtain ⟨l, hl⟩ := hfail s
    exact ⟨l, commitStart_of_fail hl busy closed p⟩
  · obtain ⟨l, hl⟩ := hfail (bodyState 0x0204 s)
    obtain ⟨u, hu⟩ := exec_cfgCommit_of_fail hexec hp he (by rw [hei]; exact hl)
    exact ⟨u, l, hu⟩

end Sys2Proof.Machine

namespace Sys2Proof.Machine

/-! PROOFS. Sensing rounds: a detector whose event source does not exist (R109, R336). -/

/-! ## A list of more detectors than there are sources for -/

/-- A device whose list of detectors reaches past 207, the last one whose modulator's source, 76 + 207 / 4, is one of the 128:
modulator 12 visits position 208, where the next flagged sample is the detector's 32nd in a row. -/
def manyDetectors : State :=
  { chain := { mc := 1, now := 16 }
    cfg := { inForce := [[], [], [], [], List.replicate 65 2] }
    sens := {
      mods := List.replicate 21 { conv := true, winLen := 2, left := [208] }
      pres := List.replicate 209 { inUse := true, bad := 31 } } }

/-- One sample at full scale, in the 16 reference periods that the window has lasted. -/
def fullScaleWin : Win := { x := [1] }

/-- R90: its code is beyond the largest, so that the result is flagged. -/
theorem deliver_fullScaleWin : (deliver manyDetectors 12 208 [fullScaleWin]).ovr = true := by decide +kernel

/-- The detector runs, is not in FAULT and has had 31 flagged samples in a row. -/
theorem manyDetectors_pres : nth manyDetectors.sens.pres 208 = { inUse := true, bad := 31 } := by decide +kernel

theorem manyDetectors_pres_length : manyDetectors.sens.pres.length = 209 := List.length_replicate

theorem manyDetectors_presUse : manyDetectors.presUse 208 = true := by decide +kernel

/-- R336: there are no sources from 128 on, so that none of them is ever raised. -/
theorem not_raised_of_no_source (s : State) {src : Nat} (h : 128 ≤ src) : ¬ s.raised src := by
  rw [State.raised, BitVec.getLsbD_of_ge _ _ h]
  exact Bool.false_ne_true

/-- Refutes O12: the statement bounds neither the list of detectors nor the position that a presence modulator visits; the 32nd
flagged sample in a row of detector 208 raises source 128, which the event registers do not have. -/
theorem not_sensingRounds : ¬ Obligations.SensingRounds := by
  unfold Obligations.SensingRounds
  rintro ⟨-, hend⟩
  obtain ⟨-, hvisit⟩ := hend manyDetectors 12 fullScaleWin rfl (by decide) (by decide) rfl (fun h => absurd h (by decide))
    (fun _ => ⟨by decide, by decide, by decide⟩)
  obtain ⟨u, -, -, -, -, -, hfull, -⟩ := hvisit rfl
  obtain ⟨-, -, hpres⟩ := hfull ⟨by decide, .inr (by decide)⟩ (.inr manyDetectors_presUse)
  obtain ⟨hflagged, -⟩ := hpres ⟨by decide, by decide⟩ (Nat.lt_of_lt_of_eq (by decide) manyDetectors_pres_length.symm)
    (congrArg Pres.inUse manyDetectors_pres)
  obtain ⟨-, -, -, -, -, hraised⟩ := hflagged (.inl deliver_fullScaleWin)
  have hst : (nth manyDetectors.sens.pres 208).st ≠ .fault := by rw [manyDetectors_pres]; decide
  have hbad : 32 ≤ (nth manyDetectors.sens.pres 208).bad + 1 := by rw [manyDetectors_pres]
  exact not_raised_of_no_source u (by decide) (hraised hst hbad)

end Sys2Proof.Machine

namespace Sys2Proof.Machine

/-! PROOFS. Presence timers, the publication of a result, and the end of a housekeeping round. -/

/-! ## The timers of a detector (R109) -/

section
variable {s : State} {d : Nat} (hp : s.clk.pllLocked = true)
include hp

theorem exec_presenceWarmupEnd {a : Word} (ha : (nth s.sens.pres d).warmMc = some a)
    (h : s.units15 (s.cf .pres d 0 2 0) ≤ s.mcSince a) :
    exec (.presenceWarmupEnd d) s = .next (updPres d (fun p => { p with warming := false }) s) := by
  change execPresenceWarmupEnd d s = _
  unfold execPresenceWarmupEnd
  rw [ha]
  exact congrArg Host.Outcome.next (if_pos (by simp [hp, h]))

theorem exec_presenceHoldExpiry (hst : (nth s.sens.pres d).st = .hold)
    (h : s.units15 (nth s.sens.pres d).holdSet ≤ s.mcSince (nth s.sens.pres d).holdMc) :
    exec (.presenceHoldExpiry d) s = .next (updPres d (fun p => { p with st := .vacant, qual := 0 }) s) :=
  congrArg Host.Outcome.next (if_pos ⟨hp, hst, h⟩)

end

/-! ## The publication of one result (R93, R98) -/

/-- R93: an input's flag is kept; the first flagged result of its round since a valid one raises the modulator's source, and any
other result is not reported. -/
theorem rangeEvent_spec (m k : Nat) (bad first : Bool) (s : State) : ∃ e b, rangeEvent m k bad first s =
      { s with sens := { s.sens with flagged := s.sens.flagged.set (inputIndex m k) bad }, evt := e, bushel := b } ∧
    (first = false ∨ bad = false → e = s.evt ∧ b = s.bushel) ∧
    (first = true → bad = true → s.sens.flagged.getD (inputIndex m k) false = false → modSource m < 128 →
      (rangeEvent m k bad first s).raised (modSource m)) := by
  unfold rangeEvent
  dsimp only
  split
  · next h =>
    simp only [Bool.and_eq_true] at h
    obtain ⟨⟨hb, hf⟩, -⟩ := h
    obtain ⟨e, b, hr⟩ := report_noted (modSource m) 1 3 (if m = hmod then k else inputIndex m k)
      { s with sens := { s.sens with flagged := s.sens.flagged.set (inputIndex m k) bad } }
    exact ⟨e, b, hr, fun h => by simp [hb, hf] at h, fun _ _ _ hm => report_raised _ hm⟩
  · next h =>
    exact ⟨s.evt, s.bushel, rfl, fun _ => ⟨rfl, rfl⟩, fun hf hb hw _ => absurd (by rw [hf, hb, hw]; rfl) h⟩

/-- R98, R99: a record o with the result r published in its place. -/
def Result.after (o r : Result) : Result := { r with seq := (o.seq + 1) % 16, old := o.value, oldMc := o.mcEnd }

/-- R98, R127: a housekeeping slot h with the reading r published. -/
def HkSlot.reading (h : HkSlot) (r : Result) : HkSlot :=
  { h with value := r.value, raw := r.raw, mcEnd := r.mcEnd, ptEnd := r.ptEnd, old := h.value, oldMc := h.mcEnd,
           ovr := r.ovr, unr := r.unr }

/-- R98, R99: the records once the delivery d of modulator m is published. -/
def Sens.published (m : Nat) (d : Delivery) (x : Sens) : Sens :=
  if m = hmod then { x with hk := upd x.hk d.pos (·.reading d.res), hkFresh := x.hkFresh || d.pos == 8 }
  else { x with results := upd x.results (inputIndex m d.pos) (·.after d.res) }

theorem busLast_eq (n : Nat) (w : Word) (s : State) :
    busLast n w s = { s with bus.aiLast := (busLast n w s).bus.aiLast } := by
  unfold busLast
  split <;> rfl

/-- R98, R99, R376: a publication sets the record and the bus's last value; its flag is then noted. -/
theorem publishOne_eq (m : Nat) (d : Delivery) (s : State) : ∃ al, publishOne m d s =
    rangeEvent m d.pos (d.res.ovr || d.res.unr) d.first { s with sens := s.sens.published m d, bus.aiLast := al } := by
  unfold publishOne Sens.published
  dsimp only
  split <;> exact ⟨_, congrArg _ (busLast_eq ..)⟩

/-- R98: a single result that no temperature band waits for. -/
theorem resultPublish_of_single {m : Nat} {d : Delivery} {s : State} (hd : (nth s.sens.mods m).pend = [d])
    (hb : m < 12 → s.pf 3 14 8 ≠ inputIndex m d.pos) :
    resultPublish m s = publishOne m d (updMod m (fun x => { x with pend := [] }) s) := by
  have hno : ¬(m < 12 ∧ ([d].map (fun p => inputIndex m p.pos)).contains (s.pf 3 14 8) = true) := by
    rintro ⟨hm, hc⟩
    exact hb hm (by simpa using hc)
  unfold resultPublish publishAll
  rw [hd]
  exact if_neg hno

/-- R98, R99: a publication of an input changes its record alone, and one of a housekeeping slot that slot alone. -/
theorem Sens.published_spec (m : Nat) (d : Delivery) (x : Sens) : ∃ rs hk fresh,
    x.published m d = { x with results := rs, hk := hk, hkFresh := fresh } ∧
    (m ≠ 20 → inputIndex m d.pos < x.results.length →
      nth rs (inputIndex m d.pos) = (nth x.results (inputIndex m d.pos)).after d.res) ∧
    (∀ j, m = 20 ∨ j ≠ inputIndex m d.pos → nth rs j = nth x.results j) ∧
    (m = 20 → d.pos < x.hk.length → nth hk d.pos = (nth x.hk d.pos).reading d.res) ∧
    (∀ j, m ≠ 20 ∨ j ≠ d.pos → nth hk j = nth x.hk j) ∧ fresh = (x.hkFresh || (m == 20 && d.pos == 8)) := by
  by_cases h : m = 20
  · exact ⟨_, _, _, if_pos h, fun hn => absurd h hn, fun _ _ => rfl, fun _ hl => nth_upd_self _ _ _ hl,
      fun j hj => nth_upd_ne _ _ _ _ (hj.resolve_left (not_not.mpr h)), by rw [h]; rfl⟩
  · exact ⟨_, _, _, if_neg h, fun _ hl => nth_upd_self _ _ _ hl, fun j hj => nth_upd_ne _ _ _ _ (hj.resolve_left h),
      fun h20 => absurd h20 h, fun _ _ => rfl, by rw [beq_false_of_ne h, Bool.false_and, Bool.or_false]⟩

/-! ## The alarm of one slot (R115) -/

/-- R115: a slot's value lies outside its limits. -/
def HkSlot.out (h : HkSlot) (low high : Int) : Bool := decide (h.value.toInt < low) || decide (high < h.value.toInt)

/-- R115: a slot once its value is held against its limits. -/
def HkSlot.judged (h : HkSlot) (low high : Int) : HkSlot :=
  { h with
    outCnt := if h.out low high then min 2 (h.outCnt + 1) else 0
    inCnt := if h.out low high then 0 else min 2 (h.inCnt + 1)
    alarm := if h.out low high then h.alarm || decide (1 ≤ h.outCnt) else h.alarm && decide (h.inCnt = 0) }

theorem hkAlarm_of_invalid {k : Nat} {s : State} (h : validQ (nth s.sens.hk k).value = false) : hkAlarm k s = s :=
  if_pos (by rw [h]; rfl)

theorem hkAlarm_of_valid {k : Nat} {s : State} (hv : validQ (nth s.sens.hk k).value = true) :
    Noted { s with sens := { s.sens with hk := s.sens.hk.set k ((nth s.sens.hk k).judged (s.hkLow k) (s.hkHigh k)) } }
      (hkAlarm k s) := by
  unfold hkAlarm
  rw [if_neg (by rw [hv]; decide)]
  generalize nth s.sens.hk k = h
  generalize s.hkLow k = low
  generalize s.hkHigh k = high
  have put {x : HkSlot} (hx : x = h.judged low high) :
      Noted { s with sens := { s.sens with hk := s.sens.hk.set k (h.judged low high) } }
        { s with sens := { s.sens with hk := s.sens.hk.set k x } } := hx ▸ .refl _
  have hout : (decide (h.value.toInt < low) || decide (high < h.value.toInt)) = h.out low high := rfl
  simp only [hout]
  cases ho : h.out low high <;> simp only [if_true, Bool.false_eq_true, if_false]
  · rw [if_neg (by simp)]
    split
    · next hc =>
      obtain ⟨ha, h2⟩ := hc
      exact (put (by simp [HkSlot.judged, ho]; omega)).trans (report_noted ..)
    · next hc => exact put (by simp [HkSlot.judged, ho]; grind)
  · split
    · next hc =>
      obtain ⟨ha, h2⟩ := hc
      exact (put (by simp [HkSlot.judged, ho]; omega)).trans (report_noted ..)
    · next hc =>
      rw [if_neg (by simp)]
      exact put (by simp [HkSlot.judged, ho]; grind)

/-- R115: once the first n slots are evaluated, those of valid value among them are judged, and every other is as it was. -/
theorem foldl_hkAlarm (s : State) (n : Nat) : ∃ hk,
    Noted { s with sens := { s.sens with hk := hk } } ((List.range n).foldl (fun a i => hkAlarm (i + 1) a) s) ∧
    hk.length = s.sens.hk.length ∧ (∀ k, n < k → nth hk k = nth s.sens.hk k) ∧
    ∀ k, 1 ≤ k → k ≤ n → k < s.sens.hk.length → validQ (nth s.sens.hk k).value = true →
      nth hk k = (nth s.sens.hk k).judged (s.hkLow k) (s.hkHigh k) := by
  induction n with
  | zero => exact ⟨s.sens.hk, .refl s, rfl, fun _ _ => rfl, fun k h1 h0 => by omega⟩
  | succ n ih =>
    obtain ⟨hk, ⟨e, b, ht⟩, hlen, hrest, hdone⟩ := ih
    rw [List.range_succ, List.foldl_append, List.foldl_cons, List.foldl_nil, ht]
    cases hv : validQ (nth s.sens.hk (n + 1)).value
    case false =>
      rw [hkAlarm_of_invalid (by rw [hrest _ (Nat.lt_succ_self n)]; exact hv)]
      refine ⟨hk, ⟨e, b, rfl⟩, hlen, fun k h => hrest k (by omega), fun k h1 hn hl hvk => hdone k h1 ?_ hl hvk⟩
      have : k ≠ n + 1 := by rintro rfl; simp [hv] at hvk
      omega
    case true =>
      have hat := hrest _ (Nat.lt_succ_self n)
      obtain ⟨e', b', h⟩ := hkAlarm_of_valid (k := n + 1)
        (s := { s with sens := { s.sens with hk := hk }, evt := e, bushel := b }) (by rw [hat]; exact hv)
      refine ⟨_, ⟨e', b', h⟩, by rw [List.length_set]; exact hlen, fun k hk => ?_, fun k h1 hn hl hvk => ?_⟩
      · rw [nth_set_ne _ _ _ _ (by omega)]
        exact hrest k (by omega)
      · rcases Nat.lt_or_ge n k with hlt | hle
        · obtain rfl : k = n + 1 := by omega
          rw [nth_set_self _ _ _ (by rw [hlen]; exact hl), hat]
          rfl
        · rw [nth_set_ne _ _ _ _ (by omega)]
          exact hdone k h1 hle hl hvk

/-! ## The other evaluations of a housekeeping round (R138, R225, R423) -/

/-- Apart from the die temperature, Stone, the supplies' monitors, the bypass, the bus's alarms, events raised and records
written, t is s. -/
def Evaluates (s t : State) : Prop := ∃ dt st su bp al,
  Noted { s with sens := { s.sens with dieTemp := dt }, stone := st, sup := su, act.bypass := bp, bus.alarms := al } t

theorem Evaluates.of_noted {s t : State} (h : Noted s t) : Evaluates s t := ⟨_, _, _, _, _, h⟩

theorem Evaluates.trans {s t u : State} (h : Evaluates s t) (g : Evaluates t u) : Evaluates s u := by
  obtain ⟨dt, st, su, bp, al, e, b, rfl⟩ := h
  obtain ⟨dt', st', su', bp', al', e', b', rfl⟩ := g
  exact ⟨dt', st', su', bp', al', e', b', rfl⟩

theorem Evaluates.of_stone (s : State) (st : Stone) : Evaluates s { s with stone := st } := ⟨_, _, _, _, _, .refl _⟩

theorem Evaluates.of_sup (s : State) (su : Supply) : Evaluates s { s with sup := su } := ⟨_, _, _, _, _, .refl _⟩

theorem Evaluates.of_bypass (s : State) (bp : Bool) : Evaluates s { s with act.bypass := bp } := ⟨_, _, _, _, _, .refl _⟩

theorem Evaluates.of_dieTemp (s : State) (dt : Int) : Evaluates s { s with sens.dieTemp := dt } := ⟨_, _, _, _, _, .refl _⟩

theorem alarmsEval_evaluates (s : State) : Evaluates s (alarmsEval s) := by
  obtain ⟨al, h⟩ := alarmsEval_frame s
  rw [h]
  exact ⟨_, _, _, _, _, .refl _⟩

theorem calAlarm_noted (on : Bool) (s : State) : Noted s (calAlarm on s) := by
  unfold calAlarm
  split <;> exact report_noted ..

theorem boostReport_noted (on : Bool) (s : State) : Noted s (boostReport on s) := by
  unfold boostReport
  split <;> exact report_noted ..

theorem refCheck_evaluates (s : State) : Evaluates s (refCheck s) := by
  have alarm (on : Bool) (st : Stone) : Evaluates s (alarmsEval (calAlarm on { s with stone := st })) :=
    ((Evaluates.of_stone s st).trans (.of_noted (calAlarm_noted on _))).trans (alarmsEval_evaluates _)
  unfold refCheck
  extract_lets v p bad st
  split
  · exact .of_noted (.refl s)
  · split
    · exact alarm true _
    · split
      · exact alarm false _
      · exact .of_stone s _

theorem vbatCheck_evaluates (s : State) : Evaluates s (vbatCheck s) := by
  unfold vbatCheck
  extract_lets w v low high su
  split
  · exact .of_noted (.refl s)
  · split
    · exact (Evaluates.of_sup s _).trans (.of_noted (report_noted ..))
    · split
      · exact (Evaluates.of_sup s _).trans (.of_noted (report_noted ..))
      · exact .of_sup s _

theorem bypassEval_evaluates (v : Rat) (s : State) : Evaluates s (bypassEval v s) := by
  unfold bypassEval
  dsimp only
  split
  · exact (Evaluates.of_bypass s true).trans (.of_noted (boostReport_noted ..))
  · split
    · exact (Evaluates.of_bypass s false).trans (.of_noted (boostReport_noted ..))
    · exact .of_noted (.refl s)

theorem vactCheck_evaluates (s : State) : Evaluates s (vactCheck s) := by
  unfold vactCheck
  dsimp only
  split
  · exact bypassEval_evaluates ..
  · exact .of_noted (.refl s)

theorem dieTempEval_evaluates (s : State) : Evaluates s (dieTempEval s) := by
  unfold dieTempEval
  dsimp only
  split
  · exact .of_dieTemp s _
  · split
    · exact .of_noted (.refl s)
    · exact .of_dieTemp s _

theorem runTemp_evaluates (s : State) : Evaluates s (runTemp s) := by
  unfold runTemp
  split
  · exact .of_noted (.refl s)
  · exact .of_stone s _

/-- R115: after the slots' alarms come the checks of the references, the battery and `VACT`, and the die temperature. -/
theorem exec_hkRoundEnd {s : State} (hr : s.released = true) (hp : s.clk.pllLocked = true) (hd : s.sens.hkDone = true) :
    ∃ u, exec .hkRoundEnd s = .next u ∧
      Evaluates ((List.range 12).foldl (fun a i => hkAlarm (i + 1) a) { s with sens.hkDone := false }) u := by
  have hx : exec .hkRoundEnd s = .next (hkRoundEnd s) := congrArg Host.Outcome.next (if_pos hp)
  have hgo : ¬(!s.released || !s.sens.hkDone) = true := by simp [hr, hd]
  exact ⟨_, hx.trans (congrArg Host.Outcome.next (if_neg hgo)),
    ((((refCheck_evaluates _).trans (vbatCheck_evaluates _)).trans (vactCheck_evaluates _)).trans
      (dieTempEval_evaluates _)).trans (runTemp_evaluates _)⟩

/-- Settles O13: the timers, one publication, and the end of a round, each by its own rule. -/
theorem presenceResultsAndAlarms : Obligations.PresenceResultsAndAlarms := by
  refine ⟨fun s d hp => ⟨fun a ha h => exec_presenceWarmupEnd hp ha h, fun hst h => exec_presenceHoldExpiry hp hst h⟩,
    fun s m k r first hp hm hl => ?publish, fun s hr hp hd => ?round⟩
  case publish =>
    intro n hn hpend hband
    obtain ⟨rs, hk, fresh, hpub, hres, hresOther, hslot, hslotOther, hfresh⟩ := Sens.published_spec m
      { pos := k, res := r, first := first } (updMod m (fun x => { x with pend := [] }) s).sens
    obtain ⟨al, hone⟩ := publishOne_eq m { pos := k, res := r, first := first } (updMod m (fun x => { x with pend := [] }) s)
    obtain ⟨e, b, hu, hquiet, hraised⟩ := rangeEvent_spec m k (r.ovr || r.unr) first
      { updMod m (fun x => { x with pend := [] }) s with
        sens := { (updMod m (fun x => { x with pend := [] }) s).sens with results := rs, hk := hk, hkFresh := fresh },
        bus.aiLast := al }
    have hx : exec (.resultPublish m) s = .next (resultPublish m s) := congrArg Host.Outcome.next (if_pos hp)
    rw [resultPublish_of_single hpend hband, hone, hpub, hu] at hx
    rw [hu] at hraised
    refine ⟨_, hx, fun h20 => hres (by omega), hresOther, hslot, hslotOther, hfresh, ?_, fun h => hquiet (h.imp_right ?_),
      fun hf hbad hw => hraised hf (Bool.or_eq_true_iff.mpr hbad) hw (by rw [modSource]; omega), e, b, rfl⟩
    · exact congrArg ModSt.pend (nth_upd_self _ _ _ hl)
    · rintro ⟨ho, hn⟩
      rw [ho, hn]
      rfl
  case round =>
    obtain ⟨u, hx, heval⟩ := exec_hkRoundEnd hr hp hd
    obtain ⟨hk, ⟨e', b', hfold⟩, -, -, hjudged⟩ := foldl_hkAlarm { s with sens.hkDone := false } 12
    rw [hfold] at heval
    obtain ⟨dt, st, su, bp, al, e, b, rfl⟩ := heval
    exact ⟨_, hx, rfl, hjudged, e, b, rfl⟩

end Sys2Proof.Machine

namespace Sys2Proof.Machine

/-! PROOFS. SPI and I²C transactions. -/

/-! ## Bytes on the wire (R311, R315, R317) -/

theorem beVal_cons (b : Byte) (bs : List Byte) : beVal (b :: bs) = beVal bs + 256 ^ bs.length * b.toNat := by
  have unle_snoc (l : List Byte) : unle (l ++ [b]) = unle l + 256 ^ l.length * b.toNat := by
    induction l with
    | nil => simp [unle]
    | cons c l ih => rw [List.cons_append, unle, ih, unle, List.length_cons, Nat.pow_succ]; ring
  rw [beVal, List.reverse_cons, unle_snoc, List.length_reverse]
  rfl

theorem beVal_pair (b1 b0 : Byte) : beVal [b1, b0] = b1.toNat * 256 + b0.toNat := by
  rw [beVal_cons, beVal_cons]
  simp [beVal, unle]
  omega

theorem le16_eq (a : Nat) : le16 a = [BitVec.ofNat 8 a, BitVec.ofNat 8 (a / 256)] := rfl

/-- R316: the half that carries an address is the address. -/
theorem beVal_le16 {a : Nat} (h : a < 65536) : beVal (le16 a).reverse = a := by
  rw [le16_eq]
  exact (beVal_pair _ _).trans (by simp only [BitVec.toNat_ofNat]; omega)

@[simp] theorem wordBE_length (w : Word) : (wordBE w).length = 4 := by rw [wordBE, List.length_reverse]; exact le_length 4 _

theorem flatMap_wordBE_length (ws : List Word) : (ws.flatMap wordBE).length = 4 * ws.length := by
  induction ws with
  | nil => rfl
  | cons w ws ih => rw [List.flatMap_cons, List.length_append, wordBE_length, ih, List.length_cons]; omega

/-- R312: all the words that a write's data bytes hold. -/
theorem spiWords_length {data : List Byte} {n : Nat} (h : 4 * n ≤ data.length) : (spiWords data n).length = n := by
  induction n generalizing data with
  | zero => rfl
  | succ n ih =>
    rw [spiWords, if_neg (by omega), List.length_cons, ih (by rw [List.length_drop]; omega)]

/-! ## Reads of the window (R11, R102, R312) -/

/-- Beside the mailboxes a read changes the errors noted and the live tag. -/
def ReadsWindow (s t : State) : Prop :=
  ∃ h mb, t = { s with host := h, mbox := mb } ∧ h.readStatus = s.host.readStatus

theorem ReadsWindow.refl (s : State) : ReadsWindow s s := ⟨s.host, s.mbox, rfl, rfl⟩

theorem ReadsWindow.trans {s t u : State} (h : ReadsWindow s t) (g : ReadsWindow t u) : ReadsWindow s u := by
  obtain ⟨h, mb, rfl, hr⟩ := h
  obtain ⟨g, mb', rfl, gr⟩ := g
  exact ⟨g, mb', rfl, gr.trans hr⟩

theorem inDataRead_readsWindow (i : Nat) (s : State) : ReadsWindow s (inDataRead i s).2 := by
  unfold inDataRead
  dsimp only
  split <;> exact ⟨_, _, rfl, rfl⟩

theorem outDataRead_readsWindow (j : Nat) (s : State) : ReadsWindow s (outDataRead j s).2 := by
  unfold outDataRead
  dsimp only
  split <;> exact ⟨_, _, rfl, rfl⟩

/-- R11, R323: a read moves the pointer of a data port, and a reserved address notes an error. -/
theorem regRead_readsWindow (a : Nat) (s : State) : ReadsWindow s (regRead a s).2 := by
  unfold regRead
  cases winReg a with
  | inData i => exact inDataRead_readsWindow i s
  | outData j => exact outDataRead_readsWindow j s
  | reserved => exact ⟨_, _, rfl, rfl⟩
  | _ => exact .refl s

theorem clearMismatch_readsWindow (a : Nat) (s : State) : ReadsWindow s (clearMismatch a s) := by
  unfold clearMismatch
  split
  · exact .refl s
  · exact ⟨_, _, rfl, rfl⟩

theorem liveTagRead_readsWindow (a : Nat) (v : Word) (s : State) : ReadsWindow s (liveTagRead a v s) := by
  unfold liveTagRead
  split
  · exact ⟨_, _, rfl, rfl⟩
  · exact ⟨_, _, rfl, rfl⟩
  · exact .refl s

theorem spiReadWord_readsWindow (a : Nat) (s : State) : ReadsWindow s (spiReadWord a s).2 :=
  ((regRead_readsWindow a s).trans (clearMismatch_readsWindow a _)).trans (liveTagRead_readsWindow ..)

theorem spiReadWords_readsWindow (fix : Bool) (a n k : Nat) (s : State) : ReadsWindow s (spiReadWords fix a n k s).2 := by
  induction n generalizing k s with
  | zero => exact .refl s
  | succ n ih => exact (spiReadWord_readsWindow ..).trans (ih ..)

theorem spiReadWords_length (fix : Bool) (a n k : Nat) (s : State) : (spiReadWords fix a n k s).1.length = n := by
  induction n generalizing k s with
  | zero => rfl
  | succ n ih => exact congrArg Nat.succ (ih ..)

/-! ## SPI writes (R311-R315) -/

section
variable {s : State} {mosi : List Byte}

theorem exec_spiWrite_eq (hon : s.spiOn = true) (hw : (getB mosi 0).testBit 7 = false) :
    exec (.spiWriteTransaction mosi) s = .next (spiWrite mosi s) := congrArg _ (if_pos (by rw [hon, hw]; rfl))

theorem exec_spiRead_eq (hon : s.spiOn = true) (hr : (getB mosi 0).testBit 7 = true) :
    exec (.spiReadTransaction mosi) s = .next (spiRead mosi s) := congrArg _ (if_pos (by rw [hon, hr]; rfl))

theorem spiWrite_of_short (h : mosi.length < 3) : spiWrite mosi s = errAbort (spiStatus mosi.length s) := if_pos h

theorem spiRead_of_short (h : mosi.length < 3) : spiRead mosi s = errAbort (spiStatus mosi.length s) := if_pos h

/-- The words of a burst that a write transaction carries. -/
def spiBurst (mosi : List Byte) (s : State) : State :=
  burstWrite ((getB mosi 0).testBit 6) (beVal (slice mosi 1 2)) (spiWords (mosi.drop 3) (getB mosi 0 % 64 + 1)) 0
    (spiStatus mosi.length s)

theorem spiWrite_of_plain (ha : beVal (slice mosi 1 2) % 4 = 0) (hc : s.host.crcEn = false)
    (hl : mosi.length = 3 + 4 * (getB mosi 0 % 64 + 1)) : spiWrite mosi s = spiBurst mosi s := by
  have hwords : (spiWords (mosi.drop 3) (getB mosi 0 % 64 + 1)).length = getB mosi 0 % 64 + 1 :=
    spiWords_length (by rw [List.length_drop]; omega)
  unfold spiWrite
  dsimp only
  rw [if_neg (by omega), if_neg (by omega), if_pos (by rw [hc]; rfl), if_neg (by omega)]
  rfl

theorem spiWrite_of_crc (ha : beVal (slice mosi 1 2) % 4 = 0) (hc : s.host.crcEn = true)
    (hl : mosi.length = 5 + 4 * (getB mosi 0 % 64 + 1)) : spiWrite mosi s =
      if crc16 (mosi.take (3 + 4 * (getB mosi 0 % 64 + 1))) ≠
        beVal (slice (mosi.drop 3) (4 * (getB mosi 0 % 64 + 1)) 2) then errCrc (spiStatus mosi.length s)
      else spiBurst mosi s := by
  have hd : (mosi.drop 3).length = 4 * (getB mosi 0 % 64 + 1) + 2 := by rw [List.length_drop]; omega
  unfold spiWrite
  dsimp only
  rw [if_neg (by omega), if_neg (by omega), if_neg (by rw [hc]; decide), if_neg (by omega)]
  rfl

/-! ## SPI reads (R312-R315) -/

/-- R315: the CRC that follows the words read, where it is enabled. -/
def readCrc (mosi data : List Byte) (s : State) : List Byte :=
  if s.host.crcEn then (le16 (crc16 (mosi.take 3 ++ data))).reverse else []

/-- R312, R315: what a read of words sends, four bytes for a word and two for the CRC. -/
theorem readData_length (mosi : List Byte) (words : List Word) (s : State) :
    (words.flatMap wordBE ++ readCrc mosi (words.flatMap wordBE) s).length =
      4 * words.length + if s.host.crcEn then 2 else 0 := by
  rw [List.length_append, flatMap_wordBE_length, readCrc]
  split
  · rw [List.length_reverse]; exact congrArg _ (le_length 2 _)
  · rfl

/-- R312: a read transaction of full length sends every word and its CRC. -/
theorem spiRead_of_full {words : List Word} (ha : beVal (slice mosi 1 2) % 4 = 0)
    (hl : mosi.length = 4 + (4 * (getB mosi 0 % 64 + 1) + if s.host.crcEn then 2 else 0))
    (hw : words = (spiReadWords ((getB mosi 0).testBit 6) (beVal (slice mosi 1 2)) (getB mosi 0 % 64 + 1) 0
      (spiStatus mosi.length s)).1) :
    (spiRead mosi s).host.readBytes = words.flatMap wordBE ++ readCrc mosi (words.flatMap wordBE) s ∧
      (spiRead mosi s).host.readStatus = BitVec.ofNat 8 s.hwStatus.toNat ∧
      (spiRead mosi s).host.miso = [BitVec.ofNat 8 s.hwStatus.toNat, 0, 0, 0] ++ (spiRead mosi s).host.readBytes ∧
      ∃ h mb, spiRead mosi s = { s with host := h, mbox := mb } := by
  generalize hn : getB mosi 0 % 64 + 1 = n at hl hw
  generalize hfull : 4 * n + (if s.host.crcEn then 2 else 0) = full at hl
  obtain ⟨h, mb, hr, hst⟩ := spiReadWords_readsWindow ((getB mosi 0).testBit 6) (beVal (slice mosi 1 2)) n 0
    (spiStatus mosi.length s)
  have hwl : words.length = n := by rw [hw]; exact spiReadWords_length ..
  have hlen := readData_length mosi words s
  rw [hwl, hfull] at hlen
  have hmin : min n ((mosi.length - 4 + 3) / 4) = n := by omega
  have hout : (words.flatMap wordBE ++ readCrc mosi (words.flatMap wordBE) s).take (mosi.length - 4) =
      words.flatMap wordBE ++ readCrc mosi (words.flatMap wordBE) s := List.take_of_length_le (by omega)
  have hmiso : (spiStatus mosi.length s).host.miso = [BitVec.ofNat 8 s.hwStatus.toNat, 0, 0, 0] :=
    List.take_of_length_le (by change 4 ≤ mosi.length; omega)
  unfold spiRead
  dsimp only
  rw [if_neg (by omega), if_neg (by omega), hn, hfull, hmin, if_neg (by omega), ← hw, hmiso]
  change ((words.flatMap wordBE ++ readCrc mosi (words.flatMap wordBE) s).take (mosi.length - 4) = _ ∧ _)
  rw [hout, hr]
  exact ⟨rfl, hst, rfl, _, _, rfl⟩

end

/-! ## The two halves of a register over I²C (R101, R318, R319) -/

section
variable {a : Nat} (h4 : a % 4 = 0)
include h4

/-- R318: without `FIX` both halves of a word are in place. -/
theorem i2cAligned_of_word : i2cAligned false a = true := by simp [i2cAligned]; omega

/-- R322: both halves of a word touch the same register. -/
theorem halfTouch_high (s : State) : halfTouch (a + 2) s = halfTouch a s := by
  rw [halfTouch, halfTouch, show a + 2 - (a + 2) % 4 = a by omega, show a - a % 4 = a by omega]

theorem halfTouch_of_reserved {s : State} (h : winReg a = .reserved) : halfTouch a s = errUnmapped s := by
  rw [halfTouch, show a - a % 4 = a by omega, if_pos h]

theorem halfTouch_of_register {s : State} (h : winReg a ≠ .reserved) : halfTouch a s = s := by
  rw [halfTouch, show a - a % 4 = a by omega, if_neg h]

/-- R319: a low half is held, and the high half that follows writes both. -/
theorem i2cWriteHalf_pair (lo hi : Nat) (s : State) : i2cWriteHalf (a + 2) hi (i2cWriteHalf a lo s) =
    regWrite a (w32 (65536 * hi + lo)) { s with host := { s.host with i2cHeld := none } } := by
  have hlow : i2cWriteHalf a lo s = { halfTouch a s with host.i2cHeld := some (a, lo) } := if_pos h4
  have hhi : at' hi 16 = 65536 * hi := by rw [at', Nat.shiftLeft_eq, Nat.mul_comm]
  rw [hlow, i2cWriteHalf, if_neg (show (a + 2) % 4 ≠ 0 by omega), halfTouch_high h4]
  by_cases hr : winReg a = .reserved
  · rw [halfTouch_of_reserved h4 hr, halfTouch_of_reserved h4 hr]
    simp only [errUnmapped, Nat.add_sub_cancel, if_true, regWrite, hr]
  · rw [halfTouch_of_register h4 hr, halfTouch_of_register h4 hr]
    simp only [Nat.add_sub_cancel, if_true, hhi]

/-- R11, R322: an access to a half of a reserved word changes nothing of what its register reads. -/
theorem regRead_halfTouch_fst (s : State) : (regRead a (halfTouch a s)).1 = (regRead a s).1 := by
  by_cases hr : winReg a = .reserved
  · simp only [regRead, hr]
  · rw [halfTouch_of_register h4 hr]

omit h4 in
theorem halfTouch_frame (s : State) : ∃ e, halfTouch a s = { s with host.err := e } := by
  unfold halfTouch
  split
  · exact ⟨_, rfl⟩
  · exact ⟨s.host.err, rfl⟩

variable (hport : isPort a = false)
include hport

omit h4 in
theorem i2cPeek_of_not_port (s : State) : i2cPeek a s = regRead a s := by
  unfold isPort at hport
  unfold i2cPeek
  split at hport
  · contradiction
  · contradiction
  · rfl

omit h4 in
/-- R323: a read of a register that is no data port moves no pointer. -/
theorem regRead_frame_of_not_port (s : State) :
    ∃ h, (regRead a s).2 = { s with host := h } := by
  unfold isPort at hport
  unfold regRead
  cases hr : winReg a with
  | inData i => simp [hr] at hport
  | outData j => simp [hr] at hport
  | reserved => exact ⟨_, rfl⟩
  | _ => exact ⟨s.host, rfl⟩

/-- R101: the low half of a register comes with its high half latched. -/
theorem i2cReadHalf_low (s : State) : ∃ h, i2cReadHalf a s = (fld (regRead a s).1 15 0, { s with host := h }) ∧
    h.i2cLatch = some (a, fld (regRead a s).1 31 16) := by
  obtain ⟨e, he⟩ := halfTouch_frame (a := a) s
  obtain ⟨h, hh⟩ := regRead_frame_of_not_port hport (halfTouch a s)
  have hlow : i2cReadHalf a s = (fld (regRead a s).1 15 0, liveTagRead a (regRead a s).1
      { clearMismatch a (regRead a (halfTouch a s)).2 with host.i2cLatch := some (a, fld (regRead a s).1 31 16) }) := by
    rw [← regRead_halfTouch_fst h4 s, i2cReadHalf, if_pos h4, show a - a % 4 = a by omega, i2cPeek_of_not_port hport]
  rw [hlow, hh, he]
  unfold clearMismatch liveTagRead
  split <;> split <;> exact ⟨_, rfl, rfl⟩

/-- R101: the high half is the one latched with the low half. -/
theorem i2cReadHalf_high {s : State} {x : Nat} (hl : s.host.i2cLatch = some (a, x)) :
    ∃ e, i2cReadHalf (a + 2) s = (x, { s with host.err := e }) := by
  obtain ⟨e, he⟩ := halfTouch_frame (a := a) s
  refine ⟨e, ?_⟩
  unfold i2cReadHalf
  rw [if_neg (show (a + 2) % 4 ≠ 0 by omega), halfTouch_high h4, show a + 2 - (a + 2) % 4 = a by omega, he]
  simp only [hl, if_true, hport, Bool.false_eq_true, if_false]

end

/-! ## I²C transactions (R316-R319) -/

section
variable {s : State}

theorem i2cOn_self (hw : s.windowOn = true) (hs : s.host.hsel = true) : s.i2cOn s.i2cAddr = true := by
  simp [State.i2cOn, hw, hs]

theorem exec_i2cWrite_of_on (hw : s.windowOn = true) (hs : s.host.hsel = true) (wire : List Byte) :
    exec (.i2cWrite s.i2cAddr wire) s = .next (i2cWrite wire s) := congrArg _ (if_pos (i2cOn_self hw hs))

theorem exec_i2cRead_of_on (hw : s.windowOn = true) (hs : s.host.hsel = true) (a ctl : Nat) :
    exec (.i2cRead s.i2cAddr a ctl) s = .next (i2cRead (a % 65536) (ctl % 256) s) :=
  congrArg _ (if_pos (i2cOn_self hw hs))

/-- R316: a transaction for another target leaves the device alone. -/
theorem exec_i2cWrite_of_other {target : Nat} (h : target ≠ s.i2cAddr) (wire : List Byte) :
    exec (.i2cWrite target wire) s = .next s := congrArg _ (if_neg (by simp [State.i2cOn, h]))

variable (hc : s.host.crcEn = false)
include hc

/-- R318: a write transaction of fewer data bytes than its control byte announces. -/
theorem i2cWrite_of_short {wire : List Byte} (h : wire.length < 5) : i2cWrite wire s = errProto s := by
  refine if_pos (.inl ?_)
  rw [if_neg (by simp [hc]), List.length_drop]
  omega

/-- R317-R319: a read without CRC sends its halves, each [15:8] first. -/
theorem i2cRead_of_plain {a ctl : Nat} (h : i2cAligned (ctl.testBit 7) a = true) : i2cRead a ctl s =
    { (i2cReadHalves (ctl.testBit 7) a 0 (ctl % 128 + 1) s).2 with host.readBytes :=
        (i2cReadHalves (ctl.testBit 7) a 0 (ctl % 128 + 1) s).1.flatMap (fun h => (le16 h).reverse) } := by
  simp [i2cRead, h, hc]

/-- R317-R319: a write without CRC writes the halves that it carries. -/
theorem i2cWrite_of_plain {wire : List Byte} (hl : (wire.drop 3).length = 2 * (getB wire 2 % 128 + 1))
    (h : i2cAligned ((getB wire 2).testBit 7) (beVal (slice wire 0 2)) = true) : i2cWrite wire s =
    i2cWriteHalves ((getB wire 2).testBit 7) (beVal (slice wire 0 2)) (wire.drop 3) 0 (getB wire 2 % 128 + 1) s := by
  simp [i2cWrite, h, hc, hl]

variable {a : Nat} (h4 : a % 4 = 0) (ha : a < 65536)
include h4 ha


/-- R317-R319: a write transaction of one register. -/
theorem i2cWrite_register (l1 l0 h1 h0 : Byte) : i2cWrite ((le16 a).reverse ++ [1, l1, l0, h1, h0]) s =
    regWrite a (w32 (65536 * (h1.toNat * 256 + h0.toNat) + (l1.toNat * 256 + l0.toNat)))
      { s with host := { s.host with i2cHeld := none } } := by
  have haddr : beVal (slice ((le16 a).reverse ++ [1, l1, l0, h1, h0]) 0 2) = a := beVal_le16 ha
  have halves : i2cWriteHalves false a [l1, l0, h1, h0] 0 2 s =
      i2cWriteHalf ((a + 2) % 65536) (beVal [h1, h0]) (i2cWriteHalf (a % 65536) (beVal [l1, l0]) s) := rfl
  rw [beVal_pair, beVal_pair, Nat.mod_eq_of_lt ha, Nat.mod_eq_of_lt (by omega), i2cWriteHalf_pair h4] at halves
  have hctl : getB ((le16 a).reverse ++ [1, l1, l0, h1, h0]) 2 = 1 := rfl
  rw [← halves, i2cWrite_of_plain hc rfl (by rw [haddr, hctl]; exact i2cAligned_of_word h4), haddr, hctl]
  rfl

/-- R101, R317: a read transaction of one register that is no data port. -/
theorem i2cRead_register (hport : isPort a = false) :
    (i2cRead a 1 s).host.readBytes =
        (le16 (fld (regRead a s).1 15 0)).reverse ++ (le16 (fld (regRead a s).1 31 16)).reverse ∧
      (i2cRead a 1 s).host.i2cLatch = some (a, fld (regRead a s).1 31 16) ∧
      i2cRead a 1 s = { s with host := (i2cRead a 1 s).host } := by
  obtain ⟨h, hlow, hlatch⟩ := i2cReadHalf_low h4 hport s
  obtain ⟨e, hhigh⟩ := i2cReadHalf_high h4 hport (s := { s with host := h }) hlatch
  have halves : i2cReadHalves false a 0 2 s = ([fld (regRead a s).1 15 0, fld (regRead a s).1 31 16],
      { s with host := { h with err := e } }) := by
    have haddr (k : Nat) (hk : k < 2) : halfAddr false a k = a + 2 * k := Nat.mod_eq_of_lt (by omega)
    simp only [i2cReadHalves, haddr 0 (by decide), haddr 1 (by decide), Nat.mul_zero, Nat.add_zero, Nat.mul_one, hlow, hhigh]
  have hread : i2cRead a 1 s = { s with host := { h with err := e, readBytes :=
      (le16 (fld (regRead a s).1 15 0)).reverse ++ (le16 (fld (regRead a s).1 31 16)).reverse } } := by
    have hplain := i2cRead_of_plain (a := a) (ctl := 1) hc (i2cAligned_of_word h4)
    rw [show Nat.testBit 1 7 = false from rfl, show 1 % 128 + 1 = 2 from rfl, halves] at hplain
    exact hplain
  rw [hread]
  exact ⟨rfl, hlatch, rfl⟩

end

/-- Settles O30: a transaction's checks in order, then its register accesses one after the other. -/
theorem hostTransactions : Obligations.HostTransactions := by
  refine ⟨fun s mosi hon => ?spi, fun s a hw hs h4 ha => ?i2c⟩
  case spi =>
    intro c n a data st s0
    refine ⟨fun h hwr => ?_, fun h hrd => ?_, fun h4 =>
      ⟨fun hwr => ⟨fun hc hl => ?_, fun hc hl => ⟨fun hok => ?_, fun hbad => ?_⟩⟩, fun hrd => ?reads⟩⟩
    · rw [exec_spiWrite_eq hon hwr, spiWrite_of_short h]
      rfl
    · rw [exec_spiRead_eq hon hrd, spiRead_of_short h]
      rfl
    · rw [exec_spiWrite_eq hon hwr, spiWrite_of_plain h4 hc hl]
      rfl
    · rw [exec_spiWrite_eq hon hwr, spiWrite_of_crc h4 hc hl, if_neg (not_not.mpr hok)]
      rfl
    · rw [exec_spiWrite_eq hon hwr, spiWrite_of_crc h4 hc hl, if_pos hbad]
      rfl
    case reads =>
      intro words
      refine ⟨fun hc hl => ?_, fun hc hl => ?_⟩
      · obtain ⟨hb, hst, hmiso, h, mb, hframe⟩ := spiRead_of_full (s := s) (words := words) h4 (by rw [hc]; exact hl) rfl
        have hbytes : (spiRead mosi s).host.readBytes = words.flatMap wordBE := by
          rw [hb, readCrc, if_neg (by simp [hc]), List.append_nil]
        refine ⟨_, exec_spiRead_eq hon hrd, hbytes, hst, by rw [hmiso, hbytes], ?_⟩
        rw [hframe]
      · obtain ⟨hb, -, -, h, mb, hframe⟩ := spiRead_of_full (s := s) (words := words) h4
          (by rw [hc, if_pos rfl, hl]; omega) rfl
        refine ⟨_, exec_spiRead_eq hon hrd, by rw [hb, readCrc, if_pos hc], ?_⟩
        rw [hframe]
  case i2c =>
    refine ⟨fun l1 l0 h1 h0 hc => ?_, fun hport hc => ?_, fun target wire ht => exec_i2cWrite_of_other ht wire,
      fun wire hc hl => ?_⟩
    · rw [exec_i2cWrite_of_on hw hs, i2cWrite_register hc h4 ha]
    · have hx := exec_i2cRead_of_on hw hs a 1
      rw [Nat.mod_eq_of_lt ha] at hx
      exact ⟨_, hx, i2cRead_register hc h4 ha hport⟩
    · rw [exec_i2cWrite_of_on hw hs, i2cWrite_of_short hc hl]
      rfl

end Sys2Proof.Machine

namespace Sys2Proof.Machine

/-! PROOFS. The end of a calibration run, and the calibration commands. -/

/-! ## A run ends (R26, R122, R130, R142) -/

/-- R26, R122: that no visit runs any more touches the mode alone. -/
theorem visitsOver_frame (s : State) : ∃ su, visitsOver s = { s with sup := su } := by
  unfold visitsOver leaveQuiet
  split
  · split
    · exact ⟨_, rfl⟩
    · exact ⟨s.sup, rfl⟩
  · exact ⟨s.sup, rfl⟩

theorem clearVisits_frame (s : State) :
    ∃ ms su, clearVisits s = { s with sens := { s.sens with mods := ms }, sup := su } :=
  ⟨_, visitsOver_frame { s with sens.mods := _ }⟩

/-- R130, R142: a run that ends is gone, its result is kept, and source 104 is raised; besides, visits end, and the mode with them. -/
theorem endRun_of_run {r : CalRun} {s : State} (h : s.stone.run = some r) (result status item : Nat) :
    ∃ u, endRun result status item s = u ∧
      u.stone = { s.stone with run := none, lastResult := result, lastStatus := status, failItem := item } ∧
      u.raised 104 ∧ Noted { s with stone := u.stone, sens := { s.sens with mods := u.sens.mods }, sup := u.sup } u := by
  obtain ⟨ms, su, hc⟩ := clearVisits_frame
    { s with stone.run := none, stone.lastResult := result, stone.lastStatus := status, stone.failItem := item }
  have he : endRun result status item s = report 104 4 (if result = 1 then 2 else 3) r.set (clearVisits
      { s with stone.run := none, stone.lastResult := result, stone.lastStatus := status, stone.failItem := item }) := by
    rw [endRun, h]
  refine ⟨_, he, ?_⟩
  rw [hc]
  generalize hu : report 104 4 _ _ _ = u
  obtain ⟨e, b, hn⟩ := report_noted 104 4 (if result = 1 then 2 else 3) r.set { s with
    stone := { s.stone with run := none, lastResult := result, lastStatus := status, failItem := item },
    sens := { s.sens with mods := ms }, sup := su }
  rw [hu] at hn
  refine ⟨by rw [hn], hu ▸ report_raised _ (by decide), ?_⟩
  rw [hn]
  exact ⟨e, b, rfl⟩

/-! ## A complete run (R126-R132, R140) -/

theorem exec_calRunComplete {s : State} (h : s.clk.pllLocked = true) : exec .calRunComplete s = .next (runComplete s) :=
  congrArg Host.Outcome.next (onPll_of_locked h)

section
variable {s : State} {r : CalRun} (hr : s.stone.run = some r) (hd : r.done = true) (hc : s.stone.commit = none)
include hr hd hc

/-- R126: a run whose passes disagree is rejected. -/
theorem runComplete_of_disagreement (h : disagreement r ≠ 0) : runComplete s = endRun 2 stCalDisagree (disagreement r) s := by
  simp [runComplete, hr, hd, hc, h]

variable (h0 : disagreement r = 0)
include h0

/-- R128, R129: a run with an implausible result is rejected. -/
theorem runComplete_of_implausible (h : (runResult s r).2 ≠ 0) :
    runComplete s = endRun 3 stCalImplausible (runResult s r).2 s := by
  simp [runComplete, hr, hd, hc, h0, h]

/-- R132: in host mode an accepted run gives the host set. -/
theorem runComplete_of_host (h : (runResult s r).2 = 0) (hh : s.calHost = true) : runComplete s =
    endRun 1 stOk 0 { s with stone.hostSet := some (runResult s r).1, stone.lastSet := r.set } := by
  simp [runComplete, hr, hd, hc, h0, h, hh]

/-- R140: in NV mode an accepted run is stored. -/
theorem runComplete_of_nv (h : (runResult s r).2 = 0) (hh : s.calHost = false) : runComplete s =
    stoneCommit (s.stone.sets.set r.set (runResult s r).1) (some r.set) s := by
  simp [runComplete, hr, hd, hc, h0, h, hh]

end

/-- Settles O15: each outcome of the checks ends the run, or queues its store. -/
theorem calibrationRunEnds : Obligations.CalibrationRunEnds := by
  intro s r hp hr hd hc
  have hx := exec_calRunComplete hp
  refine ⟨fun hne => ?disagrees, fun h0 h => ?implausible, fun h0 h hh => ?host, fun h0 h hh => ?nv⟩
  case disagrees =>
    obtain ⟨u, hu, hend⟩ := endRun_of_run hr 2 stCalDisagree (disagreement r)
    exact ⟨u, by rw [hx, runComplete_of_disagreement hr hd hc hne, hu], hend⟩
  case implausible =>
    obtain ⟨u, hu, hend⟩ := endRun_of_run hr 3 stCalImplausible (runResult s r).2
    exact ⟨u, by rw [hx, runComplete_of_implausible hr hd hc h0 h, hu], hend⟩
  case host =>
    obtain ⟨u, hu, hend⟩ := endRun_of_run
      (s := { s with stone.hostSet := some (runResult s r).1, stone.lastSet := r.set }) hr 1 stOk 0
    exact ⟨u, by rw [hx, runComplete_of_host hr hd hc h0 h hh, hu], hend⟩
  case nv =>
    rw [runComplete_of_nv hr hd hc h0 h hh] at hx
    exact ⟨_, hx, rfl, rfl, rfl, fun hl => ⟨_, rfl, nth_upd_self _ _ _ hl⟩, rfl⟩

/-! ## The calibration commands (R359) -/

def calRunCmd (m : Msg) (s : State) : State × Reply :=
  if 7 < getB m.payload 0 ∨ !padOk m 1 3 then (s, .st stBadArg)
  else if s.stone.run.isSome ∨ s.test.running ∨ s.stone.commit.isSome then (s, .st stBusy)
  else if s.throttled then (s, .st stThermal)
  else if s.bushel.closed && !s.calHost then (calAlarm true s, .st stNvFail)
  else (startRun (getB m.payload 0) s, .st stPending)

theorem exec_calRun (m : Msg) (s : State) :
    exec (.calRun m) s = .next (command { code := 0x1101, len := fun n => n == 4 } m calRunCmd s) := rfl

theorem exec_calAbort (m : Msg) (s : State) :
    exec (.calAbort m) s = .next (command { code := 0x1102 } m (fun _ s => (abortRun 5 stOk s, .st stOk)) s) := rfl

def calDeleteCmd (m : Msg) (s : State) : State × Reply :=
  if 7 < getB m.payload 0 ∨ !padOk m 1 3 then (s, .st stBadArg)
  else if s.calHost then (s, .st stLocked)
  else if s.stone.run.isSome then (s, .st stBusy)
  else if s.thermalBars then (s, .st stThermal)
  else if s.bushel.closed then (calAlarm true s, .st stNvFail)
  else (stoneCommit (s.stone.sets.set (getB m.payload 0) {}) none s, .wait)

theorem exec_calDelete (m : Msg) (s : State) :
    exec (.calDelete m) s = .next (command { code := 0x1103, len := fun n => n == 4 } m calDeleteCmd s) := rfl

def calWriteCoefCmd (m : Msg) (s : State) : State × Reply :=
  if !calRecordOk m.payload then (s, .st stBadArg)
  else if !s.calHost then (s, .st stLocked)
  else if s.stone.run.isSome then (s, .st stBusy)
  else
    let c := CalSet.ofBytes m.payload
    if coefPlausible c then ({ s with stone.hostSet := some c }, .st stOk) else (s, .st stCalImplausible)

theorem exec_calWriteCoef (m : Msg) (s : State) :
    exec (.calWriteCoef m) s = .next (command { code := 0x1105, len := fun n => n == 768 } m calWriteCoefCmd s) := rfl

section
variable {m : Msg} {s : State}

section
variable (hset : getB m.payload 0 < 8) (hpad : padOk m 1 3 = true)
include hset hpad

theorem calRunCmd_of_busy (hr : s.stone.run ≠ none) : calRunCmd m s = (s, .st stBusy) := by
  have hr' : s.stone.run.isSome = true := Option.isSome_iff_ne_none.mpr hr
  rw [calRunCmd, if_neg (by simp [hpad]; omega), if_pos (.inl hr')]

/-- R342: what `CAL.RUN` does on a set in a state that lets a run start, but for the NVM. -/
theorem calRunCmd_of_idle (hr : s.stone.run = none) (ht : s.test.running = false) (hc : s.stone.commit = none)
    (hth : s.throttled = false) : calRunCmd m s =
      if s.bushel.closed && !s.calHost then (calAlarm true s, .st stNvFail)
      else (startRun (getB m.payload 0) s, .st stPending) := by
  rw [calRunCmd, if_neg (by simp [hpad]; omega), if_neg (by simp [hr, ht, hc]), if_neg (by simp [hth])]

/-- R140: what `CAL.DELETE` does on a set in NV mode, without a run, but for the NVM. -/
theorem calDeleteCmd_of_idle (hh : s.calHost = false) (hr : s.stone.run = none) (hth : s.thermalBars = false) :
    calDeleteCmd m s = if s.bushel.closed then (calAlarm true s, .st stNvFail)
      else (stoneCommit (s.stone.sets.set (getB m.payload 0) {}) none s, .wait) := by
  rw [calDeleteCmd, if_neg (by simp [hpad]; omega), if_neg (by simp [hh]), if_neg (by simp [hr]), if_neg (by simp [hth])]

end

/-- R142: a command whose body fails for the NVM raises source 105 and changes nothing else beside the mailboxes. -/
theorem nvFails_of_body {i : Instr} {c : CmdSpec} {n : Nat} {body : Msg → State → State × Reply}
    (hi : exec i s = .next (command c m body s)) (h : s.executes c.code m) (hp : m.plain n) (hn : c.len n = true)
    (hf : c.fits m.payload = true) (hs : (c.signedBars && s.mgt.otp.signedCfg) = false)
    (hb : body m (bodyState c.code s) = (calAlarm true (bodyState c.code s), .st stNvFail)) :
    ∃ t, exec i s = .next t ∧ t.raised 105 ∧
      t.mbox.lastResp = some { cmd := c.code, tag := m.tag, status := 0x0401, payload := [] } ∧
      Noted { s with mbox := t.mbox } t := by
  have hraised : (calAlarm true (bodyState c.code s)).raised 105 := report_raised _ (by decide)
  obtain ⟨e, b, ha⟩ := calAlarm_noted true (bodyState c.code s)
  obtain ⟨u, hx, hl, -, -, hk, hu⟩ := answered_of_body hi h hp hn hf hs hb (by rw [ha])
  refine ⟨u, hx, hk 105 hraised, hl, ?_⟩
  rw [hu, ha]
  exact ⟨_, b, rfl⟩

end

/-- Settles O16: each command's body, on the arguments and in the state that the clause names. -/
theorem calibrationCommands : Obligations.CalibrationCommands := by
  intro s m
  refine ⟨fun h hp hset hpad hr ht hc hth hcl => ?run, fun h hp hset hpad hr => ?busy,
    fun h hp hset hpad hr ht hc hth hcl hh => ?runNvFail, fun h hp hset hpad hh hr hth hcl => ?deleteNvFail,
    fun h hp hr hc => ?abortNone, fun r h hp hr hc => ?abort, fun h hp hset hpad hh hr hth hcl => ?delete,
    fun h hp => ?readCoef, fun h hp hok hh hr hpl => ?writeCoef, fun h hp => ?status⟩
  case run =>
    have hopen : ¬(s.bushel.closed && !s.calHost) = true := by
      rcases hcl with h | h <;> simp [h]
    have hb := (calRunCmd_of_idle (s := bodyState 0x1101 s) hset hpad hr ht hc hth).trans (if_neg hopen)
    exact ⟨_, _, rfl, rfl, rfl, rfl, rfl, answers_of_effect (exec_calRun m s) h hp rfl rfl rfl hb ⟨s.evt, rfl⟩⟩
  case busy =>
    exact answers_of_body (exec_calRun m s) h hp rfl rfl rfl (calRunCmd_of_busy (s := bodyState 0x1101 s) hset hpad hr)
  case runNvFail =>
    have hshut : (s.bushel.closed && !s.calHost) = true := by rw [hcl, hh]; rfl
    exact nvFails_of_body (exec_calRun m s) h hp rfl rfl rfl
      ((calRunCmd_of_idle (s := bodyState 0x1101 s) hset hpad hr ht hc hth).trans (if_pos hshut))
  case deleteNvFail =>
    exact nvFails_of_body (exec_calDelete m s) h hp rfl rfl rfl
      ((calDeleteCmd_of_idle (s := bodyState 0x1103 s) hset hpad hh hr hth).trans (if_pos hcl))
  case abortNone =>
    exact answers_of_body (exec_calAbort m s) h hp rfl rfl rfl
      (congrArg (·, Reply.st stOk) (abortRun_of_none (s := bodyState 0x1102 s) hr))
  case abort =>
    obtain ⟨u, hu, hstone, hraised, e, b, hn⟩ := endRun_of_run (s := bodyState 0x1102 s) hr 5 stOk 0
    have hb : abortRun 5 stOk (bodyState 0x1102 s) = u := (if_neg (by simp [bodyState, dropObject, hc])).trans hu
    obtain ⟨t, hx, hl, -, -, hk, ht⟩ := answered_of_body (exec_calAbort m s) h hp rfl rfl rfl
      (congrArg (·, Reply.st stOk) hb) (by rw [hn])
    have hts : t.stone = u.stone := by rw [ht]
    refine ⟨t, hx, hl, hts.trans hstone, hk 104 hraised, ?_⟩
    rw [ht, hn]
    exact ⟨_, b, rfl⟩
  case delete =>
    have hopen : ¬s.bushel.closed = true := by simp [hcl]
    obtain ⟨b, hx⟩ := waits_of_body (exec_calDelete m s) h hp rfl rfl rfl
      ((calDeleteCmd_of_idle (s := bodyState 0x1103 s) hset hpad hh hr hth).trans (if_neg hopen))
    exact ⟨_, _, hx, rfl, ⟨b, rfl⟩, rfl, rfl, rfl⟩
  case readCoef => exact answers_of_report (c := { code := 0x1104 }) rfl h hp rfl rfl rfl rfl
  case writeCoef =>
    have hb : calWriteCoefCmd m (bodyState 0x1105 s) =
        ({ bodyState 0x1105 s with stone.hostSet := some (CalSet.ofBytes m.payload) }, .st stOk) := by
      have hh' : (bodyState 0x1105 s).calHost = true := hh
      have hr' : (bodyState 0x1105 s).stone.run = none := hr
      simp [calWriteCoefCmd, hok, hh', hr', hpl]
    exact answers_of_effect (exec_calWriteCoef m s) h hp rfl rfl rfl hb ⟨s.evt, rfl⟩
  case status => exact answers_of_report (c := { code := 0x1106 }) rfl h hp rfl rfl rfl rfl

end Sys2Proof.Machine

namespace Sys2Proof.Machine

/-! PROOFS. The steps of a calibration run: releases, visits, channels, reference pulses and the ends of its passes. -/

/-! ## Values of a pass (R119, R127) -/

/-- A run with values recorded in the pass in progress. -/
def CalRun.record (r : CalRun) (l : List (CalKey × Rat)) : CalRun :=
  if r.pass = 1 then { r with vals1 := r.vals1 ++ l } else { r with vals2 := r.vals2 ++ l }

theorem CalRun.record_of_first {r : CalRun} (h : r.pass = 1) (l : List (CalKey × Rat)) :
    r.record l = { r with vals1 := r.vals1 ++ l } := if_pos h

theorem CalRun.record_of_second {r : CalRun} (h : r.pass ≠ 1) (l : List (CalKey × Rat)) :
    r.record l = { r with vals2 := r.vals2 ++ l } := if_neg h

theorem CalRun.record_append (r : CalRun) (l k : List (CalKey × Rat)) : (r.record l).record k = r.record (l ++ k) := by
  by_cases h : r.pass = 1
  · simp [record, h]
  · simp [record, h]

theorem addVal_eq {r : CalRun} {s : State} (h : s.stone.run = some r) (k : CalKey) (v : Rat) :
    addVal k v s = { s with stone.run := some (r.record [(k, v)]) } := by
  unfold addVal updRun
  rw [h]
  rfl

theorem addVal_addVal {r : CalRun} {s : State} (h : s.stone.run = some r) (k k' : CalKey) (v v' : Rat) :
    addVal k' v' (addVal k v s) = { s with stone.run := some (r.record [(k, v), (k', v')]) } := by
  rw [addVal_eq h, addVal_eq rfl, CalRun.record_append]
  rfl

/-- R116, R119: what the end of a visit records. -/
def visitVals (s : State) (m : Nat) (i : CalInput) (codes : List Int) : List (CalKey × Rat) :=
  (.visit m i, meanCode codes) ::
    match i with
    | .dvbe k => [(.die k, ((nth s.sens.hk (2 * k)).raw : Rat))]
    | .calHi | .calLo => if codes.any (fun c => c == 8388607 || c == -8388608) then [(.flag m, 1)] else []
    | _ => []

theorem recordVisit_eq {r : CalRun} {s : State} (h : s.stone.run = some r) (m : Nat) (i : CalInput) (codes : List Int) :
    recordVisit m i codes s = { s with stone.run := some (r.record (visitVals s m i codes)) } := by
  have hflag : (if codes.any (fun c => c == 8388607 || c == -8388608) then
        addVal (.flag m) 1 (addVal (.visit m i) (meanCode codes) s) else addVal (.visit m i) (meanCode codes) s) =
      { s with stone.run := some (r.record ((.visit m i, meanCode codes) ::
        if codes.any (fun c => c == 8388607 || c == -8388608) then [(.flag m, 1)] else [])) } := by
    split
    · exact addVal_addVal h ..
    · exact addVal_eq h ..
  cases i with
  | dvbe k => exact addVal_addVal h ..
  | calHi => exact hflag
  | calLo => exact hflag
  | short g => exact addVal_eq h ..
  | divider g => exact addVal_eq h ..
  | bandgap => exact addVal_eq h ..

/-! ## The release of a step (R120, R121, R123) -/

/-- R121: a modulator with visits to run. -/
def ModSt.withTodo (v : List CalInput) (x : ModSt) : ModSt := { x with stone := { x.stone with todo := v } }

/-- R121: modulators are given visits. -/
def giveVisits (l : List (Nat × List CalInput)) (s : State) : State :=
  l.foldl (fun a mv => updMod mv.1 (ModSt.withTodo mv.2) a) s

theorem giveVisits_frame (l : List (Nat × List CalInput)) (s : State) :
    ∃ ms, giveVisits l s = { s with sens := { s.sens with mods := ms } } := by
  refine List.foldlRecOn (motive := fun t : State => ∃ ms, t = { s with sens := { s.sens with mods := ms } }) _ _
    ⟨s.sens.mods, rfl⟩ fun t ht mv _ => ?_
  obtain ⟨ms, rfl⟩ := ht
  exact ⟨_, rfl⟩

/-- A modulator that a list gives visits to, and always the same, has them. -/
theorem giveVisits_todo {m : Nat} {v : List CalInput} {l : List (Nat × List CalInput)} {s : State}
    (hm : m < s.sens.mods.length) (hv : ∀ p ∈ l, p.1 = m → p.2 = v)
    (h : (nth s.sens.mods m).stone.todo = v ∨ ∃ p ∈ l, p.1 = m) :
    (nth (giveVisits l s).sens.mods m).stone.todo = v := by
  induction l generalizing s with
  | nil => exact h.resolve_right (by simp)
  | cons p l ih =>
    refine ih (by simpa [updMod] using hm) (fun q hq => hv q (.tail _ hq)) ?_
    by_cases hp : p.1 = m
    · subst hp
      left
      exact (congrArg (fun x : ModSt => x.stone.todo) (nth_upd_self _ _ (ModSt.withTodo p.2) hm)).trans (hv p (.head _) rfl)
    · refine h.imp (fun h => ?_) fun ⟨q, hq, hqm⟩ => ⟨q, ?_, hqm⟩
      · exact (congrArg (fun x : ModSt => x.stone.todo) (nth_upd_ne _ _ _ _ (Ne.symm hp))).trans h
      · rcases List.mem_cons.mp hq with rfl | hq
        · exact absurd hqm hp
        · exact hq

theorem stepVisits_group {k : Nat} (s : State) (h2 : 2 ≤ k) (h10 : k < 10) : stepVisits s (k + 1) =
    ((List.range 20).filter (fun m => s.modEn m && (decide (m < 12) || decide (k - 2 ≤ 4)))).map
      (fun m => (m, [CalInput.short (k - 2), CalInput.divider (k - 2)])) := by
  have hg : k + 1 - 3 = k - 2 := by omega
  rw [stepVisits, if_neg (by omega), if_neg (by omega), if_pos (by omega), hg]

theorem stepVisits_current {k : Nat} {s : State} (h10 : 10 ≤ k) (h22 : k < 22) (he : s.modEn (k - 10) = true) :
    stepVisits s (k + 1) = [(k - 10, [.calHi, .calLo])] := by
  have hg : k + 1 - 11 = k - 10 := by omega
  rw [stepVisits, if_neg (by omega), if_neg (by omega), if_neg (by omega), if_pos (by omega), hg]
  exact if_pos he

/-- R87, R119: a modulator at the start of a visit. -/
def State.openVisit (s : State) (m : Nat) (i : CalInput) (rest : List CalInput) (x : ModSt) : ModSt :=
  { (if s.converts m then x else freeNow s x) with
    done := 0, wins := [], single := none, exc := none, left := [],
    stone := { todo := rest, cur := some i, codes := [], owed := x.stone.owed } }

/-- R119, R121: a modulator at the end of a visit. -/
def ModSt.closeVisit (x : ModSt) : ModSt :=
  { x with done := 0, wins := [], conv := false, stone := { todo := x.stone.todo, owed := x.stone.todo.isEmpty } }

section
variable {s : State} {r : CalRun} (hrel : s.released = true) (hr : s.stone.run = some r)
include hrel hr

section
variable (hd : r.done = false) (he : s.stepEnded = true)
include hd he

/-- R121: the next step of the pass gives its visits. -/
theorem stepRelease_of_next (hs : r.step < 22) (hn : r.step ≠ 10 ∨ r.actsDone = true) : stepRelease s =
    updRun (fun x => { x with step := x.step + 1, active := true, e0Mc := none }) (giveVisits (stepVisits s (r.step + 1)) s) := by
  have hno : ¬(r.step = 10 ∧ (!r.actsDone) = true) := by
    rintro ⟨h10, ha⟩
    rcases hn with hn | hn
    · exact hn h10
    · simp [hn] at ha
  have hgo : ¬(r.done || !s.stepEnded || decide (22 ≤ r.step) || !s.released) = true := by
    simp [hd, he, hrel]
    omega
  unfold stepRelease
  rw [hr]
  exact (if_neg hgo).trans (if_neg hno)

/-- R123: E0 is due, and waits for the channels not yet measured. -/
theorem stepRelease_of_waiting (hs : r.step = 10) (ha : r.actsDone = false) (h0 : r.e0Mc = none) :
    stepRelease s = { s with stone.run := some { r with e0Mc := some s.chain.mc, active := false } } := by
  have hgo : ¬(r.done || !s.stepEnded || decide (22 ≤ r.step) || !s.released) = true := by
    simp [hd, he, hrel, hs]
  have hu : updRun (fun x => { x with e0Mc := some s.chain.mc, active := false }) s =
      { s with stone.run := some { r with e0Mc := some s.chain.mc, active := false } } := by
    rw [updRun, hr]
    rfl
  unfold stepRelease
  rw [hr]
  exact (if_neg hgo).trans ((if_pos ⟨hs, by rw [ha]; rfl⟩).trans ((if_neg (by simp [h0])).trans hu))

/-- R120, R121: a step counts on, its visits are given by modulator, and nothing else changes. -/
theorem stepRelease_spec (hs : r.step < 22) (hn : r.step ≠ 10 ∨ r.actsDone = true) : ∃ ms,
    stepRelease s = { s with
      sens := { s.sens with mods := ms },
      stone := { s.stone with run := some { r with step := r.step + 1, active := true, e0Mc := none } } } ∧
    ∀ m v, m < s.sens.mods.length → (∃ p ∈ stepVisits s (r.step + 1), p.1 = m) →
      (∀ p ∈ stepVisits s (r.step + 1), p.1 = m → p.2 = v) → (nth ms m).stone.todo = v := by
  obtain ⟨ms, hms⟩ := giveVisits_frame (stepVisits s (r.step + 1)) s
  refine ⟨ms, ?_, fun m v hm hp hv => ?_⟩
  · rw [stepRelease_of_next hrel hr hd he hs hn, hms]
    unfold updRun
    rw [hr]
    rfl
  · have h := giveVisits_todo hm hv (.inr hp)
    rwa [hms] at h

end

/-! ## Visits (R26, R119, R121, R122) -/

/-- R119, R122: a modulator at its round boundary takes its next visit, and Stone takes Run to Quiet. -/
theorem visitStart_spec {m : Nat} {i : CalInput} {rest : List CalInput} (hl : s.sens.mods.length = 21) (hm : m < 21)
    (hen : s.modEn m = true)
    (htodo : (nth s.sens.mods m).stone.todo = i :: rest) (hin : (nth s.sens.mods m).inRound = false)
    (hconv : (nth s.sens.mods m).conv = false) (hcur : (nth s.sens.mods m).stone.cur = none) : ∃ ms su,
    visitStart m s = { s with sens := { s.sens with mods := ms }, sup := su } ∧
    (nth ms m).stone = { todo := rest, cur := some i, codes := [], owed := (nth s.sens.mods m).stone.owed } ∧
    (∀ j, j ≠ m → nth ms j = nth s.sens.mods j) ∧
    su = if s.sup.mode = .run then
        { s.sup with mode := .quiet, quietMc := s.chain.mc, quietByStone := true, quietByHost := false }
      else s.sup := by
  have hgo : ¬(!s.released || (nth s.sens.mods m).inRound || (nth s.sens.mods m).conv ||
      (nth s.sens.mods m).stone.cur.isSome || decide (21 ≤ m) || !s.modEn m) = true := by
    simp [hrel, hin, hconv, hcur, hen]
    omega
  have hv : visitStart m s =
      if s.sup.mode = .run then enterQuiet true (updMod m (s.openVisit m i rest) s) else updMod m (s.openVisit m i rest) s := by
    unfold visitStart
    simp only [hr, htodo]
    exact if_neg hgo
  have hself : nth (upd s.sens.mods m (s.openVisit m i rest)) m = s.openVisit m i rest (nth s.sens.mods m) :=
    nth_upd_self _ _ _ (hl ▸ hm)
  rw [hv]
  by_cases hq : s.sup.mode = .run
  · exact ⟨_, _, if_pos hq, congrArg ModSt.stone hself, fun j hj => nth_upd_ne _ _ _ _ hj, (if_pos hq).symm⟩
  · exact ⟨_, s.sup, if_neg hq, congrArg ModSt.stone hself, fun j hj => nth_upd_ne _ _ _ _ hj, (if_neg hq).symm⟩

omit hrel in
/-- R119: a visit of 8 results ends, and its values are recorded. -/
theorem visitEnd_spec {m : Nat} {i : CalInput} (hm : m < s.sens.mods.length)
    (hcur : (nth s.sens.mods m).stone.cur = some i) (h8 : 8 ≤ (nth s.sens.mods m).stone.codes.length) : ∃ ms su,
    visitEnd m s = { s with
      sens := { s.sens with mods := ms }, sup := su,
      stone := { s.stone with run := some (r.record (visitVals s m i (nth s.sens.mods m).stone.codes)) } } ∧
    (nth ms m).stone.cur = none ∧ (nth ms m).stone.owed = (nth s.sens.mods m).stone.todo.isEmpty ∧
    ∀ j, j ≠ m → nth ms j = nth s.sens.mods j := by
  obtain ⟨su, hsu⟩ := visitsOver_frame (updMod m ModSt.closeVisit
    { s with stone.run := some (r.record (visitVals s m i (nth s.sens.mods m).stone.codes)) })
  have hv : visitEnd m s = visitsOver (updMod m ModSt.closeVisit
      { s with stone.run := some (r.record (visitVals s m i (nth s.sens.mods m).stone.codes)) }) := by
    unfold visitEnd
    simp only [hcur]
    rw [if_neg (by omega), if_pos (by rw [hr]; rfl), recordVisit_eq hr]
    rfl
  have hself := nth_upd_self s.sens.mods m ModSt.closeVisit hm
  exact ⟨_, su, hv.trans hsu, congrArg (fun x : ModSt => x.stone.cur) hself,
    congrArg (fun x : ModSt => x.stone.owed) hself, fun j hj => nth_upd_ne _ _ _ _ hj⟩

end

/-! ## Channels, reference pulses and passes (R120, R123, R124) -/

/-- R124: a count with one more pulse, which comes after an interval unless it is the first. -/
def CalRun.counted (r : CalRun) (a b : Nat) : CalRun :=
  { r with pulses := r.pulses + 1, cnt24 := if r.pulses == 0 then 0 else r.cnt24 + a,
           cnt32 := if r.pulses == 0 then 0 else r.cnt32 + b }

/-- R124: a run after one more pulse: the one that ends the 16th interval records the count. -/
def CalRun.pulse (r : CalRun) (a b : Nat) : CalRun :=
  if r.pulses = 16 then
    (r.counted a b).record [(.x24, (((r.counted a b).cnt24 : Nat) : Rat)), (.x32, (((r.counted a b).cnt32 : Nat) : Rat))]
  else r.counted a b

section
variable {s : State} {r : CalRun} (hp : s.clk.pllLocked = true) (hr : s.stone.run = some r)
include hp hr

theorem exec_actSenseMeasure_of_calm {n : Nat} (q : Rat) (hn : n < 32) (hd : r.done = false) (h1 : 1 ≤ r.step)
    (h10 : r.step ≤ 10) (hskip : r.skip.contains n = false)
    (hval : (if r.pass = 1 then r.vals1 else r.vals2).any (fun v => v.1 == .act n) = false) (hoff : (s.ach n).ph = .off)
    (hpull : s.pullPending n = false) (hoffMc : 2 ≤ s.mcSince (s.ach n).offMc) (hpullMc : 2 ≤ s.mcSince (s.ach n).pullMc) :
    exec (.actSenseMeasure n q) s = .next { s with stone.run := some (r.record [(.act n, q)]) } := by
  have hgo : actSense n q s = addVal (.act n) q s := by
    unfold actSense
    rw [hr]
    refine if_neg ?_
    simp only [hd, hskip, hval, hoff, hpull, hoffMc, hpullMc, h1, h10, Nat.not_le.mpr hn]
    decide
  exact congrArg Host.Outcome.next ((onPll_of_locked hp).trans (hgo.trans (addVal_eq hr ..)))

theorem exec_actSenseSkip_of_late {n : Nat} {a : Word} (hn : n < 32) (h0 : r.e0Mc = some a) (ha : 256 ≤ s.mcSince a)
    (hskip : r.skip.contains n = false)
    (hval : (if r.pass = 1 then r.vals1 else r.vals2).any (fun v => v.1 == .act n) = false) :
    exec (.actSenseSkip n) s = .next { s with stone.run := some { r with skip := r.skip ++ [n] } } := by
  refine congrArg Host.Outcome.next ((onPll_of_locked hp).trans ?_)
  rw [hr]
  dsimp only
  rw [h0]
  exact if_pos ⟨hn, ha, by rw [hval]; rfl, by rw [hskip]; rfl⟩

/-- R124: a pulse of a count in progress: the first opens the count, and the 17th, which closes it, records it. -/
theorem exec_xtalRefPulse_of_counting (a b : Nat) (hd : r.done = false) (hk : r.keepXtal = false) (h17 : r.pulses < 17) :
    exec (.xtalRefPulse a b) s = .next { s with stone.run := some (r.pulse a b) } := by
  refine congrArg Host.Outcome.next ((onPll_of_locked hp).trans ?_)
  have hgo : ¬(r.done || r.xtalDone) = true := by
    simp [hd, CalRun.xtalDone, hk]
    omega
  simp only [hr]
  rw [if_neg hgo, CalRun.pulse]
  by_cases h16 : r.pulses = 16
  · rw [if_pos h16, if_pos (by rw [h16])]
    exact addVal_addVal (s := { s with stone.run := some (r.counted a b) }) rfl ..
  · rw [if_neg h16, if_neg (by omega)]
    rfl

theorem exec_xtalRefTimeout_of_late (hd : r.done = false) (hk : r.keepXtal = false) (h0 : r.pulses = 0)
    (h2 : s.secMc 2 ≤ s.mcSince r.passMc) :
    exec .xtalRefTimeout s = .next { s with stone.run := some { r with keepXtal := true } } := by
  refine congrArg Host.Outcome.next ((onPll_of_locked hp).trans ?_)
  rw [hr]
  exact if_pos (by simp [hd, hk, h0, h2])

omit hp in
/-- R120, R124: a pass whose steps and count have ended. -/
theorem passEnd_of_ended (hd : r.done = false) (hs : r.step = 22) (he : s.stepEnded = true) (hx : r.xtalDone = true) :
    (r.pass ≠ 1 → passEnd s = { s with stone.run := some { r with done := true } }) ∧
    (r.pass = 1 → ∃ g k, passEnd s = { s with
      cfg := { s.cfg with inForce := g },
      stone := { s.stone with run := some { r with pass := 2, step := 0, active := false, e0Mc := none, pulses := 0,
                                                   cnt24 := 0, cnt32 := 0, passMc := s.chain.mc, keepXtal := k } } }) := by
  have hgo : ¬(r.done || decide (r.step ≠ 22) || !s.stepEnded || !r.xtalDone) = true := by simp [hd, hs, he, hx]
  unfold passEnd
  rw [hr]
  exact ⟨fun h => (if_neg hgo).trans (if_neg h), fun h => ⟨_, _, (if_neg hgo).trans (if_pos h)⟩⟩

end

/-- R26: Quiet ends 256 MC after it was entered. -/
theorem exec_quietTimeout_of_late {s : State} (hq : s.sup.mode = .quiet) (h : 256 ≤ s.mcSince s.sup.quietMc) :
    exec .quietTimeout s = .next { s with sup := { s.sup with mode := .run, quietByStone := false, quietByHost := false } } :=
  congrArg Host.Outcome.next ((if_pos ⟨hq, h⟩).trans (if_pos hq))

/-- Settles O14: the releases and visits of a step, and the channels, counts and passes of a run, each by its own rule. -/
theorem calibrationSteps : Obligations.CalibrationSteps := by
  unfold Obligations.CalibrationSteps
  refine ⟨fun s r hrel hp hr hl => ⟨fun hd he hs hn => ?step, fun hd he hs ha h0 => ?wait,
      fun m i rest hm hen htodo hin hconv hcur => ?visit, fun m i hm hcur h8 => ?visitEnd⟩,
    fun s r hp hr => ⟨fun n q hn hd h1 hs h10 hskip hval hoff hpull hoffMc hpullMc => ?measure,
      fun n a hn h0 ha hskip hval => exec_actSenseSkip_of_late hp hr hn h0 ha hskip hval,
      fun a b hd hk h0 => ?first, fun a b hd hk h16 h1 => ?last, fun a b hd hk h1 h16 => ?between,
      fun hd hk h0 h2 => exec_xtalRefTimeout_of_late hp hr hd hk h0 h2, fun hd hs he hx => ?pass,
      exec_quietTimeout_of_late⟩⟩
  case step =>
    obtain ⟨ms, hstep, htodo⟩ := stepRelease_spec hrel hr hd he hs hn
    refine ⟨_, congrArg Host.Outcome.next ((onPll_of_locked hp).trans hstep), rfl, fun h0 => ?_, fun h1 => ?_,
      fun h2 h10 m hm hen hg => ?_, fun h10 hen => ?_, rfl⟩
    · exact htodo 20 _ (by omega) ⟨_, by rw [h0]; exact .head _, rfl⟩ (by rw [h0]; simp [stepVisits])
    · exact htodo 20 _ (by omega) ⟨_, by rw [h1]; exact .head _, rfl⟩ (by
        rw [h1]
        intro p hp _
        rw [List.mem_singleton.mp hp]
        rfl)
    · rw [stepVisits_group s h2 h10] at htodo
      refine htodo m _ (by omega) ⟨(m, _), List.mem_map.mpr ⟨m, List.mem_filter.mpr ⟨List.mem_range.mpr hm, ?_⟩, rfl⟩, rfl⟩
        fun p hp _ => ?_
      · simp [hen]
        omega
      · obtain ⟨-, -, rfl⟩ := List.mem_map.mp hp
        rfl
    · rw [stepVisits_current h10 hs hen] at htodo
      exact htodo _ _ (by omega) ⟨_, .head _, rfl⟩ (by simp)
  case wait =>
    exact congrArg Host.Outcome.next ((onPll_of_locked hp).trans (stepRelease_of_waiting hrel hr hd he hs ha h0))
  case visit =>
    obtain ⟨ms, su, hv, hstone, hother, hsu⟩ := visitStart_spec hrel hr hl hm hen htodo hin hconv hcur
    refine ⟨_, congrArg Host.Outcome.next ((onPll_of_locked hp).trans hv), congrArg ModStone.cur hstone,
      congrArg ModStone.todo hstone, congrArg ModStone.codes hstone, hother, fun h => ?_, fun h => ?_, rfl⟩
    · rw [hsu, if_pos h]
      exact ⟨rfl, rfl, rfl⟩
    · exact hsu.trans (if_neg h)
  case visitEnd =>
    obtain ⟨ms, su, hv, hc, ho, hother⟩ := visitEnd_spec hr (hl ▸ hm) hcur h8
    exact ⟨_, congrArg Host.Outcome.next ((onPll_of_locked hp).trans hv), hc, ho, hother,
      fun h => congrArg some (CalRun.record_of_first h _), fun h => congrArg some (CalRun.record_of_second h _), rfl⟩
  case measure =>
    rw [exec_actSenseMeasure_of_calm hp hr q hn hd hs h10 hskip hval hoff hpull hoffMc hpullMc, CalRun.record_of_first h1]
  case first =>
    rw [exec_xtalRefPulse_of_counting hp hr a b hd hk (by omega)]
    simp [CalRun.pulse, CalRun.counted, h0]
  case last =>
    rw [exec_xtalRefPulse_of_counting hp hr a b hd hk (by omega)]
    simp [CalRun.pulse, CalRun.counted, CalRun.record, h16, h1]
  case between =>
    rw [exec_xtalRefPulse_of_counting hp hr a b hd hk (by omega)]
    simp [CalRun.pulse, CalRun.counted, show r.pulses ≠ 0 by omega, show r.pulses ≠ 16 by omega]
  case pass =>
    obtain ⟨hlast, hfirst⟩ := passEnd_of_ended hr hd hs he hx
    refine ⟨fun h => congrArg Host.Outcome.next ((onPll_of_locked hp).trans (hlast h)), fun h => ?_⟩
    obtain ⟨g, k, hend⟩ := hfirst h
    exact ⟨_, congrArg Host.Outcome.next ((onPll_of_locked hp).trans hend), ⟨_, rfl, rfl, rfl, rfl, rfl, rfl, rfl, hd⟩, rfl⟩

end Sys2Proof.Machine

namespace Sys2Proof.Machine

/-! PROOFS. What an operation of the actuator drive leaves of its channels, and folds over them. -/

/-! ## What an operation leaves of every channel -/

/-- Apart from the drive, events raised and records written, t is s, with the same shutdowns of pairs, and every channel shows the same
under π. -/
def Leaves {α : Type} (π : ActCh → α) (s t : State) : Prop :=
  Drives s t ∧ t.act.ch.length = s.act.ch.length ∧ (∀ k, (nth t.act.pairs k).off = (nth s.act.pairs k).off) ∧
  ∀ n, π (t.ach n) = π (s.ach n)

section
variable {α β : Type} {π : ActCh → α} {s t u : State}

theorem Leaves.refl (π : ActCh → α) (s : State) : Leaves π s s := ⟨.refl s, rfl, fun _ => rfl, fun _ => rfl⟩

theorem Leaves.trans (h : Leaves π s t) (g : Leaves π t u) : Leaves π s u := by
  obtain ⟨hd, hl, ho, hc⟩ := h
  obtain ⟨gd, gl, go, gc⟩ := g
  exact ⟨hd.trans gd, gl.trans hl, fun k => (go k).trans (ho k), fun n => (gc n).trans (hc n)⟩

/-- What follows from what is left is left. -/
theorem Leaves.mono {ρ : ActCh → β} (h : Leaves π s t) (hπ : ∀ c d, π c = π d → ρ c = ρ d) : Leaves ρ s t := by
  obtain ⟨hd, hl, ho, hc⟩ := h
  exact ⟨hd, hl, ho, fun n => hπ _ _ (hc n)⟩

theorem Leaves.foldl {γ : Type} {f : State → γ → State} (hf : ∀ s a, Leaves π s (f s a)) (l : List γ) (s : State) :
    Leaves π s (l.foldl f s) :=
  List.foldlRecOn (motive := fun t => Leaves π s t) l f (.refl π s) fun _ h a _ => h.trans (hf _ a)

theorem Leaves.length (h : Leaves π s t) : t.act.ch.length = s.act.ch.length := by
  obtain ⟨-, hl, -⟩ := h
  exact hl

theorem Leaves.ach (h : Leaves π s t) (n : Nat) : π (t.ach n) = π (s.ach n) := by
  obtain ⟨-, -, -, hc⟩ := h
  exact hc n

theorem Leaves.cfg (h : Leaves π s t) : t.cfg = s.cfg := by
  obtain ⟨⟨-, a, e, b, rfl⟩, -⟩ := h
  rfl

theorem Leaves.sup (h : Leaves π s t) : t.sup = s.sup := by
  obtain ⟨⟨-, a, e, b, rfl⟩, -⟩ := h
  rfl

theorem Leaves.chain (h : Leaves π s t) : t.chain = s.chain := by
  obtain ⟨⟨-, a, e, b, rfl⟩, -⟩ := h
  rfl

theorem updCh_leaves (n : Nat) {f : ActCh → ActCh} (hf : ∀ c, π (f c) = π c) (s : State) : Leaves π s (updCh n f s) := by
  refine ⟨updCh_drives .., upd_length .., fun _ => rfl, fun m => ?_⟩
  rw [ach_updCh]
  split
  · exact hf _
  · rfl

theorem updPair_leaves (k : Nat) {f : ActPair → ActPair} (hf : ∀ p, (f p).off = p.off) (s : State) :
    Leaves π s (updPair k f s) := by
  refine ⟨.of_act .., rfl, fun j => ?_, fun _ => rfl⟩
  change (nth (upd s.act.pairs k f) j).off = _
  by_cases hj : j = k
  · subst hj
    by_cases hl : j < s.act.pairs.length
    · rw [nth_upd_self _ _ _ hl, hf]
    · rw [upd_past _ _ _ (Nat.le_of_not_lt hl)]
  · rw [nth_upd_ne _ _ _ _ hj]

theorem queue_leaves (q : List QEntry) (s : State) : Leaves π s { s with act.queue := q } :=
  ⟨.of_act .., rfl, fun _ => rfl, fun _ => rfl⟩

theorem enqueue_leaves (n : Nat) (s : State) : Leaves π s (enqueue n s) := by
  unfold enqueue
  split
  · exact .refl π s
  · exact queue_leaves ..

end

/-! ## What a condition, an evaluation and a period leave -/

/-- What decides the condition on a channel and its request (R228, R237). -/
def ActCh.asked (c : ActCh) : Nat × Bool × Bool := (c.req, c.shortSup, c.shortGnd)

/-- A channel without what turning it on or off changes, and the start or stop of a FLOAT drive. -/
def ActCh.kept (c : ActCh) : ActCh :=
  { c with ph := .off, offReady := false, slowDecay := false, toHold := false, wait := .none, degWait := false,
           degraded := false, peakCnt := 0, degCnt := 0, iPull := 0, peakEnd := 0, sinceBoost := false,
           flDir := none, flOver := false, flRevOk := false }

/-- A channel without what its evaluation in a PWM period changes. -/
def ActCh.given (c : ActCh) : ActCh := { c.kept with thOn := false, flX := 0, flSync := false }

/-- A channel without what the end of a PWM period books: the condition in force, the duty, the current and the pull-in pending. -/
def ActCh.driven (c : ActCh) : ActCh :=
  { c with cond := 0, ovr := false, curOn := 0, curAll := 0, iSet := 0, scaled := false, dithPh := 0, pullMc := 0 }

theorem ActCh.given_of_kept {c d : ActCh} (h : c.kept = d.kept) : c.given = d.given := by rw [given, given, h]

theorem ActCh.asked_of_given {c d : ActCh} (h : c.given = d.given) : c.asked = d.asked :=
  show c.given.asked = d.given.asked by rw [h]

theorem ActCh.asked_of_driven {c d : ActCh} (h : c.driven = d.driven) : c.asked = d.asked :=
  show c.driven.asked = d.driven.asked by rw [h]

section
variable {α : Type} {π : ActCh → α} {s t : State}

theorem Leaves.given (h : Leaves ActCh.kept s t) : Leaves ActCh.given s t := h.mono fun _ _ => ActCh.given_of_kept

theorem Leaves.asked (h : Leaves ActCh.given s t) : Leaves ActCh.asked s t := h.mono fun _ _ => ActCh.asked_of_given

theorem Leaves.asked_of_driven (h : Leaves ActCh.driven s t) : Leaves ActCh.asked s t :=
  h.mono fun _ _ => ActCh.asked_of_driven

theorem Leaves.af (h : Leaves π s t) : t.af = s.af := by
  obtain ⟨⟨-, a, e, b, rfl⟩, -⟩ := h
  rfl

theorem Leaves.floatPair (h : Leaves π s t) : t.floatPair = s.floatPair := by
  obtain ⟨⟨-, a, e, b, rfl⟩, -⟩ := h
  rfl

theorem Leaves.actMode (h : Leaves π s t) : t.actMode = s.actMode := by
  obtain ⟨⟨-, a, e, b, rfl⟩, -⟩ := h
  rfl

theorem Leaves.actCond (h : Leaves ActCh.asked s t) (n : Nat) : t.actCond n = s.actCond n := by
  have hs (m : Nat) : (t.ach m).shortSup = (s.ach m).shortSup := congrArg (·.2.1) (h.ach m)
  have hg (m : Nat) : (t.ach m).shortGnd = (s.ach m).shortGnd := congrArg (·.2.2) (h.ach m)
  obtain ⟨⟨-, a, e, b, rfl⟩, -, ho, -⟩ := h
  have hf : ({ s with act := a, evt := e, bushel := b } : State).actFault n = s.actFault n := by
    unfold State.actFault
    simp only [hs, hg]
    rw [ho]
    rfl
  unfold State.actCond
  rw [hf]
  rfl

theorem Leaves.actWant (h : Leaves ActCh.asked s t) (n : Nat) : t.actWant n = s.actWant n := by
  have hr : (t.ach n).req = (s.ach n).req := congrArg (·.1) (h.ach n)
  have hc := h.actCond n
  obtain ⟨⟨-, a, e, b, rfl⟩, -⟩ := h
  have hq : ({ s with act := a, evt := e, bushel := b } : State).actRequest n = s.actRequest n := by
    unfold State.actRequest
    rw [hr]
    rfl
  unfold State.actWant
  rw [hc, hq]
  rfl

end

/-! ## What the operations on one channel leave -/

section
variable (n : Nat) (s : State)

theorem setWait_leaves (w : WaitCause) : Leaves ActCh.kept s (setWait n w s) := updCh_leaves n (by intro c; rfl) s

theorem noTurnOn_leaves : Leaves ActCh.kept s (noTurnOn n s) :=
  (queue_leaves _ s).trans (updCh_leaves n (by intro c; rfl) _)

theorem releasePullIn_leaves (at_ : Nat) : Leaves ActCh.kept s (releasePullIn n at_ s) :=
  updPair_leaves _ (fun p => by split <;> rfl) s

theorem turnOff_leaves : Leaves ActCh.kept s (turnOff n s) := by
  have h1 : Leaves ActCh.kept s (if (s.ach n).inPeak then releasePullIn n s.chain.now s else s) := by
    split
    · exact releasePullIn_leaves ..
    · exact .refl _ s
  unfold turnOff
  dsimp only
  split
  · exact h1
  · exact h1
  · exact h1.trans (updCh_leaves n (by intro c; rfl) _)

theorem peakToHold_leaves (at_ : Nat) : Leaves ActCh.kept s (peakToHold n at_ s) :=
  (releasePullIn_leaves n s at_).trans (updCh_leaves n (by intro c; rfl) _)

theorem peakStops_leaves (was : Nat) : Leaves ActCh.kept s (peakStops n was s) := by
  unfold peakStops
  dsimp only
  split
  · split
    · exact peakToHold_leaves ..
    · exact turnOff_leaves ..
  · exact .refl _ s

/-- R232: an unboosted peak that is not degraded starts: the channel leaves the queue, and nothing is reported. -/
theorem startPeak_plain : startPeak n false false s = updCh n (fun c =>
    { c with ph := .peak false, toHold := false, wait := .none, degWait := false, degraded := false,
             peakCnt := (c.peakCnt + 1) % 65536, iPull := s.iPullMa n,
             peakEnd := s.chain.now + 12000 * s.af n 2 31 24 }) (dequeue n s) := by
  simp [startPeak]

theorem gates_leaves : Leaves ActCh.kept s (gates n s) := by
  have hq : Leaves ActCh.kept s (dequeue n s) := queue_leaves _ s
  have he : Leaves ActCh.kept s (enqueue n s) := enqueue_leaves n s
  unfold gates
  extract_lets c pk
  split
  · exact hq.trans (setWait_leaves ..)
  · split
    · exact hq.trans (setWait_leaves ..)
    · split
      · split
        · exact he.trans (setWait_leaves ..)
        · exact setWait_leaves ..
      · split
        · split
          · exact setWait_leaves ..
          · split
            · split
              · exact .refl _ s
              · exact setWait_leaves ..
            · exact he.trans (updCh_leaves n (by intro c; rfl) _)
        · split
          · rw [startPeak_plain]
            exact hq.trans (updCh_leaves n (by intro c; rfl) _)
          · exact updCh_leaves n (by intro c; rfl) _

end

/-! ## The step of a channel of no FLOAT pair (R237) -/

/-- R234: an on-phase ends where nothing is wanted of the channel. -/
def thermalKept (n : Nat) (s : State) : State :=
  updCh n (fun c => { c with thOn := if (s.actWant n).isNone then false else (s.ach n).thOn }) s

/-- R237: a channel may conduct: its mode asks for it, and neither `CH_OT` nor the duty window holds it off. -/
def State.mayConduct (s : State) (n : Nat) : Bool := s.actAsks n && !(s.ach n).chOt && !(s.ach n).dutyHold

theorem thermalKept_leaves (n : Nat) (s : State) : Leaves ActCh.given s (thermalKept n s) :=
  updCh_leaves n (by intro c; rfl) s

theorem thermalKept_ach {n : Nat} {s : State} (hn : n < s.act.ch.length) : (thermalKept n s).ach n =
    { s.ach n with thOn := if (s.actWant n).isNone then false else (s.ach n).thOn } := updCh_ach_self _ _ _ hn

/-- R237: a channel whose peak has been stopped where it had to turns on, off or waits, as it may conduct. -/
def settle (n : Nat) (s : State) : State :=
  match (s.ach n).ph with
  | .peak _ => s
  | .decay => if s.mayConduct n then s else noTurnOn n s
  | .on => if s.mayConduct n then s else turnOff n s
  | .off => if s.mayConduct n then gates n s else noTurnOn n s

theorem settle_leaves (n : Nat) (s : State) : Leaves ActCh.kept s (settle n s) := by
  unfold settle
  split
  case h_1 => exact .refl _ s
  all_goals split
  · exact .refl _ s
  · exact noTurnOn_leaves n s
  · exact .refl _ s
  · exact turnOff_leaves n s
  · exact gates_leaves n s
  · exact noTurnOn_leaves n s

section
variable {s t : State} (h : Leaves ActCh.kept s t) (n : Nat)
include h

theorem Leaves.chOt : (t.ach n).chOt = (s.ach n).chOt := (congrArg ActCh.chOt (h.ach n) :)
theorem Leaves.thOn : (t.ach n).thOn = (s.ach n).thOn := (congrArg ActCh.thOn (h.ach n) :)
theorem Leaves.dutyHold : (t.ach n).dutyHold = (s.ach n).dutyHold := (congrArg ActCh.dutyHold (h.ach n) :)
theorem Leaves.flX : (t.ach n).flX = (s.ach n).flX := (congrArg ActCh.flX (h.ach n) :)
theorem Leaves.flSync : (t.ach n).flSync = (s.ach n).flSync := (congrArg ActCh.flSync (h.ach n) :)

theorem Leaves.actAsks : t.actAsks n = s.actAsks n := by
  unfold State.actAsks
  rw [h.given.asked.actWant, h.actMode, h.thOn, State.iMaxMa, h.af]
  rfl

theorem Leaves.mayConduct : t.mayConduct n = s.mayConduct n := by
  rw [State.mayConduct, State.mayConduct, h.actAsks, h.chOt, h.dutyHold]

end

/-- R237: the step of a channel: its on-phase, then what a stricter condition does to its peak, then the rest. -/
theorem chanStep_eq (n : Nat) (s : State) :
    chanStep n s = settle n (peakStops n (s.ach n).cond (thermalKept n s)) := by
  unfold chanStep settle
  extract_lets c0 th s1 asks s2 d want
  have hs2 : peakStops n (s.ach n).cond (thermalKept n s) = s2 := rfl
  have hasks : asks = s2.actAsks n := ((peakStops_leaves n s1 c0.cond).actAsks n).symm
  have hwant (h : d.inPeak = false) : want = s2.mayConduct n := by
    simp only [want, State.mayConduct, hasks, h, Bool.false_or]
    rfl
  rw [hs2, show s2.ach n = d from rfl]
  cases hd : d.ph with
  | peak b => rfl
  | decay => rw [hwant (by rw [ActCh.inPeak, hd])]
  | on => rw [hwant (by rw [ActCh.inPeak, hd])]
  | off => rw [hwant (by rw [ActCh.inPeak, hd])]

end Sys2Proof.Machine

namespace Sys2Proof.Machine

/-! PROOFS. The step of one channel in a PWM period, its gates, and the fixed loads (R237, R238, R241). -/

/-! ## Turning off and waiting (R226, R232, R238) -/

@[simp] theorem dequeue_ach (n m : Nat) (s : State) : (dequeue n s).ach m = s.ach m := rfl

@[simp] theorem enqueue_ach (n m : Nat) (s : State) : (enqueue n s).ach m = s.ach m := by
  unfold enqueue
  split <;> rfl

section
variable {n : Nat} {s : State}

theorem peakStops_of_no_peak (was : Nat) (h : (s.ach n).inPeak = false) : peakStops n was s = s := by
  simp [peakStops, h]

theorem turnOff_off {j : Nat} (h : (s.ach n).ph = .off) : ((turnOff j s).ach n).ph = .off := by
  by_cases hj : j = n
  · subst hj
    unfold turnOff
    simp only [h]
    split
    · exact h
    · exact h
  · rw [turnOff_ach_ne hj, h]

section
variable (hn : n < s.act.ch.length)
include hn

theorem setWait_ach (w : WaitCause) : (setWait n w s).ach n = { s.ach n with wait := w } := updCh_ach_self _ _ _ hn

theorem noTurnOn_ach : (noTurnOn n s).ach n = { s.ach n with wait := .none, degWait := false } :=
  updCh_ach_self n _ (dequeue n s) hn

theorem peakToHold_ph (a : Nat) : ((peakToHold n a s).ach n).ph = .on :=
  congrArg ActCh.ph (updCh_ach_self n _ (releasePullIn n a s) hn)

theorem turnOff_ph (h : (s.ach n).ph ≠ .off) : ((turnOff n s).ach n).ph = .decay := by
  unfold turnOff
  extract_lets c s1
  have h1 : s1.act.ch = s.act.ch := by
    unfold s1
    split <;> rfl
  split
  · next hc => exact absurd hc h
  · next hc => rw [ach_congr h1, hc]
  · rw [updCh_ach_self _ _ _ (by rw [h1]; exact hn)]

/-! ## The gates of a channel that is off (R237, R238, R241) -/

theorem gates_of_minOff (h : (s.ach n).offReady = false) : (gates n s).ach n = { s.ach n with wait := .minOff } := by
  have hg : gates n s = setWait n .minOff (dequeue n s) := by simp [gates, h]
  rw [hg]
  exact setWait_ach (s := dequeue n s) hn _

variable (hr : (s.ach n).offReady = true)
include hr

theorem gates_of_unpeaked (h : s.actMode n ≠ 2) : (gates n s).ach n = { s.ach n with ph := .on, wait := .none } := by
  have hg : gates n s = updCh n (fun c => { c with ph := .on, wait := .none }) s := by simp [gates, hr, h]
  rw [hg, updCh_ach_self _ _ _ hn]

variable (hm : s.actMode n = 2)
include hm

/-- R27, R241: in Quiet a pull-in waits. -/
theorem gates_of_quiet (hq : s.sup.mode = .quiet) :
    ∃ w, (gates n s).ach n = { s.ach n with wait := w } ∧ (w = .budget ∨ w = .quiet) := by
  cases hf : s.loadFits n (s.iHoldMa n)
  · have hg : gates n s = setWait n .budget (dequeue n s) := by simp [gates, hr, hm, hf]
    exact ⟨_, by rw [hg]; exact setWait_ach (s := dequeue n s) hn _, .inl rfl⟩
  · have hg : gates n s = setWait n .quiet (if s.cb .act n 0 7 && !(s.ach n).degWait then enqueue n s else s) := by
      simp [gates, hr, hm, hf, hq]
    refine ⟨.quiet, ?_, .inr rfl⟩
    rw [hg]
    split
    · rw [setWait_ach (by rw [(enqueue_leaves (π := ActCh.kept) n s).length]; exact hn), enqueue_ach]
    · exact setWait_ach hn _

variable (hq : s.sup.mode ≠ .quiet)
include hq

/-- R241, R243: a boosted pull-in waits for the budget or in its place. -/
theorem gates_of_boosted (hb : s.cb .act n 0 7 = true) :
    ((gates n s).ach n).ph = (s.ach n).ph ∧ (((gates n s).ach n).wait = .budget ∨ ((gates n s).ach n).wait = .slot ∨
      ((gates n s).ach n).wait = .pairSwitch ∨ ((gates n s).ach n).wait = .piConc) := by
  cases hf : s.loadFits n (s.iHoldMa n)
  · have hg : gates n s = setWait n .budget (dequeue n s) := by simp [gates, hr, hm, hf]
    rw [hg, setWait_ach (s := dequeue n s) hn]
    exact ⟨rfl, .inl rfl⟩
  · have hg : gates n s =
        if (s.ach n).degWait && s.actCond n == 0 && !s.throttled && !s.bypassed then setWait n .pairSwitch s
        else if s.act.queue.any (fun q => q.ch == n) then
          (if (s.ach n).wait == .pairSwitch || (s.ach n).wait == .piConc then s else setWait n .slot s)
        else updCh n (fun c => { c with wait := .slot, degWait := false }) (enqueue n s) := by
      simp [gates, hr, hm, hf, hq, hb]
    rw [hg]
    by_cases h1 : ((s.ach n).degWait && s.actCond n == 0 && !s.throttled && !s.bypassed) = true
    · rw [if_pos h1, setWait_ach hn]
      exact ⟨rfl, .inr (.inr (.inl rfl))⟩
    · rw [if_neg h1]
      by_cases h2 : (s.act.queue.any (fun q => q.ch == n)) = true
      · rw [if_pos h2]
        by_cases h3 : ((s.ach n).wait == .pairSwitch || (s.ach n).wait == .piConc) = true
        · rw [if_pos h3]
          simp only [Bool.or_eq_true, beq_iff_eq] at h3
          exact ⟨rfl, .inr (.inr h3)⟩
        · rw [if_neg h3, setWait_ach hn]
          exact ⟨rfl, .inr (.inl rfl)⟩
      · rw [if_neg h2, updCh_ach_self _ _ _ (by rw [(enqueue_leaves (π := ActCh.kept) n s).length]; exact hn), enqueue_ach]
        exact ⟨rfl, .inr (.inl rfl)⟩

omit hn in
/-- R232, R241: an unboosted pull-in runs from VACT at once where its holding current fits. -/
theorem gates_of_unboosted (hb : s.cb .act n 0 7 = false) :
    gates n s = if s.loadFits n (s.iHoldMa n) then startPeak n false false s else setWait n .budget (dequeue n s) := by
  cases hf : s.loadFits n (s.iHoldMa n) <;> simp [gates, hr, hm, hf, hq, hb]

end

/-! ## The step (R237) -/

theorem chanStep_mayConduct (n : Nat) (s : State) : (chanStep n s).mayConduct n = (thermalKept n s).mayConduct n := by
  rw [chanStep_eq, (settle_leaves n _).mayConduct, (peakStops_leaves n _ _).mayConduct]

theorem chanStep_leaves (n : Nat) (s : State) : Leaves ActCh.given s (chanStep n s) := by
  rw [chanStep_eq]
  exact (thermalKept_leaves n s).trans ((peakStops_leaves ..).trans (settle_leaves ..)).given

section
variable (hn : n < s.act.ch.length)
include hn

theorem thermalKept_lt : n < (thermalKept n s).act.ch.length := by
  rw [(thermalKept_leaves n s).length]
  exact hn

theorem thermalKept_ph : ((thermalKept n s).ach n).ph = (s.ach n).ph := by rw [thermalKept_ach hn]

theorem chanStep_of_no_peak (h : (s.ach n).inPeak = false) : chanStep n s = settle n (thermalKept n s) := by
  have hp : ((thermalKept n s).ach n).inPeak = false := by rw [thermalKept_ach hn]; exact h
  rw [chanStep_eq, peakStops_of_no_peak _ hp]

theorem settle_ph_of_on (h : (s.ach n).ph = .on) : ((settle n s).ach n).ph = if s.mayConduct n then .on else .decay := by
  unfold settle
  simp only [h]
  split
  · exact h
  · exact turnOff_ph hn (by simp [h])

theorem settle_ph_of_decay (h : (s.ach n).ph = .decay) : ((settle n s).ach n).ph = .decay := by
  unfold settle
  simp only [h]
  split
  · exact h
  · rw [noTurnOn_ach hn]
    exact h

theorem chanStep_ph_of_on (h : (s.ach n).ph = .on) :
    ((chanStep n s).ach n).ph = if (chanStep n s).mayConduct n then .on else .decay := by
  rw [chanStep_mayConduct, chanStep_of_no_peak hn (by rw [ActCh.inPeak, h])]
  exact settle_ph_of_on (thermalKept_lt hn) ((thermalKept_ph hn).trans h)

theorem chanStep_ph_of_decay (h : (s.ach n).ph = .decay) : ((chanStep n s).ach n).ph = .decay := by
  rw [chanStep_of_no_peak hn (by rw [ActCh.inPeak, h])]
  exact settle_ph_of_decay (thermalKept_lt hn) ((thermalKept_ph hn).trans h)

/-- R233, R240: a peak runs on, unless a stricter condition or `CH_OT` ends it. -/
theorem chanStep_ph_of_peak {b : Bool} (h : (s.ach n).ph = .peak b) : ((chanStep n s).ach n).ph =
    if (s.ach n).cond < (chanStep n s).actCond n ∨ (s.ach n).chOt = true then
      (if (chanStep n s).mayConduct n then .on else .decay)
    else .peak b := by
  rw [chanStep_mayConduct, (chanStep_leaves n s).asked.actCond, ← (thermalKept_leaves n s).asked.actCond, chanStep_eq]
  have hph := (thermalKept_ph hn).trans h
  have hot : ((thermalKept n s).ach n).chOt = (s.ach n).chOt := by rw [thermalKept_ach hn]
  have hln := thermalKept_lt hn
  generalize thermalKept n s = t at hph hot hln
  generalize (s.ach n).cond = was
  rw [← hot]
  have hin : (t.ach n).inPeak = true := by rw [ActCh.inPeak, hph]
  by_cases hstop : was < t.actCond n ∨ (t.ach n).chOt = true
  · rw [if_pos hstop]
    have hs : (decide (was < t.actCond n) || (t.ach n).chOt) = true := by simpa using hstop
    by_cases hask : (t.actAsks n && !(t.ach n).chOt) = true
    · have hp : peakStops n was t = peakToHold n t.chain.now t := by simp [peakStops, hin, hs, hask]
      rw [hp, ← (peakToHold_leaves n t t.chain.now).mayConduct]
      exact settle_ph_of_on (by rw [(peakToHold_leaves n t _).length]; exact hln) (peakToHold_ph hln _)
    · have hp : peakStops n was t = turnOff n t := by simp [peakStops, hin, hs, hask]
      have hno : ¬t.mayConduct n = true := fun hm => hask (by
        rw [State.mayConduct, Bool.and_eq_true] at hm
        exact hm.1)
      rw [hp, if_neg hno]
      exact settle_ph_of_decay (by rw [(turnOff_leaves n t).length]; exact hln) (turnOff_ph hln (by simp [hph]))
  · rw [if_neg hstop]
    have hs : (decide (was < t.actCond n) || (t.ach n).chOt) = false := by simpa using hstop
    have hp : peakStops n was t = t := by simp [peakStops, hs]
    have hset : settle n t = t := by
      unfold settle
      simp only [hph]
    rw [hp, hset, hph]

section
variable (h : (s.ach n).ph = .off)
include h

theorem chanStep_of_off_unasked (hm : (chanStep n s).mayConduct n = false) :
    ((chanStep n s).ach n).ph = .off ∧ ((chanStep n s).ach n).wait = .none := by
  rw [chanStep_mayConduct] at hm
  have hph := (thermalKept_ph hn).trans h
  have hln := thermalKept_lt hn
  have hs : settle n (thermalKept n s) = noTurnOn n (thermalKept n s) := by
    unfold settle
    simp [hph, hm]
  rw [chanStep_of_no_peak hn (by rw [ActCh.inPeak, h]), hs, noTurnOn_ach hln]
  exact ⟨hph, rfl⟩

theorem chanStep_of_off_asked (hm : (chanStep n s).mayConduct n = true) : chanStep n s = gates n (thermalKept n s) := by
  rw [chanStep_mayConduct] at hm
  have hph := (thermalKept_ph hn).trans h
  have hs : settle n (thermalKept n s) = gates n (thermalKept n s) := by
    unfold settle
    simp [hph, hm]
  rw [chanStep_of_no_peak hn (by rw [ActCh.inPeak, h]), hs]

end
end

/-! ## Fixed loads (R241) -/

theorem fixedLoad_of_off (h : (s.ach n).ph = .off) : s.fixedLoad n = 0 := by
  simp [State.fixedLoad, ActCh.inPeak, h]

theorem fixedLoad_of_plain (hm : s.actMode n ≠ 2) (hf : s.floatPair (n / 2) = false) : s.fixedLoad n = 0 := by
  simp [State.fixedLoad, hm, hf]

/-- Where no channel is a fixed load, one more fits where it is within both limits. -/
theorem loadFits_of_alone (hn : n < 32) (load : Nat) (h : ∀ j, j < 32 → s.fixedLoad j = 0) :
    s.loadFits n load = (decide (load ≤ s.bankLim) && decide (load ≤ s.devLim)) := by
  have hbank : s.bankFixed (n / 4) = 0 :=
    List.sum_eq_zero fun x hx => by
      obtain ⟨i, hi, rfl⟩ := List.mem_map.mp hx
      have := List.mem_range.mp hi
      exact h _ (by omega)
  have hdev : s.devFixed = 0 :=
    List.sum_eq_zero fun x hx => by
      obtain ⟨i, hi, rfl⟩ := List.mem_map.mp hx
      exact h _ (List.mem_range.mp hi)
  rw [State.loadFits, hbank, hdev, Nat.zero_add]

end

end Sys2Proof.Machine

namespace Sys2Proof.Machine

/-! PROOFS. A FLOAT pair in a PWM period (R235, R236). -/

/-! ## The parts of its evaluation -/

/-- R235: where the drive has brought the pair by this period. -/
def State.floatX (s : State) (k : Nat) : Rat :=
  match (s.ach (2 * k)).flDir with
  | none => (s.ach (2 * k)).flX
  | some true => clampQ ((s.ach (2 * k)).flX + s.flStep k) 0 1
  | some false => clampQ ((s.ach (2 * k)).flX - s.flStep k) 0 1

/-- R235, R236: the position follows the drive, and a condition that turns the pair off asks for a resync. -/
def floatMoved (k : Nat) (s : State) : State :=
  updCh (2 * k) (fun c => { c with flX := s.floatX k, flSync := c.flSync || decide (3 ≤ s.actCond (2 * k)) }) s

/-- Neither channel of the pair waits. -/
def floatClear (k : Nat) (s : State) : State := setWait (2 * k) .none (setWait (2 * k + 1) .none s)

/-- R235: the drive stops, and nothing is asked of the pair. -/
def floatRest (k : Nat) (s : State) : State := floatClear k (flStop k s)

/-- R235, R236: the drive of a pair that has moved, toward a target y with dead band b. -/
def floatSteer (k : Nat) (y b : Rat) (s : State) : State :=
  if (s.ach (2 * k)).flSync then
    match (s.ach (2 * k)).flDir with
    | some true => floatRest k s
    | some false => s
    | none => flStart k false (floatClear k s)
  else
    match (s.ach (2 * k)).flDir with
    | some d => if flStops d (s.ach (2 * k)).flOver (s.ach (2 * k)).flX y b then floatRest k s else s
    | none =>
      if b < y - (s.ach (2 * k)).flX then flStart k true (setWait (2 * k + 1) .none s)
      else if b < (s.ach (2 * k)).flX - y then flStart k false (setWait (2 * k) .none s)
      else floatClear k s

section
variable {k : Nat} {s : State}

theorem floatMoved_leaves (k : Nat) (s : State) : Leaves ActCh.given s (floatMoved k s) :=
  updCh_leaves _ (by intro c; rfl) s

theorem floatMoved_even (h : 2 * k < s.act.ch.length) : (floatMoved k s).ach (2 * k) =
    { s.ach (2 * k) with flX := s.floatX k, flSync := (s.ach (2 * k)).flSync || decide (3 ≤ s.actCond (2 * k)) } :=
  updCh_ach_self _ _ _ h

/-- R235, R239: a pair of which nothing is wanted, or that the duty window holds, rests. -/
theorem floatControl_of_idle (h : s.actWant (2 * k) = none ∨ (s.ach (2 * k)).dutyHold = true) :
    floatControl k s = floatRest k (floatMoved k s) := by
  unfold floatControl
  extract_lets e c cond x s1 clear
  split
  · rfl
  · next r hw =>
    exact if_pos (h.resolve_left (by rw [show s.actWant (2 * k) = some r from hw]; exact Option.some_ne_none r))

/-- R235: a pair of which r is wanted is steered toward it. -/
theorem floatControl_of_wanted {r : Nat} (hl : 2 * k < s.act.ch.length) (hw : s.actWant (2 * k) = some r)
    (hd : (s.ach (2 * k)).dutyHold = false) : floatControl k s =
      floatSteer k ((r : Rat) / 65536) ((s.af (2 * k) 3 4 0 : Rat) / 100) (floatMoved k s) := by
  unfold floatControl floatSteer
  rw [floatMoved_even hl]
  extract_lets e c cond x s1 clear
  simp only [show s.actWant e = some r from hw, show c.dutyHold = false from hd, Bool.false_eq_true, if_false]
  rw [show s1.ach e = _ from floatMoved_even hl]
  rfl

/-! ## What they leave -/

theorem floatClear_leaves (k : Nat) (s : State) : Leaves ActCh.kept s (floatClear k s) :=
  (setWait_leaves ..).trans (setWait_leaves ..)

theorem flStop_leaves (k : Nat) (s : State) : Leaves ActCh.kept s (flStop k s) :=
  (turnOff_leaves ..).trans ((turnOff_leaves ..).trans (updCh_leaves _ (by intro c; rfl) _))

theorem floatRest_leaves (k : Nat) (s : State) : Leaves ActCh.kept s (floatRest k s) :=
  (flStop_leaves k s).trans (floatClear_leaves ..)

theorem flStart_leaves (k : Nat) (dir : Bool) (s : State) : Leaves ActCh.kept s (flStart k dir s) := by
  unfold flStart
  extract_lets n o other c
  split
  · exact .refl _ s
  · split
    · exact setWait_leaves ..
    · split
      · exact setWait_leaves ..
      · split
        · exact setWait_leaves ..
        · split
          · exact setWait_leaves ..
          · exact (updCh_leaves _ (by intro c; rfl) _).trans (updCh_leaves _ (by intro c; rfl) _)

theorem floatSteer_leaves (k : Nat) (y b : Rat) (s : State) : Leaves ActCh.kept s (floatSteer k y b s) := by
  unfold floatSteer
  split
  · split
    · exact floatRest_leaves ..
    · exact .refl _ s
    · exact (floatClear_leaves ..).trans (flStart_leaves ..)
  · split
    · split
      · exact floatRest_leaves ..
      · exact .refl _ s
    · split
      · exact (setWait_leaves ..).trans (flStart_leaves ..)
      · split
        · exact (setWait_leaves ..).trans (flStart_leaves ..)
        · exact floatClear_leaves ..

/-- R235: once the pair has moved, its evaluation only starts or stops its drive. -/
theorem floatControl_kept (hl : 2 * k < s.act.ch.length) : Leaves ActCh.kept (floatMoved k s) (floatControl k s) := by
  cases hw : s.actWant (2 * k) with
  | none => rw [floatControl_of_idle (.inl hw)]; exact floatRest_leaves ..
  | some r =>
    cases hd : (s.ach (2 * k)).dutyHold
    · rw [floatControl_of_wanted hl hw hd]
      exact floatSteer_leaves ..
    · rw [floatControl_of_idle (.inr hd)]
      exact floatRest_leaves ..

theorem floatControl_leaves (hl : 2 * k < s.act.ch.length) : Leaves ActCh.given s (floatControl k s) :=
  (floatMoved_leaves k s).trans (floatControl_kept hl).given

section
variable {n : Nat} (hn : n / 2 ≠ k)
include hn

theorem floatClear_ach_ne : (floatClear k s).ach n = s.ach n :=
  (ach_updCh_ne (by omega) ..).trans (ach_updCh_ne (by omega) ..)

theorem floatRest_ach_ne : (floatRest k s).ach n = s.ach n :=
  (floatClear_ach_ne hn).trans
    ((ach_updCh_ne (by omega) ..).trans ((turnOff_ach_ne (by omega)).trans (turnOff_ach_ne (by omega))))

theorem flStart_ach_ne (dir : Bool) : (flStart k dir s).ach n = s.ach n := by
  have hne (d : Bool) : flChannel k d ≠ n := by cases d <;> simp [flChannel] <;> omega
  have hw (w : WaitCause) : (setWait (flChannel k dir) w s).ach n = s.ach n := ach_updCh_ne (hne dir) ..
  unfold flStart
  extract_lets m o other c
  split
  · rfl
  · split
    · exact hw _
    · split
      · exact hw _
      · split
        · exact hw _
        · split
          · exact hw _
          · exact (ach_updCh_ne (hne dir) ..).trans (ach_updCh_ne (by omega) ..)

theorem floatSteer_ach_ne (y b : Rat) : (floatSteer k y b s).ach n = s.ach n := by
  have hw (m : Nat) (hm : m ≠ n) (w : WaitCause) : (setWait m w s).ach n = s.ach n := ach_updCh_ne hm ..
  unfold floatSteer
  split
  · split
    · exact floatRest_ach_ne hn
    · rfl
    · exact (flStart_ach_ne hn _).trans (floatClear_ach_ne hn)
  · split
    · split
      · exact floatRest_ach_ne hn
      · rfl
    · split
      · exact (flStart_ach_ne hn _).trans (hw _ (by omega) _)
      · split
        · exact (flStart_ach_ne hn _).trans (hw _ (by omega) _)
        · exact floatClear_ach_ne hn

theorem floatControl_ach_ne (hl : 2 * k < s.act.ch.length) : (floatControl k s).ach n = s.ach n := by
  have hm : (floatMoved k s).ach n = s.ach n := ach_updCh_ne (by omega) ..
  cases hw : s.actWant (2 * k) with
  | none => rw [floatControl_of_idle (.inl hw)]; exact (floatRest_ach_ne hn).trans hm
  | some r =>
    cases hd : (s.ach (2 * k)).dutyHold
    · rw [floatControl_of_wanted hl hw hd]
      exact (floatSteer_ach_ne hn _ _).trans hm
    · rw [floatControl_of_idle (.inr hd)]
      exact (floatRest_ach_ne hn).trans hm

end

/-! ## A pair at rest (R235) -/

/-- R235: the two channels of a pair never both conduct. -/
def State.oneOff (s : State) (k : Nat) : Prop := (s.ach (2 * k)).ph = .off ∨ (s.ach (2 * k + 1)).ph = .off

/-- No drive runs: neither channel is on or waits. -/
def State.stopped (s : State) (k : Nat) : Prop :=
  (s.ach (2 * k)).flDir = none ∧ (s.ach (2 * k)).ph ≠ .on ∧ (s.ach (2 * k + 1)).ph ≠ .on ∧
  (s.ach (2 * k)).wait = .none ∧ (s.ach (2 * k + 1)).wait = .none

theorem oneOff_of_ph {t : State} (h : ∀ m, (s.ach m).ph = .off → (t.ach m).ph = .off) (ho : s.oneOff k) : t.oneOff k :=
  ho.imp (h _) (h _)

theorem updCh_ph {n m : Nat} {f : ActCh → ActCh} (hf : ∀ c, (f c).ph = c.ph) : ((updCh n f s).ach m).ph = (s.ach m).ph := by
  rw [ach_updCh]
  split
  · exact hf _
  · rfl

theorem setWait_ph (n m : Nat) (w : WaitCause) (s : State) : ((setWait n w s).ach m).ph = (s.ach m).ph :=
  updCh_ph fun _ => rfl

theorem floatClear_ph (k m : Nat) (s : State) : ((floatClear k s).ach m).ph = (s.ach m).ph :=
  (setWait_ph ..).trans (setWait_ph ..)

theorem flStop_ph_off (k : Nat) {m : Nat} (h : (s.ach m).ph = .off) : ((flStop k s).ach m).ph = .off :=
  (updCh_ph (f := fun c => { c with flDir := none }) fun _ => rfl).trans (turnOff_off (turnOff_off h))

theorem floatRest_oneOff (h : s.oneOff k) : (floatRest k s).oneOff k :=
  oneOff_of_ph (fun _ hm => (floatClear_ph ..).trans (flStop_ph_off k hm)) h

section
variable (hl : 2 * k + 1 < s.act.ch.length)
include hl

theorem floatClear_even : (floatClear k s).ach (2 * k) = { s.ach (2 * k) with wait := .none } := by
  have hs : (setWait (2 * k + 1) .none s).act.ch.length = s.act.ch.length := (setWait_leaves ..).length
  exact (setWait_ach (s := setWait (2 * k + 1) .none s) (by omega) _).trans
    (congrArg (fun c : ActCh => { c with wait := .none }) (updCh_ach_ne (2 * k + 1) _ s (2 * k) (by omega)))

theorem floatClear_odd : (floatClear k s).ach (2 * k + 1) = { s.ach (2 * k + 1) with wait := .none } :=
  (updCh_ach_ne (2 * k) _ _ (2 * k + 1) (by omega)).trans (setWait_ach hl _)

theorem floatRest_stopped : (floatRest k s).stopped k := by
  have hs : (flStop k s).act.ch.length = s.act.ch.length := (flStop_leaves k s).length
  have he := floatClear_even (k := k) (s := flStop k s) (by omega)
  have ho := floatClear_odd (k := k) (s := flStop k s) (by omega)
  have h1 : (turnOff (2 * k) (turnOff (2 * k + 1) s)).act.ch.length = s.act.ch.length :=
    ((turnOff_leaves ..).trans (turnOff_leaves ..)).length
  have hse : (flStop k s).ach (2 * k) = { (turnOff (2 * k) (turnOff (2 * k + 1) s)).ach (2 * k) with flDir := none } :=
    updCh_ach_self _ _ _ (by omega)
  have hso : (flStop k s).ach (2 * k + 1) = (turnOff (2 * k + 1) s).ach (2 * k + 1) :=
    (updCh_ach_ne (2 * k) _ _ (2 * k + 1) (by omega)).trans (turnOff_ach_ne (by omega))
  have off_on {c : ActCh} (h : c.Rests) : c.ph ≠ .on := by
    rcases h with h | h <;> simp [h]
  unfold State.stopped floatRest
  rw [he, ho, hse, hso]
  exact ⟨rfl, off_on (turnOff_self_rests ..), off_on (turnOff_self_rests ..), rfl, rfl⟩

end

/-! ## The start of a drive (R235-R238, R241) -/

/-- R235-R238: the gates of a direction pass, the budget aside. -/
def State.floatReady (s : State) (k : Nat) (dir : Bool) : Prop :=
  (s.ach (flChannel k dir)).ph = .off ∧ (s.ach (flChannel k dir)).chOt = false ∧ (s.ach (flChannel k !dir)).ph = .off ∧
  (s.ach (flChannel k !dir)).flRevOk = true ∧ (s.ach (flChannel k dir)).offReady = true

theorem flStart_of_unready {dir : Bool} (h : ¬s.floatReady k dir) :
    flStart k dir s = s ∨ ∃ w, flStart k dir s = setWait (flChannel k dir) w s := by
  unfold flStart
  extract_lets n o other c
  by_cases h1 : c.ph ≠ .off
  · exact .inl (if_pos h1)
  · rw [if_neg h1]
    by_cases h2 : c.chOt = true
    · exact .inr ⟨_, if_pos h2⟩
    · rw [if_neg h2]
      by_cases h3 : other.ph ≠ .off ∨ (!other.flRevOk) = true
      · exact .inr ⟨_, if_pos h3⟩
      · rw [if_neg h3]
        by_cases h4 : (!c.offReady) = true
        · exact .inr ⟨_, if_pos h4⟩
        · refine absurd ?_ h
          simp only [not_or, not_not, Bool.not_eq_true, Bool.not_eq_false'] at h1 h2 h3 h4
          exact ⟨h1, h2, h3.1, h3.2, h4⟩

theorem flStart_of_ready {dir : Bool} (h : s.floatReady k dir) : flStart k dir s =
    if s.loadFits (flChannel k dir) (s.iMaxMa (2 * k)) then
      updCh (flChannel k dir) (fun c => { c with ph := .on, wait := .none })
        (updCh (2 * k) (fun c => { c with flDir := some dir, flOver := false }) s)
    else setWait (flChannel k dir) .budget s := by
  obtain ⟨h1, h2, h3, h4, h5⟩ := h
  cases hf : s.loadFits (flChannel k dir) (s.iMaxMa (2 * k)) <;> simp [flStart, h1, h2, h3, h4, h5, hf]

/-- What decides whether a channel's gates pass. -/
def ActCh.gate (c : ActCh) : ActPh × Bool × Bool × Bool := (c.ph, c.chOt, c.flRevOk, c.offReady)

theorem Leaves.floatReady {t : State} (h : Leaves ActCh.gate s t) (dir : Bool) : t.floatReady k dir ↔ s.floatReady k dir := by
  have hph (m : Nat) : (t.ach m).ph = (s.ach m).ph := congrArg (·.1) (h.ach m)
  have hot (m : Nat) : (t.ach m).chOt = (s.ach m).chOt := congrArg (·.2.1) (h.ach m)
  have hrev (m : Nat) : (t.ach m).flRevOk = (s.ach m).flRevOk := congrArg (·.2.2.1) (h.ach m)
  have hoff (m : Nat) : (t.ach m).offReady = (s.ach m).offReady := congrArg (·.2.2.2) (h.ach m)
  simp only [State.floatReady, hph, hot, hrev, hoff]

/-- R235, R241: from s the drive of a direction starts in t where its gates pass, and where no channel of another pair is a fixed load
the budget decides. -/
def State.Starts (s : State) (k : Nat) (dir : Bool) (t : State) : Prop :=
  (¬s.floatReady k dir → (t.ach (2 * k)).flDir = none) ∧
  (s.floatReady k dir → (∀ j, j < 32 → j / 2 ≠ k → s.actMode j ≠ 2 ∧ s.floatPair (j / 2) = false) →
    if t.iMaxMa (2 * k) ≤ t.bankLim ∧ t.iMaxMa (2 * k) ≤ t.devLim then
      (t.ach (2 * k)).flDir = some dir ∧ (t.ach (2 * k)).flOver = false ∧ (t.ach (flChannel k dir)).ph = .on
    else (t.ach (2 * k)).flDir = none ∧ (t.ach (flChannel k dir)).wait = .budget)

theorem iMaxMa_congr {t : State} (h : t.cfg = s.cfg) : t.iMaxMa = s.iMaxMa := by
  unfold State.iMaxMa State.af State.cf State.cw
  rw [h]

theorem iHoldMa_congr {t : State} (h : t.cfg = s.cfg) : t.iHoldMa = s.iHoldMa := by
  unfold State.iHoldMa State.af State.cf State.cw
  rw [h]

theorem bankLim_congr {t : State} (h : t.cfg = s.cfg) : t.bankLim = s.bankLim := by
  unfold State.bankLim State.cf State.cw
  rw [h]

theorem devLim_congr {t : State} (h : t.cfg = s.cfg) : t.devLim = s.devLim := by
  unfold State.devLim State.cf State.cw
  rw [h]

/-- R235-R238: a start depends on the gates and the modes alone. -/
theorem Starts.of_leaves {s' t : State} {dir : Bool} (h : s'.Starts k dir t) (hs : Leaves ActCh.gate s s') :
    s.Starts k dir t := by
  obtain ⟨hno, hyes⟩ := h
  exact ⟨fun hr => hno (mt (hs.floatReady dir).mp hr),
    fun hr hone => hyes ((hs.floatReady dir).mpr hr) (by rw [hs.actMode, hs.floatPair]; exact hone)⟩

theorem setWait_gate (n : Nat) (w : WaitCause) (s : State) : Leaves ActCh.gate s (setWait n w s) :=
  updCh_leaves n (by intro c; rfl) s

theorem floatMoved_gate (k : Nat) (s : State) : Leaves ActCh.gate s (floatMoved k s) :=
  updCh_leaves _ (by intro c; rfl) s

theorem floatClear_gate (k : Nat) (s : State) : Leaves ActCh.gate s (floatClear k s) :=
  (setWait_gate ..).trans (setWait_gate ..)

theorem flChannel_lt (k : Nat) (dir : Bool) : flChannel k dir < 2 * k + 2 := by
  cases dir <;> simp [flChannel]

section
variable (hl : 2 * k + 1 < s.act.ch.length)
include hl

theorem flStart_starts {dir : Bool} (hk : k < 16) (hd : (s.ach (2 * k)).flDir = none) : s.Starts k dir (flStart k dir s) := by
  have hn := flChannel_lt k dir
  have hwait (w : WaitCause) : ((setWait (flChannel k dir) w s).ach (2 * k)).flDir = none := by
    rw [setWait, ach_updCh]
    split <;> exact hd
  refine ⟨fun hr => ?_, fun hr hone => ?_⟩
  · rcases flStart_of_unready hr with h | ⟨w, h⟩
    · rw [h, hd]
    · rw [h, hwait]
  · have halone (j : Nat) (hj : j < 32) : s.fixedLoad j = 0 := by
      by_cases hjk : j / 2 = k
      · obtain ⟨h1, -, h3, -⟩ := hr
        refine fixedLoad_of_off ?_
        have : j = flChannel k dir ∨ j = flChannel k !dir := by
          cases dir <;> simp [flChannel] <;> omega
        rcases this with rfl | rfl
        · exact h1
        · exact h3
      · exact fixedLoad_of_plain (hone j hj hjk).1 (hone j hj hjk).2
    have hcfg := (flStart_leaves k dir s).cfg
    rw [iMaxMa_congr hcfg, bankLim_congr hcfg, devLim_congr hcfg, flStart_of_ready hr, loadFits_of_alone (by omega) _ halone]
    by_cases hfit : s.iMaxMa (2 * k) ≤ s.bankLim ∧ s.iMaxMa (2 * k) ≤ s.devLim
    · rw [if_pos hfit, if_pos (by simpa using hfit)]
      have hlen : (updCh (2 * k) (fun c => { c with flDir := some dir, flOver := false }) s).act.ch.length = s.act.ch.length :=
        upd_length ..
      have he : (updCh (2 * k) (fun c => { c with flDir := some dir, flOver := false }) s).ach (2 * k) =
          { s.ach (2 * k) with flDir := some dir, flOver := false } := updCh_ach_self _ _ _ (by omega)
      refine ⟨?_, ?_, by rw [updCh_ach_self _ _ _ (by omega)]⟩ <;>
      · rw [ach_updCh, he]
        split <;> rfl
    · rw [if_neg hfit, if_neg (by simpa using hfit)]
      exact ⟨hwait _, by rw [setWait_ach (by omega)]⟩

omit hl in
theorem flStart_oneOff {dir : Bool} (h : s.oneOff k) : (flStart k dir s).oneOff k := by
  by_cases hr : s.floatReady k dir
  · rw [flStart_of_ready hr]
    obtain ⟨-, -, ho, -⟩ := hr
    split
    · have hph : ((updCh (flChannel k dir) (fun c => { c with ph := .on, wait := .none })
          (updCh (2 * k) (fun c => { c with flDir := some dir, flOver := false }) s)).ach (flChannel k !dir)).ph = .off := by
        rw [ach_updCh_ne (by cases dir <;> simp [flChannel]),
          updCh_ph (f := fun c => { c with flDir := some dir, flOver := false }) fun _ => rfl, ho]
      cases dir
      · exact .inl hph
      · exact .inr hph
    · exact oneOff_of_ph (fun m hm => (setWait_ph ..).trans hm) h
  · rcases flStart_of_unready hr with he | ⟨w, he⟩
    · rw [he]
      exact h
    · rw [he]
      exact oneOff_of_ph (fun m hm => (setWait_ph ..).trans hm) h

end

/-! ## The evaluation of a pair (R235, R236) -/

theorem flStops_open {past : Bool} {x y b : Rat} : flStops true past x y b = true ↔
    if y ≤ b then True else if 1 - b ≤ y then x = 1 ∧ past = true else y ≤ x := by
  by_cases h1 : y ≤ b
  · simp [flStops, flTarget, h1]
  · by_cases h2 : 1 - b ≤ y <;> simp [flStops, flTarget, h1, h2]

theorem flStops_close {past : Bool} {x y b : Rat} : flStops false past x y b = true ↔
    if y ≤ b then x = 0 ∧ past = true else if 1 - b ≤ y then True else x ≤ y := by
  by_cases h1 : y ≤ b
  · simp [flStops, flTarget, h1]
  · by_cases h2 : 1 - b ≤ y <;> simp [flStops, flTarget, h1, h2]

section
variable (hk : k < 16) (hl : 2 * k + 1 < s.act.ch.length)
include hl

theorem floatMoved_lt : 2 * k + 1 < (floatMoved k s).act.ch.length := by
  rw [(floatMoved_leaves k s).length]
  exact hl

omit hl in
theorem floatMoved_ph (k : Nat) (s : State) (m : Nat) : ((floatMoved k s).ach m).ph = (s.ach m).ph :=
  congrArg (·.1) ((floatMoved_gate k s).ach m)

theorem floatControl_flX : ((floatControl k s).ach (2 * k)).flX = s.floatX k := by
  rw [(floatControl_kept (by omega)).flX, floatMoved_even (by omega)]

theorem floatControl_flSync :
    ((floatControl k s).ach (2 * k)).flSync = ((s.ach (2 * k)).flSync || decide (3 ≤ s.actCond (2 * k))) := by
  rw [(floatControl_kept (by omega)).flSync, floatMoved_even (by omega)]

theorem floatControl_stopped (h : s.actWant (2 * k) = none ∨ (s.ach (2 * k)).dutyHold = true) :
    (floatControl k s).stopped k := by
  rw [floatControl_of_idle h]
  exact floatRest_stopped (floatMoved_lt hl)

theorem floatControl_oneOff (h : s.oneOff k) : (floatControl k s).oneOff k := by
  have hm : (floatMoved k s).oneOff k := oneOff_of_ph (fun m hm => (floatMoved_ph k s m).trans hm) h
  have rest := floatRest_oneOff hm
  have wait (n : Nat) : (setWait n .none (floatMoved k s)).oneOff k := oneOff_of_ph (fun m hm => (setWait_ph ..).trans hm) hm
  have clear : (floatClear k (floatMoved k s)).oneOff k := oneOff_of_ph (fun m hm => (floatClear_ph ..).trans hm) hm
  cases hw : s.actWant (2 * k) with
  | none => rw [floatControl_of_idle (.inl hw)]; exact rest
  | some r =>
    cases hd : (s.ach (2 * k)).dutyHold
    · rw [floatControl_of_wanted (by omega) hw hd]
      unfold floatSteer
      split
      · split
        · exact rest
        · exact hm
        · exact flStart_oneOff clear
      · split
        · split
          · exact rest
          · exact hm
        · split
          · exact flStart_oneOff (wait _)
          · split
            · exact flStart_oneOff (wait _)
            · exact clear
    · rw [floatControl_of_idle (.inr hd)]
      exact rest

/-- R235, R236: a drive that starts once the pair has moved, and waits have been cleared, starts from the pair. -/
theorem flStart_starts_of_moved {s' : State} {dir : Bool} (hk : k < 16) (hs : Leaves ActCh.gate (floatMoved k s) s')
    (hd : (s'.ach (2 * k)).flDir = none) : s.Starts k dir (flStart k dir s') :=
  Starts.of_leaves (flStart_starts (by rw [hs.length]; exact floatMoved_lt hl) hk hd) ((floatMoved_gate k s).trans hs)

section
variable {r : Nat} (hw : s.actWant (2 * k) = some r) (hd : (s.ach (2 * k)).dutyHold = false)
include hw hd

/-- R236: a pair that needs a resync stops opening, and drives to the closed end stop. -/
theorem floatControl_of_sync (hk : k < 16) (hs : ((floatControl k s).ach (2 * k)).flSync = true) :
    ((s.ach (2 * k)).flDir = some true → (floatControl k s).stopped k) ∧
    ((s.ach (2 * k)).flDir = some false → ((floatControl k s).ach (2 * k)).flDir = some false) ∧
    ((s.ach (2 * k)).flDir = none → s.Starts k false (floatControl k s)) := by
  have he := floatMoved_even (k := k) (s := s) (by omega)
  rw [floatControl_flSync hl] at hs
  rw [floatControl_of_wanted (by omega) hw hd]
  have hgo : floatSteer k ((r : Rat) / 65536) ((s.af (2 * k) 3 4 0 : Rat) / 100) (floatMoved k s) = _ :=
    if_pos (by rw [he]; exact hs)
  rw [hgo, he]
  refine ⟨fun h => ?_, fun h => ?_, fun h => ?_⟩ <;> simp only [h]
  · exact floatRest_stopped (floatMoved_lt hl)
  · rw [he]
    exact h
  · exact flStart_starts_of_moved hl hk (floatClear_gate ..) (by rw [floatClear_even (floatMoved_lt hl), he]; exact h)

/-- R235: a pair that drives runs on until it stops. -/
theorem floatControl_of_moving {d : Bool} (hs : ((floatControl k s).ach (2 * k)).flSync = false)
    (h : (s.ach (2 * k)).flDir = some d) :
    let stops := flStops d (s.ach (2 * k)).flOver ((floatControl k s).ach (2 * k)).flX ((r : Rat) / 65536)
      ((s.af (2 * k) 3 4 0 : Rat) / 100)
    (stops = true → (floatControl k s).stopped k) ∧
    (¬stops = true → ((floatControl k s).ach (2 * k)).flDir = some d ∧
      ∀ m, ((floatControl k s).ach m).ph = (s.ach m).ph) := by
  have he := floatMoved_even (k := k) (s := s) (by omega)
  rw [floatControl_flSync hl] at hs
  rw [floatControl_flX hl, floatControl_of_wanted (by omega) hw hd]
  have hgo : floatSteer k ((r : Rat) / 65536) ((s.af (2 * k) 3 4 0 : Rat) / 100) (floatMoved k s) =
      if flStops d (s.ach (2 * k)).flOver (s.floatX k) ((r : Rat) / 65536) ((s.af (2 * k) 3 4 0 : Rat) / 100) then
        floatRest k (floatMoved k s) else floatMoved k s := by
    unfold floatSteer
    simp only [he, hs, h, Bool.false_eq_true, if_false]
  rw [hgo]
  refine ⟨fun hstop => ?_, fun hrun => ?_⟩
  · rw [if_pos hstop]
    exact floatRest_stopped (floatMoved_lt hl)
  · rw [if_neg hrun]
    exact ⟨by rw [he]; exact h, floatMoved_ph k s⟩

/-- R235: a pair that stands starts toward a target further off than the dead band. -/
theorem floatControl_of_still (hk : k < 16) (hs : ((floatControl k s).ach (2 * k)).flSync = false)
    (h : (s.ach (2 * k)).flDir = none) {y b x : Rat} (hy : y = (r : Rat) / 65536) (hb : b = (s.af (2 * k) 3 4 0 : Rat) / 100)
    (hx : x = (s.ach (2 * k)).flX) :
    (b < y - x → s.Starts k true (floatControl k s)) ∧
    (¬b < y - x → b < x - y → s.Starts k false (floatControl k s)) ∧
    (¬b < y - x → ¬b < x - y → ((floatControl k s).ach (2 * k)).flDir = none ∧
      ∀ m, ((floatControl k s).ach m).ph = (s.ach m).ph) := by
  have he := floatMoved_even (k := k) (s := s) (by omega)
  have hfx : s.floatX k = (s.ach (2 * k)).flX := by rw [State.floatX, h]
  rw [floatControl_flSync hl] at hs
  rw [floatControl_of_wanted (by omega) hw hd, ← hy, ← hb]
  have hgo : floatSteer k y b (floatMoved k s) =
      if b < y - x then flStart k true (setWait (2 * k + 1) .none (floatMoved k s))
      else if b < x - y then flStart k false (setWait (2 * k) .none (floatMoved k s))
      else floatClear k (floatMoved k s) := by
    unfold floatSteer
    simp only [he, hs, h, hfx, hx, Bool.false_eq_true, if_false]
  have hdir (n : Nat) : ((setWait n .none (floatMoved k s)).ach (2 * k)).flDir = none := by
    rw [setWait, ach_updCh, he]
    split <;> exact h
  rw [hgo]
  refine ⟨fun h1 => ?_, fun h1 h2 => ?_, fun h1 h2 => ?_⟩
  · rw [if_pos h1]
    exact flStart_starts_of_moved hl hk (setWait_gate ..) (hdir _)
  · rw [if_neg h1, if_pos h2]
    exact flStart_starts_of_moved hl hk (setWait_gate ..) (hdir _)
  · rw [if_neg h1, if_neg h2]
    refine ⟨?_, fun m => (floatClear_ph ..).trans (floatMoved_ph k s m)⟩
    rw [floatClear_even (floatMoved_lt hl), he]
    exact h

end
end
end
end Sys2Proof.Machine

namespace Sys2Proof.Machine

/-! PROOFS. The live fields of the actuator drive take effect at a PWM period, and leave the modes (R34, R229, R249). -/

/-! ## Fields that are not live -/

theorem fld_merge_of_unmasked {mask old new : Word} {hi lo : Nat} (hhi : hi < 32)
    (h : ∀ b, lo ≤ b → b ≤ hi → mask.getLsbD b = false) : fld (merge mask old new) hi lo = fld old hi lo := by
  unfold fld bits
  refine Nat.eq_of_testBit_eq fun i => ?_
  rw [Nat.testBit_mod_two_pow, Nat.testBit_mod_two_pow, Nat.testBit_shiftRight, Nat.testBit_shiftRight]
  by_cases hi' : i < hi + 1 - lo
  · have hb := bit_merge_of_unmasked (old := old) (new := new) (n := lo + i) (by omega) (h _ (by omega) (by omega))
    unfold bit at hb
    rw [hb]
  · simp [hi']

/-- Words written over one entry of the actuator section are read back there, where the section reaches so far. -/
theorem setWords_act_word {img : Image} {n : Nat} {vs : List Word} (hv : vs.length = 6)
    (hl : Sec.index .act < img.length → 6 * n ≤ (img.sec .act).length) (j : Nat) :
    (img.setWords .act (6 * n) vs).word .act j 0 =
      if j = n ∧ Sec.index .act < img.length then vs.getD 0 0 else img.word .act j 0 := by
  by_cases hi : Sec.index .act < img.length
  · have hl := hl hi
    unfold Image.word Image.sec Image.setWords at *
    rw [nth_upd_self _ _ _ hi]
    generalize nth img (Sec.index .act) = ws at hl
    have hw : Sec.words .act = 6 := rfl
    simp only [hw, hv, hi, and_true, List.getD_eq_getElem?_getD, Nat.add_zero]
    rcases Nat.lt_trichotomy j n with h | h | h
    · rw [if_neg (by omega), List.append_assoc, List.getElem?_append_left (by simp; omega),
        List.getElem?_take_of_lt (by omega)]
    · rw [if_pos h, List.append_assoc, List.getElem?_append_right (by simp; omega), List.getElem?_append_left (by simp; omega)]
      congr 2
      simp
      omega
    · rw [if_neg (by omega), List.getElem?_append_right (by simp; omega), List.getElem?_drop]
      congr 2
      simp
      omega
  · rw [if_neg (fun h => hi h.2), Image.setWords, upd_past _ _ _ (by omega)]

theorem setWords_act_length {img : Image} {n : Nat} {vs : List Word} (hv : vs.length = 6)
    (hl : Sec.index .act < img.length → 6 * n ≤ (img.sec .act).length)
    (hi : Sec.index .act < (img.setWords .act (6 * n) vs).length) :
    6 * (n + 1) ≤ ((img.setWords .act (6 * n) vs).sec .act).length := by
  have hi' : Sec.index .act < img.length := by simpa [Image.setWords] using hi
  have hl := hl hi'
  unfold Image.sec Image.setWords at *
  rw [nth_upd_self _ _ _ hi']
  simp
  omega

/-! ## What the live fields change -/

/-- A channel without what the live fields and the current found in a period change. -/
def ActCh.stays (c : ActCh) : ActCh :=
  { c with toHold := false, retryLeft := 0, buckets := [], curOn := 0, curAll := 0, flSync := false }

/-- Apart from the configuration in force and what live fields change of the channels, t is s; a resync that is due stays due. -/
def Refreshes (s t : State) : Prop :=
  (∃ img ch, t = { s with act := { s.act with ch := ch }, cfg := { s.cfg with inForce := img } }) ∧
  t.act.ch.length = s.act.ch.length ∧
  ∀ m, (t.ach m).stays = (s.ach m).stays ∧ ((s.ach m).flSync = true → (t.ach m).flSync = true)

theorem Refreshes.refl (s : State) : Refreshes s s := ⟨⟨_, _, rfl⟩, rfl, fun _ => ⟨rfl, id⟩⟩

theorem Refreshes.trans {s t u : State} (h : Refreshes s t) (g : Refreshes t u) : Refreshes s u := by
  obtain ⟨⟨img, ch, rfl⟩, hl, hc⟩ := h
  obtain ⟨⟨img', ch', rfl⟩, gl, gc⟩ := g
  exact ⟨⟨img', ch', rfl⟩, gl.trans hl, fun m => ⟨(gc m).1.trans (hc m).1, (gc m).2 ∘ (hc m).2⟩⟩

theorem updCh_refreshes (n : Nat) {f : ActCh → ActCh} (s : State) (hf : ∀ c, (f c).stays = c.stays)
    (hs : ∀ c, c.flSync = true → (f c).flSync = true) : Refreshes s (updCh n f s) := by
  refine ⟨⟨s.cfg.inForce, _, rfl⟩, upd_length .., fun m => ?_⟩
  rw [ach_updCh]
  split
  · exact ⟨hf _, hs _⟩
  · exact ⟨rfl, id⟩

theorem heldCurrent_refreshes (n : Nat) (s : State) : Refreshes s (heldCurrent n s) :=
  updCh_refreshes n s (by intro c; rfl) (by intro c h; exact h)

theorem image_refreshes (img : Image) (s : State) : Refreshes s { s with cfg.inForce := img } :=
  ⟨⟨img, s.act.ch, rfl⟩, rfl, fun _ => ⟨rfl, id⟩⟩

theorem actLive_refreshes (n : Nat) (s : State) : Refreshes s (actLive n s) := by
  unfold actLive
  extract_lets masks new old retry s1 s2
  split
  · exact .refl s
  · exact (image_refreshes _ s).trans ((updCh_refreshes n _ (by intro c; rfl) (by intro c h; exact h)).trans
      (updCh_refreshes _ _ (by intro c; rfl) (by intro c _; rfl)))

/-- R34: the live fields of the channels before N have taken effect: no mode has changed, and the section reaches as far. -/
def ModesKept (s t : State) (N : Nat) : Prop :=
  (∀ j, t.actMode j = s.actMode j) ∧
  (Sec.index .act < t.cfg.inForce.length → 6 * N ≤ (t.cfg.inForce.sec .act).length)

theorem actLive_modesKept {s t : State} {n : Nat} (h : ModesKept s t n) : ModesKept s (actLive n t) (n + 1) := by
  obtain ⟨hm, hl⟩ := h
  unfold actLive
  extract_lets masks new old retry s1 s2
  have hnew : new.length = 6 := rfl
  split
  · next he =>
    refine ⟨hm, fun hi => ?_⟩
    have : old.length = 6 := he ▸ hnew
    simp only [old, Image.inst, List.length_take, List.length_drop] at this
    have hw : Sec.words .act = 6 := rfl
    rw [hw] at this
    omega
  · refine ⟨fun j => ?_, setWords_act_length hnew hl⟩
    refine Eq.trans ?_ (hm j)
    change fld ((t.cfg.inForce.setWords .act (6 * n) new).word .act j 0) 31 29 = fld (t.cfg.inForce.word .act j 0) 31 29
    rw [setWords_act_word hnew hl]
    split
    · next hj =>
      obtain ⟨rfl, -⟩ := hj
      exact fld_merge_of_unmasked (by decide) (by decide)
    · rfl

/-- R34: in their order, the channels' live fields take effect. -/
def channelsLive (s : State) : State := (List.range 32).foldl (fun a n => heldCurrent n (actLive n a)) s

theorem channelsLive_spec (s : State) : Refreshes s (channelsLive s) ∧ ∀ j, (channelsLive s).actMode j = s.actMode j := by
  have h (N : Nat) : ModesKept s ((List.range N).foldl (fun a n => heldCurrent n (actLive n a)) s) N := by
    induction N with
    | zero => exact ⟨fun _ => rfl, fun _ => by omega⟩
    | succ N ih =>
      rw [List.range_succ, List.foldl_append]
      exact actLive_modesKept ih
  exact ⟨List.foldlRecOn (motive := Refreshes s) _ _ (.refl s) fun t ht n _ =>
    ht.trans ((actLive_refreshes n t).trans (heldCurrent_refreshes n _)), (h 32).1⟩

theorem actDevLive_spec (s : State) : Refreshes s (actDevLive s) ∧ ∀ j, (actDevLive s).actMode j = s.actMode j := by
  refine ⟨image_refreshes _ s, fun j => ?_⟩
  have hsec : (actDevLive s).cfg.inForce.sec .act = s.cfg.inForce.sec .act :=
    (sec_setWord_ne _ _ _ (by decide)).trans (sec_setWord_ne _ _ _ (by decide))
  unfold State.actMode State.af State.cf State.cw Image.word
  rw [hsec]

end Sys2Proof.Machine

namespace Sys2Proof.Machine

/-! PROOFS. The parts of a PWM period, in their order (R237). -/

/-! ## Folds over the channels -/

/-- What a fold over the numbers below N makes of the part that n alone touches: one step of n, on a state met on the way. -/
theorem foldl_at {β γ : Type} {f : β → Nat → β} {R : β → Prop} (part : β → γ) {N n : Nat} {b : β} (hn : n < N) (hb : R b)
    (hR : ∀ t j, j < N → R t → R (f t j)) (hne : ∀ t j, j < N → R t → j ≠ n → part (f t j) = part t) :
    ∃ t, R t ∧ part t = part b ∧ part ((List.range N).foldl f b) = part (f t n) := by
  induction N with
  | zero => omega
  | succ N ih =>
    have keep (M : Nat) (hM : M ≤ N) : R ((List.range M).foldl f b) :=
      List.foldlRecOn (motive := R) _ _ hb fun t ht j hj => hR t j (by have := List.mem_range.mp hj; omega) ht
    rw [List.range_succ, List.foldl_append, List.foldl_cons, List.foldl_nil]
    by_cases h : n = N
    · subst h
      refine ⟨_, keep n (Nat.le_refl n), ?_, rfl⟩
      refine (List.foldlRecOn (motive := fun t => R t ∧ part t = part b) _ _ ⟨hb, rfl⟩ fun t ht j hj => ?_).2
      have hj := List.mem_range.mp hj
      exact ⟨hR t j (by omega) ht.1, (hne t j (by omega) ht.1 (by omega)).trans ht.2⟩
    · obtain ⟨t, ht, hp, he⟩ := ih (by omega) (fun t j hj => hR t j (by omega)) fun t j hj => hne t j (by omega)
      exact ⟨t, ht, hp, (hne _ N (by omega) (keep N (Nat.le_refl N)) (Ne.symm h)).trans he⟩

/-- An update of each channel by itself. -/
theorem foldl_updCh_ach {g : Nat → ActCh → ActCh} {s : State} {n : Nat} (hn : n < 32) (hl : n < s.act.ch.length) :
    ((List.range 32).foldl (fun a j => updCh j (g j) a) s).ach n = g n (s.ach n) := by
  obtain ⟨t, ht, hp, he⟩ := foldl_at (f := fun a j => updCh j (g j) a) (R := fun t : State => t.act.ch.length = s.act.ch.length)
    (fun t : State => t.ach n) hn rfl (fun t j _ h => (upd_length ..).trans h) fun t j _ _ hj => ach_updCh_ne hj ..
  rw [he, updCh_ach_self _ _ _ (by rw [ht]; exact hl), hp]

/-! ## The readings and the live fields (R34, R136, R221) -/

/-- R136, R221: the readings of the period that ended. -/
def pwmReadings (raw : List Nat) (s : State) : State :=
  (List.range 32).foldl (fun a n =>
    updCh n (fun c => { c with iMeas := senseCorrect (nth s.stone.agerr n) (nth raw n) }) a) s

/-- R136: sense gains are latched. -/
def latchGains (l : List Int) (s : State) : State := { s with stone.agerr := l }

/-- R136, R221: the readings of the period that ended, and the sense gains of the one that begins. -/
def pwmRead (raw : List Nat) (s : State) : State := latchGains s.coefs.act (pwmReadings raw s)

/-- The state in which a PWM period evaluates its channels. -/
def pwmFresh (raw : List Nat) (s : State) : State := actDevLive (channelsLive (pwmRead raw s))

/-- A channel without what comes before its evaluation in a PWM period. -/
def ActCh.fresh (c : ActCh) : ActCh := { c.stays with iMeas := 0 }

section
variable {s t : State}

theorem Refreshes.length (h : Refreshes s t) : t.act.ch.length = s.act.ch.length := by
  obtain ⟨-, hl, -⟩ := h
  exact hl

theorem Refreshes.fresh (h : Refreshes s t) (n : Nat) : (t.ach n).fresh = (s.ach n).fresh := by
  obtain ⟨-, -, hc⟩ := h
  exact congrArg (fun c : ActCh => ({ c with iMeas := 0 } : ActCh)) (hc n).1

theorem Refreshes.iMeas (h : Refreshes s t) (n : Nat) : (t.ach n).iMeas = (s.ach n).iMeas := by
  obtain ⟨-, -, hc⟩ := h
  exact (congrArg ActCh.iMeas (hc n).1 :)

theorem Refreshes.flSync (h : Refreshes s t) {n : Nat} (hs : (s.ach n).flSync = true) : (t.ach n).flSync = true := by
  obtain ⟨-, -, hc⟩ := h
  exact (hc n).2 hs

end

/-- A channel without its reading. -/
def ActCh.unread (c : ActCh) : ActCh := { c with iMeas := 0 }

theorem ActCh.fresh_of_unread {c d : ActCh} (h : c.unread = d.unread) : c.fresh = d.fresh := (congrArg ActCh.stays h :)

theorem ActCh.flSync_of_unread {c d : ActCh} (h : c.unread = d.unread) : c.flSync = d.flSync := (congrArg ActCh.flSync h :)

section
variable {s : State} (raw : List Nat) (hl : s.act.ch.length = 32)

theorem pwmReadings_frame (s : State) : ∃ ch, pwmReadings raw s = { s with act := { s.act with ch := ch } } :=
  List.foldlRecOn (motive := fun t : State => ∃ ch, t = { s with act := { s.act with ch := ch } }) _ _ ⟨s.act.ch, rfl⟩
    fun t ht n _ => by
      obtain ⟨ch, rfl⟩ := ht
      exact ⟨_, rfl⟩

theorem pwmRead_frame (s : State) : ∃ ch, pwmRead raw s =
    { s with act := { s.act with ch := ch }, stone := { s.stone with agerr := s.coefs.act } } := by
  obtain ⟨ch, hch⟩ := pwmReadings_frame raw s
  exact ⟨ch, by rw [pwmRead, hch]; rfl⟩

theorem latchGains_ach (l : List Int) (s : State) (n : Nat) : (latchGains l s).ach n = s.ach n := rfl

theorem pwmReadings_leaves (s : State) : Leaves ActCh.unread s (pwmReadings raw s) :=
  Leaves.foldl (fun t n => updCh_leaves n (by intro c; rfl) t) _ s

theorem pwmRead_unread (s : State) (n : Nat) : ((pwmRead raw s).ach n).unread = (s.ach n).unread := by
  rw [pwmRead, latchGains_ach, (pwmReadings_leaves raw s).ach]

theorem latchGains_length (l : List Int) (s : State) : (latchGains l s).act.ch.length = s.act.ch.length := rfl

theorem pwmRead_length (s : State) : (pwmRead raw s).act.ch.length = s.act.ch.length := by
  rw [pwmRead, latchGains_length, (pwmReadings_leaves raw s).length]

include hl

theorem pwmRead_iMeas {n : Nat} (hn : n < 32) :
    ((pwmRead raw s).ach n).iMeas = senseCorrect (nth s.stone.agerr n) (nth raw n) := by
  rw [pwmRead, latchGains_ach, pwmReadings, foldl_updCh_ach
    (g := fun n c => { c with iMeas := senseCorrect (nth s.stone.agerr n) (nth raw n) }) hn (by omega)]

omit hl in
theorem pwmFresh_refreshes (s : State) : Refreshes (pwmRead raw s) (pwmFresh raw s) :=
  (channelsLive_spec _).1.trans (actDevLive_spec _).1

omit hl in
theorem pwmFresh_frame (s : State) : ∃ img ch, pwmFresh raw s = { s with
    act := { s.act with ch := ch }, stone := { s.stone with agerr := s.coefs.act },
    cfg := { s.cfg with inForce := img } } := by
  obtain ⟨ch, hr⟩ := pwmRead_frame raw s
  obtain ⟨⟨img, ch', hf⟩, -⟩ := pwmFresh_refreshes raw s
  exact ⟨img, ch', by rw [hf, hr]⟩

omit hl in
theorem pwmFresh_actMode (s : State) : (pwmFresh raw s).actMode = s.actMode := by
  obtain ⟨ch, hr⟩ := pwmRead_frame raw s
  have hm : (pwmRead raw s).actMode = s.actMode := by rw [hr]; rfl
  funext j
  rw [← hm]
  exact ((actDevLive_spec _).2 j).trans ((channelsLive_spec _).2 j)

omit hl in
theorem pwmFresh_floatPair (s : State) : (pwmFresh raw s).floatPair = s.floatPair := by
  unfold State.floatPair
  rw [pwmFresh_actMode]

theorem pwmFresh_length : (pwmFresh raw s).act.ch.length = 32 := by
  rw [(pwmFresh_refreshes raw s).length, pwmRead_length, hl]

omit hl in
theorem pwmFresh_fresh (s : State) (n : Nat) : ((pwmFresh raw s).ach n).fresh = (s.ach n).fresh :=
  ((pwmFresh_refreshes raw s).fresh n).trans (ActCh.fresh_of_unread (pwmRead_unread raw s n))

omit hl in
theorem pwmFresh_flSync (n : Nat) (h : (s.ach n).flSync = true) : ((pwmFresh raw s).ach n).flSync = true :=
  (pwmFresh_refreshes raw s).flSync ((ActCh.flSync_of_unread (pwmRead_unread raw s n)).trans h)

theorem pwmFresh_iMeas {n : Nat} (hn : n < 32) :
    ((pwmFresh raw s).ach n).iMeas = senseCorrect (nth s.stone.agerr n) (nth raw n) :=
  ((pwmFresh_refreshes raw s).iMeas n).trans (pwmRead_iMeas raw hl hn)

end

/-! ## The evaluation of the channels (R237) -/

/-- R237: the evaluation of a channel, that of a FLOAT pair with its even one. -/
def pwmChannel (a : State) (n : Nat) : State :=
  if a.floatPair (n / 2) then (if n % 2 = 0 then floatControl (n / 2) a else a) else chanStep n a

def pwmEvaluate (s : State) : State := (List.range 32).foldl pwmChannel s

theorem pwmChannel_leaves {n : Nat} {s : State} (hn : n < s.act.ch.length) : Leaves ActCh.given s (pwmChannel s n) := by
  unfold pwmChannel
  split
  · split
    · exact floatControl_leaves (by omega)
    · exact .refl _ s
  · exact chanStep_leaves n s

section
variable {s : State} (hl : s.act.ch.length = 32)
include hl

theorem pwmChannel_leaves_of {t : State} {j : Nat} (hj : j < 32) (h : Leaves ActCh.given s t) :
    Leaves ActCh.given s (pwmChannel t j) :=
  h.trans (pwmChannel_leaves (by rw [h.length, hl]; exact hj))

theorem pwmEvaluate_leaves : Leaves ActCh.given s (pwmEvaluate s) :=
  List.foldlRecOn (motive := Leaves ActCh.given s) _ _ (.refl _ s) fun _ ht _ hj =>
    pwmChannel_leaves_of hl (List.mem_range.mp hj) ht

/-- A channel of no FLOAT pair takes one step. -/
theorem pwmEvaluate_channel {n : Nat} (hn : n < 32) (hf : s.floatPair (n / 2) = false) :
    ∃ t, Leaves ActCh.given s t ∧ t.ach n = s.ach n ∧ (pwmEvaluate s).ach n = (chanStep n t).ach n := by
  obtain ⟨t, ht, hp, he⟩ := foldl_at (f := pwmChannel) (R := Leaves ActCh.given s) (fun t : State => t.ach n) hn (.refl _ s)
    (fun t j hj h => pwmChannel_leaves_of hl hj h) fun t j hj h hjn => by
      unfold pwmChannel
      split
      · next hfl =>
        have hne : n / 2 ≠ j / 2 := by
          rintro hdiv
          rw [h.floatPair, ← hdiv, hf] at hfl
          exact absurd hfl (by decide)
        split
        · exact floatControl_ach_ne hne (by rw [h.length]; omega)
        · rfl
      · exact chanStep_ach_ne hjn
  refine ⟨t, ht, hp, he.trans ?_⟩
  rw [pwmChannel, if_neg (by rw [ht.floatPair, hf]; decide)]

/-- A FLOAT pair is evaluated once. -/
theorem pwmEvaluate_pair {k : Nat} (hk : k < 16) (hf : s.floatPair k = true) :
    ∃ t, Leaves ActCh.given s t ∧ (∀ m, m / 2 = k → t.ach m = s.ach m) ∧
      ∀ m, m / 2 = k → (pwmEvaluate s).ach m = (floatControl k t).ach m := by
  have pair {t u : State} (h : (t.ach (2 * k), t.ach (2 * k + 1)) = (u.ach (2 * k), u.ach (2 * k + 1))) (m : Nat)
      (hm : m / 2 = k) : t.ach m = u.ach m := by
    obtain ⟨h0, h1⟩ := Prod.mk.inj h
    have : m = 2 * k ∨ m = 2 * k + 1 := by omega
    rcases this with rfl | rfl
    · exact h0
    · exact h1
  obtain ⟨t, ht, hp, he⟩ := foldl_at (f := pwmChannel) (R := Leaves ActCh.given s)
    (fun t : State => (t.ach (2 * k), t.ach (2 * k + 1))) (show 2 * k < 32 by omega) (.refl _ s)
    (fun t j hj h => pwmChannel_leaves_of hl hj h) fun t j hj h hjn => by
      unfold pwmChannel
      split
      · split
        · rw [floatControl_ach_ne (by omega) (by rw [h.length]; omega), floatControl_ach_ne (by omega) (by rw [h.length]; omega)]
        · rfl
      · next hfl =>
        have hdiv : j ≠ 2 * k + 1 := by
          rintro rfl
          rw [h.floatPair, show (2 * k + 1) / 2 = k by omega, hf] at hfl
          exact hfl rfl
        rw [chanStep_ach_ne hjn, chanStep_ach_ne hdiv]
  refine ⟨t, ht, pair hp, fun m hm => ?_⟩
  have hm := pair he m hm
  rw [pwmEvaluate, hm, pwmChannel, show 2 * k / 2 = k by omega, ht.floatPair, if_pos hf, if_pos (by omega)]

end

end Sys2Proof.Machine

namespace Sys2Proof.Machine

/-! PROOFS. What a PWM period books, the allocation of its current, and the period as a whole (R237-R241). -/

/-! ## What is booked (R123, R239, R245) -/

/-- A channel without its condition in force and its duty. -/
def ActCh.unbooked (c : ActCh) : ActCh := { c with cond := 0, ovr := false, curOn := 0, curAll := 0 }

/-- A channel without its share of the current. -/
def ActCh.unallocated (c : ActCh) : ActCh := { c with iSet := 0, scaled := false, dithPh := 0 }

/-- A channel without the note of a pull-in pending. -/
def ActCh.unnoted (c : ActCh) : ActCh := { c with pullMc := 0 }

theorem ActCh.driven_of_unbooked {c d : ActCh} (h : c.unbooked = d.unbooked) : c.driven = d.driven := (congrArg ActCh.driven h :)
theorem ActCh.driven_of_unallocated {c d : ActCh} (h : c.unallocated = d.unallocated) : c.driven = d.driven :=
  (congrArg ActCh.driven h :)
theorem ActCh.driven_of_unnoted {c d : ActCh} (h : c.unnoted = d.unnoted) : c.driven = d.driven := (congrArg ActCh.driven h :)

/-- R239, R245: the conditions in force and the duty of every channel. -/
def pwmBook (s : State) : State := (List.range 32).foldl (fun a n => dutyCount n (actOverride n a)) s

/-- R123: the pull-ins pending. -/
def pwmNote (s : State) : State := (List.range 32).foldl (fun a n => notePull n a) s

theorem actOverride_leaves (n : Nat) (s : State) : Leaves ActCh.unbooked s (actOverride n s) :=
  updCh_leaves n (by intro c; rfl) s

theorem dutyCount_leaves (n : Nat) (s : State) : Leaves ActCh.unbooked s (dutyCount n s) :=
  updCh_leaves n (by intro c; rfl) s

theorem pwmBook_leaves (s : State) : Leaves ActCh.unbooked s (pwmBook s) :=
  .foldl (fun t n => (actOverride_leaves n t).trans (dutyCount_leaves n _)) _ s

theorem pwmNote_leaves (s : State) : Leaves ActCh.unnoted s (pwmNote s) :=
  .foldl (fun t n => by
    unfold notePull
    split
    · exact updCh_leaves n (by intro c; rfl) t
    · exact .refl _ t) _ s

theorem allocate_leaves (s : State) : Leaves ActCh.unallocated s (allocate s) :=
  .foldl (fun t n => updCh_leaves n (by intro c; rfl) t) _ s

theorem Leaves.hotHeld {s t : State} (h : Leaves ActCh.driven s t) (n : Nat) : t.hotHeld n = s.hotHeld n := by
  have hot (m : Nat) : (t.ach m).chOt = (s.ach m).chOt := (congrArg ActCh.chOt (h.ach m) :)
  rw [State.hotHeld, State.hotHeld, hot, hot, h.floatPair]

/-- R237, R245: the condition in force and the override bit. -/
def ActCh.override (c : ActCh) : Nat × Bool := (c.cond, c.ovr)

/-- R237, R245: each channel keeps its condition in force and its override bit. -/
theorem pwmBook_override {s : State} {n : Nat} (hn : n < 32) (hl : s.act.ch.length = 32) :
    ((pwmBook s).ach n).override = (s.actCond n, s.actCond n != 0 || s.hotHeld n) := by
  obtain ⟨t, ht, -, he⟩ := foldl_at (f := fun a n => dutyCount n (actOverride n a)) (R := Leaves ActCh.unbooked s)
    (fun t : State => t.ach n) hn (.refl _ s)
    (fun t j _ h => h.trans ((actOverride_leaves j t).trans (dutyCount_leaves j _)))
    fun t j _ _ hj => (ach_updCh_ne hj ..).trans (ach_updCh_ne hj ..)
  have hd : Leaves ActCh.driven s t := ht.mono fun _ _ => ActCh.driven_of_unbooked
  have ho : (actOverride n t).ach n =
      { t.ach n with cond := t.actCond n, ovr := t.actCond n != 0 || t.hotHeld n } :=
    updCh_ach_self n _ t (by rw [ht.length]; omega)
  have hln : n < (actOverride n t).act.ch.length := by rw [(actOverride_leaves n t).length, ht.length]; omega
  rw [pwmBook, he, dutyCount, updCh_ach_self _ _ _ hln, ho, hd.asked_of_driven.actCond, hd.hotHeld]
  rfl

/-! ## The allocation (R241) -/

theorem nth_map_range {α : Type} [Inhabited α] (f : Nat → α) {N i : Nat} (h : i < N) : nth ((List.range N).map f) i = f i := by
  simp [nth, List.getD_eq_getElem?_getD, h]

/-- R241: the factor of a channel: its bank's and the device's. -/
def State.share (s : State) (n : Nat) : Rat :=
  s.bankFactor (n / 4) * s.devFactor ((List.range 8).map s.bankFactor)

theorem allocate_ach {s : State} {n : Nat} (hn : n < 32) (hl : s.act.ch.length = 32) : (allocate s).ach n =
    { s.ach n with
      iSet := s.iTarget n (s.share n),
      scaled := decide (s.share n < 1) && (s.ach n).ph == .on && (s.actMode n == 1 || s.actMode n == 3),
      dithPh := ((s.ach n).dithPh + s.af n 4 29 20) % 20000 } := by
  have h : nth ((List.range 8).map s.bankFactor) (n / 4) = s.bankFactor (n / 4) := nth_map_range _ (by omega)
  unfold allocate State.share
  dsimp only
  rw [foldl_updCh_ach (g := fun n c => { c with
    iSet := s.iTarget n (nth ((List.range 8).map s.bankFactor) (n / 4) * s.devFactor ((List.range 8).map s.bankFactor)),
    scaled := decide (nth ((List.range 8).map s.bankFactor) (n / 4) * s.devFactor ((List.range 8).map s.bankFactor) < 1) &&
      (s.ach n).ph == .on && (s.actMode n == 1 || s.actMode n == 3),
    dithPh := (c.dithPh + s.af n 4 29 20) % 20000 }) hn (by omega), h]

theorem fixedLoad_eq (s : State) (n : Nat) : s.fixedLoad n =
    if (s.ach n).ph ≠ .on ∧ (s.ach n).inPeak = false then 0
    else if s.actMode n = 2 then s.iHoldMa n
    else if s.floatPair (n / 2) then s.iMaxMa (n - n % 2) else 0 := by
  unfold State.fixedLoad
  by_cases h1 : (s.ach n).ph = .on
  · simp [h1]
  · cases h2 : (s.ach n).inPeak <;> simp [h1, h2]

theorem scalable_eq (s : State) (n : Nat) : s.scalable n =
    if (s.ach n).ph ≠ .on then 0
    else if s.actMode n = 1 then ((s.actWant n).getD 0 : Rat) / 65536 * (s.iMaxMa n : Rat)
    else if s.actMode n = 3 then (s.iHoldMa n : Rat) else 0 := by
  unfold State.scalable
  split
  · rfl
  · split
    · next h1 hw => simp [h1, hw]
    · next h3 => simp [h3]
    · next h3 h1 =>
      have hm3 : s.actMode n ≠ 3 := h3
      by_cases hm : s.actMode n = 1
      · cases hw : s.actWant n with
        | none => simp [hm]
        | some r => exact absurd hw (h1 r hm)
      · simp [hm, hm3]

/-- R241: the device's factor, from the banks' factors. -/
theorem devFactor_banks (s : State) : s.devFactor ((List.range 8).map s.bankFactor) =
    if ((List.range 32).map (fun n => s.bankFactor (n / 4) * s.scalable n)).sum = 0 then 1
    else clampQ (((s.devLim : Int) - s.devFixed : Int) /
      ((List.range 32).map (fun n => s.bankFactor (n / 4) * s.scalable n)).sum) 0 1 := by
  have h : (List.range 32).map (fun n => nth ((List.range 8).map s.bankFactor) (n / 4) * s.scalable n) =
      (List.range 32).map (fun n => s.bankFactor (n / 4) * s.scalable n) :=
    List.map_congr_left fun n hn => by
      have := List.mem_range.mp hn
      rw [nth_map_range _ (by omega)]
  unfold State.devFactor
  rw [h]

section
variable {s t : State} (h : Leaves ActCh.driven s t)
include h

theorem Leaves.ph (n : Nat) : (t.ach n).ph = (s.ach n).ph := (congrArg ActCh.ph (h.ach n) :)

theorem Leaves.inPeak (n : Nat) : (t.ach n).inPeak = (s.ach n).inPeak := by rw [ActCh.inPeak, ActCh.inPeak, h.ph]

theorem Leaves.fixedLoad : t.fixedLoad = s.fixedLoad := by
  funext n
  rw [fixedLoad_eq, fixedLoad_eq, h.ph, h.inPeak, h.actMode, iHoldMa_congr h.cfg, iMaxMa_congr h.cfg, h.floatPair]

theorem Leaves.scalable : t.scalable = s.scalable := by
  funext n
  rw [scalable_eq, scalable_eq, h.ph, h.actMode, h.asked_of_driven.actWant, iHoldMa_congr h.cfg, iMaxMa_congr h.cfg]

theorem Leaves.bankFactor : t.bankFactor = s.bankFactor := by
  funext b
  unfold State.bankFactor State.bankFixed
  rw [h.fixedLoad, h.scalable, bankLim_congr h.cfg]

theorem Leaves.share : t.share = s.share := by
  funext n
  unfold State.share State.devFactor State.devFixed
  rw [h.bankFactor, h.fixedLoad, h.scalable, devLim_congr h.cfg]

end

end Sys2Proof.Machine

namespace Sys2Proof.Machine

/-! PROOFS. The PWM period: its readings and conditions, its channels, its allocation and its FLOAT pairs (R237). -/

/-! ## The period as a whole -/

/-- A channel without what a PWM period changes once the live fields have taken effect. -/
def ActCh.through (c : ActCh) : ActCh := c.given.driven

theorem ActCh.through_of_given {c d : ActCh} (h : c.given = d.given) : c.through = d.through := congrArg ActCh.driven h

theorem ActCh.through_of_driven {c d : ActCh} (h : c.driven = d.driven) : c.through = d.through :=
  (congrArg ActCh.given h :)

theorem ActCh.asked_of_through {c d : ActCh} (h : c.through = d.through) : c.asked = d.asked := (congrArg ActCh.asked h :)

section
variable {s : State} (raw : List Nat) (hrel : s.released = true) (hp : s.clk.pllLocked = true)
include hrel hp

theorem pwmPeriod_eq : pwmPeriod raw s = pwmNote (allocate (pwmBook (pwmEvaluate (pwmFresh raw s)))) := by
  have hgo : ¬(!s.released || !s.clk.pllLocked) = true := by simp [hrel, hp]
  exact if_neg hgo

/-- What follows the evaluation books and allocates. -/
theorem pwmPeriod_driven : Leaves ActCh.driven (pwmEvaluate (pwmFresh raw s)) (pwmPeriod raw s) := by
  rw [pwmPeriod_eq raw hrel hp]
  exact ((pwmBook_leaves _).mono fun _ _ => ActCh.driven_of_unbooked).trans
    (((allocate_leaves _).mono fun _ _ => ActCh.driven_of_unallocated).trans
      ((pwmNote_leaves _).mono fun _ _ => ActCh.driven_of_unnoted))

variable (hl : s.act.ch.length = 32)
include hl

theorem pwmPeriod_through : Leaves ActCh.through (pwmFresh raw s) (pwmPeriod raw s) :=
  ((pwmEvaluate_leaves (pwmFresh_length raw hl)).mono fun _ _ => ActCh.through_of_given).trans
    ((pwmPeriod_driven raw hrel hp).mono fun _ _ => ActCh.through_of_driven)

theorem pwmPeriod_asked : Leaves ActCh.asked (pwmFresh raw s) (pwmPeriod raw s) :=
  (pwmPeriod_through raw hrel hp hl).mono fun _ _ => ActCh.asked_of_through

theorem pwmPeriod_override {n : Nat} (hn : n < 32) : ((pwmPeriod raw s).ach n).override =
    ((pwmPeriod raw s).actCond n, (pwmPeriod raw s).actCond n != 0 || (pwmPeriod raw s).hotHeld n) := by
  have hlen : (pwmEvaluate (pwmFresh raw s)).act.ch.length = 32 :=
    (pwmEvaluate_leaves (pwmFresh_length raw hl)).length.trans (pwmFresh_length raw hl)
  have hd := pwmPeriod_driven raw hrel hp
  have ho : Leaves ActCh.override (pwmBook (pwmEvaluate (pwmFresh raw s))) (pwmPeriod raw s) := by
    rw [pwmPeriod_eq raw hrel hp]
    exact ((allocate_leaves _).mono fun _ _ h => (congrArg ActCh.override h :)).trans
      ((pwmNote_leaves _).mono fun _ _ h => (congrArg ActCh.override h :))
  have he := (ho.ach n).trans (pwmBook_override hn hlen)
  rw [hd.asked_of_driven.actCond, hd.hotHeld]
  exact he

end

/-! ## One channel (R229, R237, R238) -/

/-- What a channel may do depends on what is wanted of it, on its configuration, and on itself. -/
theorem mayConduct_congr {s t : State} {n : Nat} (hw : t.actWant n = s.actWant n) (hc : t.cfg = s.cfg)
    (h : (t.ach n).driven = (s.ach n).driven) : t.mayConduct n = s.mayConduct n := by
  have hth : (t.ach n).thOn = (s.ach n).thOn := (congrArg ActCh.thOn h :)
  have hot : (t.ach n).chOt = (s.ach n).chOt := (congrArg ActCh.chOt h :)
  have hdh : (t.ach n).dutyHold = (s.ach n).dutyHold := (congrArg ActCh.dutyHold h :)
  have hm : t.actMode n = s.actMode n := by
    unfold State.actMode State.af State.cf State.cw
    rw [hc]
  rw [State.mayConduct, State.mayConduct, State.actAsks, State.actAsks, hw, hm, hth, hot, hdh, iMaxMa_congr hc]

/-- t is a state in the PWM period from s to u, in which a channel or pair takes its turn. -/
structure MidPeriod (s t u : State) : Prop where
  length : t.act.ch.length = 32
  cfg : u.cfg = t.cfg
  sup : t.sup = s.sup
  chain : t.chain = s.chain
  mode : t.actMode = s.actMode
  want : ∀ n, u.actWant n = t.actWant n
  cond : ∀ n, u.actCond n = t.actCond n

section
variable {s : State} (raw : List Nat) (hrel : s.released = true) (hp : s.clk.pllLocked = true) (hl : s.act.ch.length = 32)
include hrel hp hl

theorem midPeriod_of_leaves {t : State} (h : Leaves ActCh.given (pwmFresh raw s) t) : MidPeriod s t (pwmPeriod raw s) := by
  have ha := pwmPeriod_asked raw hrel hp hl
  obtain ⟨img, ch, hf⟩ := pwmFresh_frame raw s
  exact ⟨h.length.trans (pwmFresh_length raw hl), ha.cfg.trans h.cfg.symm, h.sup.trans (by rw [hf]),
    h.chain.trans (by rw [hf]), h.actMode.trans (pwmFresh_actMode raw s),
    fun n => (ha.actWant n).trans (h.asked.actWant n).symm, fun n => (ha.actCond n).trans (h.asked.actCond n).symm⟩

/-- R237: a channel of no FLOAT pair takes one step in the period. -/
theorem pwmPeriod_channel {n : Nat} (hn : n < 32) (hf : s.floatPair (n / 2) = false) :
    ∃ t, MidPeriod s t (pwmPeriod raw s) ∧ (t.ach n).fresh = (s.ach n).fresh ∧
      ((pwmPeriod raw s).ach n).driven = ((chanStep n t).ach n).driven := by
  obtain ⟨t, ht, hat, he⟩ := pwmEvaluate_channel (pwmFresh_length raw hl) hn (by rw [pwmFresh_floatPair]; exact hf)
  exact ⟨t, midPeriod_of_leaves raw hrel hp hl ht, by rw [hat, pwmFresh_fresh],
    by rw [(pwmPeriod_driven raw hrel hp).ach, he]⟩

/-- R235: a FLOAT pair is evaluated once in the period. -/
theorem pwmPeriod_pair {k : Nat} (hk : k < 16) (hf : s.floatPair k = true) :
    ∃ t, MidPeriod s t (pwmPeriod raw s) ∧ (∀ m, m / 2 = k → (t.ach m).fresh = (s.ach m).fresh ∧
      ((s.ach m).flSync = true → (t.ach m).flSync = true) ∧
      ((pwmPeriod raw s).ach m).driven = ((floatControl k t).ach m).driven) := by
  obtain ⟨t, ht, hat, he⟩ := pwmEvaluate_pair (pwmFresh_length raw hl) hk (by rw [pwmFresh_floatPair]; exact hf)
  exact ⟨t, midPeriod_of_leaves raw hrel hp hl ht, fun m hm => ⟨by rw [hat m hm, pwmFresh_fresh],
    fun h => by rw [hat m hm]; exact pwmFresh_flSync raw m h, by rw [(pwmPeriod_driven raw hrel hp).ach, he m hm]⟩⟩

end

theorem MidPeriod.of_leaves {s t t' u : State} (h : MidPeriod s t u) (hl : Leaves ActCh.given t t') : MidPeriod s t' u :=
  ⟨hl.length.trans h.length, h.cfg.trans hl.cfg.symm, hl.sup.trans h.sup, hl.chain.trans h.chain, hl.actMode.trans h.mode,
    fun n => (h.want n).trans (hl.asked.actWant n).symm, fun n => (h.cond n).trans (hl.asked.actCond n).symm⟩

theorem MidPeriod.actMode {s t u : State} (h : MidPeriod s t u) (n : Nat) : t.actMode n = u.actMode n := by
  unfold State.actMode State.af State.cf State.cw
  rw [h.cfg]

section
variable {s t u : State} {n : Nat} (h : MidPeriod s t u) (hc : (t.ach n).fresh = (s.ach n).fresh)
  (hu : (u.ach n).driven = ((chanStep n t).ach n).driven)
include h hc hu

/-- What the statement of a channel's step calls to conduct. -/
theorem conduct_eq : (u.actAsks n && !(s.ach n).chOt && !(s.ach n).dutyHold) = (chanStep n t).mayConduct n := by
  have hg := chanStep_leaves n t
  have hot : (u.ach n).chOt = (s.ach n).chOt :=
    ((congrArg ActCh.chOt hu :).trans (congrArg ActCh.chOt (hg.ach n) :)).trans (congrArg ActCh.chOt hc :)
  have hdh : (u.ach n).dutyHold = (s.ach n).dutyHold :=
    ((congrArg ActCh.dutyHold hu :).trans (congrArg ActCh.dutyHold (hg.ach n) :)).trans (congrArg ActCh.dutyHold hc :)
  rw [← hot, ← hdh]
  exact mayConduct_congr ((h.want n).trans (hg.asked.actWant n).symm) (h.cfg.trans hg.cfg.symm) hu

variable (hn : n < 32)
include hn

theorem channel_of_on (hph : (s.ach n).ph = .on) : (u.ach n).ph =
    if u.actAsks n && !(s.ach n).chOt && !(s.ach n).dutyHold then .on else .decay := by
  have hv : (u.ach n).ph = ((chanStep n t).ach n).ph := (congrArg ActCh.ph hu :)
  rw [conduct_eq h hc hu, hv]
  exact chanStep_ph_of_on (by rw [h.length]; exact hn) ((congrArg ActCh.ph hc :).trans hph)

theorem channel_of_decay (hph : (s.ach n).ph = .decay) : (u.ach n).ph = .decay := by
  have hv : (u.ach n).ph = ((chanStep n t).ach n).ph := (congrArg ActCh.ph hu :)
  rw [hv]
  exact chanStep_ph_of_decay (by rw [h.length]; exact hn) ((congrArg ActCh.ph hc :).trans hph)

theorem channel_of_peak {b : Bool} (hph : (s.ach n).ph = .peak b) : (u.ach n).ph =
    if (s.ach n).cond < u.actCond n ∨ (s.ach n).chOt = true then
      (if u.actAsks n && !(s.ach n).chOt && !(s.ach n).dutyHold then .on else .decay) else .peak b := by
  have hv : (u.ach n).ph = ((chanStep n t).ach n).ph := (congrArg ActCh.ph hu :)
  have hcond : (t.ach n).cond = (s.ach n).cond := (congrArg ActCh.cond hc :)
  have hot : (t.ach n).chOt = (s.ach n).chOt := (congrArg ActCh.chOt hc :)
  have hnow : u.actCond n = (chanStep n t).actCond n := (h.cond n).trans ((chanStep_leaves n t).asked.actCond n).symm
  rw [conduct_eq h hc hu, hv, hnow, ← hcond, ← hot]
  exact chanStep_ph_of_peak (by rw [h.length]; exact hn) ((congrArg ActCh.ph hc :).trans hph)

section
variable (hph : (s.ach n).ph = .off)
include hph

theorem channel_of_unasked (hm : (u.actAsks n && !(s.ach n).chOt && !(s.ach n).dutyHold) = false) :
    (u.ach n).ph = .off ∧ (u.ach n).wait = .none := by
  have hv : (u.ach n).ph = ((chanStep n t).ach n).ph := (congrArg ActCh.ph hu :)
  have hw : (u.ach n).wait = ((chanStep n t).ach n).wait := (congrArg ActCh.wait hu :)
  rw [conduct_eq h hc hu] at hm
  rw [hv, hw]
  exact chanStep_of_off_unasked (by rw [h.length]; exact hn) ((congrArg ActCh.ph hc :).trans hph) hm

/-- R237: a channel that is off and asked to conduct comes to its gates. -/
theorem channel_of_asked (hm : (u.actAsks n && !(s.ach n).chOt && !(s.ach n).dutyHold) = true) :
    ∃ t', MidPeriod s t' u ∧ (t'.ach n).ph = .off ∧ (t'.ach n).offReady = (s.ach n).offReady ∧
      (u.ach n).driven = ((gates n t').ach n).driven := by
  have hln : n < t.act.ch.length := by rw [h.length]; exact hn
  have hoff : (t.ach n).ph = .off := (congrArg ActCh.ph hc :).trans hph
  have hready : (t.ach n).offReady = (s.ach n).offReady := (congrArg ActCh.offReady hc :)
  rw [conduct_eq h hc hu] at hm
  exact ⟨_, h.of_leaves (thermalKept_leaves n t), (thermalKept_ph hln).trans hoff, by rw [thermalKept_ach hln]; exact hready,
    by rw [hu, chanStep_of_off_asked hln hoff hm]⟩

end
end

/-! ## A channel at its gates (R238, R240, R241, R243) -/

section
variable {s t u : State} {n : Nat} (h : MidPeriod s t u) (hn : n < 32) (hoff : (t.ach n).ph = .off)
  (hu : (u.ach n).driven = ((gates n t).ach n).driven)
include h hn hoff hu

theorem gated_of_minOff (hr : (t.ach n).offReady = false) : (u.ach n).ph = .off ∧ (u.ach n).wait = .minOff := by
  rw [gates_of_minOff (by rw [h.length]; exact hn) hr] at hu
  exact ⟨(congrArg ActCh.ph hu :).trans hoff, (congrArg ActCh.wait hu :)⟩

variable (hr : (t.ach n).offReady = true)
include hr

omit hoff in
theorem gated_of_unpeaked (hm : u.actMode n ≠ 2) : (u.ach n).ph = .on ∧ (u.ach n).wait = .none := by
  rw [gates_of_unpeaked (by rw [h.length]; exact hn) hr (by rw [h.actMode]; exact hm)] at hu
  exact ⟨(congrArg ActCh.ph hu :), (congrArg ActCh.wait hu :)⟩

variable (hm : u.actMode n = 2)
include hm

theorem gated_of_quiet (hq : s.sup.mode = .quiet) :
    (u.ach n).ph = .off ∧ ((u.ach n).wait = .budget ∨ (u.ach n).wait = .quiet) := by
  obtain ⟨w, hg, hw⟩ := gates_of_quiet (by rw [h.length]; exact hn) hr ((h.actMode n).trans hm) (by rw [h.sup]; exact hq)
  rw [hg] at hu
  have hwait : (u.ach n).wait = w := (congrArg ActCh.wait hu :)
  exact ⟨(congrArg ActCh.ph hu :).trans hoff, by rw [hwait]; exact hw⟩

variable (hq : s.sup.mode ≠ .quiet)
include hq

theorem gated_of_boosted (hb : u.cb .act n 0 7 = true) : (u.ach n).ph = .off ∧
    ((u.ach n).wait = .budget ∨ (u.ach n).wait = .slot ∨ (u.ach n).wait = .pairSwitch ∨ (u.ach n).wait = .piConc) := by
  have hb' : t.cb .act n 0 7 = true := by
    rw [← hb, State.cb, State.cb, State.cw, State.cw, h.cfg]
  obtain ⟨hph, hw⟩ := gates_of_boosted (by rw [h.length]; exact hn) hr ((h.actMode n).trans hm) (by rw [h.sup]; exact hq) hb'
  have hwait : (u.ach n).wait = ((gates n t).ach n).wait := (congrArg ActCh.wait hu :)
  exact ⟨(congrArg ActCh.ph hu :).trans (hph.trans hoff), by rw [hwait]; exact hw⟩

variable (hb : u.cb .act n 0 7 = false)
include hb

/-- R232, R241: whether an unboosted pull-in runs is a question of the budget. -/
theorem gated_of_unboosted : if t.loadFits n (u.iHoldMa n) then
      (u.ach n).ph = .peak false ∧ (u.ach n).iPull = u.iPullMa n ∧ (u.ach n).peakEnd = s.chain.now + 12000 * u.af n 2 31 24
    else (u.ach n).ph = .off ∧ (u.ach n).wait = .budget := by
  have hln : n < t.act.ch.length := by rw [h.length]; exact hn
  have hb' : t.cb .act n 0 7 = false := by
    rw [← hb, State.cb, State.cb, State.cw, State.cw, h.cfg]
  have haf : u.af = t.af := by
    unfold State.af State.cf State.cw
    rw [h.cfg]
  rw [gates_of_unboosted hr ((h.actMode n).trans hm) (by rw [h.sup]; exact hq) hb'] at hu
  rw [iHoldMa_congr h.cfg]
  split
  · next hfit =>
    rw [if_pos hfit, startPeak_plain, updCh_ach_self _ _ (dequeue n t) hln] at hu
    refine ⟨(congrArg ActCh.ph hu :), ?_, ?_⟩
    · rw [State.iPullMa, haf]
      exact (congrArg ActCh.iPull hu :)
    · rw [haf, ← h.chain]
      exact (congrArg ActCh.peakEnd hu :)
  · next hfit =>
    rw [if_neg hfit, setWait_ach (s := dequeue n t) hln] at hu
    exact ⟨(congrArg ActCh.ph hu :).trans hoff, (congrArg ActCh.wait hu :)⟩

/-- R241: where no other channel is a fixed load the holding current is held against the limits alone. -/
theorem gated_of_alone (hone : ∀ j, j < 32 → j ≠ n → s.actMode j ≠ 2 ∧ s.floatPair (j / 2) = false) :
    (u.ach n).ph = if u.iHoldMa n ≤ u.bankLim ∧ u.iHoldMa n ≤ u.devLim then .peak false else .off := by
  have hpair : t.floatPair = s.floatPair := by unfold State.floatPair; rw [h.mode]
  have halone (j : Nat) (hj : j < 32) : t.fixedLoad j = 0 := by
    by_cases hjn : j = n
    · subst hjn
      exact fixedLoad_of_off hoff
    · obtain ⟨h2, hf⟩ := hone j hj hjn
      exact fixedLoad_of_plain (by rw [h.mode]; exact h2) (by rw [hpair]; exact hf)
  have hg := gated_of_unboosted h hn hoff hu hr hm hq hb
  rw [loadFits_of_alone hn _ halone, ← bankLim_congr h.cfg, ← devLim_congr h.cfg] at hg
  by_cases hfit : u.iHoldMa n ≤ u.bankLim ∧ u.iHoldMa n ≤ u.devLim
  · rw [if_pos (by simpa using hfit)] at hg
    rw [if_pos hfit]
    exact hg.1
  · rw [if_neg (by simpa using hfit)] at hg
    rw [if_neg hfit]
    exact hg.1

end

end Sys2Proof.Machine

namespace Sys2Proof.Machine

/-! PROOFS. The statement on PWM periods, from its parts (R237). -/

/-! ## The current of a channel (R230, R232, R234, R235, R241) -/

section
variable {c d : ActCh}

theorem ActCh.dithPh_of_fresh (h : c.fresh = d.fresh) : c.dithPh = d.dithPh := (congrArg ActCh.dithPh h :)
theorem ActCh.dithPh_of_given (h : c.given = d.given) : c.dithPh = d.dithPh := (congrArg ActCh.dithPh h :)
theorem ActCh.dithPh_of_unbooked (h : c.unbooked = d.unbooked) : c.dithPh = d.dithPh := (congrArg ActCh.dithPh h :)
theorem ActCh.iSet_of_unnoted (h : c.unnoted = d.unnoted) : c.iSet = d.iSet := (congrArg ActCh.iSet h :)
theorem ActCh.scaled_of_unnoted (h : c.unnoted = d.unnoted) : c.scaled = d.scaled := (congrArg ActCh.scaled h :)

end

section
variable {s : State} (raw : List Nat) (hrel : s.released = true) (hp : s.clk.pllLocked = true) (hl : s.act.ch.length = 32)
include hrel hp hl

/-- R241: the period allocates the current on the channels as it leaves them. -/
theorem pwmPeriod_allocated {n : Nat} (hn : n < 32) : ∃ t, Leaves ActCh.driven t (pwmPeriod raw s) ∧
    (t.ach n).dithPh = (s.ach n).dithPh ∧
    ((pwmPeriod raw s).ach n).iSet = t.iTarget n ((pwmPeriod raw s).share n) ∧
    ((pwmPeriod raw s).ach n).scaled = (decide ((pwmPeriod raw s).share n < 1) && ((pwmPeriod raw s).ach n).ph == .on &&
      ((pwmPeriod raw s).actMode n == 1 || (pwmPeriod raw s).actMode n == 3)) := by
  have hev := pwmEvaluate_leaves (pwmFresh_length raw hl)
  have hbook := pwmBook_leaves (pwmEvaluate (pwmFresh raw s))
  have hlen : (pwmBook (pwmEvaluate (pwmFresh raw s))).act.ch.length = 32 :=
    hbook.length.trans (hev.length.trans (pwmFresh_length raw hl))
  have hdith : ((pwmBook (pwmEvaluate (pwmFresh raw s))).ach n).dithPh = (s.ach n).dithPh :=
    calc
      _ = ((pwmEvaluate (pwmFresh raw s)).ach n).dithPh := ActCh.dithPh_of_unbooked (hbook.ach n)
      _ = ((pwmFresh raw s).ach n).dithPh := ActCh.dithPh_of_given (hev.ach n)
      _ = (s.ach n).dithPh := ActCh.dithPh_of_fresh (pwmFresh_fresh raw s n)
  rw [pwmPeriod_eq raw hrel hp]
  generalize pwmBook (pwmEvaluate (pwmFresh raw s)) = t at hlen hdith
  have hd : Leaves ActCh.driven t (pwmNote (allocate t)) :=
    ((allocate_leaves t).mono fun _ _ => ActCh.driven_of_unallocated).trans
      ((pwmNote_leaves _).mono fun _ _ => ActCh.driven_of_unnoted)
  have hn' := (pwmNote_leaves (allocate t)).ach n
  refine ⟨t, hd, hdith, ?_, ?_⟩
  · rw [hd.share, ActCh.iSet_of_unnoted hn', allocate_ach hn hlen]
  · rw [hd.share, hd.ph, hd.actMode, ActCh.scaled_of_unnoted hn', allocate_ach hn hlen]

end

section
variable {s t u : State} {n : Nat} {k : Rat} (h : Leaves ActCh.driven t u)
include h

theorem iTarget_of_peak (hpk : (u.ach n).inPeak = true) : t.iTarget n k = ((u.ach n).iPull : Rat) := by
  have hi : (u.ach n).iPull = (t.ach n).iPull := (congrArg ActCh.iPull (h.ach n) :)
  rw [h.inPeak, ActCh.inPeak] at hpk
  unfold State.iTarget
  rw [hi]
  cases hph : (t.ach n).ph <;> simp [hph] at hpk ⊢

theorem iTarget_of_rest (hr : (u.ach n).ph = .off ∨ (u.ach n).ph = .decay) : t.iTarget n k = 0 := by
  rw [h.ph] at hr
  unfold State.iTarget
  rcases hr with hr | hr <;> simp only [hr]

variable (hon : (u.ach n).ph = .on)
include hon

theorem iTarget_of_hold (hm : u.actMode n = 2) : t.iTarget n k = (u.iHoldMa n : Rat) := by
  rw [h.ph] at hon
  rw [h.actMode] at hm
  unfold State.iTarget
  simp only [hon, hm, iHoldMa_congr h.cfg]

theorem iTarget_of_thermal (hm : u.actMode n = 3) : t.iTarget n k = u.scalable n * k := by
  rw [h.ph] at hon
  rw [h.actMode] at hm
  unfold State.iTarget
  simp only [hon, hm, h.scalable]

theorem iTarget_of_float (hm : u.actMode n = 4 ∨ u.actMode n = 0) : t.iTarget n k = (u.iMaxMa (n - n % 2) : Rat) := by
  rw [h.ph] at hon
  rw [h.actMode] at hm
  unfold State.iTarget
  rcases hm with hm | hm <;> simp only [hon, hm, iMaxMa_congr h.cfg]

/-- R230, R231: the dither of a proportional channel runs by the building's phase, or freely as it stood. -/
theorem iTarget_of_prop (hm : u.actMode n = 1) (hd : (t.ach n).dithPh = (s.ach n).dithPh) : t.iTarget n k =
    u.scalable n * k * (1 + (u.af n 4 7 0 : Rat) / 1000 *
      ditherWave (u.cb .act n 4 30) (if u.cb .act n 4 31 then u.dithPhase n else ((s.ach n).dithPh : Rat) / 20000)) := by
  have hcb : u.cb = t.cb := by
    funext sec i w b
    rw [State.cb, State.cb, State.cw, State.cw, h.cfg]
  have hph : t.dithPhase n = if u.cb .act n 4 31 then u.dithPhase n else ((s.ach n).dithPh : Rat) / 20000 := by
    unfold State.dithPhase
    rw [hcb, h.af, h.chain, hd]
    split <;> simp [*]
  rw [h.ph] at hon
  rw [h.actMode] at hm
  unfold State.iTarget
  simp only [hon, hm]
  rw [hph, h.scalable, h.af, hcb]

end

/-! ## A FLOAT pair (R235, R236) -/

theorem flChannel_half (k : Nat) (dir : Bool) : flChannel k dir / 2 = k := by
  unfold flChannel
  split <;> omega

section
variable {t u : State} {k : Nat} (hu : ∀ m, m / 2 = k → (u.ach m).driven = (t.ach m).driven)
include hu

theorem stopped_of_driven (h : t.stopped k) : u.stopped k := by
  have he := hu (2 * k) (by omega)
  have ho := hu (2 * k + 1) (by omega)
  obtain ⟨hdir, hph, hph', hw, hw'⟩ := h
  exact ⟨(congrArg ActCh.flDir he :).trans hdir, fun hon => hph ((congrArg ActCh.ph he :).symm.trans hon),
    fun hon => hph' ((congrArg ActCh.ph ho :).symm.trans hon), (congrArg ActCh.wait he :).trans hw,
    (congrArg ActCh.wait ho :).trans hw'⟩

theorem ph_of_driven {m : Nat} (hm : m / 2 = k) : (u.ach m).ph = (t.ach m).ph := (congrArg ActCh.ph (hu m hm) :)

theorem oneOff_of_driven (h : t.oneOff k) : u.oneOff k :=
  h.imp (fun hoff => (ph_of_driven hu (by omega)).trans hoff) fun hoff => (ph_of_driven hu (by omega)).trans hoff

theorem starts_of_driven {s : State} {dir : Bool} (hcfg : u.cfg = t.cfg) (h : s.Starts k dir t) : s.Starts k dir u := by
  have he := hu (2 * k) (by omega)
  have hn := hu (flChannel k dir) (flChannel_half k dir)
  have hdir : (u.ach (2 * k)).flDir = (t.ach (2 * k)).flDir := (congrArg ActCh.flDir he :)
  have hover : (u.ach (2 * k)).flOver = (t.ach (2 * k)).flOver := (congrArg ActCh.flOver he :)
  have hph : (u.ach (flChannel k dir)).ph = (t.ach (flChannel k dir)).ph := (congrArg ActCh.ph hn :)
  have hw : (u.ach (flChannel k dir)).wait = (t.ach (flChannel k dir)).wait := (congrArg ActCh.wait hn :)
  unfold State.Starts
  rw [hdir, hover, hph, hw, iMaxMa_congr hcfg, bankLim_congr hcfg, devLim_congr hcfg]
  exact h

end

end Sys2Proof.Machine

namespace Sys2Proof.Machine

/-! PROOFS. The obligation on PWM periods, from its parts (R237). -/

/-! ## The readings and conditions of a period (R136, R237, R245) -/

theorem ActCh.iMeas_of_through {c d : ActCh} (h : c.through = d.through) : c.iMeas = d.iMeas := (congrArg ActCh.iMeas h :)

section
variable {s : State} (raw : List Nat) (hrel : s.released = true) (hp : s.clk.pllLocked = true) (hl : s.act.ch.length = 32)
include hrel hp hl

theorem pwmPeriod_iMeas {n : Nat} (hn : n < 32) :
    ((pwmPeriod raw s).ach n).iMeas = senseCorrect (nth s.stone.agerr n) (nth raw n) :=
  (ActCh.iMeas_of_through ((pwmPeriod_through raw hrel hp hl).ach n)).trans (pwmFresh_iMeas raw hl hn)

/-- What the period leaves of a channel and its live fields leave too. -/
theorem pwmPeriod_kept {β : Type} (π : ActCh → β) (hthrough : ∀ c, π c.through = π c) (hfresh : ∀ c, π c.fresh = π c) (n : Nat) :
    π ((pwmPeriod raw s).ach n) = π (s.ach n) := by
  rw [← hthrough, (pwmPeriod_through raw hrel hp hl).ach, hthrough, ← hfresh, pwmFresh_fresh, hfresh]

theorem pwmPeriod_ovr {n : Nat} (hn : n < 32) : ((pwmPeriod raw s).ach n).ovr =
    ((pwmPeriod raw s).actCond n != 0 || ((pwmPeriod raw s).ach n).chOt ||
      ((pwmPeriod raw s).floatPair (n / 2) && ((pwmPeriod raw s).ach (n ^^^ 1)).chOt)) := by
  rw [Bool.or_assoc]
  exact congrArg Prod.snd (pwmPeriod_override raw hrel hp hl hn)

theorem pwmPeriod_noted : (pwmPeriod raw s).stone.agerr = s.coefs.act ∧
    Noted { s with act := (pwmPeriod raw s).act,
                   stone := { s.stone with agerr := (pwmPeriod raw s).stone.agerr },
                   cfg := { s.cfg with inForce := (pwmPeriod raw s).cfg.inForce } } (pwmPeriod raw s) := by
  obtain ⟨img, ch, hf⟩ := pwmFresh_frame raw s
  obtain ⟨⟨-, a, e, b, hu⟩, -⟩ := pwmPeriod_through raw hrel hp hl
  rw [hu, hf]
  exact ⟨rfl, e, b, rfl⟩

end

/-! ## A FLOAT pair (R235, R236) -/

section
variable {s t u : State} {k : Nat} (h : MidPeriod s t u) (hc : ∀ m, m / 2 = k → (t.ach m).fresh = (s.ach m).fresh)
include hc

theorem floatReady_of_fresh (dir : Bool) : t.floatReady k dir ↔ s.floatReady k dir := by
  have hn := hc _ (flChannel_half k dir)
  have hn' := hc _ (flChannel_half k !dir)
  have hph : (t.ach (flChannel k dir)).ph = (s.ach (flChannel k dir)).ph := (congrArg ActCh.ph hn :)
  have hot : (t.ach (flChannel k dir)).chOt = (s.ach (flChannel k dir)).chOt := (congrArg ActCh.chOt hn :)
  have hoff : (t.ach (flChannel k dir)).offReady = (s.ach (flChannel k dir)).offReady := (congrArg ActCh.offReady hn :)
  have hph' : (t.ach (flChannel k !dir)).ph = (s.ach (flChannel k !dir)).ph := (congrArg ActCh.ph hn' :)
  have hrev : (t.ach (flChannel k !dir)).flRevOk = (s.ach (flChannel k !dir)).flRevOk := (congrArg ActCh.flRevOk hn' :)
  rw [State.floatReady, State.floatReady, hph, hot, hoff, hph', hrev]

include h

/-- R235: a drive that starts from the pair's turn starts from the state the period finds. -/
theorem MidPeriod.starts {dir : Bool} (hs : t.Starts k dir u) : s.Starts k dir u := by
  have hpair : t.floatPair = s.floatPair := by unfold State.floatPair; rw [h.mode]
  unfold State.Starts at hs ⊢
  rwa [floatReady_of_fresh hc, h.mode, hpair] at hs

end

/-- A FLOAT pair takes its turn in t, in the PWM period from s to u. -/
structure PairTurn (s t u : State) (k : Nat) : Prop where
  mid : MidPeriod s t u
  pair : k < 16
  fresh : ∀ m, m / 2 = k → (t.ach m).fresh = (s.ach m).fresh
  flSync : ∀ m, m / 2 = k → (s.ach m).flSync = true → (t.ach m).flSync = true
  driven : ∀ m, m / 2 = k → (u.ach m).driven = ((floatControl k t).ach m).driven

namespace PairTurn

variable {s t u : State} {k : Nat} (h : PairTurn s t u k)
include h

theorem length : 2 * k + 1 < t.act.ch.length := by
  have := h.pair
  rw [h.mid.length]
  omega

theorem even : (t.ach (2 * k)).fresh = (s.ach (2 * k)).fresh := h.fresh _ (by omega)

theorem flDir : (t.ach (2 * k)).flDir = (s.ach (2 * k)).flDir := (congrArg ActCh.flDir h.even :)

theorem flX : (t.ach (2 * k)).flX = (s.ach (2 * k)).flX := (congrArg ActCh.flX h.even :)

theorem flOver : (t.ach (2 * k)).flOver = (s.ach (2 * k)).flOver := (congrArg ActCh.flOver h.even :)

theorem dutyHold : (t.ach (2 * k)).dutyHold = (s.ach (2 * k)).dutyHold := (congrArg ActCh.dutyHold h.even :)

theorem ph {m : Nat} (hm : m / 2 = k) : (t.ach m).ph = (s.ach m).ph := (congrArg ActCh.ph (h.fresh m hm) :)

theorem af : u.af = t.af := by
  unfold State.af State.cf State.cw
  rw [h.mid.cfg]

theorem flX_after : (u.ach (2 * k)).flX = ((floatControl k t).ach (2 * k)).flX :=
  (congrArg ActCh.flX (h.driven (2 * k) (by omega)) :)

theorem flDir_after : (u.ach (2 * k)).flDir = ((floatControl k t).ach (2 * k)).flDir :=
  (congrArg ActCh.flDir (h.driven (2 * k) (by omega)) :)

theorem flSync_after : (u.ach (2 * k)).flSync = ((floatControl k t).ach (2 * k)).flSync :=
  (congrArg ActCh.flSync (h.driven (2 * k) (by omega)) :)

theorem stopped (hs : (floatControl k t).stopped k) : u.stopped k := stopped_of_driven h.driven hs

theorem starts {dir : Bool} (hs : t.Starts k dir (floatControl k t)) : s.Starts k dir u :=
  have hl : 2 * k < t.act.ch.length := by have := h.length; omega
  h.mid.starts h.fresh (starts_of_driven h.driven (h.mid.cfg.trans (floatControl_leaves hl).cfg.symm) hs)

/-- R235: the position follows the drive. -/
theorem flX_moves : (u.ach (2 * k)).flX = t.floatX k := h.flX_after.trans (floatControl_flX h.length)

/-- R235, R236: a pair stays in need of a resync, and comes to need one where a condition turns it off. -/
theorem flSync_of (hs : 3 ≤ u.actCond (2 * k) ∨ (s.ach (2 * k)).flSync = true) : (u.ach (2 * k)).flSync = true := by
  rw [h.flSync_after, floatControl_flSync h.length, ← h.mid.cond]
  rcases hs with hs | hs
  · simp [hs]
  · simp [h.flSync _ (by omega) hs]

theorem oneOff (ho : s.oneOff k) : u.oneOff k :=
  oneOff_of_driven h.driven (floatControl_oneOff h.length
    (ho.imp (fun hoff => (h.ph (by omega)).trans hoff) fun hoff => (h.ph (by omega)).trans hoff))

theorem stopped_of_unasked (hn : u.actWant (2 * k) = none ∨ (s.ach (2 * k)).dutyHold = true) : u.stopped k :=
  h.stopped (floatControl_stopped h.length (by rwa [← h.mid.want, h.dutyHold]))

section
variable {r : Nat} (hd : (s.ach (2 * k)).dutyHold = false) (hw : u.actWant (2 * k) = some r)
include hd hw

theorem of_sync (hs : (u.ach (2 * k)).flSync = true) :
    ((s.ach (2 * k)).flDir = some true → u.stopped k) ∧
    ((s.ach (2 * k)).flDir = some false → (u.ach (2 * k)).flDir = some false) ∧
    ((s.ach (2 * k)).flDir = none → s.Starts k false u) := by
  rw [h.flSync_after] at hs
  obtain ⟨hopen, hclose, hstill⟩ := floatControl_of_sync h.length ((h.mid.want _).symm.trans hw) (h.dutyHold.trans hd) h.pair hs
  rw [h.flDir] at hopen hclose hstill
  exact ⟨fun hdir => h.stopped (hopen hdir), fun hdir => h.flDir_after.trans (hclose hdir), fun hdir => h.starts (hstill hdir)⟩

variable (hs : (u.ach (2 * k)).flSync = false)
include hs

theorem of_moving {d : Bool} (hdir : (s.ach (2 * k)).flDir = some d) {y b : Rat} (hy : y = (r : Rat) / 65536)
    (hb : b = (u.af (2 * k) 3 4 0 : Rat) / 100) :
    let stops := flStops d (s.ach (2 * k)).flOver (u.ach (2 * k)).flX y b
    (stops = true → u.stopped k) ∧
    (¬stops = true → (u.ach (2 * k)).flDir = some d ∧ ∀ m, m / 2 = k → (u.ach m).ph = (s.ach m).ph) := by
  rw [h.flSync_after] at hs
  obtain ⟨hstop, hrun⟩ := floatControl_of_moving h.length ((h.mid.want _).symm.trans hw) (h.dutyHold.trans hd) hs
    (h.flDir.trans hdir)
  rw [hy, hb, h.flX_after, h.af, ← h.flOver]
  refine ⟨fun hstops => h.stopped (hstop hstops), fun hstops => ?_⟩
  obtain ⟨hdir', hph⟩ := hrun hstops
  exact ⟨h.flDir_after.trans hdir', fun m hm => (ph_of_driven h.driven hm).trans ((hph m).trans (h.ph hm))⟩

theorem of_still (hdir : (s.ach (2 * k)).flDir = none) {y b : Rat} (hy : y = (r : Rat) / 65536)
    (hb : b = (u.af (2 * k) 3 4 0 : Rat) / 100) :
    (b < y - (s.ach (2 * k)).flX → s.Starts k true u) ∧
    (b < (s.ach (2 * k)).flX - y → s.Starts k false u) ∧
    (y - (s.ach (2 * k)).flX ≤ b → (s.ach (2 * k)).flX - y ≤ b →
      (u.ach (2 * k)).flDir = none ∧ ∀ m, m / 2 = k → (u.ach m).ph = (s.ach m).ph) := by
  have hb0 : 0 ≤ b := by rw [hb]; positivity
  rw [h.flSync_after] at hs
  rw [h.af] at hb
  obtain ⟨hopen, hclose, hrest⟩ := floatControl_of_still h.length ((h.mid.want _).symm.trans hw) (h.dutyHold.trans hd) h.pair hs
    (h.flDir.trans hdir) hy hb h.flX.symm
  refine ⟨fun ho => h.starts (hopen ho), fun hc => h.starts (hclose (by linarith) hc), fun ho hc => ?_⟩
  obtain ⟨hdir', hph⟩ := hrest (not_lt.mpr ho) (not_lt.mpr hc)
  exact ⟨h.flDir_after.trans hdir', fun m hm => (ph_of_driven h.driven hm).trans ((hph m).trans (h.ph hm))⟩

end

end PairTurn

theorem pwmPeriod_turn {s : State} (raw : List Nat) {k : Nat} (hrel : s.released = true) (hp : s.clk.pllLocked = true)
    (hl : s.act.ch.length = 32) (hk : k < 16) (hf : s.floatPair k = true) : ∃ t, PairTurn s t (pwmPeriod raw s) k := by
  obtain ⟨t, hm, hpair⟩ := pwmPeriod_pair raw hrel hp hl hk hf
  exact ⟨t, hm, hk, fun m hmk => (hpair m hmk).1, fun m hmk => (hpair m hmk).2.1, fun m hmk => (hpair m hmk).2.2⟩

end Sys2Proof.Machine

namespace Sys2Proof.Machine

/-! PROOFS. The obligation on PWM periods (R237). -/

/-- R241: the factor by which the scalable loads share what the fixed loads leave. -/
def shareFactor (lim fixed : Nat) (scaled : Rat) : Rat :=
  if scaled = 0 then 1 else clampQ (((lim : Int) - (fixed : Int) : Int) / scaled) 0 1

theorem bankFactor_eq (s : State) (b : Nat) : s.bankFactor b =
    shareFactor s.bankLim ((List.range 4).map (fun i => s.fixedLoad (4 * b + i))).sum
      ((List.range 4).map (fun i => s.scalable (4 * b + i))).sum := rfl

theorem share_eq (s : State) (n : Nat) : s.share n =
    s.bankFactor (n / 4) * shareFactor s.devLim ((List.range 32).map s.fixedLoad).sum
      ((List.range 32).map (fun n => s.bankFactor (n / 4) * s.scalable n)).sum := by
  rw [State.share, devFactor_banks]
  rfl

section
variable {s : State} (raw : List Nat) (hrel : s.released = true) (hp : s.clk.pllLocked = true) (hl : s.act.ch.length = 32)
include hrel hp hl

/-- R241: the current of a channel, by its phase, its mode, and its share of what the fixed loads leave. -/
theorem pwmPeriod_current {n : Nat} (hn : n < 32) :
    let u := pwmPeriod raw s
    let v := u.ach n
    let phase := if u.cb .act n 4 31 then u.dithPhase n else ((s.ach n).dithPh : Rat) / 20000
    v.scaled = decide (u.share n < 1 ∧ v.ph = .on ∧ (u.actMode n = 1 ∨ u.actMode n = 3)) ∧
    (v.inPeak = true → v.iSet = (v.iPull : Rat)) ∧
    (v.ph = .off ∨ v.ph = .decay → v.iSet = 0) ∧
    (v.ph = .on → u.actMode n = 1 → v.iSet =
      u.scalable n * u.share n * (1 + (u.af n 4 7 0 : Rat) / 1000 * ditherWave (u.cb .act n 4 30) phase)) ∧
    (v.ph = .on → u.actMode n = 2 → v.iSet = (u.iHoldMa n : Rat)) ∧
    (v.ph = .on → u.actMode n = 3 → v.iSet = u.scalable n * u.share n) ∧
    (v.ph = .on → u.actMode n = 4 ∨ u.actMode n = 0 → v.iSet = (u.iMaxMa (n - n % 2) : Rat)) := by
  obtain ⟨t, ht, hd, hset, hsc⟩ := pwmPeriod_allocated raw hrel hp hl hn
  intro u v phase
  refine ⟨?_, fun h => hset.trans (iTarget_of_peak ht h), fun h => hset.trans (iTarget_of_rest ht h),
    fun h h1 => hset.trans (iTarget_of_prop ht h h1 hd), fun h h2 => hset.trans (iTarget_of_hold ht h h2),
    fun h h3 => hset.trans (iTarget_of_thermal ht h h3), fun h h4 => hset.trans (iTarget_of_float ht h h4)⟩
  rw [hsc]
  simp [u, v, Bool.decide_and, Bool.decide_or, beq_eq_decide, Bool.and_assoc]

end

/-- The statement reads the raw means as a list of rationals, which is their list with each one cast. -/
theorem nth_cast (l : List Nat) (n : Nat) : nth (do let a ← l; pure (a : Rat)) n = ((nth l n : Nat) : Rat) := by
  have hmap : (do let a ← l; pure (a : Rat)) = l.map Nat.cast := bind_pure_comp Nat.cast l
  rw [hmap, nth, nth, List.getD_eq_getElem?_getD, List.getD_eq_getElem?_getD, List.getElem?_map]
  cases l[n]? <;> rfl

/-- Settles O22: a period takes readings and conditions, gives each channel or FLOAT pair its turn, and allocates on what
its turns leave. -/
theorem pwmPeriods : Obligations.PwmPeriods := by
  refine ⟨fun s raw hrel hp hl => ⟨pwmPeriod raw s, rfl, ?_⟩, fun s raw hrel hp hl => ⟨pwmPeriod raw s, rfl, ?_, ?_⟩,
    fun s raw k hrel hp hl hk hf => ⟨pwmPeriod raw s, rfl, ?_⟩⟩
  · refine ⟨fun n hn => ⟨?_, ?_, pwmPeriod_ovr raw hrel hp hl hn, ?_⟩, pwmPeriod_noted raw hrel hp hl⟩
    · rw [nth_cast]
      exact pwmPeriod_iMeas raw hrel hp hl hn
    · exact congrArg Prod.fst (pwmPeriod_override raw hrel hp hl hn)
    · exact ⟨pwmPeriod_kept raw hrel hp hl ActCh.shortSup (fun _ => rfl) (fun _ => rfl) n,
        pwmPeriod_kept raw hrel hp hl ActCh.chOt (fun _ => rfl) (fun _ => rfl) n,
        pwmPeriod_kept raw hrel hp hl ActCh.req (fun _ => rfl) (fun _ => rfl) n⟩
  · intro n hn hf c v conduct
    obtain ⟨t, hm, hc, hu⟩ := pwmPeriod_channel raw hrel hp hl hn hf
    refine ⟨channel_of_on hm hc hu hn, channel_of_decay hm hc hu hn, fun b => channel_of_peak hm hc hu hn,
      channel_of_unasked hm hc hu hn, fun hph hask hr => ?_, fun hph hask hr h2 => ?_, fun hph hask hr h2 => ?_⟩ <;>
    obtain ⟨t', hm', hoff, hready, hu'⟩ := channel_of_asked hm hc hu hn hph hask <;>
    rw [← hready] at hr
    · exact gated_of_minOff hm' hn hoff hu' hr
    · exact gated_of_unpeaked hm' hn hu' hr h2
    · refine ⟨gated_of_quiet hm' hn hoff hu' hr h2, gated_of_boosted hm' hn hoff hu' hr h2, fun hq hb => ?_,
        gated_of_alone hm' hn hoff hu' hr h2⟩
      have hg := gated_of_unboosted hm' hn hoff hu' hr h2 hq hb
      split at hg
      · exact .inr hg
      · exact .inl hg
  · intro load held factor kb kd n hn v k phase
    have hload : load = (pwmPeriod raw s).scalable := funext fun n => (scalable_eq _ n).symm
    have hheld : held = (pwmPeriod raw s).fixedLoad := funext fun n => (fixedLoad_eq _ n).symm
    have hkb : kb = (pwmPeriod raw s).bankFactor := by
      funext b
      simp only [kb, hload, hheld]
      exact (bankFactor_eq _ b).symm
    have hk : k = (pwmPeriod raw s).share n := by
      simp only [k, kd, hkb, hload, hheld]
      exact (share_eq _ n).symm
    obtain ⟨hsc, hpeak, hrest, hprop, hhold, htherm, hfloat⟩ := pwmPeriod_current raw hrel hp hl hn
    rw [hk, hload]
    exact ⟨hsc, hpeak, hrest, hprop, hhold, htherm, fun hon _ => hfloat hon⟩
  · obtain ⟨t, h⟩ := pwmPeriod_turn raw hrel hp hl hk hf
    generalize pwmPeriod raw s = u at h
    intro v w step b stopped starts
    refine ⟨?_, fun hs => h.flSync_of (.inl hs), fun hs => h.flSync_of (.inr hs), h.oneOff, h.stopped_of_unasked,
      fun hd r hw => ⟨h.of_sync hd hw, fun hs hdir => ?_, fun hs hdir => ?_, fun hs hdir => ?_⟩⟩
    · rw [h.flX_moves]
      simp only [State.floatX, State.flStep, h.flDir, h.flX, ← h.af] <;> rfl
    · obtain ⟨hstop, hrun⟩ := h.of_moving hd hw hs hdir rfl rfl
      rw [flStops_open] at hstop hrun
      exact ⟨hstop, fun hr => ⟨(hrun hr).1, (hrun hr).2 (2 * k) (by omega)⟩⟩
    · obtain ⟨hstop, hrun⟩ := h.of_moving hd hw hs hdir rfl rfl
      rw [flStops_close] at hstop hrun
      exact ⟨hstop, fun hr => ⟨(hrun hr).1, (hrun hr).2 (2 * k + 1) (by omega)⟩⟩
    · obtain ⟨hopen, hclose, hrest⟩ := h.of_still hd hw hs hdir rfl rfl
      exact ⟨hopen, hclose, fun ho hc => ⟨(hrest ho hc).1, (hrest ho hc).2 _ (by omega), (hrest ho hc).2 _ (by omega)⟩⟩

end Sys2Proof.Machine
